-- ==== Sys2Proof/Word.lean ====
section
/-! DEFINITION. The words of the Sahath-192 and the plain table of numbered things. -/
namespace Sys2Proof

/-- A byte is 8 bits (Notation of 00_scope.md). -/
abbrev Byte := BitVec 8
/-- A word is 32 bits (Notation of 00_scope.md); records and frames are made of words. -/
abbrev Word := BitVec 32
/-- Things kept under a number, lowest number first; a number that is not listed holds its default. -/
abbrev Tbl (α : Type) := List (Nat × α)
/-- Garnet time: a count of ticks of 1/256 ns (R4). It is a plain number; the device reports its low 72 bits. -/
abbrev Tick := Nat

end Sys2Proof
end

