-- ==== Sys2Proof/Syntax.lean ====
section
/-! DEFINITION. The commands of the block: one constructor per row of opcode_table.json. `t` is the Garnet time, on the count
in force before the command, at which the command reaches the block; further operands say what it carries or what the outside
world shows then.

Readings and choices here: DESIGN CHOICE log 3, log 69. -/
namespace Sys2Proof
/-- What an input pin shows after a crossing: a voltage in µV, or a logic level where the spec gives the pin only one. -/
inductive PinInput where
  | volts (uv : Int)
  | level (high : Bool)
  deriving DecidableEq, Repr
/-- An output that a safe state holds: a guard pin by lane, a Viaduct line, an excitation source 2 × pier + source. -/
inductive OutTarget where
  | guard (lane : Fin 192)
  | line (n : Fin 8)
  | source (k : Fin 48)
  deriving DecidableEq, Repr
/-- A codeword found in error by an access: its place in what is accessed, its internal address, and the error pattern
over its 20 symbols (R281). -/
structure CodeErr where
  cw : Nat
  addr : Nat
  err : List Byte
  deriving DecidableEq, Repr
/-- A decimated count before the slices' trims: the weighted mean of the serving slice's words, and for each slice that served
earlier in the window its own mean and its share of the window's weight in 1/65536 (R115, R126). -/
structure Reading where
  serving : Int
  former : List (Fin 9 × Int × Fin 65537)
  deriving DecidableEq, Repr
/-- What the port reads of a received PTP message: version, messageType, domainNumber, bytes in the frame, messageLength,
end of its last TLV, the two-step flag, the priorities of an Announce's grandmaster, and the last two bytes of the sender's MAC
address (R41, R43, R388). -/
structure PtpMsg where
  version : Nat
  kind : Nat
  domain : Nat
  frameLen : Nat
  length : Nat
  tlvEnd : Nat
  twoStep : Bool
  prio1 : Nat
  prio2 : Nat
  peer : Nat
  deriving DecidableEq, Repr
/-- What the port reads of the TLP that carries a command: the requester or completer ID that the partner fault log enters, and the
first 4 DW of its header (R336, R388). -/
structure Tlp where
  peer : Nat
  h0 : Word
  h1 : Word
  h2 : Word
  h3 : Word
  deriving DecidableEq, Repr
/-- The PCI Express errors of R335 Table 7 that a request, a completion or the link shows the port. -/
inductive PortError where
  | receiver | badTlp | badDllp | replayTimeout | replayRollover | correctedInternal | headerOverflow | advisory
  | poisoned | completionTimeout | completerAbort | unexpected | unsupported | malformed | overflow | flowControl
  | dataLink | internal
  deriving DecidableEq, Repr
/-- A unit of R410 Table 11 that sleeps while it is not in use. -/
inductive WakeUnit where
  | tdc (pier : Fin 24)
  | slice (n : Fin 216)
  | engine (n : Fin 16)
  | dram (channel : Fin 2)
  | port (n : Fin 2)
  | fro
  deriving DecidableEq, Repr
/-- What the device reads of a CDP message besides its operation and body (R374): the port, the last two bytes of the
sender's MAC address, bytes of the UDP payload beyond header, body words and tag, VERSION, whether a reserved bit is set, the
five flags, SESSION, LENGTH, SEQ, DST_CHIP, SRC_CHIP, GEN and GUARD_LANE; its tag (R379); and whether an
access into what a PWR write of the body would turn off is outstanding (R403). -/
structure CdpHdr where
  port : Fin 2
  peer : Nat
  extra : Nat
  version : Nat
  reserved : Bool
  more : Bool
  auth : Bool
  guard : Bool
  abort : Bool
  response : Bool
  session : Nat
  length : Nat
  seq : Nat
  dst : Nat
  src : Nat
  gen : Nat
  guardLane : Nat
  tag : Nat
  busy : Bool
  deriving DecidableEq, Repr
/-- Where a frame is addressed (R370): this device, every or several stations, another station. -/
inductive EthDst where
  | mine | group | other
  deriving DecidableEq, Repr
/-- What a frame carries, as far as the device acts on it (R41, R44, R370 to R373, R388): a PTP message, handed to the PTP engine
by a command of its own; its own ring test frame; an ESMC PDU with a quality level; an ARP request (0), a neighbour
solicitation (1) for one of its addresses, an echo request of IPv4 (2) or IPv6 (3); a CDP datagram on its UDP port that is
malformed at a byte position, or whose operation and first body byte no command names; a CDP datagram that a command of its
own carries; anything else. -/
inductive EthBody where
  | ptp
  | ringTest
  | esmc (level : Nat)
  | request (what : Fin 4)
  | cdpMalformed (peer pos : Nat)
  | cdpOther (hdr : CdpHdr) (op : Nat) (body : List Word)
  | cdp
  | other
  deriving DecidableEq, Repr

/-- A command of the block; each docstring names the rule of the row. -/
inductive Instr where
  /-- R438. VAON rises above 0.70 V, or stays below it for 1 µs, and the device resets and begins start-up at step 1. -/
  | powerOn (t : Nat) (resetN : Bool) (straps : Fin 16)
  /-- R438. RESET_N held low for at least 10 µs resets the device; defaults return and start-up restarts. -/
  | resetNAssert (t : Nat)
  /-- R444. A start-up step completes; START.STEP_END and START.RESULT are recorded and the next step begins. -/
  | startUpStepEnd (t : Nat) (faults : Fin 8) (channels : Fin 3) (rate : Fin 5) (xbEdge sroEdge : Nat)
  /-- R72. The VCORE or VAON brown-out detector trips and the safe state is applied to guard, Viaduct and excitation
  outputs. -/
  | brownOut (t : Nat) (aon : Bool)
  /-- R454. A rail monitor finds its rail more than 5 % low for 10 µs; its bit in DIAG.RAIL_LOW sets and
  DIAG.RAIL_EVENTS increments. -/
  | railLow (t : Nat) (rail : Fin 7)
  /-- R394. An oscillator's start-up delay expires and its monitor's first check passes or fails; on failure the
  source is restarted with the full delay. -/
  | sourceReady (t : Nat) (src : Fin 6) (pass : Bool) (xbEdge sroEdge : Nat)
  /-- R395. A loop declares lock, in native or fixed-time mode. -/
  | pllLock (t : Nat) (l : Fin 5) (inFlight hanging : Nat)
  /-- R399. A clock monitor declares a source failed or a loop out of lock, and the response of Table 5 is applied. -/
  | clockFailure (t : Nat) (code : Fin 12) (stopped : Bool) (xbEdge sroEdge inFlight hanging : Nat)
  /-- R402. FRO is not READY 80 µs after the failure; Opal moves to SRO and crossings into held domains are
  reinitialised. -/
  | safeHoldEntry (t inFlight hanging : Nat)
  /-- R402. In SAFE_HOLD, FRO is restarted every 1 ms and XA every CLK.XA_STARTUP + 1,000 µs. -/
  | safeHoldRetry (t : Nat) (xa : Bool)
  /-- R401. At the first slow-clock edge after TPLL locks, the held domains restart in reverse order and the DRAM
  leaves self-refresh. -/
  | domainRelease (t : Nat)
  /-- R401. A permitted reference has stayed READY for CLK.XA_RECOVER with CLK.AUTO_RETURN = 1, and TPLL returns
  hitlessly to it. -/
  | autoReturn (t : Nat)
  /-- R401. A write of CLK.RETURN returns TPLL from FRO to a READY permitted reference. -/
  | clkReturn (t : Nat)
  /-- R397. A write of CLK.OPAL_SRC or SYNCE.REF_SELECT switches the source, or is refused when the source is not
  READY. -/
  | sourceSelectWrite (t : Nat) (opal : Bool) (v : Nat)
  /-- R397. A write of the dangerous CLK.FORCE_SRC forces Opal or the TPLL reference onto a source without a READY
  check. -/
  | forceSrcWrite (t : Nat) (sub : Fin 2) (v : Nat)
  /-- R405. A write of CLK.JASPER_POINT starts an upward or downward change of DVFS point. -/
  | jasperPointWrite (t : Nat) (v : Fin 4)
  /-- R405. The VSEL dwell of an upward change ends; once PGOOD is high, the CPLL divider is changed. -/
  | dvfsDwellEnd (t : Nat)
  /-- R406. PGOOD has not risen within CLK.PGOOD_TIMEOUT; the previous code is restored and CLK.DVFS_FAILS increments. -/
  | pgoodTimeout (t : Nat)
  /-- R406. PGOOD falls at a steady point; Jasper drops to 200 MHz and CLK.PGOOD_LOSSES increments. -/
  | pgoodFall (t : Nat)
  /-- R406. PGOOD rises again after a loss, and the sequencer returns upwards to the target point. -/
  | pgoodRise (t : Nat)
  /-- R407. A write of PWR.CMD commands a device state, subject to the gating refusals of R403. -/
  | pwrCmd (t : Nat) (v : Fin 4) (busy : Bool)
  /-- R407. A write of PWR.PIER_CMD commands a pier's target state. -/
  | pwrPierCmd (t : Nat) (p : Fin 24) (v : Fin 3) (busy : Bool)
  /-- R408. At the first whole microsecond after the write, the device or pier changes state and PIER_STATE records
  are emitted. -/
  | powerStateEffect (t xbEdge sroEdge : Nat)
  /-- R409. An enabled wake source (lane crossing held 10 µs, timer or PERST_N) wakes the device from DORMANT. -/
  | wakeEvent (t : Nat) (cause : Fin 3) (lane : Fin 192)
  /-- R410. A sleeping unit such as a Beryl engine, slice, DRAM channel or Ethernet port wakes on demand. -/
  | unitWake (t : Nat) (u : WakeUnit)
  /-- R14. The 2 s management-processor watchdog expires; the processor restarts from the active slot and CDP sessions
  are dropped. -/
  | watchdogExpiry (t inFlight hanging : Nat)
  /-- R432. An unconfirmed image has run FW.CONFIRM_TIME without a watchdog expiry; CONFIRM is programmed and fuses
  are raised. -/
  | fwConfirm (t : Nat)
  /-- R463. STORE.AGE advances by one hour; the temperature band and life counters update and the retention checks
  run. -/
  | ageHour (t : Nat) (mean : Int)
  /-- R461. The on-die sensor updates DIAG.TJ every 1 ms, with DIAG.TJ_OVER and the high-water mark. -/
  | tjSample (t : Nat) (tj : Word)
  /-- R53. A write of TIME.LOAD_CMD latches the load values and makes a load pending, or is refused while the time
  loader is enabled. -/
  | timeLoadCmd (t : Nat)
  /-- R54. A pending load takes effect; Garnet time is set, the Causeway and Caisson rings are emptied and the epoch
  number increments. -/
  | timeLoadEffect (t : Nat)
  /-- R42. A PTP event or general message is received, timestamped in hardware and processed by the PTP engine and
  servo. -/
  | ptpMessageRx (t : Nat) (port : Fin 2) (m : PtpMsg)
  /-- R45. The announce receipt timeout expires and synchronisation enters NET_HOLDOVER. -/
  | announceTimeout (t : Nat) (port : Fin 2)
  /-- R47. The servo adds or removes one tick in a coarse period and TIME.SLEW_TICKS increments. -/
  | servoSlewTick (t : Nat) (add : Bool)
  /-- R50. A forward step takes effect at a 2^28-tick multiple; open frames close, due buckets release and an EPOCH
  record is emitted. -/
  | forwardStep (t : Nat)
  /-- R48. The servo steps time backward while no stream or sequencer is enabled, starting a new epoch. -/
  | backwardStep (t : Nat)
  /-- R55. A PPS_OUT rising or falling edge falls due and is placed within ±100 ps; pending period, phase and width
  changes apply. -/
  | ppsOutEdge (t : Nat)
  /-- R56. A PPS_IN rising edge is stamped; in mode 1 it enters the Causeway, in mode 2 it disciplines the servo, and
  an AT_PPS_IN load applies. -/
  | ppsInEdge (t base code : Nat)
  /-- R38. At each 2^38-tick interval, FRO, XB and SRO are measured against the reference and the trims updated. -/
  | froMeasurement (t : Nat) (fro xb sro : Int)
  /-- R32. A window of 2^22 calibration hits completes and yields bin widths for the TDC. -/
  | tdcCalWindowEnd (t : Nat) (src : Fin 201) (counts : List Nat)
  /-- R34. A new TDC conversion table takes effect at a 2^38-tick multiple unless frozen. -/
  | tdcTableUpdate (t : Nat)
  /-- R37. A threshold, Viaduct or PPS_IN input crosses its threshold and its TDC stamps the edge or counts it in
  TIME.DP_LOST. -/
  | thresholdEdge (t : Nat) (src : Fin 201) (base code : Nat) (inp : PinInput)
  /-- R37. The blind interval ends and the input level is sampled; a RESAMPLED transition is emitted if it differs. -/
  | tdcResample (t : Nat) (src : Fin 201)
  /-- R61. The deglitch interval of a stamped edge ends; the edge is accepted into the lane buffer or the pair is
  discarded as a glitch. -/
  | deglitchEnd (t : Nat) (src : Fin 201)
  /-- R63. At a sampling instant, once edges up to it are judged, a digital SAMPLE record is built. -/
  | digitalSample (t : Nat) (lane : Fin 192) (instant : Nat)
  /-- R68. The fast window comparator changes zone and an FC TRANSITION record is emitted. -/
  | fcZoneChange (t : Nat) (lane : Fin 192) (pos neg : Int)
  /-- R64. A concentrator takes an event from a lane or line buffer and the Causeway main port admits it. -/
  | eventDelivery (t : Nat) (src : Fin 201) (errs : List CodeErr)
  /-- R65. An event at a buffer head passes its time plus 180 ns unadmitted, is dropped and joins a loss account. -/
  | bufDrop (t : Nat) (src : Fin 201)
  /-- R146. A loss account closes at its start plus 212 ns and a GAP record is placed in the release schedule. -/
  | lossAccountClose (t : Nat) (src : Fin 201)
  /-- R140. A stamp bucket becomes due and its records are released in total order to Keystone and the stream
  assembler. -/
  | causewayRelease (t : Nat) (errs : List CodeErr)
  /-- R228. Garnet time passes base + 1 ms + H + 128 ns and the open frame closes. -/
  | frameAgeClose (t : Nat) (n : Fin 8)
  /-- R228. A write of STREAM.FLUSH closes the open frame with FLUSHED, or counts STREAM.FLUSH_EMPTY. -/
  | streamFlush (t : Nat) (n : Fin 8)
  /-- R159. Keystone processes one released record or relay item: units update, K0–K3 evaluate, and ARM/DISARM actions
  apply. -/
  | keystoneItem (t : Nat)
  /-- R158. A hold, timeout, timer, rate or window deadline falls due and is processed as a Keystone item. -/
  | deadlineItem (t : Nat)
  /-- R205. A queued MARK_OUT message is sent on both Ethernet ports. -/
  | markOutSend (t : Nat)
  /-- R190. A slot's action falls due at t_cause + L; the pin, line or source is updated and its GUARD record stands. -/
  | timedActionExec (t : Nat)
  /-- R197. A pulse's end edge falls due and the target returns to its commanded level with a PULSE_END record. -/
  | pulseEnd (t : Nat) (target : OutTarget)
  /-- R74. A write of GUARD.SAFE_ALL applies the safe state to every guard pin, Viaduct line and excitation source. -/
  | guardSafeAll (t : Nat)
  /-- R73. A write of GUARD.SAFE_RELEASE requests a guard pin's release, or is refused while a cause remains. -/
  | guardSafeRelease (t : Nat) (lane : Fin 192)
  /-- R201. A write of VD.SAFE_RELEASE requests a Viaduct line's release from the safe state. -/
  | vdSafeRelease (t : Nat) (line : Fin 8)
  /-- R94. A write of EX.SAFE_RELEASE requests an excitation source's release from SAFE. -/
  | exSafeRelease (t : Nat) (k : Fin 48)
  /-- R73. At the first whole microsecond after a release, the target takes its commanded level or configured output. -/
  | safeReleaseEffect (t : Nat) (target : OutTarget)
  /-- R92. An excitation source detects an open circuit or compliance; consumer lanes emit STATUS records and flag
  samples SUSPECT. -/
  | exFlagSet (t : Nat) (k : Fin 48) (open_ : Bool) (reading : Int)
  /-- R92. An open or compliance condition has been absent for 1 µs; the flag clears and consumers count settling. -/
  | exFlagClear (t : Nat) (k : Fin 48) (open_ : Bool) (reading : Int)
  /-- R89. An alternating source reverses polarity at an N × 2^k × 250,000-tick multiple. -/
  | exSwap (t : Nat) (k : Fin 48)
  /-- R96. The bias output enters or leaves current limit; biased lanes emit STATUS records. -/
  | biasOverload (t : Nat) (pier : Fin 24) (on : Bool)
  /-- R98. A charge amplifier's output leaves its band and an AUTO reset starts at the next whole nanosecond. -/
  | caAutoTrip (t : Nat) (a : Fin 48) (pre residual : Int)
  /-- R98. A PERIODIC charge-amplifier reset starts at a CA.RESET_PERIOD multiple. -/
  | caPeriodicReset (t : Nat) (a : Fin 48) (pre residual : Int)
  /-- R98. A write of CA.RESET_CMD requests a COMMAND reset at the next release boundary. -/
  | caResetCmd (t : Nat) (a : Fin 48)
  /-- R101. A 200 ns reset ends; 50 ns later the comparator zone is re-reported and settling counts. -/
  | caResetEnd (t : Nat) (a : Fin 48) (pos neg : Int)
  /-- R102. A pin's clamp current exceeds 100 µA; the clamp flag sets and a CLAMP STATUS record is emitted. -/
  | clampSet (t : Nat) (pier : Fin 24) (pin : Fin 18)
  /-- R102. The clamp current has stayed below 50 µA for 1 µs and the flag clears. -/
  | clampClear (t : Nat) (pier : Fin 24) (pin : Fin 18)
  /-- R103. A tone burst starts at a TONE.PERIOD multiple, or is skipped for a lane whose source swaps within it. -/
  | toneBurst (t : Nat) (pier : Fin 24)
  /-- R103. After a burst the detector updates LANE.TONE_Z and sets or clears the lane's tone open report. -/
  | toneResult (t : Nat) (lane : Fin 192) (nv : Nat)
  /-- R110. A lane's filter yields a sample at an output instant, flagged, calibrated and judged by the deadband. -/
  | sampleOutput (t : Nat) (lane : Fin 192) (raw : Reading) (saturated overload : Bool)
  /-- R123. A write of CAL.USER_COMMIT applies both staged user values at the next release boundary. -/
  | calUserCommit (t : Nat) (lane : Fin 192)
  /-- R125. A rotation slot opens and the spare slice is connected to the target lane. -/
  | rotationSlot (t : Nat) (pier : Fin 24) (diffs : List (Int × Bool))
  /-- R128. At t_d the check passes, aborts or postpones. -/
  | rotationDecision (t : Nat) (pier : Fin 24)
  /-- R127. The freed slice's reference cycle completes; trims are stored and it becomes SPARE or FAULTY. -/
  | referenceCycleEnd (t : Nat) (pier : Fin 24) (slice : Fin 9) (zero plus minus tonePpm : Int)
  /-- R128. A write of PIER.SLICE_RETEST starts a reference cycle of the FAULTY slices. -/
  | pierSliceRetest (t : Nat) (pier : Fin 24)
  /-- R247. At a T_c multiple, the Caisson records one word per recording lane into its rings. -/
  | caissonRecord (t : Nat) (pier : Fin 24) (raws : List (Fin 8 × Reading)) (errs : List CodeErr)
  /-- R252. Garnet time passes p + H + 128 ns, and each destination stream frames the block. -/
  | snapshotFraming (t : Nat) (pier : Fin 24) (errs : List CodeErr)
  /-- R251. Garnet time passes the re-arm time r and the Caisson returns to ARMED, FILLING or OFF. -/
  | caissonRearm (t : Nat) (pier : Fin 24)
  /-- R270. A free engine takes the waiting frame with the earliest close. -/
  | berylEngineTake (t : Nat) (engine : Fin 16) (errs : List CodeErr)
  /-- R266. An engine finishes compressing a frame, or stores it raw. -/
  | berylComplete (t : Nat) (engine : Fin 16)
  /-- R241. A frame leaves Beryl in close order and the head abutment accepts and numbers it, or refuses it. -/
  | frameToHead (t : Nat) (n : Fin 8) (errs : List CodeErr)
  /-- R239. A frame moves from the head abutment to the tail or into the span, or from the span to the tail, as room
  allows. -/
  | spanMove (t : Nat) (n : Fin 8) (fromSpan : Bool) (errs : List CodeErr)
  /-- R246. A write of SPAN.RESTART restarts a stopped stream at the next release boundary. -/
  | spanRestart (t : Nat) (n : Fin 8)
  /-- R257. A write of FETCH.CMD with 1 checks the region and starts a retrospective fetch. -/
  | fetchStart (t : Nat)
  /-- R257. A write of FETCH.CMD with 2 ends the fetch after the frame in progress. -/
  | fetchAbort (t : Nat)
  /-- R258. The fetch engine reads, decodes and filters one frame and writes a fetch frame, or skips it. -/
  | fetchFrame (t : Nat) (errs : List CodeErr)
  /-- R279. An arbiter refresh slot issues an all-bank refresh and DQS tracking. -/
  | refreshSlot (t : Nat) (hot : Bool)
  /-- R287. In a scrub slot the scrubber reads codewords and writes corrections back; a pass end updates suspect
  devices. -/
  | scrubSlot (t : Nat) (count : Nat) (errs : List CodeErr)
  /-- R291. The triplication scrubber visits each field; a single mismatch is corrected and a three-way one defaults. -/
  | tmrScrub (t : Nat) (ix sub c0 c1 c2 : Nat)
  /-- R150. At a release boundary, queued RWL changes and boundary commands take effect and CONFIG records are
  emitted. -/
  | configEffect (t : Nat) (reads : List (Fin 48 × Int × Int))
  /-- R360. A write of DICT.SNAPSHOT requests a counter snapshot at the next release boundary. -/
  | dictSnapshot (t : Nat)
  /-- R360. At the snapshot instant, counters and marks are copied, marks restart and DICT.SNAP_SEQ increments. -/
  | snapshotTake (t : Nat)
  /-- R362. A buffered write to a slow-domain or asleep-pier slot is applied at the next slow-clock edge. -/
  | slowWriteApply (t : Nat) (busy : Bool)
  /-- R6. A write to a dictionary slot with no row of its own is applied, refused or ignored and counted as its class
  gives. -/
  | registerWrite (t : Nat) (bar2 : Bool) (off : Nat) (ws : List Word) (firstBe lastBe : Fin 16) (tlp : Tlp) (busy : Bool)
  /-- R350. A write to a wide parameter's word fills the write latch, or applies the whole value on its highest word. -/
  | wideWordWrite (t : Nat) (ix : Fin 65536) (k : Fin 3) (w : Word) (tlp : Tlp) (busy : Bool)
  /-- R349. A read of a wide value's low word returns it and latches the upper words for the path. -/
  | wideLowRead (t : Nat) (bar2 : Bool) (off n : Nat) (firstBe lastBe : Fin 16) (tlp : Tlp)
  /-- R297. A PCI Express configuration request reads or writes the function's configuration space. -/
  | configRequest (t : Nat) (write : Bool) (dw : Fin 1024) (be : Fin 16) (v : Word)
  /-- R312. PERST_N falls; the port's PHY and configuration space are reset and the port freezes. -/
  | perstNFall (t inFlight hanging : Nat)
  /-- R313. A hot reset resets the configuration space, retrains the link and freezes the port. -/
  | hotReset (t : Nat)
  /-- R313. The link goes down and the port freezes. -/
  | linkDown (t : Nat)
  /-- R340. The link trains to active and the port moves from FROZEN_DOWN to FROZEN. -/
  | linkUp (t : Nat) (speed : Fin 7) (width : Fin 9)
  /-- R335. The port detects a PCI Express error, logs it under AER and answers as Table 7 gives. -/
  | inboundTlpError (t : Nat) (e : PortError) (advisory answer : Bool) (tlp : Tlp)
  /-- R340. A RELEASE write of RESUME unfreezes the port; rings write back DEV_PTR and refill the open descriptor. -/
  | portResume (t : Nat) (tlp : Tlp)
  /-- R340. A RELEASE write of RESTART unfreezes the port with every ring disabled. -/
  | portRestart (t : Nat) (tlp : Tlp)
  /-- R317. A write of 1 to a ring's ENABLE resets its pointers and starts it, or is refused on a bad size. -/
  | ringEnable (t : Nat) (n : Fin 9) (tlp : Tlp)
  /-- R322. A write of 0 to a ring's ENABLE closes the open descriptor at a frame boundary and disables the ring. -/
  | ringDisable (t : Nat) (n : Fin 9) (tlp : Tlp)
  /-- R318. A HOST_PTR doorbell write hands descriptors to the device, or is refused. -/
  | doorbellHostPtr (t : Nat) (n : Fin 9) (v : Word) (tlp : Tlp)
  /-- R318. A HOST_SEEN doorbell write acknowledges completed descriptors and re-arms the ring interrupt. -/
  | doorbellHostSeen (t : Nat) (n : Fin 9) (v : Word) (tlp : Tlp)
  /-- R325. A ring issues a read of descriptors ahead of DEV_PTR, waiting for a free tag if needed. -/
  | descriptorRead (t : Nat) (n : Fin 9) (want : Nat)
  /-- R329. A completion arrives for an outstanding read, or is dropped as late or unexpected. -/
  | completionRx (t tag : Nat) (poisoned : Bool) (ws : List Word) (tlp : Tlp)
  /-- R329. A read times out; its tag is quarantined and the read reissued, or the ring enters FAULT. -/
  | completionTimeout (t tag : Nat)
  /-- R329. A quarantined tag's quarantine expires and the tag becomes free. -/
  | tagQuarantineEnd (t tag : Nat)
  /-- R320. A frame is written into the open descriptor, closing it with its completed form when full. -/
  | frameDeliver (t : Nat) (n : Fin 9) (errs : List CodeErr)
  /-- R320. IDLE_CLOSE µs pass with no frame ready and the open descriptor closes with IDLE. -/
  | idleClose (t : Nat) (n : Fin 9)
  /-- R332. A pending, armed source whose interval has passed sends its interrupt message. -/
  | irqMessage (t : Nat) (src : Fin 33)
  /-- R331. A write of IRQ.ACK acknowledges an INTERRUPT or partner-fault source and re-arms it. -/
  | irqAck (t : Nat) (n : Fin 17) (v : Word)
  /-- R308. A write of 1 to WIN.ENABLE checks the window and enables it, or refuses it. -/
  | windowEnable (t : Nat) (n : Fin 8)
  /-- R311. A write of 0 to WIN.ENABLE stops new translation and the window drains. -/
  | windowDisable (t : Nat) (n : Fin 8) (outstanding : Bool)
  /-- R311. The last accepted request of a draining window completes and it becomes DISABLED. -/
  | windowDrained (t : Nat) (n : Fin 8)
  /-- R307. A BAR4 memory read is translated through its window, or answered with Unsupported Request. -/
  | bar4Read (t : Nat) (a : Nat) (n : Nat) (errs : List CodeErr) (tlp : Tlp)
  /-- R310. A posted BAR4 write is translated and written, or dropped and logged. -/
  | bar4Write (t : Nat) (a : Nat) (ws : List Word) (firstBe lastBe : Fin 16) (errs : List CodeErr) (tlp : Tlp)
  /-- R370. An Ethernet frame is received and taken, forwarded by cut-through, or discarded. -/
  | ethFrameRx (t : Nat) (port : Fin 2) (dst : EthDst) (len : Nat) (fcsOk : Bool) (body : EthBody)
  /-- R372. Every 1 ms the ring closer sends a ring test frame out of ETH0. -/
  | ringTestSend (t : Nat)
  /-- R372. No own test frame arrives for 3 ms and the closer opens the ring. -/
  | ringTestTimeout (t : Nat)
  /-- R387. A received MARK_OUT enters the Causeway as a source-201 record, or is discarded. -/
  | markOutRx (t : Nat) (port : Fin 2) (dst length : Nat) (body : List Word) (peer : Nat)
  /-- R375. IDENTIFY returns the device's identity and session summary. -/
  | identify (t : Nat) (h : CdpHdr) (body : List Word)
  /-- R377. SESSION_OPEN creates a new session. -/
  | sessionOpen (t : Nat) (h : CdpHdr) (body : List Word)
  /-- R378. The first SESSION_AUTH request exchanges ephemeral keys and nonces, and the device signs the transcript. -/
  | sessionAuthKeys (t : Nat) (h : CdpHdr) (body : List Word)
  /-- R378. The second SESSION_AUTH request verifies the master's signature and derives the session keys. -/
  | sessionAuthSign (t : Nat) (h : CdpHdr) (body : List Word)
  /-- R377. SESSION_CLOSE ends the session and releases its ownership and subscriptions. -/
  | sessionClose (t : Nat) (h : CdpHdr) (body : List Word)
  /-- R377. A session has accepted no message for NET.SESSION_IDLE seconds and ends. -/
  | sessionIdleTimeout (t : Nat) (n : Nat)
  /-- R380. OWNERSHIP with take grants write ownership, or returns OWNER_BUSY. -/
  | ownershipTake (t : Nat) (h : CdpHdr) (body : List Word)
  /-- R380. OWNERSHIP with release gives up write ownership. -/
  | ownershipRelease (t : Nat) (h : CdpHdr) (body : List Word)
  /-- R375. READ returns the value words of the named instances or DOMAIN bytes. -/
  | cdpRead (t : Nat) (h : CdpHdr) (body : List Word)
  /-- R376. WRITE applies the value words, honouring a role-generation guard. -/
  | cdpWrite (t : Nat) (h : CdpHdr) (body : List Word)
  /-- R375. READ_MULTI returns a status and values for each named item. -/
  | readMulti (t : Nat) (h : CdpHdr) (body : List Word)
  /-- R376. WRITE_MULTI checks every item and applies them all in one run, or none. -/
  | writeMulti (t : Nat) (h : CdpHdr) (body : List Word)
  /-- R375. ENABLE writes 1 to each named RWL enable. -/
  | cdpEnable (t : Nat) (h : CdpHdr) (body : List Word)
  /-- R375. DISABLE writes 0 to each named RWL enable. -/
  | cdpDisable (t : Nat) (h : CdpHdr) (body : List Word)
  /-- R360. SNAPSHOT_COUNTERS requests a counter snapshot and returns its instant and sequence number. -/
  | snapshotCounters (t : Nat) (h : CdpHdr) (body : List Word)
  /-- R376. A response held for the effective time of its RWL changes is sent once that time has passed. -/
  | cdpResponseSend (t : Nat)
  /-- R382. SUBSCRIBE kind 0 creates a periodic parameter subscription. -/
  | subscribePeriodic (t : Nat) (h : CdpHdr) (body : List Word)
  /-- R382. SUBSCRIBE kind 1 creates an on-change parameter subscription. -/
  | subscribeOnChange (t : Nat) (h : CdpHdr) (body : List Word)
  /-- R382. SUBSCRIBE kind 2 subscribes the session to a stream's CDP outlet. -/
  | subscribeStream (t : Nat) (h : CdpHdr) (body : List Word)
  /-- R382. SUBSCRIBE kind 3 subscribes the session to alerts. -/
  | subscribeAlerts (t : Nat) (h : CdpHdr) (body : List Word)
  /-- R382. SUBSCRIBE kind 4 cancels a subscription. -/
  | subscribeCancel (t : Nat) (h : CdpHdr) (body : List Word)
  /-- R384. SUBSCRIBE kind 5 acknowledges EVENT messages up to a sequence number. -/
  | eventAcknowledge (t : Nat) (h : CdpHdr) (body : List Word)
  /-- R383. A subscription's interval expires and an EVENT is sent or coalesced. -/
  | subscriptionTimer (t : Nat) (k : Fin 16)
  /-- R383. A stream frame segment or an alert is sent to its subscriber as an EVENT message. -/
  | eventSend (t : Nat) (k : Fin 16) (errs : List CodeErr)
  /-- R384. No EVENT acknowledged for 20 ms; unacknowledged EVENTs are resent. -/
  | eventResend (t : Nat) (n : Nat)
  /-- R435. ATTEST returns a signed attestation report over the verifier's nonce. -/
  | attest (t : Nat) (h : CdpHdr) (body : List Word)
  /-- R421. SAVE starts writing a new configuration copy, or is refused. -/
  | cdpSave (t : Nat) (h : CdpHdr) (body : List Word)
  /-- R427. LOAD applies the selected valid configuration copy, or is refused. -/
  | cdpLoad (t : Nat) (h : CdpHdr) (body : List Word)
  /-- R421. A write of STORE.SAVE_CMD with 1 starts an unsigned SAVE. -/
  | storeSave (t : Nat)
  /-- R421. A write of STORE.SAVE_CMD with 3 starts a signed SAVE. -/
  | storeSaveSigned (t : Nat)
  /-- R427. A write of STORE.LOAD_CMD with 1 loads the current copy. -/
  | storeLoadCurrent (t : Nat)
  /-- R427. A write of STORE.LOAD_CMD with 2 loads copy A. -/
  | storeLoadA (t : Nat)
  /-- R427. A write of STORE.LOAD_CMD with 3 loads copy B. -/
  | storeLoadB (t : Nat)
  /-- R421. The flash erase, program and read-back of a SAVE finish; COMMIT is programmed, or the slot is retired and
  retried. -/
  | saveComplete (t : Nat) (ok : Bool)
  /-- R429. FW_STAGE writes an image segment; after the last, the image is verified and committed as STAGED. -/
  | fwStage (t : Nat) (h : CdpHdr) (body : List Word)
  /-- R430. FW_ACTIVATE re-verifies the staged image, records the activation and starts the new firmware. -/
  | fwActivate (t : Nat) (h : CdpHdr) (body : List Word) (inFlight hanging : Nat)
  /-- R45. An Ethernet port loses its link (loss of signal, module removed or link fault); PTP enters NET_HOLDOVER,
  the ring closer opens and the port's recovered clock is no longer READY. -/
  | ethLinkDown (t : Nat) (port : Fin 2)
  /-- R410. An Ethernet port's link comes up after the module reports signal, making its recovered clock eligible to
  become READY and letting PTP and CDP traffic resume. -/
  | ethLinkUp (t : Nat) (port : Fin 2)
  /-- R41. At its logSyncInterval or protocol timer, the PTP engine sends a Sync, Announce, Delay_Req or peer-delay
  message with its hardware transmit timestamp. -/
  | ptpMessageSend (t : Nat) (port : Fin 2) (kind : Fin 16)
  /-- R44. The device sends an ESMC PDU carrying its quality level on each port. -/
  | esmcPduSend (t : Nat) (port : Fin 2)
  /-- R73. VCORE or VAON returns above its brown-out threshold, the safe-state cause clears, and outputs in FOLLOW
  mode leave the safe state at the next whole microsecond. -/
  | brownOutClear (t : Nat) (aon : Bool)
  /-- R454. A monitored rail returns to within 5 % of nominal and its DIAG.RAIL_LOW bit clears. -/
  | railLowClear (t : Nat) (rail : Fin 7)
  /-- R312. PERST_N rises; the PHY leaves reset, HOST.SUBSYS_ID and the BAR4 reset size are reloaded and link training
  begins. -/
  | perstNRise (t : Nat)
  /-- R442. RESET_N rises after a reset; the straps are sampled and start-up begins at step 1. -/
  | resetNRelease (t : Nat) (straps : Fin 16)
  /-- R333. The host clears a vector's mask bit in the MSI-X table in BAR2, and a message held in its PBA bit is sent. -/
  | msixVectorUnmask (t : Nat) (v : Fin 64) (tlp : Tlp)
  deriving DecidableEq, Repr

end Sys2Proof
end

