-- ==== Sys2Proof/Decode.lean ====
section
/-! DEFINITION. Commands spelled by words: the command table gives no row any bits.

Readings and choices here: DESIGN CHOICE log 4. -/
namespace Sys2Proof

/-- The command that a word of `nbits` bits spells. No row of the command table has bits, so no word spells a command: commands
reach the block as register accesses, messages, pins and its own clock, which Instr lists. -/
def decodeTableWord (_nbits _w : Nat) : Option Instr := none

end Sys2Proof
end

