-- ==== Sys2Proof/Machine/Bits.lean ====
section
/-! DEFINITION. Bit fields, two's complement, byte order and the lookup tables every other file uses. -/
namespace Sys2Proof.Machine

/-! ### Tables of numbered things -/

/-- The entry under number `k`, if it is listed. -/
def tfind {α : Type} : Tbl α → Nat → Option α
  | [], _ => none
  | (j, a) :: t, k => if j = k then some a else if k < j then none else tfind t k

/-- The entry under number `k`, or the default `d`. -/
def tget {α : Type} (d : α) (t : Tbl α) (k : Nat) : α := (tfind t k).getD d

/-- Put `a` under number `k`, keeping the numbers rising. -/
def tset {α : Type} : Tbl α → Nat → α → Tbl α
  | [], k, a => [(k, a)]
  | (j, b) :: t, k, a =>
    if j = k then (k, a) :: t else if k < j then (k, a) :: (j, b) :: t else (j, b) :: tset t k a

/-- Strike number `k` from the table. -/
def terase {α : Type} : Tbl α → Nat → Tbl α
  | [], _ => []
  | (j, b) :: t, k => if j = k then t else if k < j then (j, b) :: t else (j, b) :: terase t k

/-- The table lists its numbers strictly rising. -/
def tsorted {α : Type} : Tbl α → Bool
  | [] => true
  | [_] => true
  | (j, _) :: (k, b) :: t => decide (j < k) && tsorted ((k, b) :: t)

/-- Take [a, b) out of a list of stretches. -/
def cutOut (a b : Nat) (l : List (Nat × Nat)) : List (Nat × Nat) :=
  l.flatMap (fun x => if x.2 ≤ a ∨ b ≤ x.1 then [x] else
    (if x.1 < a then [(x.1, a)] else []) ++ (if b < x.2 then [(b, x.2)] else []))

/-! ### Numbers and bits -/

/-- Field [hi:lo] of a word held as a number (bit ranges are written MSB first, 00_scope.md). -/
def fld (n hi lo : Nat) : Nat := (n >>> lo) % 2 ^ (hi - lo + 1)

/-- Bit `i` of a number. -/
def bit (n i : Nat) : Bool := n.testBit i

/-- 1 for true, 0 for false. -/
def b2n (b : Bool) : Nat := if b then 1 else 0

/-- Set bit `i` of `n` to `b`. -/
def putBit (n i : Nat) (b : Bool) : Nat :=
  if bit n i then (if b then n else n - 2 ^ i) else (if b then n + 2 ^ i else n)

/-- Two's complement reading of the low `w` bits. -/
def sgn (w n : Nat) : Int :=
  let m := n % 2 ^ w
  if m < 2 ^ (w - 1) then (m : Int) else (m : Int) - (2 ^ w : Nat)

/-- Two's complement code of an integer in `w` bits. -/
def uns (w : Nat) (i : Int) : Nat := (i % ((2 ^ w : Nat) : Int)).toNat

/-- I32 reading of a slot (R344). -/
def i32 (n : Nat) : Int := sgn 32 n

/-- I32 code of an integer, wrapped. -/
def ofI32 (i : Int) : Nat := uns 32 i

/-- An integer held between two bounds. -/
def clampI (lo hi i : Int) : Int := if i < lo then lo else if hi < i then hi else i

/-- The 32-bit word of a number. -/
def w32 (n : Nat) : Word := BitVec.ofNat 32 n

/-- Least multiple of `m` at or after `a` (for `m > 0`). -/
def ceilMul (a m : Nat) : Nat := (a + (m - 1)) / m * m

/-- Least multiple of `m` strictly after `a` (for `m > 0`). -/
def nextMul (a m : Nat) : Nat := (a / m + 1) * m

/-- Words of a value, low word first (R3, R344). -/
def wordsOf (k n : Nat) : List Word :=
  match k with
  | 0 => []
  | k + 1 => w32 n :: wordsOf k (n / 2 ^ 32)

/-- The number that words spell, low word first. -/
def ofWords : List Word → Nat
  | [] => 0
  | w :: ws => w.toNat + 2 ^ 32 * ofWords ws

/-- The four bytes of a word, little-endian (R3). -/
def bytesOfWord (w : Word) : List Byte :=
  [BitVec.ofNat 8 w.toNat, BitVec.ofNat 8 (w.toNat / 256), BitVec.ofNat 8 (w.toNat / 65536),
   BitVec.ofNat 8 (w.toNat / 16777216)]

/-- The bytes of words, each little-endian, in their order. -/
def bytesOfWords : List Word → List Byte
  | [] => []
  | w :: ws => bytesOfWord w ++ bytesOfWords ws

/-- The number that bytes spell, little-endian. -/
def ofBytes : List Byte → Nat
  | [] => 0
  | b :: bs => b.toNat + 256 * ofBytes bs

/-- `k` bytes of a number, little-endian. -/
def bytesLE (k n : Nat) : List Byte :=
  match k with
  | 0 => []
  | k + 1 => BitVec.ofNat 8 n :: bytesLE k (n / 256)

/-- Group bytes into words, little-endian; a short last group is padded with zero bytes. -/
def wordsOfBytes (bs : List Byte) : List Word :=
  match bs with
  | a :: b :: c :: d :: t => w32 (ofBytes [a, b, c, d]) :: wordsOfBytes t
  | [] => []
  | t => [w32 (ofBytes t)]

/-- Indices of the set bits of `n` below `w`, lowest first. -/
def setBits (n w : Nat) : List Nat := (List.range w).filter (fun i => bit n i)

/-- Lexicographic order of equal-length or unequal-length lists of words, first word first (R137 key 5). -/
def wordsLt : List Word → List Word → Bool
  | [], [] => false
  | [], _ :: _ => true
  | _ :: _, [] => false
  | a :: s, b :: t => if a.toNat = b.toNat then wordsLt s t else decide (a.toNat < b.toNat)

/-- CRC-32C of R226, one bit of the reflected register. -/
def crcBit (c : Nat) : Nat := if c % 2 = 1 then (c / 2) ^^^ 0x82F63B78 else c / 2

/-- CRC-32C of R226: one byte more. -/
def crcByte (c : Nat) (b : Byte) : Nat :=
  let x := c ^^^ b.toNat
  crcBit (crcBit (crcBit (crcBit (crcBit (crcBit (crcBit (crcBit x)))))))

/-- CRC-32C (polynomial 0x1EDC_6F41 reflected, initial and final 0xFFFF_FFFF), R226. -/
def crc32c (bs : List Byte) : Nat := (bs.foldl crcByte 0xFFFFFFFF) ^^^ 0xFFFFFFFF

end Sys2Proof.Machine
end

