-- ==== Sys2Proof/Machine/Memory.lean ====
section
/-! DEFINITION. DRAM as bytes (12_memory_integrity.md, 13), and the RS(20,16) code of its codewords (R280 to R283).

Readings and choices here: DESIGN CHOICE log 9, log 34. -/
namespace Sys2Proof.Machine

/-! ### Bytes -/

/-- The byte at an address: what is listed, else zero (an unlisted byte reads as zero). -/
def memRead : List Host.Cell → Nat → Byte
  | [], _ => 0
  | (a, b) :: t, k => if a = k then b else if k < a then 0 else memRead t k

/-- Write a byte; a zero is not listed. -/
def memWrite : List Host.Cell → Nat → Byte → List Host.Cell
  | [], k, v => if v = 0 then [] else [(k, v)]
  | (a, b) :: t, k, v =>
    if a = k then (if v = 0 then t else (k, v) :: t)
    else if k < a then (if v = 0 then (a, b) :: t else (k, v) :: (a, b) :: t)
    else (a, b) :: memWrite t k v

/-- Addresses strictly rising from `lo` on, and no zero listed. -/
def memWfFrom : Nat → List Host.Cell → Bool
  | _, [] => true
  | lo, (a, b) :: t => decide (lo ≤ a) && decide (b ≠ 0) && memWfFrom (a + 1) t

/-- The canonical form of memory: addresses strictly rising, and no entry equal to what an unlisted address reads as. -/
def Memory.wf (m : List Host.Cell) : Bool := memWfFrom 0 m

/-- The bytes of `n` addresses from `a` on. -/
def memBytes (m : List Host.Cell) (a n : Nat) : List Byte := (List.range n).map (fun i => memRead m (a + i))

/-- Write bytes from address `a` on. -/
def memWriteBytes (m : List Host.Cell) (a : Nat) : List Byte → List Host.Cell
  | [] => m
  | b :: bs => memWriteBytes (memWrite m a b) (a + 1) bs

/-- The words of `n` word addresses from byte address `a` on, little-endian (R3). -/
def memWords (m : List Host.Cell) (a n : Nat) : List Word := wordsOfBytes (memBytes m a (4 * n))

/-- Strike every listed byte from `a` to below `b`: they read as zero. -/
def memClear (m : List Host.Cell) (a b : Nat) : List Host.Cell :=
  m.filter (fun c => decide (c.1 < a) || decide (b ≤ c.1))

/-! ### GF(2^8) and the code (R280, R281) -/

/-- Multiply by x modulo 0x11D. -/
def gfDouble (a : Nat) : Nat := if a < 128 then 2 * a else (2 * a) ^^^ 0x11D

/-- Product in GF(2^8), by the bits of the second factor from bit 7 down. -/
def gfMulBits : Nat → Nat → Nat → Nat
  | 0, _, _ => 0
  | k + 1, a, b => gfDouble (gfMulBits k a (b / 2)) ^^^ (if b % 2 = 1 then a else 0)

/-- Product in GF(2^8). -/
def gfMul (a b : Nat) : Nat := gfMulBits 8 a b

/-- Power of α = 0x02. -/
def gfPow : Nat → Nat
  | 0 => 1
  | k + 1 => gfDouble (gfPow k)

/-- Inverse in GF(2^8): the 254th power. -/
def gfInv (a : Nat) : Nat :=
  let p2 := gfMul a a
  let p4 := gfMul p2 p2
  let p8 := gfMul p4 p4
  let p16 := gfMul p8 p8
  let p32 := gfMul p16 p16
  let p64 := gfMul p32 p32
  let p128 := gfMul p64 p64
  gfMul p2 (gfMul p4 (gfMul p8 (gfMul p16 (gfMul p32 (gfMul p64 p128)))))

/-- One step of the division by g(x) = x^4 + 0x0F x^3 + 0x36 x^2 + 0x78 x + 0x40: the remainder's four coefficients take
a data symbol. -/
def rsStep (r : Nat × Nat × Nat × Nat) (d : Nat) : Nat × Nat × Nat × Nat :=
  let f := r.1 ^^^ d
  (r.2.1 ^^^ gfMul f 0x0F, r.2.2.1 ^^^ gfMul f 0x36, r.2.2.2 ^^^ gfMul f 0x78, gfMul f 0x40)

/-- The check symbols S16 to S19 of 16 data symbols (R281). -/
def rsCheck (data : List Nat) : List Nat :=
  let r := data.foldl rsStep (0, 0, 0, 0)
  [r.1, r.2.1, r.2.2.1, r.2.2.2]

/-- Value of a codeword's polynomial at α^i; symbol k is the coefficient of x^(19 − k). -/
def rsSyndrome (code : List Nat) (i : Nat) : Nat :=
  code.foldl (fun acc s => gfMul acc (gfPow i) ^^^ s) 0

/-- The symbols of a codeword with an error of value `v` at symbol `k` taken out. -/
def rsFix (code : List Nat) (k v : Nat) : List Nat := code.set k (code.getD k 0 ^^^ v)

/-- Decode a codeword of 20 symbols: the corrected codeword with the positions corrected, or none where the error
locator has no two roots among the 20 positions (R283). -/
def rsDecode (code : List Nat) : Option (List Nat × List Nat) :=
  let s0 := rsSyndrome code 0
  let s1 := rsSyndrome code 1
  let s2 := rsSyndrome code 2
  let s3 := rsSyndrome code 3
  if s0 = 0 ∧ s1 = 0 ∧ s2 = 0 ∧ s3 = 0 then some (code, [])
  else
    let det := gfMul s1 s1 ^^^ gfMul s0 s2
    if det = 0 then
      -- one error at locator s1 / s0 of value s0
      match (List.range 20).find? (fun k => decide (gfMul s0 (gfPow (19 - k)) = s1)) with
      | some k =>
        if s0 ≠ 0 ∧ gfMul s1 (gfPow (19 - k)) = s2 ∧ gfMul s2 (gfPow (19 - k)) = s3 then
          some (rsFix code k s0, [k])
        else none
      | none => none
    else
      let l1 := gfMul (gfMul s1 s2 ^^^ gfMul s0 s3) (gfInv det)
      let l2 := gfMul (gfMul s2 s2 ^^^ gfMul s1 s3) (gfInv det)
      let roots := (List.range 20).filter (fun k =>
        let x := gfPow (19 - k)
        decide (gfMul x x ^^^ gfMul l1 x ^^^ l2 = 0))
      match roots with
      | [j, k] =>
        let xj := gfPow (19 - j)
        let xk := gfPow (19 - k)
        let vk := gfMul (s1 ^^^ gfMul s0 xj) (gfInv (xj ^^^ xk))
        some (rsFix (rsFix code j (s0 ^^^ vk)) k vk, [j, k])
      | _ => none

/-- What a read of one codeword yields: the 16 data bytes delivered, and the positions corrected; none in `fixed` where
it is uncorrectable, and the bytes are then those as read (R283, R289). -/
structure CwRead where
  bytes : List Byte
  fixed : Option (List Nat)
  deriving DecidableEq, Repr

/-- Read a codeword that holds `data` and meets the error pattern `err` over its 20 symbols. -/
def readCodeword (data err : List Byte) : CwRead :=
  let clean := data.map BitVec.toNat
  let code := (clean ++ rsCheck clean).zipWith (fun a b => a ^^^ b) ((err ++ List.replicate 20 0).map BitVec.toNat)
  match rsDecode code with
  | some r => ⟨(r.1.take 16).map (BitVec.ofNat 8), some r.2⟩
  | none => ⟨(code.take 16).map (BitVec.ofNat 8), none⟩

end Sys2Proof.Machine
end

