-- ==== Sys2Proof/Config.lean ====
section
/-! DEFINITION. Constants an individual part fixes and the values the spec leaves open. Each is opaque: no proof can
see a value of it.

Readings and choices here: DESIGN CHOICE log 5, log 6, log 21, log 33, log 47, log 64; PRESUMED log 30. -/
namespace Sys2Proof

/-- One-time-programmable content, and the CRC of the Index ROM, read through the dictionary, by index and sub-index
(R365, R433, R439; log 5). -/
opaque Config.otp (ix sub : Nat) : Nat

/-- A natural number the spec leaves open, the n-th one drawn. -/
opaque Config.freeNat (n : Nat) : Nat
/-- An integer the spec leaves open, the n-th one drawn. -/
opaque Config.freeInt (n : Nat) : Int

/-- Temperature in °C of a platinum resistor of the given R_0 from its resistance, on binary64 codes (IEC 60751, within
0.002 °C, R130). -/
opaque Config.ptTemperature (r0 x : Nat) : Nat
/-- Reference function of a thermocouple code: volts from °C, on binary64 codes (IEC 60584-1, R130, R131). -/
opaque Config.tcVoltage (code x : Nat) : Nat
/-- Inverse reference function of a thermocouple code: °C from volts, on binary64 codes (R131). -/
opaque Config.tcTemperature (code x : Nat) : Nat
/-- The input at an end of the domain of codes 1 to 10 and the slope of the curve there, in °C per unit of the input, on binary64
codes (R130). -/
opaque Config.curveEnd (code : Nat) (high : Bool) : Nat
opaque Config.curveSlope (code : Nat) (high : Bool) : Nat

/-- The servo's filtered offset from its master in ticks after the n-th message: from the receive timestamp of the Sync or the
PPS_IN edge, the transmit timestamp of the last delay request, and the port's asymmetry coefficient (R41, R45, R48: the spec
gives no filter). -/
opaque Config.servoOffset (n : Nat) (rx tx asymmetry : Int) : Int
/-- A port's factory-calibrated delay to its pins in ticks, transmit or receive (R42). -/
opaque Config.ptpDelay (port : Nat) (transmit : Bool) : Nat

/-- Words of the configuration space whose contents the spec leaves to the PCI Express standard or to the part, by byte
offset (R297, R298). -/
opaque Config.cfgOpen (off : Nat) : Nat

/-- Bytes of a read-only block of the dictionary, by index (R433, R436). -/
opaque Config.otpDomain (ix : Nat) : List Byte

/-- Words of the Index ROM that the spec does not print, by byte offset: the entries of parameters that no table of it lists, the
string table and the places of its strings (R365, R366). -/
opaque Config.rom (off : Nat) : Nat
/-- How many entries of the Index ROM that no table of the spec lists stand before that of an index that one does (R343, R366). -/
opaque Config.romGap (ix : Nat) : Nat

/-- The private key of the device, which only its signing engine reaches (R433). -/
opaque Config.devicePrivate : Nat

end Sys2Proof
end

