-- ==== Sys2Proof/Machine/Params.lean ====
section
/-! DEFINITION. The parameter dictionary (15_dictionary_registers.md R343 to R347): every entry that a parameter table of
the spec gives, with its type, access class, default, accepted range and flags. -/
namespace Sys2Proof.Machine

/-- Types of R344 Table 2. -/
inductive Ty where
  | u8 | u16 | u32 | i32 | f32 | u64 | t72 | bits | string | domain
  deriving DecidableEq, Repr

/-- Access classes of R6 Table 4. -/
inductive Acc where
  | ro | rw | rwd | rwl | wo | st | cntS | cntW
  deriving DecidableEq, Repr

/-- Where a default comes from (R366 DEFAULT_KIND): a constant, base + step × (sub mod m) (m = 0: × sub), a list by
sub-index, OTP, or the interface identifier that NET.MAC gives by modified EUI-64 (R373). -/
inductive Dflt where
  | const (n : Nat)
  | step (base step modulus : Nat)
  | list (l : List Nat)
  | otp
  | eui64
  deriving DecidableEq, Repr

/-- One row of a parameter table: first index, how many indices follow it with the same layout, first and last
sub-index, type, class, default, accepted range of the low word, flags (1 dangerous, 2 triplicated, 4 broadcast,
8 slow-domain copy, 16 high-water mark, 32 upper words by latch only). -/
structure Param where
  ix : Nat
  more : Nat
  s0 : Nat
  s1 : Nat
  ty : Ty
  acc : Acc
  dflt : Dflt
  lo : Int
  hi : Int
  flags : Nat
  deriving DecidableEq, Repr

/-- Width of a value in bits (R344). -/
def Ty.width : Ty → Nat
  | .u8 => 8 | .u16 => 16 | .u64 => 64 | .t72 => 72 | .domain => 0 | _ => 32

/-- Slots per value (R344 Table 2). -/
def Ty.words : Ty → Nat
  | .u64 => 2 | .t72 => 3 | .domain => 0 | _ => 1

def Param.danger (p : Param) : Bool := bit p.flags 0
def Param.tmr (p : Param) : Bool := bit p.flags 1
def Param.bcast (p : Param) : Bool := bit p.flags 2
def Param.slow (p : Param) : Bool := bit p.flags 3
def Param.hwm (p : Param) : Bool := bit p.flags 4
def Param.latchOnly (p : Param) : Bool := bit p.flags 5

/-- A dedicated-index wide parameter of R347. -/
def Param.dedicated (p : Param) : Bool := decide (1 < p.ty.words) && !p.latchOnly

/-- The key under which State.dict keeps an instance: an index has 256 sub-indices (R347). -/
def key (ix sub : Nat) : Nat := ix * 256 + sub % 256

/-- Index of the n-th of `count` parameters of one layout that follow one another from a base (R260, R451). -/
def nth (base count n : Nat) : Nat := base + n % count

/-- ID.VENDOR, R367. -/
abbrev Ix.idVendor : Nat := 0x1000
/-- ID.DEVICE, R367. -/
abbrev Ix.idDevice : Nat := 0x1001
/-- ID.SILICON_REV, R367. -/
abbrev Ix.idSiliconRev : Nat := 0x1002
/-- ID.ORDER_CODE, R367. -/
abbrev Ix.idOrderCode : Nat := 0x1003
/-- ID.ORDER_NAME, R367. -/
abbrev Ix.idOrderName : Nat := 0x1004
/-- ID.SERIAL, R367. -/
abbrev Ix.idSerial : Nat := 0x1005
/-- ID.CHIP_NUM, R367. -/
abbrev Ix.idChipNum : Nat := 0x1006
/-- ID.FW_VERSION, R367. -/
abbrev Ix.idFwVersion : Nat := 0x1007
/-- ID.DICT_ENTRIES, R367. -/
abbrev Ix.idDictEntries : Nat := 0x1008
/-- ID.ROM_CRC, R367. -/
abbrev Ix.idRomCrc : Nat := 0x1009
/-- NET.MAC, R390. -/
abbrev Ix.netMac : Nat := 0x1010
/-- NET.IP4_ADDR, R390. -/
abbrev Ix.netIp4Addr : Nat := 0x1011
/-- NET.IP4_MASK, R390. -/
abbrev Ix.netIp4Mask : Nat := 0x1012
/-- NET.IP4_GATEWAY, R390. -/
abbrev Ix.netIp4Gateway : Nat := 0x1013
/-- NET.IP6_PREFIX, R390. -/
abbrev Ix.netIp6Prefix : Nat := 0x1014
/-- NET.IP6_IID, R390. -/
abbrev Ix.netIp6Iid : Nat := 0x1015
/-- NET.UDP_PORT, R390. -/
abbrev Ix.netUdpPort : Nat := 0x1016
/-- PWR.STATE, R416. -/
abbrev Ix.pwrState : Nat := 0x2000
/-- PWR.CMD, R416. -/
abbrev Ix.pwrCmd : Nat := 0x2001
/-- PWR.BOOT_STATE, R416. -/
abbrev Ix.pwrBootState : Nat := 0x2002
/-- PWR.WAKE_TARGET, R416. -/
abbrev Ix.pwrWakeTarget : Nat := 0x2003
/-- PWR.WAKE_ENABLE, R416. -/
abbrev Ix.pwrWakeEnable : Nat := 0x2004
/-- PWR.WAKE_LANES, R416. -/
abbrev Ix.pwrWakeLanes : Nat := 0x2005
/-- PWR.WAKE_AT, R416. -/
abbrev Ix.pwrWakeAt : Nat := 0x2006
/-- PWR.WAKE_CAUSE, R416. -/
abbrev Ix.pwrWakeCause : Nat := 0x2007
/-- PWR.PIER_STATE, R416. -/
abbrev Ix.pwrPierState : Nat := 0x2008
/-- PWR.PIER_CMD, R416. -/
abbrev Ix.pwrPierCmd : Nat := 0x2009
/-- PWR.PIER_BOOT, R416. -/
abbrev Ix.pwrPierBoot : Nat := 0x200A
/-- PWR.PIER_TARGET, R416. -/
abbrev Ix.pwrPierTarget : Nat := 0x200B
/-- CLK.JASPER_POINT, R416. -/
abbrev Ix.clkJasperPoint : Nat := 0x2010
/-- CLK.JASPER_NOW, R416. -/
abbrev Ix.clkJasperNow : Nat := 0x2011
/-- CLK.VSEL_CODE, R416. -/
abbrev Ix.clkVselCode : Nat := 0x2012
/-- CLK.VSEL_DWELL, R416. -/
abbrev Ix.clkVselDwell : Nat := 0x2013
/-- CLK.PGOOD_TIMEOUT, R416. -/
abbrev Ix.clkPgoodTimeout : Nat := 0x2014
/-- CLK.DVFS_FAILS, R416. -/
abbrev Ix.clkDvfsFails : Nat := 0x2015
/-- CLK.PGOOD_LOSSES, R416. -/
abbrev Ix.clkPgoodLosses : Nat := 0x2016
/-- CLK.XA_STARTUP, R416. -/
abbrev Ix.clkXaStartup : Nat := 0x2020
/-- CLK.XB_STARTUP, R416. -/
abbrev Ix.clkXbStartup : Nat := 0x2021
/-- CLK.XA_MULT, R416. -/
abbrev Ix.clkXaMult : Nat := 0x2022
/-- CLK.OPAL_SRC, R416. -/
abbrev Ix.clkOpalSrc : Nat := 0x2023
/-- CLK.FRO_ALWAYS, R416. -/
abbrev Ix.clkFroAlways : Nat := 0x2024
/-- CLK.READY, R416. -/
abbrev Ix.clkReady : Nat := 0x2025
/-- CLK.DOMAIN_GOOD, R416. -/
abbrev Ix.clkDomainGood : Nat := 0x2026
/-- CLK.FALLBACK_STATE, R416. -/
abbrev Ix.clkFallbackState : Nat := 0x2027
/-- CLK.AUTO_RETURN, R416. -/
abbrev Ix.clkAutoReturn : Nat := 0x2028
/-- CLK.XA_RECOVER, R416. -/
abbrev Ix.clkXaRecover : Nat := 0x2029
/-- CLK.RETURN, R416. -/
abbrev Ix.clkReturn : Nat := 0x202A
/-- CLK.FAILURES, R416. -/
abbrev Ix.clkFailures : Nat := 0x202B
/-- CLK.LAST_FAILURE, R416. -/
abbrev Ix.clkLastFailure : Nat := 0x202C
/-- CLK.FAILURE_TIME, R416. -/
abbrev Ix.clkFailureTime : Nat := 0x202D
/-- CLK.FORCE_SRC, R416. -/
abbrev Ix.clkForceSrc : Nat := 0x202E
/-- CLK.PLL_LOCK_MODE, R416. -/
abbrev Ix.clkPllLockMode : Nat := 0x2030
/-- CLK.PLL_LOCK_WINDOW, R416. -/
abbrev Ix.clkPllLockWindow : Nat := 0x2031
/-- CLK.PLL_LOCK_COUNT, R416. -/
abbrev Ix.clkPllLockCount : Nat := 0x2032
/-- CLK.PLL_STATE, R416. -/
abbrev Ix.clkPllState : Nat := 0x2033
/-- CLK.PLL_LOCK_TIME, R416. -/
abbrev Ix.clkPllLockTime : Nat := 0x2034
/-- CLK.PLL_LOSSES, R416. -/
abbrev Ix.clkPllLosses : Nat := 0x2035
/-- CLK.REFUSED, R416. -/
abbrev Ix.clkRefused : Nat := 0x2040
/-- CLK.LAST_REFUSED, R416. -/
abbrev Ix.clkLastRefused : Nat := 0x2041
/-- CLK.GOV_REFUSED, R416. -/
abbrev Ix.clkGovRefused : Nat := 0x2042
/-- CLK.CROSSING_RESETS, R416. -/
abbrev Ix.clkCrossingResets : Nat := 0x2043
/-- CLK.XING_DISCARDS, R416. -/
abbrev Ix.clkXingDiscards : Nat := 0x2044
/-- TIME.NOW, R57. -/
abbrev Ix.timeNow : Nat := 0x2100
/-- TIME.QUALITY, R57. -/
abbrev Ix.timeQuality : Nat := 0x2101
/-- TIME.SYNC_STATE, R57. -/
abbrev Ix.timeSyncState : Nat := 0x2102
/-- TIME.LOAD_VALUE, R57. -/
abbrev Ix.timeLoadValue : Nat := 0x2103
/-- TIME.LOAD_AT, R57. -/
abbrev Ix.timeLoadAt : Nat := 0x2104
/-- TIME.LOAD_MODE, R57. -/
abbrev Ix.timeLoadMode : Nat := 0x2105
/-- TIME.LOAD_CMD, R57. -/
abbrev Ix.timeLoadCmd : Nat := 0x2106
/-- TIME.TIMESCALE, R57. -/
abbrev Ix.timeTimescale : Nat := 0x2107
/-- TIME.SERVO_ENABLE, R57. -/
abbrev Ix.timeServoEnable : Nat := 0x2108
/-- TIME.STEP_MODE, R57. -/
abbrev Ix.timeStepMode : Nat := 0x2109
/-- TIME.STEP_THRESHOLD, R57. -/
abbrev Ix.timeStepThreshold : Nat := 0x210A
/-- TIME.SLEW_MAX, R57. -/
abbrev Ix.timeSlewMax : Nat := 0x210B
/-- TIME.LOCK_WINDOW, R57. -/
abbrev Ix.timeLockWindow : Nat := 0x210C
/-- TIME.OFFSET, R57. -/
abbrev Ix.timeOffset : Nat := 0x210D
/-- TIME.EPOCH_NUM, R57. -/
abbrev Ix.timeEpochNum : Nat := 0x210E
/-- TIME.STEPS, R57. -/
abbrev Ix.timeSteps : Nat := 0x210F
/-- TIME.TDC_CAL_FREEZE, R57. -/
abbrev Ix.timeTdcCalFreeze : Nat := 0x2110
/-- TIME.TDC_DNL_MAX, R57. -/
abbrev Ix.timeTdcDnlMax : Nat := 0x2111
/-- TIME.DP_LOST, R57. -/
abbrev Ix.timeDpLost : Nat := 0x2112
/-- TIME.LANE_SKEW, R57. -/
abbrev Ix.timeLaneSkew : Nat := 0x2115
/-- TIME.XB_TRIM, R57. -/
abbrev Ix.timeXbTrim : Nat := 0x2116
/-- TIME.SRO_TRIM, R57. -/
abbrev Ix.timeSroTrim : Nat := 0x2117
/-- TIME.SLEW_TICKS, R57. -/
abbrev Ix.timeSlewTicks : Nat := 0x2118
/-- TIME.PPS_PERIOD, R57. -/
abbrev Ix.timePpsPeriod : Nat := 0x2120
/-- TIME.PPS_PHASE, R57. -/
abbrev Ix.timePpsPhase : Nat := 0x2121
/-- TIME.PPS_WIDTH, R57. -/
abbrev Ix.timePpsWidth : Nat := 0x2122
/-- TIME.PPS_OUT_ENABLE, R57. -/
abbrev Ix.timePpsOutEnable : Nat := 0x2123
/-- TIME.PPS_IN_MODE, R57. -/
abbrev Ix.timePpsInMode : Nat := 0x2124
/-- TIME.PPS_IN_LAST, R57. -/
abbrev Ix.timePpsInLast : Nat := 0x2125
/-- TIME.LOAD_STATE, R57. -/
abbrev Ix.timeLoadState : Nat := 0x2126
/-- TIME.LOAD_CANCELLED, R57. -/
abbrev Ix.timeLoadCancelled : Nat := 0x2127
/-- TIME.REJECTED_WRITES, R57. -/
abbrev Ix.timeRejectedWrites : Nat := 0x2128
/-- TIME.LAST_REJECTED, R57. -/
abbrev Ix.timeLastRejected : Nat := 0x2129
/-- LANE.ROLE, R80. -/
abbrev Ix.laneRole : Nat := 0x3000
/-- LANE.ENABLE, R80. -/
abbrev Ix.laneEnable : Nat := 0x3001
/-- LANE.ROLE_GEN, R80. -/
abbrev Ix.laneRoleGen : Nat := 0x3002
/-- LANE.STATE, R80. -/
abbrev Ix.laneState : Nat := 0x3003
/-- LANE.REJECTED_WRITES, R80. -/
abbrev Ix.laneRejectedWrites : Nat := 0x3004
/-- LANE.LAST_REJECTED, R80. -/
abbrev Ix.laneLastRejected : Nat := 0x3005
/-- LANE.THR_HI, R80. -/
abbrev Ix.laneThrHi : Nat := 0x3010
/-- LANE.THR_LO, R80. -/
abbrev Ix.laneThrLo : Nat := 0x3011
/-- LANE.DEGLITCH, R80. -/
abbrev Ix.laneDeglitch : Nat := 0x3012
/-- LANE.DCAP_MODE, R80. -/
abbrev Ix.laneDcapMode : Nat := 0x3013
/-- LANE.DSAMP_K, R80. -/
abbrev Ix.laneDsampK : Nat := 0x3014
/-- LANE.T_LEVEL, R80. -/
abbrev Ix.laneTLevel : Nat := 0x3015
/-- LANE.GLITCHES, R80. -/
abbrev Ix.laneGlitches : Nat := 0x3016
/-- LANE.BUF_DROPS, R80. -/
abbrev Ix.laneBufDrops : Nat := 0x3017
/-- LANE.BUF_HWM, R80. -/
abbrev Ix.laneBufHwm : Nat := 0x3018
/-- LANE.FC_ENABLE, R80. -/
abbrev Ix.laneFcEnable : Nat := 0x3020
/-- LANE.FC_LO, R80. -/
abbrev Ix.laneFcLo : Nat := 0x3021
/-- LANE.FC_HI, R80. -/
abbrev Ix.laneFcHi : Nat := 0x3022
/-- LANE.FC_HYST, R80. -/
abbrev Ix.laneFcHyst : Nat := 0x3023
/-- LANE.FC_ZONE, R80. -/
abbrev Ix.laneFcZone : Nat := 0x3024
/-- GUARD.ENABLE, R80. -/
abbrev Ix.guardEnable : Nat := 0x3030
/-- GUARD.MODE, R80. -/
abbrev Ix.guardMode : Nat := 0x3031
/-- GUARD.SAFE_LEVEL, R80. -/
abbrev Ix.guardSafeLevel : Nat := 0x3032
/-- GUARD.SAFE_MODE, R80. -/
abbrev Ix.guardSafeMode : Nat := 0x3033
/-- GUARD.INIT_LEVEL, R80. -/
abbrev Ix.guardInitLevel : Nat := 0x3034
/-- GUARD.PIN_STATE, R80. -/
abbrev Ix.guardPinState : Nat := 0x3035
/-- GUARD.SAFE_ACTIVE, R80. -/
abbrev Ix.guardSafeActive : Nat := 0x3036
/-- GUARD.SAFE_RELEASE, R80. -/
abbrev Ix.guardSafeRelease : Nat := 0x3037
/-- GUARD.FORCE, R80. -/
abbrev Ix.guardForce : Nat := 0x3038
/-- GUARD.SAFE_OVERRIDE, R80. -/
abbrev Ix.guardSafeOverride : Nat := 0x3039
/-- GUARD.SAFE_ENTRIES, R80. -/
abbrev Ix.guardSafeEntries : Nat := 0x303A
/-- GUARD.RELEASE_REFUSED, R80. -/
abbrev Ix.guardReleaseRefused : Nat := 0x303B
/-- GUARD.SAFE_ALL, R80. -/
abbrev Ix.guardSafeAll : Nat := 0x303F
/-- LANE.IN_POS, R107. -/
abbrev Ix.laneInPos : Nat := 0x3040
/-- LANE.IN_NEG, R107. -/
abbrev Ix.laneInNeg : Nat := 0x3041
/-- LANE.RANGE, R107. -/
abbrev Ix.laneRange : Nat := 0x3042
/-- LANE.CA_SEL, R107. -/
abbrev Ix.laneCaSel : Nat := 0x3043
/-- LANE.TONE_CHECK, R107. -/
abbrev Ix.laneToneCheck : Nat := 0x3044
/-- LANE.OPEN_OHMS, R107. -/
abbrev Ix.laneOpenOhms : Nat := 0x3045
/-- LANE.TONE_Z, R107. -/
abbrev Ix.laneToneZ : Nat := 0x3046
/-- LANE.WIRE_OPEN, R107. -/
abbrev Ix.laneWireOpen : Nat := 0x3047
/-- LANE.WIRE_OPEN_EVENTS, R107. -/
abbrev Ix.laneWireOpenEvents : Nat := 0x3048
/-- LANE.RATE, R135. -/
abbrev Ix.laneRate : Nat := 0x3050
/-- LANE.FILTER, R135. -/
abbrev Ix.laneFilter : Nat := 0x3051
/-- LANE.OUT_FORMAT, R135. -/
abbrev Ix.laneOutFormat : Nat := 0x3052
/-- LANE.CURVE, R135. -/
abbrev Ix.laneCurve : Nat := 0x3053
/-- LANE.CJ_LANE, R135. -/
abbrev Ix.laneCjLane : Nat := 0x3054
/-- LANE.CJ_FIXED, R135. -/
abbrev Ix.laneCjFixed : Nat := 0x3055
/-- LANE.RATIO, R135. -/
abbrev Ix.laneRatio : Nat := 0x3056
/-- LANE.DEADBAND, R135. -/
abbrev Ix.laneDeadband : Nat := 0x3057
/-- LANE.HEARTBEAT, R135. -/
abbrev Ix.laneHeartbeat : Nat := 0x3058
/-- LANE.SLICE, R135. -/
abbrev Ix.laneSlice : Nat := 0x3059
/-- LANE.CAL_MISMATCH, R135. -/
abbrev Ix.laneCalMismatch : Nat := 0x305A
/-- LANE.ROT_ABORTS, R135. -/
abbrev Ix.laneRotAborts : Nat := 0x305B
/-- LANE.ROT_LAST_DIFF, R135. -/
abbrev Ix.laneRotLastDiff : Nat := 0x305C
/-- LANE.SUPPRESSED, R135. -/
abbrev Ix.laneSuppressed : Nat := 0x305D
/-- LANE.COEF_A, R135. -/
abbrev Ix.laneCoefA : Nat := 0x305E
/-- LANE.COEF_B, R135. -/
abbrev Ix.laneCoefB : Nat := 0x305F
/-- LANE.COEF_C, R135. -/
abbrev Ix.laneCoefC : Nat := 0x3060
/-- PIER.ROUTE_REFUSED, R107. -/
abbrev Ix.pierRouteRefused : Nat := 0x4000
/-- PIER.ROUTE_LAST, R107. -/
abbrev Ix.pierRouteLast : Nat := 0x4001
/-- PIER.CLAMP_ACTIVE, R107. -/
abbrev Ix.pierClampActive : Nat := 0x4002
/-- PIER.CLAMP_EVENTS, R107. -/
abbrev Ix.pierClampEvents : Nat := 0x4003
/-- PIER.CLAMP_LAST, R107. -/
abbrev Ix.pierClampLast : Nat := 0x4004
/-- EX.RELEASE_REFUSED, R107. -/
abbrev Ix.exReleaseRefused : Nat := 0x4006
/-- PIER.REJECTED_WRITES, R107. -/
abbrev Ix.pierRejectedWrites : Nat := 0x4007
/-- PIER.LAST_REJECTED, R107. -/
abbrev Ix.pierLastRejected : Nat := 0x4008
/-- EX.ENABLE, R107. -/
abbrev Ix.exEnable : Nat := 0x4010
/-- EX.MODE, R107. -/
abbrev Ix.exMode : Nat := 0x4011
/-- EX.PIN, R107. -/
abbrev Ix.exPin : Nat := 0x4012
/-- EX.RETURN, R107. -/
abbrev Ix.exReturn : Nat := 0x4013
/-- EX.LEVEL, R107. -/
abbrev Ix.exLevel : Nat := 0x4014
/-- EX.POLARITY, R107. -/
abbrev Ix.exPolarity : Nat := 0x4015
/-- EX.ALT_N, R107. -/
abbrev Ix.exAltN : Nat := 0x4016
/-- EX.ALT_K, R107. -/
abbrev Ix.exAltK : Nat := 0x4017
/-- EX.LANES, R107. -/
abbrev Ix.exLanes : Nat := 0x4018
/-- EX.I_OPEN, R107. -/
abbrev Ix.exIOpen : Nat := 0x4019
/-- EX.SAFE_STATE, R107. -/
abbrev Ix.exSafeState : Nat := 0x401A
/-- EX.STATE, R107. -/
abbrev Ix.exState : Nat := 0x401B
/-- EX.OPEN, R107. -/
abbrev Ix.exOpen : Nat := 0x401C
/-- EX.COMPLIANCE, R107. -/
abbrev Ix.exCompliance : Nat := 0x401D
/-- EX.OPEN_EVENTS, R107. -/
abbrev Ix.exOpenEvents : Nat := 0x401E
/-- EX.SAFE_RELEASE, R107. -/
abbrev Ix.exSafeRelease : Nat := 0x401F
/-- EX1.ENABLE, R107. -/
abbrev Ix.ex1Enable : Nat := 0x4020
/-- EX1.MODE, R107. -/
abbrev Ix.ex1Mode : Nat := 0x4021
/-- EX1.PIN, R107. -/
abbrev Ix.ex1Pin : Nat := 0x4022
/-- EX1.RETURN, R107. -/
abbrev Ix.ex1Return : Nat := 0x4023
/-- EX1.LEVEL, R107. -/
abbrev Ix.ex1Level : Nat := 0x4024
/-- EX1.POLARITY, R107. -/
abbrev Ix.ex1Polarity : Nat := 0x4025
/-- EX1.ALT_N, R107. -/
abbrev Ix.ex1AltN : Nat := 0x4026
/-- EX1.ALT_K, R107. -/
abbrev Ix.ex1AltK : Nat := 0x4027
/-- EX1.LANES, R107. -/
abbrev Ix.ex1Lanes : Nat := 0x4028
/-- EX1.I_OPEN, R107. -/
abbrev Ix.ex1IOpen : Nat := 0x4029
/-- EX1.SAFE_STATE, R107. -/
abbrev Ix.ex1SafeState : Nat := 0x402A
/-- EX1.STATE, R107. -/
abbrev Ix.ex1State : Nat := 0x402B
/-- EX1.OPEN, R107. -/
abbrev Ix.ex1Open : Nat := 0x402C
/-- EX1.COMPLIANCE, R107. -/
abbrev Ix.ex1Compliance : Nat := 0x402D
/-- EX1.OPEN_EVENTS, R107. -/
abbrev Ix.ex1OpenEvents : Nat := 0x402E
/-- EX1.SAFE_RELEASE, R107. -/
abbrev Ix.ex1SafeRelease : Nat := 0x402F
/-- BIAS.ENABLE, R107. -/
abbrev Ix.biasEnable : Nat := 0x4030
/-- BIAS.PINS, R107. -/
abbrev Ix.biasPins : Nat := 0x4031
/-- BIAS.OVERLOAD, R107. -/
abbrev Ix.biasOverload : Nat := 0x4032
/-- CA.PIN, R107. -/
abbrev Ix.caPin : Nat := 0x4040
/-- CA.CF, R107. -/
abbrev Ix.caCf : Nat := 0x4041
/-- CA.RIN, R107. -/
abbrev Ix.caRin : Nat := 0x4042
/-- CA.AUTORESET, R107. -/
abbrev Ix.caAutoreset : Nat := 0x4043
/-- CA.RESET_PERIOD, R107. -/
abbrev Ix.caResetPeriod : Nat := 0x4044
/-- CA.RESET_CMD, R107. -/
abbrev Ix.caResetCmd : Nat := 0x4045
/-- CA.RESETS, R107. -/
abbrev Ix.caResets : Nat := 0x4046
/-- CA1.PIN, R107. -/
abbrev Ix.ca1Pin : Nat := 0x4050
/-- CA1.CF, R107. -/
abbrev Ix.ca1Cf : Nat := 0x4051
/-- CA1.RIN, R107. -/
abbrev Ix.ca1Rin : Nat := 0x4052
/-- CA1.AUTORESET, R107. -/
abbrev Ix.ca1Autoreset : Nat := 0x4053
/-- CA1.RESET_PERIOD, R107. -/
abbrev Ix.ca1ResetPeriod : Nat := 0x4054
/-- CA1.RESET_CMD, R107. -/
abbrev Ix.ca1ResetCmd : Nat := 0x4055
/-- CA1.RESETS, R107. -/
abbrev Ix.ca1Resets : Nat := 0x4056
/-- TONE.ENABLE, R107. -/
abbrev Ix.toneEnable : Nat := 0x4060
/-- TONE.FREQ, R107. -/
abbrev Ix.toneFreq : Nat := 0x4061
/-- TONE.CYCLES, R107. -/
abbrev Ix.toneCycles : Nat := 0x4062
/-- TONE.PERIOD, R107. -/
abbrev Ix.tonePeriod : Nat := 0x4063
/-- TONE.SKIPPED, R107. -/
abbrev Ix.toneSkipped : Nat := 0x4064
/-- PIER.ROT_ENABLE, R135. -/
abbrev Ix.pierRotEnable : Nat := 0x4070
/-- PIER.ROT_PERIOD, R135. -/
abbrev Ix.pierRotPeriod : Nat := 0x4071
/-- PIER.ROT_OVERLAP, R135. -/
abbrev Ix.pierRotOverlap : Nat := 0x4072
/-- PIER.ROT_TOL, R135. -/
abbrev Ix.pierRotTol : Nat := 0x4073
/-- PIER.ROT_NEXT_LANE, R135. -/
abbrev Ix.pierRotNextLane : Nat := 0x4074
/-- PIER.SPARE, R135. -/
abbrev Ix.pierSpare : Nat := 0x4075
/-- PIER.SLICE_FAULTY, R135. -/
abbrev Ix.pierSliceFaulty : Nat := 0x4076
/-- PIER.HANDOVERS, R135. -/
abbrev Ix.pierHandovers : Nat := 0x4077
/-- PIER.ROT_POSTPONED, R135. -/
abbrev Ix.pierRotPostponed : Nat := 0x4078
/-- PIER.SLICE_RETEST, R135. -/
abbrev Ix.pierSliceRetest : Nat := 0x4079
/-- PIER.SLICE_OFFSET, R135. -/
abbrev Ix.pierSliceOffset : Nat := 0x407B
/-- PIER.SLICE_GAIN, R135. -/
abbrev Ix.pierSliceGain : Nat := 0x407C
/-- KEY.ENABLE, R185. -/
abbrev Ix.keyEnable : Nat := 0x5000
/-- KEY.ARMED, R185. -/
abbrev Ix.keyArmed : Nat := 0x5001
/-- KEY.START_STAGE, R185. -/
abbrev Ix.keyStartStage : Nat := 0x5002
/-- KEY.STATE, R185. -/
abbrev Ix.keyState : Nat := 0x5003
/-- KEY.STAGE, R185. -/
abbrev Ix.keyStage : Nat := 0x5004
/-- KEY.MARK_NUM, R185. -/
abbrev Ix.keyMarkNum : Nat := 0x5005
/-- KEY.TRANSITIONS, R185. -/
abbrev Ix.keyTransitions : Nat := 0x5006
/-- KEY.REFUSED, R185. -/
abbrev Ix.keyRefused : Nat := 0x5007
/-- KEY.REFUSE_LAST, R185. -/
abbrev Ix.keyRefuseLast : Nat := 0x5008
/-- KEY.ARM_IGNORED, R185. -/
abbrev Ix.keyArmIgnored : Nat := 0x5009
/-- KEY.CASCADE_LIMIT, R185. -/
abbrev Ix.keyCascadeLimit : Nat := 0x500A
/-- KEY.STALE_ANY, R185. -/
abbrev Ix.keyStaleAny : Nat := 0x500B
/-- KEY.RELAY_SUPPRESSED, R185. -/
abbrev Ix.keyRelaySuppressed : Nat := 0x500C
/-- KEY.REJECTED_WRITES, R185. -/
abbrev Ix.keyRejectedWrites : Nat := 0x500D
/-- KEY.LAST_REJECTED, R185. -/
abbrev Ix.keyLastRejected : Nat := 0x500E
/-- KEY.STAGE_TIMEOUT, R185. -/
abbrev Ix.keyStageTimeout : Nat := 0x5010
/-- KEY.STAGE_NEXT, R185. -/
abbrev Ix.keyStageNext : Nat := 0x5011
/-- KEY.STAGE_ACT_FIRST, R185. -/
abbrev Ix.keyStageActFirst : Nat := 0x5012
/-- KEY.STAGE_ACT_COUNT, R185. -/
abbrev Ix.keyStageActCount : Nat := 0x5013
/-- KEY.STAGE_ENTRIES, R185. -/
abbrev Ix.keyStageEntries : Nat := 0x5014
/-- KEY.BR_TERMS, R185. -/
abbrev Ix.keyBrTerms : Nat := 0x5020
/-- KEY.BR_EXPR, R185. -/
abbrev Ix.keyBrExpr : Nat := 0x5021
/-- KEY.BR_HOLD, R185. -/
abbrev Ix.keyBrHold : Nat := 0x5022
/-- KEY.BR_COUNT, R185. -/
abbrev Ix.keyBrCount : Nat := 0x5023
/-- KEY.BR_COINC, R185. -/
abbrev Ix.keyBrCoinc : Nat := 0x5024
/-- KEY.BR_NEXT, R185. -/
abbrev Ix.keyBrNext : Nat := 0x5025
/-- KEY.BR_ACT_FIRST, R185. -/
abbrev Ix.keyBrActFirst : Nat := 0x5026
/-- KEY.BR_ACT_COUNT, R185. -/
abbrev Ix.keyBrActCount : Nat := 0x5027
/-- KEY.BR_FIRED, R185. -/
abbrev Ix.keyBrFired : Nat := 0x5028
/-- KEY.CU_TYPE, R185. -/
abbrev Ix.keyCuType : Nat := 0x5100
/-- KEY.CU_ENABLE, R185. -/
abbrev Ix.keyCuEnable : Nat := 0x5101
/-- KEY.CU_SRC_A, R185. -/
abbrev Ix.keyCuSrcA : Nat := 0x5102
/-- KEY.CU_SRC_B, R185. -/
abbrev Ix.keyCuSrcB : Nat := 0x5103
/-- KEY.CU_MODE, R185. -/
abbrev Ix.keyCuMode : Nat := 0x5104
/-- KEY.CU_P1, R185. -/
abbrev Ix.keyCuP1 : Nat := 0x5105
/-- KEY.CU_P2, R185. -/
abbrev Ix.keyCuP2 : Nat := 0x5106
/-- KEY.CU_P3, R185. -/
abbrev Ix.keyCuP3 : Nat := 0x5107
/-- KEY.CU_STATE, R185. -/
abbrev Ix.keyCuState : Nat := 0x5108
/-- KEY.CU_GEN_A, R185. -/
abbrev Ix.keyCuGenA : Nat := 0x5109
/-- KEY.CU_GEN_B, R185. -/
abbrev Ix.keyCuGenB : Nat := 0x510A
/-- KEY.CU_OCCURRENCES, R185. -/
abbrev Ix.keyCuOccurrences : Nat := 0x510B
/-- ACT.OP, R207. -/
abbrev Ix.actOp : Nat := 0x5200
/-- ACT.ARG, R207. -/
abbrev Ix.actArg : Nat := 0x5204
/-- ACT.DELAY, R207. -/
abbrev Ix.actDelay : Nat := 0x5210
/-- ACT.STATE, R207. -/
abbrev Ix.actState : Nat := 0x5211
/-- ACT.SLOTS_BUSY, R207. -/
abbrev Ix.actSlotsBusy : Nat := 0x5212
/-- ACT.SLOTS_HWM, R207. -/
abbrev Ix.actSlotsHwm : Nat := 0x5213
/-- ACT.REFUSED, R207. -/
abbrev Ix.actRefused : Nat := 0x5214
/-- ACT.LAST_REFUSED, R207. -/
abbrev Ix.actLastRefused : Nat := 0x5215
/-- ACT.EXECUTED, R207. -/
abbrev Ix.actExecuted : Nat := 0x5216
/-- ACT.LATE, R207. -/
abbrev Ix.actLate : Nat := 0x5217
/-- ACT.PREEMPTED, R207. -/
abbrev Ix.actPreempted : Nat := 0x5218
/-- ACT.REJECTED_WRITES, R207. -/
abbrev Ix.actRejectedWrites : Nat := 0x5219
/-- ACT.LAST_REJECTED, R207. -/
abbrev Ix.actLastRejected : Nat := 0x521A
/-- ACT.USER_COUNT, R207. -/
abbrev Ix.actUserCount : Nat := 0x5220
/-- ACT.IRQ_COUNT, R207. -/
abbrev Ix.actIrqCount : Nat := 0x5222
/-- ACT.MARKOUT_SENT, R207. -/
abbrev Ix.actMarkoutSent : Nat := 0x5230
/-- ACT.MARKOUT_REFUSED, R207. -/
abbrev Ix.actMarkoutRefused : Nat := 0x5231
/-- VD.IN_ENABLE, R207. -/
abbrev Ix.vdInEnable : Nat := 0x5300
/-- VD.OUT_MODE, R207. -/
abbrev Ix.vdOutMode : Nat := 0x5301
/-- VD.DEGLITCH, R207. -/
abbrev Ix.vdDeglitch : Nat := 0x5302
/-- VD.ENABLE, R207. -/
abbrev Ix.vdEnable : Nat := 0x5303
/-- VD.INIT_LEVEL, R207. -/
abbrev Ix.vdInitLevel : Nat := 0x5304
/-- VD.SAFE_LEVEL, R207. -/
abbrev Ix.vdSafeLevel : Nat := 0x5305
/-- VD.SAFE_MODE, R207. -/
abbrev Ix.vdSafeMode : Nat := 0x5306
/-- VD.PIN_STATE, R207. -/
abbrev Ix.vdPinState : Nat := 0x5307
/-- VD.SAFE_ACTIVE, R207. -/
abbrev Ix.vdSafeActive : Nat := 0x5308
/-- VD.SAFE_RELEASE, R207. -/
abbrev Ix.vdSafeRelease : Nat := 0x5309
/-- VD.LEVEL, R207. -/
abbrev Ix.vdLevel : Nat := 0x530A
/-- VD.SAFE_ENTRIES, R207. -/
abbrev Ix.vdSafeEntries : Nat := 0x530B
/-- VD.RELEASE_REFUSED, R207. -/
abbrev Ix.vdReleaseRefused : Nat := 0x530C
/-- VD.REJECTED_WRITES, R207. -/
abbrev Ix.vdRejectedWrites : Nat := 0x530D
/-- VD.LAST_REJECTED, R207. -/
abbrev Ix.vdLastRejected : Nat := 0x530E
/-- CW.HORIZON, R156. -/
abbrev Ix.cwHorizon : Nat := 0x6000
/-- CW.STATE, R156. -/
abbrev Ix.cwState : Nat := 0x6001
/-- CW.OCCUPANCY, R156. -/
abbrev Ix.cwOccupancy : Nat := 0x6002
/-- CW.OCCUPANCY_HWM, R156. -/
abbrev Ix.cwOccupancyHwm : Nat := 0x6003
/-- CW.RELEASE_LAG_MAX, R156. -/
abbrev Ix.cwReleaseLagMax : Nat := 0x6004
/-- CW.ADMIT_WAITS, R156. -/
abbrev Ix.cwAdmitWaits : Nat := 0x6005
/-- CW.GAP_RECORDS, R156. -/
abbrev Ix.cwGapRecords : Nat := 0x6006
/-- CW.LOST_EVENTS, R156. -/
abbrev Ix.cwLostEvents : Nat := 0x6007
/-- CW.RWL_DEFERRED, R156. -/
abbrev Ix.cwRwlDeferred : Nat := 0x6008
/-- CW.LOAD_DISCARDS, R156. -/
abbrev Ix.cwLoadDiscards : Nat := 0x6009
/-- CW.LATE, R156. -/
abbrev Ix.cwLate : Nat := 0x600A
/-- CW.REJECTED_WRITES, R156. -/
abbrev Ix.cwRejectedWrites : Nat := 0x600B
/-- CW.LAST_REJECTED, R156. -/
abbrev Ix.cwLastRejected : Nat := 0x600C
/-- CW.SOURCE_GAPS, R156. -/
abbrev Ix.cwSourceGaps : Nat := 0x6010
/-- STREAM.ENABLE, R236. -/
abbrev Ix.streamEnable : Nat := 0x6100
/-- STREAM.STATE, R236. -/
abbrev Ix.streamState : Nat := 0x6101
/-- STREAM.OUTLETS, R236. -/
abbrev Ix.streamOutlets : Nat := 0x6102
/-- STREAM.BERYL_LEVEL, R236. -/
abbrev Ix.streamBerylLevel : Nat := 0x6103
/-- STREAM.UNSETTLED, R236. -/
abbrev Ix.streamUnsettled : Nat := 0x6104
/-- STREAM.FLUSH, R236. -/
abbrev Ix.streamFlush : Nat := 0x6105
/-- STREAM.FLUSHES, R236. -/
abbrev Ix.streamFlushes : Nat := 0x6106
/-- STREAM.FLUSH_EMPTY, R236. -/
abbrev Ix.streamFlushEmpty : Nat := 0x6107
/-- STREAM.REJECTED_WRITES, R236. -/
abbrev Ix.streamRejectedWrites : Nat := 0x6108
/-- STREAM.LAST_REJECTED, R236. -/
abbrev Ix.streamLastRejected : Nat := 0x6109
/-- STREAM.LAST_CLOSE, R236. -/
abbrev Ix.streamLastClose : Nat := 0x610A
/-- STREAM.SEQ_START, R236. -/
abbrev Ix.streamSeqStart : Nat := 0x6110
/-- STREAM.SEQ_NEXT, R236. -/
abbrev Ix.streamSeqNext : Nat := 0x6118
/-- STREAM.FRAMES, R236. -/
abbrev Ix.streamFrames : Nat := 0x6120
/-- STREAM.RECORDS, R236. -/
abbrev Ix.streamRecords : Nat := 0x6128
/-- STREAM.UNSETTLED_DROPPED, R236. -/
abbrev Ix.streamUnsettledDropped : Nat := 0x6130
/-- ROUTE.EDGE, R236. -/
abbrev Ix.routeEdge : Nat := 0x6200
/-- ROUTE.FC, R236. -/
abbrev Ix.routeFc : Nat := 0x6201
/-- ROUTE.SAMPLE, R236. -/
abbrev Ix.routeSample : Nat := 0x6202
/-- ROUTE.DSAMPLE, R236. -/
abbrev Ix.routeDsample : Nat := 0x6203
/-- ROUTE.STATUS, R236. -/
abbrev Ix.routeStatus : Nat := 0x6204
/-- ROUTE.INTERNAL, R236. -/
abbrev Ix.routeInternal : Nat := 0x6205
/-- BERYL.ENGINES_BUSY, R274. -/
abbrev Ix.berylEnginesBusy : Nat := 0x7000
/-- BERYL.QUEUE_HWM, R274. -/
abbrev Ix.berylQueueHwm : Nat := 0x7001
/-- BERYL.QUEUE_REFUSED, R274. -/
abbrev Ix.berylQueueRefused : Nat := 0x7002
/-- BERYL.RAW_FRAMES, R274. -/
abbrev Ix.berylRawFrames : Nat := 0x7010
/-- BERYL.IN_WORDS, R274. -/
abbrev Ix.berylInWords : Nat := 0x7018
/-- BERYL.OUT_WORDS, R274. -/
abbrev Ix.berylOutWords : Nat := 0x7020
/-- SPAN.BASE, R260. -/
abbrev Ix.spanBase : Nat := 0x7100
/-- SPAN.SIZE, R260. -/
abbrev Ix.spanSize : Nat := 0x7101
/-- SPAN.GAP_POLICY, R260. -/
abbrev Ix.spanGapPolicy : Nat := 0x7102
/-- SPAN.BUDGET_WINDOW, R260. -/
abbrev Ix.spanBudgetWindow : Nat := 0x7103
/-- SPAN.BUDGET_LIMIT, R260. -/
abbrev Ix.spanBudgetLimit : Nat := 0x7104
/-- SPAN.RESTART, R260. -/
abbrev Ix.spanRestart : Nat := 0x7105
/-- SPAN.STATE, R260. -/
abbrev Ix.spanState : Nat := 0x7106
/-- SPAN.FILL, R260. -/
abbrev Ix.spanFill : Nat := 0x7107
/-- SPAN.FILL_HWM, R260. -/
abbrev Ix.spanFillHwm : Nat := 0x7108
/-- SPAN.GAP_FRAMES, R260. -/
abbrev Ix.spanGapFrames : Nat := 0x7109
/-- SPAN.OVERFLOWS, R260. -/
abbrev Ix.spanOverflows : Nat := 0x710A
/-- SPAN.REFUSED_FRAMES, R260. -/
abbrev Ix.spanRefusedFrames : Nat := 0x7110
/-- SPAN.LOST_RECORDS, R260. -/
abbrev Ix.spanLostRecords : Nat := 0x7118
/-- SPAN.REGION_REFUSED, R260. -/
abbrev Ix.spanRegionRefused : Nat := 0x71F0
/-- SPAN.REGION_LAST, R260. -/
abbrev Ix.spanRegionLast : Nat := 0x71F1
/-- CAI.ENABLE, R260. -/
abbrev Ix.caiEnable : Nat := 0x7200
/-- CAI.BASE, R260. -/
abbrev Ix.caiBase : Nat := 0x7201
/-- CAI.DEPTH_LOG2, R260. -/
abbrev Ix.caiDepthLog2 : Nat := 0x7202
/-- CAI.RATE, R260. -/
abbrev Ix.caiRate : Nat := 0x7203
/-- CAI.FILTER, R260. -/
abbrev Ix.caiFilter : Nat := 0x7204
/-- CAI.FORMAT, R260. -/
abbrev Ix.caiFormat : Nat := 0x7205
/-- CAI.STATE, R260. -/
abbrev Ix.caiState : Nat := 0x7206
/-- CAI.BLOCKS, R260. -/
abbrev Ix.caiBlocks : Nat := 0x7207
/-- CAI.DECLINED_BUSY, R260. -/
abbrev Ix.caiDeclinedBusy : Nat := 0x7208
/-- CAI.SHORT_PRE, R260. -/
abbrev Ix.caiShortPre : Nat := 0x7209
/-- CAI.MISSING_WORDS, R260. -/
abbrev Ix.caiMissingWords : Nat := 0x720A
/-- CAI.DISCARDED, R260. -/
abbrev Ix.caiDiscarded : Nat := 0x720B
/-- CAI.DECLINED_INVALID, R260. -/
abbrev Ix.caiDeclinedInvalid : Nat := 0x720C
/-- CAI.REJECTED_WRITES, R260. -/
abbrev Ix.caiRejectedWrites : Nat := 0x720D
/-- CAI.LAST_REJECTED, R260. -/
abbrev Ix.caiLastRejected : Nat := 0x720E
/-- CAI.PROF_PIER, R260. -/
abbrev Ix.caiProfPier : Nat := 0x7220
/-- CAI.PROF_LANES, R260. -/
abbrev Ix.caiProfLanes : Nat := 0x7221
/-- CAI.PROF_PRE, R260. -/
abbrev Ix.caiProfPre : Nat := 0x7222
/-- CAI.PROF_POST, R260. -/
abbrev Ix.caiProfPost : Nat := 0x7223
/-- HIST.BASE, R260. -/
abbrev Ix.histBase : Nat := 0x7300
/-- HIST.SIZE, R260. -/
abbrev Ix.histSize : Nat := 0x7301
/-- HIST.OLDEST_SEQ, R260. -/
abbrev Ix.histOldestSeq : Nat := 0x7310
/-- HIST.NEWEST_SEQ, R260. -/
abbrev Ix.histNewestSeq : Nat := 0x7318
/-- HIST.HOST_BASE, R260. -/
abbrev Ix.histHostBase : Nat := 0x7320
/-- HIST.HOST_SIZE, R260. -/
abbrev Ix.histHostSize : Nat := 0x7321
/-- FETCH.REGION, R260. -/
abbrev Ix.fetchRegion : Nat := 0x7380
/-- FETCH.T_START, R260. -/
abbrev Ix.fetchTStart : Nat := 0x7381
/-- FETCH.T_END, R260. -/
abbrev Ix.fetchTEnd : Nat := 0x7382
/-- FETCH.EPOCH, R260. -/
abbrev Ix.fetchEpoch : Nat := 0x7383
/-- FETCH.SRC_FILTER, R260. -/
abbrev Ix.fetchSrcFilter : Nat := 0x7384
/-- FETCH.TYPE_FILTER, R260. -/
abbrev Ix.fetchTypeFilter : Nat := 0x7385
/-- FETCH.CMD, R260. -/
abbrev Ix.fetchCmd : Nat := 0x7386
/-- FETCH.STATE, R260. -/
abbrev Ix.fetchState : Nat := 0x7387
/-- FETCH.FIRST_SEQ, R260. -/
abbrev Ix.fetchFirstSeq : Nat := 0x7388
/-- FETCH.LAST_SEQ, R260. -/
abbrev Ix.fetchLastSeq : Nat := 0x7389
/-- FETCH.FAULTS, R260. -/
abbrev Ix.fetchFaults : Nat := 0x738A
/-- FETCH.SKIPPED, R260. -/
abbrev Ix.fetchSkipped : Nat := 0x738B
/-- FETCH.LAST_FAULT, R260. -/
abbrev Ix.fetchLastFault : Nat := 0x738C
/-- FETCH.LAST_FAULT_SEQ, R260. -/
abbrev Ix.fetchLastFaultSeq : Nat := 0x738D
/-- FETCH.REJECTED_WRITES, R260. -/
abbrev Ix.fetchRejectedWrites : Nat := 0x738E
/-- FETCH.LAST_REJECTED, R260. -/
abbrev Ix.fetchLastRejected : Nat := 0x738F
/-- MEM.CFG_SPEED, R293. -/
abbrev Ix.memCfgSpeed : Nat := 0x7400
/-- MEM.CFG_CHANNELS, R293. -/
abbrev Ix.memCfgChannels : Nat := 0x7401
/-- MEM.CFG_RANKS, R293. -/
abbrev Ix.memCfgRanks : Nat := 0x7402
/-- MEM.CFG_DENSITY, R293. -/
abbrev Ix.memCfgDensity : Nat := 0x7403
/-- MEM.SIZE, R293. -/
abbrev Ix.memSize : Nat := 0x7404
/-- MEM.STATE, R293. -/
abbrev Ix.memState : Nat := 0x7405
/-- MEM.DRAM_HOT, R293. -/
abbrev Ix.memDramHot : Nat := 0x7406
/-- MEM.CE_TOTAL, R293. -/
abbrev Ix.memCeTotal : Nat := 0x7410
/-- MEM.UE_TOTAL, R293. -/
abbrev Ix.memUeTotal : Nat := 0x7411
/-- MEM.CE_DEVICE, R293. -/
abbrev Ix.memCeDevice : Nat := 0x7412
/-- MEM.LAST_CE_ADDR, R293. -/
abbrev Ix.memLastCeAddr : Nat := 0x7413
/-- MEM.LAST_CE_INFO, R293. -/
abbrev Ix.memLastCeInfo : Nat := 0x7414
/-- MEM.LAST_UE_ADDR, R293. -/
abbrev Ix.memLastUeAddr : Nat := 0x7415
/-- MEM.LAST_UE_INFO, R293. -/
abbrev Ix.memLastUeInfo : Nat := 0x7416
/-- MEM.UE_LAST_SEQ, R293. -/
abbrev Ix.memUeLastSeq : Nat := 0x7417
/-- MEM.DEVICE_SUSPECT, R293. -/
abbrev Ix.memDeviceSuspect : Nat := 0x7418
/-- MEM.CE_THRESHOLD, R293. -/
abbrev Ix.memCeThreshold : Nat := 0x7419
/-- MEM.SUBSTITUTE_FRAMES, R293. -/
abbrev Ix.memSubstituteFrames : Nat := 0x741A
/-- MEM.SCRUB_PASSES, R293. -/
abbrev Ix.memScrubPasses : Nat := 0x7420
/-- MEM.SCRUB_PASS_TIME, R293. -/
abbrev Ix.memScrubPassTime : Nat := 0x7421
/-- MEM.SCRUB_POS, R293. -/
abbrev Ix.memScrubPos : Nat := 0x7422
/-- MEM.TIMING_OVR, R293. -/
abbrev Ix.memTimingOvr : Nat := 0x7430
/-- SRAM.CE_TOTAL, R293. -/
abbrev Ix.sramCeTotal : Nat := 0x7480
/-- SRAM.UE_TOTAL, R293. -/
abbrev Ix.sramUeTotal : Nat := 0x7481
/-- SRAM.LAST_INFO, R293. -/
abbrev Ix.sramLastInfo : Nat := 0x7482
/-- HOST.LINK_SPEED, R315. -/
abbrev Ix.hostLinkSpeed : Nat := 0x8000
/-- HOST.LINK_WIDTH, R315. -/
abbrev Ix.hostLinkWidth : Nat := 0x8001
/-- HOST.MAX_SPEED, R315. -/
abbrev Ix.hostMaxSpeed : Nat := 0x8002
/-- HOST.MAX_WIDTH, R315. -/
abbrev Ix.hostMaxWidth : Nat := 0x8003
/-- HOST.SUBSYS_ID, R315. -/
abbrev Ix.hostSubsysId : Nat := 0x8004
/-- HOST.BAR4_RESET_LOG2, R315. -/
abbrev Ix.hostBar4ResetLog2 : Nat := 0x8005
/-- HOST.LINK_STATE, R315. -/
abbrev Ix.hostLinkState : Nat := 0x8006
/-- HOST.LINK_DOWNS, R315. -/
abbrev Ix.hostLinkDowns : Nat := 0x8007
/-- HOST.PERST_COUNT, R315. -/
abbrev Ix.hostPerstCount : Nat := 0x8008
/-- HOST.HOT_RESETS, R315. -/
abbrev Ix.hostHotResets : Nat := 0x8009
/-- HOST.BAR0_IGNORED, R315. -/
abbrev Ix.hostBar0Ignored : Nat := 0x800A
/-- HOST.REJECTED_WRITES, R315. -/
abbrev Ix.hostRejectedWrites : Nat := 0x800B
/-- HOST.LAST_REJECTED, R315. -/
abbrev Ix.hostLastRejected : Nat := 0x800C
/-- WIN.ENABLE, R315. -/
abbrev Ix.winEnable : Nat := 0x8010
/-- WIN.STATE, R315. -/
abbrev Ix.winState : Nat := 0x8011
/-- WIN.SIZE_LOG2, R315. -/
abbrev Ix.winSizeLog2 : Nat := 0x8012
/-- WIN.WRITE, R315. -/
abbrev Ix.winWrite : Nat := 0x8013
/-- WIN.OFFSET, R315. -/
abbrev Ix.winOffset : Nat := 0x8014
/-- WIN.TARGET, R315. -/
abbrev Ix.winTarget : Nat := 0x801C
/-- WIN.REFUSED, R315. -/
abbrev Ix.winRefused : Nat := 0x8024
/-- WIN.LAST_REFUSED, R315. -/
abbrev Ix.winLastRefused : Nat := 0x8025
/-- WIN.MISS_NP, R315. -/
abbrev Ix.winMissNp : Nat := 0x8026
/-- WIN.MISS_P, R315. -/
abbrev Ix.winMissP : Nat := 0x8027
/-- WIN.MISS_LAST, R315. -/
abbrev Ix.winMissLast : Nat := 0x8028
/-- WIN.WRITE_BLOCKED, R315. -/
abbrev Ix.winWriteBlocked : Nat := 0x8029
/-- WIN.BLOCKED_LAST, R315. -/
abbrev Ix.winBlockedLast : Nat := 0x802A
/-- HOST.PORT_STATE, R341. -/
abbrev Ix.hostPortState : Nat := 0x8030
/-- HOST.FREEZE_MASK, R341. -/
abbrev Ix.hostFreezeMask : Nat := 0x8031
/-- HOST.FREEZE_TIME, R341. -/
abbrev Ix.hostFreezeTime : Nat := 0x8032
/-- HOST.FREEZES, R341. -/
abbrev Ix.hostFreezes : Nat := 0x8033
/-- HOST.RELEASE_REFUSED, R341. -/
abbrev Ix.hostReleaseRefused : Nat := 0x8034
/-- HOST.FROZEN_CA, R341. -/
abbrev Ix.hostFrozenCa : Nat := 0x8035
/-- HOST.READS_MAX, R341. -/
abbrev Ix.hostReadsMax : Nat := 0x8036
/-- HOST.TAG_WAITS, R341. -/
abbrev Ix.hostTagWaits : Nat := 0x8037
/-- HOST.CPL_TIMEOUTS, R341. -/
abbrev Ix.hostCplTimeouts : Nat := 0x8038
/-- HOST.POISONED_RX, R341. -/
abbrev Ix.hostPoisonedRx : Nat := 0x8039
/-- HOST.LATE_CPL, R341. -/
abbrev Ix.hostLateCpl : Nat := 0x803A
/-- HOST.UNEXPECTED_CPL, R341. -/
abbrev Ix.hostUnexpectedCpl : Nat := 0x803B
/-- HOST.IRQ_MODE, R341. -/
abbrev Ix.hostIrqMode : Nat := 0x803C
/-- IRQ.VECTOR, R341. -/
abbrev Ix.irqVector : Nat := 0x8040
/-- IRQ.ACK, R341. -/
abbrev Ix.irqAck : Nat := 0x8041
/-- IRQ.PENDING, R341. -/
abbrev Ix.irqPending : Nat := 0x8042
/-- IRQ.MIN_INTERVAL, R341. -/
abbrev Ix.irqMinInterval : Nat := 0x8043
/-- IRQ.MESSAGES, R341. -/
abbrev Ix.irqMessages : Nat := 0x8044
/-- RING.BYTES, R341. -/
abbrev Ix.ringBytes : Nat := 0x8050
/-- NET.PORT_ENABLE, R390. -/
abbrev Ix.netPortEnable : Nat := 0x9000
/-- NET.LINK, R390. -/
abbrev Ix.netLink : Nat := 0x9001
/-- NET.RING_ROLE, R390. -/
abbrev Ix.netRingRole : Nat := 0x9002
/-- NET.RING_STATE, R390. -/
abbrev Ix.netRingState : Nat := 0x9003
/-- NET.AUTH_REQUIRED, R390. -/
abbrev Ix.netAuthRequired : Nat := 0x9004
/-- NET.SESSION_IDLE, R390. -/
abbrev Ix.netSessionIdle : Nat := 0x9005
/-- NET.SESSIONS, R390. -/
abbrev Ix.netSessions : Nat := 0x9006
/-- NET.OWNER, R390. -/
abbrev Ix.netOwner : Nat := 0x9007
/-- NET.MARK_RX_ENABLE, R390. -/
abbrev Ix.netMarkRxEnable : Nat := 0x9008
/-- NET.OVERSIZE, R390. -/
abbrev Ix.netOversize : Nat := 0x9010
/-- NET.FCS_ERRORS, R390. -/
abbrev Ix.netFcsErrors : Nat := 0x9011
/-- NET.RING_OPENINGS, R390. -/
abbrev Ix.netRingOpenings : Nat := 0x9012
/-- NET.MARK_DUPLICATES, R390. -/
abbrev Ix.netMarkDuplicates : Nat := 0x9013
/-- NET.EVENT_RESENDS, R390. -/
abbrev Ix.netEventResends : Nat := 0x9014
/-- NET.ABORTS_SENT, R390. -/
abbrev Ix.netAbortsSent : Nat := 0x9015
/-- NET.PTP_MALFORMED, R390. -/
abbrev Ix.netPtpMalformed : Nat := 0x9016
/-- PTP.DOMAIN, R57. -/
abbrev Ix.ptpDomain : Nat := 0x9200
/-- PTP.PROFILE, R57. -/
abbrev Ix.ptpProfile : Nat := 0x9201
/-- PTP.TRANSPORT, R57. -/
abbrev Ix.ptpTransport : Nat := 0x9202
/-- PTP.LOG_SYNC_INTERVAL, R57. -/
abbrev Ix.ptpLogSyncInterval : Nat := 0x9203
/-- PTP.TX_DELAY_EXT, R57. -/
abbrev Ix.ptpTxDelayExt : Nat := 0x9204
/-- PTP.RX_DELAY_EXT, R57. -/
abbrev Ix.ptpRxDelayExt : Nat := 0x9205
/-- PTP.ASYM_COEFF, R57. -/
abbrev Ix.ptpAsymCoeff : Nat := 0x9206
/-- PTP.PORT_STATE, R57. -/
abbrev Ix.ptpPortState : Nat := 0x9207
/-- PTP.PRIORITY1, R57. -/
abbrev Ix.ptpPriority1 : Nat := 0x9208
/-- PTP.PRIORITY2, R57. -/
abbrev Ix.ptpPriority2 : Nat := 0x9209
/-- PTP.TWO_STEP, R57. -/
abbrev Ix.ptpTwoStep : Nat := 0x920A
/-- PTP.EXT_PORT_CONFIG, R57. -/
abbrev Ix.ptpExtPortConfig : Nat := 0x920B
/-- SYNCE.REF_SELECT, R57. -/
abbrev Ix.synceRefSelect : Nat := 0x920C
/-- SYNCE.QL_RX, R57. -/
abbrev Ix.synceQlRx : Nat := 0x920D
/-- SYNCE.QL_XA, R57. -/
abbrev Ix.synceQlXa : Nat := 0x920E
/-- CAL.OFFSET_USER, R135. -/
abbrev Ix.calOffsetUser : Nat := 0xA000
/-- CAL.GAIN_USER, R135. -/
abbrev Ix.calGainUser : Nat := 0xA001
/-- CAL.USER_COMMIT, R135. -/
abbrev Ix.calUserCommit : Nat := 0xA002
/-- CAL.OFFSET_FACTORY, R135. -/
abbrev Ix.calOffsetFactory : Nat := 0xA010
/-- CAL.GAIN_FACTORY, R135. -/
abbrev Ix.calGainFactory : Nat := 0xA018
/-- CAL.CF_FACTORY, R135. -/
abbrev Ix.calCfFactory : Nat := 0xA020
/-- CAL.RIN_FACTORY, R135. -/
abbrev Ix.calRinFactory : Nat := 0xA021
/-- CAL.REF_FACTORY, R135. -/
abbrev Ix.calRefFactory : Nat := 0xA024
/-- CURVE.X, R135. -/
abbrev Ix.curveX : Nat := 0xA100
/-- CURVE.Y, R135. -/
abbrev Ix.curveY : Nat := 0xA108
/-- CURVE.REJECTED_WRITES, R135. -/
abbrev Ix.curveRejectedWrites : Nat := 0xA110
/-- CURVE.LAST_REJECTED, R135. -/
abbrev Ix.curveLastRejected : Nat := 0xA111
/-- STORE.STATE, R436. -/
abbrev Ix.storeState : Nat := 0xB000
/-- STORE.SAVE_INTERVAL, R436. -/
abbrev Ix.storeSaveInterval : Nat := 0xB001
/-- STORE.REQUIRE_SIGNED, R436. -/
abbrev Ix.storeRequireSigned : Nat := 0xB002
/-- STORE.SAVE_CMD, R436. -/
abbrev Ix.storeSaveCmd : Nat := 0xB003
/-- STORE.LOAD_CMD, R436. -/
abbrev Ix.storeLoadCmd : Nat := 0xB004
/-- STORE.LAST_RESULT, R436. -/
abbrev Ix.storeLastResult : Nat := 0xB005
/-- STORE.COPY_SEQ, R436. -/
abbrev Ix.storeCopySeq : Nat := 0xB006
/-- STORE.COPY_SLOT, R436. -/
abbrev Ix.storeCopySlot : Nat := 0xB007
/-- STORE.REGION_WRITES, R436. -/
abbrev Ix.storeRegionWrites : Nat := 0xB008
/-- STORE.SLOTS_RETIRED, R436. -/
abbrev Ix.storeSlotsRetired : Nat := 0xB009
/-- STORE.AGE, R436. -/
abbrev Ix.storeAge : Nat := 0xB00A
/-- STORE.BOOT_COUNT, R436. -/
abbrev Ix.storeBootCount : Nat := 0xB00B
/-- STORE.REFRESHES, R436. -/
abbrev Ix.storeRefreshes : Nat := 0xB00C
/-- STORE.LOAD_SKIPPED, R436. -/
abbrev Ix.storeLoadSkipped : Nat := 0xB00D
/-- STORE.BOOT_SOURCE, R436. -/
abbrev Ix.storeBootSource : Nat := 0xB00E
/-- SEC.DEVICE_PUBKEY, R436. -/
abbrev Ix.secDevicePubkey : Nat := 0xB010
/-- SEC.DEVICE_CERT, R436. -/
abbrev Ix.secDeviceCert : Nat := 0xB011
/-- SEC.FW_KEY, R436. -/
abbrev Ix.secFwKey : Nat := 0xB012
/-- FW.ACTIVE_SLOT, R436. -/
abbrev Ix.fwActiveSlot : Nat := 0xB020
/-- FW.VERSION, R436. -/
abbrev Ix.fwVersion : Nat := 0xB021
/-- FW.SEC_VERSION, R436. -/
abbrev Ix.fwSecVersion : Nat := 0xB022
/-- FW.FUSE_COUNT, R436. -/
abbrev Ix.fwFuseCount : Nat := 0xB023
/-- FW.STATE, R436. -/
abbrev Ix.fwState : Nat := 0xB024
/-- FW.CONFIRM_TIME, R436. -/
abbrev Ix.fwConfirmTime : Nat := 0xB025
/-- FW.REVERTS, R436. -/
abbrev Ix.fwReverts : Nat := 0xB026
/-- SEC.MASTER_KEY, R436. -/
abbrev Ix.secMasterKey : Nat := 0xB100
/-- DICT.SNAPSHOT, R367. -/
abbrev Ix.dictSnapshot : Nat := 0xC000
/-- DICT.SNAP_SEQ, R367. -/
abbrev Ix.dictSnapSeq : Nat := 0xC001
/-- DICT.SNAP_TIME, R367. -/
abbrev Ix.dictSnapTime : Nat := 0xC002
/-- DICT.VIEW, R367. -/
abbrev Ix.dictView : Nat := 0xC003
/-- DICT.LATCH, R367. -/
abbrev Ix.dictLatch : Nat := 0xC004
/-- DICT.SAT_COUNT, R367. -/
abbrev Ix.dictSatCount : Nat := 0xC005
/-- DICT.SAT_LAST, R367. -/
abbrev Ix.dictSatLast : Nat := 0xC006
/-- DICT.DANGER_WRITES, R367. -/
abbrev Ix.dictDangerWrites : Nat := 0xC007
/-- DICT.DANGER_LAST, R367. -/
abbrev Ix.dictDangerLast : Nat := 0xC008
/-- DICT.DANGER_TIME, R367. -/
abbrev Ix.dictDangerTime : Nat := 0xC009
/-- DICT.WIDE_REFUSED, R367. -/
abbrev Ix.dictWideRefused : Nat := 0xC00A
/-- DICT.UNLATCHED, R367. -/
abbrev Ix.dictUnlatched : Nat := 0xC00B
/-- DICT.BROADCAST_REFUSED, R367. -/
abbrev Ix.dictBroadcastRefused : Nat := 0xC00C
/-- DICT.IGNORED_WRITES, R367. -/
abbrev Ix.dictIgnoredWrites : Nat := 0xC00D
/-- DICT.REJECTED_WRITES, R367. -/
abbrev Ix.dictRejectedWrites : Nat := 0xC00E
/-- DICT.LAST_REJECTED, R367. -/
abbrev Ix.dictLastRejected : Nat := 0xC00F
/-- START.STEP, R451. -/
abbrev Ix.startStep : Nat := 0xC020
/-- START.STEP_END, R451. -/
abbrev Ix.startStepEnd : Nat := 0xC021
/-- START.RESULT, R451. -/
abbrev Ix.startResult : Nat := 0xC02A
/-- START.STRAPS, R451. -/
abbrev Ix.startStraps : Nat := 0xC02B
/-- START.XA_RETRIES, R451. -/
abbrev Ix.startXaRetries : Nat := 0xC02C
/-- START.OTP_FAULTS, R451. -/
abbrev Ix.startOtpFaults : Nat := 0xC02D
/-- START.RESET_CAUSE, R451. -/
abbrev Ix.startResetCause : Nat := 0xC02E
/-- START.MODE, R451. -/
abbrev Ix.startMode : Nat := 0xC02F
/-- REG.TMR_CORRECTED, R293. -/
abbrev Ix.regTmrCorrected : Nat := 0xC040
/-- REG.TMR_LAST, R293. -/
abbrev Ix.regTmrLast : Nat := 0xC041
/-- REG.TMR_FATAL, R293. -/
abbrev Ix.regTmrFatal : Nat := 0xC042
/-- REG.TMR_FATAL_LAST, R293. -/
abbrev Ix.regTmrFatalLast : Nat := 0xC043
/-- DIAG.TJ, R469. -/
abbrev Ix.diagTj : Nat := 0xC050
/-- DIAG.TJ_MAX, R469. -/
abbrev Ix.diagTjMax : Nat := 0xC051
/-- DIAG.TJ_OVER, R469. -/
abbrev Ix.diagTjOver : Nat := 0xC052
/-- DIAG.TJ_HOURS, R469. -/
abbrev Ix.diagTjHours : Nat := 0xC053
/-- DIAG.LIFE_USED, R469. -/
abbrev Ix.diagLifeUsed : Nat := 0xC054
/-- DIAG.RAIL_LOW, R469. -/
abbrev Ix.diagRailLow : Nat := 0xC055
/-- DIAG.RAIL_EVENTS, R469. -/
abbrev Ix.diagRailEvents : Nat := 0xC056
/-- PFL.ENTRY, R390. -/
abbrev Ix.pflEntry : Nat := 0xC100
/-- PFL.WRITTEN, R390. -/
abbrev Ix.pflWritten : Nat := 0xC140
/-- PFL.SUPPRESSED, R390. -/
abbrev Ix.pflSuppressed : Nat := 0xC141
/-- PFL.KIND_COUNT, R390. -/
abbrev Ix.pflKindCount : Nat := 0xC142

/-- Rows at 1000h. -/
def params10 : List Param := [
  ⟨Ix.idVendor, 0, 0, 0, .u16, .ro, (.const 7863), 0, 65535, 0⟩,
  ⟨Ix.idDevice, 0, 0, 0, .u16, .ro, (.const 402), 0, 65535, 0⟩,
  ⟨Ix.idSiliconRev, 0, 0, 0, .u8, .ro, (.const 2), 0, 255, 0⟩,
  ⟨Ix.idOrderCode, 0, 0, 0, .u8, .ro, .otp, 0, 255, 0⟩,
  ⟨Ix.idOrderName, 0, 0, 3, .string, .ro, .otp, 0, 4294967295, 0⟩,
  ⟨Ix.idSerial, 0, 0, 1, .u64, .ro, .otp, 0, 18446744073709551615, 0⟩,
  ⟨Ix.idChipNum, 0, 0, 0, .u16, .rwd, (.const 0), 0, 65535, 0⟩,
  ⟨Ix.idFwVersion, 0, 0, 0, .u32, .ro, (.const 0), 0, 4294967295, 0⟩,
  ⟨Ix.idDictEntries, 0, 0, 0, .u16, .ro, (.const 2703), 0, 65535, 0⟩,
  ⟨Ix.idRomCrc, 0, 0, 0, .u32, .ro, .otp, 0, 4294967295, 0⟩,
  ⟨Ix.netMac, 0, 0, 1, .u64, .ro, .otp, 0, 18446744073709551615, 0⟩,
  ⟨Ix.netIp4Addr, 0, 0, 0, .u32, .rw, (.const 0), 0, 4294967295, 0⟩,
  ⟨Ix.netIp4Mask, 0, 0, 0, .u32, .rw, (.const 4294967040), 0, 4294967295, 0⟩,
  ⟨Ix.netIp4Gateway, 0, 0, 0, .u32, .rw, (.const 0), 0, 4294967295, 0⟩,
  ⟨Ix.netIp6Prefix, 0, 0, 1, .u64, .rw, (.const 0), 0, 18446744073709551615, 0⟩,
  ⟨Ix.netIp6Iid, 0, 0, 1, .u64, .rw, .eui64, 0, 18446744073709551615, 0⟩,
  ⟨Ix.netUdpPort, 0, 0, 0, .u16, .rw, (.const 47210), 0, 65535, 0⟩]

/-- Rows at 2000h. -/
def params20a : List Param := [
  ⟨Ix.pwrState, 0, 0, 0, .u8, .ro, (.const 0), 0, 255, 8⟩,
  ⟨Ix.pwrCmd, 0, 0, 0, .u8, .wo, (.const 0), 0, 3, 8⟩,
  ⟨Ix.pwrBootState, 0, 0, 0, .u8, .rw, (.const 3), 0, 3, 8⟩,
  ⟨Ix.pwrWakeTarget, 0, 0, 0, .u8, .rw, (.const 1), 0, 3, 8⟩,
  ⟨Ix.pwrWakeEnable, 0, 0, 0, .bits, .rw, (.const 0), 0, 7, 8⟩,
  ⟨Ix.pwrWakeLanes, 0, 0, 5, .bits, .rw, (.const 0), 0, 4294967295, 8⟩,
  ⟨Ix.pwrWakeAt, 0, 0, 2, .t72, .rw, (.const 0), 0, 4722366482869645213695, 8⟩,
  ⟨Ix.pwrWakeCause, 0, 0, 0, .u8, .ro, (.const 0), 0, 255, 8⟩,
  ⟨Ix.pwrPierState, 0, 0, 23, .u8, .ro, (.const 0), 0, 255, 8⟩,
  ⟨Ix.pwrPierCmd, 0, 0, 23, .u8, .wo, (.const 0), 0, 2, 8⟩,
  ⟨Ix.pwrPierBoot, 0, 0, 23, .u8, .rw, (.const 2), 0, 2, 8⟩,
  ⟨Ix.pwrPierTarget, 0, 0, 23, .u8, .ro, (.const 2), 0, 255, 8⟩,
  ⟨Ix.clkJasperPoint, 0, 0, 0, .u8, .rw, (.const 0), 0, 3, 8⟩,
  ⟨Ix.clkJasperNow, 0, 0, 0, .u8, .ro, (.const 3), 0, 255, 8⟩,
  ⟨Ix.clkVselCode, 0, 0, 3, .u8, .rw, (.list [3, 2, 1, 0]), 0, 15, 8⟩,
  ⟨Ix.clkVselDwell, 0, 0, 0, .u16, .rw, (.const 50), 0, 65535, 8⟩,
  ⟨Ix.clkPgoodTimeout, 0, 0, 0, .u16, .rw, (.const 200), 0, 65535, 8⟩,
  ⟨Ix.clkDvfsFails, 0, 0, 0, .u32, .cntS, (.const 0), 0, 4294967295, 8⟩,
  ⟨Ix.clkPgoodLosses, 0, 0, 0, .u32, .cntS, (.const 0), 0, 4294967295, 8⟩,
  ⟨Ix.clkXaStartup, 0, 0, 0, .u32, .rw, (.const 64000), 250, 64000, 8⟩]

/-- Rows at 2000h. -/
def params20b : List Param := [
  ⟨Ix.clkXbStartup, 0, 0, 0, .u32, .rw, (.const 64000), 250, 64000, 8⟩,
  ⟨Ix.clkXaMult, 0, 0, 0, .u8, .rw, (.const 10), 10, 40, 10⟩,
  ⟨Ix.clkOpalSrc, 0, 0, 0, .u8, .rwd, (.const 0), 0, 1, 2⟩,
  ⟨Ix.clkFroAlways, 0, 0, 0, .u8, .rw, (.const 0), 0, 1, 8⟩,
  ⟨Ix.clkReady, 0, 0, 0, .bits, .st, (.const 0), 0, 4294967295, 8⟩,
  ⟨Ix.clkDomainGood, 0, 0, 0, .bits, .st, (.const 0), 0, 4294967295, 8⟩,
  ⟨Ix.clkFallbackState, 0, 0, 0, .u8, .ro, (.const 0), 0, 255, 8⟩,
  ⟨Ix.clkAutoReturn, 0, 0, 0, .u8, .rwd, (.const 1), 0, 1, 0⟩,
  ⟨Ix.clkXaRecover, 0, 0, 0, .u32, .rwd, (.const 100), 0, 4294967295, 0⟩,
  ⟨Ix.clkReturn, 0, 0, 0, .u8, .wo, (.const 0), 1, 1, 8⟩,
  ⟨Ix.clkFailures, 0, 0, 0, .u32, .cntS, (.const 0), 0, 4294967295, 8⟩,
  ⟨Ix.clkLastFailure, 0, 0, 0, .u32, .ro, (.const 0), 0, 4294967295, 8⟩,
  ⟨Ix.clkFailureTime, 0, 0, 2, .t72, .ro, (.const 0), 0, 4722366482869645213695, 8⟩,
  ⟨Ix.clkForceSrc, 0, 0, 1, .u8, .rw, (.const 0), 0, 4, 11⟩,
  ⟨Ix.clkPllLockMode, 0, 0, 4, .u8, .rwd, (.const 0), 0, 1, 0⟩,
  ⟨Ix.clkPllLockWindow, 0, 0, 4, .u16, .rwd, (.list [20, 50, 20, 100, 20]), 0, 65535, 0⟩,
  ⟨Ix.clkPllLockCount, 0, 0, 4, .u16, .rwd, (.list [4096, 1024, 1024, 128, 1024]), 0, 65535, 0⟩,
  ⟨Ix.clkPllState, 0, 0, 4, .u8, .ro, (.const 0), 0, 255, 8⟩,
  ⟨Ix.clkPllLockTime, 0, 0, 4, .u32, .ro, (.const 0), 0, 4294967295, 8⟩,
  ⟨Ix.clkPllLosses, 0, 0, 4, .u32, .cntS, (.const 0), 0, 4294967295, 8⟩]

/-- Rows at 2000h. -/
def params20c : List Param := [
  ⟨Ix.clkRefused, 0, 0, 0, .u32, .cntS, (.const 0), 0, 4294967295, 8⟩,
  ⟨Ix.clkLastRefused, 0, 0, 0, .u32, .ro, (.const 0), 0, 4294967295, 8⟩,
  ⟨Ix.clkGovRefused, 0, 0, 0, .u32, .cntS, (.const 0), 0, 4294967295, 8⟩,
  ⟨Ix.clkCrossingResets, 0, 0, 0, .u32, .cntS, (.const 0), 0, 4294967295, 8⟩,
  ⟨Ix.clkXingDiscards, 0, 0, 0, .u32, .cntS, (.const 0), 0, 4294967295, 8⟩]

/-- All rows at 2000h. -/
def params20 : List Param := params20a ++ params20b ++ params20c

/-- Rows at 2100h. -/
def params21a : List Param := [
  ⟨Ix.timeNow, 0, 0, 2, .t72, .ro, (.const 0), 0, 4722366482869645213695, 0⟩,
  ⟨Ix.timeQuality, 0, 0, 0, .u8, .ro, (.const 0), 0, 255, 0⟩,
  ⟨Ix.timeSyncState, 0, 0, 0, .u8, .ro, (.const 0), 0, 255, 0⟩,
  ⟨Ix.timeLoadValue, 0, 0, 2, .t72, .rwd, (.const 0), 0, 4722366482869645213695, 0⟩,
  ⟨Ix.timeLoadAt, 0, 0, 2, .t72, .rwd, (.const 0), 0, 4722366482869645213695, 0⟩,
  ⟨Ix.timeLoadMode, 0, 0, 0, .u8, .rwd, (.const 0), 0, 2, 0⟩,
  ⟨Ix.timeLoadCmd, 0, 0, 0, .u8, .wo, (.const 0), 1, 1, 0⟩,
  ⟨Ix.timeTimescale, 0, 0, 0, .u8, .rwd, (.const 0), 0, 1, 0⟩,
  ⟨Ix.timeServoEnable, 0, 0, 0, .u8, .rwl, (.const 0), 0, 1, 0⟩,
  ⟨Ix.timeStepMode, 0, 0, 0, .u8, .rwd, (.const 1), 0, 2, 0⟩,
  ⟨Ix.timeStepThreshold, 0, 0, 0, .u32, .rwd, (.const 1000), 0, 4294967295, 0⟩,
  ⟨Ix.timeSlewMax, 0, 0, 0, .u16, .rwd, (.const 100), 1, 1000, 0⟩,
  ⟨Ix.timeLockWindow, 0, 0, 0, .u32, .rwd, (.const 256), 0, 4294967295, 0⟩,
  ⟨Ix.timeOffset, 0, 0, 0, .i32, .ro, (.const 0), -2147483648, 2147483647, 0⟩,
  ⟨Ix.timeEpochNum, 0, 0, 0, .u16, .ro, (.const 0), 0, 65535, 0⟩,
  ⟨Ix.timeSteps, 0, 0, 0, .u32, .cntS, (.const 0), 0, 4294967295, 0⟩,
  ⟨Ix.timeTdcCalFreeze, 0, 0, 200, .u8, .rw, (.const 0), 0, 1, 5⟩,
  ⟨Ix.timeTdcDnlMax, 0, 0, 200, .u16, .ro, (.const 0), 0, 65535, 0⟩,
  ⟨Ix.timeDpLost, 0, 0, 200, .u32, .cntS, (.const 0), 0, 4294967295, 0⟩,
  ⟨Ix.timeLaneSkew, 0, 0, 200, .i32, .rwd, (.const 0), -2147483648, 2147483647, 0⟩]

/-- Rows at 2100h. -/
def params21b : List Param := [
  ⟨Ix.timeXbTrim, 0, 0, 0, .i32, .ro, (.const 0), -2147483648, 2147483647, 0⟩,
  ⟨Ix.timeSroTrim, 0, 0, 0, .i32, .ro, (.const 0), -2147483648, 2147483647, 0⟩,
  ⟨Ix.timeSlewTicks, 0, 0, 1, .u64, .cntW, (.const 0), 0, 18446744073709551615, 0⟩,
  ⟨Ix.timePpsPeriod, 0, 0, 1, .u64, .rw, (.const 256000000000), 0, 18446744073709551615, 0⟩,
  ⟨Ix.timePpsPhase, 0, 0, 1, .u64, .rw, (.const 0), 0, 18446744073709551615, 0⟩,
  ⟨Ix.timePpsWidth, 0, 0, 0, .u32, .rw, (.const 100000), 0, 4294967295, 0⟩,
  ⟨Ix.timePpsOutEnable, 0, 0, 0, .u8, .rw, (.const 0), 0, 1, 0⟩,
  ⟨Ix.timePpsInMode, 0, 0, 0, .u8, .rwd, (.const 0), 0, 2, 0⟩,
  ⟨Ix.timePpsInLast, 0, 0, 2, .t72, .ro, (.const 0), 0, 4722366482869645213695, 0⟩,
  ⟨Ix.timeLoadState, 0, 0, 0, .u8, .ro, (.const 0), 0, 255, 0⟩,
  ⟨Ix.timeLoadCancelled, 0, 0, 0, .u32, .cntS, (.const 0), 0, 4294967295, 0⟩,
  ⟨Ix.timeRejectedWrites, 0, 0, 0, .u32, .cntS, (.const 0), 0, 4294967295, 0⟩,
  ⟨Ix.timeLastRejected, 0, 0, 0, .u32, .ro, (.const 0), 0, 4294967295, 0⟩]

/-- All rows at 2100h. -/
def params21 : List Param := params21a ++ params21b

/-- Rows at 3000h. -/
def params30a : List Param := [
  ⟨Ix.laneRole, 0, 0, 191, .u8, .rwd, (.const 0), 0, 6, 6⟩,
  ⟨Ix.laneEnable, 0, 0, 191, .u8, .rwl, (.const 0), 0, 1, 4⟩,
  ⟨Ix.laneRoleGen, 0, 0, 191, .u16, .ro, (.const 0), 0, 65535, 4⟩,
  ⟨Ix.laneState, 0, 0, 191, .u8, .ro, (.const 0), 0, 255, 4⟩,
  ⟨Ix.laneRejectedWrites, 0, 0, 191, .u32, .cntS, (.const 0), 0, 4294967295, 4⟩,
  ⟨Ix.laneLastRejected, 0, 0, 191, .u32, .ro, (.const 0), 0, 4294967295, 4⟩,
  ⟨Ix.laneThrHi, 0, 0, 191, .u16, .rwl, (.const 1600), 0, 4095, 4⟩,
  ⟨Ix.laneThrLo, 0, 0, 191, .u16, .rwl, (.const 1040), 0, 4095, 4⟩,
  ⟨Ix.laneDeglitch, 0, 0, 191, .u8, .rwd, (.const 0), 0, 100, 4⟩,
  ⟨Ix.laneDcapMode, 0, 0, 191, .u8, .rwd, (.const 0), 0, 2, 4⟩,
  ⟨Ix.laneDsampK, 0, 0, 191, .u8, .rwd, (.const 0), 0, 20, 4⟩,
  ⟨Ix.laneTLevel, 0, 0, 191, .u8, .ro, (.const 0), 0, 255, 4⟩,
  ⟨Ix.laneGlitches, 0, 0, 191, .u32, .cntS, (.const 0), 0, 4294967295, 4⟩,
  ⟨Ix.laneBufDrops, 0, 0, 191, .u32, .cntS, (.const 0), 0, 4294967295, 4⟩,
  ⟨Ix.laneBufHwm, 0, 0, 191, .u16, .ro, (.const 0), 0, 65535, 20⟩,
  ⟨Ix.laneFcEnable, 0, 0, 191, .u8, .rwd, (.const 0), 0, 1, 4⟩,
  ⟨Ix.laneFcLo, 0, 0, 191, .u16, .rwl, (.const 0), 0, 4095, 4⟩,
  ⟨Ix.laneFcHi, 0, 0, 191, .u16, .rwl, (.const 4095), 0, 4095, 4⟩,
  ⟨Ix.laneFcHyst, 0, 0, 191, .u8, .rwl, (.const 4), 0, 255, 4⟩,
  ⟨Ix.laneFcZone, 0, 0, 191, .u8, .ro, (.const 1), 0, 255, 4⟩]

/-- Rows at 3000h. -/
def params30b : List Param := [
  ⟨Ix.guardEnable, 0, 0, 191, .u8, .rwl, (.const 0), 0, 1, 6⟩,
  ⟨Ix.guardMode, 0, 0, 191, .u8, .rwd, (.const 0), 0, 1, 4⟩,
  ⟨Ix.guardSafeLevel, 0, 0, 191, .u8, .rwd, (.const 2), 0, 2, 6⟩,
  ⟨Ix.guardSafeMode, 0, 0, 191, .u8, .rwd, (.const 0), 0, 1, 6⟩,
  ⟨Ix.guardInitLevel, 0, 0, 191, .u8, .rwd, (.const 0), 0, 2, 4⟩,
  ⟨Ix.guardPinState, 0, 0, 191, .u8, .ro, (.const 2), 0, 255, 4⟩,
  ⟨Ix.guardSafeActive, 0, 0, 191, .u8, .st, (.const 0), 0, 255, 4⟩,
  ⟨Ix.guardSafeRelease, 0, 0, 191, .u8, .wo, (.const 0), 1, 1, 4⟩,
  ⟨Ix.guardForce, 0, 0, 191, .u8, .rw, (.const 0), 0, 3, 5⟩,
  ⟨Ix.guardSafeOverride, 0, 0, 191, .u8, .rw, (.const 0), 0, 1, 5⟩,
  ⟨Ix.guardSafeEntries, 0, 0, 191, .u32, .cntS, (.const 0), 0, 4294967295, 4⟩,
  ⟨Ix.guardReleaseRefused, 0, 0, 191, .u32, .cntS, (.const 0), 0, 4294967295, 4⟩,
  ⟨Ix.guardSafeAll, 0, 0, 0, .u8, .wo, (.const 0), 1, 1, 0⟩,
  ⟨Ix.laneInPos, 0, 0, 191, .u8, .rwd, (.step 0 2 8), 0, 255, 4⟩,
  ⟨Ix.laneInNeg, 0, 0, 191, .u8, .rwd, (.step 1 2 8), 0, 255, 4⟩,
  ⟨Ix.laneRange, 0, 0, 191, .u8, .rwd, (.const 0), 0, 4, 4⟩,
  ⟨Ix.laneCaSel, 0, 0, 191, .u8, .rwd, (.const 0), 0, 1, 4⟩,
  ⟨Ix.laneToneCheck, 0, 0, 191, .u8, .rwd, (.const 0), 0, 1, 4⟩,
  ⟨Ix.laneOpenOhms, 0, 0, 191, .u32, .rwl, (.const 50000), 0, 4294967295, 4⟩,
  ⟨Ix.laneToneZ, 0, 0, 191, .u32, .ro, (.const 0), 0, 4294967295, 4⟩]

/-- Rows at 3000h. -/
def params30c : List Param := [
  ⟨Ix.laneWireOpen, 0, 0, 191, .u8, .st, (.const 0), 0, 255, 4⟩,
  ⟨Ix.laneWireOpenEvents, 0, 0, 191, .u32, .cntS, (.const 0), 0, 4294967295, 4⟩,
  ⟨Ix.laneRate, 0, 0, 191, .u8, .rwd, (.const 10), 0, 20, 4⟩,
  ⟨Ix.laneFilter, 0, 0, 191, .u8, .rwd, (.const 0), 0, 1, 4⟩,
  ⟨Ix.laneOutFormat, 0, 0, 191, .u8, .rwd, (.const 1), 0, 1, 4⟩,
  ⟨Ix.laneCurve, 0, 0, 191, .u8, .rwd, (.const 0), 0, 255, 4⟩,
  ⟨Ix.laneCjLane, 0, 0, 191, .u8, .rwd, (.const 255), 0, 255, 4⟩,
  ⟨Ix.laneCjFixed, 0, 0, 191, .f32, .rwl, (.const 0x41C80000), 0, 4294967295, 4⟩,
  ⟨Ix.laneRatio, 0, 0, 191, .u8, .rwd, (.const 0), 0, 2, 4⟩,
  ⟨Ix.laneDeadband, 0, 0, 191, .f32, .rwl, (.const 0x00000000), 0, 4294967295, 4⟩,
  ⟨Ix.laneHeartbeat, 0, 0, 191, .u32, .rwl, (.const 0), 0, 4294967295, 4⟩,
  ⟨Ix.laneSlice, 0, 0, 191, .u8, .ro, (.step 0 1 8), 0, 255, 4⟩,
  ⟨Ix.laneCalMismatch, 0, 0, 191, .u8, .st, (.const 0), 0, 255, 4⟩,
  ⟨Ix.laneRotAborts, 0, 0, 191, .u32, .cntS, (.const 0), 0, 4294967295, 4⟩,
  ⟨Ix.laneRotLastDiff, 0, 0, 191, .i32, .ro, (.const 0), -2147483648, 2147483647, 4⟩,
  ⟨Ix.laneSuppressed, 0, 0, 191, .u64, .cntW, (.const 0), 0, 18446744073709551615, 36⟩,
  ⟨Ix.laneCoefA, 0, 0, 191, .f32, .rwd, (.const 0x00000000), 0, 4294967295, 4⟩,
  ⟨Ix.laneCoefB, 0, 0, 191, .f32, .rwd, (.const 0x00000000), 0, 4294967295, 4⟩,
  ⟨Ix.laneCoefC, 0, 0, 191, .f32, .rwd, (.const 0x00000000), 0, 4294967295, 4⟩]

/-- All rows at 3000h. -/
def params30 : List Param := params30a ++ params30b ++ params30c

/-- Rows at 4000h. -/
def params40a : List Param := [
  ⟨Ix.pierRouteRefused, 0, 0, 23, .u32, .cntS, (.const 0), 0, 4294967295, 0⟩,
  ⟨Ix.pierRouteLast, 0, 0, 23, .u32, .ro, (.const 0), 0, 4294967295, 0⟩,
  ⟨Ix.pierClampActive, 0, 0, 23, .bits, .st, (.const 0), 0, 4294967295, 0⟩,
  ⟨Ix.pierClampEvents, 0, 0, 23, .u32, .cntS, (.const 0), 0, 4294967295, 0⟩,
  ⟨Ix.pierClampLast, 0, 0, 23, .u8, .ro, (.const 255), 0, 255, 0⟩,
  ⟨Ix.exReleaseRefused, 0, 0, 47, .u32, .cntS, (.const 0), 0, 4294967295, 0⟩,
  ⟨Ix.pierRejectedWrites, 0, 0, 23, .u32, .cntS, (.const 0), 0, 4294967295, 0⟩,
  ⟨Ix.pierLastRejected, 0, 0, 23, .u32, .ro, (.const 0), 0, 4294967295, 0⟩,
  ⟨Ix.exEnable, 0, 0, 23, .u8, .rwl, (.const 0), 0, 1, 0⟩,
  ⟨Ix.exMode, 0, 0, 23, .u8, .rwd, (.const 0), 0, 1, 0⟩,
  ⟨Ix.exPin, 0, 0, 23, .u8, .rwd, (.const 16), 0, 255, 0⟩,
  ⟨Ix.exReturn, 0, 0, 23, .u8, .rwd, (.const 255), 0, 255, 0⟩,
  ⟨Ix.exLevel, 0, 0, 23, .u32, .rwl, (.const 0), 0, 4294967295, 0⟩,
  ⟨Ix.exPolarity, 0, 0, 23, .u8, .rwl, (.const 0), 0, 1, 0⟩,
  ⟨Ix.exAltN, 0, 0, 23, .u32, .rwd, (.const 0), 0, 4294967295, 0⟩,
  ⟨Ix.exAltK, 0, 0, 23, .u8, .rwd, (.const 0), 0, 20, 0⟩,
  ⟨Ix.exLanes, 0, 0, 23, .bits, .rwd, (.const 0), 0, 255, 0⟩,
  ⟨Ix.exIOpen, 0, 0, 23, .u32, .rwd, (.const 1000), 0, 4294967295, 0⟩,
  ⟨Ix.exSafeState, 0, 0, 23, .u8, .rwd, (.const 0), 0, 1, 2⟩,
  ⟨Ix.exState, 0, 0, 23, .u8, .ro, (.const 0), 0, 255, 0⟩]

/-- Rows at 4000h. -/
def params40b : List Param := [
  ⟨Ix.exOpen, 0, 0, 23, .u8, .st, (.const 0), 0, 255, 0⟩,
  ⟨Ix.exCompliance, 0, 0, 23, .u8, .st, (.const 0), 0, 255, 0⟩,
  ⟨Ix.exOpenEvents, 0, 0, 23, .u32, .cntS, (.const 0), 0, 4294967295, 0⟩,
  ⟨Ix.exSafeRelease, 0, 0, 23, .u8, .wo, (.const 0), 1, 1, 0⟩,
  ⟨Ix.ex1Enable, 0, 0, 23, .u8, .rwl, (.const 0), 0, 1, 0⟩,
  ⟨Ix.ex1Mode, 0, 0, 23, .u8, .rwd, (.const 0), 0, 1, 0⟩,
  ⟨Ix.ex1Pin, 0, 0, 23, .u8, .rwd, (.const 17), 0, 255, 0⟩,
  ⟨Ix.ex1Return, 0, 0, 23, .u8, .rwd, (.const 255), 0, 255, 0⟩,
  ⟨Ix.ex1Level, 0, 0, 23, .u32, .rwl, (.const 0), 0, 4294967295, 0⟩,
  ⟨Ix.ex1Polarity, 0, 0, 23, .u8, .rwl, (.const 0), 0, 1, 0⟩,
  ⟨Ix.ex1AltN, 0, 0, 23, .u32, .rwd, (.const 0), 0, 4294967295, 0⟩,
  ⟨Ix.ex1AltK, 0, 0, 23, .u8, .rwd, (.const 0), 0, 20, 0⟩,
  ⟨Ix.ex1Lanes, 0, 0, 23, .bits, .rwd, (.const 0), 0, 255, 0⟩,
  ⟨Ix.ex1IOpen, 0, 0, 23, .u32, .rwd, (.const 1000), 0, 4294967295, 0⟩,
  ⟨Ix.ex1SafeState, 0, 0, 23, .u8, .rwd, (.const 0), 0, 1, 2⟩,
  ⟨Ix.ex1State, 0, 0, 23, .u8, .ro, (.const 0), 0, 255, 0⟩,
  ⟨Ix.ex1Open, 0, 0, 23, .u8, .st, (.const 0), 0, 255, 0⟩,
  ⟨Ix.ex1Compliance, 0, 0, 23, .u8, .st, (.const 0), 0, 255, 0⟩,
  ⟨Ix.ex1OpenEvents, 0, 0, 23, .u32, .cntS, (.const 0), 0, 4294967295, 0⟩,
  ⟨Ix.ex1SafeRelease, 0, 0, 23, .u8, .wo, (.const 0), 1, 1, 0⟩]

/-- Rows at 4000h. -/
def params40c : List Param := [
  ⟨Ix.biasEnable, 0, 0, 23, .u8, .rwl, (.const 0), 0, 1, 0⟩,
  ⟨Ix.biasPins, 0, 0, 23, .bits, .rwd, (.const 0), 0, 262143, 0⟩,
  ⟨Ix.biasOverload, 0, 0, 23, .u8, .st, (.const 0), 0, 255, 0⟩,
  ⟨Ix.caPin, 0, 0, 23, .u8, .rwd, (.const 255), 0, 255, 0⟩,
  ⟨Ix.caCf, 0, 0, 23, .u8, .rwd, (.const 3), 0, 9, 0⟩,
  ⟨Ix.caRin, 0, 0, 23, .u8, .rwd, (.const 0), 0, 3, 0⟩,
  ⟨Ix.caAutoreset, 0, 0, 23, .u8, .rwl, (.const 0), 0, 255, 0⟩,
  ⟨Ix.caResetPeriod, 0, 0, 23, .u32, .rwd, (.const 0), 0, 4294967295, 0⟩,
  ⟨Ix.caResetCmd, 0, 0, 23, .u8, .wo, (.const 0), 1, 1, 0⟩,
  ⟨Ix.caResets, 0, 0, 23, .u64, .cntW, (.const 0), 0, 18446744073709551615, 32⟩,
  ⟨Ix.ca1Pin, 0, 0, 23, .u8, .rwd, (.const 255), 0, 255, 0⟩,
  ⟨Ix.ca1Cf, 0, 0, 23, .u8, .rwd, (.const 3), 0, 9, 0⟩,
  ⟨Ix.ca1Rin, 0, 0, 23, .u8, .rwd, (.const 0), 0, 3, 0⟩,
  ⟨Ix.ca1Autoreset, 0, 0, 23, .u8, .rwl, (.const 0), 0, 255, 0⟩,
  ⟨Ix.ca1ResetPeriod, 0, 0, 23, .u32, .rwd, (.const 0), 0, 4294967295, 0⟩,
  ⟨Ix.ca1ResetCmd, 0, 0, 23, .u8, .wo, (.const 0), 1, 1, 0⟩,
  ⟨Ix.ca1Resets, 0, 0, 23, .u64, .cntW, (.const 0), 0, 18446744073709551615, 32⟩,
  ⟨Ix.toneEnable, 0, 0, 23, .u8, .rwl, (.const 0), 0, 1, 0⟩,
  ⟨Ix.toneFreq, 0, 0, 23, .u8, .rwd, (.const 0), 0, 5, 0⟩,
  ⟨Ix.toneCycles, 0, 0, 23, .u16, .rwd, (.const 16), 8, 1024, 0⟩]

/-- Rows at 4000h. -/
def params40d : List Param := [
  ⟨Ix.tonePeriod, 0, 0, 23, .u32, .rwd, (.const 1000), 1000, 65536000, 0⟩,
  ⟨Ix.toneSkipped, 0, 0, 23, .u32, .cntS, (.const 0), 0, 4294967295, 0⟩,
  ⟨Ix.pierRotEnable, 0, 0, 23, .u8, .rwl, (.const 1), 0, 1, 0⟩,
  ⟨Ix.pierRotPeriod, 0, 0, 23, .u32, .rwd, (.const 10000), 100, 86400000, 0⟩,
  ⟨Ix.pierRotOverlap, 0, 0, 23, .u32, .rwd, (.const 10000), 1000, 50000, 0⟩,
  ⟨Ix.pierRotTol, 0, 0, 23, .u32, .rwd, (.const 50), 0, 4294967295, 0⟩,
  ⟨Ix.pierRotNextLane, 0, 0, 23, .u8, .ro, (.const 0), 0, 255, 0⟩,
  ⟨Ix.pierSpare, 0, 0, 23, .u8, .ro, (.const 8), 0, 255, 0⟩,
  ⟨Ix.pierSliceFaulty, 0, 0, 23, .bits, .st, (.const 0), 0, 4294967295, 0⟩,
  ⟨Ix.pierHandovers, 0, 0, 23, .u64, .cntW, (.const 0), 0, 18446744073709551615, 32⟩,
  ⟨Ix.pierRotPostponed, 0, 0, 23, .u32, .cntS, (.const 0), 0, 4294967295, 0⟩,
  ⟨Ix.pierSliceRetest, 0, 0, 23, .u8, .wo, (.const 0), 1, 1, 0⟩,
  ⟨Ix.pierSliceOffset, 0, 0, 215, .i32, .ro, .otp, -2147483648, 2147483647, 0⟩,
  ⟨Ix.pierSliceGain, 0, 0, 215, .f32, .ro, .otp, 0, 4294967295, 0⟩]

/-- All rows at 4000h. -/
def params40 : List Param := params40a ++ params40b ++ params40c ++ params40d

/-- Rows at 5000h. -/
def params50a : List Param := [
  ⟨Ix.keyEnable, 0, 0, 3, .u8, .rwl, (.const 0), 0, 1, 0⟩,
  ⟨Ix.keyArmed, 0, 0, 3, .u8, .rwl, (.const 0), 0, 1, 0⟩,
  ⟨Ix.keyStartStage, 0, 0, 3, .u8, .rwd, (.const 0), 0, 255, 0⟩,
  ⟨Ix.keyState, 0, 0, 3, .u8, .ro, (.const 0), 0, 255, 0⟩,
  ⟨Ix.keyStage, 0, 0, 3, .u8, .ro, (.const 0), 0, 255, 0⟩,
  ⟨Ix.keyMarkNum, 0, 0, 3, .u32, .ro, (.const 0), 0, 4294967295, 0⟩,
  ⟨Ix.keyTransitions, 0, 0, 3, .u64, .cntW, (.const 0), 0, 18446744073709551615, 32⟩,
  ⟨Ix.keyRefused, 0, 0, 4, .u32, .cntS, (.const 0), 0, 4294967295, 0⟩,
  ⟨Ix.keyRefuseLast, 0, 0, 4, .u32, .ro, (.const 0), 0, 4294967295, 0⟩,
  ⟨Ix.keyArmIgnored, 0, 0, 3, .u32, .cntS, (.const 0), 0, 4294967295, 0⟩,
  ⟨Ix.keyCascadeLimit, 0, 0, 3, .u32, .cntS, (.const 0), 0, 4294967295, 0⟩,
  ⟨Ix.keyStaleAny, 0, 0, 3, .u8, .st, (.const 0), 0, 255, 0⟩,
  ⟨Ix.keyRelaySuppressed, 0, 0, 3, .u32, .cntS, (.const 0), 0, 4294967295, 0⟩,
  ⟨Ix.keyRejectedWrites, 0, 0, 4, .u32, .cntS, (.const 0), 0, 4294967295, 0⟩,
  ⟨Ix.keyLastRejected, 0, 0, 4, .u32, .ro, (.const 0), 0, 4294967295, 0⟩,
  ⟨Ix.keyStageTimeout, 0, 0, 63, .u32, .rwd, (.const 0), 0, 4294967295, 0⟩,
  ⟨Ix.keyStageNext, 0, 0, 63, .u8, .rwd, (.const 255), 0, 255, 0⟩,
  ⟨Ix.keyStageActFirst, 0, 0, 63, .u16, .rwd, (.const 0), 0, 65535, 2⟩,
  ⟨Ix.keyStageActCount, 0, 0, 63, .u8, .rwd, (.const 0), 0, 255, 2⟩,
  ⟨Ix.keyStageEntries, 0, 0, 63, .u32, .cntS, (.const 0), 0, 4294967295, 0⟩]

/-- Rows at 5000h. -/
def params50b : List Param := [
  ⟨Ix.keyBrTerms, 0, 0, 255, .u32, .rwd, (.const 0), 0, 4294967295, 0⟩,
  ⟨Ix.keyBrExpr, 0, 0, 255, .u16, .rwd, (.const 0), 0, 65535, 0⟩,
  ⟨Ix.keyBrHold, 0, 0, 255, .u32, .rwd, (.const 0), 0, 4294967295, 0⟩,
  ⟨Ix.keyBrCount, 0, 0, 255, .u16, .rwd, (.const 0), 0, 65535, 0⟩,
  ⟨Ix.keyBrCoinc, 0, 0, 255, .u16, .rwd, (.const 0), 0, 65535, 0⟩,
  ⟨Ix.keyBrNext, 0, 0, 255, .u8, .rwd, (.const 255), 0, 255, 0⟩,
  ⟨Ix.keyBrActFirst, 0, 0, 255, .u16, .rwd, (.const 0), 0, 65535, 2⟩,
  ⟨Ix.keyBrActCount, 0, 0, 255, .u8, .rwd, (.const 0), 0, 255, 2⟩,
  ⟨Ix.keyBrFired, 0, 0, 255, .u32, .cntS, (.const 0), 0, 4294967295, 0⟩]

/-- All rows at 5000h. -/
def params50 : List Param := params50a ++ params50b

/-- Rows at 5100h. -/
def params51 : List Param := [
  ⟨Ix.keyCuType, 0, 0, 255, .u8, .rwd, (.const 0), 0, 255, 0⟩,
  ⟨Ix.keyCuEnable, 0, 0, 255, .u8, .rwl, (.const 0), 0, 1, 0⟩,
  ⟨Ix.keyCuSrcA, 0, 0, 255, .u8, .rwd, (.const 0), 0, 255, 0⟩,
  ⟨Ix.keyCuSrcB, 0, 0, 255, .u8, .rwd, (.const 0), 0, 255, 0⟩,
  ⟨Ix.keyCuMode, 0, 0, 255, .u8, .rwd, (.const 0), 0, 255, 0⟩,
  ⟨Ix.keyCuP1, 0, 0, 255, .u32, .rwd, (.const 0), 0, 4294967295, 0⟩,
  ⟨Ix.keyCuP2, 0, 0, 255, .u32, .rwd, (.const 0), 0, 4294967295, 0⟩,
  ⟨Ix.keyCuP3, 0, 0, 255, .u32, .rwd, (.const 0), 0, 4294967295, 0⟩,
  ⟨Ix.keyCuState, 0, 0, 255, .u8, .ro, (.const 4), 0, 255, 0⟩,
  ⟨Ix.keyCuGenA, 0, 0, 255, .u16, .ro, (.const 0), 0, 65535, 0⟩,
  ⟨Ix.keyCuGenB, 0, 0, 255, .u16, .ro, (.const 0), 0, 65535, 0⟩,
  ⟨Ix.keyCuOccurrences, 0, 0, 255, .u32, .cntS, (.const 0), 0, 4294967295, 0⟩]

/-- Rows at 5200h. -/
def params52 : List Param := [
  ⟨Ix.actOp, 3, 0, 255, .u32, .rwd, (.const 0), 0, 4294967295, 2⟩,
  ⟨Ix.actArg, 3, 0, 255, .u32, .rwd, (.const 0), 0, 4294967295, 2⟩,
  ⟨Ix.actDelay, 0, 0, 0, .u32, .rwd, (.const 800), 496, 65536, 0⟩,
  ⟨Ix.actState, 0, 0, 0, .u8, .ro, (.const 0), 0, 255, 0⟩,
  ⟨Ix.actSlotsBusy, 0, 0, 0, .u8, .ro, (.const 0), 0, 255, 0⟩,
  ⟨Ix.actSlotsHwm, 0, 0, 0, .u8, .ro, (.const 0), 0, 255, 16⟩,
  ⟨Ix.actRefused, 0, 0, 0, .u32, .cntS, (.const 0), 0, 4294967295, 0⟩,
  ⟨Ix.actLastRefused, 0, 0, 0, .u32, .ro, (.const 0), 0, 4294967295, 0⟩,
  ⟨Ix.actExecuted, 0, 0, 1, .u64, .cntW, (.const 0), 0, 18446744073709551615, 0⟩,
  ⟨Ix.actLate, 0, 0, 0, .u32, .cntS, (.const 0), 0, 4294967295, 0⟩,
  ⟨Ix.actPreempted, 0, 0, 0, .u32, .cntS, (.const 0), 0, 4294967295, 0⟩,
  ⟨Ix.actRejectedWrites, 0, 0, 0, .u32, .cntS, (.const 0), 0, 4294967295, 0⟩,
  ⟨Ix.actLastRejected, 0, 0, 0, .u32, .ro, (.const 0), 0, 4294967295, 0⟩,
  ⟨Ix.actUserCount, 0, 0, 63, .u64, .cntW, (.const 0), 0, 18446744073709551615, 32⟩,
  ⟨Ix.actIrqCount, 0, 0, 15, .u64, .cntW, (.const 0), 0, 18446744073709551615, 32⟩,
  ⟨Ix.actMarkoutSent, 0, 0, 1, .u64, .cntW, (.const 0), 0, 18446744073709551615, 0⟩,
  ⟨Ix.actMarkoutRefused, 0, 0, 0, .u32, .cntS, (.const 0), 0, 4294967295, 0⟩]

/-- Rows at 5300h. -/
def params53 : List Param := [
  ⟨Ix.vdInEnable, 0, 0, 7, .u8, .rwl, (.const 0), 0, 1, 0⟩,
  ⟨Ix.vdOutMode, 0, 0, 7, .u8, .rwd, (.const 0), 0, 2, 0⟩,
  ⟨Ix.vdDeglitch, 0, 0, 7, .u8, .rwd, (.const 0), 0, 100, 0⟩,
  ⟨Ix.vdEnable, 0, 0, 7, .u8, .rwl, (.const 0), 0, 1, 2⟩,
  ⟨Ix.vdInitLevel, 0, 0, 7, .u8, .rwd, (.const 2), 0, 2, 0⟩,
  ⟨Ix.vdSafeLevel, 0, 0, 7, .u8, .rwd, (.const 2), 0, 2, 2⟩,
  ⟨Ix.vdSafeMode, 0, 0, 7, .u8, .rwd, (.const 0), 0, 1, 0⟩,
  ⟨Ix.vdPinState, 0, 0, 7, .u8, .ro, (.const 2), 0, 255, 0⟩,
  ⟨Ix.vdSafeActive, 0, 0, 7, .u8, .st, (.const 0), 0, 255, 0⟩,
  ⟨Ix.vdSafeRelease, 0, 0, 7, .u8, .wo, (.const 0), 1, 1, 0⟩,
  ⟨Ix.vdLevel, 0, 0, 7, .u8, .ro, (.const 0), 0, 255, 0⟩,
  ⟨Ix.vdSafeEntries, 0, 0, 7, .u32, .cntS, (.const 0), 0, 4294967295, 0⟩,
  ⟨Ix.vdReleaseRefused, 0, 0, 7, .u32, .cntS, (.const 0), 0, 4294967295, 0⟩,
  ⟨Ix.vdRejectedWrites, 0, 0, 7, .u32, .cntS, (.const 0), 0, 4294967295, 0⟩,
  ⟨Ix.vdLastRejected, 0, 0, 7, .u32, .ro, (.const 0), 0, 4294967295, 0⟩]

/-- Rows at 6000h. -/
def params60 : List Param := [
  ⟨Ix.cwHorizon, 0, 0, 0, .u16, .rwd, (.const 512), 256, 4096, 0⟩,
  ⟨Ix.cwState, 0, 0, 0, .u8, .ro, (.const 0), 0, 255, 0⟩,
  ⟨Ix.cwOccupancy, 0, 0, 0, .u32, .ro, (.const 0), 0, 4294967295, 0⟩,
  ⟨Ix.cwOccupancyHwm, 0, 0, 0, .u32, .ro, (.const 0), 0, 4294967295, 16⟩,
  ⟨Ix.cwReleaseLagMax, 0, 0, 0, .u32, .ro, (.const 0), 0, 4294967295, 16⟩,
  ⟨Ix.cwAdmitWaits, 0, 0, 0, .u32, .cntS, (.const 0), 0, 4294967295, 0⟩,
  ⟨Ix.cwGapRecords, 0, 0, 1, .u64, .cntW, (.const 0), 0, 18446744073709551615, 0⟩,
  ⟨Ix.cwLostEvents, 0, 0, 1, .u64, .cntW, (.const 0), 0, 18446744073709551615, 0⟩,
  ⟨Ix.cwRwlDeferred, 0, 0, 0, .u32, .cntS, (.const 0), 0, 4294967295, 0⟩,
  ⟨Ix.cwLoadDiscards, 0, 0, 0, .u32, .cntS, (.const 0), 0, 4294967295, 0⟩,
  ⟨Ix.cwLate, 0, 0, 0, .u32, .cntS, (.const 0), 0, 4294967295, 0⟩,
  ⟨Ix.cwRejectedWrites, 0, 0, 0, .u32, .cntS, (.const 0), 0, 4294967295, 0⟩,
  ⟨Ix.cwLastRejected, 0, 0, 0, .u32, .ro, (.const 0), 0, 4294967295, 0⟩,
  ⟨Ix.cwSourceGaps, 0, 0, 200, .u32, .cntS, (.const 0), 0, 4294967295, 0⟩]

/-- Rows at 6100h. -/
def params61 : List Param := [
  ⟨Ix.streamEnable, 0, 0, 7, .u8, .rwl, (.const 0), 0, 1, 0⟩,
  ⟨Ix.streamState, 0, 0, 7, .u8, .ro, (.const 0), 0, 255, 0⟩,
  ⟨Ix.streamOutlets, 0, 0, 7, .bits, .rwd, (.const 1), 0, 7, 0⟩,
  ⟨Ix.streamBerylLevel, 0, 0, 7, .u8, .rwd, (.const 3), 0, 9, 0⟩,
  ⟨Ix.streamUnsettled, 0, 0, 7, .u8, .rwd, (.const 0), 0, 1, 0⟩,
  ⟨Ix.streamFlush, 0, 0, 7, .u8, .wo, (.const 0), 1, 1, 0⟩,
  ⟨Ix.streamFlushes, 0, 0, 7, .u32, .cntS, (.const 0), 0, 4294967295, 0⟩,
  ⟨Ix.streamFlushEmpty, 0, 0, 7, .u32, .cntS, (.const 0), 0, 4294967295, 0⟩,
  ⟨Ix.streamRejectedWrites, 0, 0, 7, .u32, .cntS, (.const 0), 0, 4294967295, 0⟩,
  ⟨Ix.streamLastRejected, 0, 0, 7, .u32, .ro, (.const 0), 0, 4294967295, 0⟩,
  ⟨Ix.streamLastClose, 0, 0, 7, .u8, .ro, (.const 0), 0, 255, 0⟩,
  ⟨Ix.streamSeqStart, 7, 0, 1, .u64, .rwd, (.const 0), 0, 18446744073709551615, 0⟩,
  ⟨Ix.streamSeqNext, 7, 0, 1, .u64, .ro, (.const 0), 0, 18446744073709551615, 0⟩,
  ⟨Ix.streamFrames, 7, 0, 1, .u64, .cntW, (.const 0), 0, 18446744073709551615, 0⟩,
  ⟨Ix.streamRecords, 7, 0, 1, .u64, .cntW, (.const 0), 0, 18446744073709551615, 0⟩,
  ⟨Ix.streamUnsettledDropped, 7, 0, 1, .u64, .cntW, (.const 0), 0, 18446744073709551615, 0⟩]

/-- Rows at 6200h. -/
def params62 : List Param := [
  ⟨Ix.routeEdge, 0, 0, 200, .bits, .rwl, (.const 0), 0, 255, 4⟩,
  ⟨Ix.routeFc, 0, 0, 191, .bits, .rwl, (.const 0), 0, 255, 4⟩,
  ⟨Ix.routeSample, 0, 0, 191, .bits, .rwl, (.const 0), 0, 255, 4⟩,
  ⟨Ix.routeDsample, 0, 0, 191, .bits, .rwl, (.const 0), 0, 255, 4⟩,
  ⟨Ix.routeStatus, 0, 0, 191, .bits, .rwl, (.const 255), 0, 255, 4⟩,
  ⟨Ix.routeInternal, 0, 0, 1, .bits, .rwl, (.const 255), 0, 255, 0⟩]

/-- Rows at 7000h. -/
def params70 : List Param := [
  ⟨Ix.berylEnginesBusy, 0, 0, 0, .u8, .ro, (.const 0), 0, 255, 0⟩,
  ⟨Ix.berylQueueHwm, 0, 0, 7, .u8, .ro, (.const 0), 0, 255, 16⟩,
  ⟨Ix.berylQueueRefused, 0, 0, 7, .u32, .cntS, (.const 0), 0, 4294967295, 0⟩,
  ⟨Ix.berylRawFrames, 7, 0, 1, .u64, .cntW, (.const 0), 0, 18446744073709551615, 0⟩,
  ⟨Ix.berylInWords, 7, 0, 1, .u64, .cntW, (.const 0), 0, 18446744073709551615, 0⟩,
  ⟨Ix.berylOutWords, 7, 0, 1, .u64, .cntW, (.const 0), 0, 18446744073709551615, 0⟩]

/-- Rows at 7100h. -/
def params71 : List Param := [
  ⟨Ix.spanBase, 0, 0, 7, .u32, .rwd, (.const 0), 0, 4294967295, 0⟩,
  ⟨Ix.spanSize, 0, 0, 7, .u32, .rwd, (.const 0), 0, 4294967295, 0⟩,
  ⟨Ix.spanGapPolicy, 0, 0, 7, .u8, .rwd, (.const 0), 0, 2, 0⟩,
  ⟨Ix.spanBudgetWindow, 0, 0, 7, .u32, .rwd, (.const 60000), 0, 4294967295, 0⟩,
  ⟨Ix.spanBudgetLimit, 0, 0, 7, .u32, .rwd, (.const 1000000), 0, 4294967295, 0⟩,
  ⟨Ix.spanRestart, 0, 0, 7, .u8, .wo, (.const 0), 1, 1, 0⟩,
  ⟨Ix.spanState, 0, 0, 7, .u8, .ro, (.const 0), 0, 255, 0⟩,
  ⟨Ix.spanFill, 0, 0, 7, .u32, .ro, (.const 0), 0, 4294967295, 0⟩,
  ⟨Ix.spanFillHwm, 0, 0, 7, .u32, .ro, (.const 0), 0, 4294967295, 16⟩,
  ⟨Ix.spanGapFrames, 0, 0, 7, .u32, .cntS, (.const 0), 0, 4294967295, 0⟩,
  ⟨Ix.spanOverflows, 0, 0, 7, .u32, .cntS, (.const 0), 0, 4294967295, 0⟩,
  ⟨Ix.spanRefusedFrames, 7, 0, 1, .u64, .cntW, (.const 0), 0, 18446744073709551615, 0⟩,
  ⟨Ix.spanLostRecords, 7, 0, 1, .u64, .cntW, (.const 0), 0, 18446744073709551615, 0⟩,
  ⟨Ix.spanRegionRefused, 0, 0, 0, .u32, .cntS, (.const 0), 0, 4294967295, 0⟩,
  ⟨Ix.spanRegionLast, 0, 0, 0, .u32, .ro, (.const 0), 0, 4294967295, 0⟩]

/-- Rows at 7200h. -/
def params72 : List Param := [
  ⟨Ix.caiEnable, 0, 0, 23, .u8, .rwl, (.const 0), 0, 1, 0⟩,
  ⟨Ix.caiBase, 0, 0, 23, .u32, .rwd, (.const 0), 0, 4294967295, 0⟩,
  ⟨Ix.caiDepthLog2, 0, 0, 23, .u8, .rwd, (.const 16), 10, 24, 0⟩,
  ⟨Ix.caiRate, 0, 0, 23, .u8, .rwd, (.const 0), 0, 20, 0⟩,
  ⟨Ix.caiFilter, 0, 0, 23, .u8, .rwd, (.const 1), 0, 1, 0⟩,
  ⟨Ix.caiFormat, 0, 0, 23, .u8, .rwd, (.const 0), 0, 1, 0⟩,
  ⟨Ix.caiState, 0, 0, 23, .u8, .ro, (.const 0), 0, 255, 0⟩,
  ⟨Ix.caiBlocks, 0, 0, 23, .u32, .cntS, (.const 0), 0, 4294967295, 0⟩,
  ⟨Ix.caiDeclinedBusy, 0, 0, 23, .u32, .cntS, (.const 0), 0, 4294967295, 0⟩,
  ⟨Ix.caiShortPre, 0, 0, 23, .u32, .cntS, (.const 0), 0, 4294967295, 0⟩,
  ⟨Ix.caiMissingWords, 0, 0, 23, .u32, .cntS, (.const 0), 0, 4294967295, 0⟩,
  ⟨Ix.caiDiscarded, 0, 0, 23, .u32, .cntS, (.const 0), 0, 4294967295, 0⟩,
  ⟨Ix.caiDeclinedInvalid, 0, 0, 0, .u32, .cntS, (.const 0), 0, 4294967295, 0⟩,
  ⟨Ix.caiRejectedWrites, 0, 0, 23, .u32, .cntS, (.const 0), 0, 4294967295, 0⟩,
  ⟨Ix.caiLastRejected, 0, 0, 23, .u32, .ro, (.const 0), 0, 4294967295, 0⟩,
  ⟨Ix.caiProfPier, 0, 0, 15, .u8, .rwd, (.const 0), 0, 255, 0⟩,
  ⟨Ix.caiProfLanes, 0, 0, 15, .bits, .rwd, (.const 255), 0, 255, 0⟩,
  ⟨Ix.caiProfPre, 0, 0, 15, .u32, .rwd, (.const 1024), 0, 4294967295, 0⟩,
  ⟨Ix.caiProfPost, 0, 0, 15, .u32, .rwd, (.const 1024), 0, 4294967295, 0⟩]

/-- Rows at 7300h. -/
def params73a : List Param := [
  ⟨Ix.histBase, 0, 0, 7, .u32, .rwd, (.const 0), 0, 4294967295, 0⟩,
  ⟨Ix.histSize, 0, 0, 7, .u32, .rwd, (.const 0), 0, 4294967295, 0⟩,
  ⟨Ix.histOldestSeq, 7, 0, 1, .u64, .ro, (.const 0), 0, 18446744073709551615, 0⟩,
  ⟨Ix.histNewestSeq, 7, 0, 1, .u64, .ro, (.const 0), 0, 18446744073709551615, 0⟩,
  ⟨Ix.histHostBase, 0, 0, 0, .u32, .rwd, (.const 0), 0, 4294967295, 0⟩,
  ⟨Ix.histHostSize, 0, 0, 0, .u32, .rwd, (.const 0), 0, 4294967295, 0⟩,
  ⟨Ix.fetchRegion, 0, 0, 0, .u8, .rwd, (.const 0), 0, 8, 0⟩,
  ⟨Ix.fetchTStart, 0, 0, 2, .t72, .rwd, (.const 0), 0, 4722366482869645213695, 0⟩,
  ⟨Ix.fetchTEnd, 0, 0, 2, .t72, .rwd, (.const 0), 0, 4722366482869645213695, 0⟩,
  ⟨Ix.fetchEpoch, 0, 0, 0, .u16, .rwd, (.const 0), 0, 65535, 0⟩,
  ⟨Ix.fetchSrcFilter, 0, 0, 7, .bits, .rwd, (.const 4294967295), 0, 4294967295, 0⟩,
  ⟨Ix.fetchTypeFilter, 0, 0, 0, .bits, .rwd, (.const 65534), 0, 65535, 0⟩,
  ⟨Ix.fetchCmd, 0, 0, 0, .u8, .wo, (.const 0), 1, 2, 0⟩,
  ⟨Ix.fetchState, 0, 0, 0, .u8, .ro, (.const 0), 0, 255, 0⟩,
  ⟨Ix.fetchFirstSeq, 0, 0, 1, .u64, .ro, (.const 0), 0, 18446744073709551615, 0⟩,
  ⟨Ix.fetchLastSeq, 0, 0, 1, .u64, .ro, (.const 0), 0, 18446744073709551615, 0⟩,
  ⟨Ix.fetchFaults, 0, 0, 0, .u32, .cntS, (.const 0), 0, 4294967295, 0⟩,
  ⟨Ix.fetchSkipped, 0, 0, 0, .u32, .cntS, (.const 0), 0, 4294967295, 0⟩,
  ⟨Ix.fetchLastFault, 0, 0, 0, .u32, .ro, (.const 0), 0, 4294967295, 0⟩,
  ⟨Ix.fetchLastFaultSeq, 0, 0, 1, .u64, .ro, (.const 0), 0, 18446744073709551615, 0⟩]

/-- Rows at 7300h. -/
def params73b : List Param := [
  ⟨Ix.fetchRejectedWrites, 0, 0, 0, .u32, .cntS, (.const 0), 0, 4294967295, 0⟩,
  ⟨Ix.fetchLastRejected, 0, 0, 0, .u32, .ro, (.const 0), 0, 4294967295, 0⟩]

/-- All rows at 7300h. -/
def params73 : List Param := params73a ++ params73b

/-- Rows at 7400h. -/
def params74a : List Param := [
  ⟨Ix.memCfgSpeed, 0, 0, 0, .u16, .rw, (.const 8000), 4800, 8000, 0⟩,
  ⟨Ix.memCfgChannels, 0, 0, 0, .u8, .rw, (.const 2), 1, 2, 0⟩,
  ⟨Ix.memCfgRanks, 0, 0, 0, .u8, .rw, (.const 1), 1, 2, 0⟩,
  ⟨Ix.memCfgDensity, 0, 0, 0, .u8, .rw, (.const 16), 16, 32, 0⟩,
  ⟨Ix.memSize, 0, 0, 0, .u32, .ro, (.const 0), 0, 4294967295, 0⟩,
  ⟨Ix.memState, 0, 0, 0, .u8, .ro, (.const 0), 0, 255, 0⟩,
  ⟨Ix.memDramHot, 0, 0, 0, .u8, .st, (.const 0), 0, 255, 0⟩,
  ⟨Ix.memCeTotal, 0, 0, 1, .u64, .cntW, (.const 0), 0, 18446744073709551615, 0⟩,
  ⟨Ix.memUeTotal, 0, 0, 1, .u64, .cntW, (.const 0), 0, 18446744073709551615, 0⟩,
  ⟨Ix.memCeDevice, 0, 0, 79, .u32, .cntS, (.const 0), 0, 4294967295, 0⟩,
  ⟨Ix.memLastCeAddr, 0, 0, 1, .u64, .ro, (.const 0), 0, 18446744073709551615, 0⟩,
  ⟨Ix.memLastCeInfo, 0, 0, 0, .u32, .ro, (.const 0), 0, 4294967295, 0⟩,
  ⟨Ix.memLastUeAddr, 0, 0, 1, .u64, .ro, (.const 0), 0, 18446744073709551615, 0⟩,
  ⟨Ix.memLastUeInfo, 0, 0, 0, .u32, .ro, (.const 0), 0, 4294967295, 0⟩,
  ⟨Ix.memUeLastSeq, 0, 0, 1, .u64, .ro, (.const 0), 0, 18446744073709551615, 0⟩,
  ⟨Ix.memDeviceSuspect, 0, 0, 79, .u8, .st, (.const 0), 0, 255, 0⟩,
  ⟨Ix.memCeThreshold, 0, 0, 0, .u32, .rw, (.const 1000), 0, 4294967295, 0⟩,
  ⟨Ix.memSubstituteFrames, 0, 0, 0, .u32, .cntS, (.const 0), 0, 4294967295, 0⟩,
  ⟨Ix.memScrubPasses, 0, 0, 1, .u64, .cntW, (.const 0), 0, 18446744073709551615, 0⟩,
  ⟨Ix.memScrubPassTime, 0, 0, 0, .u32, .ro, (.const 0), 0, 4294967295, 0⟩]

/-- Rows at 7400h. -/
def params74b : List Param := [
  ⟨Ix.memScrubPos, 0, 0, 0, .u32, .ro, (.const 0), 0, 4294967295, 0⟩,
  ⟨Ix.memTimingOvr, 0, 0, 15, .i32, .rw, (.const 0), -2147483648, 2147483647, 1⟩,
  ⟨Ix.sramCeTotal, 0, 0, 1, .u64, .cntW, (.const 0), 0, 18446744073709551615, 0⟩,
  ⟨Ix.sramUeTotal, 0, 0, 1, .u64, .cntW, (.const 0), 0, 18446744073709551615, 0⟩,
  ⟨Ix.sramLastInfo, 0, 0, 0, .u32, .ro, (.const 0), 0, 4294967295, 0⟩]

/-- All rows at 7400h. -/
def params74 : List Param := params74a ++ params74b

/-- Rows at 8000h. -/
def params80a : List Param := [
  ⟨Ix.hostLinkSpeed, 0, 0, 0, .u8, .ro, (.const 0), 0, 255, 0⟩,
  ⟨Ix.hostLinkWidth, 0, 0, 0, .u8, .ro, (.const 0), 0, 255, 0⟩,
  ⟨Ix.hostMaxSpeed, 0, 0, 0, .u8, .rw, (.const 6), 1, 6, 0⟩,
  ⟨Ix.hostMaxWidth, 0, 0, 0, .u8, .rw, (.const 8), 1, 8, 0⟩,
  ⟨Ix.hostSubsysId, 0, 0, 0, .u16, .rw, (.const 402), 0, 65535, 0⟩,
  ⟨Ix.hostBar4ResetLog2, 0, 0, 0, .u8, .rw, (.const 34), 30, 37, 0⟩,
  ⟨Ix.hostLinkState, 0, 0, 0, .u8, .ro, (.const 0), 0, 255, 0⟩,
  ⟨Ix.hostLinkDowns, 0, 0, 0, .u32, .cntS, (.const 0), 0, 4294967295, 0⟩,
  ⟨Ix.hostPerstCount, 0, 0, 0, .u32, .cntS, (.const 0), 0, 4294967295, 0⟩,
  ⟨Ix.hostHotResets, 0, 0, 0, .u32, .cntS, (.const 0), 0, 4294967295, 0⟩,
  ⟨Ix.hostBar0Ignored, 0, 0, 0, .u32, .cntS, (.const 0), 0, 4294967295, 0⟩,
  ⟨Ix.hostRejectedWrites, 0, 0, 0, .u32, .cntS, (.const 0), 0, 4294967295, 0⟩,
  ⟨Ix.hostLastRejected, 0, 0, 0, .u32, .ro, (.const 0), 0, 4294967295, 0⟩,
  ⟨Ix.winEnable, 0, 0, 7, .u8, .rw, (.const 0), 0, 1, 0⟩,
  ⟨Ix.winState, 0, 0, 7, .u8, .ro, (.const 0), 0, 255, 0⟩,
  ⟨Ix.winSizeLog2, 0, 0, 7, .u8, .rwd, (.const 12), 0, 255, 0⟩,
  ⟨Ix.winWrite, 0, 0, 7, .u8, .rwd, (.const 0), 0, 1, 0⟩,
  ⟨Ix.winOffset, 7, 0, 1, .u64, .rwd, (.const 0), 0, 18446744073709551615, 0⟩,
  ⟨Ix.winTarget, 7, 0, 1, .u64, .rwd, (.const 0), 0, 18446744073709551615, 0⟩,
  ⟨Ix.winRefused, 0, 0, 7, .u32, .cntS, (.const 0), 0, 4294967295, 0⟩]

/-- Rows at 8000h. -/
def params80b : List Param := [
  ⟨Ix.winLastRefused, 0, 0, 7, .u8, .ro, (.const 0), 0, 255, 0⟩,
  ⟨Ix.winMissNp, 0, 0, 0, .u32, .cntS, (.const 0), 0, 4294967295, 0⟩,
  ⟨Ix.winMissP, 0, 0, 0, .u32, .cntS, (.const 0), 0, 4294967295, 0⟩,
  ⟨Ix.winMissLast, 0, 0, 1, .u64, .ro, (.const 0), 0, 18446744073709551615, 0⟩,
  ⟨Ix.winWriteBlocked, 0, 0, 0, .u32, .cntS, (.const 0), 0, 4294967295, 0⟩,
  ⟨Ix.winBlockedLast, 0, 0, 1, .u64, .ro, (.const 0), 0, 18446744073709551615, 0⟩,
  ⟨Ix.hostPortState, 0, 0, 0, .u8, .ro, (.const 2), 0, 255, 0⟩,
  ⟨Ix.hostFreezeMask, 0, 0, 0, .bits, .rw, (.const 4), 0, 7, 0⟩,
  ⟨Ix.hostFreezeTime, 0, 0, 2, .t72, .ro, (.const 0), 0, 4722366482869645213695, 0⟩,
  ⟨Ix.hostFreezes, 0, 0, 0, .u32, .cntS, (.const 0), 0, 4294967295, 0⟩,
  ⟨Ix.hostReleaseRefused, 0, 0, 0, .u32, .cntS, (.const 0), 0, 4294967295, 0⟩,
  ⟨Ix.hostFrozenCa, 0, 0, 0, .u32, .cntS, (.const 0), 0, 4294967295, 0⟩,
  ⟨Ix.hostReadsMax, 0, 0, 0, .u16, .rw, (.const 16384), 0, 65535, 0⟩,
  ⟨Ix.hostTagWaits, 0, 0, 0, .u32, .cntS, (.const 0), 0, 4294967295, 0⟩,
  ⟨Ix.hostCplTimeouts, 0, 0, 0, .u32, .cntS, (.const 0), 0, 4294967295, 0⟩,
  ⟨Ix.hostPoisonedRx, 0, 0, 0, .u32, .cntS, (.const 0), 0, 4294967295, 0⟩,
  ⟨Ix.hostLateCpl, 0, 0, 0, .u32, .cntS, (.const 0), 0, 4294967295, 0⟩,
  ⟨Ix.hostUnexpectedCpl, 0, 0, 0, .u32, .cntS, (.const 0), 0, 4294967295, 0⟩,
  ⟨Ix.hostIrqMode, 0, 0, 0, .u8, .ro, (.const 0), 0, 255, 0⟩,
  ⟨Ix.irqVector, 0, 0, 32, .u8, .rw, (.step 0 1 0), 0, 63, 0⟩]

/-- Rows at 8000h. -/
def params80c : List Param := [
  ⟨Ix.irqAck, 0, 16, 32, .u32, .rw, (.const 0), 0, 4294967295, 0⟩,
  ⟨Ix.irqPending, 0, 0, 1, .bits, .st, (.const 0), 0, 4294967295, 0⟩,
  ⟨Ix.irqMinInterval, 0, 0, 0, .u16, .rw, (.const 0), 0, 65535, 0⟩,
  ⟨Ix.irqMessages, 0, 0, 63, .u32, .cntS, (.const 0), 0, 4294967295, 0⟩,
  ⟨Ix.ringBytes, 8, 0, 1, .u64, .cntW, (.const 0), 0, 18446744073709551615, 0⟩]

/-- All rows at 8000h. -/
def params80 : List Param := params80a ++ params80b ++ params80c

/-- Rows at 9000h. -/
def params90 : List Param := [
  ⟨Ix.netPortEnable, 0, 0, 1, .u8, .rw, (.const 1), 0, 1, 0⟩,
  ⟨Ix.netLink, 0, 0, 1, .u8, .ro, (.const 0), 0, 255, 0⟩,
  ⟨Ix.netRingRole, 0, 0, 0, .u8, .rw, (.const 0), 0, 1, 0⟩,
  ⟨Ix.netRingState, 0, 0, 0, .u8, .ro, (.const 0), 0, 255, 0⟩,
  ⟨Ix.netAuthRequired, 0, 0, 0, .u8, .rw, (.const 0), 0, 1, 0⟩,
  ⟨Ix.netSessionIdle, 0, 0, 0, .u16, .rw, (.const 60), 0, 65535, 0⟩,
  ⟨Ix.netSessions, 0, 0, 0, .u8, .ro, (.const 0), 0, 255, 0⟩,
  ⟨Ix.netOwner, 0, 0, 0, .u16, .ro, (.const 0), 0, 65535, 0⟩,
  ⟨Ix.netMarkRxEnable, 0, 0, 0, .u8, .rwd, (.const 0), 0, 1, 0⟩,
  ⟨Ix.netOversize, 0, 0, 1, .u32, .cntS, (.const 0), 0, 4294967295, 0⟩,
  ⟨Ix.netFcsErrors, 0, 0, 1, .u32, .cntS, (.const 0), 0, 4294967295, 0⟩,
  ⟨Ix.netRingOpenings, 0, 0, 0, .u32, .cntS, (.const 0), 0, 4294967295, 0⟩,
  ⟨Ix.netMarkDuplicates, 0, 0, 0, .u32, .cntS, (.const 0), 0, 4294967295, 0⟩,
  ⟨Ix.netEventResends, 0, 0, 0, .u32, .cntS, (.const 0), 0, 4294967295, 0⟩,
  ⟨Ix.netAbortsSent, 0, 0, 0, .u32, .cntS, (.const 0), 0, 4294967295, 0⟩,
  ⟨Ix.netPtpMalformed, 0, 0, 0, .u32, .cntS, (.const 0), 0, 4294967295, 0⟩]

/-- Rows at 9200h. -/
def params92 : List Param := [
  ⟨Ix.ptpDomain, 0, 0, 0, .u8, .rwd, (.const 0), 0, 127, 0⟩,
  ⟨Ix.ptpProfile, 0, 0, 0, .u8, .rwd, (.const 2), 0, 2, 0⟩,
  ⟨Ix.ptpTransport, 0, 0, 1, .u8, .rwd, (.const 1), 0, 2, 0⟩,
  ⟨Ix.ptpLogSyncInterval, 0, 0, 1, .i32, .rwd, (.const 4294967293), -7, 0, 0⟩,
  ⟨Ix.ptpTxDelayExt, 0, 0, 1, .i32, .rwd, (.const 0), -2147483648, 2147483647, 0⟩,
  ⟨Ix.ptpRxDelayExt, 0, 0, 1, .i32, .rwd, (.const 0), -2147483648, 2147483647, 0⟩,
  ⟨Ix.ptpAsymCoeff, 0, 0, 1, .i32, .rwd, (.const 0), -2147483648, 2147483647, 0⟩,
  ⟨Ix.ptpPortState, 0, 0, 1, .u8, .ro, (.const 0), 0, 255, 0⟩,
  ⟨Ix.ptpPriority1, 0, 0, 0, .u8, .rwd, (.const 128), 0, 255, 0⟩,
  ⟨Ix.ptpPriority2, 0, 0, 0, .u8, .rwd, (.const 128), 0, 255, 0⟩,
  ⟨Ix.ptpTwoStep, 0, 0, 0, .u8, .rwd, (.const 0), 0, 1, 0⟩,
  ⟨Ix.ptpExtPortConfig, 0, 0, 0, .u8, .rwd, (.const 0), 0, 1, 0⟩,
  ⟨Ix.synceRefSelect, 0, 0, 0, .u8, .rwd, (.const 0), 0, 3, 2⟩,
  ⟨Ix.synceQlRx, 0, 0, 1, .u8, .ro, (.const 0), 0, 255, 0⟩,
  ⟨Ix.synceQlXa, 0, 0, 0, .u8, .rwd, (.const 11), 0, 255, 0⟩]

/-- Rows at A000h. -/
def paramsA0 : List Param := [
  ⟨Ix.calOffsetUser, 0, 0, 191, .f32, .rwl, (.const 0x00000000), 0, 4294967295, 4⟩,
  ⟨Ix.calGainUser, 0, 0, 191, .f32, .rwl, (.const 0x3F800000), 0, 4294967295, 4⟩,
  ⟨Ix.calUserCommit, 0, 0, 191, .u8, .wo, (.const 0), 1, 1, 4⟩,
  ⟨Ix.calOffsetFactory, 4, 0, 191, .i32, .ro, .otp, -2147483648, 2147483647, 0⟩,
  ⟨Ix.calGainFactory, 4, 0, 191, .f32, .ro, .otp, 0, 4294967295, 0⟩,
  ⟨Ix.calCfFactory, 0, 0, 47, .f32, .ro, .otp, 0, 4294967295, 0⟩,
  ⟨Ix.calRinFactory, 2, 0, 47, .f32, .ro, .otp, 0, 4294967295, 0⟩,
  ⟨Ix.calRefFactory, 0, 0, 23, .f32, .ro, .otp, 0, 4294967295, 0⟩]

/-- Rows at A100h. -/
def paramsA1 : List Param := [
  ⟨Ix.curveX, 7, 0, 64, .f32, .rwd, (.const 0x00000000), 0, 4294967295, 0⟩,
  ⟨Ix.curveY, 7, 0, 64, .f32, .rwd, (.const 0x00000000), 0, 4294967295, 0⟩,
  ⟨Ix.curveRejectedWrites, 0, 0, 7, .u32, .cntS, (.const 0), 0, 4294967295, 0⟩,
  ⟨Ix.curveLastRejected, 0, 0, 7, .u32, .ro, (.const 0), 0, 4294967295, 0⟩]

/-- Rows at B000h. -/
def paramsB0a : List Param := [
  ⟨Ix.storeState, 0, 0, 0, .u8, .ro, (.const 0), 0, 255, 0⟩,
  ⟨Ix.storeSaveInterval, 0, 0, 0, .u32, .rw, (.const 600), 60, 86400, 0⟩,
  ⟨Ix.storeRequireSigned, 0, 0, 0, .u8, .rw, (.const 0), 0, 1, 0⟩,
  ⟨Ix.storeSaveCmd, 0, 0, 0, .u8, .wo, (.const 0), 1, 3, 0⟩,
  ⟨Ix.storeLoadCmd, 0, 0, 0, .u8, .wo, (.const 0), 1, 3, 0⟩,
  ⟨Ix.storeLastResult, 0, 0, 0, .u32, .ro, (.const 0), 0, 4294967295, 0⟩,
  ⟨Ix.storeCopySeq, 0, 0, 1, .u32, .ro, (.const 0), 0, 4294967295, 2⟩,
  ⟨Ix.storeCopySlot, 0, 0, 1, .u8, .ro, (.const 255), 0, 255, 2⟩,
  ⟨Ix.storeRegionWrites, 0, 0, 1, .u32, .ro, (.const 0), 0, 4294967295, 0⟩,
  ⟨Ix.storeSlotsRetired, 0, 0, 1, .u8, .ro, (.const 0), 0, 255, 0⟩,
  ⟨Ix.storeAge, 0, 0, 0, .u32, .ro, (.const 0), 0, 4294967295, 0⟩,
  ⟨Ix.storeBootCount, 0, 0, 0, .u32, .ro, (.const 0), 0, 4294967295, 0⟩,
  ⟨Ix.storeRefreshes, 0, 0, 0, .u32, .ro, (.const 0), 0, 4294967295, 0⟩,
  ⟨Ix.storeLoadSkipped, 0, 0, 0, .u32, .cntS, (.const 0), 0, 4294967295, 0⟩,
  ⟨Ix.storeBootSource, 0, 0, 0, .u8, .ro, (.const 0), 0, 255, 0⟩,
  ⟨Ix.secDevicePubkey, 0, 0, 0, .domain, .ro, .otp, 0, 0, 0⟩,
  ⟨Ix.secDeviceCert, 0, 0, 0, .domain, .ro, .otp, 0, 0, 0⟩,
  ⟨Ix.secFwKey, 0, 0, 0, .domain, .ro, .otp, 0, 0, 0⟩,
  ⟨Ix.fwActiveSlot, 0, 0, 0, .u8, .ro, (.const 0), 0, 255, 0⟩,
  ⟨Ix.fwVersion, 0, 0, 1, .u32, .ro, (.const 0), 0, 4294967295, 0⟩]

/-- Rows at B000h. -/
def paramsB0b : List Param := [
  ⟨Ix.fwSecVersion, 0, 0, 1, .u16, .ro, (.const 0), 0, 65535, 0⟩,
  ⟨Ix.fwFuseCount, 0, 0, 0, .u16, .ro, .otp, 0, 65535, 0⟩,
  ⟨Ix.fwState, 0, 0, 0, .u8, .ro, (.const 0), 0, 255, 0⟩,
  ⟨Ix.fwConfirmTime, 0, 0, 0, .u32, .rw, (.const 600), 60, 86400, 0⟩,
  ⟨Ix.fwReverts, 0, 0, 0, .u32, .ro, (.const 0), 0, 4294967295, 0⟩]

/-- All rows at B000h. -/
def paramsB0 : List Param := paramsB0a ++ paramsB0b

/-- Rows at B100h. -/
def paramsB1 : List Param := [
  ⟨Ix.secMasterKey, 7, 0, 0, .domain, .rw, (.const 0), 0, 0, 0⟩]

/-- Rows at C000h. -/
def paramsC0a : List Param := [
  ⟨Ix.dictSnapshot, 0, 0, 0, .u8, .wo, (.const 0), 1, 1, 0⟩,
  ⟨Ix.dictSnapSeq, 0, 0, 0, .u32, .ro, (.const 0), 0, 4294967295, 0⟩,
  ⟨Ix.dictSnapTime, 0, 0, 2, .t72, .ro, (.const 0), 0, 4722366482869645213695, 0⟩,
  ⟨Ix.dictView, 0, 0, 0, .u8, .rw, (.const 0), 0, 1, 0⟩,
  ⟨Ix.dictLatch, 0, 0, 1, .u32, .ro, (.const 0), 0, 4294967295, 0⟩,
  ⟨Ix.dictSatCount, 0, 0, 0, .u32, .cntS, (.const 0), 0, 4294967295, 0⟩,
  ⟨Ix.dictSatLast, 0, 0, 0, .u32, .ro, (.const 0), 0, 4294967295, 0⟩,
  ⟨Ix.dictDangerWrites, 0, 0, 0, .u32, .cntS, (.const 0), 0, 4294967295, 0⟩,
  ⟨Ix.dictDangerLast, 0, 0, 0, .u32, .ro, (.const 0), 0, 4294967295, 0⟩,
  ⟨Ix.dictDangerTime, 0, 0, 2, .t72, .ro, (.const 0), 0, 4722366482869645213695, 0⟩,
  ⟨Ix.dictWideRefused, 0, 0, 0, .u32, .cntS, (.const 0), 0, 4294967295, 0⟩,
  ⟨Ix.dictUnlatched, 0, 0, 0, .u32, .cntS, (.const 0), 0, 4294967295, 0⟩,
  ⟨Ix.dictBroadcastRefused, 0, 0, 0, .u32, .cntS, (.const 0), 0, 4294967295, 0⟩,
  ⟨Ix.dictIgnoredWrites, 0, 0, 0, .u32, .cntS, (.const 0), 0, 4294967295, 0⟩,
  ⟨Ix.dictRejectedWrites, 0, 0, 0, .u32, .cntS, (.const 0), 0, 4294967295, 0⟩,
  ⟨Ix.dictLastRejected, 0, 0, 0, .u32, .ro, (.const 0), 0, 4294967295, 0⟩,
  ⟨Ix.startStep, 0, 0, 0, .u8, .ro, (.const 1), 0, 255, 0⟩,
  ⟨Ix.startStepEnd, 8, 0, 2, .t72, .ro, (.const 0), 0, 4722366482869645213695, 0⟩,
  ⟨Ix.startResult, 0, 1, 9, .u8, .ro, (.const 0), 0, 255, 0⟩,
  ⟨Ix.startStraps, 0, 0, 0, .bits, .ro, (.const 0), 0, 4294967295, 0⟩]

/-- Rows at C000h. -/
def paramsC0b : List Param := [
  ⟨Ix.startXaRetries, 0, 0, 0, .u32, .cntS, (.const 0), 0, 4294967295, 0⟩,
  ⟨Ix.startOtpFaults, 0, 0, 0, .bits, .ro, (.const 0), 0, 4294967295, 0⟩,
  ⟨Ix.startResetCause, 0, 0, 0, .u8, .ro, (.const 0), 0, 255, 0⟩,
  ⟨Ix.startMode, 0, 0, 0, .u8, .ro, (.const 0), 0, 255, 0⟩,
  ⟨Ix.regTmrCorrected, 0, 0, 1, .u64, .cntW, (.const 0), 0, 18446744073709551615, 0⟩,
  ⟨Ix.regTmrLast, 0, 0, 0, .u32, .ro, (.const 0), 0, 4294967295, 0⟩,
  ⟨Ix.regTmrFatal, 0, 0, 0, .u32, .cntS, (.const 0), 0, 4294967295, 0⟩,
  ⟨Ix.regTmrFatalLast, 0, 0, 0, .u32, .ro, (.const 0), 0, 4294967295, 0⟩,
  ⟨Ix.diagTj, 0, 0, 0, .f32, .ro, (.const 0), 0, 4294967295, 8⟩,
  ⟨Ix.diagTjMax, 0, 0, 0, .f32, .ro, (.const 0xFF800000), 0, 4294967295, 24⟩,
  ⟨Ix.diagTjOver, 0, 0, 0, .u8, .st, (.const 0), 0, 255, 8⟩,
  ⟨Ix.diagTjHours, 0, 0, 29, .u32, .ro, (.const 0), 0, 4294967295, 8⟩,
  ⟨Ix.diagLifeUsed, 0, 0, 0, .u32, .ro, (.const 0), 0, 4294967295, 8⟩,
  ⟨Ix.diagRailLow, 0, 0, 0, .bits, .st, (.const 0), 0, 4294967295, 8⟩,
  ⟨Ix.diagRailEvents, 0, 0, 0, .u32, .cntS, (.const 0), 0, 4294967295, 8⟩]

/-- All rows at C000h. -/
def paramsC0 : List Param := paramsC0a ++ paramsC0b

/-- Rows at C100h. -/
def paramsC1 : List Param := [
  ⟨Ix.pflEntry, 63, 0, 5, .u32, .ro, (.const 0), 0, 4294967295, 0⟩,
  ⟨Ix.pflWritten, 0, 0, 1, .u64, .cntW, (.const 0), 0, 18446744073709551615, 0⟩,
  ⟨Ix.pflSuppressed, 0, 0, 0, .u32, .cntS, (.const 0), 0, 4294967295, 0⟩,
  ⟨Ix.pflKindCount, 0, 0, 63, .u32, .cntS, (.const 0), 0, 4294967295, 0⟩]

/-- The rows whose indices lie in one block of 256. -/
def paramBlock : Nat → List Param
  | 0x10 => params10
  | 0x20 => params20
  | 0x21 => params21
  | 0x30 => params30
  | 0x40 => params40
  | 0x50 => params50
  | 0x51 => params51
  | 0x52 => params52
  | 0x53 => params53
  | 0x60 => params60
  | 0x61 => params61
  | 0x62 => params62
  | 0x70 => params70
  | 0x71 => params71
  | 0x72 => params72
  | 0x73 => params73
  | 0x74 => params74
  | 0x80 => params80
  | 0x90 => params90
  | 0x92 => params92
  | 0xA0 => paramsA0
  | 0xA1 => paramsA1
  | 0xB0 => paramsB0
  | 0xB1 => paramsB1
  | 0xC0 => paramsC0
  | 0xC1 => paramsC1
  | _ => []

/-- The row that describes an index. -/
def paramOf (ix : Nat) : Option Param :=
  (paramBlock (ix / 256)).find? (fun p => decide (p.ix ≤ ix) && decide (ix ≤ p.ix + p.more))

/-- The default of an instance; OTP values are constants of the part (Config). -/
def Param.default (p : Param) (ix sub : Nat) : Nat :=
  match p.dflt with
  | .const n => n
  | .step b d m => if m = 0 then b + d * sub else b + d * (sub % m)
  | .list l => l.getD sub 0
  | .otp => Config.otp ix sub
  | .eui64 =>
    let mac := Config.otp Ix.netMac 0 % 2 ^ 48
    (mac / 16777216 ^^^ 0x020000) * 2 ^ 40 + 0xFFFE * 16777216 + mac % 16777216

/-- The default of a key: what an entry that State.dict does not list reads as. -/
def dfltOf (k : Nat) : Nat :=
  match paramOf (k / 256) with
  | some p => p.default (k / 256) (k % 256)
  | none => 0

end Sys2Proof.Machine
end

