-- ==== Sys2Proof/Machine/Records.lean ====
section
/-! DEFINITION. Records (09_record_stream.md): their parts, their words and the total order of the Causeway. -/
namespace Sys2Proof.Machine

/-- A record before it is put in a frame: its stamp, SOURCE and TYPE of the header, header bits [19:0], and its
further words other than the time offset (R209 to R211). An EPOCH record keeps its full time in `body` (R217). -/
structure Rec where
  stamp : Nat
  src : Nat
  typ : Nat
  spec : Nat
  body : List Word
  /-- An analog SAMPLE that the deadband suppressed: Keystone sees it, the streams do not (R134, R160). -/
  quiet : Bool
  deriving DecidableEq, Repr

/-- The header word of R209. -/
def Rec.header (r : Rec) : Word := w32 (r.typ * 2 ^ 28 + r.src % 256 * 2 ^ 20 + r.spec % 2 ^ 20)

/-- The words of a record in a frame with the given base time: header, time offset (none for EPOCH), further words. -/
def Rec.words (base : Nat) (r : Rec) : List Word :=
  if r.typ = 5 then r.header :: r.body else r.header :: w32 (r.stamp - base) :: r.body

/-- Length of a record in words, header included. -/
def Rec.len (r : Rec) : Nat := if r.typ = 5 then 1 + r.body.length else 2 + r.body.length

/-- The order of R137: stamp, source, type, header bits [19:0], further words; true when `a` comes strictly first. -/
def Rec.before (a b : Rec) : Bool :=
  if a.stamp ≠ b.stamp then decide (a.stamp < b.stamp)
  else if a.src ≠ b.src then decide (a.src < b.src)
  else if a.typ ≠ b.typ then decide (a.typ < b.typ)
  else if a.spec ≠ b.spec then decide (a.spec < b.spec)
  else wordsLt a.body b.body

/-- TRANSITION of a threshold input, line or PPS_IN (R213, FC = 0). -/
def recTransition (t src level : Nat) (resampled : Bool) : Rec :=
  ⟨t, src, 1, b2n resampled * 2 ^ 18 + level % 4, [], false⟩

/-- TRANSITION of a fast window comparator (R213, FC = 1; R68). -/
def recFcTransition (t lane zone : Nat) : Rec := ⟨t, lane, 1, 2 ^ 19 + zone % 4, [], false⟩

/-- SAMPLE (R214): flags UNSETTLED, CLAMP, SUSPECT, RANGE as one number [3:0] from bit 19 down, GD code, FORMAT. -/
def recSample (t lane flags gd format value : Nat) (quiet : Bool) : Rec :=
  ⟨t, lane, 2, flags % 16 * 2 ^ 16 + gd % 64 * 2 ^ 10 + format % 4 * 2 ^ 8, [w32 value], quiet⟩

/-- MARK (R215). -/
def recMark (t src seq stage branch kind flags num causeSrc causeUnit : Nat) : Rec :=
  ⟨t, src, 3, seq % 4 * 2 ^ 18 + stage % 16 * 2 ^ 14 + branch % 8 * 2 ^ 11 + kind % 8 * 2 ^ 8 + flags % 8,
    [w32 num, w32 (causeSrc % 256 * 2 ^ 24 + causeUnit % 256 * 2 ^ 16)], false⟩

/-- GAP (R216): `origin` 0 SOURCE or 1 STREAM; LOST saturates with LOST_SAT. -/
def recGap (t src origin : Nat) (continued : Bool) (duration lost : Nat) : Rec :=
  ⟨t, src, 4, b2n continued * 2 ^ 19 + origin % 2 * 2 ^ 18 + b2n (decide (0xFFFFFFFF < lost)) * 2 ^ 17,
    [w32 duration, w32 (min lost 0xFFFFFFFF)], false⟩

/-- EPOCH (R217): cause bits 0 LOAD, 1 STEP, 2 QUALITY, 3 START. -/
def recEpoch (t causes quality epoch : Nat) : Rec :=
  ⟨t, 255, 5, causes % 16 * 2 ^ 16 + quality % 4,
    [w32 t, w32 (t / 2 ^ 32), w32 (epoch % 65536 * 256 + t / 2 ^ 64 % 256)], false⟩

/-- STATUS (R218): kind, header bits [11:0], words 2 and 3. -/
def recStatus (t src kind low w2 w3 : Nat) : Rec :=
  ⟨t, src, 7, kind % 256 * 2 ^ 12 + low % 4096, [w32 w2, w32 w3], false⟩

/-- RESET_ACCOUNT (R219). -/
def recResetAccount (t lane causes format pre residual : Nat) : Rec :=
  ⟨t, lane, 8, causes % 8 * 2 ^ 16 + format % 4 * 2 ^ 14, [w32 pre, w32 residual, w32 51200], false⟩

/-- CONFIG (R220): sub-index, index and `k` value words of the new value. -/
def recConfig (t ix sub k value : Nat) : Rec :=
  ⟨t, 255, 9, sub % 256 * 2 ^ 12 + (k - 1) % 4 * 2 ^ 10, w32 (ix % 65536) :: wordsOf k value, false⟩

/-- Flags of a GUARD record (R221, bits [15:8], lowest first). -/
structure GFlags where
  refused : Bool := false
  superseded : Bool := false
  preempt : Bool := false
  pulseEnd : Bool := false
  safeHeld : Bool := false
  forced : Bool := false
  disabled : Bool := false
  late : Bool := false
  deriving DecidableEq, Repr

/-- The flag byte of a GUARD record (R221). -/
def GFlags.code (f : GFlags) : Nat :=
  b2n f.refused + 2 * b2n f.superseded + 4 * b2n f.preempt + 8 * b2n f.pulseEnd + 16 * b2n f.safeHeld
    + 32 * b2n f.forced + 64 * b2n f.disabled + 128 * b2n f.late

/-- GUARD (R221). -/
def recGuard (t kind subop : Nat) (f : GFlags) (target result seq stage branch origin : Nat) : Rec :=
  ⟨t, 202, 10, kind % 4 * 2 ^ 18 + subop % 4 * 2 ^ 16 + f.code * 2 ^ 8 + target % 256,
    [w32 result, w32 (seq % 256 * 2 ^ 24 + stage % 256 * 2 ^ 16 + branch % 256 * 2 ^ 8 + origin % 256)], false⟩

/-- CLOCK (R222): kind 0 QUALITY, 1 REFERENCE, 2 SYNC_STATE. -/
def recClock (t kind new old : Nat) : Rec :=
  ⟨t, 255, 11, kind % 16 * 2 ^ 16 + new % 256 * 2 ^ 8 + old % 256, [0], false⟩

/-- EXTENSION subtype 1, MARK_IN (R223). -/
def recMarkIn (t code chip seqNum branch stage seq cause : Nat) : Rec :=
  ⟨t, 201, 15, 2 ^ 12 + 7,
    [w32 (code % 65536 * 65536 + chip % 65536), w32 seqNum,
     w32 (cause / 2 ^ 64 % 256 * 2 ^ 24 + branch % 256 * 2 ^ 16 + stage % 256 * 2 ^ 8 + seq % 256),
     w32 cause, w32 (cause / 2 ^ 32)], false⟩

end Sys2Proof.Machine
end

