-- ==== Sys2Proof/Machine/State.lean ====
section
/-! DEFINITION. State of the Sahath-192: everything the spec gives the block, as plain data, and the queue of waiting
commands; the reset values. A default value written in a structure here is the value after reset.

Readings and choices here: DESIGN CHOICE log 4, log 6, log 7, log 8, log 10, log 70, log 72. -/
namespace Sys2Proof.Machine

/-- No fault: every failure the spec describes is counted, logged and answered, and the device goes on (05 of the
inventory); no rule halts it. No constructor, so nothing raises one. -/
inductive Fault where
  deriving DecidableEq, Repr

/-- Why a step is refused. -/
inductive Refusal where
  /-- Raised by the arms of Dispatch.lean whose command has no meaning yet. Safe: the run stops. -/
  | notModelled (mnemonic : String)
  deriving DecidableEq, Repr

/-! ### Time (02_garnet_time.md) -/

/-- Time quality, R38 Table 4. -/
inductive Quality where
  | fine | holdover | coarse
  deriving DecidableEq, Repr

/-- A load that has been commanded and not yet taken effect (R53): the latched mode, value and LOAD_AT, and the
Garnet time at which the command was accepted. -/
structure PendingLoad where
  mode : Nat
  value : Nat
  loadAt : Nat
  accepted : Nat
  deriving DecidableEq, Repr

/-- PPS_OUT (R55): the level driven, the period and phase in force, and the falling edge still due. -/
structure PpsOut where
  high : Bool := false
  running : Bool := false
  period : Nat := 256000000000
  phase : Nat := 0
  fallAt : Option Nat := none
  /-- The load instant that the next rising edge falls after. -/
  after : Option Nat := none
  deriving DecidableEq, Repr

/-- A step the servo has decided and not yet made (R48, R50). -/
inductive StepDue where
  | forward (at_ delta : Nat)
  | backward (delta : Nat)
  deriving DecidableEq, Repr

/-- The time base besides the count itself. -/
structure TimeSt where
  quality : Quality := .coarse
  /-- XB drives the COARSE count; SRO otherwise (R27, R470). -/
  driveXb : Bool := false
  /-- Stamps of the latest edges of XB and SRO kept by R470; none before the first. -/
  xbEdge : Option Nat := none
  sroEdge : Option Nat := none
  /-- The last measurement of FRO against the reference, from which HOLDOVER takes its multiplier (R38). -/
  fro : Int := 0
  /-- The exact count that the first edge of the driving clock gives since it began to drive, in 2^−16 tick; each edge after
  it adds one period and its trim (R470). -/
  anchor : Nat := 0
  /-- Conversion tables of the TDCs per input 0 to 200: per raw code the calibrated position in 1/32,768 tick, before
  it is rounded down (R32, R34); unlisted: equal bin widths. -/
  tables : Tbl (List Nat) := []
  /-- Tables measured and not yet in effect (R34). -/
  newTables : Tbl (List Nat) := []
  /-- The count at the last table update, and at the last measurement of the clocks (R34, R38). -/
  tableAt : Option Nat := none
  froAt : Option Nat := none
  load : Option PendingLoad := none
  /-- Streams that owe the LOAD cause bit in their next START record, bit n for S n (R54). -/
  loadOwed : Nat := 0
  pps : PpsOut := {}
  /-- The coarse period that a slew lengthened or shortened: its start, and whether a tick was added; and the time in 10^−6
  tick at which TIME.SLEW_MAX allows the next (R47). -/
  slew : Option (Nat × Bool) := none
  slewDue : Nat := 0
  /-- A master is selected for the servo (R45). -/
  master : Bool := false
  /-- Consecutive Sync intervals with the filtered offset inside TIME.LOCK_WINDOW (Table 6 code 2). -/
  inWindow : Nat := 0
  step : Option StepDue := none
  /-- The interval [t_s, t_s + Δ) that the last forward step skipped (R50). -/
  skipped : Option (Nat × Nat) := none
  /-- Timestamps of the last PTP event messages received and sent, by 16 × port + messageType (R42). -/
  ptpRx : Tbl Int := []
  ptpTx : Tbl Int := []
  deriving DecidableEq, Repr

/-! ### Edge path of lanes, Viaduct lines and PPS_IN (03_lane_edges_and_guards.md, 08) -/

/-- A stamped edge or resample waiting for its deglitch interval to end (R61). -/
structure Edge where
  stamp : Nat
  level : Nat
  resampled : Bool
  deriving DecidableEq, Repr

/-- An open loss account of a source (R145). -/
structure Account where
  start : Nat
  last : Nat
  count : Nat
  deriving DecidableEq, Repr

/-- The edge path of one source 0 to 200. -/
structure EdgeSt where
  /-- The comparator output at the pin, and when it last changed (R409). -/
  input : Nat := 0
  inputAt : Nat := 0
  /-- The level that the last stamped transition or resample reported. -/
  reported : Nat := 0
  /-- The accepted level after deglitching (LANE.T_LEVEL, VD.LEVEL). -/
  level : Nat := 0
  /-- Stamp of the stamped transition whose blind interval is open (R37). -/
  blind : Option Nat := none
  /-- Edges not yet judged, oldest first. -/
  edges : List Edge := []
  /-- Accepted edges not yet counted by a digital sample: stamp and level (R63). -/
  counted : List (Nat × Nat) := []
  /-- The level before the first of `counted`, and the first sampling instant still to come. -/
  sampleLevel : Nat := 0
  sampleFrom : Nat := 0
  /-- The events buffer, in order of completion (R64). -/
  buf : List Rec := []
  accounts : List Account := []
  /-- The coarse period of the window comparator's last zone change, and the zone reported before it (R68). -/
  fcSeen : Option (Nat × Nat) := none
  deriving DecidableEq, Repr

/-- When a lane or line last began to deliver events, and when it last stopped; the run before that one (R79). -/
structure RunSt where
  on : Bool := false
  since : Nat := 0
  until_ : Nat := 0
  prev : Option (Nat × Nat) := none
  deriving DecidableEq, Repr

/-! ### Guard pins and Viaduct outputs (R69 to R75, R194 to R201) -/

/-- A pulse in progress on an output: its state, its start and end, whether the pin still shows it (R75) and its
origin (sequencer, stage, branch) for the PULSE_END record. -/
structure Pulse where
  state : Nat
  start : Nat
  end_ : Nat
  shows : Bool
  seq : Nat
  stage : Nat
  branch : Nat
  deriving DecidableEq, Repr

/-- One guard pin or Viaduct output. -/
structure OutSt where
  /-- Commanded level: 0 LOW, 1 HIGH, 2 HIGH_Z. -/
  cmd : Nat := 2
  /-- Held in the safe state, and whether GUARD.SAFE_ALL is a cause still present on it (R72 to R74). -/
  held : Bool := false
  safeAll : Bool := false
  /-- The whole microsecond at which it leaves the safe state, once released (R73). -/
  releaseAt : Option Nat := none
  pulse : Option Pulse := none
  deriving DecidableEq, Repr

/-- What a timed action, a pulse end or a release acts on. -/
inductive SafeKind where
  | guard | line | source
  deriving DecidableEq, Repr

/-- An action in a timed-action slot (R194 to R199). -/
structure Slot where
  kind : Nat
  target : Nat
  subop : Nat
  param : Nat
  arg : Nat
  cause : Nat
  due : Nat
  /-- Last scheduled edge, up to which the slot is held. -/
  holdTo : Nat
  seq : Nat
  stage : Nat
  branch : Nat
  /-- Performed already (the slot may still be held by a pulse's end, cancelled or not). -/
  done : Bool
  /-- Its GUARD record as it entered the store before its stamp, and that of its pulse's end (R139, R198); what they report
  is filled in when the edge is performed. -/
  entered : Option Rec
  endEntered : Option Rec
  deriving DecidableEq, Repr

/-- A MARK_OUT message waiting to be sent (R205). -/
structure MarkOut where
  dst : Nat
  code : Nat
  num : Nat
  seq : Nat
  stage : Nat
  branch : Nat
  cause : Nat
  deriving DecidableEq, Repr

/-! ### The Causeway and its configuration queue (06_causeway.md) -/

/-- Changes that reach Keystone and the streams at an effective time, on the line of stamps. -/
inductive Ctl where
  | unit (u : Nat) (on : Bool)
  | seq (k : Nat) (on : Bool)
  | arm (k : Nat) (on : Bool)
  | streamOn (n : Nat) (restart : Bool)
  | streamOff (n : Nat)
  | closeFrames
  | src (n : Nat) (level zone : Option Nat)
  deriving DecidableEq, Repr

/-- What the Causeway store holds: a record, for one stream only where `only` names it (R231), or a change at a stamp
(before every record of that stamp, R150). -/
inductive Item where
  | record (r : Rec) (only : Option Nat)
  | ctl (stamp : Nat) (c : Ctl)
  deriving DecidableEq, Repr

/-- A change waiting for its effective time (R148): a new value, or a WO command that takes effect there. -/
structure Change where
  eff : Nat
  ix : Nat
  sub : Nat
  val : Nat
  deriving DecidableEq, Repr

/-- A change of a value in force, kept so that a record is judged by the value at its own stamp (R150). -/
structure Past where
  eff : Nat
  key : Nat
  old : Nat
  deriving DecidableEq, Repr

/-- The Causeway's ports (R142) and its release (R140), by cycles of 5 ns. -/
structure PortSt where
  /-- The cycle of the latest admission, the events admitted in it, the concentrators it has served and where it started. -/
  cycle : Nat := 0
  taken : Nat := 0
  served : List Nat := []
  start : Nat := 0
  /-- The concentrator served last, the source that each served last, and the nanosecond of each one's latest offer (R64). -/
  last : Nat := 24
  lane : Tbl Nat := []
  offered : Tbl Nat := []
  /-- The cycle of the latest release, the events and the GAP records released in it. -/
  outCycle : Nat := 0
  outEvents : Nat := 0
  outGaps : Nat := 0
  deriving DecidableEq, Repr

/-- The Causeway. -/
structure CwSt where
  /-- Records and changes not yet released, in the order of R137. -/
  store : List Item := []
  /-- Released and not yet taken by Keystone and the stream assembler, in order. -/
  intake : List Item := []
  /-- Buckets below this one have been released (R140); buckets below `dueTo` are due since a forward step (R152). -/
  bucket : Nat := 0
  dueTo : Nat := 0
  port : PortSt := {}
  /-- Queue of RWL changes and boundary commands (R149), in order of acceptance. -/
  queue : List Change := []
  past : List Past := []
  /-- What was stamped while TPLL was stopped, to enter the store when it runs again (R154), in order of its making. -/
  late : List Item := []
  /-- The Jasper cycle of the latest frame close, and the number of cycles with a close so far (R270). -/
  closeCycle : Option Nat := none
  closeNum : Nat := 0
  deriving DecidableEq, Repr

/-! ### Pier front end (04_piers_front_end.md) -/

/-- What an excitation source drove from an instant on: whether it was in RUN, and EX.LEVEL (R90, R120). -/
structure ExPast where
  since : Nat
  run : Bool
  level : Nat
  deriving DecidableEq, Repr

/-- An excitation source, numbered 2 × pier + source; its state code is EX.STATE of the dictionary. -/
structure ExSt where
  safeAll : Bool := false
  releaseAt : Option Nat := none
  /-- Newest first. -/
  hist : List ExPast := []
  deriving DecidableEq, Repr

/-- What an excitation source does to its pins (R88, R93): switches open; 0 A or 0 V; a current out of one pin and in through the
other, in nA; one pin at a voltage against the other, in µV. Pin code 255 is board ground. -/
inductive ExDrive where
  | open_
  | zero
  | current (out back nanoamps : Nat)
  | volts (high low microvolts : Nat)
  deriving DecidableEq, Repr

/-- A charge amplifier, numbered 2 × pier + amplifier: the start and cause bits of its last reset (R98). -/
structure CaSt where
  start : Option Nat := none
  causes : Nat := 0
  deriving DecidableEq, Repr

/-- A pier's tone generator: the burst last started, its end, and the lanes whose results are still due (R103). -/
structure ToneSt where
  start : Nat := 0
  end_ : Nat := 0
  due : Nat := 0
  deriving DecidableEq, Repr

/-- An interval of Garnet time, open-ended while it lasts. -/
structure Span where
  from_ : Nat
  to_ : Option Nat
  deriving DecidableEq, Repr

/-! ### Conversion and rotation (05_conversion_calibration.md) -/

/-- A sample a lane produced: instant, word, flag nibble (UNSETTLED 8, CLAMP 4, SUSPECT 2, RANGE 1). -/
structure Sample where
  at_ : Nat
  word : Nat
  flags : Nat
  deriving DecidableEq, Repr

/-- A lane's conversion. -/
structure ConvSt where
  /-- No sample is produced at an instant below this one. -/
  from_ : Nat := 0
  /-- Ranges of output instants whose samples are UNSETTLED (R118): first and last instant. -/
  unsettled : List (Nat × Nat) := []
  /-- The next sample is the first under rule 2 of R134. -/
  first : Bool := true
  /-- The last sample passed on. -/
  passed : Option Sample := none
  /-- Samples produced lately, newest first (R131, R134 rule 3). -/
  made : List Sample := []
  /-- The tone check reports the lane open (R103, R472). -/
  toneOpen : Bool := false
  /-- The last settling cause (R118, R126). -/
  cause : Option Nat := none
  deriving DecidableEq, Repr

/-- Slice states of R128 Table 9. -/
inductive SliceState where
  | serving | spare | overlap | spareCal | faulty
  deriving DecidableEq, Repr

/-- A slice, numbered 9 × pier + slice. -/
structure SliceSt where
  state : SliceState
  /-- Consecutive aborted checks as the spare. -/
  aborts : Nat := 0
  /-- When its reference cycle ends (R126 Table 8). -/
  cycleEnd : Nat := 0
  deriving DecidableEq, Repr

/-- The overlap in progress of a pier's rotation: target lane, spare slice, slot instant (R126). -/
structure Overlap where
  lane : Nat
  spare : Nat
  t0 : Nat
  /-- The difference samples that the check filters yield, in order: spare count less serving count, and whether a modulator
  saturates in the window. -/
  diffs : List (Int × Bool)
  /-- Ranges of check-filter instants that settling and resets exclude; open, compliance and bias-overload conditions of the lane
  over time, by 2 × source + (0 open, 1 compliance), 4 bias. -/
  excl : List (Nat × Nat)
  cond : List (Nat × Span)
  deriving DecidableEq, Repr

/-! ### Keystone (07_keystone_sequencers.md) -/

/-- An entry of the source state table (R165): accepted level, fast-comparator zone, latest sample word with its mask
flags ([0] UNSETTLED, [1] CLAMP, [2] SUSPECT, [3] RANGE); none is UNKNOWN. -/
structure SrcSt where
  level : Option Nat := none
  zone : Option Nat := none
  sample : Option (Nat × Nat) := none
  deriving DecidableEq, Repr

/-- A condition unit that is enabled (R162); its value is KEY.CU_STATE of the dictionary. -/
structure UnitSt where
  /-- The effective time of its enable, or the instant of the load that restarted it. -/
  since : Nat
  stale : Bool := false
  /-- Opening stamp of the pulse being measured (PULSE), or the latest unpaired edge of A (SKEW), R168. -/
  pend : Option Nat := none
  /-- Edges counted by a RATE unit: stamp and number (R165, R167). -/
  edges : List (Nat × Nat) := []
  /-- The deadline of a TIMER unit (R171). -/
  due : Option Nat := none
  deriving DecidableEq, Repr

/-- A branch of the stage a sequencer is in (R174, R175). -/
structure BrSt where
  /-- The expression and its four terms as they read after the sequencer's previous item. -/
  prev : Bool := false
  terms : List Bool := []
  /-- Deadline of the pending hold. -/
  hold : Option Nat := none
  /-- Counted triggers since the stage entry. -/
  count : Nat := 0
  /-- Occurrences of momentary units in this stage: unit and stamp. -/
  seen : List (Nat × Nat) := []
  deriving DecidableEq, Repr

/-- A sequencer that is enabled on the line of stamps (R180); one that is not listed is DISABLED. -/
structure SeqSt where
  armed : Bool := false
  /-- Its last stage entry and its arming (R171). -/
  entry : Nat := 0
  armedAt : Nat := 0
  br0 : BrSt := {}
  br1 : BrSt := {}
  br2 : BrSt := {}
  br3 : BrSt := {}
  /-- The deadline of the stage timeout. -/
  timeout : Option Nat := none
  /-- The stamp bucket of its last relay (R170). -/
  relay : Option Nat := none
  deriving DecidableEq, Repr

/-! ### Frames, Beryl and the span buffer (09_record_stream.md, 10, 11) -/

/-- A frame that is still open: base time, time quality and epoch number at it, payload words, records, the latest
stamp, and whether it holds a GAP record (R227, R228). -/
structure OpenFrame where
  base : Nat
  quality : Nat
  epoch : Nat
  words : List Word
  records : Nat
  last : Nat
  gap : Bool
  deriving DecidableEq, Repr

/-- A closed frame: the fields of its header (R225), its payload and its stored words; `seq` is 0 until it is
numbered. `records` and `last` are its descriptor's record count and last stamp (R289). -/
structure Frame where
  base : Nat
  quality : Nat
  epoch : Nat
  chip : Nat
  stream : Nat
  level : Nat
  seq : Nat
  flushed : Bool
  gap : Bool
  comp : Bool
  payload : List Word
  stored : List Word
  records : Nat
  last : Nat
  /-- The header words as a store gave them back, where they are not those that the fields spell (R283). -/
  head_ : Option (List Word) := none
  deriving DecidableEq, Repr

/-- Where a closed frame stands in Beryl (R270): in the input queue, in an engine, or ready to leave. -/
inductive BerylAt where
  | queued
  | engine (e : Nat)
  | ready
  deriving DecidableEq, Repr

/-- A frame in Beryl, the number of the cycle in which it closed, and its payload words as an engine read them from the input queue
with a word on whether one of their codewords could not be corrected (R270, R284). -/
structure BerylFrame where
  frame : Frame
  at_ : BerylAt
  closed : Nat
  taken : List Word := []
  hurt : Bool := false
  deriving DecidableEq, Repr

/-- Time quality and epoch number on a time line that a load or a backward step has ended. -/
structure OldLine where
  quality : Nat
  epoch : Nat
  past : List Past
  deriving DecidableEq, Repr

/-- A loss interval of a stream: [start, end_) and the records lost (R243); chip and level of the refused frame, and the time line
of the stamps where it is no longer the present one (R225). -/
structure Loss where
  start : Nat
  end_ : Nat
  lost : Nat
  chip : Nat
  level : Nat
  line : Option OldLine := none
  deriving DecidableEq, Repr

/-- An enabled stretch of a stream that is over, by a disable or a stop: its frames still in Beryl, its loss interval, and the stamp
of the OVERFLOW mark it owes (R243, R244). -/
structure EndedRun where
  left : Nat
  loss : Option Loss
  mark : Option Nat
  deriving DecidableEq, Repr

/-- The last frame delivered from a span: base time, quality and epoch (R290). -/
structure Delivered where
  base : Nat
  quality : Nat
  epoch : Nat
  deriving DecidableEq, Repr

/-- A frame missing from a span: its sequence number, chip and level (R290). -/
structure Missing where
  seq : Nat
  chip : Nat
  level : Nat
  deriving DecidableEq, Repr

/-- What a span holds in order: a frame with the first line of its image and the region it lies in; or the frames discarded after a
header lost in both copies, their records, whether the first substitute is still owed, and the last frame delivered before them
(R285, R290). -/
inductive SpanItem where
  | frame (f : Frame) (addr base size : Nat)
  | hole (seqs : List Missing) (lost : Nat) (first : Bool) (last : Delivered)
  deriving DecidableEq, Repr

/-- A frame of a history region: byte offset in the region, sequence number, bytes (R255). -/
structure HistFrame where
  offset : Nat
  seq : Nat
  bytes : Nat
  epoch : Nat
  base : Nat
  deriving DecidableEq, Repr

/-- A stream's assembler, its frames in Beryl and its span buffer. Its state code is STREAM.STATE, its gap-policy state
SPAN.STATE of the dictionary. -/
structure StreamSt where
  /-- The assembler takes records of the stream, on the line of stamps (R231). -/
  on : Bool := false
  /-- The assembler discards every record since a stop (R244). -/
  stopped : Bool := false
  chip : Nat := 0
  level : Nat := 0
  open_ : Option OpenFrame := none
  /-- Records at or past the place time of a block still to be framed (R252), and between them the closes of a forward step. -/
  holding : List (Option Rec) := []
  /-- Records of a block framed after the stream reads ENABLED and before its first record arrives (R254). -/
  early : List Rec := []
  /-- Frames in Beryl in close order. -/
  beryl : List BerylFrame := []
  head : List Frame := []
  span : List SpanItem := []
  tail : List Frame := []
  /-- The open loss interval, and the closed ones, newest first (R243, R245). -/
  loss : Option Loss := none
  losses : List Loss := []
  /-- Stamp of the OVERFLOW mark of an overflow frame not yet made (R244). -/
  overflow : Option Nat := none
  /-- Gap frames (true) and overflow frames (false) made and waiting for room in the head abutment. -/
  owed : List (Bool × Frame) := []
  /-- Stretches that are over with frames still in Beryl, or a report still to be made, oldest first. -/
  runs : List EndedRun := []
  hist : List HistFrame := []
  histPos : Nat := 0
  /-- The epochs that frames overwritten in the history belonged to, each with its first base time (R259, R261). -/
  histGone : Tbl Nat := []
  /-- Where the span writes its next line, as an offset in the region. -/
  spanPos : Nat := 0
  /-- The last frame delivered from the span. -/
  spanBase : Option Delivered := none
  /-- Frames of the tail that the PCIe ring, and the CDP subscription, have taken (R240). -/
  ringTook : Nat := 0
  cdpTook : Nat := 0
  deriving DecidableEq, Repr

/-! ### Caisson (10_span_caisson_history.md) -/

/-- A lane's ring: when its recording last restarted, when it stopped, its words by instant, newest first, at most
2^d of them, its recorded depth (R248), and the stretches [a, b) that it recorded before (R250). -/
structure CaiLane where
  start : Nat
  stop : Option Nat
  words : List (Nat × Nat)
  depth : Nat
  before : List (Nat × Nat) := []
  deriving DecidableEq, Repr

/-- An accepted block (R251): its descriptor's values and the words copied so far as lane, instant, word. -/
structure Block where
  profile : Nat
  mask : Nat
  lanes : Nat
  seq : Nat
  num : Nat
  trig : Nat
  i0 : Nat
  preReq : Nat
  pre : Nat
  post : Nat
  rate : Nat
  filter : Nat
  format : Nat
  place : Nat
  rearm : Nat
  words : List (Nat × Nat × Nat)
  framed : Bool
  deriving DecidableEq, Repr

/-- A pier's Caisson; its state code is CAI.STATE of the dictionary. -/
structure CaiSt where
  lanes : Tbl CaiLane := []
  block : Option Block := none
  deriving DecidableEq, Repr

/-! ### DRAM (12_memory_integrity.md) -/

/-- The trained DRAM: channels and ranks in use (0 channels: untrained), its data rate; the scrubber's next codeword
and the start of its pass, with the corrected symbols of the pass by device position; the timing overrides in force. -/
structure DramSt where
  channels : Nat := 0
  ranks : Nat := 1
  rate : Nat := 0
  scrubAt : Nat := 0
  passStart : Nat := 0
  passSymbols : Tbl Nat := []
  timing : Tbl Nat := []
  /-- Stretches [a, b) that a Caisson has used: what they hold there the spec does not lay out byte by byte. -/
  scratch : List (Nat × Nat) := []
  /-- Codewords whose stored symbols differ from what was written, by address: the differences over the 20 symbols (R281, R287). -/
  bad : Tbl (List Byte) := []
  deriving DecidableEq, Repr

/-! ### Fetch (10_span_caisson_history.md R256 to R259) -/

/-- The fetch engine; its state code is FETCH.STATE of the dictionary. -/
structure FetchSt where
  /-- The first frame has been chosen; the key of the next one: a sequence number, or an offset in the host region. -/
  started : Bool := false
  next : Nat := 0
  /-- A frame due was found overwritten. -/
  lost : Bool := false
  /-- The first frame read has been reported. -/
  seen : Bool := false
  /-- A fetch frame that waits for the fetch ring. -/
  ready : Option Frame := none
  /-- A descriptor with FETCH_END is still owed (R323). -/
  ending : Bool := false
  /-- The fetch ends once the frame in progress is delivered (R257). -/
  aborting : Bool := false
  /-- After a header fault: the address at which reading goes on (R289 code 8). -/
  cursor : Option Nat := none
  deriving DecidableEq, Repr


/-! ### The host port (13_host_port_mapping.md, 14_host_port_traffic.md) -/

/-- A delivery ring (R317 Table 1) and its open descriptor (R320). -/
structure RingSt where
  base : Nat := 0
  roData : Bool := true
  sizeLog2 : Nat := 8
  enable : Bool := false
  wb : Nat := 0
  irqInterval : Nat := 0
  idleClose : Nat := 100
  devPtr : Nat := 0
  hostPtr : Nat := 0
  hostSeen : Nat := 0
  fault : Bool := false
  rejected : Nat := 0
  descErrors : Nat := 0
  lastError : Nat := 0
  /-- Descriptors read and not yet completed: index and words W0 to W3. -/
  descs : Tbl (List Word) := []
  /-- Index one past the last descriptor asked for, and reads that failed and wait for a tag: index and number. -/
  asked : Nat := 0
  again : List (Nat × Nat) := []
  /-- Consecutive failed reads (R329). -/
  fails : Nat := 0
  /-- Bytes and frames written to the open descriptor, and when the last was written. -/
  used : Nat := 0
  frames : Nat := 0
  lastAt : Nat := 0
  /-- The write-back of DEV_PTR after a release waits until the port may issue requests (R340). -/
  owed : Bool := false
  /-- Ring 8: the fetch frames written to the open descriptor, and those to be written again after a release (R340). -/
  written : List Frame := []
  redo : List Frame := []
  deriving DecidableEq, Repr

/-- A read request outstanding (R325 to R329): descriptors `index` on, `count` of them; a read of a ring that has been
disabled since is not `live`. -/
structure ReadReq where
  ring : Nat
  index : Nat
  count : Nat
  issued : Nat
  got : List Word
  live : Bool
  deriving DecidableEq, Repr

/-- The host port. -/
structure HostSt where
  /-- PERST_N is high. -/
  perst : Bool := true
  /-- Configuration-space words that differ from their reset values, by word number (R297, R298). -/
  cfg : Tbl Nat := []
  /-- The Subsystem ID and log2 of the size of BAR4 at reset, as the port last took them from the dictionary (R297, R300, R312). -/
  subsys : Nat := 0x0192
  bar4Reset : Nat := 34
  firstCause : Nat := 0
  causes : Nat := 0
  rings : Tbl RingSt := []
  reads : Tbl ReadReq := []
  /-- Quarantined tags and the ends of their quarantines. -/
  quarantine : Tbl Nat := []
  /-- Interrupt sources that are not armed, the time of each source's last message (R332), the MSI-X table by word, the
  pending bits of both message modes and the state of INTA (R333). -/
  disarmed : List Nat := []
  lastMsg : Tbl Nat := []
  msix : Tbl Nat := []
  pba : Nat := 0
  inta : Bool := false
  deriving DecidableEq, Repr

/-! ### The field network (16_field_network.md) -/

/-- An EVENT that has been sent and not yet acknowledged (R384): its number, MORE, its body, and the stream whose frame
ends in it. -/
structure EventMsg where
  seq : Nat
  more : Bool
  body : List Word
  frame : Option Nat
  deriving DecidableEq, Repr

/-- Where a response goes (R374): the port, the session, the operation, the sequence number it echoes, AUTH, and the chip
number of the requester. -/
structure Reply where
  port : Nat
  session : Nat
  op : Nat
  seq : Nat
  auth : Bool
  dst : Nat
  deriving DecidableEq, Repr

/-- A session (R377 to R379): authenticated or open, the last accepted sequence number with the operation, length and
response that belong to it, the time of its last accepted message, the port and chip it is reached at, its EVENT count and
the EVENTs not yet acknowledged, and the key slot and transcript digest T of a SESSION_AUTH between its two steps. -/
structure Session where
  auth : Bool := false
  q : Nat := 0
  op : Nat := 0
  len : Nat := 0
  response : List Word := []
  at_ : Nat := 0
  port : Nat := 0
  chip : Nat := 65535
  evSeq : Nat := 0
  unacked : List EventMsg := []
  evAt : Nat := 0
  half : Option (Nat × Nat) := none
  keyIn : List Byte := []
  keyOut : List Byte := []
  nextIn : List Byte := []
  nextOut : List Byte := []
  deriving DecidableEq, Repr

/-- A subscription (R382, R383): its session, kind, interval in ms, parameters, stream; when it is next due; the values
last compared; an EVENT waiting for the window; the bytes of the stream's next frame already sent, and its frames sent
whole and not yet acknowledged. -/
structure Sub where
  session : Nat
  kind : Nat
  interval : Nat
  items : List Word
  stream : Nat
  due : Nat
  last : List Word
  waiting : Bool
  sent : Nat
  ahead : Nat
  deriving DecidableEq, Repr

/-- A response held until the effective time of its RWL changes has passed (R376): the slots changed (index, sub-index, item), and
the one whose route check failed there. -/
structure HeldResponse where
  due : Nat
  reply : Reply
  words : List Word
  slots : List (Nat × Nat × Nat)
  conflict : Option (Nat × Nat × Nat)
  deriving DecidableEq, Repr

/-- The field network. -/
structure NetSt where
  sessions : Tbl Session := []
  subs : Tbl Sub := []
  held : List HeldResponse := []
  /-- The last 256 marks received: origin chip and number (R387). -/
  marks : List (Nat × Nat) := []
  /-- When the closer last received its own test frame on ETH1 (R372). -/
  testSeen : Nat := 0
  /-- Alerts not yet sent: subscription, code, detail (R383). -/
  alerts : List (Nat × Nat × Nat) := []
  /-- When the CDP outlet may next send a segment of each stream, and of any stream (R384). -/
  evStream : Tbl Nat := []
  evAny : Nat := 0
  deriving DecidableEq, Repr

/-! ### Clocks and power (17_clocks_power.md) -/

/-- A TPLL reference. -/
inductive Ref where
  | xa | eth0 | eth1 | fro
  deriving DecidableEq, Repr

/-- A commanded power state that waits for its whole microsecond (R407): of the device, or of a pier. -/
structure PwrCmd where
  due : Nat
  pier : Option Nat
  state : Nat
  deriving DecidableEq, Repr

/-- The DVFS sequencer (R405, R406): steady; upwards to a point, in the dwell or waiting for PGOOD,
with the VSEL code driven before; downwards, with PGOOD
ignored for the dwell. -/
inductive Dvfs where
  | steady
  | dwell (to_ until_ prev : Nat)
  | wait (to_ until_ prev : Nat)
  | down (until_ : Nat)
  deriving DecidableEq, Repr

/-- Clocks and power besides what the dictionary shows. -/
structure ClkSt where
  /-- The reference that TPLL uses; none while it freewheels or is stopped. -/
  ref : Option Ref := none
  /-- TPLL has locked and the domains wait for the next slow-clock edge (R401), at which the COARSE count passes the one kept
  here. -/
  locked : Option Ref := none
  lockedAt : Nat := 0
  /-- Opal runs on XB (R392). -/
  opalXb : Bool := false
  /-- When each oscillator (0 XA, 1 XB, 2 FRO) was last started; one that is not listed does not run (R394). FRO starts
  with step 1 of start-up (R444). -/
  started : Tbl Nat := [(2, 0)]
  /-- When each source became READY (Table 6: CLK.XA_RECOVER). -/
  readyAt : Tbl Nat := []
  /-- When the failure happened that left the domains held (Table 6). -/
  heldSince : Nat := 0
  /-- CPLL has lost lock and Jasper is held; APLL has lost lock and the piers stand as if they had left MEASURE (R399). -/
  cpllHold : Bool := false
  apllLost : Bool := false
  /-- When each loop was started or lost lock. -/
  lockFrom : Tbl Nat := []
  dvfs : Dvfs := .steady
  /-- VSEL[3:0] as driven; PGOOD; PGOOD was lost at a steady point; a target was written during a change. -/
  vsel : Nat := 0
  pgood : Bool := true
  dropped : Bool := false
  again : Bool := false
  pending : List PwrCmd := []
  /-- A wake from DORMANT is in progress (R408). -/
  waking : Bool := false
  /-- Levels of the threshold inputs at the entry to DORMANT, by lane (R409). -/
  levels : List Nat := []
  /-- A brown-out of VCORE, of VAON. -/
  brownCore : Bool := false
  brownAon : Bool := false
  /-- The multiplier N that TPLL was locked with (R29, R443); 0 before step 4 of start-up. -/
  mult : Nat := 0
  /-- Sources whose monitor found no edge, until they are READY again: 0 XA, 1 XB, 2 FRO, 3 SRO, 4 ETH0, 5 ETH1 (R397, R398). -/
  stopped : List Nat := []
  /-- A forced source has stopped and taken with it the TPLL-derived domains, the Opal domain (R397). -/
  dead : Bool := false
  opalDead : Bool := false
  deriving DecidableEq, Repr

/-! ### Store and firmware (18_store_firmware_security.md) -/

/-- A configuration copy in a slot of the flash (R418): its header, its body, and whether its digest and its signature
verify. A slot without COMMIT is not listed. -/
structure Copy where
  seq : Nat
  signed : Bool
  keys : Bool
  refresh : Bool
  chip : Nat
  writeAge : Nat
  fwVersion : Nat
  count : Nat
  body : List Word
  digestOk : Bool
  sigOk : Bool
  /-- The 96 bytes of its signature; none on a copy without SIGNED. -/
  sig : List Byte
  deriving DecidableEq, Repr

/-- A firmware slot (Table 4): the bytes written, the trailer's COMMIT, activation record, CONFIRM and WRITE_AGE. -/
structure FwSlot where
  data : List Byte := []
  committed : Bool := false
  act : Option Nat := none
  confirm : Bool := false
  writeAge : Nat := 0
  deriving DecidableEq, Repr

/-- A SAVE or a refresh in progress (R421, R422, R425): its copy, where it is written, whether the next slot is its last
chance, and whom to answer. -/
structure SaveJob where
  copy : Copy
  region : Nat
  slot : Nat
  retried : Bool
  reply : Option Reply
  deriving DecidableEq, Repr

/-- The flash and the store engine besides what the dictionary shows. The flash survives a device reset (R439); a part as
made has it blank. -/
structure StoreSt where
  /-- Copies by 16 × region + slot, and retired slots. -/
  copies : Tbl Copy := []
  retired : List Nat := []
  /-- The CLK.XA_MULT value that the newest committed copy stores (R443). -/
  xaMult : Option Nat := none
  fw : Tbl FwSlot := []
  job : Option SaveJob := none
  /-- Time of the last commit, or of start-up (R422). -/
  lastCommit : Nat := 0
  /-- FW_STAGE: the next offset and the total; the time at which an unconfirmed image started, and the watchdog expiries
  since (R429, R432). -/
  stage : Option (Nat × Nat) := none
  fwSince : Nat := 0
  expiries : Nat := 0
  /-- A firmware image runs; the boot ROM does otherwise (R448). -/
  running : Bool := false
  /-- Master key slots that hold a key (R428). -/
  masterKeys : Tbl (List Byte) := []
  deriving DecidableEq, Repr

/-! ### What leaves the block -/

/-- Completion status of a PCI Express request. -/
inductive CplStatus where
  | success | unsupported | abort | retry
  deriving DecidableEq, Repr

/-- What a command sends out of the block. -/
inductive Out where
  | words (ws : List Word)
  /-- A PTP message of a port: its transport, domain, priorities and messageType, and the transmit timestamp that it carries,
  its own (one-step) or that of the message it follows (R41, R42). -/
  | ptp (port transport domain prio1 prio2 kind : Nat) (stamp : Option Int)
  /-- A completion of the host port; words read as poisoned are named by their place. -/
  | completion (status : CplStatus) (ws : List Word) (poisoned : List Nat)
  /-- A posted write of the host port: host address, words, relaxed ordering. -/
  | hostWrite (addr : Nat) (ws : List Word) (relaxed : Bool)
  /-- A read request of the host port: tag, host address, bytes. -/
  | hostRead (tag addr bytes : Nat)
  /-- A message-signalled interrupt (R333), an INTA message, an error message (0 correctable, 1 non-fatal, 2 fatal). -/
  | interrupt (addr data : Nat)
  | intx (assert : Bool)
  | errorMessage (kind : Nat)
  /-- A CDP message of a port: header words and body, which is ciphertext and tag where it is sealed under R379. -/
  | cdp (port : Nat) (header body : List Word) (sealed : Bool)
  /-- A MARK_OUT message from a port to the broadcast address, of IPv4 or IPv6 (R386). -/
  | markOut (port : Nat) (ipv4 : Bool) (udpPort : Nat) (ws : List Word)
  /-- A forwarded frame leaves a port, its FCS inverted or not (R370); a ring test frame (R372); an ESMC PDU with its quality
  level (R44); an answer to ARP (0), to a neighbour solicitation (1), to an echo request of IPv4 (2) or IPv6 (3) (R373). -/
  | forward (port : Nat) (badFcs : Bool)
  | ringTest
  | esmc (port level : Nat)
  | answer (port what : Nat)
  deriving DecidableEq, Repr

/-- The dictionary besides its values: the holding copies of the last snapshot and the instant of the next (R360), the
writes that wait for the slow clock, one a slot: index, sub-index, value, the copy of the slow slots with the time of the edge that
refreshed it (R362), and the slots that the host has written in the
Jasper cycle of its last write (R16). -/
structure DictSt where
  snap : Tbl Nat := []
  snapAt : Option Nat := none
  slow : List (Nat × Nat × Nat) := []
  copy : Tbl Nat := []
  copyAt : Option Nat := none
  hostCycle : Nat := 0
  hostSlots : List (Nat × Nat) := []
  deriving DecidableEq, Repr

/-! ### The dictionary's paths (15_dictionary_registers.md) -/

/-- What one access path keeps for itself (R346, R349, R350, R361): read latch with the index that loaded it, write
latch with its index and the set of words written, view. -/
structure PathSt where
  readTag : Nat := 0
  readW0 : Nat := 0
  readW1 : Nat := 0
  writeTag : Nat := 0
  writeMask : Nat := 0
  writeW0 : Nat := 0
  writeW1 : Nat := 0
  view : Nat := 0
  deriving DecidableEq, Repr

/-- The block. `pending` is the queue of waiting commands, first in, first out; `out` is what the last command sent
out of the block; `fresh` is the model's own counter of free values drawn (Config). -/
structure State where
  pending : List Instr := []
  out : List Out := []
  fresh : Nat := 0
  /-- RESET_N is held low: start-up has not begun (R438). -/
  resetHeld : Bool := false
  /-- Garnet time in ticks (R26). -/
  now : Nat := 0
  /-- Values in force of the dictionary, by `key`; an unlisted one is at its default. -/
  dict : Tbl Nat := []
  time : TimeSt := {}
  /-- Edge paths of sources 0 to 200. -/
  edge : Tbl EdgeSt := []
  run : Tbl RunSt := []
  guard : Tbl OutSt := []
  line : Tbl OutSt := []
  /-- A failure of a source that feeds the Garnet or Jasper domain is present (R72, R399). -/
  clockCause : Bool := false
  /-- A brown-out of VCORE or VAON is present (R72). -/
  brownCause : Bool := false
  ex : Tbl ExSt := []
  ca : Tbl CaSt := []
  tone : Tbl ToneSt := []
  /-- Clamp flags over time, by 18 × pier + pin code. -/
  clamp : Tbl (List Span) := []
  conv : Tbl ConvSt := []
  /-- Slices not at their reset state (slice i of a pier serves lane i, slice 8 is the spare, R108). -/
  slice : Tbl SliceSt := []
  overlap : Tbl Overlap := []
  /-- CAL values written and not yet committed (R123), by key. -/
  staged : Tbl Nat := []
  slots : List Slot := []
  markOut : List MarkOut := []
  markOutNum : Nat := 0
  /-- Scheduled times of the edges this device drove on each Viaduct line (R169). -/
  driven : Tbl (List Nat) := []
  cw : CwSt := {}
  /-- The source state table, the enabled units and the enabled sequencers of Keystone. -/
  src : Tbl SrcSt := []
  units : Tbl UnitSt := []
  seqs : Tbl SeqSt := []
  stream : Tbl StreamSt := []
  cai : Tbl CaiSt := []
  /-- DRAM and the exchange SRAM by internal byte address (R306); an unlisted byte reads as zero. -/
  mem : List Host.Cell := []
  dram : DramSt := {}
  fetch : FetchSt := {}
  host : HostSt := {}
  net : NetSt := {}
  clk : ClkSt := {}
  nv : StoreSt := {}
  /-- Time of the last partner fault log entry of each kind (R389). -/
  pflLast : Tbl Nat := []
  ds : DictSt := {}
  hostPath : PathSt := {}
  mgmtPath : PathSt := {}
  deriving DecidableEq, Repr

/-- The block right after power-on reset. -/
def State.reset : State := {}

end Sys2Proof.Machine
end

