-- ==== Sys2Proof/Machine/Ops.lean ====
section
/-! DEFINITION. The named operations every meaning is written with: values in force, counters, marks, rejected
writes, the advance of Garnet time, records into the Causeway, free values.

Readings and choices here: DESIGN CHOICE log 1, log 5, log 6, log 69, log 72; DEDUCED log 13, log 16, log 23, log 26, log 38,
log 74, log 84. -/
namespace Sys2Proof.Machine

/-! ### Values in force -/

/-- The value in force under a key. -/
def State.val (s : State) (k : Nat) : Nat :=
  match tfind s.dict k with
  | some v => v
  | none => dfltOf k

/-- The value in force of an instance. -/
def State.par (s : State) (ix sub : Nat) : Nat := s.val (key ix sub)

/-- Keep `v` under a key; a default value is not listed. -/
def State.setVal (s : State) (k v : Nat) : State :=
  { s with dict := if v = dfltOf k then terase s.dict k else tset s.dict k v }

/-- Set the value in force of an instance. -/
def State.setPar (s : State) (ix sub v : Nat) : State := s.setVal (key ix sub) v

/-- A value at a stamp, by the changes kept and the value now: the oldest change that took effect after the stamp tells the value
before it (R150). -/
def pastAt (past : List Past) (t k now_ : Nat) : Nat :=
  match past.find? (fun p => decide (p.key = k) && decide (t < p.eff)) with
  | some p => p.old
  | none => now_

/-- The value in force at a stamp. -/
def State.valAt (s : State) (t k : Nat) : Nat := pastAt s.cw.past t k (s.val k)

/-- `valAt` of an instance. -/
def State.parAt (s : State) (t ix sub : Nat) : Nat := s.valAt t (key ix sub)

/-- The number of the Jasper cycle at the present count: 800, 600, 400 or 200 MHz by CLK.JASPER_NOW (R404 Table 9). -/
def State.jasperCycle (s : State) : Nat := s.now * (4 - s.par Ix.clkJasperNow 0) / 1280

/-! ### Counters and marks (R357 to R359) -/

/-- One event on a CNT/S counter: it stops at 0xFFFF_FFFF, and the step into saturation is itself counted (R357). -/
def State.cnt (s : State) (ix sub : Nat) : State :=
  let v := s.par ix sub
  if 0xFFFFFFFF ≤ v then s
  else
    let s1 := s.setPar ix sub (v + 1)
    if v + 1 = 0xFFFFFFFF then
      let c := s1.par Ix.dictSatCount 0
      (s1.setPar Ix.dictSatCount 0 (min (c + 1) 0xFFFFFFFF)).setPar Ix.dictSatLast 0 (ix * 256 + sub)
    else s1

/-- `n` events on a CNT/S counter. -/
def State.cntN (s : State) (ix sub n : Nat) : State :=
  let v := s.par ix sub
  if n = 0 ∨ 0xFFFFFFFF ≤ v then s
  else (s.setPar ix sub (min (v + n - 1) 0xFFFFFFFE)).cnt ix sub

/-- Add to a CNT/W counter, modulo 2^64 (R358). -/
def State.cntW (s : State) (ix sub n : Nat) : State := s.setPar ix sub ((s.par ix sub + n) % 2 ^ 64)

/-- Raise a high-water mark (R359). -/
def State.mark (s : State) (ix sub v : Nat) : State :=
  if s.par ix sub < v then s.setPar ix sub v else s

/-- A refused write: the owner's rejected-write counter and last-rejected field, [23:8] index, [7:0] sub-index
(R352). -/
def State.reject (s : State) (cntIx lastIx inst ix sub : Nat) : State :=
  (s.cnt cntIx inst).setPar lastIx inst (ix * 256 + sub)

/-! ### Free values -/

/-- A fresh index for a value the spec leaves open; the value itself is an opaque constant of Config applied to it. -/
def State.draw (s : State) : State := { s with fresh := s.fresh + 1 }

/-! ### Garnet time -/

/-- Code of R38 Table 4. -/
def Quality.code : Quality → Nat
  | .fine => 0 | .holdover => 1 | .coarse => 2

/-- TPLL is to time the count: quality FINE or HOLDOVER. -/
def State.counts (s : State) : Bool := decide (s.time.quality ≠ .coarse)

/-- TPLL runs and times the count; a forced reference that has stopped leaves the count without a clock (R397). -/
def State.tpll (s : State) : Bool := s.counts && !s.clk.dead

/-- CLK.DOMAIN_GOOD of a domain: 0 Opal, 1 Garnet, 2 Jasper, 3 Topaz, 4 Agate, 5 Spinel, 6 Quartz. -/
def State.domainGood (s : State) (d : Nat) : Bool := bit (s.par Ix.clkDomainGood 0) d

/-- The clock of a TPLL-derived domain runs (R392, R397, R401). -/
def State.runs (s : State) (d : Nat) : Bool := s.domainGood d && !s.clk.dead

/-- The DRAM is READY and Topaz runs (R279, R392). -/
def State.dramRuns (s : State) : Bool := s.runs 3 && decide (s.par Ix.memState 0 = 1)

/-- The Causeway, Keystone and the streams run: TPLL runs, and the device is in WATCH or MEASURE (R18 Table 4, R154). -/
def State.merging (s : State) : Bool := s.tpll && decide (2 ≤ s.par Ix.pwrState 0)

/-- The period of the slow clock that drives the COARSE count, with its trim, in units of 2^−16 tick (R27, R38). -/
def State.slowPeriod (s : State) : Nat :=
  if s.time.driveXb then (7812500 * 65536 + i32 (s.par Ix.timeXbTrim 0)).toNat
  else (8000000 * 65536 + i32 (s.par Ix.timeSroTrim 0)).toNat

/-- The end of tick `t`, in 2^−16 tick: an edge inside the tick has come. -/
def tickEnd (t : Nat) : Nat := t * 65536 + 65535

/-- The COARSE count at `t`: held until the first edge of the driving clock, whose exact count is `first` in 2^−16 tick; each
edge from then on adds one period; never below the held count (R470). -/
def coarseCount (first period held t : Nat) : Nat :=
  if period = 0 ∨ tickEnd t < first then held
  else max held ((first + (tickEnd t - first) / period * period) / 65536)

/-- The exact count of the first edge of the driving clock after the present one, in 2^−16 tick. -/
def State.nextEdge (s : State) : Nat :=
  let first := s.time.anchor
  if s.slowPeriod = 0 ∨ tickEnd s.now < first then first
  else first + ((tickEnd s.now - first) / s.slowPeriod + 1) * s.slowPeriod

/-- Garnet time when an event happens at `t` (R26, R470): the count never decreases; without a clock it stands (R397). -/
def State.timeAt (s : State) (t : Nat) : Nat :=
  match s.time.quality with
  | .coarse => if s.clk.opalDead then s.now else coarseCount s.time.anchor s.slowPeriod s.now t
  | _ => if s.clk.dead then s.now else max s.now t

/-- Let time pass to the event of a command, and begin a new list of outputs. -/
def State.enter (s : State) (t : Nat) : State := { s with now := s.timeAt t, out := [] }

/-- First whole microsecond of Garnet time strictly after `t` (R53, R73, R407): 256,000 ticks. -/
def nextMicro (t : Nat) : Nat := nextMul t 256000

/-- First release boundary at or after a + 32,768 ticks (R148). -/
def effTime (a : Nat) : Nat := ceilMul (a + 32768) 16384

/-- A scheduled time that a forward step has skipped comes at the step's end (R50). -/
def State.place (s : State) (d : Nat) : Nat :=
  match s.time.skipped with
  | some (a, b) => if a ≤ d ∧ d < b then b else d
  | none => d

/-- The end of the blind interval that a stamped transition at `t` opens (R37). -/
def State.blindEnd (s : State) (t : Nat) : Nat := s.place (t + 640)

/-- H in ticks (R138). -/
def State.horizon (s : State) : Nat := s.par Ix.cwHorizon 0 * 256

/-- L in ticks (R190). -/
def State.delayL (s : State) : Nat := s.par Ix.actDelay 0 * 256

/-! ### What leaves the block -/

/-- Send something out of the block. -/
def State.send (s : State) (o : Out) : State := { s with out := s.out ++ [o] }

/-- An alert for every session that subscribes to alerts (R383 Table 4). -/
def State.alert (s : State) (code detail : Nat) : State :=
  let mine := s.net.subs.filter (fun (x : Nat × Sub) => decide (x.2.kind = 3))
  { s with net := { s.net with alerts := s.net.alerts ++ mine.map (fun x => (x.1, code, detail)) } }

/-! ### Records into the Causeway (R137, R139, R154) -/

/-- The stamp of an item. -/
def Item.stamp : Item → Nat
  | .record r _ => r.stamp
  | .ctl t _ => t

/-- Changes of one stamp act in this order: line and lane inputs, unit enables, sequencer enables, arming, streams. -/
def Ctl.rank : Ctl → Nat
  | .src _ _ _ => 1 | .unit _ _ => 3 | .seq _ _ => 4 | .arm _ _ => 5
  | .streamOff _ => 6 | .streamOn _ _ => 7 | .closeFrames => 2

/-- The order of the store: R137 for records; a change stands before every record of its stamp (R150). -/
def Item.before (a b : Item) : Bool :=
  match a, b with
  | .record r _, .record q _ => r.before q
  | .ctl t c, .ctl u d => decide (t < u) || (decide (t = u) && decide (c.rank < d.rank))
  | .ctl t _, .record q _ => decide (t ≤ q.stamp)
  | .record r _, .ctl u _ => decide (r.stamp < u)

/-- Put an item at its place in an ordered list, after its equals. -/
def insertItem (x : Item) : List Item → List Item
  | [] => [x]
  | y :: t => if x.before y then x :: y :: t else y :: insertItem x t

/-- Is the item a record (it occupies an entry of the store, R143)? -/
def Item.isRecord : Item → Bool
  | .record _ _ => true
  | .ctl _ _ => false

/-- Entries of the store in use (CW.OCCUPANCY, R143): admitted records, GUARD records stamped in the future among them, and
one CONFIG record for each change that waits for its effective time (log 74). -/
def State.occupancy (s : State) : Nat := (s.cw.store.filter Item.isRecord).length + s.cw.queue.length

/-- Put an item in the store; CW.OCCUPANCY_HWM follows (R156). -/
def State.store (s : State) (x : Item) : State :=
  let s1 := { s with cw := { s.cw with store := insertItem x s.cw.store } }
  s1.mark Ix.cwOccupancyHwm 0 s1.occupancy

/-- An item enters the store; a record whose bucket has been released is a late record (R154). -/
def State.admitItem (s : State) (x : Item) : State :=
  let s1 := s.store x
  if x.isRecord ∧ x.stamp / 1280 < s.cw.bucket then s1.cnt Ix.cwLate 0 else s1

/-- A record enters the store for every stream. -/
def State.admitRec (s : State) (r : Rec) : State := s.admitItem (.record r none)

/-- An item of the internal port (sources 201 to 255), or of a lane whose record is made by the safe path: into the
store while the Causeway runs; while it is stopped, kept until it runs again (R154). -/
def State.emitItem (s : State) (x : Item) : State :=
  if s.merging then s.admitItem x else { s with cw := { s.cw with late := s.cw.late ++ [x] } }

/-- A record for every stream, by the internal port or the safe path. -/
def State.emit (s : State) (r : Rec) : State := s.emitItem (.record r none)

/-! ### Edge paths -/

def State.edgeOf (s : State) (src : Nat) : EdgeSt := tget {} s.edge src
def State.setEdge (s : State) (src : Nat) (e : EdgeSt) : State := { s with edge := tset s.edge src e }
def State.runOf (s : State) (src : Nat) : RunSt := tget {} s.run src
def State.setRun (s : State) (src : Nat) (r : RunSt) : State := { s with run := tset s.run src r }

/-- A drop of an event stamped `t` joins the open account whose window holds the stamp, or opens one (R145). -/
def joinAccount (t : Nat) : List Account → List Account
  | [] => [⟨t, t, 1⟩]
  | a :: l =>
    if a.start ≤ t ∧ t < a.start + 8192 then ⟨a.start, max a.last t, a.count + 1⟩ :: l
    else a :: joinAccount t l

/-- An event of a source is lost: it joins the loss accounts, and a lane counts it (R65, R145). -/
def State.loseEvent (s : State) (src t : Nat) : State :=
  let e := s.edgeOf src
  let s1 := s.setEdge src { e with accounts := joinAccount t e.accounts }
  if src < 192 then s1.cnt Ix.laneBufDrops src else s1

/-- Entries of a source's event buffer: a lane 256 (R64), a Viaduct line and PPS_IN 64 (R136). -/
def bufferSize (src : Nat) : Nat := if src < 192 then 256 else 64

/-- An event enters its source's event buffer (R64), in order of completion; LANE.BUF_HWM follows (R65). An event that finds
the buffer full is lost (log 26). -/
def State.buffer (s : State) (r : Rec) : State :=
  let e := s.edgeOf r.src
  if bufferSize r.src ≤ e.buf.length then s.loseEvent r.src r.stamp
  else
    let e1 := { e with buf := e.buf ++ [r] }
    let s1 := s.setEdge r.src e1
    if r.src < 192 then s1.mark Ix.laneBufHwm r.src e1.buf.length else s1

/-- A lane delivers events stamped `t`: it was on from a time at or before `t` and had not stopped by then (R79). -/
def RunSt.at_ (r : RunSt) (t : Nat) : Bool :=
  (decide (r.since ≤ t) && (r.on || decide (t < r.until_))) ||
    (match r.prev with
     | some (a, b) => decide (a ≤ t) && decide (t < b)
     | none => false)

/-- A run begins at `t`; the one before it is kept, for edges that are still to be judged. -/
def RunSt.begin_ (r : RunSt) (t : Nat) : RunSt :=
  { on := true, since := t, until_ := 0, prev := if r.since < r.until_ then some (r.since, r.until_) else none }

/-- The run ends at `t`. -/
def RunSt.stop (r : RunSt) (t : Nat) : RunSt := { r with on := false, until_ := t }

/-- The source has stopped and its threshold input still runs, for its deglitch interval `d` past the stop (R79). -/
def RunSt.ending (r : RunSt) (d now_ : Nat) : Bool :=
  !r.on && decide (r.since < r.until_) && decide (now_ ≤ r.until_ + d)

/-! ### Enables in force -/

/-- Some stream S0 to S7 is enabled. -/
def State.anyStream (s : State) : Bool := (List.range 8).any (fun n => decide (s.par Ix.streamState n ≠ 0))

/-- Some sequencer K0 to K3 is enabled. -/
def State.anySeq (s : State) : Bool := (List.range 4).any (fun n => decide (s.par Ix.keyEnable n ≠ 0))

/-- A timed-action slot is occupied: an action holds it up to its last edge (R194). -/
def State.slotsHeld (s : State) : Nat := (s.slots.filter (fun x => decide (s.now < x.holdTo) || !x.done)).length

/-- The Causeway, the time base and the time loader count as enabled (R53, R57, R138). -/
def State.capturing (s : State) : Bool := s.anyStream || s.anySeq || decide (s.slotsHeld ≠ 0)

end Sys2Proof.Machine
end

