-- ==== Sys2Proof/Machine/Integrity.lean ====
section
/-! DEFINITION. Memory integrity (12_memory_integrity.md): corrected and uncorrectable codewords, refresh and scrub
slots.

Readings and choices here: DESIGN CHOICE log 34; DEDUCED log 36. -/
namespace Sys2Proof.Machine

/-- The first internal address of DRAM (R306). -/
def dramBase : Nat := 0x1000000000

/-- Bytes of trained DRAM (MEM.SIZE × 64 KiB). -/
def State.dramBytes (s : State) : Nat := s.par Ix.memSize 0 * 65536

/-- [a, b) lies wholly in trained DRAM. -/
def State.inDram (s : State) (a b : Nat) : Bool :=
  decide (dramBase ≤ a) && decide (b ≤ dramBase + s.dramBytes) && decide (a < b)

/-- The device that supplies a symbol of a codeword (R282 Table 2). -/
def symbolDevice (symbol : Nat) : Nat := symbol / 2

/-- The device position p of a symbol of a codeword at an address (R278, R282, R288). -/
def State.devicePos (s : State) (addr symbol : Nat) : Nat :=
  let sub := if 2 ≤ s.dram.channels then fld addr 7 6 else fld addr 6 6
  let rank := if 2 ≤ s.dram.ranks ∧ s.dramBytes ≤ 2 * (addr - dramBase) then 1 else 0
  40 * (sub / 2) + 20 * (sub % 2) + 10 * rank + symbolDevice symbol

/-- A DRAM codeword was corrected at some symbols (R283, Table 5). -/
def State.dramFixed (s : State) (addr : Nat) (symbols : List Nat) : State :=
  match symbols with
  | [] => s
  | k :: _ =>
    let ps := (symbols.map (s.devicePos addr)).eraseDups
    let s1 := ps.foldl (fun u p => u.cnt Ix.memCeDevice p) (s.cntW Ix.memCeTotal 0 1)
    let bits := (symbols.eraseDups.map (fun i => 2 ^ i)).sum
    (s1.setPar Ix.memLastCeAddr 0 addr).setPar Ix.memLastCeInfo 0
      (s.devicePos addr k * 2 ^ 24 + addr / 16 % 4 * 2 ^ 20 + bits)

/-- A DRAM codeword could not be corrected: the storage code of Table 4, and the stream or 0xFF (R289). -/
def State.dramBad (s : State) (addr code stream : Nat) : State :=
  ((s.cntW Ix.memUeTotal 0 1).setPar Ix.memLastUeAddr 0 addr).setPar Ix.memLastUeInfo 0 (code * 2 ^ 24 + stream)

/-- An SRAM codeword was corrected. -/
def State.sramFixed (s : State) : State := s.cntW Ix.sramCeTotal 0 1

/-- An SRAM codeword could not be corrected (R289). -/
def State.sramBad (s : State) (code entry : Nat) : State :=
  (s.cntW Ix.sramUeTotal 0 1).setPar Ix.sramLastInfo 0 (code * 2 ^ 24 + entry % 2 ^ 24)

/-- The 16 bytes of codeword `i` of a byte string, padded with zeros. -/
def codewordOf (bytes : List Byte) (i : Nat) : List Byte :=
  let b := (bytes.drop (16 * i)).take 16
  b ++ List.replicate (16 - b.length) 0

/-- A byte string with codeword `i` read as `data`; its length is kept. -/
def withCodeword (bytes : List Byte) (i : Nat) (data : List Byte) : List Byte :=
  (bytes.take (16 * i) ++ data ++ bytes.drop (16 * i + 16)).take bytes.length

/-- The codewords of a byte string, read with the errors met: the bytes delivered and the codewords that could not be
corrected. -/
def readBytes (bytes : List Byte) : List CodeErr → List Byte × List CodeErr
  | [] => (bytes, [])
  | e :: es =>
    let r := readBytes bytes es
    let c := readCodeword (codewordOf bytes e.cw) e.err
    (withCodeword r.1 e.cw c.bytes, if c.fixed.isNone then e :: r.2 else r.2)

/-- Count the corrections of a DRAM read, each codeword at its address. -/
def State.countFixes (bytes : List Byte) (s : State) (e : CodeErr) : State :=
  match (readCodeword (codewordOf bytes e.cw) e.err).fixed with
  | some ps => s.dramFixed e.addr ps
  | none => s

/-! ### Stored codewords (R281 to R285) -/

/-- The exchange SRAM (R306 Table 8). -/
def sramBase : Nat := 0x20000000
def inSram (a b : Nat) : Bool := decide (sramBase ≤ a) && decide (b ≤ sramBase + 1048576)

/-- An error pattern over exactly 20 symbols. -/
def pattern20 (err : List Byte) : List Byte := (err ++ List.replicate 20 0).take 20

/-- Symbols of a stored codeword have changed: the pattern joins what differs already. -/
def strikeOne (l : Tbl (List Byte)) (e : CodeErr) : Tbl (List Byte) :=
  let a := e.addr / 16 * 16
  let p := (pattern20 (tget [] l a)).zipWith (fun x y => x ^^^ y) (pattern20 e.err)
  if p.all (fun b => decide (b = 0)) then terase l a else tset l a p

/-- Errors that have come up in stored codewords, by address. -/
def State.strike (s : State) (errs : List CodeErr) : State :=
  { s with dram := { s.dram with bad := errs.foldl strikeOne s.dram.bad } }

/-- Bytes from address `a` with a codeword's 16 bytes at `addr` laid over them. -/
def overlay (a : Nat) (bytes : List Byte) (r : Nat × CwRead) : List Byte :=
  bytes.zipIdx.map (fun x =>
    if r.1 ≤ a + x.2 ∧ a + x.2 < r.1 + 16 then r.2.bytes.getD (a + x.2 - r.1) 0 else x.1)

/-- The codewords in error that [a, a + n) meets, as they read. -/
def State.badReads (s : State) (a n : Nat) : List (Nat × CwRead) :=
  (s.dram.bad.filter (fun x => decide (a < x.1 + 16) && decide (x.1 < a + n))).map
    (fun x => (x.1, readCodeword (memBytes s.mem x.1 16) x.2))

/-- `n` bytes as a reader gets them: corrected, corrected wrongly, or as stored where a codeword is uncorrectable (R283). -/
def State.readMem (s : State) (a n : Nat) : List Byte := (s.badReads a n).foldl (overlay a) (memBytes s.mem a n)

/-- The addresses of the codewords of [a, a + n) that cannot be corrected. -/
def State.badAt (s : State) (a n : Nat) : List Nat := ((s.badReads a n).filter (fun r => r.2.fixed.isNone)).map Prod.fst

/-- A codeword's correction is counted, by where it lies. -/
def State.cwFixed (s : State) (addr : Nat) (ps : List Nat) : State :=
  if ps.isEmpty then s else if inSram addr (addr + 1) then s.sramFixed else s.dramFixed addr ps

/-- An uncorrectable codeword is counted, by where it lies; `code` of R289, the stream or 0xFF. -/
def State.cwBad (s : State) (addr code stream : Nat) : State :=
  if inSram addr (addr + 1) then s.sramBad code (addr - sramBase) else s.dramBad addr code stream

/-- The corrections and losses of one codeword that is read. -/
def State.countRead (code stream : Nat) (s : State) (r : Nat × CwRead) : State :=
  match r.2.fixed with
  | some ps => s.cwFixed r.1 ps
  | none => s.cwBad r.1 code stream

/-- A read of [a, a + n) is counted. -/
def State.countReads (s : State) (a n code stream : Nat) : State :=
  (s.badReads a n).foldl (State.countRead code stream) s

/-- A codeword that [a, b) covers whole. -/
def wholeIn (a b cw : Nat) : Bool := decide (a ≤ cw) && decide (cw + 16 ≤ b)

/-- Bytes are written from address `a` on (R285, R289): a codeword covered whole is healed; one covered in part is read first, and
stays as it is where it cannot be corrected. -/
def State.writeMem (s : State) (a : Nat) (bytes : List Byte) (code stream : Nat) : State :=
  let b := a + bytes.length
  let part := (s.badReads a bytes.length).filter (fun r => !wholeIn a b r.1)
  let stuck := (part.filter (fun r => r.2.fixed.isNone)).map Prod.fst
  let m := stuck.foldl (fun m c => memWriteBytes m c (memBytes s.mem c 16)) (memWriteBytes s.mem a bytes)
  let s1 := part.foldl (State.countRead code stream) s
  { s1 with
    mem := m
    dram := { s1.dram with
      bad := s1.dram.bad.filter (fun x => decide (x.1 + 16 ≤ a) || decide (b ≤ x.1) || stuck.contains x.1)
      scratch := cutOut a b s1.dram.scratch } }

/-- The nibble that a device drives on a beat of a burst (R282 Table 2): `codes` are the line's four codewords of 20 symbols; the low
nibble of a symbol comes first. -/
def burstNibble (codes : List (List Nat)) (device beat : Nat) : Nat :=
  let symbol := (codes.getD (beat / 4) []).getD (2 * device + beat % 4 / 2) 0
  if beat % 2 = 0 then symbol % 16 else symbol / 16 % 16

/-- The four codewords of a line as they are stored: data, check symbols, and what differs. -/
def State.lineCodes (s : State) (line : Nat) : List (List Nat) :=
  (List.range 4).map (fun c =>
    let a := line / 64 * 64 + 16 * c
    let clean := (memBytes s.mem a 16).map BitVec.toNat
    (clean ++ rsCheck clean).zipWith (fun x y => x ^^^ y) ((pattern20 (tget [] s.dram.bad a)).map BitVec.toNat))

/-- What device `device` drives on a beat of the burst of a line: 0 to 7 on DQ[4d + 3:4d], 8 on CB[3:0], 9 on CB[7:4] (R282). -/
def State.burst (s : State) (line device beat : Nat) : Nat := burstNibble (s.lineCodes line) device beat

/-- Count the corrections of an SRAM read. -/
def State.countSramFixes (bytes : List Byte) (s : State) (e : CodeErr) : State :=
  match (readCodeword (codewordOf bytes e.cw) e.err).fixed with
  | some (_ :: _) => s.sramFixed
  | _ => s

/-! ### Refresh and scrub slots (R279, R286 to R288) -/

/-- The devices' marks at the end of a scrub pass (R288). -/
def State.markSuspects (s : State) : State :=
  (List.range 80).foldl (fun u p =>
    u.setPar Ix.memDeviceSuspect p (b2n (decide (u.par Ix.memCeThreshold 0 < tget 0 u.dram.passSymbols p)))) s

/-- The corrected symbols of a scrubbed codeword count towards its devices' marks (R288). -/
def State.passSymbol (addr : Nat) (s : State) (k : Nat) : State :=
  let p := s.devicePos addr k
  { s with dram := { s.dram with passSymbols := tset s.dram.passSymbols p (tget 0 s.dram.passSymbols p + 1) } }

/-- The scrubber reads one codeword and writes a corrected one back (R287); an uncorrectable one stays as it is, for its next reader
(R289 code 10). A wrong correction is never written back (R289). -/
def State.scrubOne (s : State) : State :=
  let addr := dramBase + s.dram.scrubAt
  let s1 := (s.badReads addr 16).foldl (fun (u : State) (r : Nat × CwRead) =>
    let u1 := (r.2.fixed.getD []).foldl (State.passSymbol addr) (u.countRead 10 0xFF r)
    if r.2.fixed.isSome ∧ r.2.bytes = memBytes s.mem addr 16 then
      { u1 with dram := { u1.dram with bad := terase u1.dram.bad addr } }
    else u1) s
  if s1.dram.scrubAt + 16 < s1.dramBytes then
    { s1 with dram := { s1.dram with scrubAt := s1.dram.scrubAt + 16 } }
  else
    let s2 := (s1.markSuspects.cntW Ix.memScrubPasses 0 1).setPar Ix.memScrubPassTime 0
      ((s1.now - s1.dram.passStart) / 256000000)
    { s2 with dram := { s2.dram with scrubAt := 0, passStart := s2.now, passSymbols := [] } }

/-- `n` codewords in turn. -/
def State.scrubMany : Nat → State → State
  | 0, s => s
  | n + 1, s => State.scrubMany n s.scrubOne

/-- SCRUB_SLOT: the scrubber reads `count` successive codewords in its slot; `errs` are errors that have come up in stored codewords
(R287, R288). In self-refresh the scrubbing pauses (R279). -/
def execScrubSlot (t : Nat) (count : Nat) (errs : List CodeErr) (s : State) : Host.Outcome State Fault Refusal :=
  let s1 := s.enter t
  if s1.dramRuns then
    let s2 := (s1.strike errs).scrubMany count
    .next (s2.setPar Ix.memScrubPos 0 (s2.dram.scrubAt / 65536))
  else .next s1

/-- REFRESH_SLOT: one all-bank refresh, DQS tracking, the timing overrides written since, and the devices' report of
their temperature (R279, R286). -/
def execRefreshSlot (t : Nat) (hot : Bool) (s : State) : Host.Outcome State Fault Refusal :=
  let s1 := s.enter t
  if s1.par Ix.memState 0 = 1 then
    let ovr := (List.range 16).filterMap (fun i =>
      if s1.par Ix.memTimingOvr i = 0 then none else some (i, s1.par Ix.memTimingOvr i))
    .next ({ s1 with dram := { s1.dram with timing := ovr } }.setPar Ix.memDramHot 0 (b2n hot))
  else .next s1

end Sys2Proof.Machine
end

