-- ==== Sys2Proof/Machine/Edges.lean ====
section
/-! DEFINITION. The edge path (02_garnet_time.md R32 to R37, 03_lane_edges_and_guards.md R58 to R68, 06_causeway.md R142
to R147): threshold edges, deglitching, digital samples, fast comparators, event buffers and loss accounts.

Readings and choices here: DEDUCED log 18, log 25, log 26, log 74; DESIGN CHOICE log 85. -/
namespace Sys2Proof.Machine

/-! ### Inputs -/

/-- The rising threshold in µV at a stamp: the larger code, at most 4,000, times 1.25 mV, plus 1 mV (R59). -/
def State.thrRise (s : State) (lane t : Nat) : Int :=
  (max (min (s.parAt t Ix.laneThrHi lane) 4000) (min (s.parAt t Ix.laneThrLo lane) 4000) : Nat) * 1250 + 1000

/-- The falling threshold in µV at a stamp: the smaller code times 1.25 mV, less 1 mV (R59). -/
def State.thrFall (s : State) (lane t : Nat) : Int :=
  (min (min (s.parAt t Ix.laneThrHi lane) 4000) (min (s.parAt t Ix.laneThrLo lane) 4000) : Nat) * 1250 - 1000

/-- The instant 50 ns ago, at which a threshold DAC that has changed since stood at its old code (R60). -/
def State.dacPast (s : State) : Nat := s.now - 12800

/-- A comparator with the rising threshold somewhere in [r0, r1] and the falling one in [f0, f1]: the level where they all
agree, else `either` (R59, R60). -/
def judgeLevel (r0 r1 f0 f1 uv : Int) (old either : Nat) : Nat :=
  if r1 < uv then 1
  else if uv < f0 then 0
  else if (old = 0 ∧ r0 < uv) ∨ (old = 1 ∧ uv < f1) then either
  else old

/-- The comparator output of an input: a lane under R59, within 50 ns of a threshold change a free one where the old and the
new threshold disagree (R60); a Viaduct line above 1.75 V or below 1.35 V (R202); PPS_IN switches as a line does (its
thresholds are in the electrical chapter). -/
def State.comparator (s : State) (src old : Nat) (inp : PinInput) : Nat :=
  match inp with
  | .level b => b2n b
  | .volts uv =>
    if src < 192 then
      let r := s.thrRise src s.now
      let q := s.thrRise src s.dacPast
      let f := s.thrFall src s.now
      let g := s.thrFall src s.dacPast
      judgeLevel (min q r) (max q r) (min g f) (max g f) uv old (Config.freeNat s.fresh % 2)
    else judgeLevel 1750000 1750000 1350000 1350000 uv old old

/-- TIME.LANE_SKEW of an input (R37). -/
def State.skew (s : State) (src : Nat) : Int := i32 (s.par Ix.timeLaneSkew src)

/-- The deglitch interval of an input in ticks (R61, R202). -/
def State.deglitch (s : State) (src : Nat) : Nat :=
  if src < 192 then s.par Ix.laneDeglitch src * 256
  else if src < 200 then s.par Ix.vdDeglitch (src - 192) * 256 else 0

/-- A load waits for a rising edge of PPS_IN (R53). -/
def State.ppsLoad (s : State) : Bool :=
  match s.time.load with
  | some l => decide (l.mode = 2)
  | none => false

/-- The TDC of an input runs (R58, R79, R202, R56): the source is on, or it stopped less than a deglitch interval ago. -/
def State.tdcRuns (s : State) (src : Nat) : Bool :=
  s.tpll && (
    if src = 200 then decide (s.par Ix.timePpsInMode 0 ≠ 0) || s.ppsLoad
    else
      let r := s.runOf src
      (decide (192 ≤ src) || decide (s.par Ix.laneRole src ≠ 0)) && (r.on || r.ending (s.deglitch src) s.now))

/-- The FRAC of a raw code: the conversion table of the input, equal bins while none has been measured (R32), scaled
in a coarse period that a slew lengthens or shortens (R47). -/
def State.frac (s : State) (src base code : Nat) : Nat :=
  let f := match tfind s.time.tables src with
    | some t => t.getD code 0 / 32768
    | none => code % 256
  match s.time.slew with
  | some (p, add) => if p = base then (if add then f * 257 / 256 else f * 255 / 256) else f
  | none => f

/-- The stamp of an edge: coarse count, FRAC and skew (R37). -/
def State.stampOf (s : State) (src base code : Nat) : Nat :=
  ((base + s.frac src base code : Nat) + s.skew src).toNat

/-- An edge stamped at `t` may be delivered (R79); PPS_IN delivers in mode 1 only (R56). -/
def State.delivers (s : State) (src t : Nat) : Bool :=
  if src = 200 then decide (s.par Ix.timePpsInMode 0 = 1) else (s.runOf src).at_ t

/-! ### Stamping (R37) -/

/-- The sample of the input at the end of the blind interval that began at `t0` (R37 point 3). -/
def State.resample (s : State) (src t0 : Nat) : State :=
  let e := s.edgeOf src
  if e.input = e.reported then s.setEdge src { e with blind := none }
  else
    let x : Edge := ⟨s.blindEnd t0, e.input, true⟩
    s.setEdge src { e with blind := none, reported := e.input, edges := e.edges ++ [x] }

/-- A crossing at stamp `t` to level `lv`: within the blind interval it is only counted, otherwise it is stamped and
opens a blind interval (R37). A resample at exactly this tick gives way to the stamped transition. -/
def State.crossing (s : State) (src t lv : Nat) : State :=
  let e := s.edgeOf src
  match e.blind with
  | some t0 =>
    if t < s.blindEnd t0 then (s.setEdge src { e with input := lv }).cnt Ix.timeDpLost src
    else
      let s1 := if s.blindEnd t0 < t then s.resample src t0 else s
      let e1 := s1.edgeOf src
      s1.setEdge src { e1 with input := lv, reported := lv, blind := some t, edges := e1.edges ++ [⟨t, lv, false⟩] }
  | none =>
    let keep := e.edges.filter (fun x => !(x.resampled && decide (x.stamp = t)))
    s.setEdge src { e with input := lv, reported := lv, blind := some t, edges := keep ++ [⟨t, lv, false⟩] }

/-- A falling edge of PPS_IN: only rising edges are stamped (R56); inside a blind interval it is counted (R37). -/
def State.ppsFall (s : State) (t : Nat) : State :=
  let e := s.edgeOf 200
  match e.blind with
  | some t0 =>
    if t < s.blindEnd t0 then (s.setEdge 200 { e with input := 0 }).cnt Ix.timeDpLost 200
    else
      let s1 := if s.blindEnd t0 < t then s.resample 200 t0 else s
      let e1 := s1.edgeOf 200
      s1.setEdge 200 { e1 with input := 0, reported := 0, blind := none }
  | none => s.setEdge 200 { e with input := 0, reported := 0 }

/-! ### Judging (R61) -/

/-- Accept an edge: the accepted level moves; an edge that may be delivered (R79) is counted for digital samples and, where the
source yields transitions (R62), becomes a TRANSITION event in the buffer. -/
def State.acceptEdge (s : State) (src : Nat) (x : Edge) : State :=
  let e := s.edgeOf src
  let live := s.delivers src x.stamp
  let e1 := { e with level := x.level, counted := if live && decide (src < 192) then e.counted ++ [(x.stamp, x.level)] else e.counted }
  let s1 := s.setEdge src e1
  if live && (decide (192 ≤ src) || decide (s.par Ix.laneDcapMode src ≠ 1)) then
    s1.buffer (recTransition x.stamp src x.level x.resampled)
  else s1

/-- Judge the oldest edge once its deglitch interval is past: rejected together with the edge that ended its pulse
when the level did not hold throughout [t, t + D], else accepted (R61). -/
def State.judge (s : State) (src : Nat) : State :=
  let e := s.edgeOf src
  match e.edges with
  | [] => s
  | x :: rest =>
    if (s.now : Int) < (x.stamp : Int) - s.skew src + s.deglitch src then s
    else
      match rest with
      | y :: rest2 =>
        if y.stamp ≤ x.stamp + s.deglitch src ∧ s.deglitch src ≠ 0 then
          let s1 := s.setEdge src { e with edges := rest2 }
          if src < 192 then s1.cnt Ix.laneGlitches src else s1
        else (s.setEdge src { e with edges := rest }).acceptEdge src x
      | [] => (s.setEdge src { e with edges := [] }).acceptEdge src x

/-! ### Digital samples (R63) -/

/-- The sampling period of a lane in ticks: 2^k × 1,024 ns. -/
def State.sampPeriod (s : State) (lane : Nat) : Nat := 2 ^ s.par Ix.laneDsampK lane * 262144

/-- A digital SAMPLE at instant `i` may be built: captured mode, a multiple of the period, not built before, and every
edge stamped at or before it judged. -/
def State.sampleReady (s : State) (lane i : Nat) : Bool :=
  let e := s.edgeOf lane
  s.tpll && decide (s.par Ix.laneRole lane ≠ 0) && decide (s.par Ix.laneDcapMode lane ≠ 0)
    && decide (i % s.sampPeriod lane = 0) && decide (s.place i = i) && decide (e.sampleFrom ≤ i) && (s.runOf lane).at_ i
    && e.edges.all (fun x => decide (i < x.stamp))
    && decide ((i : Int) + s.deglitch lane + max 0 (-s.skew lane) ≤ s.now)

/-- The value word of R63 Table 2. -/
def sampleWord (edges level : Nat) : Nat :=
  min edges 65535 * 65536 + b2n (decide (edges ≠ 0)) * 2 + level

/-- Build the digital SAMPLE of instant `i`. -/
def State.digitalSample (s : State) (lane i : Nat) : State :=
  let e := s.edgeOf lane
  let upTo := e.counted.filter (fun x => decide (x.1 ≤ i))
  let n := (upTo.filter (fun x => decide (i < x.1 + s.sampPeriod lane))).length
  let lv := match upTo.getLast? with
    | some x => x.2
    | none => e.sampleLevel
  let s1 := s.setEdge lane
    { e with counted := e.counted.filter (fun x => decide (i < x.1)), sampleLevel := lv, sampleFrom := i + 1 }
  s1.buffer (recSample i lane 0 0 2 (sampleWord n lv) false)

/-! ### Fast window comparators (R66 to R68) -/

/-- The zone after a signal, in units of 1/8 nV at the comparator: code c stands for (c − 2,048) × 9,765,625 of them
(R67); entering and leaving under R68. -/
def fcZone (lo hi hyst : Nat) (old : Nat) (sig : Int) : Nat :=
  let lvl (c : Int) : Int := (c - 2048) * 9765625
  if lvl (max lo hi) < sig then 2
  else if sig < lvl (min lo hi) then 0
  else if old = 2 ∧ lvl (max lo hi) - hyst * 9765625 ≤ sig then 2
  else if old = 0 ∧ sig ≤ lvl (min lo hi) + hyst * 9765625 then 0
  else 1

/-- The gain of the range stage (R83 Table 2). -/
def rangeGain : Nat → Int
  | 0 => 1 | 1 => 2 | 2 => 8 | 3 => 32 | _ => 128

/-- The comparator's input from the voltages at the lane's two nodes, in units of 1/8 nV (R83). -/
def State.fcInput (s : State) (lane : Nat) (pos neg : Int) : Int := rangeGain (s.par Ix.laneRange lane) * (pos - neg)

/-- The zones that the comparator may report of a signal: one, or within 50 ns of a change of its codes each that the codes
between old and new give (R60, R67, R68). -/
def State.fcZones (s : State) (lane old : Nat) (sig : Int) : List Nat :=
  let at_ (ix : Nat) : List Nat := [s.parAt s.now ix lane, s.parAt s.dacPast ix lane]
  ((at_ Ix.laneFcLo).flatMap (fun lo => (at_ Ix.laneFcHi).flatMap (fun hi =>
    (at_ Ix.laneFcHyst).map (fun hyst => fcZone lo hi hyst old sig)))).eraseDups

/-! ### Concentrators and the main port (R64, R142) -/

/-- The concentrator of a source: its pier's, or the auxiliary one of the lines and PPS_IN (R136). -/
def concentrator (src : Nat) : Nat := if src < 192 then src / 8 else 24

/-- The sources of a concentrator. -/
def sourcesOf (c : Nat) : List Nat := if c < 24 then (List.range 8).map (fun i => 8 * c + i) else (List.range 9).map (fun i => 192 + i)

/-- A source's buffer has an event at its head to offer: its 180 ns have not passed (R65), and the coarse period of a window
comparator's record is over (R68). -/
def State.waits (s : State) (src : Nat) : Bool :=
  match (s.edgeOf src).buf with
  | [] => false
  | r :: _ => decide (s.now ≤ r.stamp + 46080) && (decide (r.typ ≠ 1 ∨ fld r.spec 19 19 = 0) || decide (r.stamp + 256 ≤ s.now))

/-- A record is read on its path or in the Causeway store: one whose codeword cannot be corrected leaves as a GAP record (R284, R289
code 1); stamp, source and type stand in triplicate, what else is read is the code's (R283); `errs` name
records by their position in the release, and codewords within a record by `addr`. -/
def State.readEntry (errs : List CodeErr) (s : State) (i : Nat) (r : Rec) : State × Rec :=
  let bytes := bytesOfWords (r.header :: r.body)
  let mine := errs.filter (fun e => decide (e.cw = i))
  let at_ := mine.map (fun e => { e with cw := e.addr })
  let s1 := at_.foldl (State.countSramFixes bytes) s
  let bad := (readBytes bytes at_).2
  if bad.isEmpty then
    let ws := wordsOfBytes (readBytes bytes at_).1
    (s1, { r with spec := (ws.headD 0).toNat % 2 ^ 20, body := ws.drop 1 })
  else
    let s2 := bad.foldl (fun u e => u.sramBad 1 e.addr) s1
    let s3 := (s2.cntW Ix.cwGapRecords 0 1).cntW Ix.cwLostEvents 0 1
    (if r.src ≤ 200 then s3.cnt Ix.cwSourceGaps r.src else s3, recGap r.stamp r.src 0 false 1 1)

/-- The source a concentrator takes next: the first with an event after the one it served last (R64). -/
def State.turnOf (s : State) (c : Nat) : Option Nat :=
  let l := sourcesOf c
  let n := l.length
  let from_ := match tfind s.cw.port.lane c with
    | some src => (l.idxOf src + 1) % n
    | none => 0
  ((l.drop from_) ++ l.take from_).find? s.waits

/-- A concentrator has an event to offer in this nanosecond: at most one a nanosecond (R64). -/
def State.portOffers (s : State) (c : Nat) : Bool := decide (tfind s.cw.port.offered c ≠ some (s.now / 256)) && (s.turnOf c).isSome

/-- The main port's count for cycle `c`: a new cycle starts at the concentrator after the one served last (R142). -/
def PortSt.at_ (p : PortSt) (c : Nat) : PortSt :=
  if p.cycle = c then p else { p with cycle := c, taken := 0, served := [], start := (p.last + 1) % 25 }

/-- Places from the start of the cycle's round to a concentrator. -/
def PortSt.ahead (p : PortSt) (c : Nat) : Nat := (c + 25 - p.start) % 25

/-- The main port admits an event of concentrator `c` in this cycle: at most 32 a cycle, those of concentrators that come before
it in the round first, while the store has room (R142, R143). -/
def State.portAdmits (s : State) (c : Nat) : Bool :=
  let p := s.cw.port.at_ (s.now / 1280)
  let first := (List.range 25).filter (fun d => decide (p.ahead d < p.ahead c) && !p.served.contains d && s.portOffers d)
  decide (p.taken + first.length < 32) && decide (s.occupancy < 65536)

/-- A concentrator has offered the head of a source's buffer. -/
def PortSt.offer (p : PortSt) (c src ns : Nat) : PortSt := { p with offered := tset p.offered c ns, lane := tset p.lane c src }

/-- An event of concentrator `c` has been admitted. -/
def PortSt.serve (p : PortSt) (c : Nat) : PortSt :=
  { p with taken := p.taken + 1, served := if p.served.contains c then p.served else c :: p.served
           last := if p.served.all (fun d => decide (p.ahead d ≤ p.ahead c)) then c else p.last }

/-- A concentrator offers the head of a source's buffer, and the main port admits it or not in this cycle (R142, R144). -/
def State.portOffer (s : State) (src : Nat) (errs : List CodeErr) : State :=
  let e := s.edgeOf src
  let c := concentrator src
  match e.buf with
  | [] => s
  | r :: rest =>
    let p := s.cw.port.at_ (s.now / 1280)
    if s.portAdmits c then
      let q := (p.offer c src (s.now / 256)).serve c
      let u := ({ s.setEdge src { e with buf := rest } with cw := { s.cw with port := q } } : State).readEntry errs 0 r
      u.1.admitRec u.2
    else { s with cw := { s.cw with port := { p with offered := tset p.offered c (s.now / 256) } } }.cnt Ix.cwAdmitWaits 0

/-! ### Loss accounts (R145, R146) -/

/-- Drop the event at a buffer's head into the loss accounts (R65, R145). -/
def State.dropHead (s : State) (src : Nat) : State :=
  let e := s.edgeOf src
  match e.buf with
  | [] => s
  | r :: rest =>
    (s.setEdge src { e with buf := rest }).loseEvent src r.stamp

/-- Close an account: its GAP record enters the release schedule (R146, R147). -/
def State.closeAccount (s : State) (src : Nat) (a : Account) : State :=
  let s1 := s.admitRec (recGap a.start src 0 false (a.last - a.start + 1) a.count)
  ((s1.cntW Ix.cwGapRecords 0 1).cntW Ix.cwLostEvents 0 a.count).cnt Ix.cwSourceGaps src

/-! ### The commands -/

/-- TDC_RESAMPLE: the blind interval of an input has ended (R37). -/
def execTdcResample (t : Nat) (src : Fin 201) (s : State) : Host.Outcome State Fault Refusal :=
  let s1 := s.enter t
  match (s1.edgeOf src).blind with
  | some t0 =>
    if (s1.blindEnd t0 : Int) - s1.skew src ≤ (s1.now : Int) ∧ s1.tdcRuns src then .next (s1.resample src t0) else .next s1
  | none => .next s1

/-- DEGLITCH_END: the deglitch interval of the oldest edge not yet judged ends (R61). -/
def execDeglitchEnd (t : Nat) (src : Fin 201) (s : State) : Host.Outcome State Fault Refusal :=
  .next ((s.enter t).judge src)

/-- DIGITAL_SAMPLE: the sample of a lane at one of its sampling instants is built (R63). -/
def execDigitalSample (t : Nat) (lane : Fin 192) (instant : Nat) (s : State) : Host.Outcome State Fault Refusal :=
  let s1 := s.enter t
  if s1.sampleReady lane instant then .next (s1.digitalSample lane instant) else .next s1

/-- EVENT_DELIVERY: it is the turn of a source in its concentrator, and the main port admits the event or not in this cycle
(R64, R142, R144); `errs` are codewords of the record path in error (R284). -/
def execEventDelivery (t : Nat) (src : Fin 201) (errs : List CodeErr) (s : State) : Host.Outcome State Fault Refusal :=
  let s1 := s.enter t
  let c := concentrator src
  if s1.merging ∧ s1.portOffers c ∧ s1.turnOf c = some src.val then .next (s1.portOffer src errs) else .next s1

/-- BUF_DROP: the event at a buffer's head passes its time plus 180 ns unadmitted (R65, R144, R145). The path is clocked from
Garnet. -/
def execBufDrop (t : Nat) (src : Fin 201) (s : State) : Host.Outcome State Fault Refusal :=
  let s1 := s.enter t
  match (s1.edgeOf src).buf with
  | [] => .next s1
  | r :: _ => if r.stamp + 46080 < s1.now ∧ s1.tpll then .next (s1.dropHead src) else .next s1

/-- LOSS_ACCOUNT_CLOSE: the earliest account of a source closes at its start plus 212 ns (R145, R146). -/
def execLossAccountClose (t : Nat) (src : Fin 201) (s : State) : Host.Outcome State Fault Refusal :=
  let s1 := s.enter t
  let e := s1.edgeOf src
  match e.accounts.find? (fun a => e.accounts.all (fun b => decide (a.start ≤ b.start))) with
  | some a =>
    if a.start + 54272 ≤ s1.now ∧ s1.merging then
      .next ((s1.setEdge src { e with accounts := e.accounts.erase a }).closeAccount src a)
    else .next s1
  | none => .next s1

end Sys2Proof.Machine
end

