-- ==== Sys2Proof/Machine/Guard.lean ====
section
/-! DEFINITION. Guard pins and Viaduct outputs (03_lane_edges_and_guards.md R69 to R75; 08 R201): precedence, the safe
state, its causes and its release.

Readings and choices here: DEDUCED log 43. -/
namespace Sys2Proof.Machine

def State.outOf (s : State) (k : SafeKind) (n : Nat) : OutSt :=
  match k with
  | .guard => tget {} s.guard n
  | _ => tget {} s.line n

def State.setOut (s : State) (k : SafeKind) (n : Nat) (o : OutSt) : State :=
  match k with
  | .guard => { s with guard := tset s.guard n o }
  | _ => { s with line := tset s.line n o }

/-- A parameter that a guard pin and a Viaduct line both have, under its own index (R201). -/
def outPar (k : SafeKind) (g v : Nat) : Nat :=
  match k with
  | .guard => g
  | _ => v

/-- The output is enabled (R70, R201). -/
def State.outEnabled (s : State) (k : SafeKind) (n : Nat) : Bool :=
  decide (s.par (outPar k Ix.guardEnable Ix.vdEnable) n = 1)

/-- GUARD.SAFE_OVERRIDE; a Viaduct line has none (R201). -/
def State.overridden (s : State) (k : SafeKind) (n : Nat) : Bool :=
  decide (k = .guard) && decide (s.par Ix.guardSafeOverride n = 1)

/-- GUARD.FORCE; a Viaduct line has none (R201). -/
def State.forceOf (s : State) (k : SafeKind) (n : Nat) : Nat :=
  match k with
  | .guard => s.par Ix.guardForce n
  | _ => 0

/-- The safe state is active on the output (R70 precedence 2). -/
def State.safeActive (s : State) (k : SafeKind) (n : Nat) : Bool := (s.outOf k n).held && !s.overridden k n

/-- The reset default holds every output until step 7 of start-up, the dictionary load, has ended (R70, R440, R444). -/
def State.resetDefault (s : State) : Bool := decide (s.par Ix.startStep 0 ≤ 7)

/-- The state a pin shows of a level: released open-drain, and a line whose driver is off, read HIGH_Z (R69, R201). -/
def State.shown (s : State) (k : SafeKind) (n level : Nat) : Nat :=
  match k with
  | .guard => if s.par Ix.guardMode n = 1 ∧ level = 1 then 2 else level
  | _ =>
    let m := s.par Ix.vdOutMode n
    if m = 0 then 2 else if m = 2 ∧ level = 1 then 2 else level

/-- The state driven at the pin (R70 Table 4). -/
def State.pinState (s : State) (k : SafeKind) (n : Nat) : Nat :=
  if s.resetDefault then 2
  else
    let o := s.outOf k n
    let safe := s.par (outPar k Ix.guardSafeLevel Ix.vdSafeLevel) n
    let level :=
      if s.safeActive k n then safe
      else if s.forceOf k n ≠ 0 then s.forceOf k n - 1
      else if !s.outEnabled k n then safe
      else match o.pulse with
        | some p => if p.shows then p.state else o.cmd
        | none => o.cmd
    s.shown k n level

/-- A hold is in force on the output: safe state, force or disable (R75). -/
def State.outHeld (s : State) (k : SafeKind) (n : Nat) : Bool :=
  s.safeActive k n || decide (s.forceOf k n ≠ 0) || !s.outEnabled k n

/-- A hold begins: a pulse in progress is not shown again (R75). -/
def State.holdBegins (s : State) (k : SafeKind) (n : Nat) : State :=
  let o := s.outOf k n
  match o.pulse with
  | some p => s.setOut k n { o with pulse := some { p with shows := false } }
  | none => s

/-- KIND of a GUARD record (R221). -/
def SafeKind.code : SafeKind → Nat
  | .guard => 0 | .line => 1 | .source => 2

/-- RESULT of a GUARD record of a pin or line (R221). -/
def State.outResult (s : State) (k : SafeKind) (n : Nat) : Nat := (s.outOf k n).cmd + 4 * s.pinState k n

/-- The flags that the condition of an output gives its GUARD records (08 Table 4). -/
def State.outFlags (s : State) (k : SafeKind) (n : Nat) : GFlags :=
  { safeHeld := s.safeActive k n, forced := decide (s.forceOf k n ≠ 0), disabled := !s.outEnabled k n }

/-- Record of a safe entry (1) or release (2) of an output, stamped `t` (R72, R73, R221). -/
def State.safeRecord (s : State) (k : SafeKind) (n t origin : Nat) : Rec :=
  recGuard t k.code 0 (s.outFlags k n) n (s.outResult k n) 255 255 255 origin

/-- A cause of R72 reaches one output at `t`: entry into the safe state, unless overridden or already held. -/
def State.safeEnter (k : SafeKind) (t : Nat) (viaAll : Bool) (s : State) (n : Nat) : State :=
  if s.overridden k n then s
  else
    let o := s.outOf k n
    let o1 := { o with safeAll := o.safeAll || viaAll, releaseAt := none }
    if o.held then s.setOut k n o1
    else
      let s1 := (s.setOut k n { o1 with held := true }).holdBegins k n
      let s2 := s1.cnt (outPar k Ix.guardSafeEntries Ix.vdSafeEntries) n
      s2.emit (s2.safeRecord k n t 1)

/-- A cause of R72 reaches every guard pin and Viaduct line at `t`. -/
def State.safeEnterAll (s : State) (t : Nat) (viaAll : Bool) : State :=
  let s1 := (List.range 192).foldl (State.safeEnter .guard t viaAll) s
  (List.range 8).foldl (State.safeEnter .line t viaAll) s1

/-- A cause of R72 that is present for the device as a whole. -/
def State.globalCause (s : State) : Bool := s.clockCause || s.brownCause

/-- A write of an output's SAFE_RELEASE (R73, R74): the SAFE_ALL cause goes; then refused while another cause is
present, else the output leaves at the next whole microsecond. -/
def State.releaseRequest (s : State) (k : SafeKind) (n : Nat) : State :=
  let o := { s.outOf k n with safeAll := false }
  let s1 := s.setOut k n o
  if !o.held then s1
  else if s.globalCause then s1.cnt (outPar k Ix.guardReleaseRefused Ix.vdReleaseRefused) n
  else s1.setOut k n { o with releaseAt := some (nextMicro s.now) }

/-- The last device-wide cause has cleared: an output in FOLLOW mode that holds no SAFE_ALL leaves at the next whole
microsecond (R73, R74). -/
def State.follow (k : SafeKind) (s : State) (n : Nat) : State :=
  let o := s.outOf k n
  if o.held && !o.safeAll && decide (s.par (outPar k Ix.guardSafeMode Ix.vdSafeMode) n = 1) && o.releaseAt.isNone then
    s.setOut k n { o with releaseAt := some (nextMicro s.now) }
  else s

/-- The outputs' part of a cause clearing (R73). -/
def State.causesClear (s : State) : State :=
  if s.globalCause then s
  else
    let s1 := (List.range 192).foldl (State.follow .guard) s
    (List.range 8).foldl (State.follow .line) s1

/-- An output leaves the safe state at its whole microsecond; a GUARD record marks it (R73). -/
def State.releaseEffect (s : State) (k : SafeKind) (n : Nat) : State :=
  let o := s.outOf k n
  match o.releaseAt with
  | some m =>
    if m ≤ s.now ∧ o.held then
      let s1 := s.setOut k n { o with held := false, releaseAt := none }
      s1.emit (s1.safeRecord k n m 2)
    else s
  | none => s

/-- GUARD.ENABLE or VD.ENABLE takes effect: at an enable the commanded level is INIT_LEVEL (R70); a disable is a hold. DESIGN
CHOICE, log 43: of a timed action performed while the output was disabled, R75 has the pin take the level at the end of the
hold, and R70 sets INIT_LEVEL at the enable; INIT_LEVEL stands. -/
def State.outEnableEffect (s : State) (k : SafeKind) (n : Nat) (on was : Bool) : State :=
  if on && !was then
    s.setOut k n { s.outOf k n with cmd := s.par (outPar k Ix.guardInitLevel Ix.vdInitLevel) n }
  else if !on then s.holdBegins k n else s

/-- GUARD.SAFE_OVERRIDE written: an overridden pin is out of the safe state (R75); a SAFE_ALL cause on it stays until its release
is written (R74). DESIGN CHOICE, log 43: cleared while a cause is still present, the override leaves the pin out of the safe
state until the next cause; the spec names the causes as events only (R72). -/
def State.overrideEffect (s : State) (n : Nat) : State :=
  if s.par Ix.guardSafeOverride n = 1 then s.setOut .guard n { s.outOf .guard n with held := false, releaseAt := none }
  else s

end Sys2Proof.Machine
end

