-- ==== Sys2Proof/Machine/FrontEnd.lean ====
section
/-! DEFINITION. The pier front end (04_piers_front_end.md): route checks, excitation sources, bias output, charge
amplifiers, clamps, tone check, and the settling they start (R105, R118).

Readings and choices here: DEDUCED log 42, log 43, log 45, log 46; DESIGN CHOICE log 77, log 85. -/
namespace Sys2Proof.Machine

/-! ### Lanes and piers -/

/-- The role is one of the analog roles (R58 Table 1). -/
def State.analog (s : State) (lane : Nat) : Bool := decide (2 ≤ s.par Ix.laneRole lane)

/-- The role uses a charge amplifier: CHARGE or CURRENT_ROGOWSKI. -/
def State.chargeRole (s : State) (lane : Nat) : Bool := decide (5 ≤ s.par Ix.laneRole lane)

/-- The pier is in WATCH or MEASURE (R19, R95). -/
def State.awake (s : State) (pier : Nat) : Bool := decide (s.par Ix.pwrPierState pier ≠ 0)

/-- LANE.ENABLE in force. -/
def State.laneOn (s : State) (lane : Nat) : Bool := decide (s.par Ix.laneEnable lane = 1)

/-- The eight lanes of a pier. -/
def lanesOf (pier : Nat) : List Nat := (List.range 8).map (fun i => 8 * pier + i)

/-- A record from a lane: into its event buffer; made while TPLL is stopped, it waits for the restart (R64, R154). -/
def State.laneRecord (s : State) (r : Rec) : State :=
  if s.merging then s.buffer r else { s with cw := { s.cw with late := s.cw.late ++ [.record r none] } }

/-- A STATUS record of a condition that concerns a lane; a disabled lane and a lane of an ASLEEP pier emit none
(R473). -/
def State.laneStatus (s : State) (lane kind low w2 : Nat) (t : Nat) : State :=
  if s.laneOn lane && s.awake (lane / 8) then s.laneRecord (recStatus t lane kind low w2 0) else s

/-! ### Settling (R105, R118) -/

def State.convOf (s : State) (lane : Nat) : ConvSt := tget {} s.conv lane
def State.setConv (s : State) (lane : Nat) (c : ConvSt) : State := { s with conv := tset s.conv lane c }

/-- T_k of a lane in ticks (R110). -/
def State.samplePeriod (s : State) (lane : Nat) : Nat := 2 ^ s.par Ix.laneRate lane * 250000

/-- The window W of a lane's filter in ticks (R112). -/
def State.window (s : State) (lane : Nat) : Nat :=
  (if s.par Ix.laneFilter lane = 0 then 24 else 4) * s.samplePeriod lane

/-- The settling count s of Table 1 of 05: 24 or 4, plus 6,000 ns in periods, rounded up. -/
def State.settleCount (s : State) (lane : Nat) : Nat :=
  let t := s.samplePeriod lane
  (if s.par Ix.laneFilter lane = 0 then 24 else 4) + (1536000 + (t - 1)) / t

/-- Mark the output instants from the first one at `a` or later, `s` of them, as UNSETTLED. -/
def State.unsettle (s : State) (lane a : Nat) : State :=
  let c := s.convOf lane
  let t := s.samplePeriod lane
  let first := ceilMul a t
  let keep := c.unsettled.filter (fun x => decide (s.now ≤ x.2 + 25600))
  s.setConv lane { c with unsettled := keep ++ [(first, first + (s.settleCount lane - 1) * t)] }

/-- The check of a lane leaves out the difference samples of the instants `first` to `last` (R126). -/
def State.checkSkips (s : State) (lane first last : Nat) : State :=
  match tfind s.overlap (lane / 8) with
  | some o =>
    if o.lane = lane then { s with overlap := tset s.overlap (lane / 8) { o with excl := o.excl ++ [(first, last)] } } else s
  | none => s

/-- The first instant of the check filters' grid, rate code 4, whose window contains `c`. -/
def checkFrom (c : Nat) : Nat := ceilMul (c + 25600 + 1) 4000000

/-- A settling cause at instant `c`: the s samples from the first whose window contains `c` (R118), and 5 of a check (R126). -/
def State.settleCause (s : State) (lane c : Nat) : State :=
  if s.analog lane then
    let s1 := s.unsettle lane (c + 25600 + 1)
    (s1.setConv lane { s1.convOf lane with cause := some c }).checkSkips lane (checkFrom c) (checkFrom c + 16000000)
  else s

/-- A condition of a lane under check begins or ends at `t` (R126): 0 to 3 the sources' open and compliance flags, 4 the bias
overload. -/
def State.checkCondition (s : State) (pier kind : Nat) (lanes : List Nat) (on : Bool) (t : Nat) : State :=
  match tfind s.overlap pier with
  | some o =>
    if !lanes.contains o.lane then s
    else
      let cond := if on then o.cond ++ [(kind, ⟨t, none⟩)]
        else o.cond.map (fun (x : Nat × Span) => if x.1 = kind ∧ x.2.to_.isNone then (x.1, { x.2 with to_ := some t }) else x)
      { s with overlap := tset s.overlap pier { o with cond := cond } }
  | none => s

/-- The start of sample production: the first s samples at or after `a` (R118). -/
def State.settleStart (s : State) (lane a : Nat) : State :=
  if s.analog lane then
    let s1 := s.unsettle lane a
    s1.setConv lane { s1.convOf lane with cause := some (a - 25601) }
  else s

/-- A settling cause of several lanes. -/
def State.settleLanes (s : State) (lanes : List Nat) (c : Nat) : State :=
  lanes.foldl (fun u l => u.settleCause l c) s

/-- Every sample whose window overlaps [a, b) is UNSETTLED (R101, R104). -/
def State.overlapUnsettled (s : State) (lane a b : Nat) : State :=
  let c := s.convOf lane
  let t := s.samplePeriod lane
  let first := ceilMul (a + 25600 + 1) t
  let last := b + 25600 + s.window lane - 1
  if first ≤ last then s.setConv lane { c with unsettled := c.unsettled ++ [(first, last)] } else s

/-! ### Route check (R86, R471) -/

/-- Index of a parameter of excitation source k = 2 × pier + source (R107: EX1 lies 10h above EX0). -/
def exIx (ix k : Nat) : Nat := ix + 16 * (k % 2)

/-- A parameter of an excitation source. -/
def State.exPar (s : State) (ix k : Nat) : Nat := s.par (exIx ix k) (k / 2)

/-- Index of a parameter of charge amplifier a = 2 × pier + amplifier. -/
def caIx (ix a : Nat) : Nat := ix + 16 * (a % 2)

/-- A parameter of a charge amplifier. -/
def State.caPar (s : State) (ix a : Nat) : Nat := s.par (caIx ix a) (a / 2)

/-- The amplifier a lane selects. -/
def State.caOf (s : State) (lane : Nat) : Nat := 2 * (lane / 8) + s.par Ix.laneCaSel lane

/-- The source alternates under R89: EX.ALT_N from 2 to 65,536. -/
def State.alternates (s : State) (k : Nat) : Bool :=
  decide (2 ≤ s.exPar Ix.exAltN k) && decide (s.exPar Ix.exAltN k ≤ 65536)

/-- The swap period of an alternating source in ticks. -/
def State.swapPeriod (s : State) (k : Nat) : Nat := s.exPar Ix.exAltN k * (2 ^ s.exPar Ix.exAltK k * 250000)

/-- The consumer lanes of a source, EX.LANES (R90). -/
def State.consumers (s : State) (k : Nat) : List Nat :=
  (setBits (s.exPar Ix.exLanes k) 8).map (fun i => 8 * (k / 2) + i)

/-- What a route check takes as switched on in a pier: enabled lanes, sources, bias output and tone generator. -/
structure PierOn where
  lanes : List Nat
  sources : List Nat
  bias : Bool
  tone : Bool
  deriving DecidableEq, Repr

/-- What is switched on in a pier now. -/
def State.pierOn (s : State) (pier : Nat) : PierOn :=
  { lanes := (lanesOf pier).filter s.laneOn
    sources := [2 * pier, 2 * pier + 1].filter (fun k => decide (s.exPar Ix.exEnable k = 1))
    bias := decide (s.par Ix.biasEnable pier = 1)
    tone := decide (s.par Ix.toneEnable pier = 1) }

/-- A pin code that Table 1 reserves. -/
def reservedPin (c : Nat) : Bool := (decide (18 ≤ c) && decide (c ≤ 23)) || (decide (28 ≤ c) && decide (c ≤ 254))

/-- The length of a tone burst in ticks: TONE.CYCLES cycles of 62.5 kHz / 2^m (R103). -/
def State.burstLen (s : State) (pier : Nat) : Nat :=
  s.par Ix.toneCycles pier * (2 ^ s.par Ix.toneFreq pier * 4096000)

/-- The pins of a pier that carry a driving role, one entry per role (R82). -/
def State.drivenPins (s : State) (pier : Nat) (on : PierOn) : List Nat :=
  on.sources.flatMap (fun k => [s.exPar Ix.exPin k, s.exPar Ix.exReturn k])
    ++ (if on.bias then setBits (s.par Ix.biasPins pier) 18 else [])
    ++ (((on.lanes.filter s.chargeRole).map s.caOf).eraseDups).map (s.caPar Ix.caPin)

/-- The node codes by which a lane breaks R85 or Table 2 (reason 3). -/
def State.badInputs (s : State) (lane : Nat) : List Nat :=
  let p := s.par Ix.laneInPos lane
  let n := s.par Ix.laneInNeg lane
  let ok (c : Nat) : Bool := decide (c ≤ 17) || decide (c = 24) || decide (c = 25)
  if !s.analog lane then []
  else if s.chargeRole lane then
    let bad := (if p = 26 + s.par Ix.laneCaSel lane then [] else [p]) ++ (if n = 24 then [] else [n])
    if bad.isEmpty && decide (s.par Ix.laneRange lane ≠ 0) then [255] else bad
  else
    let bad := (if ok p then [] else [p]) ++ (if ok n then [] else [n])
    if bad.isEmpty && decide (4 < s.par Ix.laneRange lane) then [255] else bad

/-- The breaches of one reason of Table 3, each with its pin-code and lane fields (R471). DESIGN CHOICE, log 77: reason 7 judges
CA.PIN of the amplifiers that an enabled lane of a charge role selects, and names that lane; reason 9 judges every lane that both
masks name, a disabled one included. -/
def State.breaches (s : State) (pier : Nat) (on : PierOn) (reason : Nat) : List (Nat × Nat) :=
  let driven := s.drivenPins pier on
  let charge := on.lanes.filter s.chargeRole
  match reason with
  | 1 => ((List.range 18).filter (fun p => decide (2 ≤ driven.count p))).map (fun p => (p, 255))
  | 2 => (charge.filter (fun l => charge.any (fun m => decide (l < m) && decide (s.caOf l = s.caOf m)))).map
      (fun l => (s.caPar Ix.caPin (s.caOf l), l))
  | 3 => on.lanes.flatMap (fun l => (s.badInputs l).map (fun c => (c, l)))
  | 4 => (charge.filter (fun l =>
        let rin := s.caPar Ix.caRin (s.caOf l)
        if s.par Ix.laneRole l = 5 then decide (rin ≠ 0) else decide (rin = 0))).map
      (fun l => (s.caPar Ix.caPin (s.caOf l), l))
  | 5 => (on.lanes.filter (fun l => s.analog l && decide (s.par Ix.laneToneCheck l = 1) &&
        decide (s.par Ix.laneInPos l < 18) && driven.contains (s.par Ix.laneInPos l))).map
      (fun l => (s.par Ix.laneInPos l, l))
  | 6 => if on.sources.any (fun k => s.alternates k && decide (s.exPar Ix.exReturn k = 255)) then [(255, 255)] else []
  | 7 => (on.sources.flatMap (fun k => [s.exPar Ix.exPin k, s.exPar Ix.exReturn k])).filterMap
        (fun c => if reservedPin c || (decide (24 ≤ c) && decide (c ≤ 27)) then some (c, 255) else none)
      ++ charge.filterMap (fun l => let c := s.caPar Ix.caPin (s.caOf l); if reservedPin c then some (c, l) else none)
      ++ (on.lanes.filter s.analog).flatMap (fun l =>
        [s.par Ix.laneInPos l, s.par Ix.laneInNeg l].filterMap (fun c => if reservedPin c then some (c, l) else none))
  | 8 => if on.tone && decide (s.par Ix.tonePeriod pier * 256000 < 2 * s.burstLen pier) then [(255, 255)] else []
  | 9 =>
    if on.sources.length = 2 ∧ on.sources.all s.alternates then
      ((lanesOf pier).filter (fun l => on.sources.all (fun k => (s.consumers k).contains l))).map (fun l => (255, l))
    else []
  | _ => []

/-- The least of a list of fields: lowest pin code, then lowest lane (R471). -/
def leastBreach : List (Nat × Nat) → Option (Nat × Nat)
  | [] => none
  | x :: t =>
    match leastBreach t with
    | none => some x
    | some y => if x.1 < y.1 ∨ (x.1 = y.1 ∧ x.2 ≤ y.2) then some x else some y

/-- The route check of a pier: the first reason of Table 3 that is broken, with its fields (R86, R471). -/
def State.routeCheck (s : State) (pier : Nat) (on : PierOn) : Option (Nat × Nat × Nat) :=
  [1, 2, 3, 4, 5, 6, 7, 8, 9].findSome? (fun r =>
    (leastBreach (s.breaches pier on r)).map (fun x => (r, x.1, x.2)))

/-- A refused enable: counted, with its reason and fields (R86). -/
def State.routeRefused (s : State) (pier : Nat) (f : Nat × Nat × Nat) : State :=
  (s.cnt Ix.pierRouteRefused pier).setPar Ix.pierRouteLast pier (f.1 * 65536 + f.2.1 * 256 + f.2.2)

/-! ### Excitation sources (R87 to R95) -/

def State.exOf (s : State) (k : Nat) : ExSt := tget {} s.ex k
def State.setEx (s : State) (k : Nat) (e : ExSt) : State := { s with ex := tset s.ex k e }

/-- EX.STATE: 0 OFF, 1 RUN, 2 SAFE, 3 PARKED. -/
def State.exState (s : State) (k : Nat) : Nat := s.exPar Ix.exState k

/-- EX.LEVEL as it acts: the nearest limit of the selected mode (R87). -/
def State.exLevel (s : State) (k : Nat) : Nat :=
  let v := s.exPar Ix.exLevel k
  if s.exPar Ix.exMode k = 0 then max 1000 (min v 2500000) else min v 5000000

/-- Keep what the source drives from `t` on, and the recent past that a filter window's end may still ask for. -/
def State.exNote (s : State) (k t : Nat) : State :=
  let e := s.exOf k
  let recent := e.hist.takeWhile (fun x => decide (s.now < x.since + 100000))
  let older := (e.hist.dropWhile (fun x => decide (s.now < x.since + 100000))).take 1
  s.setEx k { e with hist := ⟨t, decide (s.exState k = 1), s.exLevel k⟩ :: (recent ++ older) }

/-- What the source drove at an instant. -/
def State.exAt (s : State) (k t : Nat) : ExPast :=
  ((s.exOf k).hist.find? (fun x => decide (x.since ≤ t))).getD ⟨0, false, 0⟩

/-- The polarity at an instant is negative (R88, R89). -/
def State.exNegative (s : State) (k t : Nat) : Bool :=
  if s.alternates k then decide (t / s.swapPeriod k % 2 = 1) else decide (s.exPar Ix.exPolarity k = 1)

/-- What the source does to its pins at an instant: nothing while OFF; EX.SAFE_STATE while SAFE or PARKED (R93 to R95); in RUN its
level, by mode and polarity (R88). -/
def State.exDrive (s : State) (k t : Nat) : ExDrive :=
  let pin := s.exPar Ix.exPin k
  let back := s.exPar Ix.exReturn k
  let ends := if s.exNegative k t then (back, pin) else (pin, back)
  if s.exState k = 0 then .open_
  else if s.exState k = 1 then
    (if s.exPar Ix.exMode k = 0 then .current ends.1 ends.2 (s.exLevel k) else .volts ends.1 ends.2 (s.exLevel k))
  else if s.exPar Ix.exSafeState k = 0 then .open_ else .zero

/-- The condition of a source's flag holds at a reading (R87 Table 4, R92): in voltage mode of the output current in nA, against
EX.I_OPEN or the 10 mA limit; in current mode of the output pin in µV, against the compliance limits. -/
def State.exFaulty (s : State) (k : Nat) (open_ : Bool) (reading : Int) : Bool :=
  if s.exPar Ix.exMode k = 0 then open_ && (decide (reading ≤ 300000) || decide (4600000 ≤ reading))
  else if open_ then decide (100000 ≤ s.exLevel k) && decide (reading.natAbs < s.exPar Ix.exIOpen k)
  else decide (10000000 ≤ reading.natAbs)

/-- EX.OPEN of a source that names the lane, or the tone check, reports it open (R472). -/
def State.wireOpen (s : State) (lane : Nat) : Bool :=
  (s.convOf lane).toneOpen ||
    [2 * (lane / 8), 2 * (lane / 8) + 1].any (fun k => (s.consumers k).contains lane && decide (s.exPar Ix.exOpen k = 1))

/-- A source's flag (open or compliance) is set or cleared for a consumer lane: its STATUS record, and its open-wire
count on a setting (R92, R472, R473). -/
def State.exFlagLane (k : Nat) (open_ set : Bool) (t : Nat) (s : State) (lane : Nat) : State :=
  if open_ then
    let s1 := if set then s.cnt Ix.laneWireOpenEvents lane else s
    s1.laneStatus lane 1 (b2n set + 2 * (k % 2)) 0 t
  else s.laneStatus lane 3 (b2n set + 2 * (k % 2)) 0 t

/-- Clear a source's flag at `t`: its consumers tell of it and settle (R92, R105). -/
def State.exClear (s : State) (k : Nat) (open_ : Bool) (t : Nat) : State :=
  let ix := exIx (if open_ then Ix.exOpen else Ix.exCompliance) k
  if s.par ix (k / 2) = 0 then s
  else
    let lanes := s.consumers k
    let s1 := (s.setPar ix (k / 2) 0).checkCondition (k / 2) (2 * (k % 2) + b2n (!open_)) lanes false t
    (lanes.foldl (State.exFlagLane k open_ false t) s1).settleLanes lanes t

/-- The source changes state at `t`; outside RUN it reports neither an open circuit nor compliance (R93). -/
def State.exEnter (s : State) (k st t : Nat) : State :=
  let s1 := if st = 1 then s else (s.exClear k true t).exClear k false t
  (s1.setPar (exIx Ix.exState k) (k / 2) st).exNote k t

/-- A cause of R72 reaches a source at `t` (R93, R94). -/
def State.exSafeEnter (t : Nat) (viaAll : Bool) (s : State) (k : Nat) : State :=
  let e := s.exOf k
  let s1 := s.setEx k { e with safeAll := e.safeAll || viaAll, releaseAt := none }
  if s.exState k = 1 ∨ s.exState k = 3 then
    let s2 := s1.exEnter k 2 t
    (s2.consumers k).foldl (fun u l =>
      if u.laneOn l then u.laneRecord (recStatus t l 3 (1 + 2 * (k % 2) + 8) 0 0) else u) s2
  else s1

/-- Every output of the device enters its safe state, and the tone generators stop (R72, R93). -/
def State.safeEverything (s : State) (t : Nat) (viaAll : Bool) : State :=
  let s1 := s.safeEnterAll t viaAll
  let s2 := (List.range 48).foldl (State.exSafeEnter t viaAll) s1
  { s2 with tone := s2.tone.map (fun x => (x.1, { x.2 with due := 0 })) }

/-- A cause under R72 is present on a source. -/
def State.exCause (s : State) (k : Nat) : Bool := s.globalCause || (s.exOf k).safeAll

/-- EX.SAFE_RELEASE written (R74, R94). -/
def State.exRelease (s : State) (k : Nat) : State :=
  let e := { s.exOf k with safeAll := false }
  let s1 := s.setEx k e
  if s.exState k ≠ 2 then s1
  else if s.globalCause then s1.cnt Ix.exReleaseRefused k
  else s1.setEx k { e with releaseAt := some (nextMicro s.now) }

/-- The source resumes at its whole microsecond: RUN, or PARKED while its pier is ASLEEP; its consumers settle
(R94, R105), and a GUARD record marks the release (R74; its layout is DESIGN CHOICE, log 43). -/
def State.exReleaseEffect (s : State) (k : Nat) : State :=
  let e := s.exOf k
  match e.releaseAt with
  | some m =>
    if m ≤ s.now ∧ s.exState k = 2 then
      let s1 := s.setEx k { e with releaseAt := none }
      let s2 := if s.awake (k / 2) then (s1.exEnter k 1 m).settleLanes (s1.consumers k) m else s1.exEnter k 3 m
      s2.emit (recGuard m 2 0 {} k (s2.exPar Ix.exLevel k) 255 255 255 2)
    else s
  | none => s

/-- EX.ENABLE takes effect at `t`, by a write or an EXCITE action: the consumers settle even where the source stays as it is (R91,
R94 Table 5, R200). -/
def State.exEnableEffect (s : State) (k : Nat) (on : Bool) (t : Nat) : State :=
  if on then
    if s.exState k ≠ 0 then s.settleLanes (s.consumers k) t
    else
      let st := if s.exCause k then 2 else if s.awake (k / 2) then 1 else 3
      (s.exEnter k st t).settleLanes (s.consumers k) t
  else
    let s1 := s.setEx k { s.exOf k with safeAll := false, releaseAt := none }
    (if s.exState k = 0 then s1 else s1.exEnter k 0 t).settleLanes (s1.consumers k) t

/-- EX.LEVEL or EX.POLARITY takes effect at `t` (R91, R105). -/
def State.exChange (s : State) (k t : Nat) : State := (s.exNote k t).settleLanes (s.consumers k) t

/-! ### Bias output (R96) -/

/-- The pins that the bias output drives: none while the pier is ASLEEP (R95, R96). -/
def State.biasDrives (s : State) (pier : Nat) : List Nat :=
  if s.awake pier ∧ s.par Ix.biasEnable pier = 1 then setBits (s.par Ix.biasPins pier) 18 else []

/-- The lanes whose IN_POS or IN_NEG is a biased pin. -/
def State.biasedLanes (s : State) (pier : Nat) : List Nat :=
  (lanesOf pier).filter (fun l =>
    s.analog l && (setBits (s.par Ix.biasPins pier) 18).any (fun p =>
      decide (s.par Ix.laneInPos l = p) || decide (s.par Ix.laneInNeg l = p)))

/-- BIAS.OVERLOAD set or cleared at `t` (R96, R105, R473). -/
def State.biasFlag (s : State) (pier : Nat) (on : Bool) (t : Nat) : State :=
  if s.par Ix.biasOverload pier = b2n on then s
  else
    let s1 := (s.setPar Ix.biasOverload pier (b2n on)).checkCondition pier 4 (s.biasedLanes pier) on t
    (s1.biasedLanes pier).foldl (fun u l =>
      let v := u.laneStatus l 3 (b2n on + 4 + 16) 0 t
      if on then v else v.settleCause l t) s1

/-! ### Charge amplifiers (R98 to R101) -/

def State.caSt (s : State) (a : Nat) : CaSt := tget {} s.ca a

/-- The enabled lane that selects an amplifier, if any (R86 reason 2 allows only one). -/
def State.caLane (s : State) (a : Nat) : Option Nat :=
  (lanesOf (a / 2)).find? (fun l => s.laneOn l && s.chargeRole l && decide (s.caOf l = a))

/-- A reset is in progress at `t`, or ended less than 50 ns before (R98). -/
def State.caBusy (s : State) (a t : Nat) : Bool :=
  match (s.caSt a).start with
  | some b => decide (t < b + 64000)
  | none => false

/-- The amplifier is held in reset at `t`: within the 200 ns of a reset, or while its pier is ASLEEP (R95, R98). -/
def State.caHeld (s : State) (a t : Nat) : Bool :=
  !s.awake (a / 2) ||
    (match (s.caSt a).start with
     | some b => decide (b ≤ t) && decide (t < b + 51200)
     | none => false)

/-- The lane's amplifier holds the lane's comparator zone (R101). -/
def State.zoneHeld (s : State) (lane t : Nat) : Bool := s.chargeRole lane && s.caBusy (s.caOf lane) t

/-- Add a cause bit to the RESET_ACCOUNT record of a reset in progress, wherever the record waits (R98, R99). -/
def addCause (lane start bit_ : Nat) (r : Rec) : Rec :=
  if r.src = lane ∧ r.typ = 8 ∧ r.stamp = start ∧ !bit r.spec (16 + bit_) then { r with spec := r.spec + 2 ^ (16 + bit_) }
  else r

/-- `addCause` on an item of the store. -/
def Item.addCause (lane start bit_ : Nat) : Item → Item
  | .record r o => .record (Sys2Proof.Machine.addCause lane start bit_ r) o
  | .ctl t c => .ctl t c

/-- A cause (bit 0 AUTO, 1 PERIODIC, 2 COMMAND) asks for a reset of an amplifier at `t`: within a reset it joins the
cause bits, within 50 ns after one it is dropped, else a reset starts (R98, R99, R101). `pre` and `residual` are the
words the accounting converter yields in the lane's sample unit. -/
def State.caReset (s : State) (a cause t pre residual : Nat) : State :=
  let c := s.caSt a
  if !s.awake (a / 2) then s
  else if s.caBusy a t then
    match c.start with
    | some b =>
      if t < b + 51200 ∧ !bit c.causes cause then
        let s1 := { s with ca := tset s.ca a { c with causes := c.causes + 2 ^ cause } }
        match s.caLane a with
        | some l =>
          let e := s1.edgeOf l
          let s2 := s1.setEdge l { e with buf := e.buf.map (addCause l b cause) }
          { s2 with cw := { s2.cw with store := s2.cw.store.map (Item.addCause l b cause) } }
        | none => s1
      else s
    | none => s
  else
    let s1 := ({ s with ca := tset s.ca a ⟨some t, 2 ^ cause⟩ }).cntW (caIx Ix.caResets a) (a / 2) 1
    match s.caLane a with
    | some l =>
      let s2 := s1.laneRecord (recResetAccount t l (2 ^ cause) (s.par Ix.laneOutFormat l) pre residual)
      ((s2.overlapUnsettled l t (t + 51200)).checkSkips l (checkFrom t) (t + 51200 + 16025599)).settleCause l (t + 51200)
    | none => s1

/-! ### Fast window comparators (R66 to R68) -/

/-- The comparator of a lane is in service (R58, R66). -/
def State.fcRuns (s : State) (lane : Nat) : Bool :=
  s.tpll && s.analog lane && decide (s.par Ix.laneFcEnable lane = 1) && (s.runOf lane).on

/-- A record of the window comparator, stamped `t`. -/
def Rec.fcAt (t : Nat) (r : Rec) : Bool := decide (r.typ = 1) && decide (fld r.spec 19 19 = 1) && decide (r.stamp = t)

/-- The comparator reports zone `z` for the coarse period that begins at `t`: a record of that period reported before gives way, and
none is made if the zone is the one reported before the period (R68). -/
def State.fcReport (s : State) (lane t z : Nat) : State :=
  let e := s.edgeOf lane
  let again := (e.fcSeen.filter (fun x => decide (x.1 = t))).map Prod.snd
  let before := again.getD (s.par Ix.laneFcZone lane)
  let buf := if again.isSome then e.buf.filter (fun r => !r.fcAt t) else e.buf
  let s1 := (s.setEdge lane { e with buf := buf, fcSeen := some (t, before) }).setPar Ix.laneFcZone lane z
  if z = before then s1 else s1.buffer (recFcTransition t lane z)

/-- The comparator sees `sig` in the coarse period that began at `t`; while a threshold DAC settles the zone between its codes is a
free one of those they allow (R67, R68). -/
def State.fcSee (s : State) (lane t : Nat) (sig : Int) : State :=
  let old := s.par Ix.laneFcZone lane
  let zones := s.fcZones lane old sig
  let z := zones.getD (if zones.length ≤ 1 then 0 else Config.freeNat s.fresh % zones.length) old
  let s1 := if zones.length ≤ 1 then s else s.draw
  if z = old then s1 else s1.fcReport lane t z

/-! ### Clamps (R102) -/

/-- The lane that reports a pin's clamp: the pin's own lane, lane 0 of the pier for X0 and X1. -/
def clampLane (pier pin : Nat) : Nat := if pin < 16 then 8 * pier + pin / 2 else 8 * pier

/-- A clamp flag sets or clears at `t`. -/
def State.clampFlag (s : State) (pier pin : Nat) (on : Bool) (t : Nat) : State :=
  let f := s.par Ix.pierClampActive pier
  if bit f pin = on then s
  else
    let k := 18 * pier + pin
    let past := (tget [] s.clamp k).filter (fun x =>
      match x.to_ with
      | some e => decide (t < e + 7000000000000)
      | none => true)
    let spans := if on then past ++ [⟨t, none⟩] else past.map (fun x => if x.to_.isNone then { x with to_ := some t } else x)
    let s1 := { s.setPar Ix.pierClampActive pier (putBit f pin on) with clamp := tset s.clamp k spans }
    let s2 := if on then (s1.cnt Ix.pierClampEvents pier).setPar Ix.pierClampLast pier pin else s1
    s2.laneStatus (clampLane pier pin) 2 (b2n on) pin t

/-- The clamp flag of a pin was set at some instant of [a, b). -/
def State.clampedIn (s : State) (pier pin a b : Nat) : Bool :=
  (tget [] s.clamp (18 * pier + pin)).any (fun x =>
    decide (x.from_ < b) && (match x.to_ with
      | some e => decide (a < e)
      | none => true))

/-! ### Tone check (R103, R104) -/

/-- A swap of an alternating source that names the lane falls within [a, b) (R104). -/
def State.swapWithin (s : State) (lane a b : Nat) : Bool :=
  [2 * (lane / 8), 2 * (lane / 8) + 1].any (fun k =>
    decide (s.exState k = 1) && s.alternates k && (s.consumers k).contains lane &&
      decide (ceilMul a (s.swapPeriod k) < b))

/-- The impedance of R103 in Ω from the demodulated amplitude in nV: 10 kΩ × V / (10 mV − V), 1 Ω to 10 MΩ. DESIGN CHOICE, log 77:
what lies between two whole ohms is cut off. -/
def toneImpedance (nv : Nat) : Nat :=
  if 10000000 ≤ nv then 10000000 else max 1 (min 10000000 (10000 * nv / (10000000 - nv)))

/-- A burst starts at `t` in a pier: the lanes it checks, the skips, and the samples it unsettles (R103, R104). -/
def State.toneBurst (s : State) (pier t : Nat) : State :=
  let len := s.burstLen pier
  let lanes := (lanesOf pier).filter (fun l => s.analog l && decide (s.par Ix.laneToneCheck l = 1))
  let skipped := lanes.filter (fun l => s.swapWithin l t (t + len))
  let run := lanes.filter (fun l => !s.swapWithin l t (t + len))
  let s1 := s.cntN Ix.toneSkipped pier skipped.length
  let s2 := { s1 with tone := tset s1.tone pier ⟨t, t + len, (run.map (fun l => 2 ^ (l % 8))).sum⟩ }
  run.foldl (fun u l =>
    -- output rate above half the tone frequency: 2 × tone period > sample period
    if u.samplePeriod l < 2 * (2 ^ u.par Ix.toneFreq pier * 4096000) then
      (u.overlapUnsettled l t (t + len)).settleCause l (t + len)
    else u) s2

/-- The detector's result for a lane at `t` (R103, R472). -/
def State.toneResult (s : State) (lane nv t : Nat) : State :=
  let z := toneImpedance nv
  let s1 := s.setPar Ix.laneToneZ lane z
  let c := s1.convOf lane
  let open_ := decide (s1.par Ix.laneOpenOhms lane < z)
  if open_ && !c.toneOpen then
    ((s1.setConv lane { c with toneOpen := true }).cnt Ix.laneWireOpenEvents lane).laneStatus lane 1 5 z t
  else if !open_ && c.toneOpen then (s1.setConv lane { c with toneOpen := false }).laneStatus lane 1 4 z t
  else s1

/-! ### What a lane reports first (R473) -/

/-- The set STATUS records of the conditions that concern a lane as it is enabled at `t`. -/
def State.conditionsOf (s : State) (lane t : Nat) : State :=
  let p := lane / 8
  let one (u : State) (c : Bool) (kind low w2 : Nat) : State := if c then u.laneStatus lane kind low w2 t else u
  let s1 := [2 * p, 2 * p + 1].foldl (fun u k =>
    let mine := (u.consumers k).contains lane
    one (one u (mine && decide (u.exPar Ix.exOpen k = 1)) 1 (1 + 2 * (k % 2)) 0)
      (mine && decide (u.exPar Ix.exCompliance k = 1)) 3 (1 + 2 * (k % 2)) 0) s
  let s2 := one s1 ((s1.biasedLanes p).contains lane && decide (s1.par Ix.biasOverload p = 1)) 3 21 0
  let s3 := one s2 (s2.convOf lane).toneOpen 1 5 (s2.par Ix.laneToneZ lane)
  ((List.range 18).filter (fun pin => decide (clampLane p pin = lane))).foldl
    (fun u pin => one u (bit (u.par Ix.pierClampActive p) pin) 2 1 pin) s3

/-! ### The commands -/

/-- FC_ZONE_CHANGE: the comparator sees the voltages at the lane's two nodes, in units of 1/8 nV (R67, R68, R83). -/
def execFcZoneChange (t : Nat) (lane : Fin 192) (pos neg : Int) (s : State) : Host.Outcome State Fault Refusal :=
  let s1 := s.enter t
  if s1.fcRuns lane ∧ !s1.zoneHeld lane s1.now then .next (s1.fcSee lane (s1.now / 256 * 256) (s1.fcInput lane pos neg))
  else .next s1

/-- EX_FLAG_SET: a source detects an open circuit (`open_`) or, in voltage mode, its current limit, at the reading that has stood
for 1 µs (R87, R92). -/
def execExFlagSet (t : Nat) (k : Fin 48) (open_ : Bool) (reading : Int) (s : State) : Host.Outcome State Fault Refusal :=
  let s1 := s.enter t
  let ix := exIx (if open_ then Ix.exOpen else Ix.exCompliance) k
  if s1.exState k = 1 ∧ s1.exFaulty k open_ reading ∧ s1.par ix (k / 2) = 0 then
    let s2 := (s1.setPar ix (k / 2) 1).cnt (exIx Ix.exOpenEvents k) (k / 2)
    let s3 := s2.checkCondition (k / 2) (2 * (k % 2) + b2n (!open_)) (s2.consumers k) true s1.now
    .next ((s3.consumers k).foldl (State.exFlagLane k open_ true (s1.now / 256 * 256)) s3)
  else .next s1

/-- EX_FLAG_CLEAR: the condition has been absent for 1 µs, at a reading (R92, R105). -/
def execExFlagClear (t : Nat) (k : Fin 48) (open_ : Bool) (reading : Int) (s : State) : Host.Outcome State Fault Refusal :=
  let s1 := s.enter t
  if s1.exFaulty k open_ reading then .next s1 else .next (s1.exClear k open_ s1.now)

/-- EX_SWAP: an alternating source in RUN reverses at a multiple of its swap period; its consumers settle (R89, R105). -/
def execExSwap (t : Nat) (k : Fin 48) (s : State) : Host.Outcome State Fault Refusal :=
  let s1 := s.enter t
  if s1.exState k = 1 ∧ s1.alternates k ∧ s1.now % s1.swapPeriod k = 0 then .next (s1.settleLanes (s1.consumers k) s1.now)
  else .next s1

/-- BIAS_OVERLOAD: the bias output enters or leaves current limit (R96). -/
def execBiasOverload (t : Nat) (pier : Fin 24) (on : Bool) (s : State) : Host.Outcome State Fault Refusal :=
  let s1 := s.enter t
  if s1.awake pier ∧ (s1.par Ix.biasEnable pier = 1 ∨ !on) then .next (s1.biasFlag pier on s1.now) else .next s1

/-- CLAMP_SET: a pin's clamp current exceeds 100 µA (R102); in an ASLEEP pier the flags do not run (R95). -/
def execClampSet (t : Nat) (pier : Fin 24) (pin : Fin 18) (s : State) : Host.Outcome State Fault Refusal :=
  let s1 := s.enter t
  if s1.awake pier then .next (s1.clampFlag pier pin true s1.now) else .next s1

/-- CLAMP_CLEAR: the clamp current has stayed below 50 µA for 1 µs (R102). -/
def execClampClear (t : Nat) (pier : Fin 24) (pin : Fin 18) (s : State) : Host.Outcome State Fault Refusal :=
  let s1 := s.enter t
  if s1.awake pier then .next (s1.clampFlag pier pin false s1.now) else .next s1

/-- TONE_BURST: a burst starts at a multiple of TONE.PERIOD, unless a cause of R72 stops the generator (R93, R103). -/
def execToneBurst (t : Nat) (pier : Fin 24) (s : State) : Host.Outcome State Fault Refusal :=
  let s1 := s.enter t
  let period := s1.par Ix.tonePeriod pier * 256000
  if s1.tpll ∧ s1.par Ix.toneEnable pier = 1 ∧ s1.awake pier ∧ !s1.globalCause ∧ s1.now % period = 0 then
    .next (s1.toneBurst pier s1.now)
  else .next s1

/-- TONE_RESULT: after a burst the detector reports a lane's demodulated amplitude in nV (R103). -/
def execToneResult (t : Nat) (lane : Fin 192) (nv : Nat) (s : State) : Host.Outcome State Fault Refusal :=
  let s1 := s.enter t
  let b := tget {} s1.tone (lane / 8)
  if bit b.due (lane % 8) ∧ b.end_ ≤ s1.now ∧ s1.awake (lane / 8) then
    let s2 := { s1 with tone := tset s1.tone (lane / 8) { b with due := putBit b.due (lane % 8) false } }
    .next (s2.toneResult lane nv s1.now)
  else .next s1

/-- The comparator of a lane has reported nothing after the coarse period of `t`. -/
def State.fcQuietSince (s : State) (lane t : Nat) : Bool :=
  match (s.edgeOf lane).fcSeen with
  | some x => decide (x.1 ≤ t)
  | none => true

/-- CA_RESET_END: 50 ns after a reset the comparator of the selecting lane is released; a zone that differs is
reported at that instant (R101). -/
def execCaResetEnd (t : Nat) (a : Fin 48) (pos neg : Int) (s : State) : Host.Outcome State Fault Refusal :=
  let s1 := s.enter t
  match (s1.caSt a).start, s1.caLane a with
  | some b, some l =>
    if b + 64000 ≤ s1.now ∧ s1.fcRuns l ∧ s1.fcQuietSince l (b + 64000) then
      .next (s1.fcSee l (b + 64000) (s1.fcInput l pos neg))
    else .next s1
  | _, _ => .next s1

/-- GUARD_SAFE_ALL: a write of 1 to GUARD.SAFE_ALL (R72, R74, R93). -/
def execGuardSafeAll (t : Nat) (s : State) : Host.Outcome State Fault Refusal :=
  let s1 := s.enter t
  .next (s1.safeEverything s1.now true)

/-- GUARD_SAFE_RELEASE: a write of 1 to GUARD.SAFE_RELEASE of a lane (R73, R74). -/
def execGuardSafeRelease (t : Nat) (lane : Fin 192) (s : State) : Host.Outcome State Fault Refusal :=
  .next ((s.enter t).releaseRequest .guard lane)

/-- VD_SAFE_RELEASE: a write of 1 to VD.SAFE_RELEASE of a line (R74, R201). -/
def execVdSafeRelease (t : Nat) (line : Fin 8) (s : State) : Host.Outcome State Fault Refusal :=
  .next ((s.enter t).releaseRequest .line line)

/-- EX_SAFE_RELEASE: a write of 1 to EX.SAFE_RELEASE of a source (R74, R94). -/
def execExSafeRelease (t : Nat) (k : Fin 48) (s : State) : Host.Outcome State Fault Refusal :=
  .next ((s.enter t).exRelease k)

/-- SAFE_RELEASE_EFFECT: a released target leaves its safe state at its whole microsecond (R73, R94). -/
def execSafeReleaseEffect (t : Nat) (target : OutTarget) (s : State) : Host.Outcome State Fault Refusal :=
  let s1 := s.enter t
  match target with
  | .guard l => .next (s1.releaseEffect .guard l)
  | .line n => .next (s1.releaseEffect .line n)
  | .source k => .next (s1.exReleaseEffect k)

end Sys2Proof.Machine
end

