-- ==== Sys2Proof/Machine/Softfloat.lean ====
section
/-! DEFINITION. Binary floating point as far as R116 needs it: exact arithmetic on numbers, rounded to nearest with
ties to even, in binary64 and once more to binary32 (IEEE 754).

Readings and choices here: DESIGN CHOICE log 47. -/
namespace Sys2Proof.Machine

/-- A binary floating-point value: no value, an infinity, or sign, significand and exponent (± m × 2^e). -/
inductive Fp where
  | nan
  | inf (neg : Bool)
  | fin (neg : Bool) (m : Nat) (e : Int)
  deriving DecidableEq, Repr

/-- Number of bits of a number. -/
def bitLen (n : Nat) : Nat := if n = 0 then 0 else Nat.log2 n + 1

/-- Divide by a power of two, to nearest with ties to even; `rest` tells that something non-zero lies below `n`. -/
def roundShift (n k : Nat) (rest : Bool) : Nat :=
  if k = 0 then n
  else
    let q := n >>> k
    let r := n % 2 ^ k
    let half := 2 ^ (k - 1)
    if half < r ∨ (r = half ∧ (rest ∨ q % 2 = 1)) then q + 1 else q

/-- Round ± n / d × 2^x (d ≠ 0) to `p` bits of precision with least exponent `emin` and greatest exponent `emax` of
the unit in the last place. -/
def roundFp (p : Nat) (emin emax : Int) (neg : Bool) (n d : Nat) (x : Int) : Fp :=
  if n = 0 then .fin neg 0 0
  else
    -- scale so that the quotient has at least p + 2 bits
    let up := p + 2 + bitLen d
    let q := n * 2 ^ up / d
    let rest := decide (n * 2 ^ up % d ≠ 0)
    let e0 : Int := x - up
    -- exponent of the last place kept
    let e1 : Int := max emin (e0 + (bitLen q : Int) - p)
    let k := (e1 - e0).toNat
    let m := roundShift q k rest
    let m2 := if m = 2 ^ p then 2 ^ (p - 1) else m
    let e2 := if m = 2 ^ p then e1 + 1 else e1
    if emax < e2 then .inf neg else .fin neg m2 e2

/-- Rounded to binary64. -/
def round64 (neg : Bool) (n d : Nat) (x : Int) : Fp := roundFp 53 (-1074) 971 neg n d x

/-- Rounded to binary32. -/
def round32 (neg : Bool) (n d : Nat) (x : Int) : Fp := roundFp 24 (-149) 104 neg n d x

/-- An integer as binary64. -/
def fpOfInt (i : Int) : Fp := round64 (decide (i < 0)) i.natAbs 1 0

/-- A quotient of integers as binary64. -/
def fpOfRat (i : Int) (d : Nat) : Fp := round64 (decide (i < 0)) i.natAbs d 0

/-- The value of a binary32 code (exact in binary64). -/
def fpOf32 (w : Nat) : Fp :=
  let neg := bit w 31
  let ex := fld w 30 23
  let fr := fld w 22 0
  if ex = 255 then (if fr = 0 then .inf neg else .nan)
  else if ex = 0 then .fin neg fr (-149)
  else .fin neg (fr + 2 ^ 23) ((ex : Int) - 150)

/-- The binary32 code of a value that is exactly a binary32 value (after `round32`). -/
def code32 : Fp → Nat
  | .nan => 0x7FC00000
  | .inf neg => b2n neg * 2 ^ 31 + 0x7F800000
  | .fin neg m e =>
    if m < 2 ^ 23 then b2n neg * 2 ^ 31 + m
    else b2n neg * 2 ^ 31 + (e + 150).toNat * 2 ^ 23 + (m - 2 ^ 23)

/-- The significand of a finite value scaled to an exponent not above its own. -/
def scaled (m : Nat) (e lo : Int) : Nat := m * 2 ^ (e - lo).toNat

def fpNeg : Fp → Fp
  | .nan => .nan
  | .inf s => .inf (!s)
  | .fin s m e => .fin (!s) m e

def fpMul (a b : Fp) : Fp :=
  match a, b with
  | .nan, _ => .nan
  | _, .nan => .nan
  | .inf s, .inf r => .inf (s != r)
  | .inf s, .fin r m _ => if m = 0 then .nan else .inf (s != r)
  | .fin r m _, .inf s => if m = 0 then .nan else .inf (s != r)
  | .fin s m e, .fin r n f => round64 (s != r) (m * n) 1 (e + f)

def fpDiv (a b : Fp) : Fp :=
  match a, b with
  | .nan, _ => .nan
  | _, .nan => .nan
  | .inf _, .inf _ => .nan
  | .inf s, .fin r _ _ => .inf (s != r)
  | .fin r _ _, .inf s => .fin (s != r) 0 0
  | .fin s m e, .fin r n f =>
    if n = 0 then (if m = 0 then .nan else .inf (s != r)) else round64 (s != r) m n (e - f)

def fpAdd (a b : Fp) : Fp :=
  match a, b with
  | .nan, _ => .nan
  | _, .nan => .nan
  | .inf s, .inf r => if s = r then .inf s else .nan
  | .inf s, .fin _ _ _ => .inf s
  | .fin _ _ _, .inf s => .inf s
  | .fin s m e, .fin r n f =>
    let lo := min e f
    let x : Int := (if s then -1 else 1) * (scaled m e lo : Int) + (if r then -1 else 1) * (scaled n f lo : Int)
    if x = 0 then .fin (s && r) 0 0 else round64 (decide (x < 0)) x.natAbs 1 lo

def fpSub (a b : Fp) : Fp := fpAdd a (fpNeg b)

/-- a < b; false where either has no value. -/
def fpLt (a b : Fp) : Bool :=
  match a, b with
  | .nan, _ => false
  | _, .nan => false
  | .inf s, .inf r => s && !r
  | .inf s, .fin _ _ _ => s
  | .fin _ _ _, .inf r => !r
  | .fin s m e, .fin r n f =>
    let lo := min e f
    let x : Int := (if s then -1 else 1) * (scaled m e lo : Int)
    let y : Int := (if r then -1 else 1) * (scaled n f lo : Int)
    decide (x < y)

/-- a = b as numbers. -/
def fpEq (a b : Fp) : Bool :=
  match a, b with
  | .nan, _ => false
  | _, .nan => false
  | .inf s, .inf r => s == r
  | .fin _ _ _, .fin _ _ _ => !fpLt a b && !fpLt b a
  | _, _ => false

/-- a ≤ b as numbers. -/
def fpLe (a b : Fp) : Bool := fpLt a b || fpEq a b

def fpAbs : Fp → Fp
  | .nan => .nan
  | .inf _ => .inf false
  | .fin _ m e => .fin false m e

/-- A binary32 code is a NaN or an infinity (R344). -/
def notFinite32 (w : Nat) : Bool := decide (fld w 30 23 = 255)

/-- Rounded once from binary64 to binary32 (R116). -/
def fpTo32 : Fp → Fp
  | .nan => .nan
  | .inf s => .inf s
  | .fin s m e => round32 s m 1 e

/-- A number to the nearest whole one, ties to even; an infinity and no value stand for numbers no converter yields. -/
def fpRound : Fp → Int
  | .nan => 0
  | .inf s => if s then -(2 ^ 40) else 2 ^ 40
  | .fin s m e => (if s then -1 else 1) * ((if 0 ≤ e then m * 2 ^ e.toNat else roundShift m (-e).toNat false : Nat) : Int)

/-- 2^192 × artanh of z / 2^192, by its series: `p` the power of z reached, `k` its exponent. -/
def artanhTerms (z2 : Nat) : Nat → Nat → Nat → Nat
  | 0, _, _ => 0
  | fuel + 1, p, k => p / k + artanhTerms z2 fuel (p * z2 / 2 ^ 192) (k + 2)

/-- 2^192 × ln (n / d) for 1 ≤ n / d ≤ 2, as 2 × artanh ((n − d) / (n + d)). -/
def lnFixed (n d : Nat) : Nat :=
  let z := (n - d) * 2 ^ 192 / (n + d)
  2 * artanhTerms (z * z / 2 ^ 192) 64 z 1

/-- The natural logarithm of a positive number in binary64, from its value to 2^−180 (R132). -/
def fpLn : Fp → Fp
  | .nan => .nan
  | .inf s => if s then .nan else .inf false
  | .fin s m e =>
    if m = 0 then .inf true
    else if s then .nan
    else
      let l := bitLen m - 1
      let x : Int := (e + l) * lnFixed 2 1 + lnFixed m (2 ^ l)
      round64 (decide (x < 0)) x.natAbs 1 (-192)

/-- The binary64 code of a value, for the opaque functions of Config. -/
def code64 : Fp → Nat
  | .nan => 0x7FF8000000000000
  | .inf neg => b2n neg * 2 ^ 63 + 0x7FF0000000000000
  | .fin neg m e =>
    let l := bitLen m
    let up := 53 - l
    let e1 := e - up
    if m = 0 then b2n neg * 2 ^ 63
    else if e1 < -1074 then b2n neg * 2 ^ 63 + m * 2 ^ (e + 1074).toNat
    else b2n neg * 2 ^ 63 + (e1 + 1075).toNat * 2 ^ 52 + (m * 2 ^ up - 2 ^ 52)

/-- The value of a binary64 code. -/
def fpOf64 (w : Nat) : Fp :=
  let neg := bit w 63
  let ex := fld w 62 52
  let fr := fld w 51 0
  if ex = 2047 then (if fr = 0 then .inf neg else .nan)
  else if ex = 0 then .fin neg fr (-1074)
  else .fin neg (fr + 2 ^ 52) ((ex : Int) - 1075)

end Sys2Proof.Machine
end

