-- ==== Sys2Proof/Machine/Conversion.lean ====
section
/-! DEFINITION. Conversion, calibration, linearisation, deadband and rotating calibration
(05_conversion_calibration.md R108 to R134), and the charge-amplifier resets whose record needs them.

Readings and choices here: DESIGN CHOICE log 3, log 5, log 47, log 78; DEDUCED log 45, log 46. -/
namespace Sys2Proof.Machine

/-! ### The calibration chain (R116, R120) -/

/-- A result of the chain: a finite value; an infinity met at some step, emitted as the largest value with its sign;
no value (R116). -/
inductive EngResult where
  | ok (v : Fp)
  | huge (neg : Bool)
  | noValue
  deriving DecidableEq, Repr

/-- One step's outcome (R116: the rules apply at every step). -/
def engStep : Fp → EngResult
  | .nan => .noValue
  | .inf s => .huge s
  | .fin s m e => .ok (.fin s m e)

/-- Go on with a finite value. -/
def EngResult.andThen (r : EngResult) (f : Fp → EngResult) : EngResult :=
  match r with
  | .ok v => f v
  | .huge s => .huge s
  | .noValue => .noValue

/-- A binary32 parameter as a number. -/
def State.f32 (s : State) (ix sub : Nat) : Fp := fpOf32 (s.par ix sub)

/-- CAL.CF_FACTORY: the measured C_F of an amplifier at its CA.CF setting (Table 11). -/
def State.cfFactory (s : State) (a : Nat) : Nat := Config.otp Ix.calCfFactory (a + 48 * s.caPar Ix.caCf a) % 2 ^ 32

/-- Factory gain of a lane (R121): of its range code, times the measured C_F and R_IN where the role needs them; negative for a
charge amplifier, which inverts (R85), so that current into CA.PIN gives a positive value. -/
def State.factoryGain (s : State) (lane : Nat) : EngResult :=
  let g := s.f32 (Ix.calGainFactory + s.par Ix.laneRange lane) lane
  let a := s.caOf lane
  if s.chargeRole lane then
    let g1 := fpNeg (fpMul g (fpOf32 (s.cfFactory a)))
    if s.par Ix.laneRole lane = 6 then
      let code := s.caPar Ix.caRin a
      (engStep g1).andThen (fun v => engStep (fpMul v (s.f32 (Ix.calRinFactory + (code - 1)) a)))
    else engStep g1
  else engStep g

/-- EX.LEVEL of a source at an instant, in amperes or volts (R120 step 3). -/
def State.excitation (s : State) (k t : Nat) : Fp :=
  fpOfRat (s.exAt k t).level (if s.exPar Ix.exMode k = 0 then 1000000000 else 1000000)

/-- The source LANE.RATIO names, if any. -/
def State.ratioSource (s : State) (lane : Nat) : Option Nat :=
  match s.par Ix.laneRatio lane with
  | 0 => none
  | r => some (2 * (lane / 8) + (r - 1))

/-- Steps 1 to 3 of R120 for a raw count, sign `neg`, window end `t`, sample instant `i`. -/
def State.engInput (s : State) (lane : Nat) (raw : Int) (neg : Bool) (t : Nat) : EngResult :=
  let d := fpOfInt ((if neg then -1 else 1) * (raw - i32 (s.par (Ix.calOffsetFactory + s.par Ix.laneRange lane) lane)))
  let x1 := (s.factoryGain lane).andThen (fun g => engStep (fpMul d g))
  let x2 := (x1.andThen (fun x => engStep (fpSub x (s.f32 Ix.calOffsetUser lane)))).andThen
    (fun x => engStep (fpMul x (s.f32 Ix.calGainUser lane)))
  match s.ratioSource lane with
  | none => x2
  | some k => x2.andThen (fun x => engStep (fpDiv x (s.excitation k t)))

/-- The domain of the output of a curve, in °C (R130 Table 10). -/
def curveDomain (code : Nat) : Option (Int × Int) :=
  match code with
  | 1 => some (-200, 850) | 2 => some (-200, 850) | 3 => some (-210, 1200) | 4 => some (-270, 1372)
  | 5 => some (-270, 1300) | 6 => some (-270, 400) | 7 => some (-270, 1000) | 8 => some (-50, 1768)
  | 9 => some (250, 1820) | 10 => some (-50, 1768) | 16 => some (-55, 200)
  | _ => none

/-- The straight line through (x0, y0) of a slope, at `x` (R130). -/
def tangent (x x0 y0 slope : Fp) : EngResult :=
  ((engStep (fpSub x x0)).andThen (fun d => engStep (fpMul slope d))).andThen (fun d => engStep (fpAdd y0 d))

/-- Codes 1 to 10 at an input: the standard's reference function `f` between the ends of the domain, the tangent at the nearer end
outside them, with RANGE (R130). -/
def refCurve (code : Nat) (f : Nat → Nat) (x : Fp) : EngResult × Bool :=
  let end_ (high : Bool) := fpOf64 (Config.curveEnd code high)
  let y := (curveDomain code).getD (0, 0)
  if fpLt x (end_ false) then (tangent x (end_ false) (fpOfInt y.1) (fpOf64 (Config.curveSlope code false)), true)
  else if fpLt (end_ true) x then (tangent x (end_ true) (fpOfInt y.2) (fpOf64 (Config.curveSlope code true)), true)
  else (engStep (fpOf64 (f (code64 x))), false)

/-- Breakpoint x_i or y_i of a user curve slot (R133). -/
def State.curveX (s : State) (slot i : Nat) : Fp := s.f32 (Ix.curveX + slot) i
def State.curveY (s : State) (slot i : Nat) : Fp := s.f32 (Ix.curveY + slot) i

/-- The segment of a user curve that an input falls in: the last i ≤ 63 with x_i ≤ x, or 0 (R130, R133). -/
def State.segment (s : State) (slot : Nat) (x : Fp) : Nat :=
  ((List.range 64).filter (fun i => fpLe (s.curveX slot i) x)).getLast?.getD 0

/-- The user curve of a slot at an input; true when the input lies outside x_0 to x_64 (R133, R130). -/
def State.userCurve (s : State) (slot : Nat) (x : Fp) : EngResult × Bool :=
  let i := s.segment slot x
  let x0 := s.curveX slot i
  let y0 := s.curveY slot i
  let out := fpLt x (s.curveX slot 0) || fpLt (s.curveX slot 64) x
  if fpEq x (s.curveX slot 64) then (engStep (s.curveY slot 64), false)
  else
    let n := (engStep (fpSub x x0)).andThen (fun a =>
      (engStep (fpSub (s.curveY slot (i + 1)) y0)).andThen (fun b => engStep (fpMul a b)))
    let q := n.andThen (fun a => (engStep (fpSub (s.curveX slot (i + 1)) x0)).andThen (fun b => engStep (fpDiv a b)))
    (q.andThen (fun a => engStep (fpAdd y0 a)), out)

/-- 1 / T of code 16 at a resistance: A + B × ln R + C × (ln R)³ (R132). -/
def State.steinhartInv (s : State) (lane : Nat) (r : Fp) : EngResult :=
  let l := fpLn r
  let b := (engStep (fpMul (s.f32 Ix.laneCoefB lane) l))
  let c := (engStep (fpMul l l)).andThen (fun l2 => (engStep (fpMul l2 l)).andThen (fun l3 =>
    engStep (fpMul (s.f32 Ix.laneCoefC lane) l3)))
  (b.andThen (fun x => engStep (fpAdd (s.f32 Ix.laneCoefA lane) x))).andThen (fun x =>
    c.andThen (fun y => engStep (fpAdd x y)))

/-- Code 16 of R132: Steinhart–Hart. -/
def State.steinhart (s : State) (lane : Nat) (r : Fp) : EngResult :=
  ((s.steinhartInv lane r).andThen (fun x => engStep (fpDiv (fpOfInt 1) x))).andThen (fun k => engStep (fpSub k (fpOfRat 27315 100)))

/-- The resistance at which code 16 reaches 1 / T = `inv`, by halving [lo, hi]: 1 / T rises with R in an NTC. -/
def State.steinhartRoot (s : State) (lane : Nat) (inv : Fp) : Nat → Fp → Fp → Fp
  | 0, lo, _ => lo
  | n + 1, lo, hi =>
    let mid := fpDiv (fpAdd lo hi) (fpOfInt 2)
    let below := match s.steinhartInv lane mid with
      | .ok v => fpLt v inv
      | _ => false
    if below then s.steinhartRoot lane inv n mid hi else s.steinhartRoot lane inv n lo mid

/-- The line that continues code 16 below −55 °C or above +200 °C: its tangent there, dT / dR = −T² (B + 3 C (ln R)²) / R (R130). How
the end's resistance is found and the steps are rounded is DESIGN CHOICE, log 78. -/
def State.steinhartTangent (s : State) (lane : Nat) (high : Bool) (x : Fp) : EngResult :=
  let k := fpOfRat (if high then 47315 else 21815) 100
  let r := s.steinhartRoot lane (fpDiv (fpOfInt 1) k) 128 (fpOfRat 1 1000) (fpOfInt (2 ^ 40))
  let l := fpLn r
  let d := fpAdd (s.f32 Ix.laneCoefB lane) (fpMul (fpMul (fpOfInt 3) (s.f32 Ix.laneCoefC lane)) (fpMul l l))
  tangent x r (fpOfInt (if high then 200 else -55)) (fpNeg (fpDiv (fpMul (fpMul k k) d) r))

/-- Step 4 of R120: the curve of the lane at x3, with the cold-junction temperature for thermocouples; true when the
input lies outside the curve's domain. Codes 1 to 10 are the standards' reference functions, opaque in Config. -/
def State.linearise (s : State) (lane : Nat) (x : Fp) (cj : Fp) : EngResult × Bool :=
  let code := s.par Ix.laneCurve lane
  if code = 1 ∨ code = 2 then
    refCurve code (Config.ptTemperature (if code = 1 then 100 else 1000)) x
  else if 3 ≤ code ∧ code ≤ 10 then
    match engStep (fpAdd x (fpOf64 (Config.tcVoltage code (code64 cj)))) with
    | .ok y => refCurve code (Config.tcTemperature code) y
    | r => (r, false)
  else if code = 16 then
    let floor := fpOfRat 1 1000
    let low := fpLt x floor
    let at_ := if low then floor else x
    match s.steinhart lane at_ with
    | .ok v =>
      if fpLt v (fpOfInt (-55)) then (s.steinhartTangent lane false at_, true)
      else if fpLt (fpOfInt 200) v then (s.steinhartTangent lane true at_, true)
      else (.ok v, low)
    | r => (r, low)
  else if code = 17 then
    let m := s.f32 Ix.laneCoefA lane
    if fpEq m (.fin false 0 0) then (engStep x, true) else (engStep (fpDiv x m), false)
  else if 24 ≤ code ∧ code ≤ 31 then s.userCurve (code - 24) x
  else (engStep x, false)

/-- The cold-junction temperature of a thermocouple lane at instant `t`: the word, the flags of the sample it came
from, and whether it is the fallback (R131). -/
def State.coldJunction (s : State) (lane t : Nat) : Nat × Nat × Bool :=
  let j := s.par Ix.laneCjLane lane
  let fixed := s.parAt t Ix.laneCjFixed lane
  if j = 255 then (fixed, 0, false)
  else if s.laneOn j && decide (s.par Ix.laneOutFormat j = 1) then
    match (s.convOf j).made.find? (fun x => decide (x.at_ + 256000000 ≤ t)) with
    | some x => (x.word, x.flags, false)
    | none => (fixed, 0, true)
  else (fixed, 0, true)

/-- The lane's curve is a thermocouple's. -/
def State.thermocouple (s : State) (lane : Nat) : Bool :=
  decide (3 ≤ s.par Ix.laneCurve lane) && decide (s.par Ix.laneCurve lane ≤ 10)

/-- The largest finite binary32 with a sign (R116). -/
def largest32 (neg : Bool) : Nat := b2n neg * 2 ^ 31 + 0x7F7FFFFF

/-- An ENG word, with RANGE and with "no value" as R116 sets them. DESIGN CHOICE, log 78: whether a result lies beyond the largest
finite binary32 is judged after the rounding. -/
def engWord : EngResult → Nat × Bool × Bool
  | .ok v =>
    match fpTo32 v with
    | .inf s => (largest32 s, true, false)
    | w => (code32 w, false, false)
  | .huge s => (largest32 s, true, false)
  | .noValue => (0, true, true)

/-- The word of a raw count in the lane's sample unit: RAW p × raw, ENG the chain; then the RANGE and "no value" marks
of R116 and R130 (R120, R121). -/
def State.valueAs (s : State) (eng : Bool) (lane : Nat) (raw : Int) (neg : Bool) (windowEnd instant : Nat) : Nat × Bool × Bool :=
  if !eng then (ofI32 ((if neg then -1 else 1) * raw), false, false)
  else
    let cj := fpOf32 (s.coldJunction lane instant).1
    match s.engInput lane raw neg windowEnd with
    | .ok x =>
      let r := s.linearise lane x cj
      let w := engWord r.1
      (w.1, w.2.1 || r.2, w.2.2)
    | r => engWord r

/-- `valueAs` in the lane's own sample unit, LANE.OUT_FORMAT. -/
def State.sampleValue (s : State) (lane : Nat) (raw : Int) (neg : Bool) (windowEnd instant : Nat) : Nat × Bool × Bool :=
  s.valueAs (decide (s.par Ix.laneOutFormat lane ≠ 0)) lane raw neg windowEnd instant

/-! ### Samples (R110 to R118, R134) -/

/-- The group-delay code of a lane (R114 Table 3). -/
def State.gdCode (s : State) (lane : Nat) : Nat :=
  if s.par Ix.laneFilter lane = 0 then s.par Ix.laneRate lane + 1 else s.par Ix.laneRate lane + 33

/-- The sign p of R120 is −1: the lane is a consumer of an alternating source that is in RUN at the window's end and
negative there (R89, R90). -/
def State.negative (s : State) (lane windowEnd : Nat) : Bool :=
  [2 * (lane / 8), 2 * (lane / 8) + 1].any (fun k =>
    (s.consumers k).contains lane && s.alternates k && (s.exAt k windowEnd).run &&
      decide (windowEnd / s.swapPeriod k % 2 = 1))

/-- A consumed source reports an open circuit or compliance (R92). -/
def State.sourceFlagged (s : State) (lane : Nat) : Bool :=
  [2 * (lane / 8), 2 * (lane / 8) + 1].any (fun k =>
    (s.consumers k).contains lane && (decide (s.exPar Ix.exOpen k = 1) || decide (s.exPar Ix.exCompliance k = 1)))

/-- Some clamp flag of the lane's two pins overlaps [a, b) (R102, R117). -/
def State.laneClamped (s : State) (lane a b : Nat) : Bool :=
  [s.par Ix.laneInPos lane, s.par Ix.laneInNeg lane].any (fun p =>
    decide (p < 18) && s.clampedIn (lane / 8) p a b)

/-- The flag nibble of a sample (R117 Table 4): UNSETTLED 8, CLAMP 4, SUSPECT 2, RANGE 1. DESIGN CHOICE, log 78: whether the source
of LANE.RATIO is in RUN is judged at the end of the window, where R120 takes its level. -/
def State.sampleFlags (s : State) (lane t : Nat) (saturated overload rangeEng noValue : Bool) : Nat :=
  let we := t - 25600
  let eng := decide (s.par Ix.laneOutFormat lane = 1)
  let cj := if eng && s.thermocouple lane then s.coldJunction lane t else (0, 0, false)
  let unsettled := (s.convOf lane).unsettled.any (fun x => decide (x.1 ≤ t) && decide (t ≤ x.2)) || bit cj.2.1 3
  let clamp := s.laneClamped lane (we - s.window lane) we
  let ratioOff := match s.ratioSource lane with
    | some k => !(s.exAt k we).run
    | none => false
  let bias := decide (s.par Ix.biasOverload (lane / 8) = 1) && (s.biasedLanes (lane / 8)).contains lane
  let suspect := s.sourceFlagged lane || bias || (s.convOf lane).toneOpen || saturated
    || decide (s.par Ix.laneCalMismatch lane = 1) || bit cj.2.1 1 || bit cj.2.1 0 || cj.2.2 || ratioOff || noValue
  8 * b2n unsettled + 4 * b2n clamp + 2 * b2n suspect + b2n (saturated || overload || rangeEng)

/-- |v − v_last| > LANE.DEADBAND (R134 rule 4). -/
def State.beyondDeadband (s : State) (lane t v last : Nat) : Bool :=
  let db := fpOf32 (s.parAt t Ix.laneDeadband lane)
  if s.par Ix.laneOutFormat lane = 0 then fpLt db (fpOfInt ((i32 v - i32 last).natAbs))
  else fpLt db (fpAbs (fpSub (fpOf32 v) (fpOf32 last)))

/-- A lane passes a sample on to stream routing (R134). -/
def State.passes (s : State) (lane : Nat) (x : Sample) : Bool :=
  let c := s.convOf lane
  let hb := s.parAt x.at_ Ix.laneHeartbeat lane
  fpEq (fpOf32 (s.parAt x.at_ Ix.laneDeadband lane)) (.fin false 0 0) || c.first || decide (x.flags ≠ 0)
    || (match c.made.head? with
        | some p => decide (p.flags ≠ x.flags)
        | none => true)
    || (match c.passed with
        | some p => s.beyondDeadband lane x.at_ x.word p.word ||
            (decide (hb ≠ 0) && decide (p.at_ + hb * 256000000 ≤ x.at_))
        | none => true)

/-- The samples kept for cold junctions and for the next sample's flags: the last millisecond and one older. -/
def keepSamples (now : Nat) (l : List Sample) : List Sample :=
  l.takeWhile (fun x => decide (now < x.at_ + 256000000)) ++
    (l.dropWhile (fun x => decide (now < x.at_ + 256000000))).take 1

/-- A count of a slice after its trim: less PIER.SLICE_OFFSET, times PIER.SLICE_GAIN (R115, R127). -/
def State.trimmed (s : State) (pier slice : Nat) (c : Int) : Fp :=
  fpMul (fpOfInt (c - i32 (s.par Ix.pierSliceOffset (9 * pier + slice)))) (s.f32 Ix.pierSliceGain (9 * pier + slice))

/-- The decimated count of a lane: every slice's words under that slice's own trim, by their share of the window (R115, R126). The
rounding to a whole count is DESIGN CHOICE, log 78. -/
def State.rawCount (s : State) (lane : Nat) (x : Reading) : Int :=
  let part (slice : Nat) (c : Int) (w : Nat) := fpMul (s.trimmed (lane / 8) slice c) (fpOfInt w)
  let rest := 65536 - (x.former.map (fun (y : Fin 9 × Int × Fin 65537) => y.2.2.val)).sum
  let own := part (s.par Ix.laneSlice lane) x.serving rest
  let all_ := x.former.foldl (fun (a : Fp) (y : Fin 9 × Int × Fin 65537) => fpAdd a (part y.1 y.2.1 y.2.2)) own
  fpRound (fpDiv all_ (fpOfInt 65536))

/-- The largest count either way (R115). -/
def countClip : Int := 0x44000000

/-- The lane's filter yields a sample at instant `t`: `raw` the decimated count, `saturated` and `overload` whether the
window holds a modulator saturation, or an input beyond ±2.500 V (R115, R117). -/
def State.sampleAt (s : State) (lane t : Nat) (raw : Int) (saturated overload : Bool) : State :=
  let sat := saturated || decide (countClip < raw) || decide (raw < -countClip)
  let r := clampI (-countClip) countClip raw
  let ov := overload || decide (0x40000000 < r) || decide (r < -0x40000000)
  let we := t - 25600
  let v := s.sampleValue lane r (s.negative lane we) we t
  let x : Sample := ⟨t, v.1, s.sampleFlags lane t sat ov v.2.1 v.2.2⟩
  let pass := s.passes lane x
  let c := s.convOf lane
  let c1 := { c with first := false, passed := if pass then some x else c.passed, from_ := t + 1
                     made := keepSamples t (x :: c.made) }
  let s1 := s.setConv lane c1
  let s2 := if pass then s1 else s1.cntW Ix.laneSuppressed lane 1
  s2.buffer (recSample t lane x.flags (s.gdCode lane) (if s.par Ix.laneOutFormat lane = 0 then 0 else 1) x.word (!pass))

/-- A lane produces a sample at instant `t`: an analog role, running, its pier in MEASURE past the slice power-up, on
its output grid (R110, R111, R118). -/
def State.producesAt (s : State) (lane t : Nat) : Bool :=
  s.tpll && s.analog lane && (s.runOf lane).on && decide (s.par Ix.pwrPierState (lane / 8) = 2)
    && decide ((s.convOf lane).from_ ≤ t) && decide (t % s.samplePeriod lane = 0) && decide (s.now = t)

/-! ### Charge-amplifier resets (R98, R99, R121) -/

/-- The words of a RESET_ACCOUNT record of an amplifier from raw counts, in the selecting lane's unit, p = +1. -/
def State.accountWords (s : State) (a t : Nat) (pre residual : Int) : Nat × Nat :=
  match s.caLane a with
  | some l => ((s.sampleValue l pre false t t).1, (s.sampleValue l residual false t t).1)
  | none => (0, 0)

/-- A cause for a reset at `t` with the converter's raw readings. -/
def State.caCause (s : State) (a cause t : Nat) (pre residual : Int) : State :=
  let w := s.accountWords a t pre residual
  s.caReset a cause t w.1 w.2

/-! ### Rotating calibration (R125 to R129) -/

/-- A slice of a pier: at reset slice i serves lane i, slice 8 is the spare (R108). -/
def State.sliceOf (s : State) (pier i : Nat) : SliceSt :=
  tget { state := if i = 8 then .spare else .serving } s.slice (9 * pier + i)
def State.setSlice (s : State) (pier i : Nat) (x : SliceSt) : State :=
  { s with slice := tset s.slice (9 * pier + i) x }

/-- PIER.SPARE: the slice in SPARE, SPARE_CAL or OVERLAP; 255 none. -/
def State.spareOf (s : State) (pier : Nat) : Nat :=
  ((List.range 9).find? (fun i => match (s.sliceOf pier i).state with
    | .spare => true | .spareCal => true | .overlap => true | _ => false)).getD 255

/-- PIER.SPARE and PIER.SLICE_FAULTY follow the slices (R128, 05 Table 11). -/
def State.sliceReport (s : State) (pier : Nat) : State :=
  let faulty := ((List.range 9).filter (fun i => decide ((s.sliceOf pier i).state = .faulty))).map (fun i => 2 ^ i)
  (s.setPar Ix.pierSpare pier (s.spareOf pier)).setPar Ix.pierSliceFaulty pier faulty.sum

/-- The slice-handover STATUS record (R128, R218 kind 5). -/
def handover (t lane old new code : Nat) (mean : Int) (n : Nat) : Rec :=
  recStatus t lane 5 (code % 8 * 256 + new % 16 * 16 + old % 16) (ofI32 mean) n

/-- The number of difference samples of an overlap: check-filter outputs at rate code 4 (R126, Table 8). -/
def State.checkSamples (s : State) (pier : Nat) : Nat := s.par Ix.pierRotOverlap pier * 256000 / 4000000

/-- A difference sample of instant `u`, whose window is that of FAST at rate code 4, is excluded (R126). -/
def State.checkExcludes (s : State) (o : Overlap) (u : Nat) (saturated : Bool) : Bool :=
  let b := u - 25600
  let a := b - 16000000
  saturated || o.excl.any (fun x => decide (x.1 ≤ u) && decide (u ≤ x.2))
    || o.cond.any (fun x => decide (x.2.from_ < b) && (match x.2.to_ with
        | some e => decide (a < e)
        | none => true))
    || s.laneClamped o.lane a b
    || (match s.time.skipped with
        | some k => decide (k.1 ≤ u) && decide (u < k.2)
        | none => false)

/-- The accepted difference samples of an overlap whose instants are at or before `t` (R126). -/
def State.checkUse (s : State) (pier : Nat) (o : Overlap) (t : Nat) : List Int :=
  ((List.range (s.checkSamples pier)).zip o.diffs).filterMap (fun x =>
    let u := o.t0 + 16000000 + 4000000 * (x.1 + 1)
    if u ≤ t ∧ !s.checkExcludes o u x.2.2 then some x.2.1 else none)

/-- Σd / n rounded towards zero; 0 where no sample is accepted (R128; the 0 is DESIGN CHOICE, log 78). -/
def meanDiff (ds : List Int) : Int := if ds = [] then 0 else Int.tdiv ds.sum ds.length

/-- The instant that a reference cycle begun at `t` ends: four parts of 2,000 µs (R126 Table 8). -/
def cycleEnds (t : Nat) : Nat := t + 2048000000

/-- End an overlap without a handover: the spare is disconnected (R128). -/
def State.overlapCancel (s : State) (pier t : Nat) : State :=
  match tfind s.overlap pier with
  | none => s
  | some o =>
    let ds := s.checkUse pier o t
    let s1 := { s with overlap := terase s.overlap pier }
    let s2 := s1.setSlice pier o.spare { s1.sliceOf pier o.spare with state := .spare }
    (s2.laneRecord (handover t o.lane (s.par Ix.laneSlice o.lane) o.spare 3 (meanDiff ds) ds.length)).sliceReport pier

/-- The decision of a check (R126, R128 Table 9), by Σd and n of the accepted samples. DESIGN CHOICE, log 78: a postponed or
cancelled check leaves the count of consecutive aborts as it is. -/
def State.rotationDecide (s : State) (pier : Nat) (o : Overlap) : State :=
  let td := o.t0 + 16000000 + s.par Ix.pierRotOverlap pier * 256000
  let ds := s.checkUse pier o td
  let n := ds.length
  let old := s.par Ix.laneSlice o.lane
  let mean := meanDiff ds
  let s0 := { s with overlap := terase s.overlap pier }
  let next := (o.lane % 8 + 1) % 8
  if 2 * n < s.checkSamples pier ∨ n = 0 then
    let s1 := (s0.setSlice pier o.spare { s0.sliceOf pier o.spare with state := .spare }).cnt Ix.pierRotPostponed pier
    (s1.laneRecord (handover td o.lane old o.spare 2 mean n)).sliceReport pier
  else if ds.sum.natAbs * 2500000 ≤ s.par Ix.pierRotTol pier * 2 ^ 30 * n then
    let edge := ceilMul td 12500
    let s1 := (s0.setSlice pier o.spare { state := .serving }).setSlice pier old { state := .spareCal, cycleEnd := cycleEnds edge }
    let s2 := ((s1.setPar Ix.laneSlice o.lane o.spare).setPar Ix.laneCalMismatch o.lane 0).setPar Ix.pierRotNextLane pier next
    let s3 := (s2.setPar Ix.laneRotLastDiff o.lane (ofI32 mean)).cntW Ix.pierHandovers pier 1
    (s3.laneRecord (handover edge o.lane old o.spare 0 mean n)).sliceReport pier
  else
    let k := (s0.sliceOf pier o.spare).aborts + 1
    let s1 := (s0.setPar Ix.laneCalMismatch o.lane 1).setPar Ix.laneRotLastDiff o.lane (ofI32 mean)
    let s2 := (s1.cnt Ix.laneRotAborts o.lane).setPar Ix.pierRotNextLane pier next
    let s3 := s2.laneRecord (handover td o.lane old o.spare 1 mean n)
    let s4 := s3.setSlice pier o.spare ⟨if 3 ≤ k then .faulty else .spareCal, k, cycleEnds td⟩
    let s5 := if 3 ≤ k then s4.laneRecord (handover td (8 * pier) o.spare o.spare 4 0 0) else s4
    s5.sliceReport pier

/-- The gain trim of R127: 2 × CAL.REF_FACTORY over the difference of the +ref and −ref readings, in volts at the
modulator (2^30 counts = 2.5 V). -/
def State.gainTrim (s : State) (pier : Nat) (plus minus : Int) : Fp :=
  let diff := fpDiv (fpOfInt ((plus - minus) * 5)) (fpOfInt (2 ^ 31))
  fpDiv (fpMul (fpOfInt 2) (s.f32 Ix.calRefFactory pier)) diff

/-- The slice's gain, the difference of the +ref and −ref readings over 2 × REF, lies within ±1 % of nominal (R127), exactly. -/
def gainPasses (ref : Fp) (plus minus : Int) : Bool :=
  match ref with
  | .fin false m e =>
    let want : Int := m * 2 ^ (e + 31).toNat
    let got := 500 * (plus - minus) * 2 ^ (-(e + 31)).toNat
    decide (198 * want ≤ got) && decide (got ≤ 202 * want)
  | _ => false

/-- The reference cycle passes (R127): offset within ±2 mV, gain within ±1 %, tone gain within ±0.5 %. -/
def State.cyclePasses (s : State) (pier : Nat) (zero plus minus tonePpm : Int) : Bool :=
  decide (zero.natAbs * 2500 ≤ 2 * 2 ^ 30) && gainPasses (s.f32 Ix.calRefFactory pier) plus minus
    && decide (tonePpm.natAbs ≤ 5000)

/-! ### The commands -/

/-- SAMPLE_OUTPUT: a lane's filter yields a sample (R110 to R120, R134). The count and the two window conditions are
what the converter measured. -/
def execSampleOutput (t : Nat) (lane : Fin 192) (raw : Reading) (saturated overload : Bool) (s : State) :
    Host.Outcome State Fault Refusal :=
  let s1 := s.enter t
  if s1.producesAt lane s1.now then .next (s1.sampleAt lane s1.now (s1.rawCount lane raw) saturated overload) else .next s1

/-- CA_AUTO_TRIP: an amplifier's output leaves its band at `t`; the reset starts at the next whole nanosecond. A trip within a
reset joins its causes, one within 50 ns after it is dropped (R98). -/
def execCaAutoTrip (t : Nat) (a : Fin 48) (pre residual : Int) (s : State) : Host.Outcome State Fault Refusal :=
  let s1 := s.enter t
  let band := s1.caPar Ix.caAutoreset a
  if s1.tpll ∧ band ≠ 0 ∧ band * 2 ^ 30 < pre.natAbs * 256 then
    .next (s1.caCause a 0 (if s1.caBusy a s1.now then s1.now else nextMul s1.now 256) pre residual)
  else .next s1

/-- CA_PERIODIC_RESET: a multiple of CA.RESET_PERIOD microseconds (R98). -/
def execCaPeriodicReset (t : Nat) (a : Fin 48) (pre residual : Int) (s : State) : Host.Outcome State Fault Refusal :=
  let s1 := s.enter t
  let p := s1.caPar Ix.caResetPeriod a
  if s1.tpll ∧ p ≠ 0 ∧ s1.now % (p * 256000) = 0 then .next (s1.caCause a 1 s1.now pre residual) else .next s1

/-- What holds of a lane as its check begins at `t`: the instants that its last settling cause excludes, and the conditions that
stand (R126). -/
def State.checkExcl (s : State) (lane : Nat) : List (Nat × Nat) :=
  ((s.convOf lane).cause.map (fun c => (checkFrom c, checkFrom c + 16000000))).toList
def State.checkCond (s : State) (lane : Nat) : List (Nat × Span) :=
  let p := lane / 8
  let flags := ([2 * p, 2 * p + 1].filter (fun k => (s.consumers k).contains lane)).flatMap (fun k =>
    (if s.exPar Ix.exOpen k = 1 then [2 * (k % 2)] else []) ++ (if s.exPar Ix.exCompliance k = 1 then [2 * (k % 2) + 1] else []))
  let bias := if s.par Ix.biasOverload p = 1 ∧ (s.biasedLanes p).contains lane then [4] else []
  (flags ++ bias).map (fun kind => (kind, ⟨0, none⟩))

/-- ROTATION_SLOT: a slot opens at a multiple of PIER.ROT_PERIOD, and the spare is connected to the target (R125,
R126); `diffs` are the differences the check filters will yield while the overlap lasts. -/
def execRotationSlot (t : Nat) (pier : Fin 24) (diffs : List (Int × Bool)) (s : State) : Host.Outcome State Fault Refusal :=
  let s1 := s.enter t
  let first := s1.par Ix.pierRotNextLane pier
  let target := ((List.range 8).map (fun i => 8 * pier.val + (first + i) % 8)).find? (fun l => s1.laneOn l && s1.analog l)
  let spare := (List.range 9).find? (fun i => decide ((s1.sliceOf pier i).state = .spare))
  if s1.tpll ∧ s1.par Ix.pierRotEnable pier = 1 ∧ s1.par Ix.pwrPierState pier = 2 ∧
      s1.now % (s1.par Ix.pierRotPeriod pier * 256000000) = 0 ∧ (tfind s1.overlap pier).isNone then
    match target, spare with
    | some l, some i =>
      let s2 := s1.setSlice pier i { s1.sliceOf pier i with state := .overlap }
      .next (({ s2 with overlap := tset s2.overlap pier ⟨l, i, s1.now, diffs, s1.checkExcl l, s1.checkCond l⟩ }).sliceReport pier)
    | _, _ => .next s1
  else .next s1

/-- ROTATION_DECISION: at t_d, by the accepted difference samples (R126, R128). -/
def execRotationDecision (t : Nat) (pier : Fin 24) (s : State) : Host.Outcome State Fault Refusal :=
  let s1 := s.enter t
  match tfind s1.overlap pier with
  | some o =>
    if o.t0 + 16000000 + s1.par Ix.pierRotOverlap pier * 256000 ≤ s1.now then
      .next (s1.rotationDecide pier o)
    else .next s1
  | none => .next s1

/-- REFERENCE_CYCLE_END: the readings of a slice in SPARE_CAL: zero, +ref, −ref in counts, and the deviation of the gain
at the tone frequency from the DC gain in ppm (R127, R128), once the 8,000 µs are over. DESIGN CHOICE, log 78: a FAULTY record names
the slice itself as old and new slice, with mean and n 0. -/
def execReferenceCycleEnd (t : Nat) (pier : Fin 24) (slice : Fin 9) (zero plus minus tonePpm : Int) (s : State) :
    Host.Outcome State Fault Refusal :=
  let s1 := s.enter t
  let x := s1.sliceOf pier slice
  if x.state = .spareCal ∧ s1.par Ix.pwrPierState pier = 2 ∧ x.cycleEnd ≤ s1.now then
    if s1.cyclePasses pier zero plus minus tonePpm then
      let s2 := s1.setSlice pier slice { x with state := .spare }
      let s3 := (s2.setPar Ix.pierSliceOffset (9 * pier + slice) (ofI32 zero)).setPar Ix.pierSliceGain (9 * pier + slice)
        (code32 (fpTo32 (s1.gainTrim pier plus minus)))
      .next (s3.sliceReport pier)
    else
      let s2 := s1.setSlice pier slice { x with state := .faulty }
      .next ((s2.laneRecord (handover s1.now (8 * pier) slice slice 4 0 0)).sliceReport pier)
  else .next s1

/-- 1 is written to PIER.SLICE_RETEST: the FAULTY slices of a pier in MEASURE start a reference cycle (Table 9). -/
def State.sliceRetest (s : State) (pier : Nat) : State :=
  if s.par Ix.pwrPierState pier = 2 then
    ((List.range 9).foldl (fun u i =>
      if (u.sliceOf pier i).state = .faulty then u.setSlice pier i { state := .spareCal, cycleEnd := cycleEnds s.now } else u) s).sliceReport pier
  else s

/-- PIER_SLICE_RETEST: a write of 1 to PIER.SLICE_RETEST (R128). -/
def execPierSliceRetest (t : Nat) (pier : Fin 24) (s : State) : Host.Outcome State Fault Refusal :=
  .next ((s.enter t).sliceRetest pier)

end Sys2Proof.Machine
end

