-- ==== Sys2Proof/Machine/Beryl.lean ====
section
/-! DEFINITION. The Beryl image (11_beryl.md R262 to R267, R272): encoder and decoder. -/
namespace Sys2Proof.Machine

/-! ### Encoder (R265, R266) -/

/-- Length of the common beginning of two word lists, at most `cap`. -/
def commonLen : Nat → List Word → List Word → Nat
  | 0, _, _ => 0
  | _, [], _ => 0
  | _, _, [] => 0
  | cap + 1, a :: s, b :: t => if a = b then commonLen cap s t + 1 else 0

/-- Number of zero words a list begins with, at most `cap`. -/
def zeroLen : Nat → List Word → Nat
  | 0, _ => 0
  | _, [] => 0
  | cap + 1, a :: s => if a = 0 then zeroLen cap s + 1 else 0

/-- Length of the delta run from the word before a list, at most `cap` (Table 2, D). -/
def deltaLen : Nat → Word → List Word → Nat
  | 0, _, _ => 0
  | _, _, [] => 0
  | cap + 1, p, a :: s =>
    let d := (a - p).toInt
    if -128 ≤ d ∧ d ≤ 127 then deltaLen cap a s + 1 else 0

/-- The delta bytes of the first `k` words after `p`. -/
def deltaBytes : Nat → Word → List Word → List Byte
  | 0, _, _ => []
  | _, _, [] => []
  | k + 1, p, a :: s => (a - p).truncate 8 :: deltaBytes k a s

/-- Best match among candidates given nearest first as distance and suffix: the greatest length and the nearest distance
that reaches it (Table 2, Lm and dm). -/
def bestMatch (rest : List Word) : List (Nat × List Word) → Nat × Nat
  | [] => (0, 0)
  | (d, c) :: t =>
    let l := commonLen 65 c rest
    let b := bestMatch rest t
    if b.1 ≤ l then (l, d) else b

/-- The candidates at a position: distances 1 to 1,023 whose word equals the next one, the first 2^(level − 1). -/
def candidates (level : Nat) (rest : List Word) (prevs : List (List Word)) : List (Nat × List Word) :=
  (((prevs.take 1023).zipIdx 1).filterMap (fun x =>
    if x.1.head? = rest.head? then some (x.2, x.1) else none)).take (2 ^ (level - 1))

/-- Move `k` words on: the suffixes passed join the earlier ones, nearest first. -/
def advance : Nat → List Word → List (List Word) → List Word × List (List Word)
  | 0, rest, prevs => (rest, prevs)
  | _, [], prevs => ([], prevs)
  | k + 1, a :: s, prevs => advance k s ((a :: s) :: prevs)

/-- The LITERAL token of pending words, given newest first; none pending, none written. -/
def literalToken (pending : List Word) : List Byte :=
  if pending.isEmpty then [] else BitVec.ofNat 8 (pending.length - 1) :: bytesOfWords pending.reverse

/-- A token chosen at a position: its bytes and the words it covers; none where no token is eligible (R266). -/
def chooseToken (level : Nat) (rest : List Word) (prevs : List (List Word)) : Option (List Byte × Nat) :=
  let z := zeroLen 64 rest / 4 * 4
  let m := bestMatch rest (candidates level rest prevs)
  let prev := (prevs.head?.bind List.head?).getD 0
  let d := if prevs.isEmpty then 0 else deltaLen 32 prev rest
  let sz := if 4 ≤ z then 4 * z - 1 else 0
  let sm := if 2 ≤ m.1 then (if m.2 ≤ 255 then 4 * m.1 - 2 else 4 * m.1 - 3) else 0
  let sd := if 2 ≤ d then 3 * d - 1 else 0
  if sz = 0 ∧ sm = 0 ∧ sd = 0 then none
  else if sm ≤ sz ∧ sd ≤ sz then some ([BitVec.ofNat 8 (0xE0 + z / 4 - 1)], z)
  else if sd ≤ sm then
    if m.2 ≤ 255 then some ([BitVec.ofNat 8 (0x40 + m.1 - 2), BitVec.ofNat 8 m.2], m.1)
    else some (BitVec.ofNat 8 (0x80 + m.1 - 2) :: bytesLE 2 m.2, m.1)
  else some (BitVec.ofNat 8 (0xBF + d) :: deltaBytes d prev rest, d)

/-- The greedy parse of R266, with fuel for the number of words. -/
def parseTokens (level : Nat) : Nat → List Word → List (List Word) → List Word → List Byte
  | 0, _, _, pending => literalToken pending
  | _, [], _, pending => literalToken pending
  | fuel + 1, a :: s, prevs, pending =>
    match chooseToken level (a :: s) prevs with
    | some (bytes, n) =>
      let next := advance n (a :: s) prevs
      literalToken pending ++ bytes ++ parseTokens level fuel next.1 next.2 []
    | none =>
      if pending.length = 63 then
        literalToken (a :: pending) ++ parseTokens level fuel s ((a :: s) :: prevs) []
      else parseTokens level fuel s ((a :: s) :: prevs) (a :: pending)

/-- The image of a payload at levels 1 to 9: tokens and END, padded to a word (R262, R266). -/
def berylImage (level : Nat) (ws : List Word) : List Word :=
  wordsOfBytes (parseTokens level ws.length ws [] [] ++ [0xF0])

/-- The stored form of a payload: compressed or raw, and the stored words (R265, R267). -/
def storedForm (level : Nat) (ws : List Word) : Bool × List Word :=
  if level = 0 then (false, ws)
  else
    let im := berylImage level ws
    if ws.length ≤ im.length then (false, ws) else (true, im)

/-! ### Decoder (R263, R264, R272) -/

/-- Copy `n` words from `d` back; words newest first (R264). -/
def copyBack : Nat → Nat → List Word → List Word
  | 0, _, out => out
  | n + 1, d, out => copyBack n d (out.getD (d - 1) 0 :: out)

/-- Append the words of a DELTA_RUN (R264). -/
def runDeltas : List Byte → List Word → List Word
  | [], out => out
  | b :: bs, out => runDeltas bs ((out.headD 0 + (b.signExtend 32)) :: out)

/-- A decoder fault: its code of Table 4 and the byte position. -/
abbrev BerylFault := Nat × Nat

/-- Checks after END at byte `start`: word count, padding length, padding bytes (R272). -/
def afterEnd (count start pos : Nat) (out : List Word) (pad : List Byte) : Except BerylFault (List Word) :=
  if out.length ≠ count then .error (5, start)
  else if 4 ≤ pad.length then .error (5, start)
  else
    match (pad.zipIdx pos).find? (fun x => decide (x.1 ≠ 0)) with
    | some x => .error (1, x.2)
    | none => .ok out.reverse

/-- Decode tokens from byte `pos` on; `out` holds the words so far, newest first (R272). -/
def decodeTokens (count : Nat) : Nat → Nat → List Byte → List Word → Except BerylFault (List Word)
  | 0, pos, _, _ => .error (4, pos)
  | _, pos, [], _ => .error (4, pos)
  | fuel + 1, pos, hb :: rest, out =>
    let h := hb.toNat
    if h = 0xF0 then afterEnd count pos (pos + 1) out rest
    else if 0xF1 ≤ h then .error (1, pos)
    else if h ≤ 0x3F then
      let n := h + 1
      if rest.length < 4 * n then .error (4, pos)
      else if count < out.length + n then .error (3, pos)
      else decodeTokens count fuel (pos + 1 + 4 * n) (rest.drop (4 * n))
        ((wordsOfBytes (rest.take (4 * n))).reverse ++ out)
    else if h ≤ 0xBF then
      let short := decide (h ≤ 0x7F)
      let k := if short then 1 else 2
      let n := if short then h - 0x40 + 2 else h - 0x80 + 2
      if rest.length < k then .error (4, pos)
      else
        let d := ofBytes (rest.take k)
        if d = 0 ∨ 1023 < d then .error (1, pos)
        else if out.length < d then .error (2, pos)
        else if count < out.length + n then .error (3, pos)
        else decodeTokens count fuel (pos + 1 + k) (rest.drop k) (copyBack n d out)
    else if h ≤ 0xDF then
      let n := h - 0xBF
      if rest.length < n then .error (4, pos)
      else if out.length = 0 then .error (2, pos)
      else if count < out.length + n then .error (3, pos)
      else decodeTokens count fuel (pos + 1 + n) (rest.drop n) (runDeltas (rest.take n) out)
    else
      let n := (h - 0xE0 + 1) * 4
      if count < out.length + n then .error (3, pos)
      else decodeTokens count fuel (pos + 1) rest (List.replicate n 0 ++ out)

/-- Decode an image of a payload of `count` words. -/
def berylDecode (count : Nat) (image : List Word) : Except BerylFault (List Word) :=
  let bytes := bytesOfWords image
  decodeTokens count (bytes.length + 1) 0 bytes []

end Sys2Proof.Machine
end

