-- ==== Sys2Proof/Machine/Streams.lean ====
section
/-! DEFINITION. The stream assembler (09_record_stream.md R225 to R233), the closing of frames into Beryl (R270), and the
gap policy of the span buffer (10_span_caisson_history.md R241 to R245).

Readings and choices here: DEDUCED log 28, log 29, log 79. -/
namespace Sys2Proof.Machine

def State.streamOf (s : State) (n : Nat) : StreamSt := tget {} s.stream n
def State.setStream (s : State) (n : Nat) (x : StreamSt) : State := { s with stream := tset s.stream n x }

/-! ### Frames (R225, R226) -/

/-- The frame header of Table 16; its CRC is that of the payload before compression (R226). -/
def Frame.fields (f : Frame) : List Word :=
  [w32 (0xA7 * 2 ^ 24 + 2 * 2 ^ 20 + f.level % 16 * 2 ^ 16 + f.stored.length % 2048 * 32 + b2n f.flushed * 8
      + b2n f.gap * 4 + b2n f.comp * 2 + b2n (!f.comp)),
   w32 (f.chip % 65536 * 65536 + f.stream % 8 * 2048 + f.payload.length % 2048),
   w32 f.seq, w32 (f.seq / 2 ^ 32), w32 f.base, w32 (f.base / 2 ^ 32),
   w32 (f.quality % 4 * 2 ^ 24 + f.epoch % 65536 * 256 + f.base / 2 ^ 64 % 256),
   w32 (crc32c (bytesOfWords f.payload))]

/-- The header words: what the fields spell, or what a store gave back for them. -/
def Frame.header (f : Frame) : List Word := f.head_.getD f.fields

/-- The frame as it is delivered: header and stored words. -/
def Frame.words (f : Frame) : List Word := f.header ++ f.stored

/-- Bytes of a frame (R238). -/
def Frame.bytes (f : Frame) : Nat := 32 + 4 * f.stored.length

/-- One PAD word completes an odd payload (R212, R228). -/
def padded (ws : List Word) : List Word := if ws.length % 2 = 1 then ws ++ [0] else ws

/-- The frame as a store gives it back: the words that differ stand in place of its own (R283). -/
def Frame.reread (f : Frame) (ws : List Word) : Frame :=
  if ws = f.words then f else { f with head_ := some (ws.take 8), stored := ws.drop 8 }

/-- Time quality at a Garnet time: the code in force then. -/
def State.qualityAt (s : State) (t : Nat) : Nat := pastAt s.cw.past t (key Ix.timeQuality 0) s.time.quality.code

/-- TIME.EPOCH_NUM at a Garnet time. -/
def State.epochAt (s : State) (t : Nat) : Nat := s.parAt t Ix.timeEpochNum 0

/-! ### Gap frames (R216, R230, R243, R244) -/

/-- The GAP records of ORIGIN 1 of a lost interval, chained past 0xFFFF_FFFF ticks (R216). -/
def gapChain (l : Loss) : List Rec :=
  let m := 0xFFFFFFFF
  let d := l.end_ - l.start
  (List.range ((d - 1) / m + 1)).map (fun i =>
    recGap (l.start + i * m) 255 1 (decide (0 < i)) (min m (d - i * m)) (if i = 0 then l.lost else 0))

/-- The OVERFLOW mark of R244. -/
def overflowMark (t : Nat) : Rec := recMark t 255 0 0 0 1 0 0 255 255

/-- Put a record at its place in the order of R137. -/
def insertRec (r : Rec) : List Rec → List Rec
  | [] => [r]
  | q :: t => if r.before q then r :: q :: t else q :: insertRec r t

/-- Quality and epoch at a stamp of a loss interval, on the time line of its stamps. -/
def Loss.qualityAt (l : Loss) (s : State) (t : Nat) : Nat :=
  match l.line with
  | some o => pastAt o.past t (key Ix.timeQuality 0) o.quality
  | none => s.qualityAt t
def Loss.epochAt (l : Loss) (s : State) (t : Nat) : Nat :=
  match l.line with
  | some o => pastAt o.past t (key Ix.timeEpochNum 0) o.epoch
  | none => s.epochAt t

/-- The time line of the stamps so far ends: a loss interval keeps what it needs of it. -/
def Loss.endLine (s : State) (l : Loss) : Loss :=
  { l with line := some (l.line.getD ⟨s.time.quality.code, s.par Ix.timeEpochNum 0, s.cw.past⟩) }

/-- `Loss.endLine` for every loss interval of a stream. -/
def StreamSt.endLine (s : State) (x : StreamSt) : StreamSt :=
  { x with loss := x.loss.map (Loss.endLine s), runs := x.runs.map (fun r => { r with loss := r.loss.map (Loss.endLine s) }) }

/-- Cut records into frames by rules 1 and 3 of R228; the records of each frame. -/
def cutGap : Nat → List Rec → List (List Rec)
  | 0, _ => []
  | _, [] => []
  | fuel + 1, r :: rs =>
    let near := rs.takeWhile (fun q => decide (q.stamp ≤ r.stamp + 0xFFFFFFFF))
    let here := (r :: near).take 256
    here :: cutGap fuel ((r :: rs).drop here.length)

/-- A gap frame from its records; its stored form is that of its stream's level (R230, R268). -/
def State.gapFrame (s : State) (n : Nat) (l : Loss) (recs : List Rec) : Frame :=
  let base := (recs.head?.map Rec.stamp).getD 0
  let pay := padded (recs.flatMap (Rec.words base))
  let st := storedForm l.level pay
  { base := base, quality := l.qualityAt s base, epoch := l.epochAt s base, chip := l.chip, stream := n, level := l.level
    seq := 0, flushed := false, gap := true, comp := st.1, payload := pay, stored := st.2
    records := recs.length, last := (recs.getLast?.map Rec.stamp).getD 0 }

/-- The records that report a lost interval, with the OVERFLOW mark of a stop. -/
def gapRecords (l : Loss) (mark : Option Nat) : List Rec :=
  match mark with
  | some t => insertRec (overflowMark t) (gapChain l)
  | none => gapChain l

/-- The frames that report a lost interval. -/
def State.gapFrames (s : State) (n : Nat) (l : Loss) (mark : Option Nat) : List Frame :=
  let recs := gapRecords l mark
  (cutGap recs.length recs).map (s.gapFrame n l)

/-- The rule of R228 that closed the last but one of the frames that report a loss: 1 full, 3 the offset; none where there is one
frame alone. -/
def cutRule (l : Loss) (mark : Option Nat) : Option Nat :=
  let recs := gapRecords l mark
  ((cutGap recs.length recs).dropLast).getLast?.map (fun here => if here.length = 256 then 1 else 3)

/-! ### Refusals and stops (R241, R243 to R245) -/

/-- Lost records widen a loss interval, whose start stays (R243, R244). -/
def Loss.widen (l : Loss) (last k : Nat) : Loss := { l with end_ := max l.end_ (last + 1), lost := l.lost + k }

/-- A refused frame opens a loss interval at its base time, or widens one (R243). -/
def Frame.lost (f : Frame) : Option Loss → Loss
  | some l => l.widen f.last f.records
  | none => ⟨f.base, f.last + 1, f.records, f.chip, f.level, none⟩

/-- Records that a stopped stream discards (R244). -/
def State.discardRecs (s : State) (n last k : Nat) : State :=
  let x := s.streamOf n
  let s1 := s.cntW (nth Ix.spanLostRecords 8 n) 0 k
  if x.overflow.isSome then s1.setStream n { x with loss := x.loss.map (fun l => l.widen last k) } else s1

/-- Ticks of an interval that lie in (e − w, e]. -/
def ticksIn (e w : Nat) (l : Loss) : Nat := min l.end_ (e + 1) - max l.start (e + 1 - w)

/-- G of R245 exceeds the budget. -/
def State.overBudget (s : State) (n : Nat) : Bool :=
  let x := s.streamOf n
  match x.loss with
  | some l =>
    let w := s.par Ix.spanBudgetWindow n * 256000000
    let g := ((l :: x.losses).map (ticksIn l.end_ w)).sum
    decide (s.par Ix.spanBudgetLimit n * 256000 < g)
  | none => false

/-- The stream stops (R244): the open frame and everything held is discarded. R228 rule 5 says in passing that a stop closes the frame;
R244 says that the rule does not apply, and is followed (DEDUCED, log 79). -/
def State.stopStream (s : State) (n mark : Nat) : State :=
  let x := s.streamOf n
  let s1 := s.setStream n { x with stopped := true, open_ := none, holding := [], overflow := some mark }
  let s2 := (((s1.setPar Ix.streamState n 2).setPar Ix.spanState n 2).cnt Ix.spanOverflows n).alert 3 n
  let s3 := match x.open_ with
    | some f => s2.discardRecs n f.last f.records
    | none => s2
  (x.holding.filterMap id).foldl (fun u r => u.discardRecs n r.stamp 1) s3

/-- A frame is lost to the stream: never numbered, its records counted (R241). -/
def State.refusedCounts (s : State) (n : Nat) (f : Frame) : State :=
  (s.cntW (nth Ix.spanRefusedFrames 8 n) 0 1).cntW (nth Ix.spanLostRecords 8 n) 0 f.records

/-- A closed frame of the present run is refused: its records are lost and, while STREAM.STATE reads ENABLED, the gap policy applies
(R241, R243 to R246). -/
def State.refuseFrame (s : State) (n : Nat) (f : Frame) : State :=
  let x := s.streamOf n
  let s1 := (s.refusedCounts n f).setStream n { x with loss := some (f.lost x.loss), overflow := x.overflow.map (fun _ => f.base) }
  if x.overflow.isSome then s1
  else
    let s2 := s1.setPar Ix.spanState n 1
    if s.par Ix.streamState n ≠ 1 then s2
    else match s.par Ix.spanGapPolicy n with
      | 1 => s2.stopStream n f.base
      | 2 => if s2.overBudget n then s2.stopStream n f.base else s2
      | _ => s2

/-- A frame of a run that is over is refused: it widens that run's loss (R243, R244). -/
def State.refuseOld (s : State) (n : Nat) (f : Frame) (r : EndedRun) (rs : List EndedRun) : State :=
  let x := s.streamOf n
  let r1 := { r with loss := some (f.lost r.loss), mark := r.mark.map (fun _ => f.base) }
  (s.refusedCounts n f).setStream n { x with runs := r1 :: rs }

/-! ### Closing (R228, R265, R270) -/

/-- Frames of a stream that wait in its Beryl input queue. -/
def queuedFrames (x : StreamSt) : Nat := (x.beryl.filter (fun b => decide (b.at_ = .queued))).length

/-- The number of the cycle in which a frame closes now, among the cycles with a close. -/
def State.closeOrder (s : State) : Nat := if s.cw.closeCycle = some s.jasperCycle then s.cw.closeNum else s.cw.closeNum + 1

/-- A frame closes in this Jasper cycle (R270). -/
def State.noteClose (s : State) : State :=
  { s with cw := { s.cw with closeCycle := some s.jasperCycle, closeNum := s.closeOrder } }

/-- A closed frame enters Beryl: level 0 by the bypass, the others through the input queue of 32 frames (R270). -/
def State.intoBeryl (s0 : State) (n : Nat) (f : Frame) : State :=
  let s := s0.noteClose
  let x := s.streamOf n
  if f.level = 0 then
    (s.setStream n { x with beryl := x.beryl ++ [⟨f, .ready, s.cw.closeNum, [], false⟩] }).cntW (nth Ix.berylInWords 8 n) 0 f.payload.length
  else if 32 ≤ queuedFrames x then (s.cnt Ix.berylQueueRefused n).refuseFrame n f
  else
    let s1 := s.setStream n { x with beryl := x.beryl ++ [⟨f, .queued, s.cw.closeNum, [], false⟩] }
    (s1.cntW (nth Ix.berylInWords 8 n) 0 f.payload.length).mark Ix.berylQueueHwm n (queuedFrames x + 1)

/-- Close the open frame by a rule of R228, or 7 for a late record (STREAM.LAST_CLOSE). -/
def State.closeFrame (s : State) (n rule : Nat) (flushed : Bool) : State :=
  let x := s.streamOf n
  match x.open_ with
  | none => s
  | some f =>
    let pay := padded f.words
    let s1 := (s.setStream n { x with open_ := none }).setPar Ix.streamLastClose n rule
    s1.intoBeryl n
      { base := f.base, quality := f.quality, epoch := f.epoch, chip := x.chip, stream := n, level := x.level, seq := 0
        flushed := flushed, gap := f.gap, comp := false, payload := pay, stored := pay
        records := f.records, last := f.last }

/-- A record enters the open frame, or opens one (R227). -/
def State.placeRec (s : State) (n : Nat) (r : Rec) : State :=
  let x := s.streamOf n
  let f : OpenFrame := match x.open_ with
    | some f => f
    | none => ⟨r.stamp, s.qualityAt r.stamp, s.epochAt r.stamp, [], 0, r.stamp, false⟩
  let f1 := { f with words := f.words ++ r.words f.base, records := f.records + 1, last := max f.last r.stamp
                     gap := f.gap || decide (r.typ = 4) }
  (s.setStream n { x with open_ := some f1 }).cntW (nth Ix.streamRecords 8 n) 0 1

/-- The rule of R228 by which a record closes the open frame before it: 7 late, 2 age, 1 full, 0 none. -/
def closingRule (f : OpenFrame) (r : Rec) : Nat :=
  if r.stamp < f.base then 7
  else if f.base + 256000000 ≤ r.stamp then 2
  else if 1024 < f.words.length + r.len then 1 else 0

/-- A record reaches a stream in stream order (R227, R228, R244). -/
def State.appendRec (n : Nat) (s : State) (r : Rec) : State :=
  let x := s.streamOf n
  if !x.on then s
  else if x.stopped then s.discardRecs n r.stamp 1
  else
    match x.open_ with
    | none => s.placeRec n r
    | some f =>
      let rule := closingRule f r
      if rule = 0 then s.placeRec n r
      else
        let s1 := s.closeFrame n rule false
        if (s1.streamOf n).stopped then s1.discardRecs n r.stamp 1 else s1.placeRec n r

/-! ### Blocks and the holding queue (R224, R252) -/

/-- A block still to be framed goes to stream `n` and its place time is at or below `t`. -/
def Block.waits (b : Block) (n t : Nat) : Bool := !b.framed && bit b.mask n && decide (b.place ≤ t)

/-- Records stamped `t` must wait for a block of the stream (R252). -/
def State.held (s : State) (n t : Nat) : Bool :=
  s.cai.any (fun c => match c.2.block with
    | some b => b.waits n t
    | none => false)

/-- A record reaches a stream, or waits in the holding queue behind a block (R252). -/
def State.feed (n : Nat) (s : State) (r : Rec) : State :=
  let x := s.streamOf n
  if x.on && !x.stopped && (!x.holding.isEmpty || s.held n r.stamp) then
    s.setStream n { x with holding := x.holding ++ [some r] }
  else s.appendRec n r

/-- What was held goes on: a record, or the close of a forward step. -/
def State.feedHeld (n : Nat) (s : State) : Option Rec → State
  | some r => s.appendRec n r
  | none => s.closeFrame n 4 false

/-- Records held for a stream go on as far as no block holds them (R252). -/
def State.unhold (n : Nat) (s : State) : State :=
  let x := s.streamOf n
  let go := x.holding.takeWhile (fun h => match h with
    | some r => !s.held n r.stamp
    | none => true)
  go.foldl (State.feedHeld n) (s.setStream n { x with holding := x.holding.drop go.length })

/-- A forward step at `t` closes the open frame (R228 rule 4): at once, or behind what a block still holds. -/
def State.stepClose (t : Nat) (s : State) (n : Nat) : State :=
  let x := s.streamOf n
  if x.on && (!x.holding.isEmpty || s.held n t) then s.setStream n { x with holding := x.holding ++ [none] }
  else s.closeFrame n 4 false

/-! ### Routing (R232, R233) -/

/-- The streams that receive a record, bit n for S n (R232, Table 17; R147; R160), by the routes in force at its
stamp (R150). -/
def State.routes (s : State) (r : Rec) : Nat :=
  if r.src = 255 then 255
  else if r.src = 201 then s.parAt r.stamp Ix.routeInternal 0
  else if r.src = 202 then s.parAt r.stamp Ix.routeInternal 1
  else if 200 < r.src ∨ r.quiet then 0
  else
    let p (ix : Nat) : Nat := s.parAt r.stamp ix r.src
    match r.typ with
    | 1 => if bit r.spec 19 then p Ix.routeFc else p Ix.routeEdge
    | 2 => if r.spec / 256 % 4 = 2 then p Ix.routeDsample else p Ix.routeSample
    | 4 =>
      if r.src < 192 then
        p Ix.routeEdge ||| p Ix.routeFc ||| p Ix.routeSample ||| p Ix.routeDsample ||| p Ix.routeStatus
      else p Ix.routeEdge
    | 7 => p Ix.routeStatus
    | 8 => p Ix.routeSample
    | _ => 0

/-- A stream takes a record that its routing selects: UNSETTLED samples are dropped on request (R233). -/
def State.take (r : Rec) (s : State) (n : Nat) : State :=
  if (s.streamOf n).on && decide (r.typ = 2) && decide (r.spec / 256 % 4 ≠ 2) && bit r.spec 19 &&
      decide (s.parAt r.stamp Ix.streamUnsettled n = 1) then
    s.cntW (nth Ix.streamUnsettledDropped 8 n) 0 1
  else s.feed n r

/-- A record reaches the streams of a mask, lowest first. -/
def State.deliver (s : State) (mask : Nat) (r : Rec) : State := (setBits mask 8).foldl (State.take r) s

/-! ### Enable and disable on the line of stamps (R231, R246) -/

/-- A frame at level 1 to 9 that is stored raw is counted (R267). -/
def State.countRaw (n : Nat) (s : State) (f : Frame) : State :=
  if f.level ≠ 0 ∧ !f.comp then s.cntW (nth Ix.berylRawFrames 8 n) 0 1 else s

/-- The frames that report a loss are made and wait for room: gap frames, or the overflow frame of a stop (R228, R243, R244). -/
def State.reportLoss (s : State) (n : Nat) (l : Loss) (mark : Option Nat) : State :=
  let fs := s.gapFrames n l mark
  let x := s.streamOf n
  let s1 := fs.foldl (State.countRaw n) (s.setStream n { x with owed := x.owed ++ fs.map (fun f => (mark.isNone, f)) })
  match cutRule l mark with
  | some rule => s1.setPar Ix.streamLastClose n rule
  | none => s1

/-- The loss interval of the present run closes and is reported (R243, R244). -/
def State.settleLoss (s : State) (n : Nat) : State :=
  let x := s.streamOf n
  match x.loss with
  | some l => (s.setStream n { x with loss := none, losses := l :: x.losses, overflow := none }).reportLoss n l x.overflow
  | none => s

/-- Frames in Beryl of runs that are over. -/
def StreamSt.oldFrames (x : StreamSt) : Nat := (x.runs.map EndedRun.left).sum

/-- The run that ends with an enable or a restart: what it leaves in Beryl, and its report, come before the new run's frames. -/
def StreamSt.endRun (x : StreamSt) : StreamSt :=
  { x with
    runs := x.runs ++ [⟨x.beryl.length - x.oldFrames, x.loss, x.overflow⟩], loss := none, overflow := none
    losses := x.loss.toList ++ x.losses }

/-- An enable, or a restart, begins at `e`: what is latched, and the numbering (R231, R246, R255). -/
def State.streamBegin (s : State) (n e : Nat) (restart : Bool) : State :=
  let x := (s.streamOf n).endRun
  let x1 := { x with on := true, stopped := false, open_ := none, holding := [], early := []
                     chip := s.parAt e Ix.idChipNum 0, level := s.parAt e Ix.streamBerylLevel n }
  let first := (s.streamOf n).early
  if restart then first.foldl (State.appendRec n) (s.setStream n x1)
  else
    let q := s.parAt e (nth Ix.streamSeqStart 8 n) 0
    let s1 := first.foldl (State.appendRec n) (s.setStream n { x1 with losses := [], hist := [], histPos := 0, histGone := [] })
    ((s1.setPar (nth Ix.streamSeqNext 8 n) 0 q).setPar (nth Ix.histOldestSeq 8 n) 0 0).setPar (nth Ix.histNewestSeq 8 n) 0 0

/-- The stream's disable on the line of stamps: rule 5 of R228; records held behind a block go out without it, since
the stream no longer reads ENABLED (R254). -/
def State.streamEnd (s : State) (n : Nat) : State :=
  let x := s.streamOf n
  let s1 := x.holding.foldl (State.feedHeld n) (s.setStream n { x with holding := [] })
  let s2 := s1.closeFrame n 5 false
  s2.setStream n { s2.streamOf n with on := false, stopped := false }

/-! ### The commands -/

/-- Something stamped below `t` has still to reach the assembler of a stream. -/
def State.stillToCome (s : State) (n t : Nat) : Bool :=
  s.cw.intake.any (fun i => decide (i.stamp < t)) || s.cw.store.any (fun i => decide (i.stamp < t))
    || (s.streamOf n).holding.any (fun h => h.any (fun r => decide (r.stamp < t))) || s.held n (t - 1)

/-- FRAME_AGE_CLOSE: Garnet time passes base + 1 ms + H + 128 ns of an open frame (R228 rule 2). -/
def execFrameAgeClose (t : Nat) (n : Fin 8) (s : State) : Host.Outcome State Fault Refusal :=
  let s1 := s.enter t
  match (s1.streamOf n).open_ with
  | some f =>
    let lim := f.base + 256000000
    if s1.merging ∧ lim + s1.horizon + 32768 < s1.now ∧ !s1.stillToCome n lim then .next (s1.closeFrame n 2 false) else .next s1
  | none => .next s1

/-- 1 is written to STREAM.FLUSH: the open frame closes with FLUSHED, or the write finds none (R228). -/
def State.streamFlush (s : State) (n : Nat) : State :=
  match (s.streamOf n).open_ with
  | some _ => (s.cnt Ix.streamFlushes n).closeFrame n 6 true
  | none => s.cnt Ix.streamFlushEmpty n

/-- STREAM_FLUSH: a write of 1 to STREAM.FLUSH (R228). -/
def execStreamFlush (t : Nat) (n : Fin 8) (s : State) : Host.Outcome State Fault Refusal := .next ((s.enter t).streamFlush n)

/-- Engines that hold a frame (BERYL.ENGINES_BUSY). -/
def State.enginesBusy (s : State) : Nat :=
  (s.stream.map (fun x => (x.2.beryl.filter (fun b => match b.at_ with | .engine _ => true | _ => false)).length)).sum

/-- The stream whose waiting frame closed earliest, the lower number first among equals (R270). -/
def State.nextQueued (s : State) : Option Nat :=
  let heads := s.stream.filterMap (fun x => (x.2.beryl.find? (fun b => decide (b.at_ = .queued))).map (fun b => (x.1, b.closed)))
  (heads.find? (fun h => heads.all (fun g => decide (h.2 < g.2) || (decide (h.2 = g.2) && decide (h.1 ≤ g.1))))).map Prod.fst

/-- Change the first frame of a list that satisfies `p`. -/
def updateFirst {α : Type} (p : α → Bool) (f : α → α) : List α → List α
  | [] => []
  | a :: t => if p a then f a :: t else a :: updateFirst p f t

/-- A frame of Beryl's input queue is read, codewords in error among its payload's: the payload as read (R284, R289 code 2). -/
def State.queueRead (s : State) (b : BerylFrame) (errs : List CodeErr) : State × BerylFrame :=
  let bytes := bytesOfWords b.frame.payload
  let r := readBytes bytes errs
  let s1 := r.2.foldl (fun u e => u.sramBad 2 e.cw) (errs.foldl (State.countSramFixes bytes) s)
  (s1, { b with taken := wordsOfBytes r.1, hurt := !r.2.isEmpty })

/-- BERYL_ENGINE_TAKE: a free engine takes the waiting frame with the earliest close (R270); `errs` are codewords of the input
queue in error. -/
def execBerylEngineTake (t : Nat) (engine : Fin 16) (errs : List CodeErr) (s : State) : Host.Outcome State Fault Refusal :=
  let s1 := s.enter t
  let busy := s1.stream.any (fun x => x.2.beryl.any (fun b => decide (b.at_ = .engine engine)))
  if busy ∨ !s1.runs 2 then .next s1
  else
    match s1.nextQueued with
    | some n =>
      let waits (b : BerylFrame) : Bool := decide (b.at_ = .queued)
      match (s1.streamOf n).beryl.find? waits with
      | some b =>
        let r := s1.queueRead b errs
        let x := r.1.streamOf n
        .next (r.1.setStream n { x with beryl := updateFirst waits (fun _ => { r.2 with at_ := .engine engine }) x.beryl })
      | none => .next s1
    | none => .next s1

/-- The frame an engine hands back: the stored form of the payload it has read (R265 to R267). -/
def BerylFrame.compressed (b : BerylFrame) : Frame :=
  let st := storedForm b.frame.level b.taken
  { b.frame with comp := st.1, stored := st.2 }

/-- BERYL_COMPLETE: an engine finishes its frame, which waits for those that closed before it (R266, R267, R270). -/
def execBerylComplete (t : Nat) (engine : Fin 16) (s : State) : Host.Outcome State Fault Refusal :=
  let s1 := s.enter t
  let mine (b : BerylFrame) : Bool := decide (b.at_ = .engine engine) && s1.runs 2
  match s1.stream.find? (fun x => x.2.beryl.any mine) with
  | some (n, x) =>
    let done (b : BerylFrame) : BerylFrame := { b with frame := b.compressed, at_ := .ready }
    let raw := match (x.beryl.find? mine) with
      | some b => !b.compressed.comp
      | none => false
    let s2 := s1.setStream n { x with beryl := updateFirst mine done x.beryl }
    .next (if raw then s2.cntW (nth Ix.berylRawFrames 8 n) 0 1 else s2)
  | none => .next s1

end Sys2Proof.Machine
end

