-- ==== Sys2Proof/Machine/Span.lean ====
section
/-! DEFINITION. The span buffer (10_span_caisson_history.md R238 to R246, R255; 12 R285, R289, R290): head abutment, span,
tail abutment, history, regions.

Readings and choices here: DESIGN CHOICE log 34, log 80; DEDUCED log 79. -/
namespace Sys2Proof.Machine

/-! ### Regions (R242) -/

/-- A region: its kind (0 span, 1 history, 2 Caisson, 3 host region), first address and size in bytes. -/
structure Region where
  kind : Nat
  base : Nat
  size : Nat
  deriving DecidableEq, Repr

def State.spanRegion (s : State) (n : Nat) : Region := ⟨0, s.par Ix.spanBase n * 65536, s.par Ix.spanSize n * 65536⟩
def State.histRegion (s : State) (n : Nat) : Region := ⟨1, s.par Ix.histBase n * 65536, s.par Ix.histSize n * 65536⟩
def State.hostRegion (s : State) : Region := ⟨3, s.par Ix.histHostBase 0 * 65536, s.par Ix.histHostSize 0 * 65536⟩

/-- 65 × 2^d bytes, rounded up to 64 KiB (R248). -/
def State.caiRegion (s : State) (p : Nat) : Region :=
  ⟨2, s.par Ix.caiBase p * 65536, ceilMul (65 * 2 ^ s.par Ix.caiDepthLog2 p) 65536⟩

/-- The regions of the enabled owners, and the host region while a fetch runs. -/
def State.ownedRegions (s : State) (exceptStream exceptPier : Option Nat) : List Region :=
  let streams := (List.range 8).filter (fun n => decide (s.par Ix.streamEnable n = 1) && decide (exceptStream ≠ some n))
  let piers := (List.range 24).filter (fun p => decide (s.par Ix.caiEnable p = 1) && decide (exceptPier ≠ some p))
  streams.flatMap (fun n => [s.spanRegion n, s.histRegion n]) ++ piers.map s.caiRegion
    ++ (if s.par Ix.fetchState 0 = 1 then [s.hostRegion] else [])

/-- The first failed rule of Table 1 for a region, with the kind it overlaps (R242). -/
def State.regionFails (s : State) (r : Region) (others : List Region) (small : Bool) : Option (Nat × Nat) :=
  let hit := others.find? (fun o => decide (0 < o.size) && decide (o.base < r.base + r.size) && decide (r.base < o.base + o.size))
  if 0 < r.size ∧ !s.inDram r.base (r.base + r.size) then some (1, 0xFF)
  else
    match hit with
    | some o => if 0 < r.size then some (2, o.kind) else if small then some (3, 0xFF) else none
    | none => if small then some (3, 0xFF) else none

/-- A failed region check is counted and reported (R242). -/
def State.regionRefused (s : State) (kind owner : Nat) (f : Nat × Nat) : State :=
  (s.cnt Ix.spanRegionRefused 0).setPar Ix.spanRegionLast 0 (f.1 * 2 ^ 24 + kind * 2 ^ 16 + owner * 256 + f.2)

/-- The verdict on a region: refused with its cause, or passed. -/
def State.regionVerdict (s : State) (kind owner : Nat) (fails : Option (Nat × Nat)) : State × Bool :=
  match fails with
  | some f => (s.regionRefused kind owner f, false)
  | none => (s, true)

/-- The check of a stream's two regions: the state with the failure reported, and whether it passed. -/
def State.streamRegions (s : State) (n : Nat) : State × Bool :=
  let others := s.ownedRegions (some n) none
  let sp := s.spanRegion n
  let hi := s.histRegion n
  let spSmall := decide (1 ≤ s.par Ix.spanSize n) && decide (s.par Ix.spanSize n ≤ 15)
  let hiSmall := bit (s.par Ix.streamOutlets n) 2 && decide (s.par Ix.histSize n < 16)
  let first := s.regionVerdict 0 n (s.regionFails sp others spSmall)
  if first.2 then s.regionVerdict 1 n (s.regionFails hi (sp :: others) hiSmall) else first

/-- The check of a Caisson's region. -/
def State.caiRegions (s : State) (p : Nat) : State × Bool :=
  s.regionVerdict 2 p (s.regionFails (s.caiRegion p) (s.ownedRegions none (some p)) false)

/-- The check of the host region at the start of a fetch. -/
def State.hostRegions (s : State) : State × Bool :=
  s.regionVerdict 3 0 (s.regionFails s.hostRegion (s.ownedRegions none none) (decide (s.par Ix.histHostSize 0 = 0)))

/-! ### Sizes -/

/-- Bytes of each abutment (10, The span buffer). -/
def abutment : Nat := 524288

def bytesIn (fs : List Frame) : Nat := (fs.map Frame.bytes).sum

/-- Bytes a frame takes in the span: line 0 holds the header twice, the stored words follow in whole lines (R285). -/
def Frame.spanBytes (f : Frame) : Nat := 64 + ceilMul (4 * f.stored.length) 64

/-- The bytes as the span stores them: the header twice, the stored words padded with zeros to the end of a line (R285). -/
def Frame.spanImage (f : Frame) : List Byte :=
  let b := bytesOfWords (f.header ++ f.header ++ f.stored)
  b ++ List.replicate (f.spanBytes - b.length) 0

/-- The stretches of a region that `n` bytes from `addr` on take, going on at its base past its end. -/
def ringPieces (addr base size n : Nat) : List (Nat × Nat) :=
  let first := min n (base + size - addr)
  (addr, first) :: (if first < n then [(base, n - first)] else [])

/-- A frame's image is written into the span from `addr` on. The lines follow those of the frame before and go on at the region's
base past its end (DESIGN CHOICE, log 80). -/
def State.spanWrite (s : State) (n : Nat) (f : Frame) (addr base size : Nat) : State :=
  let image := f.spanImage
  (ringPieces addr base size image.length).zipIdx.foldl (fun u x =>
    u.writeMem x.1.1 ((image.drop (if x.2 = 0 then 0 else base + size - addr)).take x.1.2) 4 n) s

/-- Bytes in use of a span. -/
def spanUse (l : List SpanItem) : Nat :=
  (l.map (fun i => match i with
    | .frame f _ _ _ => f.spanBytes
    | .hole .. => 0)).sum

/-- SPAN.FILL and its mark follow the span. -/
def State.spanReport (s : State) (n : Nat) : State :=
  let k := spanUse (s.streamOf n).span / 1024
  (s.setPar Ix.spanFill n k).mark Ix.spanFillHwm n k

/-! ### History (R255) -/

/-- A numbered frame is written into the history region over the oldest frames it covers (R255). -/
def State.histWrite (s : State) (n : Nat) (f : Frame) : State :=
  let x := s.streamOf n
  let r := s.histRegion n
  let wrap := decide (r.size < x.histPos + f.bytes)
  let pos := if wrap then 0 else x.histPos
  let s0 := if wrap then s.writeMem (r.base + x.histPos) (List.replicate (r.size - x.histPos) 0) 8 n else s
  let covered (h : HistFrame) : Bool :=
    (decide (h.offset < pos + f.bytes) && decide (pos < h.offset + h.bytes)) || (wrap && decide (x.histPos < h.offset + h.bytes))
  let keep := x.hist.dropWhile covered
  let left := if keep.any covered then [] else keep
  let gone := (x.hist.take (x.hist.length - left.length)).foldl (fun (l : Tbl Nat) h =>
    if (tfind l h.epoch).isSome then l else tset l h.epoch h.base) x.histGone
  let hist := left ++ [⟨pos, f.seq, f.bytes, f.epoch, f.base⟩]
  let s1 := s0.writeMem (r.base + pos) (bytesOfWords f.words) 8 n
  let s2 := s1.setStream n { x with hist := hist, histGone := gone, histPos := pos + f.bytes }
  (s2.setPar (nth Ix.histOldestSeq 8 n) 0 ((hist.head?.map HistFrame.seq).getD f.seq)).setPar (nth Ix.histNewestSeq 8 n) 0 f.seq

/-! ### Damaged frames (R289, R290) -/

/-- A substitute is counted, and as a frame stored raw where it is one (R267, R290). -/
def State.countSubstitute (n : Nat) (s : State) (f : Frame) : State := (s.cnt Ix.memSubstituteFrames 0).countRaw n f

/-- The substitute of one frame: its sequence number, stream and chip, the GAP records of [base, last stamp + 1) (R290 code 3). -/
def State.substitute (s : State) (n : Nat) (f : Frame) : Frame :=
  let l := f.lost none
  { s.gapFrame n l (gapChain l) with seq := f.seq, quality := f.quality, epoch := f.epoch }

/-- Codewords of SRAM in error while a frame is read from Beryl's queue or an abutment: the payload is delivered as
read (code 2), a lost header makes a substitute (code 3). -/
def State.sramFrame (s : State) (n : Nat) (f : Frame) (errs : List CodeErr) : State × Frame :=
  let bytes := bytesOfWords f.words
  let s1 := errs.foldl (State.countSramFixes bytes) s
  let r := readBytes bytes errs
  if r.2.isEmpty then (s1, f.reread (wordsOfBytes r.1))
  else if r.2.any (fun e => decide (e.cw < 2)) then
    let s2 := r.2.foldl (fun u e => u.sramBad 3 e.cw) s1
    let g := s2.substitute n f
    (s2.countSubstitute n g, g)
  else
    let s2 := (r.2.foldl (fun u e => u.sramBad 2 e.cw) s1).setPar Ix.memUeLastSeq 0 f.seq
    (s2, f.reread (wordsOfBytes r.1))

/-! ### The head abutment (R229, R241, R243) -/

/-- The head accepts a frame: it is numbered, counted and, on request, written into the history (R229, R255). -/
def State.accept (n : Nat) (gap : Bool) (errs : List CodeErr) (s : State) (f : Frame) : State :=
  let q := s.par (nth Ix.streamSeqNext 8 n) 0
  let f1 := { f with seq := q }
  let s1 := (s.setPar (nth Ix.streamSeqNext 8 n) 0 ((q + 1) % 2 ^ 64)).cntW (nth Ix.streamFrames 8 n) 0 1
  let s2 := if gap then s1.cnt Ix.spanGapFrames n else s1
  let r := s2.sramFrame n f1 errs
  let x := r.1.streamOf n
  let s3 := r.1.setStream n { x with head := x.head ++ [r.2] }
  if bit (s3.par Ix.streamOutlets n) 2 then s3.histWrite n r.2 else s3

/-- Room left in the head abutment. -/
def State.headRoom (s : State) (n : Nat) : Nat := abutment - bytesIn (s.streamOf n).head

/-- Gap and overflow frames already made are accepted as soon as there is room (R244). -/
def State.acceptOwed (s : State) (n : Nat) : State :=
  let x := s.streamOf n
  if x.owed.isEmpty ∨ s.headRoom n < bytesIn (x.owed.map Prod.snd) then s
  else
    let s1 := s.setStream n { x with owed := [] }
    let s2 := x.owed.foldl (fun u f => u.accept n f.1 [] f.2) s1
    if s2.par Ix.spanState n = 1 ∧ x.loss.isNone then s2.setPar Ix.spanState n 0 else s2

/-- The gap frames that go before the next frame: those of a loss interval, unless the stream has stopped, whose overflow frame comes
last (R243, R244). -/
def State.gapsFirst (s : State) (n : Nat) (l : Option Loss) (mark : Option Nat) : List Frame :=
  match l, mark with
  | some l, none => s.gapFrames n l none
  | _, _ => []

/-- The head has room for the frames owed, some gap frames and a frame. -/
def State.headTakes (s : State) (n : Nat) (gaps : List Frame) (f : Frame) : Bool :=
  decide (bytesIn ((s.streamOf n).owed.map Prod.snd) + bytesIn gaps + f.bytes ≤ s.headRoom n)

/-- The head accepts a frame after the frames owed; a damaged payload is reported by the number it takes (R289 code 2). -/
def State.acceptNext (s : State) (n : Nat) (b : BerylFrame) (errs : List CodeErr) : State :=
  let s1 := s.acceptOwed n
  let s2 := if b.hurt then s1.setPar Ix.memUeLastSeq 0 (s1.par (nth Ix.streamSeqNext 8 n) 0) else s1
  s2.accept n false errs b.frame

/-- A frame of a run that is over meets the head abutment. -/
def State.meetOld (s : State) (n : Nat) (b : BerylFrame) (errs : List CodeErr) (r : EndedRun) (rs : List EndedRun) : State :=
  let r1 := { r with left := r.left - 1 }
  let gaps := s.gapsFirst n r.loss r.mark
  if !s.headTakes n gaps b.frame then s.refuseOld n b.frame r1 rs
  else
    match r.loss, r.mark with
    | some l, none =>
      ((s.setStream n { s.streamOf n with runs := { r1 with loss := none } :: rs }).reportLoss n l none).acceptNext n b errs
    | _, _ => (s.setStream n { s.streamOf n with runs := r1 :: rs }).acceptNext n b errs

/-- A frame that leaves Beryl meets the head abutment (R241, R243, R244). -/
def State.meetHead (s : State) (n : Nat) (b : BerylFrame) (errs : List CodeErr) : State :=
  let x := s.streamOf n
  match x.runs with
  | r :: rs => s.meetOld n b errs r rs
  | [] =>
    if !s.headTakes n (s.gapsFirst n x.loss x.overflow) b.frame then s.refuseFrame n b.frame
    else (if x.overflow.isNone then s.settleLoss n else s).acceptNext n b errs

/-! ### The tail abutment (R239, R240) -/

/-- A session subscribes to the stream (R382); without one the CDP outlet takes every frame at once. -/
def State.cdpSubscribed (s : State) (n : Nat) : Bool :=
  s.net.subs.any (fun (x : Nat × Sub) => decide (x.2.kind = 2) && decide (x.2.stream = n))

/-- Frames that every selected outlet has taken leave the tail; with no outlet selected they are discarded (R234,
R240). -/
def State.drainTail (s : State) (n : Nat) : State :=
  let x := s.streamOf n
  let o := s.par Ix.streamOutlets n
  let k0 := x.tail.length
  let k1 := if bit o 0 then min k0 x.ringTook else k0
  let k := if bit o 1 && s.cdpSubscribed n then min k1 x.cdpTook else k1
  s.setStream n { x with tail := x.tail.drop k, ringTook := x.ringTook - k, cdpTook := x.cdpTook - k }

/-- A frame enters the tail abutment. -/
def State.intoTail (n : Nat) (s : State) (f : Frame) : State :=
  let x := s.streamOf n
  (s.setStream n { x with tail := x.tail ++ [f] }).drainTail n

/-- Room left in the tail abutment. -/
def State.tailRoom (s : State) (n : Nat) : Nat := abutment - bytesIn (s.streamOf n).tail

/-- The frame at the head abutment's front moves to the tail, or into the span (R239). -/
def State.moveHead (s : State) (n : Nat) (errs : List CodeErr) : State :=
  let x := s.streamOf n
  match x.head with
  | [] => s
  | f :: rest =>
    if x.span.isEmpty ∧ f.bytes ≤ s.tailRoom n then
      let r := (s.setStream n { x with head := rest }).sramFrame n f errs
      r.1.intoTail n r.2
    else if s.dramRuns ∧ spanUse x.span + f.spanBytes ≤ s.par Ix.spanSize n * 65536 then
      let r := (s.setStream n { x with head := rest }).sramFrame n f errs
      let y := r.1.streamOf n
      let g := r.1.spanRegion n
      let addr := g.base + y.spanPos % g.size
      ((r.1.setStream n { y with span := y.span ++ [.frame r.2 addr g.base g.size]
                                 spanPos := (y.spanPos + r.2.spanBytes) % g.size }).spanWrite n r.2 addr g.base g.size).spanReport n
    else s

/-- The substitute of the next frame of a discarded stretch: the first holds the GAP records of [b0, b1) and every record lost, each
later one a GAP record of one tick at b0 (R290 code 6). -/
def State.holeFrame (s : State) (n : Nat) (q : Missing) (lost : Nat) (first : Bool) (last : Delivered) (b1 : Nat) : Frame :=
  let l : Loss := ⟨last.base, if first then max b1 (last.base + 1) else last.base + 1, if first then lost else 0, q.chip, q.level, none⟩
  { s.gapFrame n l (gapChain l) with seq := q.seq, quality := last.quality, epoch := last.epoch }

/-- Frames of a span: what their substitutes carry, and their records. -/
def SpanItem.missing : SpanItem → List Missing × Nat
  | .frame f _ _ _ => ([⟨f.seq, f.chip, f.level⟩], f.records)
  | .hole qs lost first _ => (qs, if first then lost else 0)

/-- What a read of a stored frame meets: its bytes, and its codewords that cannot be corrected as byte offsets in the image. -/
def State.spanRead (s : State) (addr base size len : Nat) : List Byte × List Nat :=
  let ps := ringPieces addr base size len
  (ps.flatMap (fun p => s.readMem p.1 p.2),
   ps.zipIdx.flatMap (fun p => (s.badAt p.1.1 p.1.2).map (fun c => c - p.1.1 + (if p.2 = 0 then 0 else base + size - addr))))

/-- The codewords of a stored frame are read: codes 4, 5 and 6 of R289 by where they lie in the image. -/
def State.countSpan (s : State) (n : Nat) (addr base size len : Nat) (lostBoth : Bool) : State :=
  (ringPieces addr base size len).zipIdx.foldl (fun u p =>
    (s.badReads p.1.1 p.1.2).foldl (fun v r =>
      v.countRead (if p.2 = 0 ∧ r.1 < addr + 64 then (if lostBoth then 6 else 5) else 4) n r) u) s

/-- A frame leaves the span's front; a header lost in both copies discards everything up to the write pointer (R289, R290). -/
def State.leaveSpan (s0 : State) (n : Nat) (f : Frame) (addr base size : Nat) : State :=
  let x := s0.streamOf n
  let r := s0.spanRead addr base size f.spanBytes
  let badA := r.2.any (fun c => decide (c < 32))
  let badB := r.2.any (fun c => decide (32 ≤ c) && decide (c < 64))
  let s := s0.countSpan n addr base size f.spanBytes (badA && badB)
  if badA && badB then
    let all_ := x.span.map SpanItem.missing
    let last : Delivered := x.spanBase.getD ⟨Config.freeNat s.fresh, Config.freeNat (s.fresh + 1), Config.freeNat (s.fresh + 2)⟩
    let s1 := if x.spanBase.isSome then s else s.draw.draw.draw
    (s1.setStream n { x with span := [.hole (all_.flatMap Prod.fst) (all_.map Prod.snd).sum true last] }).spanReport n
  else
    let header := if badA then (r.1.drop 32).take 32 else r.1.take 32
    let f1 := f.reread (wordsOfBytes header ++ wordsOfBytes ((r.1.drop 64).take (4 * f.stored.length)))
    let s1 := if r.2.any (fun c => decide (64 ≤ c)) then s.setPar Ix.memUeLastSeq 0 f.seq else s
    let s2 := (s1.setStream n { x with span := x.span.drop 1, spanBase := some ⟨f.base, f.quality, f.epoch⟩ }).spanReport n
    s2.intoTail n f1

/-- The item at the span's front moves to the tail (R239); a discarded stretch one substitute at a time, once the base time of the
frame accepted after it is known (R290). -/
def State.moveSpan (s : State) (n : Nat) : State :=
  let x := s.streamOf n
  match x.span with
  | .hole (q :: qs) lost first last :: .frame g a b z :: rest =>
    let f := s.holeFrame n q lost first last g.base
    if s.tailRoom n < f.bytes then s
    else
      let left := if qs.isEmpty then .frame g a b z :: rest else .hole qs lost false last :: .frame g a b z :: rest
      ((s.setStream n { x with span := left }).countSubstitute n f).intoTail n f
  | .frame f addr base size :: _ => if s.tailRoom n < f.bytes ∨ !s.dramRuns then s else s.leaveSpan n f addr base size
  | _ => s

/-- The last frame of a run that is over has left Beryl: its report is made, and accepted once there is room (R243, R244). -/
def State.endReport (s : State) (n : Nat) (loss : Option Loss) (mark : Option Nat) : State :=
  match loss with
  | some l => (s.reportLoss n l mark).acceptOwed n
  | none => s.acceptOwed n

/-! ### The commands -/

/-- FRAME_TO_HEAD: the frame of a stream that closed earliest leaves Beryl and meets the head abutment; where none is
ready, a gap or overflow frame that is owed may enter (R241 to R245). Nothing moves while Jasper is held (R401), nor a frame that is
to be written into a history while the DRAM is not READY. `errs` are SRAM codewords in error. -/
def execFrameToHead (t : Nat) (n : Fin 8) (errs : List CodeErr) (s : State) : Host.Outcome State Fault Refusal :=
  let s1 := s.enter t
  let x := s1.streamOf n
  if !s1.runs 2 ∨ (bit (s1.par Ix.streamOutlets n) 2 ∧ !s1.dramRuns) then .next s1
  else match x.runs, x.beryl with
  | ⟨0, loss, mark⟩ :: rs, _ => .next ((s1.setStream n { x with runs := rs }).endReport n loss mark)
  | _, b :: rest =>
    if b.at_ = .ready then
      let s2 := (s1.setStream n { x with beryl := rest }).cntW (nth Ix.berylOutWords 8 n) 0 b.frame.stored.length
      .next (s2.meetHead n b errs)
    else .next (s1.acceptOwed n)
  | _, [] =>
    let s2 := if x.overflow.isSome || !x.on then s1.settleLoss n else s1
    .next (s2.acceptOwed n)

/-- SPAN_MOVE: a frame of a stream moves from the head abutment, or out of the span (R239); `errs` are codewords in error in the
abutment, or errors that have come up in the span's stored codewords. Nothing moves while Jasper is held (R401). -/
def execSpanMove (t : Nat) (n : Fin 8) (fromSpan : Bool) (errs : List CodeErr) (s : State) :
    Host.Outcome State Fault Refusal :=
  let s1 := s.enter t
  if !s1.runs 2 then .next s1
  else .next (if fromSpan then (s1.strike errs).moveSpan n else s1.moveHead n errs)

end Sys2Proof.Machine
end

