-- ==== Sys2Proof/Machine/Caisson.lean ====
section
/-! DEFINITION. Caisson snapshots (10_span_caisson_history.md R247 to R254; 09 R224).

Readings and choices here: DESIGN CHOICE log 80. -/
namespace Sys2Proof.Machine

def State.caiOf (s : State) (p : Nat) : CaiSt := tget {} s.cai p
def State.setCai (s : State) (p : Nat) (c : CaiSt) : State := { s with cai := tset s.cai p c }

/-- T_c of a pier's Caisson in ticks (R247). -/
def State.caiPeriod (s : State) (p : Nat) : Nat := 2 ^ s.par Ix.caiRate p * 250000

/-- A lane records now: Caisson not OFF, pier in MEASURE, the lane enabled in an analog role (R247). -/
def State.caiRecords (s : State) (lane : Nat) : Bool :=
  let p := lane / 8
  decide (s.par Ix.caiState p ≠ 0) && decide (s.par Ix.pwrPierState p = 2) && s.laneOn lane && s.analog lane

/-- A lane recorded at Garnet time `t`, in its present recording or in one before. -/
def CaiLane.recorded (l : CaiLane) (t : Nat) : Bool :=
  (decide (l.start ≤ t) && (match l.stop with
    | some u => decide (t < u)
    | none => true))
  || l.before.any (fun x => decide (x.1 ≤ t) && decide (t < x.2))

/-- The stretches that a lane has recorded, as its recording restarts at `t`. -/
def CaiLane.spans (l : CaiLane) (t : Nat) : List (Nat × Nat) := (l.start, l.stop.getD t) :: l.before

/-- A lane's recording restarts at `t`, or stops when the lane no longer records (R248, Table 3). -/
def State.caiTouch (t : Nat) (s : State) (lane : Nat) : State :=
  let p := lane / 8
  let c := s.caiOf p
  if s.caiRecords lane then
    let old := ((tfind c.lanes (lane % 8)).map (fun l => l.spans t)).getD []
    let s1 := s.setCai p { c with lanes := tset c.lanes (lane % 8) ⟨t, none, [], 0, old⟩ }
    if s1.par Ix.caiState p = 2 then s1.setPar Ix.caiState p 1 else s1
  else
    match tfind c.lanes (lane % 8) with
    | some l => if l.stop.isNone then s.setCai p { c with lanes := tset c.lanes (lane % 8) { l with stop := some t } } else s
    | none => s

/-- The recordings of a pier restart at `t`. -/
def State.caiTouchPier (t : Nat) (s : State) (p : Nat) : State := (lanesOf p).foldl (State.caiTouch t) s

/-- Every recording lane has the full recorded depth (Table 3). -/
def State.caiFull (s : State) (p : Nat) : Bool :=
  (lanesOf p).all (fun l => !s.caiRecords l ||
    (match tfind (s.caiOf p).lanes (l % 8) with
      | some r => decide (2 ^ s.par Ix.caiDepthLog2 p ≤ r.depth)
      | none => false))

/-- CAI.ENABLE takes effect at `t` (Table 3); the region check is done before. -/
def State.caiEnableEffect (s : State) (p : Nat) (on : Bool) (t : Nat) : State :=
  let st := s.par Ix.caiState p
  if on then
    if st = 0 then ((s.setCai p {}).setPar Ix.caiState p 1).caiTouchPier t p
    else s
  else if st = 3 then s.setPar Ix.caiState p 4
  else if st = 1 ∨ st = 2 then (s.setPar Ix.caiState p 0).caiTouchPier t p else s

/-- A load empties a pier's rings; a pending block is discarded (R248, Table 3). -/
def State.caiLoad (t : Nat) (s : State) (p : Nat) : State :=
  if s.par Ix.caiState p = 0 then s
  else
    let s1 := match (s.caiOf p).block with
      | some b => if b.framed then s else s.cnt Ix.caiDiscarded p
      | none => s
    ((s1.setCai p {}).setPar Ix.caiState p 1).caiTouchPier t p

/-- The MISSING word of a format (R253). -/
def missingWord (format : Nat) : Nat := if format = 0 then 0x80000000 else 0xFFC00000

/-- The instants of a block's window run from i0 − PRE_ACT × T_c to below i0 + POST × T_c. -/
def Block.covers (b : Block) (i : Nat) : Bool :=
  decide (b.i0 ≤ i + b.pre * (2 ^ b.rate * 250000)) && decide (i < b.i0 + b.post * (2 ^ b.rate * 250000))

/-- The window's words that a ring holds. -/
def Block.take (b : Block) (lanes : Tbl CaiLane) : List (Nat × Nat × Nat) :=
  lanes.flatMap (fun l => if bit b.lanes l.1 then
    (l.2.words.filter (fun w => b.covers w.1)).map (fun w => (l.1, w.1, w.2)) else [])

/-! ### Requests (R250, R251) -/

/-- Set bits of a mask of eight. -/
def popcount8 (m : Nat) : Nat := (setBits m 8).length

/-- B of R251: the block's total words. -/
def blockWords (nLanes samples : Nat) : Nat := 10 + nLanes * (4 * ((samples + 1019) / 1020) + samples)

/-- A SNAPSHOT request of a profile: the state, and what its MARK records say, 0 neither flag, 1 SNAP_REQUESTED, 2
SNAP_DECLINED_BUSY (R250). -/
def State.snapshotRequest (s : State) (profile mask seq num trig : Nat) : State × Nat :=
  let p := s.par Ix.caiProfPier profile
  let st := s.par Ix.caiState p
  let pre := s.par Ix.caiProfPre profile
  let post := s.par Ix.caiProfPost profile
  let lanesReq := s.par Ix.caiProfLanes profile % 256
  let c := s.caiOf p
  let lset := ((setBits lanesReq 8).filter (fun i => match tfind c.lanes i with
    | some l => l.recorded trig
    | none => false)).map (fun i => 2 ^ i)
  let period := s.caiPeriod p
  let cmax := 25600000 + 2048 * popcount8 lanesReq * (pre + post)
  if 23 < p ∨ st = 0 ∨ st = 4 ∨ lset.isEmpty ∨ post = 0 ∨
      2 ^ s.par Ix.caiDepthLog2 p < pre + post + (cmax + (period - 1)) / period then
    (s.cnt Ix.caiDeclinedInvalid 0, 0)
  else if (match c.block with
      | some b => decide (trig < b.rearm)
      | none => false) then (s.cnt Ix.caiDeclinedBusy p, 2)
  else
    let lanes := lset.sum
    let i0 := ceilMul trig period
    let depths := (setBits lanes 8).map (fun i => match tfind c.lanes i with
      | some l => (l.words.filter (fun w => decide (w.1 < i0))).length
      | none => 0)
    let preAct := depths.foldl min pre
    let w := popcount8 lanes * (preAct + post)
    let place := i0 + post * period + (25600000 + 2048 * w)
    let rearm := place + 1081344 + 128 * blockWords (popcount8 lanes) (preAct + post)
    let b : Block :=
      { profile := profile, mask := mask, lanes := lanes, seq := seq, num := num, trig := trig, i0 := i0
        preReq := pre, pre := preAct, post := post, rate := s.par Ix.caiRate p, filter := s.par Ix.caiFilter p
        format := s.par Ix.caiFormat p, place := place, rearm := rearm, words := [], framed := false }
    let s1 := s.setCai p { c with block := some { b with words := b.take c.lanes } }
    let s2 := (s1.cnt Ix.caiBlocks p).setPar Ix.caiState p 3
    (if preAct < pre then s2.cnt Ix.caiShortPre p else s2, 1)

/-! ### Framing (R224, R252 to R254) -/

/-- Group-delay code of a filter and rate (R114 Table 3). -/
def gdOf (filter rate : Nat) : Nat := if filter = 0 then rate + 1 else rate + 33

/-- The block's words in order, lane by lane and index by index; a word that was not recorded is MISSING (R253). -/
def Block.sequence (b : Block) : List Nat :=
  (setBits b.lanes 8).flatMap (fun l => (List.range (b.pre + b.post)).map (fun j =>
    let i := b.i0 + j * (2 ^ b.rate * 250000) - b.pre * (2 ^ b.rate * 250000)
    match b.words.find? (fun w => decide (w.1 = l) && decide (w.2.1 = i)) with
    | some w => w.2.2
    | none => missingWord b.format))

/-- The descriptor record (Table 14). -/
def Block.descriptor (b : Block) (pier : Nat) : Rec :=
  ⟨b.place, 255, 6, b.profile % 16 * 2 ^ 14,
    [w32 b.num, w32 (pier * 2 ^ 24 + b.lanes % 256 * 2 ^ 16 + b.seq % 256 * 2 ^ 8 + b2n (decide (b.pre < b.preReq))),
     w32 b.trig, w32 (b.trig / 2 ^ 32),
     w32 (b.format % 4 * 2 ^ 22 + gdOf b.filter b.rate % 64 * 2 ^ 16 + b.rate % 256 * 2 ^ 8 + b.trig / 2 ^ 64 % 256),
     w32 b.preReq, w32 b.pre, w32 b.post], false⟩

/-- Segments of one lane from sample `from_` on: each holds the lesser of 1,020 and what remains (R224, Table 15). -/
def Block.segments (b : Block) (lane : Nat) : Nat → Nat → List Nat → List Rec
  | 0, _, _ => []
  | fuel + 1, from_, ws =>
    if ws.isEmpty then []
    else
      let here := ws.take 1020
      let rest := ws.drop 1020
      ⟨b.place, lane, 6, 2 ^ 18 + here.length * 2 ^ 8 + b2n rest.isEmpty * 2 ^ 7,
        w32 b.num :: w32 (ofI32 ((from_ : Int) - b.pre)) :: here.map w32, false⟩
        :: b.segments lane fuel (from_ + here.length) rest

/-- The records of a block whose words are `ws` in sequence (R224). -/
def Block.records (b : Block) (pier : Nat) (ws : List Nat) : List Rec :=
  let n := b.pre + b.post
  b.descriptor pier :: (setBits b.lanes 8).zipIdx.flatMap (fun l =>
    b.segments (8 * pier + l.1) (n + 1) 0 ((ws.drop (l.2 * n)).take n))

/-- Words of a codeword that could not be corrected become MISSING (R289 code 7). -/
def missWords (format : Nat) (ws : List Nat) (bad : List CodeErr) : List Nat :=
  ws.zipIdx.map (fun w => if bad.any (fun e => decide (e.cw = w.2 / 4)) then missingWord format else w.1)

/-- Read sample words with DRAM errors: corrections and losses counted, the words delivered. -/
def State.readWords (s : State) (format : Nat) (ws : List Nat) (errs : List CodeErr) : State × List Nat :=
  let bytes := bytesOfWords (ws.map w32)
  let s1 := errs.foldl (State.countFixes bytes) s
  let r := readBytes bytes errs
  let s2 := r.2.foldl (fun u e => u.dramBad e.addr 7 0xFF) s1
  (s2, missWords format ((wordsOfBytes r.1).map BitVec.toNat) r.2)

/-- A destination frames its copy; where the stream reads ENABLED and its first record is still to come, the copy goes before that
(R254; DESIGN CHOICE, log 80). -/
def State.copyBlock (s : State) (n : Nat) (recs : List Rec) : State :=
  let x := s.streamOf n
  if x.on then recs.foldl (State.appendRec n) s else s.setStream n { x with early := x.early ++ recs }

/-- Frame a pier's block into its destinations (R252 to R254). -/
def State.frameBlock (s : State) (p : Nat) (b : Block) (errs : List CodeErr) : State :=
  let dest := (setBits b.mask 8).filter (fun n => decide (s.par Ix.streamState n = 1))
  let r := s.readWords b.format b.sequence errs
  let s1 := r.1.cntN Ix.caiMissingWords p (r.2.countP (fun w => decide (w = missingWord b.format)))
  let recs := b.records p r.2
  let s2 := dest.foldl (fun u n => u.copyBlock n recs) s1
  let s3 := if dest.isEmpty then s2.cnt Ix.caiDiscarded p else s2
  let s4 := s3.setCai p { s3.caiOf p with block := some { b with framed := true, words := [] } }
  (setBits b.mask 8).foldl (fun u n => u.unhold n) s4

/-- Another block with an earlier place, or the same and an earlier sequencer or mark number, still waits (R224). -/
def State.earlierBlock (s : State) (b : Block) : Bool :=
  s.cai.any (fun c => match c.2.block with
    | some a => !a.framed && (decide (a.place < b.place) || (decide (a.place = b.place) &&
        (decide (a.seq < b.seq) || (decide (a.seq = b.seq) && decide (a.num < b.num)))))
    | none => false)

/-! ### The commands -/

/-- One lane's word of CAISSON_RECORD: computed under R120 in CAI.FORMAT, put into the ring and, inside a pending
block's window, into the block (R247, R248, R251); a lane has one word at an instant. -/
def State.caiWord (p t : Nat) (s : State) (x : Fin 8 × Reading) : State :=
  let lane := 8 * p + x.1
  if s.caiRecords lane then
    let we := t - 25600
    let raw := clampI (-countClip) countClip (s.rawCount lane x.2)
    let v := (s.valueAs (decide (s.par Ix.caiFormat p ≠ 0)) lane raw (s.negative lane we) we t).1
    let c := s.caiOf p
    let l := tget ⟨t, none, [], 0, []⟩ c.lanes x.1
    if (l.words.head?.map Prod.fst) = some t then s
    else
      let l1 : CaiLane := { l with words := ((t, v) :: l.words).take (2 ^ s.par Ix.caiDepthLog2 p), depth := l.depth + 1 }
      let blk := c.block.map (fun b =>
        if !b.framed && bit b.lanes x.1 && b.covers t then { b with words := (x.1.val, t, v) :: b.words } else b)
      s.setCai p { lanes := tset c.lanes x.1 l1, block := blk }
  else s

/-- Errors met in a lane's newest ring codeword: what cannot be corrected becomes MISSING (R289 code 7). -/
def State.caiErr (p : Nat) (s : State) (e : CodeErr) : State :=
  let c := s.caiOf p
  match tfind c.lanes e.cw with
  | some l =>
    let near := l.words.take 4
    let r := s.readWords (s.par Ix.caiFormat p) (near.map Prod.snd) [{ e with cw := 0 }]
    let ws := near.zipWith (fun a v => (a.1, v)) r.2
    let fix (w : Nat × Nat × Nat) : Nat × Nat × Nat :=
      if w.1 = e.cw then (match ws.find? (fun a => decide (a.1 = w.2.1)) with
        | some a => (w.1, w.2.1, a.2)
        | none => w) else w
    r.1.setCai p { lanes := tset c.lanes e.cw { l with words := ws ++ l.words.drop 4 }
                   block := c.block.map (fun b => { b with words := b.words.map fix }) }
  | none => s

/-- CAISSON_RECORD: at a multiple of T_c the recording lanes' decimators yield their counts (R247); `errs` name ring
codewords in error by lane of the pier. -/
def execCaissonRecord (t : Nat) (pier : Fin 24) (raws : List (Fin 8 × Reading)) (errs : List CodeErr) (s : State) :
    Host.Outcome State Fault Refusal :=
  let s1 := s.enter t
  if s1.tpll ∧ s1.par Ix.caiState pier ≠ 0 ∧ s1.now % s1.caiPeriod pier = 0 then
    let s2 := errs.foldl (State.caiErr pier) (raws.foldl (State.caiWord pier s1.now) s1)
    .next (if s2.par Ix.caiState pier = 1 ∧ s2.caiFull pier then s2.setPar Ix.caiState pier 2 else s2)
  else .next s1

/-- SNAPSHOT_FRAMING: Garnet time passes p + H + 128 ns of a pier's block (R252); `errs` are codewords in error of the
staging area. -/
def execSnapshotFraming (t : Nat) (pier : Fin 24) (errs : List CodeErr) (s : State) :
    Host.Outcome State Fault Refusal :=
  let s1 := s.enter t
  match (s1.caiOf pier).block with
  | some b =>
    let early (i : Item) : Bool := decide (i.stamp < b.place)
    if !b.framed ∧ b.place + s1.horizon + 32768 < s1.now ∧ !s1.cw.intake.any early ∧ !s1.cw.store.any early ∧
        !s1.earlierBlock b then
      .next (s1.frameBlock pier b errs)
    else .next s1
  | none => .next s1

/-- CAISSON_REARM: Garnet time passes r of the last accepted block (R251, Table 3). -/
def execCaissonRearm (t : Nat) (pier : Fin 24) (s : State) : Host.Outcome State Fault Refusal :=
  let s1 := s.enter t
  match (s1.caiOf pier).block with
  | some b =>
    if b.rearm < s1.now then
      if s1.par Ix.caiState pier = 3 then .next (s1.setPar Ix.caiState pier (if s1.caiFull pier then 2 else 1))
      else if s1.par Ix.caiState pier = 4 then .next ((s1.setPar Ix.caiState pier 0).caiTouchPier s1.now pier)
      else .next s1
    else .next s1
  | none => .next s1

end Sys2Proof.Machine
end

