-- ==== Sys2Proof/Machine/Actions.lean ====
section
/-! DEFINITION. The timed-action executor (08_timed_actions_viaduct.md R187 to R205).

Readings and choices here: DESIGN CHOICE log 2; DEDUCED log 27. -/
namespace Sys2Proof.Machine

/-! ### The action table (R187, R188) -/

/-- An entry of the action table: opcode, subop, target, PARAM, ARG. -/
structure ActEntry where
  op : Nat
  sub : Nat
  target : Nat
  param : Nat
  arg : Nat
  deriving DecidableEq, Repr

/-- Entry `n` as it stood at a stamp. -/
def State.actEntry (s : State) (t n : Nat) : ActEntry :=
  let w := s.parAt t (Ix.actOp + n / 256) (n % 256)
  ⟨fld w 31 28, fld w 27 24, fld w 23 16, fld w 15 0, s.parAt t (Ix.actArg + n / 256) (n % 256)⟩

/-- The entry satisfies R188 by itself: defined opcode and subop, target, width and pulse state in range, unused fields
zero. -/
def ActEntry.valid (e : ActEntry) : Bool :=
  let noOps := decide (e.param = 0) && decide (e.arg = 0)
  let pulse := decide (e.param < 3) && decide (1024 ≤ e.arg) && decide (e.arg ≤ 16777216)
  match e.op with
  | 0 => decide (e.sub = 0) && decide (e.target = 0) && noOps
  | 1 => decide (e.sub = 0) && noOps
  | 2 => decide (e.sub = 0) && decide (e.target ≤ 15) && noOps
  | 3 => decide (e.target ≤ 191) && ((decide (e.sub ≤ 2) && noOps) || (decide (e.sub = 3) && pulse))
  | 4 => decide (e.target ≤ 7) && ((decide (e.sub ≤ 2) && noOps) || (decide (e.sub = 3) && pulse))
  | 5 => decide (e.target ≤ 47) && ((decide (e.sub = 0) && decide (e.param = 0)) ||
      ((decide (e.sub = 1) || decide (e.sub = 2)) && decide (e.param ≤ 1) && decide (e.arg = 0)))
  | 6 => decide (e.sub = 0) && decide (e.target ≤ 63) && noOps
  | 7 => decide (e.sub = 0) && decide (e.target ≤ 15) && noOps
  | 8 => decide (e.sub = 0) && decide (e.target ≤ 3) && noOps
  | 9 => decide (e.sub = 0) && decide (e.target ≤ 3) && noOps
  | 10 => decide (e.sub = 0) && decide (e.target = 0) && decide (e.arg ≤ 0xFFFF)
  | _ => false

/-- The entries of a list are valid, and each SNAPSHOT stands after a MARK (R188). -/
def actListValid : Bool → List ActEntry → Bool
  | _, [] => true
  | marked, e :: t => e.valid && (decide (e.op ≠ 2) || marked) && actListValid (marked || decide (e.op = 1)) t

/-- The entries of a list as they stood at a stamp. -/
def State.actList (s : State) (t first count : Nat) : List ActEntry :=
  (List.range count).map (fun i => s.actEntry t (first + i))

/-! ### Loading (R190, R194, R195) -/

/-- The firing that an action belongs to: sequencer, stage, branch (4 the timeout branch), cause time. -/
structure Origin where
  seq : Nat
  stage : Nat
  branch : Nat
  cause : Nat
  deriving DecidableEq, Repr

/-- Slots held past cause time `c` (R194). -/
def State.slotsAt (s : State) (c : Nat) : Nat := (s.slots.filter (fun x => decide (c < x.holdTo))).length

/-- Target kind of a slot. -/
def Slot.safeKind (x : Slot) : SafeKind :=
  match x.kind with
  | 0 => .guard | 1 => .line | _ => .source

/-- The value an excitation source's parameter stands at. -/
def State.exciteStands (s : State) (x : Slot) : Nat :=
  match x.subop with
  | 0 => s.exPar Ix.exLevel x.target
  | 1 => s.exPar Ix.exPolarity x.target
  | _ => s.exPar Ix.exEnable x.target

/-- The GUARD record of an action as its target stands, `subop` its own or that of its pulse's end (R195, R198). -/
def State.standRecord (s : State) (x : Slot) (t subop : Nat) (refused pulseEnd : Bool) : Rec :=
  match x.safeKind with
  | .source =>
    recGuard t 2 subop { refused := refused, safeHeld := decide (s.exState x.target = 2) } x.target (s.exciteStands x)
      x.seq x.stage x.branch 0
  | k =>
    recGuard t k.code subop { s.outFlags k x.target with refused := refused, pulseEnd := pulseEnd } x.target
      (s.outResult k x.target) x.seq x.stage x.branch 0

/-- A GUARD, VIADUCT or EXCITE action is loaded, or refused with NO_SLOT; its GUARD record enters the store before its stamp
(R194, R195, R198). -/
def State.loadAction (s : State) (o : Origin) (e : ActEntry) : State :=
  let due := s.place (o.cause + s.delayL)
  let holdTo := if e.op ≠ 5 ∧ e.sub = 3 then s.place (due + e.arg) else due
  let x : Slot :=
    { kind := e.op - 3, target := e.target, subop := e.sub, param := e.param, arg := e.arg, cause := o.cause, due := due
      holdTo := holdTo, seq := o.seq, stage := o.stage, branch := o.branch, done := false, entered := none, endEntered := none }
  let keep := s.slots.filter (fun y => !y.done || decide (o.cause < y.holdTo))
  if s.slotsAt o.cause < 64 then
    let r := s.standRecord x due x.subop false false
    ({ s with slots := keep ++ [{ x with entered := some r }] }.mark Ix.actSlotsHwm 0 (s.slotsAt o.cause + 1)).emit r
  else
    let s1 := ({ s with slots := keep }.cnt Ix.actRefused 0).setPar Ix.actLastRefused 0
      (e.op * 2 ^ 28 + e.sub * 2 ^ 24 + e.target * 2 ^ 16 + o.seq * 2 ^ 8 + 1)
    s1.emit (s1.standRecord x due x.subop true false)

/-- A MARK_OUT action queues its message, or is refused when 16 wait (R205). -/
def State.queueMarkOut (s : State) (o : Origin) (e : ActEntry) : State :=
  if 16 ≤ s.markOut.length then s.cnt Ix.actMarkoutRefused 0
  else
    let m : MarkOut := ⟨e.arg % 65536, e.param, s.markOutNum, o.seq, o.stage, o.branch, o.cause⟩
    { s with markOut := s.markOut ++ [m], markOutNum := (s.markOutNum + 1) % 2 ^ 32 }

/-! ### Performing (R196 to R200) -/

/-- The level that SET, CLEAR and FLOAT command. -/
def subopLevel : Nat → Nat
  | 0 => 1 | 1 => 0 | _ => 2

/-- An edge driven on a Viaduct line is kept for H + 2,048 ns (R169). -/
def State.noteDriven (s : State) (line d : Nat) : State :=
  let keep := (tget [] s.driven line).filter (fun x => decide (s.now ≤ x + s.horizon + 524288))
  { s with driven := tset s.driven line (keep ++ [d]) }

/-- A GUARD record that stands in the store takes what the edge has shown; one that does not enters now, and one that fell due
while TPLL was stopped is counted (R198, R199). -/
def State.guardRecord (s : State) (late : Bool) (entered : Option Rec) (r : Rec) : State :=
  let s1 := if late then s.cnt Ix.actLate 0 else s
  match entered with
  | some q =>
    if s1.cw.store.contains (.record q none) then
      { s1 with cw := { s1.cw with store := insertItem (.record r none) (s1.cw.store.erase (.record q none)) } }
    else s1.emit r
  | none => s1.emit r

/-- The slot of a pulse in progress on an output. -/
def Slot.holds (k : SafeKind) (n : Nat) (p : Pulse) (x : Slot) : Bool :=
  decide (x.safeKind = k) && decide (x.target = n) && decide (x.subop = 3) && decide (x.due = p.start) && decide (x.holdTo = p.end_)

/-- The PULSE_END record of an output, SUPERSEDED where an action on the same tick follows (R196, R197). -/
def State.pulseEndRecord (s : State) (k : SafeKind) (n : Nat) (p : Pulse) (late superseded : Bool) : State :=
  let entered := (s.slots.find? (fun (x : Slot) => x.holds k n p && x.endEntered.isSome)).bind Slot.endEntered
  let s1 := { s with slots := s.slots.map (fun (x : Slot) => if x.holds k n p then { x with endEntered := none } else x) }
  s1.guardRecord late entered (recGuard p.end_ k.code 3
    { s.outFlags k n with pulseEnd := true, superseded := superseded, late := late }
    n (s.outResult k n) p.seq p.stage p.branch 0)

/-- A pulse of an output comes to its end edge at `d` (R197). -/
def State.endPulse (s : State) (k : SafeKind) (n d : Nat) (late : Bool) : State :=
  let o := s.outOf k n
  match o.pulse with
  | some p =>
    if p.end_ ≠ d then s
    else
      let before := s.pinState k n
      let s1 := s.setOut k n { o with pulse := none }
      let s2 := if k = .line ∧ s1.pinState k n ≠ before then s1.noteDriven n d else s1
      s2.pulseEndRecord k n p late false
  | none => s

/-- The actions of one output at one tick, in loading order (R196, R197): the commanded level or the pulse each leaves,
and whether the first one ends a pulse in progress. -/
def State.applyOut (s : State) (k : SafeKind) (n d : Nat) : List Slot → State
  | [] => s
  | x :: rest =>
    let o := s.outOf k n
    let s1 :=
      if x.subop = 3 then
        let p : Pulse := ⟨x.param % 4, d, s.place (d + x.arg), !s.outHeld k n, x.seq, x.stage, x.branch⟩
        s.setOut k n { o with pulse := if rest.isEmpty then some p else none }
      else s.setOut k n { o with cmd := subopLevel x.subop, pulse := none }
    s1.applyOut k n d rest

/-- The records of the actions of one output at one tick. -/
def State.outRecords (k : SafeKind) (n d : Nat) (late preempt : Bool) (s : State) (x : Slot × Nat × Nat) : State :=
  let f : GFlags := { s.outFlags k n with
    superseded := decide (x.2.1 + 1 < x.2.2), preempt := preempt && decide (x.2.1 = 0), late := late }
  s.guardRecord late x.1.entered (recGuard d k.code x.1.subop f n (s.outResult k n) x.1.seq x.1.stage x.1.branch 0)

/-- Perform the actions of one guard pin or line at tick `d`: a pulse's end edge first, then the actions in loading
order; the records state the output after all of them (R196, R197). -/
def State.performOut (s : State) (k : SafeKind) (n d : Nat) (late : Bool) (xs : List Slot) : State :=
  let o := s.outOf k n
  let ended := o.pulse.filter (fun p => decide (p.end_ = d))
  let preempt := match o.pulse with
    | some p => decide (p.start < d) && decide (d < p.end_)
    | none => false
  let before := s.pinState k n
  let s1 := s.applyOut k n d xs
  let s2 := if k = .line ∧ s1.pinState k n ≠ before then s1.noteDriven n d else s1
  let s3 := if preempt then s2.cnt Ix.actPreempted 0 else s2
  let s4 := match ended with
    | some p => s3.pulseEndRecord k n p late true
    | none => s3
  let s5 := xs.zipIdx.foldl (fun u x => State.outRecords k n d late preempt u (x.1, x.2, xs.length)) s4
  s5.cntW Ix.actExecuted 0 xs.length

/-- An EXCITE action takes effect (R200): the state, whether the route check refused it, and the value for its record. -/
def State.excite (s : State) (x : Slot) (at_ : Nat) : State × Bool × Nat :=
  let k := x.target
  let v := x.param % 2
  match x.subop with
  | 0 => ((s.setPar (exIx Ix.exLevel k) (k / 2) x.arg).exChange k at_, false, x.arg)
  | 1 => ((s.setPar (exIx Ix.exPolarity k) (k / 2) v).exChange k at_, false, v)
  | _ =>
    if v = 1 ∧ s.exPar Ix.exEnable k = 0 then
      let on := s.pierOn (k / 2)
      match s.routeCheck (k / 2) { on with sources := on.sources ++ [k] } with
      | some f =>
        let s1 := (s.routeRefused (k / 2) f).cnt Ix.actRefused 0
        (s1.setPar Ix.actLastRefused 0 (5 * 2 ^ 28 + 2 * 2 ^ 24 + k * 2 ^ 16 + x.seq * 2 ^ 8 + 2), true, 0)
      | none => ((s.setPar (exIx Ix.exEnable k) (k / 2) 1).exEnableEffect k true at_, false, 1)
    else ((s.setPar (exIx Ix.exEnable k) (k / 2) v).exEnableEffect k (decide (v = 1)) at_, false, v)

/-- Perform one EXCITE action of tick `d`. -/
def State.performExcite (d : Nat) (late : Bool) (s : State) (x : Slot × Bool) : State :=
  let r := s.excite x.1 (if late then s.now else d)
  let f : GFlags := { refused := r.2.1, superseded := x.2, safeHeld := decide (r.1.exState x.1.target = 2), late := late }
  let s1 := r.1.guardRecord late x.1.entered (recGuard d 2 x.1.subop f x.1.target r.2.2 x.1.seq x.1.stage x.1.branch 0)
  if r.2.1 then s1 else s1.cntW Ix.actExecuted 0 1

/-- Perform the actions of one target at tick `d`. -/
def State.performTarget (d : Nat) (late : Bool) (xs : List Slot) (s : State) (key_ : Nat × Nat) : State :=
  let mine := xs.filter (fun x => decide (x.kind = key_.1) && decide (x.target = key_.2))
  match key_.1 with
  | 0 => s.performOut .guard key_.2 d late mine
  | 1 => s.performOut .line key_.2 d late mine
  | _ => mine.zipIdx.foldl (fun u x => State.performExcite d late u (x.1, decide (x.2 + 1 < mine.length))) s

/-- Perform every action due at tick `d` (R190, R196). -/
def State.performTick (s : State) (d : Nat) (late : Bool) : State :=
  let xs := s.slots.filter (fun x => !x.done && decide (x.due = d))
  let s1 := { s with slots := s.slots.map (fun x =>
    if !x.done && decide (x.due = d) then { x with done := true, entered := none } else x) }
  ((xs.map (fun x => (x.kind, x.target))).eraseDups).foldl (State.performTarget d late xs) s1

/-- The earliest tick at which an action is due. -/
def State.nextDue (s : State) : Option Nat :=
  (s.slots.filter (fun x => !x.done)).foldl (fun m x => match m with
    | some d => some (min d x.due)
    | none => some x.due) none

/-- The earliest end edge of a pulse in progress, with its output. -/
def State.nextEnd (s : State) : Option (Nat × SafeKind × Nat) :=
  let ends (k : SafeKind) (l : Tbl OutSt) : List (Nat × SafeKind × Nat) :=
    l.filterMap (fun x => x.2.pulse.map (fun p => (p.end_, k, x.1)))
  (ends .guard s.guard ++ ends .line s.line).foldl (fun m x => match m with
    | some y => if x.1 < y.1 then some x else some y
    | none => some x) none

/-- An action is due on an output at tick `d`. -/
def State.dueOn (s : State) (k : SafeKind) (n d : Nat) : Bool :=
  s.slots.any (fun x => !x.done && decide (x.due = d) && decide (x.safeKind = k) && decide (x.target = n))

/-! ### PULSE_END records before their stamp (R198) -/

/-- A pulse, scheduled or in progress, that will come to its end edge: no action on its target falls inside it, and none follows
it at its start tick. -/
def State.willEnd (s : State) (x : Slot) : Bool :=
  let k := x.safeKind
  let others := s.slots.filter (fun y => !y.done && decide (y.safeKind = k) && decide (y.target = x.target))
  if x.done then
    (match (s.outOf k x.target).pulse with
     | some p => x.holds k x.target p
     | none => false) && !others.any (fun y => decide (x.due < y.due) && decide (y.due < x.holdTo))
  else
    !others.any (fun y => decide (x.due < y.due) && decide (y.due < x.holdTo))
      && decide ((others.filter (fun y => decide (y.due = x.due))).getLast? = some x)

/-- The PULSE_END record of one slot enters, once Keystone has processed every item stamped before its end less L. -/
def State.enterEnd (passed : Nat) (s : State) (x : Slot) : State :=
  if x.subop = 3 ∧ x.kind ≤ 1 ∧ x.endEntered.isNone ∧ s.now < x.holdTo ∧ x.holdTo ≤ passed + s.delayL ∧ s.willEnd x then
    let r := s.standRecord x x.holdTo 3 false true
    { s with slots := s.slots.map (fun y => if y = x then { y with endEntered := some r } else y) }.emit r
  else s

/-- The PULSE_END records whose preemptors are all known enter the store; Keystone has processed every item below `passed`. -/
def State.enterEnds (s : State) (passed : Nat) : State := s.slots.foldl (State.enterEnd passed) s

/-! ### After a stop of TPLL (R199) -/

/-- GUARD records in the store whose edges fell due while TPLL was stopped: they are made anew, as late records. -/
def State.withdraw (s : State) : State :=
  let gone := s.slots.flatMap (fun x =>
    (if !x.done && decide (x.due ≤ s.now) then x.entered.toList else [])
      ++ (if x.holdTo ≤ s.now then x.endEntered.toList else []))
  { s with
    cw := { s.cw with store := gone.foldl (fun l r => l.erase (.record r none)) s.cw.store }
    slots := s.slots.map (fun x => { x with
      entered := if x.due ≤ s.now then none else x.entered
      endEntered := if x.holdTo ≤ s.now then none else x.endEntered }) }

/-- Everything scheduled up to now, in order of time: what fell due while TPLL was stopped (R199). -/
def State.performLate : Nat → State → State
  | 0, s => s
  | fuel + 1, s =>
    match s.nextDue, s.nextEnd with
    | some d, some e =>
      if e.1 ≤ d ∧ e.1 ≤ s.now ∧ !s.dueOn e.2.1 e.2.2 e.1 then
        State.performLate fuel (s.endPulse e.2.1 e.2.2 e.1 true)
      else if d ≤ s.now then State.performLate fuel (s.performTick d true) else s
    | some d, none => if d ≤ s.now then State.performLate fuel (s.performTick d true) else s
    | none, some e => if e.1 ≤ s.now then State.performLate fuel (s.endPulse e.2.1 e.2.2 e.1 true) else s
    | none, none => s

/-- Steps that `performLate` can take: each slot starts once and ends once, and each output may have a pulse in progress. -/
def State.lateSteps (s : State) : Nat := 2 * s.slots.length + s.guard.length + s.line.length

/-! ### The commands -/

/-- TIMED_ACTION_EXEC: the actions of the earliest scheduled tick, once Garnet time has reached it (R190). -/
def execTimedActionExec (t : Nat) (s : State) : Host.Outcome State Fault Refusal :=
  let s1 := s.enter t
  match s1.nextDue with
  | some d => if d ≤ s1.now ∧ s1.tpll then .next (s1.performTick d false) else .next s1
  | none => .next s1

/-- PULSE_END: the end edge of a pulse on a guard pin or a line (R197). -/
def execPulseEnd (t : Nat) (target : OutTarget) (s : State) : Host.Outcome State Fault Refusal :=
  let s1 := s.enter t
  let go (k : SafeKind) (n : Nat) : State :=
    match (s1.outOf k n).pulse with
    | some p => if p.end_ ≤ s1.now ∧ s1.tpll ∧ !s1.dueOn k n p.end_ then s1.endPulse k n p.end_ false else s1
    | none => s1
  match target with
  | .guard l => .next (go .guard l)
  | .line n => .next (go .line n)
  | .source _ => .next s1

end Sys2Proof.Machine
end

