-- ==== Sys2Proof/Machine/Units.lean ====
section
/-! DEFINITION. Keystone's source state table and condition units (07_keystone_sequencers.md R162 to R172, R178).

Readings and choices here: DEDUCED log 24. -/
namespace Sys2Proof.Machine

/-! ### Configuration of a unit -/

/-- A unit's configuration: type, sources, mode, P1 to P3. -/
structure UnitCfg where
  typ : Nat
  a : Nat
  b : Nat
  mode : Nat
  p1 : Nat
  p2 : Nat
  p3 : Nat
  deriving DecidableEq, Repr

/-- The configuration of unit `u` as it stood at a stamp (R150). -/
def State.unitCfg (s : State) (t u : Nat) : UnitCfg :=
  let p (ix : Nat) : Nat := s.parAt t ix u
  ⟨p Ix.keyCuType, p Ix.keyCuSrcA, p Ix.keyCuSrcB, p Ix.keyCuMode, p Ix.keyCuP1, p Ix.keyCuP2, p Ix.keyCuP3⟩

/-- The kind of a unit is momentary (Table 2). -/
def UnitCfg.momentary (c : UnitCfg) : Bool :=
  match c.typ with
  | 1 => true
  | 5 => true
  | 6 => true
  | 7 => decide (2 ≤ c.mode % 4)
  | 8 => true
  | 9 => decide (c.mode % 4 = 2)
  | _ => false

/-- The type names source A (Table 2). -/
def UnitCfg.hasA (c : UnitCfg) : Bool := decide (1 ≤ c.typ) && decide (c.typ ≤ 7)

/-- Ticks of one unit of a TIMER's scale, MODE [5:4] (R171). -/
def UnitCfg.scale (c : UnitCfg) : Nat :=
  match c.mode / 16 % 4 with
  | 0 => 256 | 1 => 256000 | _ => 256000000

/-- Duration or period of a TIMER in ticks. -/
def UnitCfg.span (c : UnitCfg) : Nat := c.p1 * c.scale

/-- The sequencer a TIMER names, MODE [3:2]. -/
def UnitCfg.seq (c : UnitCfg) : Nat := c.mode / 4 % 4

/-- An edge selection: 0 rising, 1 falling, 2 either. -/
def edgeMatches (sel level : Nat) : Bool :=
  decide (sel = 2) || (decide (sel = 0) && decide (level = 1)) || (decide (sel = 1) && decide (level = 0))

/-- A bound or sample word read as I32 or as binary32 (R166). -/
def wordFp (eng : Bool) (w : Nat) : Fp := if eng then fpOf32 w else fpOfInt (i32 w)

/-- A binary32 pattern that is a NaN. -/
def isNan32 (w : Nat) : Bool := decide (0x7F800000 < w % 2 ^ 31)

/-! ### The enable check of a unit (R178 reasons 8 to 11) -/

/-- A unit's sources satisfy Table 2 for its type. -/
def UnitCfg.sourcesOk (c : UnitCfg) : Bool :=
  match c.typ with
  | 0 => decide (c.a = 0) && decide (c.b = 0)
  | 3 => decide (c.a ≤ 191) && decide (c.b = 0)
  | 6 => decide (c.a ≤ 200) && decide (c.b ≤ 200) && decide (c.a ≠ c.b)
  | 7 => decide (192 ≤ c.a) && decide (c.a ≤ 199) && decide (c.b = 0)
  | 8 => decide (c.a = 0) && decide (c.b = 0)
  | 9 => decide (c.a = 0) && decide (c.b = 0)
  | _ => decide (c.a ≤ 200) && decide (c.b = 0)

/-- A unit's mode and parameters satisfy Table 2, R166, R167, R168 and R171; `eng` is the format of a WINDOW's lane. -/
def UnitCfg.paramsOk (c : UnitCfg) (eng : Bool) : Bool :=
  let zero := decide (c.p1 = 0) && decide (c.p2 = 0) && decide (c.p3 = 0)
  match c.typ with
  | 0 => decide (c.mode = 0) && zero
  | 1 => decide (c.mode ≤ 2) && zero
  | 2 => decide (c.mode ≤ 1) && zero
  | 3 =>
    decide (c.mode ≤ 15) && decide (c.mode / 4 % 4 ≤ 2) && (bit c.mode 1 || decide (c.mode / 4 % 4 = 0)) &&
      (bit c.mode 0 || (decide (c.p3 ≤ 15) && !(eng && (isNan32 c.p1 || isNan32 c.p2)) &&
        fpLe (wordFp eng c.p1) (wordFp eng c.p2)))
  | 4 => decide (c.mode ≤ 2) && decide (1 ≤ c.p1) && decide (1 ≤ c.p2) && decide (c.p2 ≤ 256) && decide (c.p3 = 0)
  | 5 => decide (c.mode ≤ 3) && decide (c.p1 ≤ c.p2) && decide (c.p3 = 0)
  | 6 => decide (c.mode ≤ 31) && decide (c.mode % 4 ≤ 1) && decide (c.mode / 4 % 4 ≤ 1) && decide (c.p1 ≤ c.p2) &&
      decide (c.p3 = 0)
  | 7 => decide (c.mode ≤ 7) && zero
  | 8 => decide (c.p3 = 0) && ((decide (c.mode = 0) && decide (c.p1 < 2 ^ 24) && decide (c.p2 = 0)) ||
      (decide (c.mode = 1) && decide (c.p1 < 65536) && decide (c.p2 < 65536)))
  | 9 => decide (c.mode ≤ 63) && decide (c.mode % 4 ≤ 2) && decide (c.mode / 16 % 4 ≤ 2) && decide (1 ≤ c.p1) &&
      decide (c.p3 = 0) && (if c.mode % 4 = 2 then decide (256000 ≤ c.span) && decide (c.p2 < c.p1) else decide (c.p2 = 0))
  | _ => true

/-- A lane's role does not suit the unit (reason 9). -/
def State.roleUnsuited (s : State) (c : UnitCfg) (src : Nat) : Bool :=
  decide (src < 192) && (decide (s.par Ix.laneRole src = 0) || (decide (c.typ = 3) && decide (s.par Ix.laneRole src = 1)))

/-- The lowest-numbered failing reason of a unit's enable (R178). -/
def State.unitFails (s : State) (u : Nat) : Option Nat :=
  let c := s.unitCfg s.now u
  if 10 ≤ c.typ then some 11
  else if !c.sourcesOk then some 8
  else if c.hasA && (s.roleUnsuited c c.a || (decide (c.typ = 6) && s.roleUnsuited c c.b)) then some 9
  else if !c.paramsOk (decide (c.typ = 3) && decide (s.par Ix.laneOutFormat c.a = 1)) then some 10 else none

/-! ### The source state table (R165) -/

def State.srcOf (s : State) (n : Nat) : SrcSt := tget {} s.src n
def State.setSrc (s : State) (n : Nat) (x : SrcSt) : State := { s with src := tset s.src n x }

/-- The mask flags of a SAMPLE in the order of R166: [0] UNSETTLED, [1] CLAMP, [2] SUSPECT, [3] RANGE. -/
def sampleMask (spec : Nat) : Nat :=
  b2n (bit spec 19) + 2 * b2n (bit spec 18) + 4 * b2n (bit spec 17) + 8 * b2n (bit spec 16)

/-- The table takes a record (R165). -/
def State.tableStep (s : State) (r : Rec) : State :=
  if 200 < r.src then s
  else
    let x := s.srcOf r.src
    match r.typ with
    | 1 => s.setSrc r.src (if bit r.spec 19 then { x with zone := some (r.spec % 4) } else { x with level := some (r.spec % 4) })
    | 2 =>
      let w := (r.body.headD 0).toNat
      s.setSrc r.src (if r.spec / 256 % 4 = 2 then { x with level := some (w % 2) } else { x with sample := some (w, sampleMask r.spec) })
    | 4 => s.setSrc r.src { x with level := none, zone := none }
    | _ => s

/-! ### Values -/

/-- Value codes of Table 1 for a known condition. -/
def boolCode (b : Bool) : Nat := b2n b

/-- The value of a WINDOW unit from above and below (R166). -/
def windowCode (mode : Nat) (above below : Bool) : Nat :=
  if bit mode 1 then
    match mode / 4 % 4 with
    | 0 => boolCode (above || below)
    | 1 => boolCode above
    | _ => boolCode below
  else boolCode (!above && !below)

/-- The value of a WINDOW unit on a sample word (R166). -/
def State.windowSample (s : State) (c : UnitCfg) (t w : Nat) : Nat :=
  let eng := decide (s.parAt t Ix.laneOutFormat c.a = 1)
  windowCode c.mode (fpLt (wordFp eng c.p2) (wordFp eng w)) (fpLt (wordFp eng w) (wordFp eng c.p1))

/-- The starting value of a unit from the table (R162, R165): 2 where the entry is UNKNOWN. -/
def State.startValue (s : State) (c : UnitCfg) (t : Nat) : Nat :=
  let x := s.srcOf c.a
  match c.typ with
  | 2 => match x.level with
    | some l => boolCode (decide (l = c.mode % 2))
    | none => 2
  | 3 =>
    if bit c.mode 0 then
      match x.zone with
      | some z => windowCode c.mode (decide (z = 2)) (decide (z = 0))
      | none => 2
    else
      match x.sample with
      | some w => if w.2 &&& c.p3 = 0 then s.windowSample c t w.1 else 2
      | none => 2
  | 7 =>
    if c.momentary then 0
    else match x.level with
      | some l => boolCode (decide (l = c.mode % 2))
      | none => 2
  | _ => 0

/-- The value of unit `u` between items, KEY.CU_STATE. -/
def State.unitVal (s : State) (u : Nat) : Nat := s.par Ix.keyCuState u

/-- What step 1 of an item finds: units that occurred, and units that changed value (R159, R182). -/
structure Seen where
  occ : List Nat := []
  chg : List Nat := []
  deriving DecidableEq, Repr

/-- A unit takes a value; a change is noted, and a change to TRUE counted. -/
def takeValue (p : State × Seen) (u v : Nat) : State × Seen :=
  if p.1.unitVal u = v then p
  else
    let s1 := p.1.setPar Ix.keyCuState u v
    (if v = 1 then s1.cnt Ix.keyCuOccurrences u else s1, { p.2 with chg := p.2.chg ++ [u] })

/-- A momentary unit occurs. -/
def occurs (p : State × Seen) (u : Nat) : State × Seen :=
  (p.1.cnt Ix.keyCuOccurrences u, { p.2 with occ := p.2.occ ++ [u] })

def setUnit (p : State × Seen) (u : Nat) (x : UnitSt) : State × Seen :=
  ({ p.1 with units := tset p.1.units u x }, p.2)

/-- The least time at or after `t` that equals `phase` modulo `period` (R171). -/
def nextPhase (t phase period : Nat) : Nat := t + (phase + period - t % period) % period

/-! ### Enable, disable, load (R162) -/

/-- The deadline and value of a TIMER at an instant, from its sequencer's last entry or arming (R171). -/
def State.timerStart (s : State) (c : UnitCfg) (t : Nat) : Nat × Option Nat :=
  if c.mode % 4 = 2 then (0, some (nextPhase t (c.p2 * c.scale) c.span))
  else
    match tfind s.seqs c.seq with
    | some q =>
      let base := if c.mode % 4 = 0 then q.entry else q.armedAt
      if !q.armed then (0, none)
      else if base + c.span ≤ t then (1, none) else (0, some (base + c.span))
    | none => (0, none)

/-- A unit records the generations of the lanes it names (R162). -/
def State.unitGens (s : State) (u t : Nat) : State :=
  let c := s.unitCfg t u
  let gen (named : Bool) (l : Nat) : Nat := if named && decide (l < 192) then s.parAt t Ix.laneRoleGen l else 0
  (s.setPar Ix.keyCuGenA u (gen c.hasA c.a)).setPar Ix.keyCuGenB u (gen (decide (c.typ = 6)) c.b)

/-- A unit starts at `t` (R162). -/
def State.unitStart (s : State) (u t : Nat) : State :=
  let c := s.unitCfg t u
  let tm := s.timerStart c t
  let s1 := { s with units := tset s.units u { since := t, due := if c.typ = 9 then tm.2 else none } }
  let v := if c.typ = 9 ∧ c.mode % 4 ≠ 2 then tm.1 else s.startValue c t
  (s1.setPar Ix.keyCuState u v).unitGens u t

/-- A unit stops: DISABLED. -/
def State.unitStop (s : State) (u : Nat) : State :=
  { s with units := terase s.units u }.setPar Ix.keyCuState u 4

/-- A load at `t` restarts every enabled unit (R162); a STALE unit stays STALE. -/
def State.unitsLoad (s : State) (t : Nat) : State :=
  let s0 := { s with src := s.src.map (fun (x : Nat × SrcSt) => (x.1, { x.2 with sample := none })) }
  s0.units.foldl (fun (v : State) (x : Nat × UnitSt) =>
    let c := v.unitCfg t x.1
    let due := if c.typ = 9 ∧ c.mode % 4 = 2 then some (nextPhase (t + 1) (c.p2 * c.scale) c.span) else none
    let v1 := { v with units := tset v.units x.1 { since := t, stale := x.2.stale, due := due } }.unitGens x.1 t
    if x.2.stale then v1 else v1.setPar Ix.keyCuState x.1 (if c.typ = 9 then 0 else v1.startValue c t)) s0

/-- Units whose value rests on a source follow its table entry when the entry is set at an effective time (R165). -/
def State.unitsFollow (s : State) (src t : Nat) : State :=
  s.units.foldl (fun v x =>
    let c := v.unitCfg t x.1
    if !x.2.stale && decide (c.a = src) && (decide (c.typ = 2) || decide (c.typ = 3) ||
        (decide (c.typ = 7) && !c.momentary)) then
      (takeValue (v, {}) x.1 (v.startValue c t)).1
    else v) s

/-! ### Step 1 on a record (R164 to R172) -/

/-- Stamps from t_x to t_x + 4 ns of an edge this device drove on a line (R169). -/
def State.selfDriven (s : State) (src t : Nat) : Bool :=
  (tget [] s.driven (src - 192)).any (fun x => decide (x ≤ t) && decide (t ≤ x + 1024))

/-- The sense rule of PULSE and SKEW (R168). -/
def senseMatches (outside : Bool) (p1 p2 d : Nat) : Bool :=
  let inside := decide (p1 ≤ d) && decide (d ≤ p2)
  if outside then !inside else inside

/-- A field of a MARK_IN match, `any` standing for everything. -/
def fieldMatches (want any have_ : Nat) : Bool := decide (want = any) || decide (want = have_)

/-- RATE: the value of the count (R167). -/
def rateCode (c : UnitCfg) (edges : List (Nat × Nat)) : Nat :=
  boolCode (decide (c.p2 ≤ (edges.map Prod.snd).sum))

/-- One unit takes a record, after the table has taken it (R164 to R171). -/
def unitRecord (r : Rec) (p : State × Seen) (u : Nat) (x : UnitSt) (c : UnitCfg) : State × Seen :=
  let edge := decide (r.typ = 1) && !bit r.spec 19
  let level := r.spec % 4
  let onA := decide (r.src = c.a) && c.hasA
  match c.typ with
  | 1 => if onA && edge && edgeMatches (c.mode % 4) level then occurs p u else p
  | 2 => if onA then takeValue p u (p.1.startValue c r.stamp) else p
  | 3 =>
    if !onA then p
    else if bit c.mode 0 then takeValue p u (p.1.startValue c r.stamp)
    else if r.typ = 2 ∧ r.spec / 256 % 4 ≠ 2 ∧ sampleMask r.spec &&& c.p3 = 0 then
      takeValue p u (p.1.windowSample c r.stamp (r.body.headD 0).toNat)
    else p
  | 4 =>
    let add := if !onA then []
      else if edge && edgeMatches (c.mode % 4) level then [(r.stamp, 1)]
      else if r.typ = 4 then [(r.stamp, (r.body.getD 1 0).toNat)] else []
    if add.isEmpty then p
    else
      let es := x.edges ++ add
      takeValue (setUnit p u { x with edges := es }) u (rateCode c es)
  | 5 =>
    if !onA then p
    else if r.typ = 4 then setUnit p u { x with pend := none }
    else if !edge then p
    else if level = 1 - c.mode % 2 then setUnit p u { x with pend := some r.stamp }
    else
      let q := setUnit p u { x with pend := none }
      match x.pend with
      | some t0 => if senseMatches (bit c.mode 1) c.p1 c.p2 (r.stamp - t0) then occurs q u else q
      | none => q
  | 6 =>
    if onA && decide (r.typ = 4) then setUnit p u { x with pend := none }
    else if onA && edge && edgeMatches (c.mode % 4) level then setUnit p u { x with pend := some r.stamp }
    else if decide (r.src = c.b) && edge && edgeMatches (c.mode / 4 % 4) level then
      match x.pend with
      | some t0 =>
        let q := setUnit p u { x with pend := none }
        if senseMatches (bit c.mode 4) c.p1 c.p2 (r.stamp - t0) then occurs q u else q
      | none => p
    else p
  | 7 =>
    if !onA then p
    else if !c.momentary then takeValue p u (p.1.startValue c r.stamp)
    else if edge && edgeMatches (c.mode % 4 - 2) level && !(bit c.mode 2 && p.1.selfDriven c.a r.stamp) then occurs p u
    else p
  | 8 =>
    if c.mode % 2 = 0 then
      if decide (203 ≤ r.src) && decide (r.src ≤ 206) && fieldMatches (fld c.p1 7 0) 0xFF (fld r.spec 19 18) &&
          fieldMatches (fld c.p1 15 8) 0xFF (fld r.spec 17 14) && fieldMatches (fld c.p1 23 16) 0xFF (fld r.spec 13 11) then
        occurs p u
      else p
    else
      let w := (r.body.headD 0).toNat
      if decide (r.src = 201) && fieldMatches (c.p1 % 65536) 0xFFFF (w % 65536) &&
          fieldMatches (c.p2 % 65536) 0xFFFF (w / 65536) then occurs p u
      else p
  | _ => p

/-- The generation a role-change STATUS record carries (R172, R218 kind 4). -/
def roleGenOf (r : Rec) : Option Nat :=
  if r.typ = 7 ∧ fld r.spec 19 12 = 4 then some ((r.body.headD 0).toNat / 65536) else none

/-- A role change makes a unit that names the lane STALE (R172). -/
def staleStep (r : Rec) (p : State × Seen) (u : Nat) (x : UnitSt) (c : UnitCfg) : State × Seen :=
  match roleGenOf r with
  | none => p
  | some g =>
    let hitA := c.hasA && decide (c.a = r.src) && decide (p.1.par Ix.keyCuGenA u ≠ g)
    let hitB := decide (c.typ = 6) && decide (c.b = r.src) && decide (p.1.par Ix.keyCuGenB u ≠ g)
    if hitA || hitB then takeValue (setUnit p u { x with stale := true }) u 3 else p

/-- Step 1 of R159 on a record: the table and every enabled unit. -/
def State.unitsRecord (s : State) (r : Rec) : State × Seen :=
  let s1 := s.tableStep r
  s1.units.foldl (fun p x =>
    if x.2.stale then p
    else
      let c := p.1.unitCfg r.stamp x.1
      let q := unitRecord r p x.1 x.2 c
      staleStep r q x.1 (tget x.2 q.1.units x.1) c) (s1, {})

/-! ### Step 1 on a deadline item (R158, R167, R171) -/

/-- A TIMER's deadline after a forward step: PERIODIC is a schedule of multiples and resumes at its next one (R50). -/
def State.placeDue (s : State) (c : UnitCfg) (d : Nat) : Nat :=
  if s.place d = d then d
  else if c.mode % 4 = 2 then nextPhase (s.place d) (c.p2 * c.scale) c.span else s.place d

/-- One unit at the deadline item of tick `d`. -/
def unitDeadline (d : Nat) (p : State × Seen) (u : Nat) (x : UnitSt) (c : UnitCfg) : State × Seen :=
  match c.typ with
  | 4 =>
    let es := x.edges.filter (fun e => decide (d < e.1 + c.p1 * 256))
    if es.length = x.edges.length then p
    else takeValue (setUnit p u { x with edges := es }) u (rateCode c es)
  | 9 =>
    if x.due.map (p.1.placeDue c) = some d then
      if c.mode % 4 = 2 then occurs (setUnit p u { x with due := some (d + c.span) }) u
      else takeValue (setUnit p u { x with due := none }) u 1
    else p
  | _ => p

/-- Step 1 of R159 on a deadline item. -/
def State.unitsDeadline (s : State) (d : Nat) : State × Seen :=
  s.units.foldl (fun p x => if x.2.stale then p else unitDeadline d p x.1 x.2 (p.1.unitCfg d x.1)) (s, {})

/-- The deadlines of one unit. -/
def State.unitDeadlines (s : State) (u : Nat) (x : UnitSt) : List Nat :=
  let c := s.unitCfg x.since u
  if x.stale then []
  else if c.typ = 4 then x.edges.map (fun e => s.place (e.1 + c.p1 * 256))
  else if c.typ = 9 then (x.due.map (s.placeDue c)).toList else []

end Sys2Proof.Machine
end

