-- ==== Sys2Proof/Machine/Keystone.lean ====
section
/-! DEFINITION. Keystone's sequencers: items, branches, firings, stage entries, arming (07_keystone_sequencers.md R158 to
R183).

Readings and choices here: DEDUCED log 23, log 24. -/
namespace Sys2Proof.Machine

/-! ### Configuration of branches (R173) -/

/-- A branch's configuration: units in use with their negation, in term order; OR; hold in ticks; count; window. -/
structure BrCfg where
  terms : List (Nat × Bool)
  or_ : Bool
  hold : Nat
  count : Nat
  coinc : Nat
  deriving DecidableEq, Repr

/-- The terms in use of a branch: unit and negation (Table 3). -/
def termsOf (units expr : Nat) : List (Nat × Bool) :=
  (setBits expr 4).map (fun i => (units / 256 ^ i % 256, bit expr (4 + i)))

/-- Sub-index of a branch of a stage of a sequencer (R185). -/
def brSub (k stage b : Nat) : Nat := 64 * k + 4 * stage + b

/-- The configuration of a branch as it stood at a stamp. -/
def State.brCfg (s : State) (t k stage b : Nat) : BrCfg :=
  let p (ix : Nat) : Nat := s.parAt t ix (brSub k stage b)
  ⟨termsOf (p Ix.keyBrTerms) (p Ix.keyBrExpr), bit (p Ix.keyBrExpr) 8, p Ix.keyBrHold * 256, p Ix.keyBrCount, p Ix.keyBrCoinc⟩

def State.seqOf (s : State) (k : Nat) : SeqSt := tget {} s.seqs k
def State.setSeq (s : State) (k : Nat) (q : SeqSt) : State := { s with seqs := tset s.seqs k q }

/-- Sequencer `k` is armed on the line of stamps. -/
def State.armed (s : State) (k : Nat) : Bool :=
  match tfind s.seqs k with
  | some q => q.armed
  | none => false

/-- Branch `b` of a stage. -/
def SeqSt.br (q : SeqSt) : Nat → BrSt
  | 0 => q.br0 | 1 => q.br1 | 2 => q.br2 | _ => q.br3

def SeqSt.setBr (q : SeqSt) (b : Nat) (x : BrSt) : SeqSt :=
  match b with
  | 0 => { q with br0 := x } | 1 => { q with br1 := x } | 2 => { q with br2 := x } | _ => { q with br3 := x }

/-! ### The enable check of a sequencer (R178) -/

/-- The action list of a branch fails reason 5 or 7. -/
def State.listFails (s : State) (first count : Nat) : Option Nat :=
  if 8 < count ∨ 1024 < first + count then some 5
  else if !actListValid false (s.actList s.now first count) then some 7 else none

/-- A next-stage code of R176. -/
def nextValid (n : Nat) : Bool := decide (n ≤ 15) || decide (n = 254) || decide (n = 255)

/-- The lowest failing reason of a branch with a term in use. -/
def State.branchFails (s : State) (k stage b : Nat) : Option Nat :=
  let c := s.brCfg s.now k stage b
  let p (ix : Nat) : Nat := s.par ix (brSub k stage b)
  let list := s.listFails (p Ix.keyBrActFirst) (p Ix.keyBrActCount)
  if c.terms.isEmpty then none
  else if c.terms.any (fun x => decide (s.par Ix.keyCuType x.1 = 0)) then some 1
  else if c.hold ≠ 0 ∧ c.terms.any (fun x => (s.unitCfg s.now x.1).momentary) then some 2
  else if !nextValid (p Ix.keyBrNext) then some 3
  else if list = some 5 then some 5
  else if 1024 < c.coinc then some 6 else list

/-- The lowest failing reason of a stage's timeout branch. -/
def State.timeoutFails (s : State) (k stage : Nat) : Option Nat :=
  let p (ix : Nat) : Nat := s.par ix (16 * k + stage)
  if p Ix.keyStageTimeout = 0 then none
  else if !nextValid (p Ix.keyStageNext) then some 3
  else s.listFails (p Ix.keyStageActFirst) (p Ix.keyStageActCount)

/-- The first failure of a sequencer's enable: reason, stage, branch. -/
def State.seqFails (s : State) (k : Nat) : Option (Nat × Nat × Nat) :=
  if 15 < s.par Ix.keyStartStage k then some (4, 0xFF, 0xFF)
  else (List.range 16).findSome? (fun g =>
    match (List.range 4).findSome? (fun b => (s.branchFails k g b).map (fun r => (r, g, b))) with
    | some f => some f
    | none => (s.timeoutFails k g).map (fun r => (r, g, 4)))

/-- A refused enable is counted and described (R178): `inst` 0 to 3 a sequencer, 4 the unit pool. -/
def State.keyRefused (s : State) (inst reason a b c : Nat) : State :=
  (s.cnt Ix.keyRefused inst).setPar Ix.keyRefuseLast inst (reason * 2 ^ 24 + a * 2 ^ 16 + b * 2 ^ 8 + c)

/-! ### What is read back -/

/-- KEY.STATE (Table 5). -/
def State.keyState (s : State) (k : Nat) : Nat :=
  if s.par Ix.keyEnable k = 0 then 0 else if s.armed k then 2 else 1

/-- KEY.STALE_ANY: a unit that a branch of the sequencer references is STALE (R172). -/
def State.staleAny (s : State) (k : Nat) : Bool :=
  (List.range 64).any (fun j =>
    (termsOf (s.par Ix.keyBrTerms (64 * k + j)) (s.par Ix.keyBrExpr (64 * k + j))).any (fun x =>
      match tfind s.units x.1 with
      | some u => u.stale
      | none => false))

/-! ### Evaluation of a branch (R163, R174, R182) -/

/-- An item as the sequencers see it: its stamp, the source of its record (none for a deadline item and for an arming
by dictionary write), whether it is a deadline item, and what step 1 found. -/
structure Ev where
  t : Nat
  src : Option Nat
  deadline : Bool
  seen : Seen
  deriving DecidableEq, Repr

/-- The value of a term and whether the coincidence window carries it (Table 1, R171, R174, R177). -/
def State.termVal (s : State) (e : Ev) (entry : Bool) (k : Nat) (coinc : Nat) (x : BrSt) (term : Nat × Bool) : Bool × Bool :=
  let u := term.1
  match tfind s.units u with
  | none => (false, false)
  | some st =>
    if st.stale then (false, false)
    else
      let c := s.unitCfg e.t u
      if c.momentary then
        let now_ := !entry && e.seen.occ.contains u
        let carried := x.seen.any (fun o => decide (o.1 = u) && decide (e.t ≤ o.2 + coinc))
        ((now_ || carried) != term.2, carried)
      else if entry && decide (c.typ = 9) && decide (c.mode % 4 = 0) && decide (c.seq = k) then (term.2, false)
      else
        match s.unitVal u with
        | 0 => (term.2, false)
        | 1 => (!term.2, false)
        | _ => (false, false)

/-- The unit of the lowest-numbered term that satisfies a test on the term and its position. -/
def lowestTerm (terms : List (Nat × Bool)) (p : (Nat × Bool) × Nat → Bool) : Option Nat :=
  (terms.zipIdx.find? p).map (fun x => x.1.1)

/-- The cause unit of a branch counted at once (Table 6). -/
def causeUnit (e : Ev) (terms : List (Nat × Bool)) (prev : List Bool) (now_ : List (Bool × Bool)) : Nat :=
  let first (a b : Option Nat) : Option Nat := match a with
    | some u => some u
    | none => b
  let hit := lowestTerm terms (fun x => e.seen.occ.contains x.1.1 || e.seen.chg.contains x.1.1)
  let changed := lowestTerm terms (fun x => prev.getD x.2 false != (now_.getD x.2 (false, false)).1)
  let carried := lowestTerm terms (fun x => (now_.getD x.2 (false, false)).2)
  (first hit (first changed (first carried (lowestTerm terms (fun _ => true))))).getD 0

/-- Occurrences of momentary units kept for the coincidence window: the latest stamp of each unit. -/
def noteSeen (e : Ev) (units : List Nat) (seen : List (Nat × Nat)) : List (Nat × Nat) :=
  units.foldl (fun l u =>
    (u, ((l.filter (fun o => decide (o.1 = u))).map Prod.snd).foldl max e.t) :: l.filter (fun o => decide (o.1 ≠ u))) seen

/-- One branch at an item, or in an entry evaluation: its new standing, and the cause unit if it fires (R174, R175). -/
def State.evalBranch (s : State) (e : Ev) (entry : Bool) (k stage b : Nat) (x : BrSt) : BrSt × Option Nat :=
  let c := s.brCfg e.t k stage b
  if c.terms.isEmpty then (x, none)
  else
    let vals := c.terms.map (s.termVal e entry k c.coinc x)
    let expr := if c.or_ then vals.any Prod.fst else vals.all Prod.fst
    let occ := if entry then [] else
      ((c.terms.map Prod.fst).filter (fun u => e.seen.occ.contains u && (s.unitCfg e.t u).momentary)).eraseDups
    let trigger := expr && (!x.prev || !occ.isEmpty)
    let expired := e.deadline && decide (x.hold.map s.place = some e.t) && !entry
    let hold := match x.hold with
      | some d => if expired || !expr then none else some d
      | none => if trigger && decide (c.hold ≠ 0) then some (e.t + c.hold) else none
    let counted := expired || (trigger && decide (c.hold = 0))
    let count := if counted then x.count + 1 else x.count
    let unit :=
      if expired then (lowestTerm c.terms (fun _ => true)).getD 0
      else if entry then (lowestTerm c.terms (fun y => (vals.getD y.2 (false, false)).1)).getD 0
      else causeUnit e c.terms x.terms vals
    ({ prev := expr, terms := vals.map Prod.fst, hold := hold, count := count
       seen := noteSeen e occ x.seen },
     if counted && decide (max 1 c.count ≤ count) then some unit else none)

/-! ### Firings (R170, R175, R176, R183, R189) -/

/-- What processing an item has brought about so far. -/
structure Run where
  s : State
  /-- MARK records by sequencer, stream mask, record. -/
  marks : List (Nat × Nat × Rec) := []
  /-- ARM (true) and DISARM actions in the order issued. -/
  ops : List (Nat × Bool) := []
  /-- Sequencers that entered a stage. -/
  moved : List Nat := []
  deriving DecidableEq, Repr

/-- A firing: branch (4 the timeout branch), cause unit, in an entry evaluation. -/
structure Firing where
  branch : Nat
  unit : Nat
  entry : Bool
  deriving DecidableEq, Repr

/-- The action list in progress: marks taken, flags of the SNAPSHOT requests, ARM and DISARM actions. -/
structure ListRun where
  s : State
  marks : List (Nat × Nat) := []
  flags : Nat := 0
  ops : List (Nat × Bool) := []
  deriving DecidableEq, Repr

/-- One action of a firing (R189). -/
def doAction (o : Origin) (r : ListRun) (a : ActEntry) : ListRun :=
  match a.op with
  | 1 =>
    let num := r.s.par Ix.keyMarkNum o.seq
    { r with s := r.s.setPar Ix.keyMarkNum o.seq ((num + 1) % 2 ^ 32), marks := r.marks ++ [(a.target, num)] }
  | 2 =>
    let m := r.marks.getLast?.getD (0, 0)
    let q := r.s.snapshotRequest a.target m.1 o.seq m.2 o.cause
    { r with s := q.1, flags := r.flags ||| q.2 }
  | 3 => { r with s := r.s.loadAction o a }
  | 4 => { r with s := r.s.loadAction o a }
  | 5 => { r with s := r.s.loadAction o a }
  | 6 => { r with s := r.s.cntW Ix.actUserCount a.target 1 }
  | 7 => { r with s := r.s.cntW Ix.actIrqCount a.target 1 }
  | 8 => { r with ops := r.ops ++ [(a.target, true)] }
  | 9 => { r with ops := r.ops ++ [(a.target, false)] }
  | 10 => { r with s := r.s.queueMarkOut o a }
  | _ => r

/-- The relay of a firing whose list holds a MARK (R170). -/
def State.relay (s : State) (o : Origin) : State :=
  let q := s.seqOf o.seq
  let b := o.cause / 1280
  if q.relay = some b then s.cnt Ix.keyRelaySuppressed o.seq
  else
    (s.setSeq o.seq { q with relay := some b }).emit
      (recMark (s.place (o.cause + s.horizon + 65536)) (203 + o.seq) o.seq o.stage o.branch 0 0 0 0 0)

/-- A firing runs its action list (R175 step 1, R183, R189). -/
def Run.runList (r : Run) (e : Ev) (k stage : Nat) (f : Firing) : Run :=
  let o : Origin := ⟨k, stage, f.branch, e.t⟩
  let p (a b : Nat) : Nat :=
    if f.branch = 4 then r.s.parAt e.t b (16 * k + stage) else r.s.parAt e.t a (brSub k stage f.branch)
  let l := (r.s.actList e.t (p Ix.keyBrActFirst Ix.keyStageActFirst) (p Ix.keyBrActCount Ix.keyStageActCount)).foldl
    (doAction o) { s := r.s }
  let s1 := if l.marks.isEmpty then l.s else l.s.relay o
  let src := match e.src with
    | some n => n
    | none => 203 + k
  let recs := l.marks.map (fun m => (k, m.1,
    recMark e.t (203 + k) k stage f.branch 0 (l.flags + (if f.entry then 4 else 0)) m.2 src f.unit))
  { r with s := if f.branch < 4 then s1.cnt Ix.keyBrFired (brSub k stage f.branch) else s1
           marks := r.marks ++ recs, ops := r.ops ++ l.ops }

/-- A sequencer enters a stage (R176). -/
def Run.enterStage (r : Run) (e : Ev) (k n : Nat) : Run :=
  let q := r.s.seqOf k
  let d := r.s.parAt e.t Ix.keyStageTimeout (16 * k + n)
  let s1 := ((r.s.setPar Ix.keyStage k n).cntW Ix.keyTransitions k 1).cnt Ix.keyStageEntries (16 * k + n)
  { r with s := s1.setSeq k { q with entry := e.t, br0 := {}, br1 := {}, br2 := {}, br3 := {}
                                     timeout := if d = 0 then none else some (e.t + d * 256000) }
           moved := r.moved ++ [k] }

/-- The branches of the current stage evaluate; the lowest-numbered one that fires wins (R174, R175, R177). -/
def Run.evalStage (r : Run) (e : Ev) (entry : Bool) (k : Nat) : Run × Option Firing :=
  let stage := r.s.par Ix.keyStage k
  let q := r.s.seqOf k
  let res := (List.range 4).map (fun b => (b, r.s.evalBranch e entry k stage b (q.br b)))
  let q1 := res.foldl (fun a x => a.setBr x.1 x.2.1) q
  let win := res.findSome? (fun x => x.2.2.map (fun u => (⟨x.1, u, entry⟩ : Firing)))
  ({ r with s := r.s.setSeq k q1 }, win)

/-- STAY: the winner's count and hold clear; a timeout branch restarts from the deadline at which it fired (R176). -/
def Run.stay (r : Run) (e : Ev) (k stage : Nat) (f : Firing) : Run :=
  let q := r.s.seqOf k
  if f.branch = 4 then
    { r with s := r.s.setSeq k { q with timeout := some (e.t + r.s.parAt e.t Ix.keyStageTimeout (16 * k + stage) * 256000) } }
  else { r with s := r.s.setSeq k (q.setBr f.branch { q.br f.branch with hold := none, count := 0 }) }

/-- A firing, and the stage entries it leads to: at most four in one item (R175 to R177). -/
def Run.fire : Nat → Run → Ev → Nat → Nat → Firing → Run
  | 0, r, _, _, _, _ => r
  | fuel + 1, r, e, k, entries, f =>
    let stage := r.s.par Ix.keyStage k
    let next := if f.branch = 4 then r.s.parAt e.t Ix.keyStageNext (16 * k + stage)
      else r.s.parAt e.t Ix.keyBrNext (brSub k stage f.branch)
    let r1 := r.runList e k stage f
    if (r1.ops.drop r.ops.length).contains (k, false) then r1
    else if next = 254 then { r1 with ops := r1.ops ++ [(k, false)] }
    else if next = 255 then r1.stay e k stage f
    else if 4 ≤ entries then { r1 with s := r1.s.cnt Ix.keyCascadeLimit k }.stay e k stage f
    else
      let v := (r1.enterStage e k next).evalStage e true k
      match v.2 with
      | some g => Run.fire fuel v.1 e k (entries + 1) g
      | none => v.1

/-- A sequencer evaluates an item (R159 step 2). -/
def Run.evalSeq (e : Ev) (r : Run) (k : Nat) : Run :=
  if !r.s.armed k then r
  else
    let due := e.deadline && decide ((r.s.seqOf k).timeout.map r.s.place = some e.t)
    let v := r.evalStage e false k
    let q := v.1.s.seqOf k
    let r1 := if due then { v.1 with s := v.1.s.setSeq k { q with timeout := none } } else v.1
    match v.2 with
    | some f => Run.fire 5 r1 e k 0 f
    | none => if due then Run.fire 5 r1 e k 0 ⟨4, 255, false⟩ else r1

/-! ### Arming and disarming (R179 to R181, R171) -/

/-- STAGE timers, and with `all` ARMED timers, that name a sequencer start again (R171). -/
def State.timersReset (s : State) (k : Nat) (all : Bool) : State :=
  s.units.foldl (fun (v : State) (x : Nat × UnitSt) =>
    let c := v.unitCfg x.2.since x.1
    if !x.2.stale && decide (c.typ = 9) && decide (c.seq = k) && (decide (c.mode % 4 = 0) || (all && decide (c.mode % 4 = 1))) then
      let q := v.seqOf k
      let due := if v.armed k then some ((if c.mode % 4 = 0 then q.entry else q.armedAt) + c.span) else none
      { v with units := tset v.units x.1 { x.2 with due := due } }.setPar Ix.keyCuState x.1 0
    else v) s

/-- A sequencer is armed at `e.t`: entry into KEY.START_STAGE and entry evaluation (R179). -/
def Run.arm (r : Run) (e : Ev) (k : Nat) : Run :=
  let q := r.s.seqOf k
  let s1 := (r.s.setSeq k { q with armed := true, armedAt := e.t }).setPar Ix.keyArmed k 1
  let v := ({ r with s := s1 }.enterStage e k (s1.parAt e.t Ix.keyStartStage k)).evalStage e true k
  match v.2 with
  | some f => Run.fire 5 v.1 e k 1 f
  | none => v.1

/-- A sequencer is disarmed: holds, counts and timeout discarded (Table 5). -/
def State.disarm (s : State) (k : Nat) : State :=
  let q := s.seqOf k
  (s.setSeq k { q with armed := false, br0 := {}, br1 := {}, br2 := {}, br3 := {}, timeout := none }).setPar Ix.keyArmed k 0

/-- One ARM or DISARM action of an item acts (R181); `all` are the actions of the item so far. A target that an action of the
item disarms ends DISARMED. -/
def Run.applyOp (e : Ev) (all : List (Nat × Bool)) (r : Run) (op : Nat × Bool) : Run :=
  let k := op.1
  if (tfind r.s.seqs k).isNone then r
  else if !op.2 then (if r.s.armed k then { r with s := r.s.disarm k } else r)
  else if all.contains (k, false) ∨ r.s.armed k then r
  else r.arm e k

/-- Step 3 of R159: the actions of the item, and those that the entry evaluations of its armings bring. -/
def Run.step3 : Nat → Ev → Nat → Run → Run
  | 0, _, _, r => r
  | fuel + 1, e, done, r =>
    if r.ops.length ≤ done then r
    else
      let all := r.ops
      Run.step3 fuel e all.length ((all.drop done).foldl (Run.applyOp e all) r)

/-- KEY.ARM_IGNORED of one action, once every action of the item is known (R179, R181); `before` are the sequencers armed before
the item. -/
def Run.countOp (before : List Nat) (all : List (Nat × Bool)) (r : Run) (op : Nat × Bool) : Run :=
  if (tfind r.s.seqs op.1).isNone ∨ (!all.contains (op.1, !op.2) ∧ before.contains op.1 = op.2) then
    { r with s := r.s.cnt Ix.keyArmIgnored op.1 }
  else r

/-- The STAGE and ARMED timers after an item (R171). -/
def Run.timers (before : List Nat) (r : Run) (k : Nat) : Run :=
  if before.contains k ≠ r.s.armed k then { r with s := r.s.timersReset k true }
  else if r.moved.contains k then { r with s := r.s.timersReset k false } else r

/-- The sequencers that are armed. -/
def State.armedList (s : State) : List Nat := (List.range 4).filter s.armed

/-- The end of an item: step 3, the timers, and the MARK records in their order (R159, R171, R183). -/
def Run.finish (r : Run) (e : Ev) (before : List Nat) (done : Nat) : State :=
  let r0 := Run.step3 8 e done r
  let r1 := r0.ops.foldl (Run.countOp before r0.ops) r0
  let r2 := (List.range 4).foldl (Run.timers before) r1
  let inOrder := (List.range 4).flatMap (fun k => r2.marks.filter (fun m => decide (m.1 = k)))
  inOrder.foldl (fun s m => s.deliver m.2.1 m.2.2) r2.s

/-- Steps 2 and 3 of R159. -/
def State.sequence (s : State) (e : Ev) : State :=
  let before := s.armedList
  ((List.range 4).foldl (Run.evalSeq e) { s := s }).finish e before 0

/-! ### Deadlines (R158) -/

/-- The deadlines of an armed sequencer. -/
def SeqSt.deadlines (q : SeqSt) : List Nat :=
  if q.armed then q.br0.hold.toList ++ q.br1.hold.toList ++ q.br2.hold.toList ++ q.br3.hold.toList ++ q.timeout.toList
  else []

/-- The earliest deadline. -/
def State.nextDeadline (s : State) : Option Nat :=
  (s.units.flatMap (fun x => s.unitDeadlines x.1 x.2) ++ s.seqs.flatMap (fun x => x.2.deadlines.map s.place)).foldl
    (fun m d => match m with
      | some c => some (min c d)
      | none => some d) none

/-- A deadline item comes before what is stamped `t` (from a source 203 to 255 where `internal`). -/
def State.deadlineFirst (s : State) (t : Nat) (internal : Bool) : Bool :=
  match s.nextDeadline with
  | some d => decide (d < t) || (internal && decide (d = t))
  | none => false

/-! ### Changes on the line of stamps (R162, R165, R179, R231) -/

/-- A change at an effective time reaches Keystone or the stream assembler. -/
def State.control (s : State) (t : Nat) (c : Ctl) : State :=
  match c with
  | .unit u on => if on then s.unitStart u t else s.unitStop u
  | .seq k on =>
    if on then s.setSeq k {}
    else
      let s1 := if s.armed k then s.disarm k else s
      { s1 with seqs := terase s1.seqs k }.timersReset k true
  | .arm k on =>
    if (tfind s.seqs k).isNone then s
    else if on then
      if s.armed k then s
      else
        let e : Ev := ⟨t, none, false, {}⟩
        let r : Run := { s := s }
        let r1 := r.arm e k
        { r1 with s := r1.s.timersReset k true }.finish e (s.armedList ++ [k]) 0
    else if s.armed k then (s.disarm k).timersReset k true else s
  | .streamOn n restart => s.streamBegin n t restart
  | .streamOff n => s.streamEnd n
  | .closeFrames => (List.range 8).foldl (State.stepClose t) s
  | .src n level zone => (s.setSrc n ⟨level, zone, none⟩).unitsFollow n t

/-- The changes at the front of the intake act, each after the deadlines before it. -/
def State.settle : Nat → State → State
  | 0, s => s
  | fuel + 1, s =>
    match s.cw.intake with
    | .ctl t c :: rest =>
      if s.deadlineFirst t false then s
      else State.settle fuel ({ s with cw := { s.cw with intake := rest } }.control t c)
    | _ => s

/-- `settle` as far as it goes. -/
def State.settleCtl (s : State) : State := s.settle s.cw.intake.length

/-- Keystone has processed every item stamped below this tick: what is released and taken, up to the next deadline. -/
def State.keystonePassed (s : State) : Nat :=
  let released := match s.cw.intake with
    | x :: _ => min x.stamp (s.cw.bucket * 1280)
    | [] => s.cw.bucket * 1280
  match s.nextDeadline with
  | some d => min d released
  | none => released

/-- After an item: the changes that come next act, and the PULSE_END records that are certain now enter the store (R198). -/
def State.itemDone (s : State) : State :=
  let s1 := s.settleCtl
  s1.enterEnds s1.keystonePassed

/-! ### The commands -/

/-- The streams that a released record reaches (R160, R231, R232). -/
def State.destinations (s : State) (r : Rec) (only : Option Nat) : Nat :=
  match only with
  | some n => 2 ^ n
  | none => s.routes r

/-- Keystone and the stream assembler take a released record (R159, R160). -/
def State.takeRecord (s : State) (r : Rec) (only : Option Nat) : State :=
  let u := (s.deliver (s.destinations r only) r).unitsRecord r
  u.1.sequence ⟨r.stamp, some r.src, false, u.2⟩

/-- KEYSTONE_ITEM: the next released record (R158, R159). -/
def execKeystoneItem (t : Nat) (s : State) : Host.Outcome State Fault Refusal :=
  let s1 := s.enter t
  if !s1.merging then .next s1
  else
    let s2 := s1.settleCtl
    match s2.cw.intake with
    | .record r only :: rest =>
      if s2.deadlineFirst r.stamp (decide (203 ≤ r.src)) then .next s2
      else .next ({ s2 with cw := { s2.cw with intake := rest } }.takeRecord r only).itemDone
    | _ => .next s2

/-- An item of the intake comes before the deadline item of tick `d` (R158). -/
def Item.beforeDeadline (d : Nat) : Item → Bool
  | .ctl t _ => decide (t ≤ d)
  | .record r _ => decide (r.stamp < d) || (decide (r.stamp = d) && decide (r.src < 203))

/-- DEADLINE_ITEM: the earliest deadline, once everything that comes before it has been released and taken (R158). -/
def execDeadlineItem (t : Nat) (s : State) : Host.Outcome State Fault Refusal :=
  let s1 := s.enter t
  if !s1.merging then .next s1
  else
    let s2 := s1.settleCtl
    match s2.nextDeadline with
    | some d =>
      if d / 1280 < s2.cw.bucket ∧ !s2.cw.intake.any (Item.beforeDeadline d) then
        let u := s2.unitsDeadline d
        .next (u.1.sequence ⟨d, none, true, u.2⟩).itemDone
      else .next s2
    | none => .next s2

end Sys2Proof.Machine
end

