-- ==== Sys2Proof/Machine/Causeway.lean ====
section
/-! DEFINITION. The release of the Causeway (06_causeway.md R140, R141, R152, R154) and the loads that empty it (R153).

Readings and choices here: DEDUCED log 17, log 25, log 74. -/
namespace Sys2Proof.Machine

/-- The first bucket not yet due at a cycle that begins at or before `t`: bucket b is due at the first cycle at or
after (b + 1) × 1,280 + H (R140). -/
def dueBuckets (horizon t : Nat) : Nat := t / 1280 - (horizon + 1279) / 1280

/-- The item belongs to a bucket below `b`. -/
def Item.inBuckets (b : Nat) (i : Item) : Bool := decide (i.stamp / 1280 < b)

/-- Buckets below this one are due now: by the horizon, or since a forward step (R140, R152). -/
def State.dueBucket (s : State) : Nat := max s.cw.dueTo (dueBuckets s.horizon s.now)

/-- A GUARD record that entered before its stamp and whose edge has not been performed yet: what it reports is still open. -/
def State.openGuard (s : State) : Item → Bool
  | .record r none => s.slots.any (fun x => (!x.done && decide (x.entered = some r)) || decide (x.endEntered = some r))
  | _ => false

/-- The items that leave are read; a GAP that stands for a damaged record takes its own place in the order of R137. -/
def State.readItems (errs : List CodeErr) : Nat → List Item → List Item → State → State × List Item
  | _, done, [], s => (s, done)
  | i, done, .ctl t c :: rest, s => State.readItems errs i (insertItem (.ctl t c) done) rest s
  | i, done, .record r only :: rest, s =>
    let u := s.readEntry errs i r
    State.readItems errs (i + 1) (insertItem (.record u.2 only) done) rest u.1

/-- Items that have been read leave in order for Keystone and the stream assembler; CW.RELEASE_LAG_MAX follows. -/
def State.releaseItem (s : State) (x : Item) : State :=
  let s1 := if x.isRecord then s.mark Ix.cwReleaseLagMax 0 (s.now - (x.stamp + s.horizon)) else s
  { s1 with cw := { s1.cw with intake := s1.cw.intake ++ [x] } }

/-- The item is a GAP record. -/
def Item.isGap : Item → Bool
  | .record r _ => decide (r.typ = 4)
  | .ctl _ _ => false

/-- The due items of the store that leave in a cycle with room for `events` and `gaps`, and those that stay, both in order: the
first record that finds no room holds back all that follow (R140). -/
def splitDue (due : Item → Bool) : Nat → Nat → List Item → List Item × List Item
  | _, _, [] => ([], [])
  | events, gaps, x :: rest =>
    if !due x then
      let r := splitDue due events gaps rest
      (r.1, x :: r.2)
    else if !x.isRecord then
      let r := splitDue due events gaps rest
      (x :: r.1, r.2)
    else if x.isGap then
      (if gaps = 0 then ([], x :: rest)
       else
        let r := splitDue due events (gaps - 1) rest
        (x :: r.1, r.2))
    else if events = 0 then ([], x :: rest)
    else
      let r := splitDue due (events - 1) gaps rest
      (x :: r.1, r.2)

/-- The release counts for cycle `c`. -/
def PortSt.out (p : PortSt) (c : Nat) : PortSt :=
  if p.outCycle = c then p else { p with outCycle := c, outEvents := 0, outGaps := 0 }

/-- The due buckets are released, at most 64 events and 32 GAP records in a cycle (R140, R152). -/
def State.releaseDue (s : State) (errs : List CodeErr) : State :=
  let b := s.dueBucket
  let due (x : Item) : Bool := x.inBuckets b && !s.openGuard x
  let p := s.cw.port.out (s.now / 1280)
  let r := splitDue due (64 - p.outEvents) (32 - p.outGaps) s.cw.store
  let left := match r.2.find? due with
    | some x => x.stamp / 1280
    | none => b
  let gaps := (r.1.filter Item.isGap).length
  let events := (r.1.filter Item.isRecord).length - gaps
  let q := { p with outEvents := p.outEvents + events, outGaps := p.outGaps + gaps }
  let s1 := { s with cw := { s.cw with store := r.2, bucket := max s.cw.bucket left, port := q } }
  let u := State.readItems errs 0 [] r.1 s1
  u.2.foldl State.releaseItem u.1

/-- CAUSEWAY_RELEASE: the buckets due by this cycle are released in the order of R137; while the Causeway does not run nothing is
(R18, R154). `errs` are codewords of the store found in error. -/
def execCausewayRelease (t : Nat) (errs : List CodeErr) (s : State) : Host.Outcome State Fault Refusal :=
  let s1 := s.enter t
  if s1.merging then .next (s1.releaseDue errs).itemDone else .next s1

/-- What was made while the Causeway was stopped enters the store (R154). -/
def State.admitLate (s : State) : State :=
  s.cw.late.foldl State.admitItem { s with cw := { s.cw with late := [] } }

/-- Events of a list of items. -/
def recordsIn (l : List Item) : Nat := (l.filter Item.isRecord).length

/-- A load discards every event in the store and in the lane and line buffers (R153), also those released and not yet
taken and those not yet judged; changes on the line of stamps that were due still act, at the load instant. -/
def State.discardEvents (s : State) : State :=
  let buffered := (s.edge.map (fun x => x.2.buf.length)).sum
  let ctls := (s.cw.intake ++ s.cw.store).filter (fun i => !i.isRecord)
  let n := recordsIn s.cw.store + recordsIn s.cw.intake + buffered
  let s1 := s.cntN Ix.cwLoadDiscards 0 n
  let s2 := { s1 with
    cw := { s1.cw with store := [], intake := ctls, late := [], past := [] }
    edge := s1.edge.map (fun (x : Nat × EdgeSt) => (x.1, { x.2 with buf := [], edges := [], counted := [], accounts := [], blind := none, sampleLevel := x.2.level })) }
  s2.settleCtl

end Sys2Proof.Machine
end

