-- ==== Sys2Proof/Machine/Crypto.lean ====
section
/-! DEFINITION. The cryptographic functions that the spec names: SHA-384, HMAC and HKDF over it, AES-256-GCM, ECDSA and ECDH on
brainpoolP384r1 (16_field_network.md R378, R379; 18_store_firmware_security.md R418, R429, R433, R435).

Readings and choices here: DESIGN CHOICE log 64; PRESUMED log 82. -/
namespace Sys2Proof.Machine

/-! ### Big-endian numbers -/

/-- The number that bytes spell, first byte highest. -/
def ofBytesBE (bs : List Byte) : Nat := ofBytes bs.reverse

/-- `k` bytes of a number, highest first. -/
def bytesBE (k n : Nat) : List Byte := (bytesLE k n).reverse

/-- Zero bytes up to a multiple of `m`. -/
def padTo (m : Nat) (bs : List Byte) : List Byte := bs ++ List.replicate ((m - bs.length % m) % m) 0

/-- Bytes combined one by one by exclusive or; the longer one is cut. -/
def xorBytes (a b : List Byte) : List Byte := List.zipWith (fun x y => x ^^^ y) a b

/-- Groups of `k` bytes; `fuel` bounds their number. -/
def chunks (k : Nat) : Nat → List Byte → List (List Byte)
  | 0, _ => []
  | fuel + 1, bs => if bs.isEmpty then [] else bs.take k :: chunks k fuel (bs.drop k)

/-! ### SHA-384 (FIPS 180-4) -/

/-- The round constants: the fractions of the cube roots of the first eighty primes. -/
def shaK : List Nat :=
  [0x428A2F98D728AE22, 0x7137449123EF65CD, 0xB5C0FBCFEC4D3B2F, 0xE9B5DBA58189DBBC]
  ++ [0x3956C25BF348B538, 0x59F111F1B605D019, 0x923F82A4AF194F9B, 0xAB1C5ED5DA6D8118]
  ++ [0xD807AA98A3030242, 0x12835B0145706FBE, 0x243185BE4EE4B28C, 0x550C7DC3D5FFB4E2]
  ++ [0x72BE5D74F27B896F, 0x80DEB1FE3B1696B1, 0x9BDC06A725C71235, 0xC19BF174CF692694]
  ++ [0xE49B69C19EF14AD2, 0xEFBE4786384F25E3, 0x0FC19DC68B8CD5B5, 0x240CA1CC77AC9C65]
  ++ [0x2DE92C6F592B0275, 0x4A7484AA6EA6E483, 0x5CB0A9DCBD41FBD4, 0x76F988DA831153B5]
  ++ [0x983E5152EE66DFAB, 0xA831C66D2DB43210, 0xB00327C898FB213F, 0xBF597FC7BEEF0EE4]
  ++ [0xC6E00BF33DA88FC2, 0xD5A79147930AA725, 0x06CA6351E003826F, 0x142929670A0E6E70]
  ++ [0x27B70A8546D22FFC, 0x2E1B21385C26C926, 0x4D2C6DFC5AC42AED, 0x53380D139D95B3DF]
  ++ [0x650A73548BAF63DE, 0x766A0ABB3C77B2A8, 0x81C2C92E47EDAEE6, 0x92722C851482353B]
  ++ [0xA2BFE8A14CF10364, 0xA81A664BBC423001, 0xC24B8B70D0F89791, 0xC76C51A30654BE30]
  ++ [0xD192E819D6EF5218, 0xD69906245565A910, 0xF40E35855771202A, 0x106AA07032BBD1B8]
  ++ [0x19A4C116B8D2D0C8, 0x1E376C085141AB53, 0x2748774CDF8EEB99, 0x34B0BCB5E19B48A8]
  ++ [0x391C0CB3C5C95A63, 0x4ED8AA4AE3418ACB, 0x5B9CCA4F7763E373, 0x682E6FF3D6B2B8A3]
  ++ [0x748F82EE5DEFB2FC, 0x78A5636F43172F60, 0x84C87814A1F0AB72, 0x8CC702081A6439EC]
  ++ [0x90BEFFFA23631E28, 0xA4506CEBDE82BDE9, 0xBEF9A3F7B2C67915, 0xC67178F2E372532B]
  ++ [0xCA273ECEEA26619C, 0xD186B8C721C0C207, 0xEADA7DD6CDE0EB1E, 0xF57D4F7FEE6ED178]
  ++ [0x06F067AA72176FBA, 0x0A637DC5A2C898A6, 0x113F9804BEF90DAE, 0x1B710B35131C471B]
  ++ [0x28DB77F523047D84, 0x32CAAB7B40C72493, 0x3C9EBE0A15C9BEBC, 0x431D67C49C100D4C]
  ++ [0x4CC5D4BECB3E42B6, 0x597F299CFC657E2A, 0x5FCB6FAB3AD6FAEC, 0x6C44198C4A475817]

/-- The initial hash value of SHA-384. -/
def shaIv : List Nat :=
  [0xCBBB9D5DC1059ED8, 0x629A292A367CD507, 0x9159015A3070DD17, 0x152FECD8F70E5939]
  ++ [0x67332667FFC00B31, 0x8EB44A8768581511, 0xDB0C2E0D64F98FA7, 0x47B5481DBEFA4FA4]

/-- Rotation of a 64-bit word to the right. -/
def rotr64 (x n : Nat) : Nat := (x >>> n) ||| (x <<< (64 - n)) % 2 ^ 64

/-- The 64-bit complement. -/
def not64 (x : Nat) : Nat := 2 ^ 64 - 1 - x % 2 ^ 64

/-- The message schedule grows by one word; the newest word stands first. -/
def shaGrow (w : List Nat) : List Nat :=
  let a := w.getD 1 0
  let b := w.getD 14 0
  let s0 := rotr64 b 1 ^^^ rotr64 b 8 ^^^ (b >>> 7)
  let s1 := rotr64 a 19 ^^^ rotr64 a 61 ^^^ (a >>> 6)
  (s1 + w.getD 6 0 + s0 + w.getD 15 0) % 2 ^ 64 :: w

/-- The eighty words of the schedule of a block. -/
def shaSchedule (block : List Byte) : List Nat :=
  let m := (chunks 8 16 block).map ofBytesBE
  ((List.range 64).foldl (fun w _ => shaGrow w) m.reverse).reverse

/-- One round on the eight working words; `x` is the round constant and the word of the schedule. -/
def shaRound (v : List Nat) (x : Nat × Nat) : List Nat :=
  match v with
  | [a, b, c, d, e, f, g, h] =>
    let t1 := h + (rotr64 e 14 ^^^ rotr64 e 18 ^^^ rotr64 e 41) + ((e &&& f) ^^^ (not64 e &&& g)) + x.1 + x.2
    let t2 := (rotr64 a 28 ^^^ rotr64 a 34 ^^^ rotr64 a 39) + ((a &&& b) ^^^ (a &&& c) ^^^ (b &&& c))
    [(t1 + t2) % 2 ^ 64, a, b, c, (d + t1) % 2 ^ 64, e, f, g]
  | _ => v

/-- A block of 128 bytes is taken into the hash value. -/
def shaBlock (h : List Nat) (block : List Byte) : List Nat :=
  let v := (List.zip shaK (shaSchedule block)).foldl shaRound h
  List.zipWith (fun a b => (a + b) % 2 ^ 64) h v

/-- The message with its padding: 0x80, zeros, the length in bits in 16 bytes. -/
def shaPad (bs : List Byte) : List Byte :=
  let n := bs.length
  bs ++ [0x80] ++ List.replicate ((239 - n % 128) % 128) 0 ++ bytesBE 16 (8 * n)

/-- The 48 bytes of SHA-384. -/
def sha384Bytes (bs : List Byte) : List Byte :=
  let p := shaPad bs
  (((chunks 128 (p.length / 128) p).foldl shaBlock shaIv).flatMap (bytesBE 8)).take 48

/-- SHA-384 as the number that its 48 bytes spell, first byte lowest. -/
def sha384 (bs : List Byte) : Nat := ofBytes (sha384Bytes bs)

/-! ### HMAC and HKDF (RFC 2104, RFC 5869) -/

/-- HMAC-SHA-384. -/
def hmac384 (key msg : List Byte) : List Byte :=
  let k0 := if 128 < key.length then sha384Bytes key else key
  let k := k0 ++ List.replicate (128 - k0.length) 0
  sha384Bytes (k.map (· ^^^ 0x5C) ++ sha384Bytes (k.map (· ^^^ 0x36) ++ msg))

/-- The first 64 bytes that HKDF-SHA-384 gives. -/
def hkdf384 (salt ikm info : List Byte) : List Byte :=
  let prk := hmac384 salt ikm
  let t1 := hmac384 prk (info ++ [1])
  (t1 ++ hmac384 prk (t1 ++ info ++ [2])).take 64

/-! ### AES-256 (FIPS 197) -/

/-- The S-box, sixteen bytes to a row, each row a number with its first byte lowest. -/
def aesBox : List Nat :=
  [0x76ABD7FE2B670130C56F6BF27B777C63, 0xC072A49CAFA2D4ADF04759FA7DC982CA, 0x1531D871F1E5A534CCF73F362693FDB7,
   0x75B227EBE28012079A059618C323C704, 0x842FE329B3D63B52A05A6E1B1A2C8309, 0xCF584C4A39BECB6A5BB1FC20ED00D153,
   0xA89F3C507F02F94585334D43FBAAEFD0, 0xD2F3FF1021DAB6BCF5389D928F40A351, 0x73195D643D7EA7C41744975FEC130CCD,
   0xDB0B5EDE14B8EE4688902A22DC4F8160, 0x79E4959162ACD3C25C2406490A3A32E0, 0x08AE7A65EAF4566CA94ED58D6D37C8E7,
   0x8A8BBD4B1F74DDE8C6B4A61C2E2578BA, 0x9E1DC186B95735610EF6034866B53E70, 0xDF2855CEE9871E9B948ED9691198F8E1,
   0x16BB54B00F2D99416842E6BF0D89A18C]

/-- SubBytes of one byte. -/
def aesSub (b : Byte) : Byte := BitVec.ofNat 8 (aesBox.getD (b.toNat / 16) 0 >>> (8 * (b.toNat % 16)))

/-- Multiplication by x in the field of AES. -/
def aesDouble (b : Byte) : Byte := BitVec.ofNat 8 (if b.toNat < 128 then 2 * b.toNat else (2 * b.toNat) ^^^ 0x11B)

/-- The key schedule grows by one word of four bytes; the newest word stands first, `i` is its number. -/
def aesGrow (w : List (List Byte)) (i : Nat) : List (List Byte) :=
  let last := w.getD 0 []
  let t :=
    if i % 8 = 0 then
      let r := (last.drop 1 ++ last.take 1).map aesSub
      xorBytes r [BitVec.ofNat 8 (2 ^ (i / 8 - 1)), 0, 0, 0]
    else if i % 8 = 4 then last.map aesSub else last
  xorBytes (w.getD 7 []) t :: w

/-- The fifteen round keys of 16 bytes. -/
def aesKeys (key : List Byte) : List (List Byte) :=
  let w := ((List.range 52).foldl (fun w i => aesGrow w (i + 8)) (chunks 4 8 key).reverse).reverse
  chunks 16 15 w.flatten

/-- ShiftRows: byte r of column c comes from column c + r. -/
def aesShift (s : List Byte) : List Byte := (List.range 16).map (fun i => s.getD ((i + 4 * (i % 4)) % 16) 0)

/-- MixColumns of one column. -/
def aesMix (c : List Byte) : List Byte :=
  let x (i : Nat) : Byte := c.getD (i % 4) 0
  (List.range 4).map (fun i => aesDouble (x i) ^^^ (aesDouble (x (i + 1)) ^^^ x (i + 1)) ^^^ x (i + 2) ^^^ x (i + 3))

/-- The rounds after the first key has been added; the last has no MixColumns. -/
def aesRounds : List (List Byte) → List Byte → List Byte
  | [], s => s
  | [k], s => xorBytes (aesShift (s.map aesSub)) k
  | k :: ks, s => aesRounds ks (xorBytes ((chunks 4 4 (aesShift (s.map aesSub))).flatMap aesMix) k)

/-- AES-256 of a block of 16 bytes. -/
def aes256 (key block : List Byte) : List Byte :=
  match aesKeys key with
  | k :: ks => aesRounds ks (xorBytes block k)
  | [] => block

/-! ### GCM (NIST SP 800-38D) -/

/-- One bit of the multiplication of GHASH: the product so far, the multiplicand; `i` counts the bits of `x` from the highest. -/
def ghashBit (x : Nat) (a : Nat × Nat) (i : Nat) : Nat × Nat :=
  (if bit x (127 - i) then a.1 ^^^ a.2 else a.1, if a.2 % 2 = 1 then (a.2 / 2) ^^^ (0xE1 * 2 ^ 120) else a.2 / 2)

/-- The product of GHASH. -/
def ghashMul (x y : Nat) : Nat := ((List.range 128).foldl (ghashBit x) (0, y)).1

/-- GHASH of whole blocks. -/
def ghash (h : Nat) (bs : List Byte) : Nat :=
  (chunks 16 (bs.length / 16) bs).foldl (fun y b => ghashMul (y ^^^ ofBytesBE b) h) 0

/-- `n` bytes of key stream from counter value 2 on. -/
def gcmStream (key nonce : List Byte) (n : Nat) : List Byte :=
  (((List.range ((n + 15) / 16)).flatMap (fun i => aes256 key (nonce ++ bytesBE 4 (i + 2)))).take n)

/-- AES-256-GCM: the ciphertext and the tag of 16 bytes. -/
def gcmSeal (key nonce aad plain : List Byte) : List Byte × List Byte :=
  let c := xorBytes plain (gcmStream key nonce plain.length)
  let h := ofBytesBE (aes256 key (List.replicate 16 0))
  let g := ghash h (padTo 16 aad ++ padTo 16 c ++ bytesBE 8 (8 * aad.length) ++ bytesBE 8 (8 * c.length))
  (c, xorBytes (aes256 key (nonce ++ bytesBE 4 1)) (bytesBE 16 g))

/-! ### brainpoolP384r1 (RFC 5639) -/

def ecP : Nat := 0x8CB91E82A3386D280F5D6F7E50E641DF152F7109ED5456B412B1DA197FB71123ACD3A729901D1A71874700133107EC53
def ecA : Nat := 0x7BC382C63D8C150C3C72080ACE05AFA0C2BEA28E4FB22787139165EFBA91F90F8AA5814A503AD4EB04A8C7DD22CE2826
def ecB : Nat := 0x04A8C7DD22CE28268B39B55416F0447C2FB77DE107DCD2A62E880EA53EEB62D57CB4390295DBC9943AB78696FA504C11
def ecN : Nat := 0x8CB91E82A3386D280F5D6F7E50E641DF152F7109ED5456B31F166E6CAC0425A7CF3AB6AF6B7FC3103B883202E9046565

/-- A point; none is the point at infinity. -/
abbrev EcPoint := Option (Nat × Nat)

/-- The base point. -/
def ecG : EcPoint :=
  some (0x1D1C64F068CF45FFA2A63A81B7C13F6B8847A3E77EF14FE3DB7FCAFE0CBD10E8E826E03436D646AAEF87B2E247D4AF1E,
    0x8ABE1D7520F9C2A45CB1EB8E95CFD55262B70B29FEEC5864E19C054FF99129280E4646217791811142820341263C5315)

/-- A power modulo `m`, of an exponent below 2^384. -/
def powMod (m a e : Nat) : Nat :=
  (List.range 384).foldl (fun r i => if bit e (383 - i) then r * r % m * a % m else r * r % m) (1 % m)

/-- The inverse modulo a prime. -/
def invMod (m a : Nat) : Nat := powMod m (a % m) (m - 2)

/-- The point on a line of slope `l` through a point, reflected. -/
def ecThird (l x1 y1 x2 : Nat) : EcPoint :=
  let x := (l * l + 2 * ecP - x1 - x2) % ecP
  some (x, (l * (x1 + ecP - x) + ecP - y1) % ecP)

/-- The sum of two points. -/
def ecAdd (a b : EcPoint) : EcPoint :=
  match a, b with
  | none, q => q
  | p, none => p
  | some (x1, y1), some (x2, y2) =>
    if x1 = x2 then
      if (y1 + y2) % ecP = 0 then none
      else ecThird ((3 * x1 * x1 + ecA) * invMod ecP (2 * y1) % ecP) x1 y1 x2
    else ecThird ((y2 + ecP - y1) * invMod ecP (x2 + ecP - x1) % ecP) x1 y1 x2

/-- A multiple of a point, by a number below 2^384. -/
def ecMul (k : Nat) (p : EcPoint) : EcPoint :=
  (List.range 384).foldl (fun r i => if bit k (383 - i) then ecAdd (ecAdd r r) p else ecAdd r r) none

/-- The point lies on the curve. -/
def ecOn (x y : Nat) : Bool := decide (x < ecP) && decide (y < ecP) && decide ((x * x * x + ecA * x + ecB) % ecP = y * y % ecP)

/-- An uncompressed public key of 97 bytes: 0x04, x, y. -/
def ecDecode (bs : List Byte) : EcPoint :=
  match bs with
  | h :: t =>
    let x := ofBytesBE (t.take 48)
    let y := ofBytesBE (t.drop 48)
    if h = 4 ∧ t.length = 96 ∧ ecOn x y then some (x, y) else none
  | [] => none

/-- The uncompressed form of a point. -/
def ecEncode (p : EcPoint) : List Byte :=
  match p with
  | some (x, y) => 4 :: (bytesBE 48 x ++ bytesBE 48 y)
  | none => List.replicate 97 0

/-- A number from 1 to n − 1, made of any number. -/
def ecScalar (n : Nat) : Nat := 1 + n % (ecN - 1)

/-- The ECDSA signature r, s of a digest by a private key, with the secret number `k`: 96 bytes. -/
def ecdsaSign (key k : Nat) (digest : List Byte) : List Byte :=
  let r := match ecMul k ecG with
    | some (x, _) => x % ecN
    | none => 0
  bytesBE 48 r ++ bytesBE 48 (invMod ecN k * (ofBytesBE digest + r * key) % ecN)

/-- An ECDSA signature of 96 bytes verifies under a public key. -/
def ecdsaVerifies (key digest sig : List Byte) : Bool :=
  let r := ofBytesBE (sig.take 48)
  let s := ofBytesBE ((sig.drop 48).take 48)
  let w := invMod ecN s
  match ecDecode key with
  | some q =>
    let e := ofBytesBE digest
    match ecAdd (ecMul (e * w % ecN) ecG) (ecMul (r * w % ecN) (some q)) with
    | some (x, _) =>
      decide (0 < r) && decide (r < ecN) && decide (0 < s) && decide (s < ecN) && decide (sig.length = 96) && decide (x % ecN = r)
    | none => false
  | none => false

/-! ### The device key (R433) -/

/-- SEC.DEVICE_PUBKEY. -/
def devicePublic : List Byte := ecEncode (ecMul (ecScalar Config.devicePrivate) ecG)

/-- The signature of the device key, of a digest, with the `n`-th free value as its secret number. -/
def deviceSign (n : Nat) (digest : List Byte) : List Byte :=
  ecdsaSign (ecScalar Config.devicePrivate) (ecScalar (Config.freeNat n)) digest

end Sys2Proof.Machine
end

