-- ==== Sys2Proof/Machine/Copies.lean ====
section
/-! DEFINITION. What the flash holds: configuration copies, which of them counts, firmware slots
(18_store_firmware_security.md R417 to R420, R429). -/
namespace Sys2Proof.Machine

/-! ### A copy (R418) -/

/-- Header bytes 0 to 31 of a copy as words W0 to W7 (R418 Table 2). -/
def Copy.header (c : Copy) : List Word :=
  [w32 0x46434845, w32 (65536 + 8 * b2n c.keys + 4 * b2n c.refresh + b2n c.signed), w32 c.seq, w32 (4 * c.body.length),
   w32 (c.chip % 65536 * 65536 + c.count % 65536), w32 c.writeAge, w32 c.fwVersion, 0]

/-- DIGEST of a copy, in byte order of the hash output (R418). -/
def Copy.digestBytes (c : Copy) : List Byte := sha384Bytes (bytesOfWords (c.header ++ c.body))
def Copy.digest (c : Copy) : Nat := ofBytes c.digestBytes

/-- The bytes of a committed copy from the base of its slot: the header of 128 bytes with DIGEST and COMMIT, the body, the signature
where there is one (R418 Table 2). -/
def Copy.image (c : Copy) : List Byte :=
  bytesOfWords c.header ++ c.digestBytes ++ List.replicate 44 0 ++ bytesLE 4 0xA5C33C5A ++ bytesOfWords c.body
    ++ (if c.signed then c.sig else [])

/-! ### The flash (R417 Table 1, R429 Table 4) -/

/-- The flash offset of a slot of a copy region, 0 A, 1 B. -/
def copyBase (region slot : Nat) : Nat := 0x100000 + 0x800000 * region + 0x80000 * slot

/-- The flash offset of a firmware slot. -/
def fwBase (n : Nat) : Nat := 0x1100000 + 0x400000 * n

/-- The trailer of a firmware slot: its last 20 bytes (Table 4). -/
def FwSlot.trailer (f : FwSlot) : List Byte :=
  let act := f.act.getD 0xFFFFFFFF
  bytesLE 4 (if f.committed then 0xA5C33C5A else 0xFFFFFFFF) ++ bytesLE 4 act
    ++ bytesLE 4 (match f.act with
      | some a => 0xFFFFFFFF - a % 2 ^ 32
      | none => 0xFFFFFFFF)
    ++ bytesLE 4 (if f.confirm then 0xA5C33C5A else 0xFFFFFFFF) ++ bytesLE 4 (if f.committed then f.writeAge else 0xFFFFFFFF)

/-- What stands in the flash in the copy regions and the firmware slots: offsets and bytes (R417 Table 1). -/
def State.flash (s : State) : List (Nat × List Byte) :=
  s.nv.copies.map (fun (x : Nat × Copy) => (copyBase (x.1 / 16) (x.1 % 16), x.2.image))
    ++ s.nv.fw.flatMap (fun (x : Nat × FwSlot) => [(fwBase x.1, x.2.data), (fwBase x.1 + 0x3FFFEC, x.2.trailer)])

/-! ### Which copy (R419, R420) -/

/-- s1 is newer than s2 by serial-number arithmetic (R420). -/
def newer (a b : Nat) : Bool :=
  let d := (a + 2 ^ 32 - b % 2 ^ 32) % 2 ^ 32
  decide (1 ≤ d) && decide (d < 2 ^ 31)

/-- A copy needs a signature that verifies. -/
def State.needsSig (s : State) (c : Copy) : Bool := c.signed || c.keys || decide (s.par Ix.storeRequireSigned 0 = 1)

/-- The copy is valid (R419). -/
def State.copyValid (s : State) (c : Copy) : Bool := c.digestOk && (!s.needsSig c || (c.signed && c.sigOk))

/-- The newer of two copies with their places. -/
def pickNewer (a b : Option (Nat × Copy)) : Option (Nat × Copy) :=
  match a, b with
  | some x, some y => if newer y.2.seq x.2.seq then some y else some x
  | some x, none => some x
  | none, y => y

/-- The newest copy of a region that passes a test: its slot and itself. -/
def State.regionNewest (s : State) (region : Nat) (ok : Copy → Bool) : Option (Nat × Copy) :=
  let mine := s.nv.copies.filter (fun (x : Nat × Copy) => decide (x.1 / 16 = region) && ok x.2)
  mine.foldl (fun a (x : Nat × Copy) => pickNewer a (some (x.1 % 16, x.2))) none

/-- Copy A (region 0) or copy B (region 1). -/
def State.copyOf (s : State) (region : Nat) : Option (Nat × Copy) := s.regionNewest region s.copyValid

/-- The region of the current copy (R420). -/
def State.currentRegion (s : State) : Option Nat :=
  match s.copyOf 0, s.copyOf 1 with
  | some a, some b => some (if newer b.2.seq a.2.seq then 1 else 0)
  | some _, none => some 0
  | none, some _ => some 1
  | none, none => none

/-- The current copy. -/
def State.currentCopy (s : State) : Option Copy := s.currentRegion.bind (fun r => (s.copyOf r).map Prod.snd)

/-- STORE.COPY_SEQ and STORE.COPY_SLOT follow the copies. -/
def State.pointCopies (s : State) : State :=
  [0, 1].foldl (fun (u : State) r =>
    match u.copyOf r with
    | some (k, c) => (u.setPar Ix.storeCopySeq r c.seq).setPar Ix.storeCopySlot r k
    | none => (u.setPar Ix.storeCopySeq r 0).setPar Ix.storeCopySlot r 255) s

end Sys2Proof.Machine
end

