-- ==== Sys2Proof/Machine/HostCfg.lean ====
section
/-! DEFINITION. The configuration space of the host port (R297 to R300, R312 to R314, R328). The spec names the
capabilities and their offsets; the layout of each is that of the PCI Express standard (PRESUMED, log 30).

Readings and choices here: PRESUMED log 30; DEDUCED log 50, log 86. -/
namespace Sys2Proof.Machine

/-- A capability header of the extended space. -/
def extCap (id version next : Nat) : Nat := id + version * 65536 + next * 1048576

/-- The reset values of the configuration words that the spec fixes, by byte offset; `sub` is the Subsystem ID and `bar4` log2 of
the size of BAR4 at reset. -/
def cfgResets (sub bar4 : Nat) : List (Nat × Nat) := [
  (0x00, 0x01921EB7), (0x04, 0x00100000), (0x08, 0x11800002), (0x0C, 0), (0x10, 4), (0x14, 0), (0x18, 4), (0x1C, 0),
  (0x20, 0xC), (0x24, 0), (0x28, 0), (0x2C, sub * 65536 + 0x1EB7), (0x30, 0), (0x34, 0x40), (0x38, 0), (0x3C, 0x100),
  (0x40, 0x00035001), (0x44, 0x8), (0x50, 0x018A7005), (0x54, 0), (0x58, 0), (0x5C, 0), (0x60, 0), (0x64, 0),
  (0x70, 0x0002B010), (0x74, 0x8022), (0x78, 0x2010), (0x7C, 0x886), (0x98, 0), (0x9C, 0x7E),
  (0xB0, 0x003F0011), (0xB4, 0x00030002), (0xB8, 0x00038002),
  (0x100, extCap 1 2 0x148), (0x104, 0), (0x108, 0x400000), (0x10C, 0x462030), (0x110, 0), (0x114, 0xE000), (0x118, 0),
  (0x11C, 0), (0x120, 0), (0x124, 0), (0x128, 0), (0x148, extCap 3 1 0x158), (0x158, extCap 0x19 1 0x178),
  (0x178, extCap 0x25 1 0x184), (0x184, extCap 0x26 1 0x1B0), (0x1B0, extCap 0x27 1 0x1D8),
  (0x1D8, extCap 0x2A 1 0x208), (0x208, extCap 0x31 1 0x228), (0x228, extCap 0x2F 1 0x238), (0x22C, 0x6), (0x230, 0),
  (0x238, extCap 0x15 1 0x250), (0x23C, 0x003FC000), (0x240, 0x24 + (bar4 - 20) * 256),
  (0x250, extCap 0x23 1 0), (0x254, 0x01401EB7), (0x258, 0x0001), (0x25C, 0x03C00000)]

/-- Device Capabilities 2: completion timeout ranges A to D, Completion Timeout Disable, no AtomicOp completer, and 10-bit tags as
completer and requester (R298, R327, R328); the spec says nothing of its other bits. -/
def devCap2 (open_ : Nat) : Nat := (open_ % 2 ^ 32 &&& 0xFFFCFC20) ||| 0x0003001F

/-- The bits of a configuration word that a request writes, by byte offset. -/
def cfgWritable (off : Nat) : Nat :=
  ((tfind [(0x04, 0x546), (0x0C, 0xFF), (0x10, 0xF0000000), (0x14, 0xFFFFFFFF), (0x18, 0xFFF00000), (0x1C, 0xFFFFFFFF), (0x3C, 0xFF), (0x44, 0x3), (0x50, 0x710000), (0x54, 0xFFFFFFFC),
    (0x58, 0xFFFFFFFF), (0x5C, 0xFFFF), (0x60, 0xFFFFFFFF), (0x78, 0x71FF), (0x80, 0x1FF), (0x98, 0x101F), (0xA0, 0xF),
    (0xB0, 0xC0000000), (0x108, 0x57F030), (0x10C, 0x57F030), (0x114, 0xF1C1), (0x230, 0x4), (0x240, 0x3F00)] off)).getD 0

/-- The bits that a write of 1 clears: the status bits of AER, of Device Status and of Status. -/
def cfgClears (off : Nat) : Nat :=
  (tfind [(0x04, 0xF9000000), (0x78, 0x000F0000), (0x104, 0xFFFFFFFF), (0x110, 0xFFFFFFFF)] off).getD 0

/-- A configuration word, by byte offset (a multiple of 4). After the place of the Index ROM the vendor-specific capability carries
the chip number, the silicon revision and the ordering-code index (R298; PRESUMED, log 30: the order of the list). A word that
neither the spec nor the layout fixes is a constant of the part. -/
def State.cfgWord (s : State) (off : Nat) : Nat :=
  match tfind s.host.cfg off with
  | some v => v
  | none =>
    match tfind (cfgResets s.host.subsys s.host.bar4Reset) off with
    | some v => v
    | none =>
      if off = 0x14C then s.par Ix.idSerial 0 % 2 ^ 32
      else if off = 0x150 then s.par Ix.idSerial 0 / 2 ^ 32 % 2 ^ 32
      else if off = 0x94 then devCap2 (Config.cfgOpen off)
      else if off = 0x260 then s.par Ix.idChipNum 0 * 65536 + s.par Ix.idSiliconRev 0 * 256 + s.par Ix.idOrderCode 0
      else if (0x80 ≤ off ∧ off < 0xAC) ∨ (0x15C ≤ off ∧ off < 0x250) then Config.cfgOpen off % 2 ^ 32 else 0

/-- Set a configuration word. -/
def State.setCfg (s : State) (off v : Nat) : State := { s with host := { s.host with cfg := tset s.host.cfg off v } }

/-- The port takes HOST.SUBSYS_ID and the size of BAR4 at reset from the dictionary, at start-up and at each PERST_N (R297, R300,
R312). -/
def State.cfgLoad (s : State) : State :=
  { s with host := { s.host with subsys := s.par Ix.hostSubsysId 0, bar4Reset := s.par Ix.hostBar4ResetLog2 0 } }

/-- The configuration space takes its reset values, and nothing else changes (R313). -/
def State.cfgReset (s : State) : State := { s with host := { s.host with cfg := [] } }

/-- PERST_N resets the port: the configuration space with what it takes from the dictionary, and the interrupts' table (R312). -/
def State.portReset (s : State) : State :=
  let s1 := s.cfgLoad.cfgReset
  { s1 with host := { s1.host with msix := [], pba := 0, inta := false } }

/-! ### Fields that the port acts on -/

/-- Memory Space Enable. -/
def State.memSpace (s : State) : Bool := bit (s.cfgWord 0x04) 1
/-- Bus Master Enable. -/
def State.busMaster (s : State) : Bool := bit (s.cfgWord 0x04) 2
/-- The function is in D3hot. -/
def State.d3hot (s : State) : Bool := decide (fld (s.cfgWord 0x44) 1 0 = 3)
/-- log2 of the size of BAR4 (R300). -/
def State.bar4Log2 (s : State) : Nat := 20 + fld (s.cfgWord 0x240) 13 8
/-- Max_Read_Request_Size in bytes. -/
def State.maxRead (s : State) : Nat := 128 * 2 ^ min 5 (fld (s.cfgWord 0x78) 14 12)
/-- Max_Payload_Size in bytes, at most 512. -/
def State.maxPayload (s : State) : Nat := 128 * 2 ^ min 2 (fld (s.cfgWord 0x78) 7 5)

/-- The tags that the enables of Device Control give (R327). -/
def State.tagSpace (s : State) : Nat :=
  if bit (s.cfgWord 0x230) 2 ∧ s.par Ix.hostLinkSpeed 0 = 6 then 16384
  else if bit (s.cfgWord 0x98) 12 then 768
  else if bit (s.cfgWord 0x78) 8 then 256 else 32

/-- The completion timeout in ticks (R328 Table 5); an encoding that the table does not list acts as 0000b. -/
def State.cplTimeout (s : State) : Nat :=
  (match fld (s.cfgWord 0x98) 3 0 with
    | 1 => 80 | 2 => 8000 | 6 => 160000 | 9 => 700000 | 10 => 2800000 | 13 => 10000000 | 14 => 48000000
    | _ => 40000) * 256000

/-- The bits of a word that a request writes now: those of the address of BAR4 follow its size, which can itself be
changed only while Memory Space Enable is 0 (R300). -/
def State.cfgMask (s : State) (off : Nat) : Nat :=
  if off = 0x20 then (2 ^ 64 - 2 ^ s.bar4Log2) % 2 ^ 32
  else if off = 0x24 then (2 ^ 64 - 2 ^ s.bar4Log2) / 2 ^ 32
  else if off = 0x240 ∧ s.memSpace then 0 else cfgWritable off

/-- The bits that the byte enables of one DW cover. -/
def byteMask (be : Nat) : Nat :=
  (List.range 4).foldl (fun a i => if bit be i then a + 255 * 2 ^ (8 * i) else a) 0

/-- A word after a write: only enabled bytes and writable bits change; a status bit clears where a 1 is written. -/
def State.cfgMerge (s : State) (off be val : Nat) : Nat :=
  let old := s.cfgWord off
  let m := byteMask be
  let w := s.cfgMask off &&& m
  let c := cfgClears off &&& m &&& val
  ((old &&& (0xFFFFFFFF ^^^ w)) ||| (val &&& w)) &&& (0xFFFFFFFF ^^^ c)

end Sys2Proof.Machine
end

