-- ==== Sys2Proof/Machine/PartnerLog.lean ====
section
/-! DEFINITION. The partner fault log (16_field_network.md R388, R389). -/
namespace Sys2Proof.Machine

/-- An entry of the log (Table 7): source, peer, kind, detail. -/
def State.pflEntry (s : State) (source peer kind detail : Nat) : State :=
  let w := s.par Ix.pflWritten 0
  let ix := nth Ix.pflEntry 64 w
  let put (u : State) (i v : Nat) : State := u.setPar ix i (v % 2 ^ 32)
  let s1 := put (put (put s 0 s.now) 1 (s.now / 2 ^ 32)) 2 (s.now / 2 ^ 64 % 256)
  let s2 := put (put (put s1 3 (source % 256 * 2 ^ 24 + kind % 256 * 2 ^ 16 + peer % 65536)) 4 detail) 5 w
  { s2.cntW Ix.pflWritten 0 1 with pflLast := tset s2.pflLast kind s.now }.alert 4 ((w + 1) % 2 ^ 32)

/-- A partner violation: counted by kind, logged unless its kind was logged within the last 10 µs (R388, R389). -/
def State.partnerFault (s : State) (source peer kind detail : Nat) : State :=
  let s1 := s.cnt Ix.pflKindCount kind
  match tfind s1.pflLast kind with
  | some a => if s1.now < a + 2560000 then s1.cnt Ix.pflSuppressed 0 else s1.pflEntry source peer kind detail
  | none => s1.pflEntry source peer kind detail

end Sys2Proof.Machine
end

