-- ==== Sys2Proof/Machine/HostPort.lean ====
section
/-! DEFINITION. The host port's states, errors and freezes (13_host_port_mapping.md R312 to R314,
14_host_port_traffic.md R334 to R340).

Readings and choices here: PRESUMED log 30; DEDUCED log 49, log 50, log 53, log 54, log 86. -/
namespace Sys2Proof.Machine

/-! ### Port state (R339, R340 Table 9) -/

/-- The port is RUNNING. -/
def State.portRunning (s : State) : Bool := decide (s.par Ix.hostPortState 0 = 0)

/-- The data link layer is active. -/
def State.linkUp (s : State) : Bool := decide (s.par Ix.hostLinkState 0 = 2)

/-- The port may issue requests (R314, R338). -/
def State.mayRequest (s : State) : Bool := s.portRunning && s.busMaster && !s.d3hot && s.runs 2

/-- The port may receive requests: PERST_N is high and the link is up (R312). -/
def State.mayReceive (s : State) : Bool := s.host.perst && s.linkUp

def State.ringOf (s : State) (n : Nat) : RingSt := tget {} s.host.rings n
def State.setRing (s : State) (n : Nat) (r : RingSt) : State :=
  { s with host := { s.host with rings := tset s.host.rings n r } }

/-- A ring forgets what it has read of its descriptors and what it has written of the open one: it reads and fills them
again (R338, R340). -/
def RingSt.restart (r : RingSt) : RingSt :=
  { r with descs := [], asked := r.devPtr, again := [], used := 0, frames := 0, written := [], redo := r.written ++ r.redo }

/-- Every outstanding read is abandoned and its tag quarantined for twice the timeout (R329, R338). -/
def State.abandonReads (s : State) : State :=
  let until_ := s.now + 2 * s.cplTimeout
  { s with host := { s.host with
      quarantine := s.host.reads.foldl (fun q (x : Nat × ReadReq) => tset q x.1 until_) s.host.quarantine
      reads := []
      rings := s.host.rings.map (fun (x : Nat × RingSt) => (x.1, x.2.restart)) } }

/-- The port freezes by cause 1 to 6 (R337, R339, Table 9); a further cause while frozen is only noted. Causes 4 to 6 take
the link down. -/
def State.freeze (s : State) (cause : Nat) : State :=
  let down := decide (4 ≤ cause)
  if s.portRunning then
    let s1 := ((s.setPar Ix.hostFreezeTime 0 s.now).cnt Ix.hostFreezes 0).abandonReads
    { s1 with host := { s1.host with firstCause := cause, causes := 2 ^ (cause - 1) } }.setPar Ix.hostPortState 0
      (if down then 2 else 1) |>.alert 1 cause
  else
    let s1 := { s with host := { s.host with causes := s.host.causes ||| 2 ^ (cause - 1) } }
    if down then s1.setPar Ix.hostPortState 0 2 else s1

/-- The link goes down: its state parameters follow. -/
def State.linkOff (s : State) (state : Nat) : State :=
  ((s.setPar Ix.hostLinkState 0 state).setPar Ix.hostLinkSpeed 0 0).setPar Ix.hostLinkWidth 0 0

/-- Link-down by Link Disable, surprise removal, a failed link, or the device's own DORMANT (R313, R337, R408). -/
def State.hostLinkDown (s : State) : State :=
  if s.par Ix.hostLinkState 0 = 0 then s else (((s.cnt Ix.hostLinkDowns 0).linkOff 0).freeze 4)

/-! ### Errors (R335, R336) -/

/-- The status bit of an error in its AER status register. -/
def errorBit : PortError → Nat
  | .receiver => 0 | .badTlp => 6 | .badDllp => 7 | .replayRollover => 8 | .replayTimeout => 12 | .advisory => 13
  | .correctedInternal => 14 | .headerOverflow => 15
  | .dataLink => 4 | .poisoned => 12 | .flowControl => 13 | .completionTimeout => 14 | .completerAbort => 15
  | .unexpected => 16 | .overflow => 17 | .malformed => 18 | .unsupported => 20 | .internal => 22

/-- The error is of the correctable class (Table 7). -/
def errorCorrectable : PortError → Bool
  | .receiver | .badTlp | .badDllp | .replayTimeout | .replayRollover | .correctedInternal | .headerOverflow | .advisory => true
  | .poisoned | .completionTimeout | .completerAbort | .unexpected | .unsupported | .malformed | .overflow | .flowControl
  | .dataLink | .internal => false

/-- An internal error is the device's own, and no partner's (R335). -/
def errorOwn : PortError → Bool
  | .correctedInternal => true
  | .internal => true
  | _ => false

/-- Send an error message of a kind (0 correctable, 1 non-fatal, 2 fatal) where its enable allows it, and, for an Unsupported
Request, its own enable too (R335; PRESUMED, log 30). -/
def State.errorMessage (s : State) (kind : Nat) (ur : Bool) : State :=
  let ctl := s.cfgWord 0x78
  let serr := bit (s.cfgWord 0x04) 8
  if s.portRunning && ((bit ctl kind && (!ur || bit ctl 3)) || (decide (1 ≤ kind) && serr)) then s.send (.errorMessage kind) else s

/-- Device Status notes the class, and for an Unsupported Request its own bit too. -/
def State.deviceStatus (s : State) (kind : Nat) (ur : Bool) : State :=
  let v := s.cfgWord 0x78 ||| 2 ^ (16 + kind)
  s.setCfg 0x78 (if ur then v ||| 2 ^ 19 else v)

/-- The header log is in use: the First Error Pointer names an error whose status is still set. -/
def State.headerHeld (s : State) : Bool :=
  let fep := fld (s.cfgWord 0x118) 4 0
  decide (fep ≠ 0) && bit (s.cfgWord 0x104) fep

/-- The header log takes the header of the first unmasked uncorrectable error (R336); of an error that no TLP carries, a free
value. -/
def State.headerLog (s : State) (b : Nat) (tlp : Option Tlp) : State :=
  if bit (s.cfgWord 0x108) b ∨ s.headerHeld then s
  else
    let word (i : Nat) : Nat :=
      match tlp with
      | some x => ([x.h0, x.h1, x.h2, x.h3].getD i 0).toNat
      | none => Config.freeNat (s.fresh + i) % 2 ^ 32
    let s1 := { s with fresh := s.fresh + 4 }.setCfg 0x118 (s.cfgWord 0x118 / 32 * 32 + b)
    (List.range 4).foldl (fun u i => u.setCfg (0x11C + 4 * i) (word i)) s1

/-- A correctable error: its status bit, its message, its class (0). -/
def State.correctableError (s : State) (b : Nat) : State :=
  let s1 := (s.setCfg 0x110 (s.cfgWord 0x110 ||| 2 ^ b)).deviceStatus 0 false
  if bit (s1.cfgWord 0x114) b then s1 else s1.errorMessage 0 false

/-- Header Log Overflow: an unmasked error with a header finds the log in use (Table 7). -/
def State.logOverflows (s : State) (e : PortError) (tlp : Option Tlp) : Bool :=
  !errorCorrectable e && tlp.isSome && !bit (s.cfgWord 0x108) (errorBit e) && s.headerHeld

/-- The class of an error: 0 correctable, 1 non-fatal, 2 fatal. -/
def State.errorClass (s : State) (e : PortError) (advisory : Bool) : Nat :=
  if errorCorrectable e then 0
  else if bit (s.cfgWord 0x10C) (errorBit e) then 2
  else if advisory then 0 else 1

/-- An uncorrectable error is logged and reported by its message; one reported as advisory (kind 0) only notes that, where the
mask of Advisory Non-Fatal is set, and else is logged and reported as correctable (R335, R336; PRESUMED, log 30). -/
def State.uncorrectableError (s : State) (e : PortError) (kind : Nat) (tlp : Option Tlp) : State :=
  let b := errorBit e
  let ur := decide (e = .unsupported)
  let s1 := (if kind = 0 then s.setCfg 0x110 (s.cfgWord 0x110 ||| 2 ^ 13) else s).deviceStatus kind ur
  if kind = 0 ∧ bit (s1.cfgWord 0x114) 13 then s1
  else
    let s2 := s1.headerLog b tlp
    let s3 := s2.setCfg 0x104 (s2.cfgWord 0x104 ||| 2 ^ b)
    if bit (s3.cfgWord 0x108) b ∧ kind ≠ 0 then s3 else s3.errorMessage kind ur

/-- A detected error of class `k` is entered in the partner fault log and freezes the port where HOST.FREEZE_MASK selects its class,
masked or not; every further error of a frozen port updates CAUSES (R335, R337, R340 Table 9). -/
def State.contain (s : State) (e : PortError) (k peer : Nat) : State :=
  let s1 := if errorOwn e then s else s.partnerFault 0 peer 1 (errorBit e)
  if bit (s1.par Ix.hostFreezeMask 0) k ∨ !s1.portRunning then s1.freeze (k + 1) else s1

/-- The port detects an error (R335 to R337): logged, then contained; `tlp` is the one that it concerns. Where the header log is in
use, Header Log Overflow is detected too. -/
def State.portError (s : State) (e : PortError) (advisory : Bool) (tlp : Option Tlp) : State :=
  let k := s.errorClass e advisory
  let peer := (tlp.map Tlp.peer).getD 0
  let s1 := if errorCorrectable e then s.correctableError (errorBit e) else s.uncorrectableError e k tlp
  let s2 := s1.contain e k peer
  if s.logOverflows e tlp then (s2.correctableError (errorBit .headerOverflow)).contain .headerOverflow 0 peer else s2

/-- A non-posted request is answered with Completer Abort: while RUNNING it is logged, as an advisory error (R302, R305,
R335); while frozen it is only counted (R338). -/
def State.completerAbort (s : State) (tlp : Tlp) : State :=
  if s.portRunning then (s.send (.completion .abort [] [])).portError .completerAbort true (some tlp)
  else (s.cnt Ix.hostFrozenCa 0).send (.completion .abort [] [])

/-- An access governor refuses an access (R412). -/
def State.governed (s : State) : State := s.cnt Ix.clkGovRefused 0

/-- A memory request reaches the port (R312, R334, R338): whether it is carried out. `posted` is a write, `control` a read
of the port control page, which a frozen port still answers (R339). An access into a domain whose forced source has stopped hangs
(R397). -/
def State.memRequest (s : State) (posted control : Bool) (tlp : Tlp) : State × Bool :=
  if !s.mayReceive ∨ s.clk.dead then (s, false)
  else if !s.memSpace || s.d3hot then
    ((if posted then s else s.send (.completion .unsupported [] [])).portError .unsupported (!posted) (some tlp), false)
  else if !posted && !control && !s.portRunning then (s.completerAbort tlp, false)
  else (s, true)

/-- A posted write into the Jasper domain: dropped where the governor refuses it (R412). -/
def State.postedWrite (s : State) (tlp : Tlp) (f : State → State) : State :=
  let r := s.memRequest true false tlp
  if !r.2 then r.1 else if r.1.domainGood 2 then f r.1 else r.1.governed

/-- Data in flight of a crossing is discarded (R414). -/
def State.crossingReset (s : State) (inFlight hanging : Nat) : State :=
  (s.cntN Ix.clkXingDiscards 0 inFlight).cntN Ix.clkCrossingResets 0 hanging

/-! ### The commands of link and reset -/

/-- PERST_N_FALL: the port is held in reset; nothing outside it changes (R312, R414). `inFlight` is what the crossing on
the Quartz side held, `hanging` the accesses that end by its reset. -/
def execPerstNFall (t inFlight hanging : Nat) (s : State) : Host.Outcome State Fault Refusal :=
  let s1 := s.enter t
  if s1.host.perst then
    let s2 := (s1.cnt Ix.hostPerstCount 0).portReset.linkOff 0
    let s3 := ({ s2 with host := { s2.host with perst := false } }.crossingReset inFlight hanging).freeze 6
    .next (s3.setPar Ix.clkDomainGood 0 (putBit (s3.par Ix.clkDomainGood 0) 6 false))
  else .next s1

/-- PERST_N_RISE: the PHY leaves reset, HOST.SUBSYS_ID and the size of BAR4 are taken from the dictionary, and training
begins (R312). -/
def execPerstNRise (t : Nat) (s : State) : Host.Outcome State Fault Refusal :=
  let s1 := s.enter t
  if s1.host.perst then .next s1
  else
    let s0 := s1.portReset
    let s2 : State := { s0 with host := { s0.host with perst := true } }
    if s2.par Ix.pwrState 0 = 0 then .next s2
    else .next ((s2.setPar Ix.hostLinkState 0 1).setPar Ix.clkDomainGood 0 (putBit (s2.par Ix.clkDomainGood 0) 6 true))

/-- HOT_RESET: the configuration space alone is reset, the link retrains and the port freezes (R313). -/
def execHotReset (t : Nat) (s : State) : Host.Outcome State Fault Refusal :=
  let s1 := s.enter t
  if s1.mayReceive then .next ((((s1.cnt Ix.hostHotResets 0).cfgReset).linkOff 1).freeze 5) else .next s1

/-- LINK_DOWN: the port freezes; the configuration space is unchanged (R313, R337). -/
def execLinkDown (t : Nat) (s : State) : Host.Outcome State Fault Refusal := .next (s.enter t).hostLinkDown

/-- The speed code of the highest rate below the caps (R294): 1 to 6. -/
def State.offers (s : State) (speed width : Nat) : Bool :=
  decide (1 ≤ speed) && decide (speed ≤ s.par Ix.hostMaxSpeed 0) && decide (width ≤ s.par Ix.hostMaxWidth 0)
    && [1, 2, 4, 8].contains width

/-- LINK_UP: the link trains to active at a rate and a width that both partners support (R294, R340). -/
def execLinkUp (t : Nat) (speed : Fin 7) (width : Fin 9) (s : State) : Host.Outcome State Fault Refusal :=
  let s1 := s.enter t
  if s1.host.perst ∧ s1.domainGood 6 ∧ !s1.linkUp ∧ s1.offers speed width then
    let s2 := ((s1.setPar Ix.hostLinkState 0 2).setPar Ix.hostLinkSpeed 0 speed).setPar Ix.hostLinkWidth 0 width
    .next (if s2.par Ix.hostPortState 0 = 2 then s2.setPar Ix.hostPortState 0 1 else s2)
  else .next s1

/-- INBOUND_TLP_ERROR: the port detects an error of Table 7; `advisory` where the standard lets it be reported as an
Advisory Non-Fatal error, `answer` where a non-posted request is answered with Unsupported Request (R334 to R337). -/
def execInboundTlpError (t : Nat) (e : PortError) (advisory answer : Bool) (tlp : Tlp) (s : State) :
    Host.Outcome State Fault Refusal :=
  let s1 := s.enter t
  if s1.host.perst then
    let s2 := if answer && decide (e = .unsupported) then s1.send (.completion .unsupported [] []) else s1
    .next (s2.portError e advisory (some tlp))
  else .next s1

end Sys2Proof.Machine
end

