-- ==== Sys2Proof/Machine/Rings.lean ====
section
/-! DEFINITION. Delivery rings (14_host_port_traffic.md R316 to R329): ring control, doorbells, descriptors, frames into
host memory, descriptor reads, tags and completion timeouts.

Readings and choices here: DESIGN CHOICE log 2; DEDUCED log 49, log 51. -/
namespace Sys2Proof.Machine

/-! ### Ring state -/

/-- The number of descriptors of a ring. -/
def RingSt.size (r : RingSt) : Nat := 2 ^ r.sizeLog2

/-- (a − b) mod 2^32 (R318). -/
def diff32 (a b : Nat) : Nat := (a + 4294967296 - b % 4294967296) % 4294967296

/-- STATE of a ring: 0 DISABLED, 1 RUNNING, 2 WAITING, 3 FAULT (R317). -/
def RingSt.state (r : RingSt) : Nat :=
  if !r.enable then 0 else if r.fault then 3 else if r.devPtr = r.hostPtr then 2 else 1

/-- The ring takes frames of its source: the PCIe outlet of a stream (R316), or the fetch engine. -/
def State.ringFed (s : State) (n : Nat) : Bool := decide (n = 8) || bit (s.par Ix.streamOutlets n) 0

/-- The frames that a ring is still to write, oldest first (R234, R240, R320). -/
def State.ringFrames (s : State) (n : Nat) : List Frame :=
  let r := s.ringOf n
  if n = 8 then r.redo ++ s.fetch.ready.toList
  else if s.ringFed n then (s.streamOf n).tail.drop ((s.streamOf n).ringTook + r.frames) else []

/-- The host address of a descriptor. -/
def RingSt.descAddr (r : RingSt) (i : Nat) : Nat := r.base + 16 * (i % r.size)

/-- What breaks a descriptor's host form (R319, R320): 1 address, 2 length, 3 reserved bits. -/
def descFault (w : List Word) : Option Nat :=
  let w0 := (w.getD 0 0).toNat
  let w1 := (w.getD 1 0).toNat
  let w2 := (w.getD 2 0).toNat
  let len := w2 % 2 ^ 24
  if 2 ^ 64 < w1 * 2 ^ 32 + w0 / 64 * 64 + len then some 1
  else if len % 64 ≠ 0 ∨ len < 4160 ∨ 1048576 < len then some 2
  else if w0 % 64 ≠ 0 ∨ w2 / 2 ^ 24 ≠ 0 ∨ (w.getD 3 0) ≠ 0 then some 3 else none

/-- A posted write is split at Max_Payload_Size and at 4 KiB boundaries (R326). -/
def splitWrite (payload : Nat) : Nat → Nat → List Word → List (Nat × List Word)
  | 0, _, _ => []
  | fuel + 1, a, ws =>
    if ws.isEmpty then []
    else
      let n := max 1 (min payload (4096 - a % 4096) / 4)
      (a, ws.take n) :: splitWrite payload fuel (a + 4 * n) (ws.drop n)

/-- Issue the posted writes of some words. -/
def State.hostWrites (s : State) (a : Nat) (ws : List Word) (relaxed : Bool) : State :=
  (splitWrite s.maxPayload ws.length a ws).foldl (fun u x => u.send (.hostWrite x.1 x.2 relaxed)) s

/-! ### Closing (R320, R321) -/

/-- Frames that the ring has taken leave the tail abutment (R240), or the fetch engine. -/
def State.ringTake (s : State) (n : Nat) : State :=
  if n = 8 then s
  else
    let x := s.streamOf n
    (s.setStream n { x with ringTook := x.ringTook + (s.ringOf n).frames }).drainTail n

/-- The completed form of the descriptor at DEV_PTR, its DEV_PTR and its write-back (R319, R321): `flags` is 4 ERROR,
2 IDLE, 1 FETCH_END. -/
def State.completeDesc (s : State) (n flags : Nat) : State :=
  let r := s.ringOf n
  let err := decide (4 ≤ flags)
  let used := if err then 0 else r.used
  let frames := if err then 0 else r.frames
  let next := (r.devPtr + 1) % 2 ^ 32
  let s1 := s.hostWrites (r.descAddr r.devPtr + 8) [w32 (2 ^ 31 + flags * 2 ^ 28 + used), w32 frames] false
  let s2 := s1.hostWrites r.wb [w32 next] false
  let s3 := if err then s2 else s2.ringTake n
  let r1 := { r with devPtr := next, descs := terase r.descs r.devPtr, owed := false }
  (s3.setRing n (if err then r1 else { r1 with used := 0, frames := 0, written := [] })).cntW (nth Ix.ringBytes 9 n) 0 used

/-- A descriptor whose host form is at fault is completed with ERROR (R320). -/
def State.errorDesc (s : State) (n code : Nat) : State :=
  let s1 := s.completeDesc n 4
  let r := s1.ringOf n
  s1.setRing n { r with descErrors := min (r.descErrors + 1) 0xFFFFFFFF, lastError := code }

/-- A ring's DEV_PTR, whose write-back a release left owing, goes to its write-back address as soon as the port may issue requests
(R340). -/
def State.payBack (s : State) (n : Nat) : State :=
  let r := s.ringOf n
  if r.owed ∧ s.mayRequest then (s.hostWrites r.wb [w32 r.devPtr] false).setRing n { r with owed := false } else s

/-- The descriptor at DEV_PTR as the host wrote it, once it has been read. -/
def RingSt.openDesc (r : RingSt) : Option (List Word) := if r.devPtr = r.hostPtr then none else tfind r.descs r.devPtr

/-- The ring may act: enabled, not in FAULT, and the port may issue requests. -/
def State.ringActs (s : State) (n : Nat) : Bool := s.mayRequest && (s.ringOf n).enable && !(s.ringOf n).fault

/-- Faulty descriptors that have come to be the open one are completed with ERROR at once (R320); a ring reads at most 16
ahead. -/
def State.dropFaulty (n : Nat) : Nat → State → State
  | 0, s => s
  | fuel + 1, s =>
    match ((s.ringOf n).openDesc).bind descFault with
    | some code => if s.ringActs n then State.dropFaulty n fuel (s.errorDesc n code) else s
    | none => s

/-- The fetch ring owes a descriptor with FETCH_END, and may close one now (R323). -/
def State.fetchEndDue (s : State) (n : Nat) : Bool := decide (n = 8) && s.fetch.ending && (s.ringFrames 8).isEmpty

/-- Close the open descriptor; a faulty one after it ends in its error. -/
def State.closeDesc (s : State) (n : Nat) (idle : Bool) : State :=
  let fin := s.fetchEndDue n
  let s1 := s.completeDesc n (2 * b2n idle + b2n fin)
  State.dropFaulty n 16 (if fin then { s1 with fetch := { s1.fetch with ending := false } } else s1)

/-- The fetch ring has taken the frame in progress; a fetch that was to end after it is ABORTED now (R257, R323). -/
def State.fetchTaken (s : State) : State :=
  if s.fetch.aborting then { s with fetch := { s.fetch with ready := none, aborting := false, ending := true } }.setPar Ix.fetchState 0 4
  else { s with fetch := { s.fetch with ready := none } }

/-- Write a frame into the open descriptor at its buffer address (R320, R321). -/
def State.putFrame (s : State) (n buf : Nat) (f : Frame) : State :=
  let r := s.ringOf n
  let relaxed := r.roData && bit (s.cfgWord 0x78) 4
  let s1 := s.hostWrites (buf + r.used) f.words relaxed
  let r1 := { r with used := r.used + f.bytes, frames := r.frames + 1, lastAt := s.now }
  if n = 8 then
    let s2 := if r.redo.isEmpty then s1.fetchTaken else s1
    s2.setRing n { r1 with written := r.written ++ [f], redo := r.redo.drop 1 }
  else s1.setRing n r1

/-- A frame meets the open descriptor: a faulty one ends in its error; one with room takes the frame; another is closed,
and the delivery goes on with the next (R320). -/
def State.deliverInto (s : State) (n buf len : Nat) (f : Frame) : Option Nat → State × Bool
  | some code => (s.errorDesc n code, false)
  | none =>
    if (s.ringOf n).used + f.bytes ≤ len then
      let s1 := s.putFrame n buf f
      (if s1.fetchEndDue n then s1.closeDesc n false else s1, false)
    else (s.closeDesc n false, true)

/-- A descriptor is open and no frame is left: at the end of a fetch it is closed, or ends in its error. -/
def State.deliverEnd (s : State) (n : Nat) : Option Nat → State
  | some code => s.errorDesc n code
  | none => s.closeDesc n false

/-- What becomes of the open descriptor and the frames in wait; true where the delivery goes on. -/
def State.deliverOne (s : State) (n : Nat) : Option (List Word) → List Frame → State × Bool
  | some d, f :: _ =>
    s.deliverInto n ((d.getD 1 0).toNat * 2 ^ 32 + (d.getD 0 0).toNat) ((d.getD 2 0).toNat % 2 ^ 24) f (descFault d)
  | some d, [] => (if s.fetchEndDue n then s.deliverEnd n (descFault d) else s, false)
  | none, _ => (s, false)

/-- Deliver the next frame into the open descriptor, closing one that it does not fit (R320). -/
def State.deliverFrame (fs : List Frame) : Nat → Nat → State → State
  | 0, _, s => s
  | fuel + 1, n, s =>
    let r := s.deliverOne n (s.ringOf n).openDesc fs
    if r.2 then State.deliverFrame fs fuel n r.1 else r.1

/-- The frames that a ring is still to write, the first as its read of the tail abutment gives it (R284, R289 codes 2 and 3). -/
def State.tailRead (s : State) (n : Nat) (errs : List CodeErr) : State × List Frame :=
  match s.ringFrames n with
  | f :: fs =>
    if n = 8 ∨ (s.ringOf n).openDesc.isNone then (s, f :: fs)
    else
      let r := s.sramFrame n f errs
      (r.1, r.2 :: fs)
  | [] => (s, [])

/-! ### Ring control (R317, R318, R322) -/

/-- The reads of a ring that is disabled bring nothing any more. -/
def State.dropReads (s : State) (n : Nat) : State :=
  { s with host := { s.host with reads := s.host.reads.map (fun (x : Nat × ReadReq) =>
      if x.2.ring = n then (x.1, { x.2 with live := false }) else x) } }

/-- A write of 1 to ENABLE sets the pointers to 0 (R317). On a ring that is enabled already, what its open descriptor held is written
again into the first one that the host then hands over; a FAULT stays (R329). -/
def State.ringEnable (s : State) (n : Nat) : State :=
  let r := s.ringOf n
  if r.sizeLog2 < 4 ∨ 16 < r.sizeLog2 then s.setRing n { r with rejected := min (r.rejected + 1) 0xFFFFFFFF }
  else
    let r1 := { r with devPtr := 0, hostPtr := 0, hostSeen := 0, owed := false }.restart
    (s.dropReads n).setRing n { r1 with enable := true, fault := r.enable && r.fault, fails := if r.enable then r.fails else 0 }

/-- The ring is DISABLED; what its open descriptor held is delivered once it is enabled again (R322, R340). -/
def State.ringOff (s : State) (n : Nat) : State :=
  let r := s.ringOf n
  (s.dropReads n).setRing n { r.restart with enable := false, fault := false, fails := 0, owed := false }

/-- A write of 0 to ENABLE: the open descriptor is closed if it holds a frame, a ring in FAULT included; where the port may issue no
request, it is left unwritten as at a RESTART and its frames are delivered first once the ring is enabled again (R322, R338,
R340; DEDUCED, log 51). -/
def State.ringDisable (s : State) (n : Nat) : State :=
  let r := s.ringOf n
  if !r.enable then s
  else if r.frames ≠ 0 ∧ s.mayRequest then (s.closeDesc n false).ringOff n else s.ringOff n

/-- A doorbell write is refused (R318). -/
def State.doorbellRefused (s : State) (n peer : Nat) : State :=
  let r := s.ringOf n
  (s.setRing n { r with descErrors := min (r.descErrors + 1) 0xFFFFFFFF, lastError := 4 }).partnerFault 0 peer 5 n

/-- A write of HOST_PTR (R318). -/
def State.bellHostPtr (s : State) (n v peer : Nat) : State :=
  let r := s.ringOf n
  if !r.enable ∨ r.size < diff32 v r.devPtr ∨ diff32 v r.devPtr < diff32 r.hostPtr r.devPtr then s.doorbellRefused n peer
  else s.setRing n { r with hostPtr := v % 2 ^ 32 }

/-- Arm an interrupt source (R332). -/
def State.arm (s : State) (src : Nat) : State :=
  { s with host := { s.host with disarmed := s.host.disarmed.filter (fun x => decide (x ≠ src)) } }

/-- A write of HOST_SEEN: the completed descriptors are acknowledged and the ring's source is armed (R318, R332). -/
def State.bellHostSeen (s : State) (n v peer : Nat) : State :=
  let r := s.ringOf n
  if !r.enable ∨ r.size < diff32 r.devPtr v then s.doorbellRefused n peer
  else (s.setRing n { r with hostSeen := v % 2 ^ 32 }).arm n

/-! ### Descriptor reads (R325, R327, R329) -/

/-- The lowest free tag, where another read may be outstanding (R327, R329). -/
def State.freeTag (s : State) : Option Nat :=
  if s.par Ix.hostReadsMax 0 ≤ s.host.reads.length then none
  else (List.range s.tagSpace).find? (fun g => (tfind s.host.reads g).isNone && (tfind s.host.quarantine g).isNone)

/-- How many descriptors from index `i` one read may cover: within Max_Read_Request_Size, its 4 KiB page and the ring's
end (R325). -/
def State.readSpan (s : State) (r : RingSt) (i : Nat) : Nat :=
  min (min (s.maxRead / 16) ((4096 - r.descAddr i % 4096) / 16)) (r.size - i % r.size)

/-- Issue a read of descriptors, or wait for a tag. -/
def State.issueRead (s : State) (n i count : Nat) : Option State :=
  match s.freeTag with
  | some g =>
    let r := s.ringOf n
    let s1 := { s with host := { s.host with reads := tset s.host.reads g ⟨n, i, count, s.now, [], true⟩ } }
    some (s1.send (.hostRead g (r.descAddr i) (16 * count)))
  | none => none

/-- A ring reads ahead of DEV_PTR: a read that failed first, else up to `want` further descriptors, at most 16 ahead and
none past HOST_PTR (R325). -/
def State.readAhead (s : State) (n want : Nat) : State :=
  let r := s.ringOf n
  match r.again with
  | x :: rest =>
    match s.issueRead n x.1 x.2 with
    | some u => u.setRing n { u.ringOf n with again := rest }
    | none => s.cnt Ix.hostTagWaits 0
  | [] =>
    let ahead := diff32 r.asked r.devPtr
    let left := min 16 (diff32 r.hostPtr r.devPtr) - ahead
    let k := min (min want left) (s.readSpan r r.asked)
    if k = 0 then s
    else
      match s.issueRead n r.asked k with
      | some u => u.setRing n { u.ringOf n with asked := (r.asked + k) % 2 ^ 32 }
      | none => s.cnt Ix.hostTagWaits 0

/-- A read has failed: its tag is quarantined, and the ring reads again, or enters FAULT after the third failure in a row
(R329). -/
def State.readFailed (s : State) (g : Nat) (q : ReadReq) : State :=
  let s1 := { s with host := { s.host with
      reads := terase s.host.reads g, quarantine := tset s.host.quarantine g (s.now + 2 * s.cplTimeout) } }
  if !q.live then s1
  else
    let r := s1.ringOf q.ring
    if 3 ≤ r.fails + 1 then s1.setRing q.ring { r with fails := r.fails + 1, fault := true, lastError := 5 }
    else
      let s2 := s1.setRing q.ring { r with fails := r.fails + 1 }
      let later (u : State) := u.setRing q.ring { u.ringOf q.ring with again := (u.ringOf q.ring).again ++ [(q.index, q.count)] }
      if s2.mayRequest then
        match s2.issueRead q.ring q.index q.count with
        | some u => u
        | none => later (s2.cnt Ix.hostTagWaits 0)
      else later s2

/-- The words of a read, four to a descriptor, by index. -/
def descsOf : Nat → Nat → List Word → Tbl (List Word) → Tbl (List Word)
  | 0, _, _, acc => acc
  | k + 1, i, ws, acc => descsOf k ((i + 1) % 2 ^ 32) (ws.drop 4) (tset acc i (ws.take 4))

/-- Words of a completion arrive for an outstanding read; an open descriptor that they show to be faulty ends in its error at
once (R320). -/
def State.readGot (s : State) (g : Nat) (q : ReadReq) (ws : List Word) : State :=
  let got := q.got ++ ws
  if got.length < 4 * q.count then
    { s with host := { s.host with reads := tset s.host.reads g { q with got := got } } }
  else
    let s1 := { s with host := { s.host with reads := terase s.host.reads g } }
    if !q.live then s1
    else
      let r := s1.ringOf q.ring
      State.dropFaulty q.ring 16 (s1.setRing q.ring { r with descs := descsOf q.count q.index got r.descs, fails := 0 })

/-! ### The commands -/

/-- RING_ENABLE: a write of 1 to a ring's ENABLE (R317). -/
def execRingEnable (t : Nat) (n : Fin 9) (tlp : Tlp) (s : State) : Host.Outcome State Fault Refusal :=
  .next ((s.enter t).postedWrite tlp (fun u => u.ringEnable n))

/-- RING_DISABLE: a write of 0 to a ring's ENABLE (R322). -/
def execRingDisable (t : Nat) (n : Fin 9) (tlp : Tlp) (s : State) : Host.Outcome State Fault Refusal :=
  .next ((s.enter t).postedWrite tlp (fun u => u.ringDisable n))

/-- DOORBELL_HOST_PTR: a write of a ring's HOST_PTR (R318). -/
def execDoorbellHostPtr (t : Nat) (n : Fin 9) (v : Word) (tlp : Tlp) (s : State) : Host.Outcome State Fault Refusal :=
  .next ((s.enter t).postedWrite tlp (fun u => u.bellHostPtr n v.toNat tlp.peer))

/-- DOORBELL_HOST_SEEN: a write of a ring's HOST_SEEN (R318). -/
def execDoorbellHostSeen (t : Nat) (n : Fin 9) (v : Word) (tlp : Tlp) (s : State) : Host.Outcome State Fault Refusal :=
  .next ((s.enter t).postedWrite tlp (fun u => u.bellHostSeen n v.toNat tlp.peer))

/-- DESCRIPTOR_READ: a ring issues a read of up to `want` descriptors (R325, R327). -/
def execDescriptorRead (t : Nat) (n : Fin 9) (want : Nat) (s : State) : Host.Outcome State Fault Refusal :=
  let s1 := (s.enter t).payBack n
  if s1.ringActs n then .next (s1.readAhead n want) else .next s1

/-- COMPLETION_RX: a completion arrives for a tag, or is dropped as late or unexpected (R329). -/
def execCompletionRx (t tag : Nat) (poisoned : Bool) (ws : List Word) (tlp : Tlp) (s : State) :
    Host.Outcome State Fault Refusal :=
  let s1 := s.enter t
  if !s1.host.perst then .next s1
  else
    match tfind s1.host.reads tag with
    | some q =>
      if poisoned then
        .next (((s1.cnt Ix.hostPoisonedRx 0).readFailed tag q).portError .poisoned true (some tlp))
      else .next (s1.readGot tag q ws)
    | none =>
      if (tfind s1.host.quarantine tag).isSome then .next ((s1.cnt Ix.hostLateCpl 0).partnerFault 0 tlp.peer 6 tag)
      else .next ((s1.cnt Ix.hostUnexpectedCpl 0).portError .unexpected true (some tlp))

/-- COMPLETION_TIMEOUT: the completions of a read are not all received within the timeout (R328, R329). -/
def execCompletionTimeout (t tag : Nat) (s : State) : Host.Outcome State Fault Refusal :=
  let s1 := s.enter t
  match tfind s1.host.reads tag with
  | some q =>
    if bit (s1.cfgWord 0x98) 4 ∨ s1.now < q.issued + s1.cplTimeout * 95 / 100 then .next s1
    else .next (((s1.cnt Ix.hostCplTimeouts 0).readFailed tag q).portError .completionTimeout false none)
  | none => .next s1

/-- TAG_QUARANTINE_END: a tag becomes free again (R329). -/
def execTagQuarantineEnd (t tag : Nat) (s : State) : Host.Outcome State Fault Refusal :=
  let s1 := s.enter t
  match tfind s1.host.quarantine tag with
  | some u =>
    if u ≤ s1.now then .next { s1 with host := { s1.host with quarantine := terase s1.host.quarantine tag } } else .next s1
  | none => .next s1

/-- FRAME_DELIVER: the next frame of a ring is written into its open descriptor (R320, R321, R323); `errs` are codewords of the tail
abutment in error. -/
def execFrameDeliver (t : Nat) (n : Fin 9) (errs : List CodeErr) (s : State) : Host.Outcome State Fault Refusal :=
  let s1 := (s.enter t).payBack n
  if s1.ringActs n then
    let r := s1.tailRead n errs
    .next (State.deliverFrame r.2 2 n r.1)
  else .next s1

/-- IDLE_CLOSE: IDLE_CLOSE µs after the last frame written, with none ready, the open descriptor closes (R320). -/
def execIdleClose (t : Nat) (n : Fin 9) (s : State) : Host.Outcome State Fault Refusal :=
  let s1 := (s.enter t).payBack n
  let r := s1.ringOf n
  if s1.ringActs n ∧ r.frames ≠ 0 ∧ r.idleClose ≠ 0 ∧ r.lastAt + r.idleClose * 256000 ≤ s1.now ∧ (s1.ringFrames n).isEmpty then
    .next (s1.closeDesc n true)
  else .next s1

/-- The port is RUNNING again, by RESUME (1) or RESTART (2) (R340). -/
def State.released (s : State) (by_ : Nat) : State :=
  ({ s with host := { s.host with firstCause := 0, causes := 0 } }.setPar Ix.hostPortState 0 0).alert 2 by_

/-- RESUME: every enabled ring writes back its DEV_PTR and fills its open descriptor again from the start (R340). -/
def State.portResume (s : State) : State :=
  if s.par Ix.hostPortState 0 = 1 ∧ s.linkUp then
    (List.range 9).foldl (fun u n =>
      let r := u.ringOf n
      if r.enable then (u.setRing n { r.restart with owed := true }).payBack n else u) (s.released 1)
  else s

/-- RESTART: every ring is disabled, its open descriptor unwritten (R340). -/
def State.portRestart (s : State) : State :=
  if s.par Ix.hostPortState 0 = 1 ∧ s.linkUp then
    (List.range 9).foldl (fun u n => if (u.ringOf n).enable then u.ringOff n else u) (s.released 2)
  else s

/-- PORT_RESUME: 0x0000_5A01 is written to RELEASE (R339, R340). -/
def execPortResume (t : Nat) (tlp : Tlp) (s : State) : Host.Outcome State Fault Refusal :=
  .next ((s.enter t).postedWrite tlp State.portResume)

/-- PORT_RESTART: 0x0000_5A02 is written to RELEASE (R339, R340). -/
def execPortRestart (t : Nat) (tlp : Tlp) (s : State) : Host.Outcome State Fault Refusal :=
  .next ((s.enter t).postedWrite tlp State.portRestart)

end Sys2Proof.Machine
end

