-- ==== Sys2Proof/Machine/Interrupts.lean ====
section
/-! DEFINITION. Interrupts (14_host_port_traffic.md R330 to R333) and configuration requests (R297 to R300, R314, R450).

Readings and choices here: PRESUMED log 30; DEDUCED log 52. -/
namespace Sys2Proof.Machine

/-! ### Sources -/

/-- HOST.IRQ_MODE: 0 none, 1 INTx, 2 MSI, 3 MSI-X (R330). -/
def State.irqMode (s : State) : Nat :=
  if bit (s.cfgWord 0xB0) 31 then 3
  else if bit (s.cfgWord 0x50) 16 then 2
  else if bit (s.cfgWord 0x04) 10 then 0 else 1

/-- A source is pending (R331 Table 6). -/
def State.irqPending (s : State) (src : Nat) : Bool :=
  if src ≤ 8 then decide ((s.ringOf src).devPtr ≠ (s.ringOf src).hostSeen)
  else if 16 ≤ src ∧ src ≤ 31 then decide (s.par Ix.actIrqCount (src - 16) % 2 ^ 32 ≠ s.par Ix.irqAck src)
  else if src = 32 then decide (s.par Ix.pflWritten 0 % 2 ^ 32 ≠ s.par Ix.irqAck 32)
  else false

/-- The sources that exist. -/
def irqSources : List Nat := List.range 9 ++ (List.range 17).map (fun i => i + 16)

/-- The vector of a source, 0 to 63. -/
def State.irqVector (s : State) (src : Nat) : Nat := s.par Ix.irqVector src % 64

/-- The least time between messages of a source in ticks (R332). -/
def State.irqInterval (s : State) (src : Nat) : Nat :=
  (if src ≤ 8 then (s.ringOf src).irqInterval else s.par Ix.irqMinInterval 0) * 256000

/-- A message for a source is due (R332). -/
def State.irqDue (s : State) (src : Nat) : Bool :=
  s.irqPending src && !s.host.disarmed.contains src && s.mayRequest
    && (match tfind s.host.lastMsg src with
      | some a => decide (a + s.irqInterval src ≤ s.now)
      | none => true)

/-! ### Messages (R333) -/

/-- A word of the MSI-X table; a vector is masked at reset. -/
def State.msixWord (s : State) (i : Nat) : Nat := tget (if i % 4 = 3 then 1 else 0) s.host.msix i

/-- The vectors that MSI grants. -/
def State.msiGranted (s : State) : Nat := 2 ^ min 5 (fld (s.cfgWord 0x50) 22 20)

/-- The number under which a vector's message is held and masked: the vector itself, or the MSI message number. -/
def State.msgNumber (s : State) (v : Nat) : Nat := if s.irqMode = 3 then v else v % s.msiGranted

/-- The message of a vector is masked. -/
def State.masked (s : State) (v : Nat) : Bool :=
  if s.irqMode = 3 then bit (s.cfgWord 0xB0) 30 || bit (s.msixWord (4 * v + 3)) 0
  else bit (s.cfgWord 0x60) (s.msgNumber v)

/-- The message itself. -/
def State.message (s : State) (v : Nat) : Out :=
  if s.irqMode = 3 then
    .interrupt (s.msixWord (4 * v + 1) * 2 ^ 32 + s.msixWord (4 * v)) (s.msixWord (4 * v + 2))
  else
    let m := s.msiGranted
    .interrupt (s.cfgWord 0x58 * 2 ^ 32 + s.cfgWord 0x54) (s.cfgWord 0x5C % 65536 / m * m + v % m)

/-- Send the message of a vector: it disarms every pending source of the vector (R332). -/
def State.sendVector (s : State) (v : Nat) : State :=
  let mine := irqSources.filter (fun x => s.irqPending x && decide (s.irqVector x = v))
  let h := s.host
  let s1 := { s with host := { h with
      disarmed := h.disarmed ++ mine.filter (fun x => !h.disarmed.contains x)
      lastMsg := mine.foldl (fun l x => tset l x s.now) h.lastMsg
      pba := putBit h.pba (s.msgNumber v) false } }
  (s1.send (s.message v)).cnt Ix.irqMessages v

/-- INTA follows the sources: asserted while any is pending (R333). -/
def State.intaFollow (s : State) : State :=
  let on := irqSources.any s.irqPending
  if s.host.inta = on then s else { s with host := { s.host with inta := on } }.send (.intx on)

/-- The message of a pending source is sent, or held while masked (R332, R333). -/
def State.irqSend (s : State) (src : Nat) : State :=
  if s.irqMode = 1 then (if s.mayRequest then s.intaFollow else s)
  else if s.irqMode = 0 ∨ !s.irqDue src then s
  else
    let v := s.irqVector src
    if s.masked v then { s with host := { s.host with pba := putBit s.host.pba (s.msgNumber v) true } } else s.sendVector v

/-- Messages held whose vectors are no longer masked are sent (R333). -/
def State.sendHeld (s : State) : State :=
  if s.irqMode < 2 ∨ !s.mayRequest then s
  else (List.range 64).foldl (fun u v =>
    if bit u.host.pba (u.msgNumber v) && !u.masked v && (decide (u.irqMode = 3) ||
        irqSources.any (fun x => u.irqPending x && decide (u.irqVector x = v))) then u.sendVector v else u) s

/-- A write of a word of the MSI-X table: the mask bit alone of the vector control word. -/
def State.msixWrite (s : State) (i v : Nat) : State :=
  { s with host := { s.host with msix := tset s.host.msix i (if i % 4 = 3 then v % 2 else v % 2 ^ 32) } }.sendHeld

/-- A write of IRQ.ACK: the source is armed (R331, R332). -/
def State.irqAckWrite (s : State) (src v : Nat) : State := (s.setPar Ix.irqAck src (v % 2 ^ 32)).arm src

/-! ### Configuration requests -/

/-- A write to the configuration space; masks that it clears let held messages go (R298, R314, R333). A new power state
other than D0 and D3hot is not taken. -/
def State.cfgWrite (s : State) (off be val : Nat) : State :=
  let v := s.cfgMerge off be val
  if off = 0x44 ∧ (v % 4 = 1 ∨ v % 4 = 2) then s
  else if off = 0x240 ∧ (fld v 13 8 < 10 ∨ 17 < fld v 13 8) then s
  else (s.setCfg off v).sendHeld

/-- A configuration word as a request reads it: the pending bits of MSI are those of the messages held. -/
def State.cfgRead (s : State) (off : Nat) : Nat := if off = 0x64 ∧ s.irqMode = 2 then s.host.pba % 2 ^ 32 else s.cfgWord off

/-! ### The commands -/

/-- IRQ_MESSAGE: a pending source's message becomes due (R330, R332, R333). -/
def execIrqMessage (t : Nat) (src : Fin 33) (s : State) : Host.Outcome State Fault Refusal := .next ((s.enter t).irqSend src)

/-- IRQ_ACK: a write of IRQ.ACK of source 16 + `n` (R331, R332). -/
def execIrqAck (t : Nat) (n : Fin 17) (v : Word) (s : State) : Host.Outcome State Fault Refusal :=
  .next ((s.enter t).irqAckWrite (16 + n) v.toNat)

/-- MSIX_VECTOR_UNMASK: the requester clears a vector's mask bit in the table; a message held is sent (R333). -/
def execMsixVectorUnmask (t : Nat) (v : Fin 64) (tlp : Tlp) (s : State) : Host.Outcome State Fault Refusal :=
  .next ((s.enter t).postedWrite tlp (fun u => u.msixWrite (4 * v + 3) 0))

/-- CONFIG_REQUEST: a configuration request of a DW with its byte enables; before step 7 of start-up ends it is answered
with Request Retry Status (R297 to R300, R312, R450). -/
def execConfigRequest (t : Nat) (write : Bool) (dw : Fin 1024) (be : Fin 16) (v : Word) (s : State) :
    Host.Outcome State Fault Refusal :=
  let s1 := s.enter t
  let off := 4 * dw.val
  if !s1.mayReceive then .next s1
  else if s1.par Ix.startStep 0 ≤ 7 then .next (s1.send (.completion .retry [] []))
  else if write then .next ((s1.cfgWrite off be v.toNat).send (.completion .success [] []))
  else .next (s1.send (.completion .success [w32 (s1.cfgRead off)] []))

end Sys2Proof.Machine
end

