-- ==== Sys2Proof/Machine/Fetch.lean ====
section
/-! DEFINITION. The fetch engine (10_span_caisson_history.md R256 to R259; 09 R235; 12 R289 code 8).

Readings and choices here: DEDUCED log 35; DESIGN CHOICE log 76. -/
namespace Sys2Proof.Machine

/-! ### Reading frames back (R225, R226, R235) -/

/-- A frame header as read (R225 Table 16). -/
structure FHead where
  version : Nat
  level : Nat
  stored : Nat
  flushed : Bool
  raw : Bool
  comp : Bool
  chip : Nat
  stream : Nat
  count : Nat
  seq : Nat
  base : Nat
  quality : Nat
  epoch : Nat
  crc : Nat
  deriving DecidableEq, Repr

/-- A word that begins a frame of VERSION 1 or 2. -/
def isSync (w : Nat) : Bool := decide (w / 2 ^ 20 = 0xA71) || decide (w / 2 ^ 20 = 0xA72)

/-- The header that eight words spell; none where SYNC, VERSION or a reserved bit breaks Table 16 (R259). -/
def headerOf (ws : List Word) : Option FHead :=
  let w (i : Nat) : Nat := (ws.getD i 0).toNat
  let ok := isSync (w 0) && !bit (w 0) 4 && decide (fld (w 1) 15 14 = 0) && decide (fld (w 6) 31 26 = 0)
  if ok then
    some ⟨fld (w 0) 23 20, fld (w 0) 19 16, fld (w 0) 15 5, bit (w 0) 3, bit (w 0) 0, bit (w 0) 1, fld (w 1) 31 16, fld (w 1) 13 11,
      fld (w 1) 10 0, w 2 + w 3 * 2 ^ 32, w 4 + w 5 * 2 ^ 32 + fld (w 6) 7 0 * 2 ^ 64, fld (w 6) 25 24, fld (w 6) 23 8, w 7⟩
  else none

/-- A header fault of code 5 (R272). -/
def FHead.mismatch (h : FHead) : Bool :=
  (h.raw == h.comp)
    || h.comp && (decide (h.level = 0) || decide (h.count ≤ h.stored) || decide (h.version = 1))
    || h.raw && decide (h.stored ≠ h.count)
    || decide (h.count % 2 = 1) || decide (h.count < 2)

/-- The payload of a frame and what is wrong with it: a Beryl code 1 to 5 with its byte position, or 6 a CRC mismatch,
whose position the spec does not state (R259). -/
def payloadOf (h : FHead) (stored : List Word) : Except (Nat × Option Nat) (List Word) :=
  let dec : Except (Nat × Option Nat) (List Word) :=
    if h.mismatch then .error (5, some 0)
    else if h.comp then
      match berylDecode h.count stored with
        | .ok p => .ok p
        | .error e => .error (e.1, some e.2)
    else .ok stored
  match dec with
  | .ok p => if crc32c (bytesOfWords p) = h.crc then .ok p else .error (6, none)
  | .error e => .error e

/-- Length of a record in words from its header (R210 Table 2); none for a reserved type. -/
def recordLength (h : Nat) : Option Nat :=
  match h / 2 ^ 28 with
  | 0 => some 1 | 1 => some 2 | 2 => some 3 | 3 => some 4 | 4 => some 4 | 5 => some 4
  | 6 => if fld h 19 18 = 0 then some 10 else some (4 + fld h 17 8)
  | 7 => some 4 | 8 => some 5 | 9 => some (4 + fld h 11 10) | 10 => some 4 | 11 => some 3
  | 15 => some (fld h 7 0)
  | _ => none

/-- The records of a payload, each as its words. DESIGN CHOICE, log 76: at a record of a reserved type, whose length nothing states,
the walk ends, and what follows it in the frame is not kept; so at a length that runs past the payload. -/
def splitRecords : Nat → List Word → List (List Word)
  | 0, _ => []
  | _, [] => []
  | fuel + 1, w :: ws =>
    match recordLength w.toNat with
    | some n => if n = 0 ∨ ws.length + 1 < n then [] else ((w :: ws).take n) :: splitRecords fuel ((w :: ws).drop n)
    | none => []

/-- A source of VERSION 1 in the numbering of VERSION 2 (R235). -/
def sourceOfV1 (n : Nat) : Nat :=
  if 64 ≤ n ∧ n ≤ 71 then n + 128 else if n = 120 then 202 else if n = 127 then 255 else n

/-- A record of VERSION 1 as a record of VERSION 2 (R235). -/
def convertV1 : List Word → List Word
  | [] => []
  | w :: ws =>
    let h := w.toNat
    if h = 0 then [0] else w32 (h / 2 ^ 28 * 2 ^ 28 + sourceOfV1 (fld h 27 21) * 2 ^ 20 + h % 2 ^ 20) :: ws

/-- The stamp of a record in a frame: its full time for an EPOCH record, else base and offset (R211). -/
def stampIn (base : Nat) (r : List Word) : Nat :=
  let w (i : Nat) : Nat := (r.getD i 0).toNat
  if w 0 / 2 ^ 28 = 5 then w 1 + w 2 * 2 ^ 32 + w 3 % 256 * 2 ^ 64 else base + w 1

/-- The fetch keeps a record (R258). An EXTENSION of another subtype than MARK_IN is an error in the data and skipped by its LENGTH
(R5, R223). -/
def State.fetchKeeps (s : State) (base : Nat) (r : List Word) : Bool :=
  let h := (r.headD 0).toNat
  let t := stampIn base r
  decide (h ≠ 0) && (decide (h / 2 ^ 28 ≠ 15) || decide (fld h 19 12 = 1)) && bit (s.par Ix.fetchTypeFilter 0) (h / 2 ^ 28) && bit (s.par Ix.fetchSrcFilter (h / 2 ^ 20 % 256 / 32)) (h / 2 ^ 20 % 32)
    && decide (s.par Ix.fetchTStart 0 ≤ t) && decide (t < s.par Ix.fetchTEnd 0)

/-- The fetch frame of a frame read, where it keeps a record (R258). -/
def State.fetchFrame (s : State) (h : FHead) (payload : List Word) : Option Frame :=
  let raw := splitRecords payload.length payload
  let recs := (if h.version = 1 then raw.map convertV1 else raw).filter (s.fetchKeeps h.base)
  if recs.isEmpty then none
  else
    let pay := padded recs.flatten
    some { base := h.base, quality := h.quality, epoch := h.epoch, chip := h.chip, stream := h.stream, level := 0
           seq := h.seq, flushed := h.flushed
           gap := recs.any (fun r => decide ((r.headD 0).toNat / 2 ^ 28 = 4)), comp := false
           payload := pay, stored := pay, records := recs.length, last := (recs.map (stampIn h.base)).foldl max 0 }

/-! ### Finding frames (R256, R257) -/

/-- Words at an address, as a reader gets them. -/
def State.wordsAt (s : State) (a n : Nat) : List Word := wordsOfBytes (s.readMem a (4 * n))

/-- The header at an address; none where it is no header, or one of its codewords cannot be corrected (R259, R289 code 8). -/
def State.headerAt (s : State) (a : Nat) : Option FHead :=
  if (s.badAt a 32).isEmpty then headerOf (s.wordsAt a 8) else none

/-- The places at or after `a` and below `b`, word by word from `a`, where a header decodes with VERSION 2 and a sequence number above
`last`; a place without a listed SYNC byte and without an error cannot be one (R289 code 8). -/
def State.syncPlaces (s : State) (a b : Nat) (last : Option Nat) : List Nat :=
  let at_ := (s.mem.filter (fun c => decide (c.2 = 0xA7))).map (fun c => c.1 - 3)
    ++ s.dram.bad.flatMap (fun x => (List.range 4).map (fun i => x.1 + 4 * i + a % 4))
  at_.filter (fun c => decide (a ≤ c) && decide (c < b) && decide ((c - a) % 4 = 0) &&
    (s.headerAt c).any (fun h => decide (h.version = 2) && last.all (fun q => decide (q < h.seq))))

/-- The next place at or after `a` and below `b` where the scan after a header fault goes on. -/
def State.nextSync (s : State) (a b : Nat) (last : Option Nat) : Option Nat :=
  let l := s.syncPlaces a b last
  l.find? (fun c => l.all (fun d => decide (c ≤ d)))

/-- Where the frame after the one at offset `pos` may begin, by the header read there. -/
def State.frameAfter (s : State) (r : Region) (pos : Nat) (last : Option Nat) : Option FHead → Option Nat
  | some h => some (pos + 32 + 4 * h.stored)
  | none => (s.nextSync (r.base + pos + 4) (r.base + r.size) last).map (fun b => b - r.base)

/-- The frames of the host region, as offsets from its base; its contents end where no SYNC word of VERSION 1 or 2 stands in the place
of a frame (R256). `last` is the last good sequence number. -/
def State.hostFrames (s : State) (r : Region) : Nat → Nat → Option Nat → List Nat
  | 0, _, _ => []
  | fuel + 1, pos, last =>
    let a := r.base + pos
    if r.size ≤ pos ∨ ((s.badAt a 32).isEmpty ∧ !isSync ((s.wordsAt a 1).headD 0).toNat) then []
    else
      let h := s.headerAt a
      let last1 := match h with
        | some x => some x.seq
        | none => last
      pos :: (s.frameAfter r pos last h).elim [] (fun next => s.hostFrames r fuel next last1)

/-- The frames of the fetched region in order: key and address. -/
def State.fetchEntries (s : State) : List (Nat × Nat) :=
  let n := s.par Ix.fetchRegion 0
  if n < 8 then (s.streamOf n).hist.map (fun h => (h.seq, (s.histRegion n).base + h.offset))
  else (s.hostFrames s.hostRegion (s.mem.length + s.dram.bad.length + 1) 0 none).map (fun p => (p, s.hostRegion.base + p))

/-- The header at an address belongs to the epoch that is fetched. -/
def State.inEpoch (s : State) (a : Nat) : Bool :=
  (s.headerAt a).any (fun h => decide (h.epoch = s.par Ix.fetchEpoch 0))

/-- The entries of the epoch that begin at or below T_START. -/
def State.entriesBelow (s : State) : List (Nat × Nat) :=
  (s.fetchEntries.filter (fun e => s.inEpoch e.2)).filter (fun e =>
    (s.headerAt e.2).any (fun h => decide (h.base ≤ s.par Ix.fetchTStart 0)))

/-- The key of the first frame to read: the last of the epoch at or below T_START, or the first of the epoch (R257). -/
def State.fetchFirst (s : State) : Option Nat :=
  match s.entriesBelow.getLast? with
  | some e => some e.1
  | none => (s.fetchEntries.find? (fun e => s.inEpoch e.2)).map Prod.fst

/-- The frame due first has been overwritten (R259, R261): frames of the epoch have been, the first of them below T_END, and none that
is left begins at or below T_START. -/
def State.firstLost (s : State) : Bool :=
  let n := s.par Ix.fetchRegion 0
  decide (n < 8) && s.entriesBelow.isEmpty &&
    (tfind (s.streamOf n).histGone (s.par Ix.fetchEpoch 0)).any (fun b => decide (b < s.par Ix.fetchTEnd 0))

/-! ### The engine (R257 to R259) -/

/-- The fetch ends with a state; the ring owes a descriptor with FETCH_END (R323). -/
def State.fetchEnds (s : State) (st : Nat) : State :=
  { s with fetch := { s.fetch with ending := true } }.setPar Ix.fetchState 0 st

/-- The fetch has read every frame due. -/
def State.fetchDone (s : State) : State := s.fetchEnds (if s.fetch.lost then 3 else 2)

/-- A frame is skipped for a fault: its code, position and sequence number (R259). -/
def State.fetchFault (s : State) (code : Nat) (pos : Option Nat) (seq : Nat) : State :=
  let p := match pos with
    | some p => p
    | none => Config.freeNat s.fresh
  let s0 := if pos.isSome then s else s.draw
  ((s0.cnt Ix.fetchFaults 0).setPar Ix.fetchLastFault 0 (code * 2 ^ 24 + p % 2 ^ 24)).setPar Ix.fetchLastFaultSeq 0 seq

/-- A frame is skipped as overwritten. -/
def State.fetchSkip (s : State) : State := { s with fetch := { s.fetch with lost := true } }.cnt Ix.fetchSkipped 0

/-- FETCH.FIRST_SEQ and FETCH.LAST_SEQ follow the frames read. -/
def State.fetchSeen (s : State) (seq : Nat) : State :=
  let s1 := if s.fetch.seen then s else s.setPar Ix.fetchFirstSeq 0 seq
  { s1 with fetch := { s1.fetch with seen := true } }.setPar Ix.fetchLastSeq 0 seq

/-- A frame whose payload has been decoded is filtered; one whose payload cannot be is reported (R258, R259). -/
def State.fetchTake (s : State) (h : FHead) : Except (Nat × Option Nat) (List Word) → State
  | .error e => s.fetchFault e.1 e.2 h.seq
  | .ok p => { s with fetch := { s.fetch with ready := s.fetchFrame h p } }

/-- A header fault at address `a`: reading goes on where the scan finds a header (R259, R289 code 8). -/
def State.headerFault (s : State) (a : Nat) (ws : List Word) : State :=
  let n := s.par Ix.fetchRegion 0
  let s1 := s.fetchFault 7 none ((ws.getD 2 0).toNat + (ws.getD 3 0).toNat * 2 ^ 32)
  if n < 8 then
    let r := s.histRegion n
    let last := if s.fetch.seen then some (s.par Ix.fetchLastSeq 0) else none
    let next := match s.nextSync (a + 4) (r.base + r.size) last with
      | some b => some b
      | none => s.nextSync r.base a (some (last.getD (s.fetch.next - 1)))
    { s1 with fetch := { s1.fetch with cursor := next } }
  else s1

/-- A frame read as `ws`, by its header: `n` the region. -/
def State.fetchHeader (s : State) (n a : Nat) (ws : List Word) : Option FHead → State
  | none => s.headerFault a ws
  | some h =>
    if n < 8 ∧ h.version ≠ 2 then s.headerFault a ws
    else (s.fetchSeen h.seq).fetchTake h (payloadOf h ((ws.drop 8).take h.stored))

/-- Read the frame at an address (R258, R259, R289 code 8). -/
def State.fetchRead (s : State) (a : Nat) : State :=
  let n := s.par Ix.fetchRegion 0
  let len := (s.headerAt a).elim 32 (fun h => 32 + 4 * h.stored)
  let ws := wordsOfBytes (s.readMem a len)
  (s.countReads a len 8 (if n < 8 then n else 0xFF)).fetchHeader n a ws (s.headerAt a)

/-- The entry that is read next: where the scan after a header fault has found one, else the next of the epoch, or one whose header
does not decode. -/
def State.fetchNext (s : State) : Option (Nat × Nat) :=
  match s.fetch.cursor with
  | some a => (s.headerAt a).map (fun h => (h.seq, a))
  | none => s.fetchEntries.find? (fun e => decide (s.fetch.next ≤ e.1) && ((s.headerAt e.2).isNone || s.inEpoch e.2))

/-- One step of the engine: choose the first frame, skip an overwritten one, read the next, or end. -/
def State.fetchStep (s : State) : State :=
  let s1 :=
    if s.fetch.started then s
    else
      let u := if s.firstLost then s.fetchSkip else s
      { u with fetch := { u.fetch with started := true, next := (u.fetchFirst).getD (2 ^ 64) } }
  let oldest := (s1.fetchEntries.head?.map Prod.fst).getD 0
  if s1.par Ix.fetchRegion 0 < 8 ∧ s1.fetch.next < oldest then
    let u := s1.fetchSkip
    { u with fetch := { u.fetch with next := u.fetch.next + 1, cursor := none } }
  else
    match s1.fetchNext with
    | none => s1.fetchDone
    | some e =>
      if (s1.headerAt e.2).any (fun h => decide (s1.par Ix.fetchTEnd 0 ≤ h.base)) then s1.fetchDone
      else { s1 with fetch := { s1.fetch with next := e.1 + 1, cursor := none } }.fetchRead e.2

/-- A write of 1 to FETCH.CMD (R242, R257); a descriptor with FETCH_END that an earlier fetch owes stays owed (R323). -/
def State.fetchStart (s : State) : State :=
  if s.par Ix.fetchState 0 = 1 then s
  else
    let c := if s.par Ix.fetchRegion 0 = 8 then s.hostRegions else (s, true)
    if c.2 then { c.1 with fetch := { ending := s.fetch.ending } }.setPar Ix.fetchState 0 1 else c.1.fetchEnds 5

/-- A write of 2 to FETCH.CMD: the fetch ends, after the frame in progress (R257). -/
def State.fetchAbort (s : State) : State :=
  if s.par Ix.fetchState 0 ≠ 1 then s
  else if s.fetch.ready.isSome then { s with fetch := { s.fetch with aborting := true } }
  else s.fetchEnds 4

/-! ### The commands -/

/-- FETCH_START: the host writes 1 to FETCH.CMD (R257). -/
def execFetchStart (t : Nat) (s : State) : Host.Outcome State Fault Refusal := .next (s.enter t).fetchStart

/-- FETCH_ABORT: the host writes 2 to FETCH.CMD (R257). -/
def execFetchAbort (t : Nat) (s : State) : Host.Outcome State Fault Refusal := .next (s.enter t).fetchAbort

/-- FETCH_FRAME: the engine reads, decodes and filters one frame, once the ring has taken the one before (R258, R259) and has closed
what the fetch before owed; `errs` are errors that have come up in stored codewords. -/
def execFetchFrame (t : Nat) (errs : List CodeErr) (s : State) : Host.Outcome State Fault Refusal :=
  let s1 := s.enter t
  if s1.runs 2 ∧ s1.dramRuns ∧ s1.par Ix.fetchState 0 = 1 ∧ s1.fetch.ready.isNone ∧ !s1.fetch.ending then .next ((s1.strike errs).fetchStep) else .next s1

end Sys2Proof.Machine
end

