-- ==== Sys2Proof/Machine/Queue.lean ====
section
/-! DEFINITION. The Causeway's configuration queue (06_causeway.md R148, R149, R474), CONFIG records of changes (01 R24, 09
R220), and the cycle in which both paths meet (01 R16).

Readings and choices here: DEDUCED log 38, log 41, log 74, log 84. -/
namespace Sys2Proof.Machine

/-- Changes queued for a boundary. -/
def atBoundary (q : List Change) (e : Nat) : Nat := (q.filter (fun c => decide (c.eff = e))).length

/-- The first boundary from `e` on that has room for one more of its 128 changes, or already holds the slot. -/
def fitBoundary (q : List Change) (ix sub : Nat) : Nat → Nat → Nat
  | 0, e => e
  | fuel + 1, e =>
    if atBoundary q e < 128 ∨ q.any (fun c => decide (c.eff = e) && decide (c.ix = ix) && decide (c.sub = sub)) then e
    else fitBoundary q ix sub fuel (e + 16384)

/-- A change enters the queue for boundary `e0` or the next one with room; of two changes of a slot for one boundary the
last stands (R149). -/
def State.enqueueAt (s : State) (e0 ix sub val : Nat) : State :=
  let q := s.cw.queue
  let e := fitBoundary q ix sub (q.length + 1) e0
  let keep := q.filter (fun c => !(decide (c.eff = e) && decide (c.ix = ix) && decide (c.sub = sub)))
  let s1 := { s with cw := { s.cw with queue := keep ++ [⟨e, ix, sub, val⟩] } }
  if e = e0 then s1 else s1.cnt Ix.cwRwlDeferred 0

/-- A write accepted now enters the queue (R148). -/
def State.enqueue (s : State) (ix sub val : Nat) : State := s.enqueueAt (effTime s.now) ix sub val

/-- The slots that the host has written in the present Jasper cycle. -/
def State.hostSlots (s : State) : List (Nat × Nat) := if s.ds.hostCycle = s.jasperCycle then s.ds.hostSlots else []

/-- The host writes a slot (R16). -/
def State.noteHost (s : State) (ix sub : Nat) : State :=
  { s with ds := { s.ds with hostCycle := s.jasperCycle, hostSlots := (ix, sub) :: s.hostSlots } }

/-- CONFIG record of a value in force from `e` on (R149, R220). -/
def State.tellConfig (s : State) (e ix sub v : Nat) : State :=
  let k := ((paramOf ix).map (fun p => p.ty.words)).getD 1
  s.emit (recConfig e ix sub k v)

/-- A held response waits for the new boundary of its changes (R376, R474). -/
def HeldResponse.follow (q : List Change) (now_ : Nat) (h : HeldResponse) : HeldResponse :=
  { h with due := ((q.filter (fun c => h.slots.any (fun (x : Nat × Nat × Nat) => decide (x.1 = c.ix) && decide (x.2.1 = c.sub)))).map
      Change.eff).foldl max now_ }

/-- After a load every queued change waits for the first release boundary of the new time, in its old order (R474). -/
def State.requeue (s : State) : State :=
  let old := s.cw.queue
  let s1 := old.foldl (fun (u : State) (c : Change) => u.enqueueAt (nextMul s.now 16384) c.ix c.sub c.val)
    { s with cw := { s.cw with queue := [] } }
  { s1 with net := { s1.net with held := s1.net.held.map (HeldResponse.follow s1.cw.queue s1.now) } }

/-- LANE.ROLE codes that use a lane parameter (R77): 0 all, 1 all but OFF, 2 the analog roles. -/
def roleNeed (ix : Nat) : Nat :=
  if (0x3010 ≤ ix ∧ ix ≤ 0x3014) then 1
  else if (0x3020 ≤ ix ∧ ix ≤ 0x3023) ∨ (0x3040 ≤ ix ∧ ix ≤ 0x3045) ∨ (0x3050 ≤ ix ∧ ix ≤ 0x3060) ∨
      (0xA000 ≤ ix ∧ ix ≤ 0xA002) then 2
  else 0

/-- The role of a lane uses the parameter (R77): LANE.CA_SEL the charge roles (R85), the cold junction TEMPERATURE (R130, R131),
LANE.COEF_A TEMPERATURE and CURRENT_ROGOWSKI, LANE.COEF_B and LANE.COEF_C TEMPERATURE (R132), the others by `roleNeed`. -/
def State.roleUses (s : State) (ix lane : Nat) : Bool :=
  let r := s.par Ix.laneRole lane
  if ix = Ix.laneCaSel then decide (5 ≤ r)
  else if ix = Ix.laneCoefA then decide (r = 3) || decide (r = 6)
  else if [Ix.laneCjLane, Ix.laneCjFixed, Ix.laneCoefB, Ix.laneCoefC].contains ix then decide (r = 3)
  else decide (roleNeed ix ≤ r)

/-- The index takes sub-index 255 as a write to every lane, on the line of release boundaries (R348). -/
def laneWide (ix : Nat) : Bool :=
  decide (ix / 256 = 0x30) || (decide (0x6200 ≤ ix) && decide (ix ≤ 0x6204)) || (decide (0xA000 ≤ ix) && decide (ix ≤ 0xA002))

/-- A queued change reaches an instance: it names it, or it is a broadcast to every lane that uses the parameter. -/
def State.covers (s : State) (c : Change) (ix sub : Nat) : Bool :=
  decide (c.ix = ix) && (decide (c.sub = sub) ||
    (laneWide ix && decide (c.sub = 255) && decide (sub < 192) && s.roleUses ix sub))

/-- The value of a slot as a read returns it: the latest one accepted, in force or not (R355). -/
def State.latest (s : State) (ix sub : Nat) : Nat :=
  match (s.cw.queue.filter (fun c => s.covers c ix sub)).getLast? with
  | some c => c.val
  | none => s.par ix sub

/-- Keep the value of a slot before a change that takes effect at `t` (R150). -/
def State.noteChange (s : State) (t k : Nat) : State :=
  { s with cw := { s.cw with past := s.cw.past ++ [⟨t, k, s.val k⟩] } }

/-- A slot takes a value at `t`; records stamped before `t` are still judged by the old one (R150). -/
def State.setAt (s : State) (t ix sub v : Nat) : State := (s.noteChange t (key ix sub)).setPar ix sub v

end Sys2Proof.Machine
end

