-- ==== Sys2Proof/Machine/Timers.lean ====
section
/-! DEFINITION. Durations that run across a move of Garnet time. The rules that give them count seconds, not stamps, so a
load or a step moves their origins with the count (log 31).

Readings and choices here: DEDUCED log 31. -/
namespace Sys2Proof.Machine

/-- An instant carried from a count `old` to a count `new`, as far back as the count allows. -/
def shiftTime (old new t : Nat) : Nat := t + new - old

/-- The entries of a table of instants, carried. -/
def shiftTbl (old new : Nat) (l : Tbl Nat) : Tbl Nat := l.map (fun (x : Nat × Nat) => (x.1, shiftTime old new x.2))

/-- The DVFS sequencer's deadlines, carried. -/
def Dvfs.shift (old new : Nat) : Dvfs → Dvfs
  | .steady => .steady
  | .dwell n u p => .dwell n (shiftTime old new u) p
  | .wait n u p => .wait n (shiftTime old new u) p
  | .down u => .down (shiftTime old new u)

/-- The host port's durations, carried: completion timeouts, quarantines, message intervals, idle times. -/
def HostSt.shift (old new : Nat) (h : HostSt) : HostSt :=
  { h with
    rings := h.rings.map (fun (x : Nat × RingSt) => (x.1, { x.2 with lastAt := shiftTime old new x.2.lastAt }))
    reads := h.reads.map (fun (x : Nat × ReadReq) => (x.1, { x.2 with issued := shiftTime old new x.2.issued }))
    quarantine := shiftTbl old new h.quarantine
    lastMsg := shiftTbl old new h.lastMsg }

/-- The field network's durations, carried: sessions, subscriptions, the ring test. -/
def NetSt.shift (old new : Nat) (x : NetSt) : NetSt :=
  { x with
    sessions := x.sessions.map (fun (y : Nat × Session) =>
      (y.1, { y.2 with at_ := shiftTime old new y.2.at_, evAt := shiftTime old new y.2.evAt }))
    subs := x.subs.map (fun (y : Nat × Sub) => (y.1, { y.2 with due := shiftTime old new y.2.due }))
    evStream := shiftTbl old new x.evStream
    evAny := shiftTime old new x.evAny
    testSeen := shiftTime old new x.testSeen }

/-- The durations of clocks and power, carried. -/
def ClkSt.shift (old new : Nat) (c : ClkSt) : ClkSt :=
  { c with
    started := shiftTbl old new c.started
    readyAt := shiftTbl old new c.readyAt
    heldSince := shiftTime old new c.heldSince
    lockedAt := shiftTime old new c.lockedAt
    lockFrom := shiftTbl old new c.lockFrom
    dvfs := c.dvfs.shift old new }

/-- Every duration, carried from a count `old` to a count `new`. -/
def State.shiftTimers (s : State) (old new : Nat) : State :=
  { s with
    host := s.host.shift old new
    net := s.net.shift old new
    clk := s.clk.shift old new
    ds := { s.ds with copyAt := s.ds.copyAt.map (shiftTime old new) }
    nv := { s.nv with lastCommit := shiftTime old new s.nv.lastCommit, fwSince := shiftTime old new s.nv.fwSince } }

end Sys2Proof.Machine
end

