-- ==== Sys2Proof/Machine/Time.lean ====
section
/-! DEFINITION. The time base (02_garnet_time.md): quality, epochs, the servo, slews and steps, loads, PPS, the TDCs.

Readings and choices here: DESIGN CHOICE log 3, log 21, log 78; DEDUCED log 16, log 17, log 18, log 19, log 22; PRESUMED log
20. -/
namespace Sys2Proof.Machine

/-! ### EPOCH and CLOCK records (R39, R45, R52) -/

/-- An EPOCH record stamped `t` in the store. -/
def Item.epochAt (t : Nat) : Item → Bool
  | .record r _ => decide (r.typ = 5) && decide (r.stamp = t)
  | .ctl _ _ => false

/-- Add causes, the quality and the epoch number to an EPOCH record. -/
def Item.addCauses (t causes quality epoch : Nat) : Item → Item
  | .record r o =>
    if r.typ = 5 ∧ r.stamp = t then .record (recEpoch t (fld r.spec 19 16 ||| causes) quality epoch) o else .record r o
  | i => i

/-- The item stands for every stream. -/
def Item.forAll : Item → Bool
  | .record _ none => true
  | _ => false

/-- What has not been released: in the store, or waiting for the Causeway to run again. -/
def State.unreleased (s : State) : List Item := s.cw.store ++ s.cw.late

/-- The streams for which alone an EPOCH record stamped `t` is still to be released. -/
def State.epochStreams (s : State) (t : Nat) : List Nat :=
  s.unreleased.filterMap (fun i => match i with
    | .record r (some n) => if r.typ = 5 ∧ r.stamp = t then some n else none
    | _ => none)

/-- An EPOCH record for every stream; causes at one tick share one record (R52). -/
def State.emitEpoch (s : State) (t causes : Nat) : State :=
  let q := s.time.quality.code
  let n := s.par Ix.timeEpochNum 0
  let alone := s.epochStreams t
  let add := List.map (Item.addCauses t causes q n)
  let s1 := { s with cw := { s.cw with store := add s.cw.store, late := add s.cw.late } }
  if s.unreleased.any (fun i => i.epochAt t && i.forAll) then s1
  else if alone.isEmpty then s1.emit (recEpoch t causes q n)
  else ((List.range 8).filter (fun k => !alone.contains k)).foldl
    (fun u k => u.emitItem (.record (recEpoch t causes q n) (some k))) s1

/-- The EPOCH record with the START cause of stream `n`, with LOAD where it is owed; other causes at that tick are taken
in (R52, R54). -/
def State.emitStart (s : State) (n t : Nat) : State :=
  let owed := bit s.time.loadOwed n
  let common := s.unreleased.find? (fun i => i.epochAt t && i.forAll)
  let q := s.time.quality.code
  let e := s.par Ix.timeEpochNum 0
  let mine := recEpoch t (8 + b2n owed) q e
  let s1 := { s with time := { s.time with loadOwed := putBit s.time.loadOwed n false } }
  match common with
  | some (.record r none) =>
    let c := fld r.spec 19 16
    let x := Item.record r none
    let s2 := { s1 with cw := { s1.cw with store := s1.cw.store.erase x, late := s1.cw.late.erase x } }
    let s3 := ((List.range 8).filter (fun k => decide (k ≠ n))).foldl (fun u k => u.emitItem (.record r (some k))) s2
    s3.emitItem (.record (recEpoch t (c ||| (8 + b2n owed)) q e) (some n))
  | _ => s1.emitItem (.record mine (some n))

/-- The samples of every running lane are settling from `t` (R111, R118). -/
def State.settleAll (s : State) (t : Nat) : State := s.settleLanes ((List.range 192).filter s.laneOn) t

/-- Time quality changes at `t`: one CLOCK and one EPOCH record, and a settling cause of every lane (R39, R40, R111). -/
def State.setQuality (s : State) (new : Quality) (t : Nat) : State :=
  if s.time.quality = new then s
  else
    let old := s.time.quality.code
    let p : Past := ⟨t, key Ix.timeQuality 0, old⟩
    let s1 := { s with time := { s.time with quality := new }, cw := { s.cw with past := s.cw.past ++ [p] } }
    (((s1.emit (recClock t 0 new.code old)).emitEpoch t 4).settleAll t).alert 5 new.code

/-! ### Synchronisation (R45) -/

/-- TIME.SYNC_STATE changes; a CLOCK record notes it. -/
def State.syncTo (s : State) (new : Nat) : State :=
  let old := s.par Ix.timeSyncState 0
  if old = new then s else (s.setPar Ix.timeSyncState 0 new).emit (recClock s.now 2 new old)

/-- The servo is enabled and no load suspends it (R54, R57). -/
def State.servoRuns (s : State) : Bool := decide (s.par Ix.timeServoEnable 0 = 1) && s.time.load.isNone

/-- No stream S0 to S7 and no sequencer K0 to K3 is enabled. -/
def State.idle (s : State) : Bool := !s.anyStream && !s.anySeq

/-- The servo decides a step for an offset past the threshold, as TIME.STEP_MODE allows (R48, R50). -/
def State.decideStep (s : State) (off : Int) : State :=
  let mode := s.par Ix.timeStepMode 0
  if off.natAbs ≤ s.par Ix.timeStepThreshold 0 * 256 ∨ s.time.step.isSome then s
  else if off < 0 then
    if mode = 2 ∨ (mode = 1 ∧ s.idle) then
      { s with time := { s.time with step := some (.forward (nextMul s.now 268435456) off.natAbs) } }
    else s
  else if mode ≠ 0 ∧ s.idle then { s with time := { s.time with step := some (.backward off.natAbs) } }
  else s

/-- The servo takes a filtered offset from its master (R45, R48). -/
def State.servo (s : State) (off : Int) : State :=
  let s1 := s.setPar Ix.timeOffset 0 (ofI32 (clampI (-2147483648) 2147483647 off))
  let n := if off.natAbs ≤ s1.par Ix.timeLockWindow 0 then s1.time.inWindow + 1 else 0
  let s2 := { s1 with time := { s1.time with inWindow := n } }
  (s2.syncTo (if 16 ≤ n then 2 else 1)).decideStep off

/-- A master is selected, lost, or no longer selected (R45): announce receipt timeout and link down lead to NET_HOLDOVER, a
decision of the best master clock algorithm to FREE. -/
def State.setMaster (s : State) (on lost : Bool) : State :=
  if s.time.master = on then s
  else
    let s1 := { s with time := { s.time with master := on, inWindow := 0 } }
    if s1.par Ix.timeServoEnable 0 = 0 then s1 else s1.syncTo (if on then 1 else if lost then 3 else 0)

/-- TIME.SERVO_ENABLE takes effect (R45, Table 6). -/
def State.servoEffect (s : State) (on : Bool) : State :=
  let s1 := { s with time := { s.time with inWindow := 0, step := none } }
  s1.syncTo (if on && s1.time.master then 1 else 0)

/-! ### Stamps that survive a move of the count (R53, R54, R111) -/

/-- Running sources count from the new time; what a source stopped on the old line is over. -/
def RunSt.rebase (new : Nat) (r : RunSt) : RunSt := if r.on then { r with since := min r.since new } else { r with until_ := 0 }

/-- The count moves to `new` by a load or a backward step: everything kept by stamps of the old line starts again. DESIGN CHOICE,
log 78: what is left of a slice power-up is over with the old line, and samples are produced from the new time on; a reference cycle
in progress runs its 8,000 µs from there. -/
def State.rebase (s : State) (new : Nat) : State :=
  ({ s with
    now := new
    time := { s.time with
      anchor := s.nextEdge - s.now * 65536 + new * 65536, xbEdge := none, sroEdge := none, slew := none, slewDue := 0
      skipped := none, tableAt := none, froAt := none, ptpRx := [], ptpTx := [] }
    edge := s.edge.map (fun (x : Nat × EdgeSt) => (x.1, { x.2 with blind := none, sampleFrom := new, fcSeen := none }))
    run := s.run.map (fun (x : Nat × RunSt) => (x.1, x.2.rebase new))
    ex := s.ex.map (fun (x : Nat × ExSt) => (x.1, { x.2 with hist := (x.2.hist.take 1).map (fun h => { h with since := 0 }) }))
    ca := s.ca.map (fun (x : Nat × CaSt) => (x.1, {}))
    tone := []
    clamp := s.clamp.map (fun (x : Nat × List Span) =>
      (x.1, (x.2.filter (fun y => y.to_.isNone)).map (fun _ => ⟨0, none⟩)))
    conv := s.conv.map (fun (x : Nat × ConvSt) => (x.1, { x.2 with from_ := new, unsettled := [], first := true, made := [], cause := none }))
    slice := s.overlap.foldl (fun (l : Tbl SliceSt) (o : Nat × Overlap) =>
      tset l (9 * o.1 + o.2.spare) { tget { state := .spare } l (9 * o.1 + o.2.spare) with state := .spare })
      (s.slice.map (fun (x : Nat × SliceSt) => (x.1, { x.2 with cycleEnd := if x.2.state = .spareCal then new + 2048000000 else 0 })))
    overlap := []
    driven := []
    pflLast := []
    cw := { s.cw with bucket := dueBuckets s.horizon new, dueTo := 0, port := {}, past := [], closeCycle := none }
    stream := s.stream.map (fun (x : Nat × StreamSt) => (x.1, x.2.endLine s))
    dram := { s.dram with passStart := new } } : State).shiftTimers s.now new

/-- A new epoch begins at `t` (R51). -/
def State.newEpoch (s : State) (t : Nat) : State :=
  s.setAt t Ix.timeEpochNum 0 ((s.par Ix.timeEpochNum 0 + 1) % 65536)

/-! ### The time loader (R53, R54) -/

/-- A pending load is cancelled. -/
def State.cancelLoad (s : State) : State :=
  let s1 := { s with time := { s.time with load := none } }
  (s1.setPar Ix.timeLoadState 0 3).cnt Ix.timeLoadCancelled 0

/-- A refused write of the time base, time loader, PTP engine or PPS_IN input (R57). -/
def State.timeReject (s : State) (ix sub : Nat) : State := s.reject Ix.timeRejectedWrites Ix.timeLastRejected 0 ix sub

/-- A write of 1 to TIME.LOAD_CMD. -/
def State.loadCmd (s : State) : State :=
  if s.capturing then s.timeReject Ix.timeLoadCmd 0
  else
    let l : PendingLoad := ⟨s.par Ix.timeLoadMode 0, s.par Ix.timeLoadValue 0, s.par Ix.timeLoadAt 0, s.now⟩
    if l.mode = 1 ∧ l.loadAt ≤ s.now then s.cancelLoad
    else { s with time := { s.time with load := some l } }.setPar Ix.timeLoadState 0 1

/-- When a pending load takes effect; none where an edge of PPS_IN decides. -/
def PendingLoad.due (l : PendingLoad) : Option Nat :=
  match l.mode with
  | 0 => some (nextMicro l.accepted)
  | 1 => some l.loadAt
  | _ => none

/-- Releases that wait for a whole microsecond wait for the first one of the new time (R474). -/
def OutSt.rebase (new : Nat) (o : OutSt) : OutSt := { o with releaseAt := o.releaseAt.map (fun _ => nextMicro new) }

/-- Caissons and units restart at a load (R54, R162, R248). -/
def State.restartAt (s : State) (t : Nat) : State := ((List.range 24).foldl (State.caiLoad t) s).unitsLoad t

/-- Releases of the outputs and sources wait for the new time (R474). -/
def State.rebaseReleases (s : State) (v : Nat) : State :=
  { s with
    guard := s.guard.map (fun (x : Nat × OutSt) => (x.1, x.2.rebase v))
    line := s.line.map (fun (x : Nat × OutSt) => (x.1, x.2.rebase v))
    ex := s.ex.map (fun (x : Nat × ExSt) => (x.1, { x.2 with releaseAt := x.2.releaseAt.map (fun _ => nextMicro v) }))
    ds := { s.ds with snapAt := s.ds.snapAt.map (fun _ => nextMul v 16384) }
    clk := { s.clk with pending := s.clk.pending.map (fun p => { p with due := nextMicro v }) } }

/-- The time base after a load to `v`: no step is due, LOAD is owed to every stream, PPS_OUT is low and rises after the load
instant (R54, R55). -/
def TimeSt.loaded (x : TimeSt) (v : Nat) : TimeSt :=
  { x with load := none, step := none, loadOwed := 255, inWindow := 0
           pps := { x.pps with high := false, fallAt := none, after := some v } }

/-- The servo is back at ACQUIRING, where it has a master (R54). -/
def State.servoReset (s : State) : State := if s.par Ix.timeSyncState 0 = 0 then s else s.syncTo 1

/-- Garnet time becomes `v` (R54, R153, R474). -/
def State.loadTime (s : State) (v : Nat) : State :=
  let s1 := s.discardEvents.rebase v
  let s2 := { s1 with time := s1.time.loaded v }.rebaseReleases v
  let s3 := s2.setPar Ix.timeEpochNum 0 ((s2.par Ix.timeEpochNum 0 + 1) % 65536)
  (((s3.setPar Ix.timeLoadState 0 2).requeue.restartAt v).settleAll v).servoReset

/-- An enable of a stream or sequencer is due at or before `d` (R53). -/
def State.enableDue (s : State) (d : Nat) : Bool :=
  s.cw.queue.any (fun c => decide (c.eff ≤ d) && decide (c.val = 1) && (decide (c.ix = Ix.streamEnable) || decide (c.ix = Ix.keyEnable)))

/-- A load takes effect at `d`, unless a stream or sequencer has been enabled by then (R53, R54). -/
def State.loadEffect (s : State) (d value : Nat) : State :=
  if s.anyStream || s.anySeq || s.enableDue d then s.cancelLoad else s.loadTime (value % 4722366482869645213696)

/-! ### Steps (R48 to R51) -/

/-- A record whose stamp lies in the future moves with its scheduled time (R50). -/
def State.placedRec (s : State) (r : Rec) : Rec := { r with stamp := s.place r.stamp }

/-- An item of the store, placed. -/
def State.placeItem (s : State) : Item → Item
  | .record r o => .record (s.placedRec r) o
  | .ctl t c => .ctl (s.place t) c

/-- The times of a Caisson's block that are still to come, placed. -/
def State.placeBlock (s : State) (b : Block) : Block := { b with place := s.place b.place, rearm := s.place b.rearm }

/-- Scheduled times inside the skipped interval come at its end, and what will carry them carries that end (R50). -/
def State.placeAll (s : State) : State :=
  { s with
    slots := s.slots.map (fun x => { x with
      due := s.place x.due, holdTo := s.place x.holdTo, entered := x.entered.map s.placedRec
      endEntered := x.endEntered.map s.placedRec })
    edge := s.edge.map (fun (x : Nat × EdgeSt) => (x.1, { x.2 with
      edges := x.2.edges.map (fun e => { e with stamp := s.place e.stamp }), buf := x.2.buf.map s.placedRec }))
    cai := s.cai.map (fun (x : Nat × CaiSt) => (x.1, { x.2 with block := x.2.block.map s.placeBlock }))
    ds := { s.ds with snapAt := s.ds.snapAt.map s.place }
    guard := s.guard.map (fun (x : Nat × OutSt) => (x.1, { x.2 with
      releaseAt := x.2.releaseAt.map s.place, pulse := x.2.pulse.map (fun p => { p with end_ := s.place p.end_ }) }))
    line := s.line.map (fun (x : Nat × OutSt) => (x.1, { x.2 with
      releaseAt := x.2.releaseAt.map s.place, pulse := x.2.pulse.map (fun p => { p with end_ := s.place p.end_ }) }))
    ex := s.ex.map (fun (x : Nat × ExSt) => (x.1, { x.2 with releaseAt := x.2.releaseAt.map s.place }))
    time := { s.time with pps := { s.time.pps with fallAt := s.time.pps.fallAt.map s.place } }
    clk := { s.clk with pending := s.clk.pending.map (fun p => { p with due := s.place p.due }) }
    cw := { s.cw with
      store := (s.cw.store.map s.placeItem).foldr insertItem []
      queue := s.cw.queue.map (fun c => { c with eff := s.place c.eff }) } }

/-- Every edge of a source whose deglitch interval the step has ended is judged, and the events in its buffer enter the store:
nothing is lost in the step (R50, R152). -/
def State.flushSource (s : State) (src : Nat) : State :=
  let s1 := (List.range (s.edgeOf src).edges.length).foldl (fun u _ => u.judge src) s
  let e := s1.edgeOf src
  e.buf.foldl State.admitRec (s1.setEdge src { e with buf := [] })

/-- A forward step from `a` by `d` ticks (R50, R51, R152). -/
def State.forwardStep (s : State) (a d : Nat) : State :=
  let b := a + d
  let s0 : State := { s with now := s.now + d, time := { s.time with step := none, skipped := some (a, b) } }
  let s1 := (s.edge.map Prod.fst).foldl State.flushSource (s0.shiftTimers s.now (s.now + d)).placeAll
  let s2 := ({ s1 with cw := { s1.cw with dueTo := max s1.cw.dueTo (b / 1280) } }.store (.ctl a .closeFrames)).newEpoch b
  let s3 := { s2 with conv := s2.conv.map (fun (x : Nat × ConvSt) => (x.1, { x.2 with from_ := max x.2.from_ b, first := true })) }
  (List.range 24).foldl (State.caiTouchPier b) (((s3.cnt Ix.timeSteps 0).emitEpoch b 2).settleAll b)

/-- A backward step by `d` ticks, while no stream and no sequencer is enabled (R49, R51). -/
def State.backwardStep (s : State) (d : Nat) : State :=
  let t := s.now - d
  let s1 := (s.rebase t).setPar Ix.timeEpochNum 0 ((s.par Ix.timeEpochNum 0 + 1) % 65536)
  ({ s1 with time := { s1.time with step := none } }.cnt Ix.timeSteps 0).settleAll t

/-! ### PPS (R55, R56) -/

/-- A pulse edge of PPS_OUT brings a pending period and phase into force. -/
def State.ppsLatch (s : State) (p : PpsOut) : PpsOut :=
  { p with period := s.par Ix.timePpsPeriod 0, phase := s.par Ix.timePpsPhase 0 }

/-- The first rising edge after `t`. -/
def PpsOut.next (p : PpsOut) (t : Nat) : Nat :=
  t + 1 + (p.phase % p.period + p.period - (t + 1) % p.period) % p.period

/-- TIME.PPS_OUT_ENABLE is written: with no pulse in progress a pending period and phase are in force at once. -/
def State.ppsEnable (s : State) (on : Bool) : State :=
  if on = s.time.pps.running then s
  else
    let p := { s.ppsLatch s.time.pps with running := on, high := false, fallAt := none }
    { s with time := { s.time with pps := p } }

/-- An edge of PPS_OUT falls due: the falling edge of the pulse in progress, else a rising edge (R55). -/
def State.ppsEdge (s : State) (t : Nat) : State :=
  let p := s.time.pps
  match p.fallAt with
  | some f =>
    if f ≤ t then { s with time := { s.time with pps := { s.ppsLatch p with high := false, fallAt := none } } } else s
  | none =>
    if t % p.period ≠ p.phase % p.period ∨ p.after = some t then s
    else
      let q := s.ppsLatch p
      let w := s.par Ix.timePpsWidth 0 * 256
      let fall := if w = 0 ∨ q.next t ≤ t + w then none else some (t + w)
      { s with time := { s.time with pps := { q with high := decide (w ≠ 0), fallAt := fall, after := none } } }

/-- A rising edge of PPS_IN with corrected stamp `t` and raw level change (R37, R53, R56). -/
def State.ppsRise (s : State) (t : Nat) : State :=
  let lost := match (s.edgeOf 200).blind with
    | some t0 => decide (t < s.blindEnd t0)
    | none => false
  let s1 := s.crossing 200 t 1
  if lost then s1
  else
    let s2 := s1.setPar Ix.timePpsInLast 0 (t % 2 ^ 72)
    let s3 := if s2.par Ix.timePpsInMode 0 = 2 ∧ s2.servoRuns then
        s2.draw.decideStep (Config.servoOffset s2.fresh t 0 0)
      else s2
    match s3.time.load with
    | some l =>
      if l.mode = 2 then s3.loadEffect t (l.value / 256 * 256 + t % 256 + (s3.now - t)) else s3
    | none => s3

/-! ### PTP (R41 to R43) -/

/-- Least length of a message of a messageType (IEEE 1588-2019); none for a reserved type. -/
def ptpMinLength : Nat → Option Nat
  | 0 => some 44 | 1 => some 44 | 2 => some 54 | 3 => some 54
  | 8 => some 44 | 9 => some 54 | 10 => some 54 | 11 => some 64 | 12 => some 44 | 13 => some 48
  | _ => none

/-- Why a PTP message is malformed (16_field_network.md, after Table 6). -/
def ptpFails (m : PtpMsg) : Option Nat :=
  if m.version ≠ 2 then some 1
  else if m.length < (ptpMinLength m.kind).getD 0 then some 2
  else if m.frameLen < m.length then some 3
  else if (ptpMinLength m.kind).isNone then some 4
  else if m.length < m.tlvEnd then some 5 else none

/-- The receive timestamp of a message at the reference plane of the user's delays (R42). -/
def State.ptpRxStamp (s : State) (port t : Nat) : Int :=
  (t : Int) - Config.ptpDelay port false - i32 (s.par Ix.ptpRxDelayExt port)

/-- The transmit timestamp of a message (R42). -/
def State.ptpTxStamp (s : State) (port t : Nat) : Int :=
  (t : Int) + Config.ptpDelay port true + i32 (s.par Ix.ptpTxDelayExt port)

/-- A port is up: enabled and its link up. -/
def State.portUp (s : State) (port : Nat) : Bool :=
  decide (s.par Ix.netPortEnable port = 1) && decide (s.par Ix.netLink port = 1)

/-- A port follows a master: state UNCALIBRATED or SLAVE. -/
def State.ptpFollows (s : State) (port : Nat) : Bool := decide (8 ≤ s.par Ix.ptpPortState port)

/-- A grandmaster announced with these priorities is the better clock than the device's own, `q` standing for what the clocks'
classes, accuracies and variances decide (0 the other, 1 equal, 2 its own) and `id` for their identities (R41; IEEE 1588-2019,
PRESUMED, log 20). -/
def State.betterMaster (s : State) (m : PtpMsg) (q : Nat) (id : Bool) : Bool :=
  let p1 := s.par Ix.ptpPriority1 0
  let p2 := s.par Ix.ptpPriority2 0
  if m.prio1 ≠ p1 then decide (m.prio1 < p1)
  else if q ≠ 1 then decide (q = 0)
  else if m.prio2 ≠ p2 then decide (m.prio2 < p2) else id

/-- An Announce reaches the default best master clock algorithm (R41): the port follows the announced master, or the other port
has a better one and it is PASSIVE, where that master is better than the device's own clock; else it is a master itself. With
PTP.EXT_PORT_CONFIG the port's state is configured and no Announce changes it (log 21). -/
def State.bestMaster (s : State) (port : Nat) (m : PtpMsg) : State :=
  if s.par Ix.ptpExtPortConfig 0 = 1 then s
  else
    let better := s.betterMaster m (Config.freeNat s.fresh % 3) (decide (Config.freeNat (s.fresh + 1) % 2 = 0))
    let n := Config.freeNat (s.fresh + 2)
    let st := if better then 7 + n % 3 else 5 + n % 3
    let s1 := s.draw.draw.draw.setPar Ix.ptpPortState port st
    s1.setMaster (s1.ptpFollows 0 || s1.ptpFollows 1) false

/-- A messageType of an event message (R42): Sync, Delay_Req, Pdelay_Req, Pdelay_Resp. -/
def ptpEvent (kind : Nat) : Bool := decide (kind ≤ 3)

/-- PTP.PROFILE uses the messageType: peer delay in the peer-to-peer profile alone, end-to-end delay in the others (R41). -/
def State.profileUses (s : State) (kind : Nat) : Bool :=
  let p2p := decide (s.par Ix.ptpProfile 0 = 1)
  if kind = 2 ∨ kind = 3 ∨ kind = 10 then p2p else if kind = 1 ∨ kind = 9 then !p2p else true

/-- The offset that a port's Sync gives the servo: its receive timestamp, the transmit timestamp of the last delay request, and
the asymmetry coefficient (R41, R42). -/
def State.ptpOffset (s : State) (port : Nat) : Int :=
  let req := if s.par Ix.ptpProfile 0 = 1 then 2 else 1
  Config.servoOffset s.fresh (tget 0 s.time.ptpRx (16 * port)) (tget 0 s.time.ptpTx (16 * port + req)) (i32 (s.par Ix.ptpAsymCoeff port))

/-- A well-formed message of this device's domain: an event message is timestamped; a one-step Sync, or the Follow_Up of a
two-step one, gives the servo an offset (R41, R42, R45). -/
def State.ptpTake (s : State) (port t : Nat) (m : PtpMsg) : State :=
  if m.kind = 11 then s.bestMaster port m
  else
    let s1 := if ptpEvent m.kind then
        { s with time := { s.time with ptpRx := tset s.time.ptpRx (16 * port + m.kind) (s.ptpRxStamp port t) } }
      else s
    if (m.kind = 8 ∨ (m.kind = 0 ∧ !m.twoStep)) ∧ s1.ptpFollows port ∧ s1.servoRuns then s1.draw.servo (s1.ptpOffset port)
    else s1

/-- A PTP message is received: discarded if malformed, ignored in another domain or outside the profile (R41, R43). -/
def State.ptpReceive (s : State) (port t : Nat) (m : PtpMsg) : State :=
  match ptpFails m with
  | some r => (s.cnt Ix.netPtpMalformed 0).partnerFault (1 + port) m.peer 32 (m.kind % 256 * 256 + r)
  | none => if m.domain = s.par Ix.ptpDomain 0 ∧ s.profileUses m.kind then s.ptpTake port t m else s

/-- A PTP message leaves a port with the timestamp that it carries. -/
def State.ptpOut (s : State) (port kind : Nat) (stamp : Option Int) : State :=
  s.send (.ptp port (s.par Ix.ptpTransport port) (s.par Ix.ptpDomain 0) (s.par Ix.ptpPriority1 0) (s.par Ix.ptpPriority2 0) kind stamp)

/-- The PTP engine sends a message (R41, R42): an event message is timestamped; a Sync or a Pdelay_Resp carries its own timestamp,
with PTP.TWO_STEP the Follow_Up after it does. -/
def State.ptpSend (s : State) (port kind t : Nat) : State :=
  if !s.profileUses kind then s
  else if !ptpEvent kind then s.ptpOut port kind none
  else
    let x := s.ptpTxStamp port t
    let s1 := { s with time := { s.time with ptpTx := tset s.time.ptpTx (16 * port + kind) x } }
    if kind = 1 ∨ kind = 2 then s1.ptpOut port kind none
    else if s.par Ix.ptpTwoStep 0 = 1 then (s1.ptpOut port kind none).ptpOut port (if kind = 0 then 8 else 10) (some x)
    else s1.ptpOut port kind (some x)

/-! ### TDC calibration (R32 to R35) -/

/-- The sums of the counts before each bin. -/
def prefixSums : Nat → List Nat → List Nat
  | _, [] => []
  | a, n :: t => a :: prefixSums (a + n) t

/-- The calibrated positions of 256 codes in 1/32,768 tick: the widths before, plus half the own (R32). -/
def calTable (counts : List Nat) : List Nat :=
  let total := counts.sum
  (counts.zip (prefixSums 0 counts)).map (fun x => if total = 0 then 0 else (2 * x.2 + x.1) * 4194304 / total)

/-- The widest deviation of a bin from one tick, in 1/256 tick. -/
def widestBin (counts : List Nat) : Nat :=
  let total := counts.sum
  (counts.map (fun n => if total = 0 then 0 else ((n * 65536 : Nat) - (total * 256 : Nat) : Int).natAbs / total)).foldl max 0

/-- A table moves towards a new one by at most 0.25 tick an entry (R34). -/
def moveTable (old new : List Nat) : List Nat :=
  old.zipWith (fun a b => if a + 8192 < b then a + 8192 else if b + 8192 < a then a - 8192 else b) new

/-- The table of equal bins. -/
def evenTable : List Nat := (List.range 256).map (fun c => c * 32768 + 16384)

/-- The measured tables take effect, but for frozen inputs (R34, R35). -/
def State.tableUpdate (s : State) : State :=
  s.time.newTables.foldl (fun (u : State) (x : Nat × List Nat) =>
    if u.par Ix.timeTdcCalFreeze x.1 = 1 then u
    else
      let old := (tfind u.time.tables x.1).getD evenTable
      let new := moveTable old x.2
      { u with time := { u.time with tables := tset u.time.tables x.1 new } }) s

/-- The calibration of an input runs: its lane in WATCH or MEASURE (R32). -/
def State.calRuns (s : State) (src : Nat) : Bool := s.tpll && (decide (192 ≤ src) || s.awake (src / 8))

/-! ### Threshold edges (R37, R59, R202) -/

/-- The comparator of an input takes a level while its TDC does not run. -/
def State.levelOnly (s : State) (src lv : Nat) : State :=
  let e := s.edgeOf src
  if e.edges.isEmpty then s.setEdge src { e with input := lv, reported := lv, level := lv, blind := none }
  else s.setEdge src { e with input := lv }

/-- A crossing of an input; `base` is the coarse count of its period and `code` the raw bin code. -/
def State.edgeIn (s : State) (src base code lv : Nat) : State :=
  if (s.edgeOf src).input = lv then s
  else if !s.tdcRuns src then s.levelOnly src lv
  else
    let t := s.stampOf src base code
    if src = 200 then (if lv = 1 then s.ppsRise t else s.ppsFall t) else s.crossing src t lv

/-- The comparator output has changed from a level `old`: when is kept (R409). -/
def State.inputMoved (s : State) (src old t : Nat) : State :=
  let e := s.edgeOf src
  if e.input = old then s else s.setEdge src { e with inputAt := max t s.now }

/-! ### The commands -/

/-- TIME_LOAD_CMD: the host writes 1 to TIME.LOAD_CMD (R53). -/
def execTimeLoadCmd (t : Nat) (s : State) : Host.Outcome State Fault Refusal := .next (s.enter t).loadCmd

/-- TIME_LOAD_EFFECT: a pending IMMEDIATE or AT_TIME load takes effect at its instant (R53, R54). -/
def execTimeLoadEffect (t : Nat) (s : State) : Host.Outcome State Fault Refusal :=
  let s1 := s.enter t
  match s1.time.load with
  | some l =>
    match l.due with
    | some d =>
      -- the boundaries up to the instant come first (R53)
      if d ≤ s1.now ∧ s1.cw.queue.all (fun c => decide (d < c.eff)) then .next (s1.loadEffect d (l.value + (s1.now - d)))
      else .next s1
    | none => .next s1
  | none => .next s1

/-- PTP_MESSAGE_RX: a port receives a PTP message (R42, R43). -/
def execPtpMessageRx (t : Nat) (port : Fin 2) (m : PtpMsg) (s : State) : Host.Outcome State Fault Refusal :=
  let s1 := s.enter t
  if s1.portUp port then .next (s1.ptpReceive port s1.now m) else .next s1

/-- PTP_MESSAGE_SEND: the PTP engine sends a message of a messageType at its interval (R41, R42). -/
def execPtpMessageSend (t : Nat) (port : Fin 2) (kind : Fin 16) (s : State) : Host.Outcome State Fault Refusal :=
  let s1 := s.enter t
  if s1.portUp port then .next (s1.ptpSend port kind s1.now) else .next s1

/-- ANNOUNCE_TIMEOUT: the announce receipt timeout of a port expires (R45). -/
def execAnnounceTimeout (t : Nat) (port : Fin 2) (s : State) : Host.Outcome State Fault Refusal :=
  let s1 := s.enter t
  .next ((s1.draw.setPar Ix.ptpPortState port (Config.freeNat s1.fresh % 8)).setMaster (s1.ptpFollows (1 - port)) true)

/-- TIME.SLEW_MAX allows another slewed tick in the coarse period that begins now: on average one in 10^6 / SLEW_MAX ticks
(R47). -/
def State.slewFree (s : State) : Bool := decide (s.time.slewDue ≤ s.now * 1000000)

/-- When TIME.SLEW_MAX allows the next slewed tick, in 10^−6 tick, after one now: a period's length after the instant that
allowed this one, which the slew follows within one coarse period while the servo slews at its limit (R47). -/
def State.slewNext (s : State) : Nat :=
  let m := s.par Ix.timeSlewMax 0
  max s.time.slewDue ((s.now - 255) * 1000000) + (1000000000000 + (m - 1)) / m

/-- The servo slews: it follows a master, holds the last correction after losing one, or takes PPS_IN as its reference
(R45, R56). -/
def State.slews (s : State) : Bool :=
  s.tpll && s.servoRuns && (decide (s.par Ix.timeSyncState 0 ≠ 0) || decide (s.par Ix.timePpsInMode 0 = 2))

/-- SERVO_SLEW_TICK: the servo adds a tick to the coarse period that begins now, or removes one (R47). -/
def execServoSlewTick (t : Nat) (add : Bool) (s : State) : Host.Outcome State Fault Refusal :=
  let s1 := s.enter t
  if s1.slews ∧ s1.slewFree then
    .next ({ s1 with time := { s1.time with slew := some (s1.now, add), slewDue := s1.slewNext } }.cntW Ix.timeSlewTicks 0 1)
  else .next s1

/-- FORWARD_STEP: Garnet time reaches the multiple of 2^28 ticks at which a decided step takes effect (R50). -/
def execForwardStep (t : Nat) (s : State) : Host.Outcome State Fault Refusal :=
  let s1 := s.enter t
  match s1.time.step with
  | some (.forward a d) =>
    if a ≤ s1.now ∧ s1.tpll ∧ s1.servoRuns then
      if s1.par Ix.timeStepMode 0 = 2 ∨ (s1.par Ix.timeStepMode 0 = 1 ∧ s1.idle) then .next (s1.forwardStep a d)
      else .next { s1 with time := { s1.time with step := none } }
    else .next s1
  | _ => .next s1

/-- BACKWARD_STEP: the servo makes a decided backward step (R48, R49). -/
def execBackwardStep (t : Nat) (s : State) : Host.Outcome State Fault Refusal :=
  let s1 := s.enter t
  match s1.time.step with
  | some (.backward d) =>
    if s1.par Ix.timeStepMode 0 ≠ 0 ∧ s1.idle ∧ s1.tpll ∧ s1.servoRuns then .next (s1.backwardStep d)
    else .next { s1 with time := { s1.time with step := none } }
  | _ => .next s1

/-- PPS_OUT_EDGE: an edge of PPS_OUT falls due (R55). -/
def execPpsOutEdge (t : Nat) (s : State) : Host.Outcome State Fault Refusal :=
  let s1 := s.enter t
  if s1.tpll ∧ s1.time.pps.running then .next (s1.ppsEdge s1.now) else .next s1

/-- PPS_IN_EDGE: PPS_IN rises in the coarse period of count `base` at raw bin code `code` (R56). -/
def execPpsInEdge (t base code : Nat) (s : State) : Host.Outcome State Fault Refusal :=
  let s1 := s.enter t
  .next ((s1.edgeIn 200 base code 1).inputMoved 200 (s1.edgeOf 200).input t)

/-- THRESHOLD_EDGE: an input crosses its threshold (R37, R59, R202). -/
def execThresholdEdge (t : Nat) (src : Fin 201) (base code : Nat) (inp : PinInput) (s : State) :
    Host.Outcome State Fault Refusal :=
  let s1 := s.enter t
  let moving := decide (s1.thrRise src s1.now ≠ s1.thrRise src s1.dacPast) || decide (s1.thrFall src s1.now ≠ s1.thrFall src s1.dacPast)
  let old := (s1.edgeOf src).input
  .next (((if moving then s1.draw else s1).edgeIn src base code (s1.comparator src old inp)).inputMoved src old t)

/-- An interval of 2^38 ticks ends now and has not been measured (R38): the count is a multiple of 2^38, or in COARSE the first
count at or after one. -/
def State.measureDue (s : State) : Bool :=
  let off := s.now % 274877906944
  decide (s.time.froAt ≠ some s.now) && (if s.tpll then decide (off = 0) else decide (off * 65536 < s.slowPeriod))

/-- A new trim, of XB or of SRO, holds from the slow period in progress on (R38, R470). -/
def State.setTrim (s : State) (xb : Bool) (v : Int) : State :=
  let s1 := s.setPar (if xb then Ix.timeXbTrim else Ix.timeSroTrim) 0 (ofI32 v)
  { s1 with time := { s1.time with anchor := s.nextEdge + s1.slowPeriod - s.slowPeriod } }

/-- FRO, XB and SRO have been measured, as far as they are READY: against the reference while FINE, SRO against XB while the
reference is lost and XB is READY (R38, R399). -/
def State.measured (s : State) (fro xb sro : Int) : State :=
  let ready (i : Nat) : Bool := bit (s.par Ix.clkReady 0) i
  let s1 := { s with time := { s.time with froAt := some s.now } }
  if s1.time.quality = .fine then
    let s2 := if ready 2 then { s1 with time := { s1.time with fro := fro } } else s1
    let s3 := if ready 1 then s2.setTrim true xb else s2
    s3.setTrim false sro
  else if ready 1 then s1.setTrim false sro
  else s

/-- FRO_MEASUREMENT: an interval of 2^38 ticks ends (R38). -/
def execFroMeasurement (t : Nat) (fro xb sro : Int) (s : State) : Host.Outcome State Fault Refusal :=
  let s1 := s.enter t
  if s1.measureDue then .next (s1.measured fro xb sro) else .next s1

/-- TDC_CAL_WINDOW_END: a window of calibration hits of an input completes with a count for every bin (R32, R35). -/
def execTdcCalWindowEnd (t : Nat) (src : Fin 201) (counts : List Nat) (s : State) : Host.Outcome State Fault Refusal :=
  let s1 := s.enter t
  if s1.calRuns src ∧ counts.length = 256 then
    .next ({ s1 with time := { s1.time with newTables := tset s1.time.newTables src (calTable counts) } }.setPar
      Ix.timeTdcDnlMax src (min 65535 (widestBin counts)))
  else .next s1

/-- TDC_TABLE_UPDATE: at a multiple of 2^38 ticks the new tables take effect, once (R34, R35). -/
def execTdcTableUpdate (t : Nat) (s : State) : Host.Outcome State Fault Refusal :=
  let s1 := s.enter t
  if s1.tpll ∧ s1.now % 274877906944 = 0 ∧ s1.time.tableAt ≠ some s1.now then
    .next { s1.tableUpdate with time := { s1.tableUpdate.time with tableAt := some s1.now } }
  else .next s1

end Sys2Proof.Machine
end

