-- ==== Sys2Proof/Machine/Network.lean ====
section
/-! DEFINITION. The field network's links, ring closer, marks and sessions as a whole (16_field_network.md R370 to R373,
R377, R386, R387).

Readings and choices here: DEDUCED log 55. -/
namespace Sys2Proof.Machine

/-! ### Sessions (R377) -/

/-- A subscription ends; a stream that loses its subscriber counts its frames as taken (R382). -/
def State.endSub (s : State) (k : Nat) : State :=
  let stream := (tget ⟨0, 3, 0, [], 0, 0, [], false, 0, 0⟩ s.net.subs k)
  let s1 := { s with net := { s.net with
    subs := terase s.net.subs k, alerts := s.net.alerts.filter (fun (x : Nat × Nat × Nat) => decide (x.1 ≠ k)) } }
  if stream.kind = 2 then s1.drainTail stream.stream else s1

/-- A session ends: its ownership, its subscriptions, its held responses go with it (R377). -/
def State.endSession (s : State) (n : Nat) : State :=
  match tfind s.net.sessions n with
  | none => s
  | some _ =>
    let mine := (s.net.subs.filter (fun (x : Nat × Sub) => decide (x.2.session = n))).map Prod.fst
    let s1 := mine.foldl State.endSub s
    let s2 := { s1 with net := { s1.net with
      sessions := terase s1.net.sessions n
      held := s1.net.held.filter (fun h => decide (h.reply.session ≠ n)) } }
    let s3 := s2.setPar Ix.netSessions 0 s2.net.sessions.length
    if s3.par Ix.netOwner 0 = n then s3.setPar Ix.netOwner 0 0 else s3

/-- Every session ends: a watchdog restart, an activation, DORMANT, a change of address or port (R373, R377, R408). -/
def State.endSessions (s : State) : State := (s.net.sessions.map Prod.fst).foldl State.endSession s

/-! ### Links and the ring closer (R372) -/

/-- The closer opens the ring: it forwards between its ports again. -/
def State.ringOpen (s : State) : State :=
  if s.par Ix.netRingState 0 = 1 then (s.setPar Ix.netRingState 0 2).cnt Ix.netRingOpenings 0 else s

/-- NET.RING_ROLE is written: a closer begins OPEN, a member has no ring state. -/
def State.ringRole (s : State) : State :=
  if s.par Ix.netRingRole 0 = 1 then
    if s.par Ix.netRingState 0 = 0 then s.setPar Ix.netRingState 0 2 else s
  else s.setPar Ix.netRingState 0 0

/-- A port loses its link: its recovered clock is no longer READY, PTP loses the master it had there, the closer opens the
ring (R45, R372, R394). -/
def State.ethDown (s : State) (port : Nat) : State :=
  if s.par Ix.netLink port = 0 then s
  else
    let s1 := s.setPar Ix.netLink port 0
    let s2 := s1.setPar Ix.clkReady 0 (putBit (s1.par Ix.clkReady 0) (4 + port) false)
    let s3 := s2.setPar Ix.ptpPortState port 0
    (s3.setMaster (s3.ptpFollows (1 - port)) true).ringOpen

/-- A frame may leave a port: it is enabled, its link is up, and Spinel runs. -/
def State.canSend (s : State) (port : Nat) : Bool := s.portUp port && s.runs 5

/-! ### Marks between chips (R205, R206, R386, R387) -/

/-- The words of a MARK_OUT message (R374, R386). -/
def markWords (chip : Nat) (m : MarkOut) : List Word :=
  [w32 0xCD104000, w32 40, w32 m.num, w32 (m.dst % 65536 * 65536 + chip % 65536), 0,
   w32 (m.code % 65536 * 65536 + chip % 65536), w32 m.num,
   w32 (m.cause / 2 ^ 64 % 256 * 2 ^ 24 + m.branch % 256 * 2 ^ 16 + m.stage % 256 * 2 ^ 8 + m.seq % 256),
   w32 m.cause, w32 (m.cause / 2 ^ 32)]

/-- The oldest queued MARK_OUT leaves on both ports, one message in ACT.MARKOUT_SENT (R205, R207). -/
def State.sendMark (s : State) : State :=
  match s.markOut with
  | [] => s
  | m :: rest =>
    let ws := markWords (s.par Ix.idChipNum 0) m
    let v4 := decide (s.par Ix.netIp4Addr 0 ≠ 0)
    let udp := s.par Ix.netUdpPort 0
    let s1 := if s.canSend 0 || s.canSend 1 then s.cntW Ix.actMarkoutSent 0 1 else s
    [0, 1].foldl (fun (u : State) p => if u.canSend p then u.send (.markOut p v4 udp ws) else u) { s1 with markOut := rest }

/-- A MARK_OUT for this chip or for all enters the Causeway once, stamped `t` at the receiving port (R206, R387). -/
def State.takeMark (s : State) (t code origin num w2 lo mid : Nat) : State :=
  if s.net.marks.contains (origin, num) then s.cnt Ix.netMarkDuplicates 0
  else
    let s1 := { s with net := { s.net with marks := ((origin, num) :: s.net.marks).take 256 } }
    s1.emit (recMarkIn t code origin num (fld w2 23 16) (fld w2 15 8) (fld w2 7 0)
      (fld w2 31 24 * 2 ^ 64 + mid % 2 ^ 32 * 2 ^ 32 + lo % 2 ^ 32))

/-! ### The commands -/

/-- RING_TEST_SEND: the closer sends its ring test frame out of ETH0, every 1 ms (R372). -/
def execRingTestSend (t : Nat) (s : State) : Host.Outcome State Fault Refusal :=
  let s1 := s.enter t
  if s1.par Ix.netRingRole 0 = 1 ∧ s1.canSend 0 then .next (s1.send .ringTest) else .next s1

/-- RING_TEST_TIMEOUT: no own test frame for 3 ms (R372). -/
def execRingTestTimeout (t : Nat) (s : State) : Host.Outcome State Fault Refusal :=
  let s1 := s.enter t
  if s1.net.testSeen + 768000000 ≤ s1.now then .next s1.ringOpen else .next s1

/-- ETH_LINK_DOWN: a port loses its link (R372, R394). -/
def execEthLinkDown (t : Nat) (port : Fin 2) (s : State) : Host.Outcome State Fault Refusal := .next ((s.enter t).ethDown port)

/-- ETH_LINK_UP: the link of an enabled port comes up; its recovered clock becomes READY by its own command (R394,
R410). -/
def execEthLinkUp (t : Nat) (port : Fin 2) (s : State) : Host.Outcome State Fault Refusal :=
  let s1 := s.enter t
  if s1.par Ix.netPortEnable port = 1 ∧ bit (s1.par Ix.clkDomainGood 0) 5 then .next (s1.setPar Ix.netLink port 1)
  else .next s1

/-- ESMC_PDU_SEND: a port sends its quality level (R44): that of the reference that TPLL uses; without one that a level is
set for, the level is open. -/
def execEsmcPduSend (t : Nat) (port : Fin 2) (s : State) : Host.Outcome State Fault Refusal :=
  let s1 := s.enter t
  if s1.canSend port then
    match s1.clk.ref with
    | some .xa => .next (s1.send (.esmc port (s1.par Ix.synceQlXa 0)))
    | some .eth0 => .next (s1.send (.esmc port (s1.par Ix.synceQlRx 0)))
    | some .eth1 => .next (s1.send (.esmc port (s1.par Ix.synceQlRx 1)))
    | some .fro => .next (s1.draw.send (.esmc port (Config.freeNat s1.fresh % 16)))
    | none => .next (s1.draw.send (.esmc port (Config.freeNat s1.fresh % 16)))
  else .next s1

/-- MARK_OUT_SEND: a queued MARK_OUT message is sent on both ports (R205). -/
def execMarkOutSend (t : Nat) (s : State) : Host.Outcome State Fault Refusal := .next (s.enter t).sendMark

/-- MARK_OUT_RX: a MARK_OUT with a valid header reaches a port on this device's UDP port; its words are its LENGTH, DST_CHIP
and body (R387). -/
def execMarkOutRx (t : Nat) (port : Fin 2) (dst length : Nat) (body : List Word) (peer : Nat) (s : State) :
    Host.Outcome State Fault Refusal :=
  let s1 := s.enter t
  let chip := s1.par Ix.idChipNum 0
  if !s1.portUp port ∨ s1.par Ix.startStep 0 ≤ 7 then .next s1
  else if length ≠ 40 then .next (s1.partnerFault (1 + port) peer 16 4)
  else
    match body with
    | [a, b, c, d, e] =>
      if s1.par Ix.netMarkRxEnable 0 = 1 ∧ (dst = 65535 ∨ dst = chip) ∧ a.toNat % 65536 ≠ chip then
        .next (s1.takeMark s1.now (a.toNat / 65536) (a.toNat % 65536) b.toNat c.toNat d.toNat e.toNat)
      else .next s1
    | _ => .next (s1.partnerFault (1 + port) peer 16 4)

end Sys2Proof.Machine
end

