-- ==== Sys2Proof/Machine/LaneRun.lean ====
section
/-! DEFINITION. Lanes and piers that start and stop (R19, R79, R95, R118, R165): the shared operations of a lane enable
and of a pier's change of power state.

Readings and choices here: DEDUCED log 44. -/
namespace Sys2Proof.Machine

/-- LANE.STATE code of a lane: DISABLED, ENABLED, or ASLEEP for an enabled lane of an ASLEEP pier (R79). -/
def State.laneCode (s : State) (lane : Nat) : Nat :=
  if !s.laneOn lane then 0 else if s.awake (lane / 8) then 1 else 2

/-- The level and zone that a lane's inputs have, as Keystone takes them (R165): none for an input that is not used. -/
def State.inputNow (s : State) (lane : Nat) : Option Nat × Option Nat :=
  let level := if s.par Ix.laneRole lane = 0 then none else some (s.edgeOf lane).input
  let zone := if s.analog lane && decide (s.par Ix.laneFcEnable lane = 1) then some (s.par Ix.laneFcZone lane) else none
  (level, zone)

/-- A STATUS record of the lane enable/disable kind (R79, R218 kind 6). -/
def State.laneStateRecord (s : State) (lane t : Nat) : State :=
  let c := s.laneCode lane
  (s.setPar Ix.laneState lane c).laneRecord (recStatus t lane 6 c 0 0)

/-- A lane begins to run at `t`: its records, its digital samples (R63), its conversion (R118, R134) and its recording
(R248). -/
def State.laneStart (s : State) (lane t : Nat) : State :=
  let e := s.edgeOf lane
  let s1 := (s.setEdge lane { e with counted := [], sampleLevel := e.input, sampleFrom := ceilMul t (s.sampPeriod lane) }).setRun
    lane ((s.runOf lane).begin_ t)
  let i := s1.inputNow lane
  let s2 := (s1.laneStateRecord lane t).store (.ctl t (.src lane i.1 i.2))
  s2.caiTouch t lane

/-- The analog conversion of a lane starts: no sample before `a`, the first ones UNSETTLED (R118, R134 rule 2). -/
def State.convStart (a : Nat) (s : State) (lane : Nat) : State :=
  ((s.setConv lane { s.convOf lane with from_ := a, unsettled := [], first := true, made := [] })).settleStart lane a

/-- A lane stops at `t`: no event stamped from then on (R79, R165). -/
def State.laneStop (s : State) (lane t : Nat) : State :=
  let s1 := s.setRun lane ((s.runOf lane).stop t)
  let s2 := (s1.laneStateRecord lane t).store (.ctl t (.src lane none none))
  s2.caiTouch t lane

/-- A check whose lane is `lane` is cancelled (R128). -/
def State.overlapOf (s : State) (lane t : Nat) : State :=
  match tfind s.overlap (lane / 8) with
  | some o => if o.lane = lane then s.overlapCancel (lane / 8) t else s
  | none => s

/-- LANE.ENABLE takes effect as 1 at `t` (R79, R118, R473): in an ASLEEP pier the lane reads ASLEEP and starts with it. -/
def State.laneEnable (s : State) (lane t : Nat) : State :=
  if s.awake (lane / 8) then
    let s1 := (s.laneStart lane t).conditionsOf lane t
    if s1.par Ix.pwrPierState (lane / 8) = 2 then s1.convStart t lane else s1
  else s.laneStateRecord lane t

/-- LANE.ENABLE takes effect as 0 at `t` (R79, R128, R129). -/
def State.laneDisable (s : State) (lane t : Nat) : State :=
  let s1 := s.overlapOf lane t
  let s2 := s1.setPar Ix.laneCalMismatch lane 0
  if (s2.runOf lane).on then s2.laneStop lane t else s2.laneStateRecord lane t

/-! ### Piers (R19, R95, R407) -/

/-- What the front end of a pier clears and parks as the pier goes ASLEEP at `t` (R94, R95). -/
def State.frontPause (s : State) (p t : Nat) : State :=
  let s1 := [2 * p, 2 * p + 1].foldl (fun u k => if u.exState k = 1 then u.exEnter k 3 t else u) s
  let s2 := s1.biasFlag p false t
  let s3 := (List.range 18).foldl (fun u pin => u.clampFlag p pin false t) s2
  { s3 with tone := s3.tone.map (fun (x : Nat × ToneSt) => if x.1 = p then (x.1, { x.2 with due := 0 }) else x) }

/-- The parked sources of a pier return to RUN at `t` (R94, R95). -/
def State.frontResume (s : State) (p t : Nat) : State :=
  [2 * p, 2 * p + 1].foldl (fun u k =>
    if u.exState k = 3 then (u.exEnter k 1 t).settleLanes (u.consumers k) t else u) s

/-- The lanes of a pier stop or start with it. -/
def State.pierLanes (s : State) (p t : Nat) (on : Bool) : State :=
  ((lanesOf p).filter s.laneOn).foldl (fun u l => if on then u.laneStart l t else u.laneStop l t) s

/-- The slices of a pier power up: samples from 50 µs after the entry to MEASURE on (R118); a slice in SPARE_CAL runs its reference
cycle again in full (R128). -/
def State.pierMeasures (s : State) (p t : Nat) : State :=
  let s1 := (List.range 9).foldl (fun (u : State) i =>
    let x := u.sliceOf p i
    if x.state = .spareCal then u.setSlice p i { x with cycleEnd := cycleEnds t } else u) s
  ((lanesOf p).filter s1.laneOn).foldl (State.convStart (t + 12800000)) s1

/-- A pier changes to power state `new` at `t`: 0 ASLEEP, 1 WATCH, 2 MEASURE (R19, R95, R128, R218 kind 7, R248). -/
def State.pierTo (t new : Nat) (s : State) (p : Nat) : State :=
  let old := s.par Ix.pwrPierState p
  if old = new then s
  else
    let s1 := if new = 0 then s.frontPause p t else s
    let s2 := if old = 2 then s1.overlapCancel p t else s1
    let s3 := (s2.setPar Ix.pwrPierState p new).emit (recStatus t 255 7 (p + 32 * new) 0 0)
    let s4 := if new = 0 then s3.pierLanes p t false else if old = 0 then (s3.frontResume p t).pierLanes p t true else s3
    let s5 := if new = 2 then s4.pierMeasures p t else s4
    if old = 2 ∨ new = 2 then s5.caiTouchPier t p else s5

end Sys2Proof.Machine
end

