-- ==== Sys2Proof/Machine/Clocks.lean ====
section
/-! DEFINITION. Clock sources, loops, monitors and the fallback (17_clocks_power.md R392 to R403; 02 R31, R38, R39, R44,
R470).

Readings and choices here: DEDUCED log 13, log 14, log 15, log 22, log 43, log 75, log 87; PRESUMED log 32. -/
namespace Sys2Proof.Machine

/-! ### Sources and references -/

/-- Reference code of a CLOCK record (R222). -/
def Ref.code : Ref → Nat
  | .xa => 0 | .eth0 => 1 | .eth1 => 2 | .fro => 3

/-- The bit of CLK.READY of a reference. -/
def Ref.readyBit : Ref → Nat
  | .xa => 0 | .eth0 => 4 | .eth1 => 5 | .fro => 2

/-- CLK.READY of a source: 0 XA, 1 XB, 2 FRO, 3 SRO, 4 ETH0, 5 ETH1; SRO is always READY (R394). -/
def State.sourceReady (s : State) (src : Nat) : Bool := decide (src = 3) || bit (s.par Ix.clkReady 0) src

/-- Set or clear a bit of CLK.READY. -/
def State.setReady (s : State) (src : Nat) (on : Bool) : State :=
  s.setPar Ix.clkReady 0 (putBit (s.par Ix.clkReady 0) src on)

/-- Set or clear a bit of CLK.DOMAIN_GOOD. -/
def State.setGood (s : State) (d : Nat) (on : Bool) : State :=
  s.setPar Ix.clkDomainGood 0 (putBit (s.par Ix.clkDomainGood 0) d on)

def State.refReady (s : State) (r : Ref) : Bool := s.sourceReady r.readyBit

/-- The two recovered clocks, the one with the better received quality level first, ETH0 on equal levels (R44); a lower
ESMC code is the better level (ITU-T G.8264, PRESUMED, log 32). -/
def State.lineClocks (s : State) : List Ref :=
  if s.par Ix.synceQlRx 1 < s.par Ix.synceQlRx 0 then [.eth1, .eth0] else [.eth0, .eth1]

/-- SYNCE.QL_RX of a recovered clock. -/
def State.levelOf (s : State) (r : Ref) : Nat := s.par Ix.synceQlRx (r.code - 1)

/-- The permitted references, the preferred one first (R44, R401): the selected one alone, or in automatic mode a recovered
clock whose level is better than XA's, then XA, then the others. -/
def State.permitted (s : State) : List Ref :=
  match s.par Ix.synceRefSelect 0 with
  | 0 => [.xa]
  | 1 => [.eth0]
  | 2 => [.eth1]
  | _ =>
    let better (r : Ref) : Bool := decide (s.levelOf r < s.par Ix.synceQlXa 0)
    s.lineClocks.filter better ++ [Ref.xa] ++ s.lineClocks.filter (fun r => !better r)

/-- The reference that CLK.FORCE_SRC:1 forces (R397). -/
def State.forcedRef (s : State) : Option Ref :=
  match s.par Ix.clkForceSrc 1 with
  | 1 => some .xa | 2 => some .eth0 | 3 => some .eth1 | 4 => some .fro | _ => none

/-- The reference TPLL is to use: the forced one, else the preferred permitted one that is READY; FRO where `fro` allows it
and it is READY. -/
def State.chosenRef (s : State) (fro : Bool) : Option Ref :=
  match s.forcedRef with
  | some r => some r
  | none =>
    match s.permitted.find? s.refReady with
    | some r => some r
    | none => if fro && s.refReady .fro then some .fro else none

/-- TPLL changes reference hitlessly; a CLOCK record notes it (R31). -/
def State.changeRef (s : State) (new : Ref) : State :=
  match s.clk.ref with
  | some old =>
    if old = new then s
    else { s with clk := { s.clk with ref := some new } }.emit (recClock s.now 1 new.code old.code)
  | none => { s with clk := { s.clk with ref := some new } }

/-- In automatic mode the preferred READY reference may have changed (R44): only from one permitted reference to another. -/
def State.autoRef (s : State) : State :=
  if s.par Ix.synceRefSelect 0 = 3 ∧ s.time.quality = .fine ∧ s.par Ix.clkFallbackState 0 = 0 then
    match s.chosenRef false with
    | some r => s.changeRef r
    | none => s
  else s

/-- The start-up delay of an oscillator, 0 XA, 1 XB, 2 FRO, in ticks (R394). -/
def State.startDelay (s : State) (src : Nat) : Nat :=
  if src = 2 then 20 * 256000
  else if s.par Ix.startStep 0 ≤ 7 then 64000 * 256000
  else s.par (if src = 0 then Ix.clkXaStartup else Ix.clkXbStartup) 0 * 256000

/-- An oscillator is started, or started again with its full delay. -/
def State.startSource (s : State) (src : Nat) : State :=
  { s.setReady src false with clk := { s.clk with started := tset s.clk.started src s.now } }

/-- An oscillator is stopped. -/
def State.stopSource (s : State) (src : Nat) : State :=
  { s.setReady src false with clk := { s.clk with started := terase s.clk.started src } }

/-- FRO is wanted: in WATCH and MEASURE, with CLK.FRO_ALWAYS, in start-up, and while a fallback is in course (R393). -/
def State.froWanted (s : State) : Bool :=
  decide (2 ≤ s.par Ix.pwrState 0) || decide (s.par Ix.clkFroAlways 0 = 1) || decide (s.par Ix.startStep 0 ≤ 4)
    || decide (s.par Ix.clkFallbackState 0 ≠ 0) || decide (s.clk.ref = some .fro)

/-- FRO follows its want. -/
def State.froFollow (s : State) : State :=
  if s.froWanted then (if (tfind s.clk.started 2).isNone then s.startSource 2 else s)
  else if (tfind s.clk.started 2).isSome then s.stopSource 2 else s

/-! ### Loops (R395) -/

/-- A loop of CLK.PLL_STATE: 0 TPLL, 1 CPLL, 2 MPLL, 3 APLL, 4 SPLL. -/
def State.loopState (s : State) (l : Nat) : Nat := s.par Ix.clkPllState l

/-- A loop begins to lock. -/
def State.startLoop (s : State) (l : Nat) : State :=
  { s.setPar Ix.clkPllState l 1 with clk := { s.clk with lockFrom := tset s.clk.lockFrom l s.now } }

/-- TPLL begins to lock to a reference. -/
def State.lockTo (s : State) (r : Ref) : State :=
  { s with clk := { s.clk with ref := some r, locked := none } }.startLoop 0

/-- TPLL loses or has no reference to lock to: it looks for one (Table 6). -/
def State.seekRef (s : State) (fro : Bool) : State :=
  match s.chosenRef fro with
  | some r => if s.clk.ref = some r then s else s.lockTo r
  | none => s

/-- The domains whose clocks run while the Garnet domain runs, by the states of their loops and of the device (R392,
R407). -/
def State.domainsOn (s : State) : State :=
  let watch := decide (2 ≤ s.par Ix.pwrState 0)
  let lk (l : Nat) : Bool := decide (s.loopState l = 2)
  ((((s.setGood 1 true).setGood 2 (lk 1 && !s.clk.cpllHold)).setGood 3 (watch && lk 2)).setGood 4
    (watch && lk 3)).setGood 5 (lk 4)

/-- Garnet, Jasper, Topaz, Agate and Spinel stop (R401). -/
def State.domainsOff (s : State) : State :=
  ((((s.setGood 1 false).setGood 2 false).setGood 3 false).setGood 4 false).setGood 5 false

/-! ### The safe-state cause of the clocks (R72, R400) -/

/-- A clock failure is a cause of the safe state. -/
def State.clockSafe (s : State) (t : Nat) : State := { s with clockCause := true }.safeEverything t false

/-- The cause clears once the fallback state is NORMAL or FALLBACK with TPLL locked, and no CPLL hold is in force (R400). -/
def State.clockClear (s : State) : State :=
  if s.clockCause && decide (s.par Ix.clkFallbackState 0 ≤ 1) && decide (s.loopState 0 = 2) && !s.clk.cpllHold
      && s.tpll then
    { s with clockCause := false }.causesClear
  else s

/-! ### COARSE time (R27, R38, R39, R470) -/

/-- The count is driven from now on by XB, or by SRO; at that clock's first edge it becomes the kept stamp of the edge before
plus one period and its trim, or keeps its held value if that is greater (R470). -/
def State.driveBy (s : State) (xb : Bool) (xbEdge sroEdge : Nat) : State :=
  let x := min xbEdge s.now
  let r := min sroEdge s.now
  let s1 := { s with time := { s.time with driveXb := xb, xbEdge := some x, sroEdge := some r } }
  let first := (if xb then x else r) * 65536 + s1.slowPeriod
  { s1 with time := { s1.time with anchor := max first (s.now * 65536) } }

/-- XB or SRO drives the COARSE count, as XB is READY or not (R27, R470). -/
def State.driveCoarse (s : State) (xbEdge sroEdge : Nat) : State := s.driveBy (s.sourceReady 1) xbEdge sroEdge

/-- The driving clock within COARSE follows XB's READY. -/
def State.redrive (s : State) (xbEdge sroEdge : Nat) : State :=
  if s.counts ∨ s.time.driveXb = s.sourceReady 1 then s else s.driveCoarse xbEdge sroEdge

/-- The TPLL-derived domains are held; time is COARSE (R39, R401). -/
def State.hold (s : State) (xbEdge sroEdge : Nat) : State :=
  let s1 := if s.par Ix.memState 0 = 1 then s.setPar Ix.memState 0 2 else s
  let s2 := (s1.domainsOff).setPar Ix.clkPllState 0 3
  let s3 := { s2 with clk := { s2.clk with ref := none, locked := none, heldSince := s2.now } }
  (s3.driveCoarse xbEdge sroEdge).setQuality .coarse s3.now

/-- Entry to SAFE_HOLD (R402): Opal moves to SRO; the crossings into the held domains are initialised again, and what they
held and what hangs there ends. -/
def State.safeHold (s : State) (inFlight hanging : Nat) : State :=
  let s1 := (s.setPar Ix.clkFallbackState 0 3).crossingReset inFlight hanging
  { s1 with clk := { s1.clk with opalXb := false } }.froFollow

/-! ### Failures (R398, R399) -/

/-- The bit of CLK.READY that a monitor code of Table 4 names. -/
def monitorSource : Nat → Option Nat
  | 1 => some 0 | 2 => some 1 | 3 => some 2 | 5 => some 4 | 6 => some 5 | _ => none

/-- A failure is counted (R399). -/
def State.noteFailure (s : State) (code : Nat) : State :=
  ((s.cnt Ix.clkFailures 0).setPar Ix.clkLastFailure 0 (code * 2 ^ 24)).setPar Ix.clkFailureTime 0 s.now

/-- TPLL goes over to FRO without a hold: HOLDOVER, after a forward discontinuity of 0 to 256 ticks, and FALLBACK (R39, Table 6). -/
def State.toFro (s : State) : State :=
  let s1 := ({ s.draw with now := s.now + Config.freeNat s.fresh % 257 }).setPar Ix.clkFallbackState 0 1
  (s1.lockTo .fro).setQuality .holdover s1.now

/-- The fallback of Table 6 when the reference in use, or TPLL itself, fails. `inFlight` and `hanging` are what the crossings
hold at an entry to SAFE_HOLD. The records of a safe entry follow once Garnet runs (R72). -/
def State.fallback (s : State) (t xbEdge sroEdge inFlight hanging : Nat) : State :=
  if s.clk.ref = some .fro then
    (((s.hold xbEdge sroEdge).clockSafe t).safeHold inFlight hanging).seekRef false
  else if s.refReady .fro then (s.clockSafe t).toFro
  else (((s.hold xbEdge sroEdge).clockSafe t).setPar Ix.clkFallbackState 0 2).froFollow

/-- The TPLL reference has failed (R399): in automatic mode another READY one is taken, else the fallback. -/
def State.refLost (s : State) (t xbEdge sroEdge inFlight hanging : Nat) : State :=
  if s.forcedRef.isSome then s
  else if s.clk.ref = some .fro then s.fallback t xbEdge sroEdge inFlight hanging
  else
    match (if s.par Ix.synceRefSelect 0 = 3 then s.chosenRef false else none) with
    | some r => s.changeRef r
    | none => s.fallback t xbEdge sroEdge inFlight hanging

/-- Opal runs on XB while CLK.OPAL_SRC selects it and it is READY, unless it is forced or held on SRO (R392, R397, R402). -/
def State.opalFollow (s : State) : State :=
  let on :=
    match s.par Ix.clkForceSrc 0 with
    | 1 => false
    | 2 => true
    | _ => decide (s.par Ix.clkOpalSrc 0 = 0) && s.sourceReady 1 && decide (s.par Ix.clkFallbackState 0 ≠ 3)
  { s with clk := { s.clk with opalXb := on } }

/-- A forced source that has stopped takes its domain down, with no safe state and no fallback; the domain runs again when the
source does, or when the force is removed (R397). -/
def State.forcedFollow (s : State) : State :=
  let gone (src : Nat) : Bool := s.clk.stopped.contains src
  let dead :=
    match s.forcedRef with
    | some r => decide (s.clk.ref = some r) && gone r.readyBit
    | none => false
  let opal :=
    match s.par Ix.clkForceSrc 0 with
    | 1 => gone 3
    | 2 => gone 1
    | _ => false
  { s with clk := { s.clk with dead := dead, opalDead := opal } }

/-- A source gives edges again, or none any more (R397, R398). -/
def State.setStopped (s : State) (src : Nat) (on : Bool) : State :=
  let l := s.clk.stopped.filter (fun x => decide (x ≠ src))
  { s with clk := { s.clk with stopped := if on then l ++ [src] else l } }

/-- A monitored source has failed. -/
def State.sourceFails (s : State) (t src xbEdge sroEdge inFlight hanging : Nat) : State :=
  let s1 := s.setReady src false
  let s2 := if src ≤ 2 then (if src = 2 && !s1.froWanted then s1.stopSource 2 else s1.startSource src) else s1
  let s3 := ((s2.opalFollow).forcedFollow).redrive xbEdge sroEdge
  let uses := match s3.clk.ref with
    | some r => decide (r.readyBit = src)
    | none => false
  if uses && s3.counts then s3.refLost t xbEdge sroEdge inFlight hanging
  else if uses then { s3 with clk := { s3.clk with ref := none, locked := none } }.seekRef true else s3

/-- A loop has lost lock: its count, its state. -/
def State.loopLost (s : State) (l : Nat) : State := (s.startLoop l).cnt Ix.clkPllLosses l

/-- APLL has lost lock: every pier in MEASURE acts as if it had left it (R399). -/
def State.apllFails (s : State) (t : Nat) : State :=
  let s1 := (s.loopLost 3).setGood 4 false
  let s2 := { s1 with clk := { s1.clk with apllLost := true } }
  (List.range 24).foldl (fun u p => if u.par Ix.pwrPierState p = 2 then u.pierTo t 1 p else u) s2

/-- MPLL has lost lock: the DRAM enters self-refresh, Topaz is held (R399). -/
def State.mpllFails (s : State) : State :=
  let s1 := (s.loopLost 2).setGood 3 false
  if s1.par Ix.memState 0 = 1 then s1.setPar Ix.memState 0 2 else s1

/-- A failure of Table 4 has been declared. -/
def State.failure (s : State) (t code : Nat) (stopped : Bool) (xbEdge sroEdge inFlight hanging : Nat) : State :=
  let s1 := (if code = 4 then s.setStopped 3 stopped else s).noteFailure code
  match monitorSource code with
  | some src => (s1.setStopped src stopped).sourceFails t src xbEdge sroEdge inFlight hanging
  | none =>
    match code with
    | 7 =>
      let s2 := s1.loopLost 0
      if s2.forcedRef.isSome ∨ !s2.counts then s2 else s2.fallback t xbEdge sroEdge inFlight hanging
    | 8 =>
      let s2 := (s1.loopLost 1).setGood 2 false
      { s2 with clk := { s2.clk with cpllHold := true } }.clockSafe t
    | 9 => s1.mpllFails
    | 10 => s1.apllFails t
    | 11 => (((s1.loopLost 4).setGood 5 false).ethDown 0).ethDown 1
    | _ => s1.forcedFollow

/-! ### Return and release -/

/-- A wake from DORMANT ends in IDLE once every loop has locked and time runs (R408): the host link trains, and the device
goes on towards PWR.WAKE_TARGET. -/
def State.wakeDone (s : State) : State :=
  if s.clk.waking && s.tpll && (List.range 5).all (fun l => decide (s.loopState l = 2)) then
    let s1 := ({ s with clk := { s.clk with waking := false } }.setPar Ix.pwrState 0 1).domainsOn
    let s2 := if s1.host.perst then (s1.setPar Ix.hostLinkState 0 1).setGood 6 true else s1
    let target := s2.par Ix.pwrWakeTarget 0
    if target = 1 then s2
    else { s2 with clk := { s2.clk with pending := s2.clk.pending ++ [⟨nextMicro s2.now, none, target⟩] } }
  else s

/-- TPLL is released onto the reference it has locked to (R39, R401): the count takes the COARSE value with FRAC = 0, never below
it (log 13); the domains restart, the DRAM leaves self-refresh; the buckets that have become due are released, what waited for
TPLL is made up as late records (R154, R199), and the cause of the safe state clears. -/
def State.release (s : State) (r : Ref) : State :=
  let s0 := { s with now := ceilMul s.now 256, clk := { s.clk with locked := none } }
  let s1 := s0.domainsOn
  let s2 := if s1.par Ix.memState 0 = 2 ∧ s1.domainGood 3 then s1.setPar Ix.memState 0 1 else s1
  let s3 := s2.setPar Ix.clkFallbackState 0 (if r = .fro then 1 else 0)
  let s4 := s3.setQuality (if r = .fro then .holdover else .fine) s3.now
  let s5 := if s4.merging then s4.withdraw.releaseDue [] else s4.withdraw
  let s6 := s5.performLate s5.lateSteps
  ((((if s6.merging then s6.admitLate else s6).opalFollow).froFollow).clockClear).wakeDone

/-- TPLL leaves FRO for a READY permitted reference (Table 6). -/
def State.returnRef (s : State) (to_ : Option Ref) : State :=
  match to_ with
  | some r =>
    if r = .fro then s
    else ((((s.changeRef r).setPar Ix.clkFallbackState 0 0).setQuality .fine s.now).opalFollow).froFollow
  | none => s

/-- A write of 1 to CLK.RETURN (Table 6). -/
def State.clkReturn (s : State) : State := if s.par Ix.clkFallbackState 0 = 1 then s.returnRef (s.chosenRef false) else s

/-- A refusal counted in CLK.REFUSED: reason, index and sub-index (R397, R403). -/
def State.clkRefuse (s : State) (reason ix sub : Nat) : State :=
  (s.cnt Ix.clkRefused 0).setPar Ix.clkLastRefused 0 (reason * 2 ^ 24 + ix * 2 ^ 8 + sub)

/-- A value of CLK.OPAL_SRC or SYNCE.REF_SELECT selects a source whose READY is low (R397). -/
def State.selectsDead (s : State) (ix v : Nat) : Bool :=
  if ix = Ix.clkOpalSrc then decide (v = 0) && !s.sourceReady 1
  else if ix = Ix.synceRefSelect then
    match v with
    | 0 => !s.refReady .xa
    | 1 => !s.refReady .eth0
    | 2 => !s.refReady .eth1
    | _ => false
  else false

/-- SYNCE.REF_SELECT has been written: a running TPLL goes over to the reference that it now permits (R31, R44). -/
def State.refSelected (s : State) : State :=
  if s.time.quality = .fine ∧ s.par Ix.clkFallbackState 0 = 0 then
    match s.chosenRef false with
    | some r => s.changeRef r
    | none => s
  else if s.counts then s
  else s.seekRef (decide (s.par Ix.clkFallbackState 0 ≠ 0))

/-- CLK.FORCE_SRC:1 has been written (R397): the forced source is taken without a READY check. Without a force TPLL goes back to the
reference that is permitted and READY, but in FALLBACK, where Table 6 says when it returns (DEDUCED, log 87). -/
def State.refForced (s : State) : State :=
  match s.forcedRef with
  | none =>
    if s.par Ix.clkFallbackState 0 ≠ 0 then (if s.counts then s else s.seekRef true)
    else
      match (if s.counts then s.chosenRef false else none) with
      | some r => (s.changeRef r).setQuality .fine s.now
      | none => s
  | some r =>
    if s.counts then
      let q : Quality := if r = .fro then .holdover else .fine
      (s.changeRef r).setQuality q s.now
    else s.lockTo r

/-- CLK.FORCE_SRC has been written. -/
def State.forceEffect (s : State) (sub : Nat) : State := (if sub = 0 then s.opalFollow else s.refForced).forcedFollow

/-! ### Start of sources and loops -/

/-- A source has become READY: what it is wanted for begins. -/
def State.becomesReady (s : State) (src xbEdge sroEdge : Nat) : State :=
  let s0 := (s.setStopped src false).setReady src true
  let s1 := { s0 with clk := { s0.clk with readyAt := tset s0.clk.readyAt src s0.now } }.forcedFollow
  if src = 1 then s1.opalFollow.redrive xbEdge sroEdge
  else if 2 ≤ s1.par Ix.clkFallbackState 0 then s1.seekRef true
  else if s1.clk.waking ∨ s1.par Ix.startStep 0 = 4 then s1.seekRef false
  else s1.autoRef

/-- The oscillator's first check fails: its monitor's failure is counted (R399), and it is started again with its full delay;
in start-up step 3 the failed start of XA is counted (R394, R445). -/
def State.startFails (s : State) (src : Nat) : State :=
  let s1 := (s.noteFailure (src + 1)).startSource src
  if src = 0 ∧ s1.par Ix.startStep 0 = 3 then s1.cnt Ix.startXaRetries 0 else s1

/-- The oscillator has run for its start-up delay; where the count stands for want of a clock (R397), the command says so. -/
def State.delayOver (s : State) (src : Nat) : Bool :=
  match tfind s.clk.started src with
  | some a => (decide (a + s.startDelay src ≤ s.now) || s.clk.dead || s.clk.opalDead) && !s.sourceReady src
  | none => false

/-- A recovered clock may become READY: its link is up, it is not READY. -/
def State.lineOver (s : State) (src : Nat) : Bool := decide (s.par Ix.netLink (src - 4) = 1) && !s.sourceReady src

/-! ### The commands -/

/-- SOURCE_READY: the start-up delay of an oscillator ends and its monitor's first check passes or fails; or a recovered
clock passes its checks (R394). -/
def execSourceReady (t : Nat) (src : Fin 6) (pass : Bool) (xbEdge sroEdge : Nat) (s : State) :
    Host.Outcome State Fault Refusal :=
  let s1 := s.enter t
  if src.val ≤ 2 ∧ s1.delayOver src then
    .next (if pass then s1.becomesReady src xbEdge sroEdge else s1.startFails src)
  else if 4 ≤ src.val ∧ s1.lineOver src ∧ pass then .next (s1.becomesReady src xbEdge sroEdge)
  else .next s1

/-- CLOCK_FAILURE: a monitor of Table 4 declares a failure, `stopped` where a source gives no edge any more; the stamps of the latest edges of XB and SRO come with it
(R398, R399, R470), and what the crossings hold where the failure leads to SAFE_HOLD. -/
def execClockFailure (t : Nat) (code : Fin 12) (stopped : Bool) (xbEdge sroEdge inFlight hanging : Nat) (s : State) :
    Host.Outcome State Fault Refusal :=
  let s1 := s.enter t
  if code.val = 0 then .next s1 else .next (s1.failure s1.now code stopped xbEdge sroEdge inFlight hanging)

/-- SAFE_HOLD_ENTRY: FRO is not READY 80 µs after the failure (R402). -/
def execSafeHoldEntry (t inFlight hanging : Nat) (s : State) : Host.Outcome State Fault Refusal :=
  let s1 := s.enter t
  if s1.par Ix.clkFallbackState 0 = 2 ∧ !s1.refReady .fro ∧ s1.clk.heldSince + 20480000 ≤ s1.now then
    .next (s1.safeHold inFlight hanging)
  else .next s1

/-- The oscillator has run for its retry period in SAFE_HOLD without becoming READY. -/
def State.retryDue (s : State) (src : Nat) : Bool :=
  let period := if src = 2 then 256000000 else (s.par Ix.clkXaStartup 0 + 1000) * 256000
  match tfind s.clk.started src with
  | some a => decide (a + period ≤ s.now) && !s.sourceReady src
  | none => !s.sourceReady src

/-- SAFE_HOLD_RETRY: FRO is started again every 1 ms, XA every CLK.XA_STARTUP + 1,000 µs (R402). -/
def execSafeHoldRetry (t : Nat) (xa : Bool) (s : State) : Host.Outcome State Fault Refusal :=
  let s1 := s.enter t
  let src := if xa then 0 else 2
  if s1.par Ix.clkFallbackState 0 = 3 ∧ s1.retryDue src then .next (s1.startSource src) else .next s1

/-- DOMAIN_RELEASE: the first edge of the slow clock that drives the count, after TPLL has locked (R39, R401). -/
def execDomainRelease (t : Nat) (s : State) : Host.Outcome State Fault Refusal :=
  let s1 := s.enter t
  match s1.clk.locked with
  | some r => if s1.counts ∨ s1.now ≤ s1.clk.lockedAt then .next s1 else .next (s1.release r)
  | none => .next s1

/-- AUTO_RETURN: a permitted reference has been READY for CLK.XA_RECOVER, with CLK.AUTO_RETURN = 1 (Table 6). -/
def execAutoReturn (t : Nat) (s : State) : Host.Outcome State Fault Refusal :=
  let s1 := s.enter t
  let steady (r : Ref) : Bool := s1.refReady r
    && decide (tget 0 s1.clk.readyAt r.readyBit + s1.par Ix.clkXaRecover 0 * 256000000 ≤ s1.now)
  if s1.par Ix.clkFallbackState 0 = 1 ∧ s1.par Ix.clkAutoReturn 0 = 1 ∧ s1.forcedRef.isNone then
    .next (s1.returnRef (s1.permitted.find? steady))
  else .next s1

/-- CLK_RETURN: 1 is written to CLK.RETURN (Table 6). -/
def execClkReturn (t : Nat) (s : State) : Host.Outcome State Fault Refusal := .next (s.enter t).clkReturn

end Sys2Proof.Machine
end

