-- ==== Sys2Proof/Machine/Power.lean ====
section
/-! DEFINITION. Loops that lock, Jasper's DVFS, power states, wakes, rails and temperature (17_clocks_power.md R395, R403
to R410, R414; 20_electrical_package.md R454, R461, R462).

Readings and choices here: DESIGN CHOICE log 2, log 3, log 68; DEDUCED log 15, log 44, log 48, log 75. -/
namespace Sys2Proof.Machine

/-! ### Jasper (R404 to R406) -/

/-- The point to run at: CLK.JASPER_POINT in WATCH and MEASURE, J3 below (R407). -/
def State.jasperGoal (s : State) : Nat := if 2 ≤ s.par Ix.pwrState 0 then s.par Ix.clkJasperPoint 0 else 3

/-- The sequencer is steady, or takes a new state. -/
def State.setDvfs (s : State) (d : Dvfs) (vsel : Nat) : State := { s with clk := { s.clk with dvfs := d, vsel := vsel } }

/-- A change of point begins, towards the goal; one in progress is followed by the next (R405). -/
def State.jasperChange (s : State) : State :=
  match s.clk.dvfs with
  | .steady =>
    let g := s.jasperGoal
    let n := s.par Ix.clkJasperNow 0
    let code := s.par Ix.clkVselCode g
    let until_ := s.now + s.par Ix.clkVselDwell 0 * 256000
    if g = n then s
    else if g < n then s.setDvfs (.dwell g until_ s.clk.vsel) code
    else (s.setPar Ix.clkJasperNow 0 g).setDvfs (.down until_) code
  | _ => { s with clk := { s.clk with again := true } }

/-- A change has ended; a target written meanwhile is the next one (R405). -/
def State.jasperEnd (s : State) : State :=
  let s1 := s.setDvfs .steady s.clk.vsel
  if s1.clk.again then { s1 with clk := { s1.clk with again := false } }.jasperChange else s1

/-- PGOOD is low at a steady point: Jasper runs at 200 MHz (R406). -/
def State.jasperDrop (s : State) : State :=
  ({ s with clk := { s.clk with dropped := true } }.setPar Ix.clkJasperNow 0 3).cnt Ix.clkPgoodLosses 0

/-- The CPLL divider takes the point of an upward change (R405). -/
def State.jasperReach (s : State) (g : Nat) : State :=
  ({ s with clk := { s.clk with dropped := false } }.setPar Ix.clkJasperNow 0 g).jasperEnd

/-- DVFS_DWELL_END: the dwell of a change ends (R405, R406). -/
def execDvfsDwellEnd (t : Nat) (s : State) : Host.Outcome State Fault Refusal :=
  let s1 := s.enter t
  match s1.clk.dvfs with
  | .dwell g u p =>
    if s1.now < u then .next s1
    else if s1.clk.pgood then .next (s1.jasperReach g)
    else .next (s1.setDvfs (.wait g (u + s1.par Ix.clkPgoodTimeout 0 * 256000) p) s1.clk.vsel)
  | .down u =>
    if s1.now < u then .next s1
    else if s1.clk.pgood ∨ s1.jasperEnd.clk.dvfs ≠ .steady then .next s1.jasperEnd else .next s1.jasperEnd.jasperDrop
  | _ => .next s1

/-- PGOOD_TIMEOUT: PGOOD has not risen in time; the previous code is driven again (R406). -/
def execPgoodTimeout (t : Nat) (s : State) : Host.Outcome State Fault Refusal :=
  let s1 := s.enter t
  match s1.clk.dvfs with
  | .wait _ u p =>
    if s1.now < u ∨ s1.clk.pgood then .next s1 else .next (((s1.setDvfs .steady p).cnt Ix.clkDvfsFails 0).jasperEnd)
  | _ => .next s1

/-- PGOOD_FALL: PGOOD falls (R406). -/
def execPgoodFall (t : Nat) (s : State) : Host.Outcome State Fault Refusal :=
  let s1 := s.enter t
  let s2 : State := { s1 with clk := { s1.clk with pgood := false } }
  if s1.clk.pgood ∧ s1.clk.dvfs = .steady then .next s2.jasperDrop else .next s2

/-- PGOOD_RISE: PGOOD rises; a change that waits for it ends, and after a loss the target is sought again (R405, R406). -/
def execPgoodRise (t : Nat) (s : State) : Host.Outcome State Fault Refusal :=
  let s1 := s.enter t
  let s2 : State := { s1 with clk := { s1.clk with pgood := true } }
  match s2.clk.dvfs with
  | .wait g _ _ => .next (s2.jasperReach g)
  | .steady => if s2.clk.dropped then .next { s2 with clk := { s2.clk with dropped := false } }.jasperChange else .next s2
  | _ => .next s2

/-- JASPER_POINT_WRITE: a point is written to CLK.JASPER_POINT (R404, R405). -/
def execJasperPointWrite (t : Nat) (v : Fin 4) (s : State) : Host.Outcome State Fault Refusal :=
  let s1 := s.enter t
  .next ((s1.setPar Ix.clkJasperPoint 0 v).jasperChange)

/-! ### Power states (R18, R19, R407, R408) -/

/-- The state a pier runs in: the lower of its target and the device state (R407). -/
def State.pierWant (s : State) (p : Nat) : Nat :=
  let w := min (s.par Ix.pwrPierTarget p) (s.par Ix.pwrState 0 - 1)
  if s.clk.apllLost then min w 1 else w

/-- Every pier takes the state it is to run in. -/
def State.piersFollow (s : State) (t : Nat) : State := (List.range 24).foldl (fun u p => u.pierTo t (u.pierWant p) p) s

/-- The device leaves WATCH or MEASURE for IDLE (R408). -/
def State.toIdle (s : State) (t : Nat) : State :=
  let s1 := ((s.setPar Ix.pwrState 0 1).piersFollow t).setGood 3 false |>.setGood 4 false
  let s2 := if s1.par Ix.memState 0 = 1 then s1.setPar Ix.memState 0 2 else s1
  s2.froFollow.jasperChange

/-- The device leaves IDLE for DORMANT (R408). -/
def State.toDormant (s : State) (xbEdge sroEdge : Nat) : State :=
  let s1 := ((s.hostLinkDown.ethDown 0).ethDown 1).endSessions
  let s2 := (List.range 5).foldl (fun u l => u.setPar Ix.clkPllState l 0) s1
  let s3 := ((s2.setPar Ix.clkDomainGood 0 1).setPar Ix.pwrState 0 0).setPar Ix.clkFallbackState 0 0
  let s4 := { s3 with clk := { s3.clk with
    ref := none, locked := none, levels := (List.range 192).map (fun l => (s3.edgeOf l).input) } }
  let s5 := ((s4.stopSource 0).froFollow).opalFollow
  if s5.counts then (s5.driveCoarse xbEdge sroEdge).setQuality .coarse s5.now else s5

/-- The device takes a commanded state (Table 10). -/
def State.deviceTo (s : State) (t new xbEdge sroEdge : Nat) : State :=
  let old := s.par Ix.pwrState 0
  if old = 0 then s
  else if 2 ≤ new then
    let s1 := s.setPar Ix.pwrState 0 new
    let s2 := if s1.tpll then s1.domainsOn else s1
    let s3 := (s2.froFollow.jasperChange).piersFollow t
    if !s.merging && s3.merging then s3.admitLate else s3
  else
    let s1 := if 2 ≤ old then s.toIdle t else s
    if new = 0 then s1.toDormant xbEdge sroEdge else s1

/-- A commanded power state takes effect. -/
def State.applyPwr (t xbEdge sroEdge : Nat) (s : State) (c : PwrCmd) : State :=
  match c.pier with
  | none => s.deviceTo t c.state xbEdge sroEdge
  | some p => s.pierTo t (s.pierWant p) p

/-- A power state is commanded: it waits for the first whole microsecond after the write (R407). -/
def State.queuePwr (s : State) (pier : Option Nat) (v : Nat) : State :=
  { s with clk := { s.clk with pending := s.clk.pending ++ [⟨nextMicro s.now, pier, v⟩] } }

/-- The enabled child that keeps Topaz and Agate on (Table 8): its index and sub-index. -/
def State.childActive (s : State) : Option (Nat × Nat) :=
  if s.capturing then some (Ix.cwState, 0)
  else
    match (List.range 24).find? (fun p => decide (s.par Ix.caiEnable p = 1)) with
    | some p => some (Ix.caiEnable, p)
    | none => if s.par Ix.fetchState 0 = 1 then some (Ix.fetchState, 0) else none

/-- Why a write of PWR.CMD is refused: the reason, the blocking parameter (R403 Table 8); a blocking access names none, and
the field it would fill is open. `busy`: an access into what would be turned off is outstanding. -/
def State.pwrBlocked (s : State) (v : Nat) (busy : Bool) : Option (Nat × Nat) :=
  let down := decide (2 ≤ s.par Ix.pwrState 0) && decide (v ≤ 1)
  let off := down || (decide (s.par Ix.pwrState 0 = 1) && decide (v = 0))
  match (if down then s.childActive else none) with
  | some (ix, sub) => some (2, ix * 256 + sub)
  | none =>
    if v = 0 ∧ s.par Ix.storeState 0 ≠ 0 then some (3, Ix.storeState * 256)
    else if off && busy then some (3, Config.freeNat s.fresh % 2 ^ 24) else none

/-- A write of PWR.CMD (R403, R407). -/
def State.pwrCmd (s : State) (v : Nat) (busy : Bool) : State :=
  if s.par Ix.pwrState 0 = 0 then s
  else
    match s.pwrBlocked v busy with
    | some (r, b) => s.draw.clkRefuse r (b / 256) (b % 256)
    | none => s.queuePwr none v

/-- A write of PWR.PIER_CMD (R403, R407). -/
def State.pierCmd (s : State) (p v : Nat) (busy : Bool) : State :=
  if v = 0 && busy then
    let b := Config.freeNat s.fresh % 2 ^ 24
    s.draw.clkRefuse 3 (b / 256) (b % 256)
  else (s.setPar Ix.pwrPierTarget p v).queuePwr (some p) v

/-- PWR_CMD: a device state is written to PWR.CMD (R403, R407). -/
def execPwrCmd (t : Nat) (v : Fin 4) (busy : Bool) (s : State) : Host.Outcome State Fault Refusal :=
  .next ((s.enter t).pwrCmd v busy)

/-- PWR_PIER_CMD: a pier's target is written to PWR.PIER_CMD (R403, R407). -/
def execPwrPierCmd (t : Nat) (p : Fin 24) (v : Fin 3) (busy : Bool) (s : State) : Host.Outcome State Fault Refusal :=
  .next ((s.enter t).pierCmd p v busy)

/-- POWER_STATE_EFFECT: what has been commanded takes effect at its whole microsecond (R407, R408); the stamps of the latest
edges of XB and SRO come with it for an entry to DORMANT (R470). -/
def execPowerStateEffect (t xbEdge sroEdge : Nat) (s : State) : Host.Outcome State Fault Refusal :=
  let s1 := s.enter t
  let due := s1.clk.pending.filter (fun c => decide (c.due ≤ s1.now))
  let s2 : State := { s1 with clk := { s1.clk with pending := s1.clk.pending.filter (fun c => decide (s1.now < c.due)) } }
  .next (due.foldl (State.applyPwr s1.now xbEdge sroEdge) s2)

/-! ### Wakes (R408 to R410) -/

/-- A wake source of R409 holds at `t`: 0 an enabled lane that has been away from its level at entry for 10 µs, 1 the timer, 2 the
host. -/
def State.wakes (s : State) (cause lane t : Nat) : Bool :=
  bit (s.par Ix.pwrWakeEnable 0) cause &&
    match cause with
    | 0 => bit (s.par Ix.pwrWakeLanes (lane / 32)) (lane % 32) && decide (s.clk.levels[lane]? ≠ some (s.edgeOf lane).input)
        && decide ((s.edgeOf lane).inputAt + 2560000 ≤ t)
    | 1 => decide (s.par Ix.pwrWakeAt 0 ≠ 0) && decide (s.par Ix.pwrWakeAt 0 ≤ s.now)
    | _ => s.host.perst

/-- WAKE_EVENT: an enabled wake source wakes the device from DORMANT: XA is started (R408, R409). -/
def execWakeEvent (t : Nat) (cause : Fin 3) (lane : Fin 192) (s : State) : Host.Outcome State Fault Refusal :=
  let s1 := s.enter t
  if s1.par Ix.pwrState 0 = 0 ∧ s1.par Ix.startStep 0 = 10 ∧ !s1.clk.waking ∧ s1.wakes cause lane (max t s1.now) then
    let s2 := (s1.setPar Ix.pwrWakeCause 0 cause).startSource 0
    .next { s2 with clk := { s2.clk with waking := true } }
  else .next s1

/-- UNIT_WAKE: a sleeping unit wakes on demand (R410). A DRAM channel takes the DRAM out of self-refresh; FRO is started; no
other wake changes a result. -/
def execUnitWake (t : Nat) (u : WakeUnit) (s : State) : Host.Outcome State Fault Refusal :=
  let s1 := s.enter t
  match u with
  | .dram _ =>
    if s1.par Ix.memState 0 = 2 ∧ 2 ≤ s1.par Ix.pwrState 0 ∧ s1.domainGood 3 then .next (s1.setPar Ix.memState 0 1)
    else .next s1
  | .fro => .next s1.froFollow
  | .tdc _ => .next s1
  | .slice _ => .next s1
  | .engine _ => .next s1
  | .port _ => .next s1

/-! ### Loops (R395) -/

/-- The loops that follow TPLL begin to lock. -/
def State.startLoops (s : State) : State :=
  [1, 2, 3, 4].foldl (fun u l => if u.loopState l = 0 then u.startLoop l else u) s

/-- TPLL has locked (R27, R39, R401): in start-up time takes its quality at once; after a hold or in a wake the domains wait
for the next slow edge; after a change to FRO without a hold the fallback is complete. -/
def State.tpllLocked (s : State) : State :=
  match s.clk.ref with
  | none => s
  | some r =>
    if s.counts then s.clockClear
    else if s.par Ix.startStep 0 = 4 then (s.startLoops).release r
    else { s.startLoops with clk := { s.startLoops.clk with locked := some r, lockedAt := s.now } }

/-- A loop has declared lock. -/
def State.loopLocked (s : State) (t l inFlight hanging : Nat) : State :=
  let watch := decide (2 ≤ s.par Ix.pwrState 0) && s.counts
  match l with
  | 0 => s.tpllLocked
  | 1 => ({ s with clk := { s.clk with cpllHold := false } }.setGood 2 s.counts).clockClear
  | 2 =>
    let s1 := s.setGood 3 watch
    if watch && decide (s1.par Ix.memState 0 = 2) then s1.setPar Ix.memState 0 1 else s1
  | 3 => ({ s with clk := { s.clk with apllLost := false } }.setGood 4 watch).piersFollow t
  | _ => (s.setGood 5 s.counts).crossingReset inFlight hanging

/-- The period of a loop's reference, in ticks (R29, R31, R392 Table 1, R395 Table 3). -/
def State.loopPeriod (s : State) : Nat → Nat
  | 0 =>
    match s.clk.ref with
    | some .xa => 256 * s.clk.mult
    | some .fro => 1280
    | _ => 40960
  | 1 => 10240
  | 2 => 10240
  | 3 => 800000
  | _ => 40960

/-- A loop that began to lock may declare lock at `t`: in the native mode CLK.PLL_LOCK_COUNT reference cycles must have stayed
within the window, in the fixed-time mode 2^16 cycles must have passed (R395); a change to FRO without a hold keeps the 2 µs of
Table 6 instead (log 75). -/
def State.lockDue (s : State) (l t : Nat) : Bool :=
  let cycles := if s.par Ix.clkPllLockMode l = 1 then 65536 else s.par Ix.clkPllLockCount l
  (decide (l = 0) && s.counts) || decide (tget 0 s.clk.lockFrom l + cycles * s.loopPeriod l ≤ t)

/-- PLL_LOCK: a loop declares lock in its mode (R395); for SPLL what the Spinel crossings discard comes with it (R414). -/
def execPllLock (t : Nat) (l : Fin 5) (inFlight hanging : Nat) (s : State) : Host.Outcome State Fault Refusal :=
  let s1 := s.enter t
  if s1.loopState l = 1 ∧ s1.lockDue l (max t s1.now) then
    let took := (s1.now - tget 0 s1.clk.lockFrom l) / 256000
    let s2 := (s1.setPar Ix.clkPllState l 2).setPar Ix.clkPllLockTime l (took % 2 ^ 32)
    .next ((s2.loopLocked s1.now l inFlight hanging).wakeDone)
  else .next s1

/-! ### Rails and temperature (R72, R454, R461, R462) -/

/-- The brown-out detectors are a cause of the safe state while one of them trips. -/
def State.brown (s : State) (aon on : Bool) : State :=
  if aon then { s with clk := { s.clk with brownAon := on } } else { s with clk := { s.clk with brownCore := on } }

/-- BROWN_OUT: the detector of VCORE, or of VAON, trips (R72, R454). -/
def execBrownOut (t : Nat) (aon : Bool) (s : State) : Host.Outcome State Fault Refusal :=
  let s1 := (s.enter t).brown aon true
  .next ({ s1 with brownCause := true }.safeEverything s1.now false)

/-- BROWN_OUT_CLEAR: VCORE, or VAON, is above its threshold again; with the other also above, the cause clears (R73). -/
def execBrownOutClear (t : Nat) (aon : Bool) (s : State) : Host.Outcome State Fault Refusal :=
  let s1 := (s.enter t).brown aon false
  if s1.clk.brownCore ∨ s1.clk.brownAon ∨ !s1.brownCause then .next s1
  else .next { s1 with brownCause := false }.causesClear

/-- RAIL_LOW: a rail has been more than 5 % low for 10 µs (R454). -/
def execRailLow (t : Nat) (rail : Fin 7) (s : State) : Host.Outcome State Fault Refusal :=
  let s1 := s.enter t
  let v := s1.par Ix.diagRailLow 0
  if bit v rail then .next s1 else .next ((s1.setPar Ix.diagRailLow 0 (putBit v rail true)).cnt Ix.diagRailEvents 0)

/-- RAIL_LOW_CLEAR: the rail is within 5 % of nominal again (R454). -/
def execRailLowClear (t : Nat) (rail : Fin 7) (s : State) : Host.Outcome State Fault Refusal :=
  let s1 := s.enter t
  .next (s1.setPar Ix.diagRailLow 0 (putBit (s1.par Ix.diagRailLow 0) rail false))

/-- The order of binary32 codes other than NaN. -/
def f32Key (c : Nat) : Int := if bit c 31 then -((c % 2 ^ 31 : Nat) : Int) else (c : Int)

/-- TJ_SAMPLE: the on-die sensor reads a temperature, as a binary32 code (R461, R462). -/
def execTjSample (t : Nat) (tj : Word) (s : State) : Host.Outcome State Fault Refusal :=
  let s1 := (s.enter t).setPar Ix.diagTj 0 tj.toNat
  let s2 := s1.setPar Ix.diagTjOver 0 (b2n (decide (f32Key 0x42D20000 < f32Key tj.toNat)))
  if f32Key (s2.par Ix.diagTjMax 0) < f32Key tj.toNat then .next (s2.setPar Ix.diagTjMax 0 tj.toNat) else .next s2

end Sys2Proof.Machine
end

