-- ==== Sys2Proof/Machine/Windows.lean ====
section
/-! DEFINITION. BAR4 windows (13_host_port_mapping.md R306 to R311; 12_memory_integrity.md R285, R289 code 9).

Readings and choices here: DESIGN CHOICE log 34, log 80. -/
namespace Sys2Proof.Machine

/-- A window's BAR4 offset, size and internal target (R307). -/
def State.winOffset (s : State) (n : Nat) : Nat := s.par (Ix.winOffset + n) 0
def State.winBytes (s : State) (n : Nat) : Nat := 2 ^ s.par Ix.winSizeLog2 n
def State.winTarget (s : State) (n : Nat) : Nat := s.par (Ix.winTarget + n) 0

/-- Why a window cannot be enabled (R308 Table 9), the first reason. -/
def State.windowFails (s : State) (n : Nat) : Option Nat :=
  let z := s.par Ix.winSizeLog2 n
  let o := s.winOffset n
  let t := s.winTarget n
  let w := 2 ^ z
  if z < 12 ∨ 36 < z then some 1
  else if o % w ≠ 0 ∨ t % 4096 ≠ 0 then some 2
  else if !s.inDram t (t + w) && !inSram t (t + w) then some 3
  else if (List.range 8).any (fun m => decide (m ≠ n) && decide (s.par Ix.winState m ≠ 0) &&
      decide (o < s.winOffset m + s.winBytes m) && decide (s.winOffset m < o + w)) then some 4
  else if 2 ^ 37 < o + w then some 5 else none

/-- A refused write to a window's parameters (R311). -/
def State.windowReject (s : State) (ix sub : Nat) : State := s.reject Ix.hostRejectedWrites Ix.hostLastRejected 0 ix sub

/-- A write of 1 to WIN.ENABLE (R308, R311). -/
def State.windowEnable (s : State) (n : Nat) : State :=
  if s.par Ix.winState n = 2 then s.windowReject Ix.winEnable n
  else if s.par Ix.winState n = 1 then s
  else
    match s.windowFails n with
    | some r => (s.cnt Ix.winRefused n).setPar Ix.winLastRefused n r
    | none => (s.setPar Ix.winEnable n 1).setPar Ix.winState n 1

/-- A write of 0 to WIN.ENABLE; `outstanding` when an accepted request of the window has not completed (R311). -/
def State.windowDisable (s : State) (n : Nat) (outstanding : Bool) : State :=
  if s.par Ix.winState n = 1 then (s.setPar Ix.winEnable n 0).setPar Ix.winState n (if outstanding then 2 else 0) else s

/-- The window that a BAR4 offset reaches (R307, R300). -/
def State.windowAt (s : State) (a : Nat) : Option Nat :=
  if 2 ^ s.bar4Log2 ≤ a then none
  else (List.range 8).find? (fun n => decide (s.par Ix.winState n = 1) && decide (s.winOffset n ≤ a) &&
    decide (a < s.winOffset n + s.winBytes n))

/-- A request that reaches no window (R309, R334). -/
def State.windowMiss (s : State) (a : Nat) (tlp : Tlp) (write : Bool) : State :=
  let s1 := (s.cnt (if write then Ix.winMissP else Ix.winMissNp) 0).setPar Ix.winMissLast 0 a
  let s2 := s1.partnerFault 0 tlp.peer 3 (b2n write)
  (if write then s2 else s2.send (.completion .unsupported [] [])).portError .unsupported (!write) (some tlp)

/-- A line of the bytes [a, b) lies in a region that a posted write may not touch: one of an enabled owner, or the host
region while a fetch runs (R310). -/
def State.writeBlocked (s : State) (a b : Nat) : Bool :=
  let lo := a / 64 * 64
  let hi := ceilMul b 64
  (s.ownedRegions none none).any (fun r => decide (0 < r.size) && decide (lo < r.base + r.size) && decide (r.base < hi))

/-- The target domain of an internal address runs: Topaz for DRAM (R412); the exchange SRAM has a port of its own. -/
def State.targetRuns (s : State) (a : Nat) : Bool := inSram a (a + 1) || s.runs 3

/-- The word at an address lies where a Caisson keeps data of its own layout. -/
def State.scratchAt (s : State) (a : Nat) : Bool := s.dram.scratch.any (fun x => decide (x.1 < a + 4) && decide (a < x.2))

/-- A read through a window: `n` DW from internal address `a`; the codewords in error are counted, and words of those that
cannot be corrected are poisoned (R289 code 9). What a Caisson keeps there is a free value. `errs` are errors that have come up in
stored codewords. -/
def State.windowRead (s0 : State) (a n : Nat) (errs : List CodeErr) : State :=
  let s := s0.strike errs
  let lost := s.badAt a (4 * n)
  let s1 := s.countReads a (4 * n) 9 255
  let bad := (List.range n).filter (fun i => lost.contains ((a + 4 * i) / 16 * 16))
  let out := (wordsOfBytes (s.readMem a (4 * n))).zipIdx.map (fun w =>
    if s.scratchAt (a + 4 * w.2) then w32 (Config.freeNat (s.fresh + w.2)) else w.1)
  { s1 with fresh := s1.fresh + n }.send (.completion .success out bad)

/-- The bytes of a posted write that its byte enables select: internal address and byte. -/
def writeCells (a : Nat) (ws : List Word) (firstBe lastBe : Nat) : List (Nat × Byte) :=
  let k := ws.length
  (ws.zipIdx.flatMap (fun w =>
    let be := if w.2 = 0 then firstBe else if w.2 + 1 = k then lastBe else 15
    ((bytesOfWord w.1).zipIdx.filter (fun b => bit be b.2)).map (fun b => (a + 4 * w.2 + b.2, b.1))))

/-- A write through a window (R285, R289): a codeword that is written whole is healed; one that needs a read first and
cannot be corrected is left as it is. -/
def State.windowWrite (s0 : State) (cells : List (Nat × Byte)) (errs : List CodeErr) : State :=
  let s := s0.strike errs
  let whole (c : Nat) : Bool := decide ((cells.filter (fun x => decide (x.1 / 16 * 16 = c))).length = 16)
  let hit := ((cells.map (fun x => x.1 / 16 * 16)).eraseDups).flatMap (fun c => s.badReads c 16)
  let part := hit.filter (fun r => !whole r.1)
  let stuck := (part.filter (fun r => r.2.fixed.isNone)).map Prod.fst
  let keep := cells.filter (fun x => !stuck.contains (x.1 / 16 * 16))
  let s1 := part.foldl (State.countRead 9 255) s
  { s1 with
    mem := keep.foldl (fun m x => memWrite m x.1 x.2) s1.mem
    dram := { s1.dram with
      bad := (hit.filter (fun r => !stuck.contains r.1)).foldl (fun l r => terase l r.1) s1.dram.bad
      scratch := keep.foldl (fun l x => cutOut x.1 (x.1 + 1) l) s1.dram.scratch } }

/-! ### The commands -/

/-- WINDOW_ENABLE: a write of 1 to WIN.ENABLE (R308). -/
def execWindowEnable (t : Nat) (n : Fin 8) (s : State) : Host.Outcome State Fault Refusal := .next ((s.enter t).windowEnable n)

/-- WINDOW_DISABLE: a write of 0 to WIN.ENABLE, with accepted requests of the window outstanding or not (R311). -/
def execWindowDisable (t : Nat) (n : Fin 8) (outstanding : Bool) (s : State) : Host.Outcome State Fault Refusal :=
  .next ((s.enter t).windowDisable n outstanding)

/-- WINDOW_DRAINED: the last accepted request of a draining window completes (R311). -/
def execWindowDrained (t : Nat) (n : Fin 8) (s : State) : Host.Outcome State Fault Refusal :=
  let s1 := s.enter t
  .next (if s1.par Ix.winState n = 2 then s1.setPar Ix.winState n 0 else s1)

/-- BAR4_READ: a memory read of `n` DW at a BAR4 offset, carried by `tlp`; `errs` are the codewords in error that it
meets, counted from the one of its first byte (R307, R309, R412). -/
def execBar4Read (t : Nat) (a : Nat) (n : Nat) (errs : List CodeErr) (tlp : Tlp) (s : State) :
    Host.Outcome State Fault Refusal :=
  let r := (s.enter t).memRequest false false tlp
  if !r.2 then .next r.1
  else
    match r.1.windowAt a with
    | none => .next (r.1.windowMiss a tlp false)
    | some w =>
      let x := r.1.winTarget w + (a - r.1.winOffset w)
      if r.1.targetRuns x then .next (r.1.windowRead x n errs)
      else .next (r.1.governed.send (.completion .unsupported [] []))

/-- BAR4_WRITE: a posted write at a BAR4 offset by requester `peer`, with its first and last byte enables (R307, R309,
R310, R412). -/
def execBar4Write (t : Nat) (a : Nat) (ws : List Word) (firstBe lastBe : Fin 16) (errs : List CodeErr) (tlp : Tlp)
    (s : State) : Host.Outcome State Fault Refusal :=
  let r := (s.enter t).memRequest true false tlp
  if !r.2 then .next r.1
  else
    match r.1.windowAt a with
    | none => .next (r.1.windowMiss a tlp true)
    | some w =>
      let x := r.1.winTarget w + (a - r.1.winOffset w)
      if r.1.par Ix.winWrite w = 0 ∨ r.1.writeBlocked x (x + 4 * ws.length) then
        .next (((r.1.cnt Ix.winWriteBlocked 0).setPar Ix.winBlockedLast 0 x).partnerFault 0 tlp.peer 4 w)
      else if r.1.targetRuns x then .next (r.1.windowWrite (writeCells x ws firstBe lastBe) errs)
      else .next r.1.governed

end Sys2Proof.Machine
end

