-- ==== Sys2Proof/Machine/Owners.lean ====
section
/-! DEFINITION. Owners of parameters, the checks of a written value, refusals (15_dictionary_registers.md R348, R352 to
R354).

Readings and choices here: DEDUCED log 41, log 42, log 57. -/
namespace Sys2Proof.Machine

/-! ### Owners (R352) -/

/-- The block whose disabled state governs RWD writes, and whose counter takes refused writes. -/
inductive Owner where
  | timeBase | ppsIn | ptp
  | lane (n : Nat) | guard (n : Nat)
  | source (k : Nat) | bias (p : Nat) | tone (p : Nat) | amp (a : Nat) | rotation (p : Nat)
  | curve (n : Nat) | causeway | seq (k : Nat) | unit (u : Nat) | executor
  | lineIn (n : Nat) | lineOut (n : Nat) | stream (n : Nat) | caisson (p : Nat) | fetch
  | window (n : Nat) | host | other
  deriving DecidableEq, Repr

/-- The input that a parameter of sources 0 to 200 belongs to (R57, R236). -/
def inputOwner (src : Nat) : Owner :=
  if src < 192 then .lane src else if src < 200 then .lineIn (src - 192) else .ppsIn

/-- The index lies in [a, b]. -/
def within (ix a b : Nat) : Bool := decide (a ≤ ix) && decide (ix ≤ b)

/-- The owner of a pier's front-end parameter (R107, R135). -/
def pierOwner (ix sub : Nat) : Owner :=
  if ix = 0x4006 then .source sub
  else if within ix 0x4010 0x402F then .source (2 * sub + (ix - 0x4010) / 16)
  else if within ix 0x4030 0x403F then .bias sub
  else if within ix 0x4040 0x405F then .amp (2 * sub + (ix - 0x4040) / 16)
  else if within ix 0x4060 0x406F then .tone sub
  else .rotation (if within ix 0x407B 0x407C then sub / 9 else sub)

/-- The owner of a parameter (R57, R80, R107, R135, R138, R156, R162, R185, R191, R207, R236, R260, R274, R315, R416). -/
def ownerOf (ix sub : Nat) : Owner :=
  match ix / 256 with
  | 0x10 => if ix = Ix.idChipNum then .causeway else .other
  | 0x20 => if ix = Ix.clkOpalSrc ∨ within ix 0x2028 0x2029 ∨ within ix 0x2030 0x2032 then .timeBase else .other
  | 0x21 =>
    if ix = Ix.timeLaneSkew then inputOwner sub else if ix = Ix.timeLockWindow then .ptp else .timeBase
  | 0x30 => if within ix 0x3030 0x303F then .guard sub else .lane sub
  | 0x40 => pierOwner ix sub
  | 0x50 => if within ix 0x5010 0x501F then .seq (sub / 16) else if within ix 0x5020 0x502F then .seq (sub / 64) else .seq sub
  | 0x51 => .unit sub
  | 0x52 => .executor
  | 0x53 => if ix = Ix.vdInEnable ∨ ix = Ix.vdDeglitch then .lineIn sub else .lineOut sub
  | 0x60 => .causeway
  | 0x61 => if within ix 0x6110 0x6137 then .stream (ix % 8) else .stream sub
  | 0x62 => if ix = Ix.routeInternal then .causeway else inputOwner sub
  | 0x70 => if ix = Ix.berylEnginesBusy then .other else if within ix 0x7010 0x7027 then .stream (ix % 8) else .stream sub
  | 0x71 => if within ix 0x7110 0x711F then .stream (ix % 8) else if within ix 0x71F0 0x71FF then .other else .stream sub
  | 0x72 => if within ix 0x7220 0x7223 then .executor else .caisson sub
  | 0x73 =>
    if within ix 0x7310 0x731F then .stream (ix % 8) else if within ix 0x7300 0x730F then .stream sub else .fetch
  | 0x80 =>
    if within ix 0x8014 0x801B then .window (ix - 0x8014) else if within ix 0x801C 0x8023 then .window (ix - 0x801C)
    else if within ix 0x8010 0x8013 then .window sub else .host
  | 0x90 => if ix = Ix.netMarkRxEnable then .causeway else .other
  | 0x92 => .ptp
  | 0xA0 => .lane sub
  | 0xA1 => .curve ((ix - 0xA100) % 8)
  | _ => .other

/-- An enabled lane selects a user curve slot (R133). -/
def State.curveUsed (s : State) (n : Nat) : Bool :=
  (List.range 192).any (fun l => s.laneOn l && s.analog l && decide (s.par Ix.laneCurve l = 24 + n))

/-- The executor counts as enabled (R191). -/
def State.executing (s : State) : Bool := s.anySeq || decide (s.slotsHeld ≠ 0)

/-- The owner is enabled, by the values in force (R352). -/
def State.ownerOn (s : State) : Owner → Bool
  | .timeBase => s.capturing
  | .ppsIn => decide (s.par Ix.timePpsInMode 0 ≠ 0)
  | .ptp => decide (s.par Ix.timeServoEnable 0 ≠ 0)
  | .lane n => decide (s.par Ix.laneEnable n ≠ 0)
  | .guard n => decide (s.par Ix.guardEnable n ≠ 0)
  | .source k => decide (s.exPar Ix.exEnable k ≠ 0)
  | .bias p => decide (s.par Ix.biasEnable p ≠ 0)
  | .tone p => decide (s.par Ix.toneEnable p ≠ 0)
  | .amp a => (s.caLane a).isSome
  | .rotation p => decide (s.par Ix.pierRotEnable p ≠ 0)
  | .curve n => s.curveUsed n
  | .causeway => s.capturing
  | .seq k => decide (s.par Ix.keyEnable k ≠ 0)
  | .unit u => decide (s.par Ix.keyCuEnable u ≠ 0)
  | .executor => s.executing
  | .lineIn n => decide (s.par Ix.vdInEnable n ≠ 0)
  | .lineOut n => decide (s.par Ix.vdEnable n ≠ 0)
  | .stream n => decide (s.par Ix.streamState n ≠ 0)
  | .caisson p => decide (s.par Ix.caiEnable p ≠ 0)
  | .fetch => decide (s.par Ix.fetchState 0 = 1)
  | .window n => decide (s.par Ix.winState n ≠ 0)
  | .host => false
  | .other => false

/-- The owner's rejected-write counter, its last-rejected field, and the instance of both (R352). -/
def rejectIx : Owner → Nat × Nat × Nat
  | .timeBase => (Ix.timeRejectedWrites, Ix.timeLastRejected, 0)
  | .ppsIn => (Ix.timeRejectedWrites, Ix.timeLastRejected, 0)
  | .ptp => (Ix.timeRejectedWrites, Ix.timeLastRejected, 0)
  | .lane n => (Ix.laneRejectedWrites, Ix.laneLastRejected, n)
  | .guard n => (Ix.laneRejectedWrites, Ix.laneLastRejected, n)
  | .source k => (Ix.pierRejectedWrites, Ix.pierLastRejected, k / 2)
  | .bias p => (Ix.pierRejectedWrites, Ix.pierLastRejected, p)
  | .tone p => (Ix.pierRejectedWrites, Ix.pierLastRejected, p)
  | .amp a => (Ix.pierRejectedWrites, Ix.pierLastRejected, a / 2)
  | .rotation p => (Ix.pierRejectedWrites, Ix.pierLastRejected, p)
  | .curve n => (Ix.curveRejectedWrites, Ix.curveLastRejected, n)
  | .causeway => (Ix.cwRejectedWrites, Ix.cwLastRejected, 0)
  | .seq k => (Ix.keyRejectedWrites, Ix.keyLastRejected, k)
  | .unit _ => (Ix.keyRejectedWrites, Ix.keyLastRejected, 4)
  | .executor => (Ix.actRejectedWrites, Ix.actLastRejected, 0)
  | .lineIn n => (Ix.vdRejectedWrites, Ix.vdLastRejected, n)
  | .lineOut n => (Ix.vdRejectedWrites, Ix.vdLastRejected, n)
  | .stream n => (Ix.streamRejectedWrites, Ix.streamLastRejected, n)
  | .caisson p => (Ix.caiRejectedWrites, Ix.caiLastRejected, p)
  | .fetch => (Ix.fetchRejectedWrites, Ix.fetchLastRejected, 0)
  | .window _ => (Ix.hostRejectedWrites, Ix.hostLastRejected, 0)
  | .host => (Ix.hostRejectedWrites, Ix.hostLastRejected, 0)
  | .other => (Ix.dictRejectedWrites, Ix.dictLastRejected, 0)

/-- A refused write to an instance is counted by its owner (R352). -/
def State.ownerReject (s : State) (ix sub : Nat) : State :=
  let r := rejectIx (ownerOf ix sub)
  s.reject r.1 r.2.1 r.2.2 ix sub

/-! ### Checks -/

/-- A change of the parameter leaves a CONFIG record (R24): a RWD parameter of a block on the record path, or a dangerous one;
LANE.ROLE has its own record (R76), and while a stream or the time base is disabled there is no stream to tell. -/
def tellsChange (p : Param) (ix sub : Nat) : Bool :=
  if p.ty = .domain ∨ p.ty = .string ∨ ix = Ix.laneRole then false
  else if p.danger then decide (ix ≠ Ix.memTimingOvr)
  else
    decide (p.acc = .rwd) &&
      match ownerOf ix sub with
      | .lane _ | .guard _ | .source _ | .bias _ | .tone _ | .amp _ | .rotation _ | .curve _ | .seq _ | .unit _ | .executor => true
      | .lineIn _ | .lineOut _ | .caisson _ => true
      | .timeBase | .ppsIn | .ptp | .causeway | .stream _ | .fetch | .window _ | .host | .other => false

/-- Why a write is refused. -/
inductive WErr where
  | roleInvalid | notANumber | outOfRange | ownerEnabled
  /-- R397 reason 1, R403 reasons 2 and 3, with the parameter that CLK.LAST_REFUSED names. -/
  | clock (reason blocker : Nat)
  deriving DecidableEq, Repr

/-- LANE.ROLE codes that a curve code allows (R130 Table 10). -/
def curveAllows (code role : Nat) : Bool :=
  if code = 0 then decide (2 ≤ role)
  else if (1 ≤ code ∧ code ≤ 10) ∨ code = 16 then decide (role = 3)
  else if code = 17 then decide (role = 6)
  else if 24 ≤ code ∧ code ≤ 31 then decide (2 ≤ role) && decide (role ≤ 4)
  else false

/-- The breakpoints of a user curve slot ascend strictly (R133). -/
def State.curveAscends (s : State) (n : Nat) : Bool :=
  (List.range 64).all (fun i => fpLt (fpOf32 (s.par (Ix.curveX + n) i)) (fpOf32 (s.par (Ix.curveX + n) (i + 1))))

/-- The lane's role does not allow the write (R77, R130, R133). -/
def State.roleRefuses (s : State) (ix sub v : Nat) : Bool :=
  if !laneWide ix || decide (192 ≤ sub) then false
  else
    !s.roleUses ix sub
      || (decide (ix = Ix.laneCurve) && !curveAllows v (s.par Ix.laneRole sub))
      || (decide (ix = Ix.laneEnable) && decide (v = 1) && s.analog sub && decide (24 ≤ s.par Ix.laneCurve sub) &&
          !s.curveAscends (s.par Ix.laneCurve sub - 24))

/-- The value lies in the accepted range of its parameter (R353). -/
def State.inRange (s : State) (p : Param) (ix v : Nat) : Bool :=
  let i : Int := if p.ty = .i32 then i32 v else (v : Int)
  let basic := decide (p.lo ≤ i) && decide (i ≤ p.hi)
  if p.ty = .f32 then true
  else if ix = Ix.cwHorizon then basic && decide (v % 64 = 0) && decide (v + 240 ≤ s.par Ix.actDelay 0)
  else if ix = Ix.actDelay then basic && decide (s.par Ix.cwHorizon 0 + 240 ≤ v)
  else if ix = Ix.laneCjLane then decide (v ≤ 191) || decide (v = 255)
  else if ix = Ix.biasPins then basic && decide ((setBits v 18).length ≤ 8)
  else if ix = Ix.timePpsPeriod then decide (1024 ≤ v)
  else if ix = Ix.memCfgSpeed then [4800, 5600, 6400, 7200, 8000].contains v
  else if ix = Ix.memCfgDensity then [16, 24, 32].contains v
  else if ix = Ix.hostMaxWidth then [1, 2, 4, 8].contains v
  else if ix = Ix.storeSaveCmd then decide (v = 1) || decide (v = 3)
  else basic

/-- The port's recovered clock is the TPLL reference. -/
def State.portFeeds (s : State) (port : Nat) : Bool :=
  decide (s.clk.ref = some (if port = 0 then .eth0 else .eth1))

/-- The clock tree refuses the write (R397, R403): the reason, and the parameter that is named. -/
def State.clockRefuses (s : State) (ix sub v : Nat) (busy : Bool) : Option (Nat × Nat) :=
  if s.selectsDead ix v then some (1, key ix sub)
  else if ix = Ix.pwrCmd then (if s.par Ix.pwrState 0 = 0 then none else s.pwrBlocked v busy)
  else if ix = Ix.pwrPierCmd then (if v = 0 && busy then some (3, Config.freeNat s.fresh % 2 ^ 24) else none)
  else if ix = Ix.netPortEnable then
    (if v = 0 && s.portFeeds sub then some (2, key Ix.synceRefSelect 0) else none)
  else none

/-- CLK.FORCE_SRC accepts 0 to 2 for Opal and 0 to 4 for the reference (R397). -/
def forceRange (ix sub v : Nat) : Bool := decide (ix ≠ Ix.clkForceSrc) || decide (v ≤ 2 + 2 * sub)

/-- The first check that a write to one instance fails: role, number, range, clock tree, owner. -/
def State.writeFails (s : State) (p : Param) (ix sub v : Nat) (busy : Bool) : Option WErr :=
  if s.roleRefuses ix sub v then some .roleInvalid
  else if p.ty = .f32 ∧ notFinite32 v then some .notANumber
  else if !s.inRange p ix v || !forceRange ix sub v then some .outOfRange
  else if p.acc = .rwd ∧ s.ownerOn (ownerOf ix sub) then some .ownerEnabled
  else (s.clockRefuses ix sub v busy).map (fun x => .clock x.1 x.2)

/-- A refused write is counted where its rule says (R352, R397, R403). -/
def State.refuseWrite (s : State) (e : WErr) (ix sub : Nat) : State :=
  match e with
  | .clock r b => s.draw.clkRefuse r (b / 256) (b % 256)
  | _ => s.ownerReject ix sub

end Sys2Proof.Machine
end

