-- ==== Sys2Proof/Machine/Access.lean ====
section
/-! DEFINITION. What a read of the dictionary returns and what an accepted write does (15_dictionary_registers.md R344 to
R350, R355 to R364).

Readings and choices here: DEDUCED log 13, log 18, log 56, log 57, log 58; DESIGN CHOICE log 76. -/
namespace Sys2Proof.Machine

/-! ### Instances (R343, R347) -/

/-- The row that describes an index and sub-index; a sub-index of a dedicated wide parameter names one of its words. -/
def paramAt (ix sub : Nat) : Option Param :=
  match paramOf ix with
  | some p => if p.s0 ≤ sub ∧ sub ≤ p.s1 then some p else none
  | none => none

/-- The sub-index under which the value of a slot is kept: a dedicated wide parameter keeps one value. -/
def Param.home (p : Param) (sub : Nat) : Nat := if p.dedicated then 0 else sub

/-- Width a value to its type (R344); the bits above bit 8 of KEY.BR_EXPR are reserved and read zero (R5, 07 Table 3). -/
def Param.fit (p : Param) (v : Nat) : Nat := v % 2 ^ (if p.ix = Ix.keyBrExpr then 9 else p.ty.width)

/-- A counter or a high-water mark: what a snapshot copies (R360). -/
def Param.counts (p : Param) : Bool := decide (p.acc = .cntS) || decide (p.acc = .cntW) || p.hwm

/-! ### Reading -/

/-- Values that follow from other state, of the time base, the lanes, the guards and Keystone. -/
def State.derivedA (s : State) (ix sub : Nat) : Option Nat :=
  if ix = Ix.timeNow then some (s.now / 256 * 256 % 2 ^ 72)
  else if ix = Ix.timeQuality then some s.time.quality.code
  else if ix = Ix.laneTLevel then some (s.edgeOf sub).level
  else if ix = Ix.laneWireOpen then some (b2n (s.wireOpen sub))
  else if ix = Ix.guardPinState then some (s.pinState .guard sub)
  else if ix = Ix.guardSafeActive then some (b2n (s.safeActive .guard sub))
  else if ix = Ix.vdPinState then some (s.pinState .line sub)
  else if ix = Ix.vdSafeActive then some (b2n (s.safeActive .line sub))
  else if ix = Ix.vdLevel then some (s.edgeOf (192 + sub)).level
  else if ix = Ix.keyState then some (s.keyState sub)
  else if ix = Ix.keyStaleAny then some (b2n (s.staleAny sub))
  else none

/-- Values that follow from other state, of the executor, the Causeway, Beryl, the host port and the factory data. -/
def State.derivedB (s : State) (ix sub : Nat) : Option Nat :=
  if ix = Ix.actState then some (b2n s.executing)
  else if ix = Ix.actSlotsBusy then some s.slotsHeld
  else if ix = Ix.cwState then some (b2n s.capturing)
  else if ix = Ix.cwOccupancy then some s.occupancy
  else if ix = Ix.berylEnginesBusy then some s.enginesBusy
  else if ix = Ix.hostIrqMode then some s.irqMode
  else if ix = Ix.irqPending then
    some ((irqSources.filter (fun x => decide (x / 32 = sub) && s.irqPending x)).map (fun x => 2 ^ (x % 32))).sum
  else if ix = Ix.calCfFactory then some (s.cfFactory sub)
  else none

/-- The access path's own state (R346): the management path, or the host port's. -/
def State.path (s : State) (mgmt : Bool) : PathSt := if mgmt then s.mgmtPath else s.hostPath
def State.setPath (s : State) (mgmt : Bool) (x : PathSt) : State :=
  if mgmt then { s with mgmtPath := x } else { s with hostPath := x }

/-- The value of an instance as a path reads it now (R6, R123, R349, R355). -/
def State.liveRead (s : State) (mgmt : Bool) (p : Param) (ix sub : Nat) : Nat :=
  if p.acc = .wo then 0
  else if ix = Ix.dictView then (s.path mgmt).view
  else if ix = Ix.dictLatch then (if sub = 0 then (s.path mgmt).readW0 else (s.path mgmt).readW1)
  else
    match s.derivedA ix sub, s.derivedB ix sub with
    | some v, _ => v
    | none, some v => v
    | none, none =>
      match tfind s.staged (key ix sub) with
      | some v => v
      | none => if p.acc = .rwl then s.latest ix sub else s.par ix sub

/-- The holding copy of a counter or mark (R360). -/
def State.heldCopy (s : State) (k : Nat) : Nat :=
  match tfind s.ds.snap k with
  | some v => v
  | none => dfltOf k

/-! ### The copy of slow slots (R303, R362) -/

/-- The pier whose sleep makes a lane or pier parameter's slot a slow one (R362); the guard pins do not sleep with it. -/
def pierOfSlot (ix sub : Nat) : Option Nat :=
  if within ix 0x3030 0x303F then none
  else if ix / 256 = 0x30 ∨ within ix 0xA000 0xA01F then some (sub / 8)
  else if ix = 0x4006 then some (sub / 2)
  else if ix / 256 = 0x40 then some sub
  else none

/-- The slot is read from a copy, and written at an edge of the slow clock: an Opal-owned one, or one of an ASLEEP pier. -/
def State.slowSlot (s : State) (p : Param) (ix sub : Nat) : Bool :=
  p.slow || (match pierOfSlot ix sub with
    | some n => !s.awake n
    | none => false)

/-- An edge of the slow clock refreshes the copy, whole. -/
def State.refreshSlots (s : State) : State :=
  let mine := s.dict.filter (fun (x : Nat × Nat) =>
    match paramOf (x.1 / 256) with
    | some p => s.slowSlot p (x.1 / 256) (x.1 % 256)
    | none => false)
  { s with ds := { s.ds with copy := mine, copyAt := some s.now } }

/-- Within a period of the slow clock of the edge that refreshed it, a slow slot reads as its copy; once a further edge has come
whose time no command gave, as its value (DEDUCED, log 56). -/
def State.copied (s : State) (p : Param) (ix sub : Nat) : Option Nat :=
  match s.ds.copyAt with
  | some a =>
    if p.acc ≠ .rwl ∧ (s.derivedA ix sub).isNone ∧ (s.derivedB ix sub).isNone ∧ a ≤ s.now ∧ (s.now - a) * 65536 < s.slowPeriod ∧
        s.slowSlot p ix sub then
      some (tget (dfltOf (key ix sub)) s.ds.copy (key ix sub))
    else none
  | none => none

/-- The value of an instance as a path reads it, through its view (R361) and, of a slow slot, through its copy (R362). -/
def State.readValue (s : State) (mgmt : Bool) (p : Param) (ix sub : Nat) : Nat :=
  if p.counts ∧ (s.path mgmt).view = 1 then s.heldCopy (key ix sub)
  else
    match s.copied p ix sub with
    | some v => v
    | none => s.liveRead mgmt p ix sub

/-! ### The dictionary's traces and snapshots -/

/-- An accepted write to a dangerous parameter leaves its trace (R364). -/
def State.dangerTrace (s : State) (ix sub : Nat) : State :=
  ((s.cnt Ix.dictDangerWrites 0).setPar Ix.dictDangerLast 0 (ix * 256 + sub)).setPar Ix.dictDangerTime 0 (s.now % 2 ^ 72)

/-- A snapshot is requested (R360): it joins one that waits; while TPLL is stopped the next Jasper cycle takes it. -/
def State.requestSnapshot (s : State) : State :=
  match s.ds.snapAt with
  | some _ => s
  | none => { s with ds := { s.ds with snapAt := some (if s.tpll then effTime s.now else s.now) } }

/-- The high-water marks restart from their quantities' values (R359). -/
def State.restartMarks (s : State) : State :=
  let lane (u : State) (l : Nat) : State := u.setPar Ix.laneBufHwm l (u.edgeOf l).buf.length
  let stream (u : State) (n : Nat) : State :=
    (u.setPar Ix.spanFillHwm n (u.par Ix.spanFill n)).setPar Ix.berylQueueHwm n (queuedFrames (u.streamOf n))
  let s1 := (List.range 8).foldl stream ((List.range 192).foldl lane s)
  (((s1.setPar Ix.cwOccupancyHwm 0 s1.occupancy).setPar Ix.cwReleaseLagMax 0 0).setPar Ix.actSlotsHwm 0 s1.slotsHeld).setPar
    Ix.diagTjMax 0 (s1.par Ix.diagTj 0)

/-- What the holding copy takes of an entry: a counter or a mark, in a slow slot its copy there (R360, R362). -/
def State.holdable (s : State) (x : Nat × Nat) : Option (Nat × Nat) :=
  match paramOf (x.1 / 256) with
  | some p =>
    if p.counts then some (x.1, (s.copied p (x.1 / 256) (x.1 % 256)).getD x.2) else none
  | none => none

/-- The snapshot of instant `at_` is taken (R360). -/
def State.takeSnapshot (s : State) (at_ : Nat) : State :=
  let mine := s.dict.filterMap s.holdable
  let s1 := { s with ds := { s.ds with snap := mine, snapAt := none } }.restartMarks
  (s1.setPar Ix.dictSnapSeq 0 ((s1.par Ix.dictSnapSeq 0 + 1) % 2 ^ 32)).setPar Ix.dictSnapTime 0 (at_ % 2 ^ 72)

/-! ### What a written value does -/

/-- LANE.ROLE takes a value: the generation follows, and the lane tells of it (R76). -/
def State.roleSet (s : State) (lane v : Nat) : State :=
  let old := s.par Ix.laneRole lane
  let g := (s.par Ix.laneRoleGen lane + 1) % 65536
  let s1 := (s.setAt s.now Ix.laneRole lane v).setAt s.now Ix.laneRoleGen lane g
  s1.laneRecord (recStatus s.now lane 4 0 (g * 65536 + v * 256 + old) 0)

/-- A write of LANE.ROLE that changes it (R76). -/
def State.roleChange (s : State) (lane v : Nat) : State := if v = s.par Ix.laneRole lane then s else s.roleSet lane v

/-- TIME.PPS_IN_MODE is written (R56, R165): mode 1 takes the input's level into the source state table. -/
def State.ppsInMode (s : State) (v : Nat) : State :=
  let s1 := s.setPar Ix.timePpsInMode 0 v
  s1.store (.ctl s.now (.src 200 (if v = 1 then some (s.edgeOf 200).input else none) none))

/-- NET.PORT_ENABLE is written: a disabled port's link goes down (R370, R410). -/
def State.portEnable (s : State) (port v : Nat) : State :=
  let s1 := s.setPar Ix.netPortEnable port v
  if v = 0 then s1.ethDown port else s1

/-- What follows from a new value of the guards, the time base, the clocks or the network; none where nothing does. -/
def State.valueEffect (s : State) (ix sub v : Nat) (busy : Bool) : Option State :=
  let u := s.setPar ix sub v
  if ix = Ix.laneRole then some (s.roleChange sub v)
  else if ix = Ix.timePpsInMode then some (s.ppsInMode v)
  else if ix = Ix.timePpsOutEnable then some (u.ppsEnable (decide (v = 1)))
  else if ix = Ix.guardSafeOverride then some (u.overrideEffect sub)
  else if ix = Ix.guardForce then some (if v = 0 then u else u.holdBegins .guard sub)
  else if ix = Ix.clkJasperPoint then some u.jasperChange
  else if ix = Ix.clkFroAlways then some u.froFollow
  else if ix = Ix.clkOpalSrc then some u.opalFollow
  else if ix = Ix.synceRefSelect then some u.refSelected
  else if ix = Ix.synceQlXa then some u.autoRef
  else if ix = Ix.clkForceSrc then some (u.forceEffect sub)
  else if ix = Ix.netPortEnable then some (s.portEnable sub v)
  else if ix = Ix.netRingRole then some u.ringRole
  else if ix = Ix.netUdpPort ∨ ix = Ix.netIp4Addr ∨ ix = Ix.netIp6Prefix ∨ ix = Ix.netIp6Iid then
    some (if v = s.par ix sub then u else u.endSessions)
  else if ix = Ix.irqAck then some (s.irqAckWrite sub v)
  else if ix = Ix.winEnable then some (if v = 1 then s.windowEnable sub else s.windowDisable sub busy)
  else if ix = Ix.streamOutlets then some (u.drainTail sub)
  else if ix = Ix.storeRequireSigned then some u.pointCopies
  else none

/-- A value that has passed its checks is taken: RWL values wait for their boundary (R148), user calibration is staged
(R123), DICT.VIEW belongs to the path (R361), every other value takes effect at once (R6). -/
def State.takeValue (s : State) (mgmt : Bool) (p : Param) (ix sub v : Nat) (busy : Bool) : State :=
  if ix = Ix.dictView then s.setPath mgmt { s.path mgmt with view := v }
  else if ix = Ix.calOffsetUser ∨ ix = Ix.calGainUser then { s with staged := tset s.staged (key ix sub) v }
  else if p.acc = .rwl then s.enqueue ix sub v
  else
    match s.valueEffect ix sub v busy with
    | some u => u
    | none => s.setPar ix sub v

/-- A value that has passed its checks is taken, with the trace of a dangerous parameter (R364) and the CONFIG record of a
changed one in the streams that are enabled (R24). -/
def State.acceptValue (s : State) (mgmt : Bool) (p : Param) (ix sub v : Nat) (busy : Bool) : State :=
  let s1 := (if p.danger then s.dangerTrace ix sub else s).takeValue mgmt p ix sub v busy
  if s1.anyStream ∧ tellsChange p ix sub ∧ s1.par ix sub ≠ s.par ix sub then s1.tellConfig s1.now ix sub v else s1

/-! ### Broadcasts (R348) -/

/-- The instances that a broadcast names: the lanes whose role uses the parameter, or every source. -/
def State.broadcastTargets (s : State) (p : Param) (ix : Nat) : List Nat :=
  if laneWide ix then (List.range 192).filter (s.roleUses ix) else (List.range (p.s1 + 1)).drop p.s0

/-- Why a broadcast is refused, and the instance that refuses it. -/
def State.broadcastFails (s : State) (p : Param) (ix v : Nat) (busy : Bool) : Option (WErr × Nat) :=
  let targets := s.broadcastTargets p ix
  if targets.isEmpty then some (.roleInvalid, 0)
  else
    let value := targets.findSome? (fun n =>
      match s.writeFails { p with acc := .rw } ix n v busy with
      | some e => some (e, n)
      | none => none)
    match value with
    | some x => some x
    | none =>
      if p.acc = .rwd then (targets.find? (fun n => s.ownerOn (ownerOf ix n))).map (fun n => (.ownerEnabled, n)) else none

/-- A refused broadcast is counted (R348). -/
def State.refuseBroadcast (s : State) (e : WErr) (ix n : Nat) : State :=
  let s1 := if e = .ownerEnabled then s.cnt Ix.dictBroadcastRefused 0 else s
  s1.refuseWrite e ix n

end Sys2Proof.Machine
end

