-- ==== Sys2Proof/Machine/Store.lean ====
section
/-! DEFINITION. The configuration store: copies, SAVE, LOAD, retention refresh (18_store_firmware_security.md R417 to
R427).

Readings and choices here: DEDUCED log 60, log 61, log 62; DESIGN CHOICE log 68, log 70. -/
namespace Sys2Proof.Machine

/-! ### What a copy holds (R418, R421) -/

/-- A SAVE stores the parameter of a key: class RW, RWD or RWL, not dangerous, not DICT.VIEW, not a DOMAIN. -/
def storable (k : Nat) : Bool :=
  match paramOf (k / 256) with
  | some p => (decide (p.acc = .rw) || decide (p.acc = .rwd) || decide (p.acc = .rwl)) && !p.danger
      && decide (k / 256 ≠ Ix.dictView) && decide (p.ty ≠ .domain)
  | none => false

/-- Values as they read, RWL ones by their latest accepted value (R355). -/
def State.latestTable (s : State) : Tbl Nat :=
  let lanes (c : Change) : List Nat :=
    if laneWide c.ix && decide (c.sub = 255) then (List.range 192).filter (s.roleUses c.ix) else [c.sub]
  let q := s.cw.queue.foldl (fun t c => (lanes c).foldl (fun u n => tset u (key c.ix n) c.val) t) s.dict
  s.staged.foldl (fun t (x : Nat × Nat) => tset t x.1 x.2) q

/-- The values that a SAVE stores, by key: those that differ from their defaults (R421). -/
def State.savedTable (s : State) : Tbl Nat :=
  s.latestTable.filter (fun (x : Nat × Nat) => storable x.1 && decide (x.2 ≠ dfltOf x.1))

/-- Values of consecutive instances stand together in one record of at most 255 (R375). -/
def groupRuns : Tbl Nat → List (Nat × List Nat)
  | [] => []
  | (k, v) :: t =>
    match groupRuns t with
    | (j, vs) :: r => if j = k + 1 ∧ j / 256 = k / 256 ∧ vs.length < 255 then (k, v :: vs) :: r else (k, [v]) :: (j, vs) :: r
    | [] => [(k, [v])]

/-- Slots per value of an index. -/
def wordsOfIx (ix : Nat) : Nat :=
  match paramOf ix with
  | some p => p.ty.words
  | none => 1

/-- PADDR of R375. -/
def paddr (ix sub count : Nat) : Word := w32 (ix % 65536 * 65536 + sub % 256 * 256 + count % 256)

/-- A record of the body: PADDR and its values (R418). -/
def recordWords (r : Nat × List Nat) : List Word :=
  paddr (r.1 / 256) (r.1 % 256) r.2.length :: r.2.flatMap (wordsOf (wordsOfIx (r.1 / 256)))

/-- The record of a master key slot: PADDR, byte length, bytes padded to words (R418). -/
def keyRecord (x : Nat × List Byte) : List Word :=
  paddr (Ix.secMasterKey + x.1) 0 1 :: w32 x.2.length :: wordsOfBytes x.2

/-- The body that a SAVE writes now, in ascending order, and its records. -/
def State.saveBody (s : State) : List Word × Nat :=
  let lo := groupRuns (s.savedTable.filter (fun (x : Nat × Nat) => decide (x.1 < Ix.secMasterKey * 256)))
  let hi := groupRuns (s.savedTable.filter (fun (x : Nat × Nat) => decide (Ix.secMasterKey * 256 ≤ x.1)))
  let ks := s.nv.masterKeys.filter (fun (x : Nat × List Byte) => decide (x.2 ≠ []))
  (lo.flatMap recordWords ++ ks.flatMap keyRecord ++ hi.flatMap recordWords, lo.length + ks.length + hi.length)

/-! ### Reading a body -/

/-- A record of a body: index, first sub-index, its values, or the bytes of a DOMAIN. -/
structure BodyRec where
  ix : Nat
  sub : Nat
  vals : List Nat
  bytes : Option (List Byte)
  deriving DecidableEq, Repr

/-- `n` values of `k` words each. -/
def takeValues (k : Nat) : Nat → List Word → List Nat
  | 0, _ => []
  | n + 1, ws => ofWords (ws.take k) :: takeValues k n (ws.drop k)

/-- The records of a body, in order; `fuel` bounds their number. -/
def parseBody : Nat → List Word → List BodyRec
  | 0, _ => []
  | _ + 1, [] => []
  | fuel + 1, w :: ws =>
    let ix := w.toNat / 65536
    let sub := fld w.toNat 15 8
    let n := w.toNat % 256
    if wordsOfIx ix = 0 then
      match ws with
      | l :: rest =>
        let k := (l.toNat + 3) / 4
        ⟨ix, sub, [], some ((bytesOfWords (rest.take k)).take l.toNat)⟩ :: parseBody fuel (rest.drop k)
      | [] => []
    else
      let k := wordsOfIx ix * n
      ⟨ix, sub, takeValues (wordsOfIx ix) n (ws.take k), none⟩ :: parseBody fuel (ws.drop k)

/-- The records of a copy. -/
def Copy.records (c : Copy) : List BodyRec := parseBody (c.body.length + 1) c.body

/-- The value that a copy stores for an instance. -/
def Copy.value (c : Copy) (ix sub : Nat) : Option Nat :=
  c.records.findSome? (fun r => if r.ix = ix ∧ r.sub ≤ sub then r.vals[sub - r.sub]? else none)

/-! ### SAVE (R421 to R424) -/

/-- The abort codes of the store and the firmware (R385 Table 5, block 0xB0). -/
def abBusy : Nat := 0x05B00003
def abTooSoon : Nat := 0x06B00001
def abWear : Nat := 0x06B00002
def abNoCopy : Nat := 0x06B00003
def abCopySig : Nat := 0x06B00004
def abLoadRefused : Nat := 0x06B00005

/-- The writes that a region is rated for (R424). -/
def State.rating (s : State) (region : Nat) : Nat := 1600000 - 100000 * s.par Ix.storeSlotsRetired region

/-- The region is worn out. -/
def State.worn (s : State) (region : Nat) : Bool := decide (s.rating region ≤ s.par Ix.storeRegionWrites region)

/-- The first slot from `k` on, modulo 16, that is not retired. -/
def State.freeSlot (s : State) (region : Nat) : Nat → Nat → Nat
  | 0, k => k % 16
  | fuel + 1, k => if s.nv.retired.contains (16 * region + k % 16) then s.freeSlot region fuel (k + 1) else k % 16

/-- The region that a SAVE writes: the one that does not hold the current copy. -/
def State.saveRegion (s : State) : Nat :=
  match s.currentRegion with
  | some r => 1 - r
  | none => 0

/-- Why a SAVE cannot start (R422). -/
def State.saveRefused (s : State) : Option Nat :=
  if s.par Ix.storeState 0 ≠ 0 then some abBusy
  else if s.now < s.nv.lastCommit + s.par Ix.storeSaveInterval 0 * 256000000000 then some abTooSoon
  else if s.worn s.saveRegion then some abWear else none

/-- A slot is erased and its write begins; the write is counted (R424). -/
def State.writeSlot (s : State) (j : SaveJob) : State :=
  ({ s with nv := { s.nv with job := some j, copies := terase s.nv.copies (16 * j.region + j.slot) } }).setPar
    Ix.storeRegionWrites j.region (s.par Ix.storeRegionWrites j.region + 1)

/-- The slot after a region's newest valid copy, or slot 0 (R421). -/
def State.nextSlot (s : State) (region : Nat) : Nat :=
  s.freeSlot region 16 (match s.copyOf region with
    | some (k, _) => k + 1
    | none => 0)

/-- SEQ of the next copy: the current copy's and one more, or 1. -/
def State.nextSeq (s : State) : Nat :=
  match s.currentCopy with
  | some c => (c.seq + 1) % 2 ^ 32
  | none => 1

/-- A copy with the signature that its header asks for, by the device key (R418, R433). -/
def State.signCopy (s : State) (c : Copy) : Copy := { c with sig := if c.signed then deviceSign s.fresh c.digestBytes else [] }

/-- The copy that a SAVE writes (R421). A copy that holds a key is signed (R428). -/
def State.newCopy (s : State) (sign : Bool) : Copy :=
  let b := s.saveBody
  let keys := s.nv.masterKeys.any (fun (x : Nat × List Byte) => decide (x.2 ≠ []))
  s.signCopy ⟨s.nextSeq, sign || keys, keys, false, s.par Ix.idChipNum 0, s.par Ix.storeAge 0, s.par Ix.idFwVersion 0, b.2, b.1,
    true, true, []⟩

/-- The result of a store or firmware operation. -/
def State.result (s : State) (code : Nat) : State := s.setPar Ix.storeLastResult 0 code

/-- A SAVE is requested (R421, R422): the state, and the abort if it is refused. -/
def State.save (s : State) (sign : Bool) (reply : Option Reply) : State × Option Nat :=
  match s.saveRefused with
  | some a => (s.result a, some a)
  | none =>
    let r := s.saveRegion
    ((s.draw.writeSlot ⟨s.newCopy sign, r, s.nextSlot r, false, reply⟩).setPar Ix.storeState 0 1, none)

/-- A SAVE or a refresh ends. -/
def State.saveEnds (s : State) : State := ({ s with nv := { s.nv with job := none } }).setPar Ix.storeState 0 0

/-- COMMIT is programmed: the copy stands (R421, R443). -/
def State.commit (s : State) (j : SaveJob) : State :=
  let s1 := { s with nv := { s.nv with
    copies := tset s.nv.copies (16 * j.region + j.slot) j.copy
    lastCommit := s.now
    xaMult := j.copy.value Ix.clkXaMult 0 } }
  let s2 := if j.copy.refresh && decide (s.par Ix.storeState 0 = 5) then
      s1.setPar Ix.storeRefreshes 0 (s1.par Ix.storeRefreshes 0 + 1) else s1
  ((s2.saveEnds).result 0).pointCopies

/-- The read-back fails: the slot is retired (R422). -/
def State.retire (s : State) (j : SaveJob) : State :=
  ({ s with nv := { s.nv with retired := s.nv.retired ++ [16 * j.region + j.slot] } }).setPar
    Ix.storeSlotsRetired j.region (s.par Ix.storeSlotsRetired j.region + 1)

/-- The flash has erased, programmed and read back (R421, R422): the state, and what the requester is told: the sequence
number, or an abort. -/
def State.saveDone (s : State) (j : SaveJob) (ok : Bool) : State × Option (Nat × Bool) :=
  if ok then (s.commit j, some (j.copy.seq, true))
  else
    let s1 := s.retire j
    if j.retried || s1.worn j.region then (s1.saveEnds.result abWear, some (abWear, false))
    else (s1.writeSlot { j with slot := s1.freeSlot j.region 16 (j.slot + 1), retried := true }, none)

/-! ### LOAD (R427) -/

/-- The RWL enables (R354 Table 4). -/
def isEnable (ix : Nat) : Bool :=
  [Ix.timeServoEnable, Ix.laneEnable, Ix.guardEnable, 0x4010, 0x4020, Ix.biasEnable, Ix.toneEnable, Ix.pierRotEnable,
    Ix.keyEnable, Ix.keyArmed, Ix.keyCuEnable, Ix.vdInEnable, Ix.vdEnable, Ix.streamEnable, Ix.caiEnable].contains ix

/-- A record that LOAD skips: not described by the Index ROM, dangerous, or of a class that it never applies (R427). -/
def BodyRec.skipped (r : BodyRec) : Bool :=
  match paramOf r.ix with
  | some p =>
    !(decide (p.acc = .rw) || decide (p.acc = .rwd) || decide (p.acc = .rwl)) || p.danger || decide (r.sub < p.s0)
      || decide (p.s1 < r.sub + (max r.vals.length 1 - 1))
  | none => true

/-- A stored value is handled as a write on the dictionary path (R427). -/
def State.loadValue (s : State) (ix sub v : Nat) : State :=
  match paramOf ix with
  | some p =>
    let w := p.fit v
    match s.writeFails p ix sub w false with
    | some e => s.refuseWrite e ix sub
    | none => s.acceptValue true p ix sub w false
  | none => s

/-- The values of a record in order. -/
def State.loadVals (s : State) (ix : Nat) : Nat → List Nat → State
  | _, [] => s
  | sub, v :: vs => (s.loadValue ix sub v).loadVals ix (sub + 1) vs

/-- A record is applied, or skipped and counted; a master key only from a copy with KEYS and a valid signature. -/
def State.loadRecord (keys : Bool) (s : State) (r : BodyRec) : State :=
  if r.skipped then s.cnt Ix.storeLoadSkipped 0
  else
    match r.bytes with
    | some b =>
      if keys then { s with nv := { s.nv with masterKeys := tset s.nv.masterKeys (r.ix - Ix.secMasterKey) b } } else s
    | none => s.loadVals r.ix r.sub r.vals

/-- The copy stores a value for the key. -/
def Copy.names (c : Copy) (k : Nat) : Bool :=
  c.records.any (fun r => decide (r.ix = k / 256) && decide (r.sub ≤ k % 256) && decide (k % 256 < r.sub + max r.vals.length 1))

/-- One parameter returns to its default, by the way a value of its class takes effect. -/
def State.toDefault (s : State) (k : Nat) : State :=
  match paramOf (k / 256) with
  | some p => s.acceptValue true { p with flags := p.flags / 2 * 2 } (k / 256) (k % 256) (dfltOf k) false
  | none => s

/-- Step 1: what the copy omits, and every dangerous parameter, returns to its default (R364, R427). -/
def State.loadDefaults (s : State) (c : Copy) : State :=
  let danger (k : Nat) : Bool :=
    match paramOf (k / 256) with
    | some p => p.danger
    | none => false
  let omitted := s.latestTable.filter (fun (x : Nat × Nat) =>
    decide (x.2 ≠ dfltOf x.1) && (danger x.1 || (storable x.1 && !c.names x.1)))
  let keys := s.nv.masterKeys.filter (fun (x : Nat × List Byte) => c.names (key (Ix.secMasterKey + x.1) 0))
  (omitted.map Prod.fst).foldl State.toDefault { s with nv := { s.nv with masterKeys := keys } }

/-- Steps 1, 2 and 4 of LOAD. -/
def State.loadBody (s : State) (c : Copy) : State :=
  let rs := c.records.filter (fun r => !isEnable r.ix)
  rs.foldl (State.loadRecord (c.keys && c.sigOk)) (s.loadDefaults c)

/-- Step 3: the stored enables go to one release boundary (R149, R427). -/
def State.loadEnables (s : State) (c : Copy) : State :=
  (c.records.filter (fun r => isEnable r.ix)).foldl (State.loadRecord false) s

/-- Why LOAD is refused, or the copy that it applies: selector 0 current, 1 copy A, 2 copy B (R427). -/
def State.loadChoice (s : State) (sel : Nat) : Nat ⊕ Copy :=
  let busy := s.capturing || (List.range 24).any (fun p => decide (s.par Ix.caiEnable p = 1)) || decide (s.par Ix.fetchState 0 = 1)
  let chosen := match sel with
    | 0 => s.currentCopy
    | n => (s.copyOf (n - 1)).map Prod.snd
  let unsigned (r : Nat) : Bool := (s.regionNewest r (fun c => c.digestOk)).isSome
  let any := match sel with
    | 0 => unsigned 0 || unsigned 1
    | n => unsigned (n - 1)
  if busy then .inl abLoadRefused
  else if s.par Ix.storeState 0 ≠ 0 then .inl abBusy
  else match chosen with
    | some c => .inr c
    | none => .inl (if any then abCopySig else abNoCopy)

/-- LOAD (R427): the state, and the abort if it is refused. -/
def State.load (s : State) (sel : Nat) : State × Option Nat :=
  match s.loadChoice sel with
  | .inl a => (s.result a, some a)
  | .inr c => (((s.loadBody c).loadEnables c).result 0, none)

/-! ### Retention refresh (R425) -/

/-- The older of copies A and B and its region, where both exist; else the one there is. -/
def State.olderCopy (s : State) : Option Copy :=
  match s.copyOf 0, s.copyOf 1 with
  | some a, some b => some (if newer b.2.seq a.2.seq then a.2 else b.2)
  | some a, none => some a.2
  | none, some b => some b.2
  | none, none => none

/-- A refresh of the current copy begins if the older one is old enough and a SAVE could start (R425). -/
def State.refreshCopy (s : State) : State :=
  match s.olderCopy, s.currentCopy with
  | some o, some c =>
    if s.par Ix.storeAge 0 < o.writeAge + 87000 ∨ s.saveRefused.isSome then s
    else
      let r := s.saveRegion
      let n : Copy := { c with
        seq := s.nextSeq, refresh := true, chip := s.par Ix.idChipNum 0, writeAge := s.par Ix.storeAge 0, fwVersion := s.par Ix.idFwVersion 0 }
      (s.draw.writeSlot ⟨s.signCopy n, r, s.nextSlot r, false, none⟩).setPar Ix.storeState 0 5
  | _, _ => s

/-! ### Commands of the register path -/

/-- STORE.SAVE_CMD is written (R421). -/
def State.saveCmd (s : State) (sign : Bool) : State := (s.save sign none).1

/-- STORE_SAVE: 1 is written to STORE.SAVE_CMD. -/
def execStoreSave (t : Nat) (s : State) : Host.Outcome State Fault Refusal :=
  .next ((s.enter t).saveCmd false)

/-- STORE_SAVE_SIGNED: 3 is written to STORE.SAVE_CMD. -/
def execStoreSaveSigned (t : Nat) (s : State) : Host.Outcome State Fault Refusal :=
  .next ((s.enter t).saveCmd true)

/-- STORE_LOAD_CURRENT: 1 is written to STORE.LOAD_CMD. -/
def execStoreLoadCurrent (t : Nat) (s : State) : Host.Outcome State Fault Refusal :=
  .next ((s.enter t).load 0).1

/-- STORE_LOAD_A: 2 is written to STORE.LOAD_CMD. -/
def execStoreLoadA (t : Nat) (s : State) : Host.Outcome State Fault Refusal :=
  .next ((s.enter t).load 1).1

/-- STORE_LOAD_B: 3 is written to STORE.LOAD_CMD. -/
def execStoreLoadB (t : Nat) (s : State) : Host.Outcome State Fault Refusal :=
  .next ((s.enter t).load 2).1

end Sys2Proof.Machine
end

