-- ==== Sys2Proof/Machine/Firmware.lean ====
section
/-! DEFINITION. Firmware slots, staging, activation, confirmation, reverts, attestation, the powered hour
(18_store_firmware_security.md R425, R426, R428 to R435; 01 R14; 20 R463).

Readings and choices here: DEDUCED log 63. -/
namespace Sys2Proof.Machine

/-! ### Images (Table 4) -/

def State.fwSlot (s : State) (n : Nat) : FwSlot := tget {} s.nv.fw n
def State.setFw (s : State) (n : Nat) (f : FwSlot) : State := { s with nv := { s.nv with fw := tset s.nv.fw n f } }

/-- Word `i` of an image. -/
def fwWord (data : List Byte) (i : Nat) : Nat := ofBytes ((data.drop (4 * i)).take 4)

/-- VERSION and SEC_VERSION of an image. -/
def fwVersionOf (data : List Byte) : Nat := fwWord data 2
def fwSecOf (data : List Byte) : Nat := fwWord data 3 % 65536

/-- A read-only block of OTP: SEC.FW_KEY has 97 bytes, SEC.DEVICE_CERT at most 1,024, SEC.DEVICE_PUBKEY is the public half of the device
key (R433, R436). -/
def otpBlock (ix : Nat) : List Byte :=
  if ix = Ix.secDevicePubkey then devicePublic
  else if ix = Ix.secFwKey then bytesLE 97 (ofBytes (Config.otpDomain ix))
  else (Config.otpDomain ix).take 1024

/-- The image's measurement: SHA-384 of header and code. -/
def fwMeasure (data : List Byte) : Nat := sha384 (data.take (256 + fwWord data 4))

def abSegment : Nat := 0x01B00005
def abImageSig : Nat := 0x07B00001
def abRollback : Nat := 0x07B00002
def abNoImage : Nat := 0x07B00003
def abTooLarge : Nat := 0x07B00004

/-- The checks of R429 in order; `total` is what the transfer announced. A wrong MAGIC, FORMAT or total, and a wrong
CODE_DIGEST, are failed verifications. -/
def State.imageFails (s : State) (data : List Byte) (total : Nat) : Option Nat :=
  let code := (data.drop 256).take (fwWord data 4)
  let sig := (data.drop (256 + fwWord data 4)).take 96
  if fwWord data 0 ≠ 0x57464845 ∨ fwWord data 1 / 65536 ≠ 1 ∨ total ≠ 256 + fwWord data 4 + 96 ∨ data.length ≠ total then
    some abImageSig
  else if (data.drop 20).take 48 ≠ sha384Bytes code then some abImageSig
  else if !ecdsaVerifies (otpBlock Ix.secFwKey) (sha384Bytes (data.take 256)) sig then some abImageSig
  else if fwSecOf data < s.par Ix.fwFuseCount 0 then some abRollback else none

/-- The slot may run at start-up: committed, with an activation record, and it passes R429 (R430). -/
def State.fwBoots (s : State) (n : Nat) : Bool :=
  let f := s.fwSlot n
  f.committed && f.act.isSome && (s.imageFails f.data f.data.length).isNone

/-- The slot that start-up runs: the newest activation that passes, else the other (R430). -/
def State.bootSlot (s : State) : Option Nat :=
  match s.fwBoots 0, s.fwBoots 1 with
  | true, true => some (if newer ((s.fwSlot 1).act.getD 0) ((s.fwSlot 0).act.getD 0) then 1 else 0)
  | true, false => some 0
  | false, true => some 1
  | false, false => none

/-- FW.VERSION and FW.SEC_VERSION follow the slots. -/
def State.fwReport (s : State) : State :=
  [0, 1].foldl (fun (u : State) n =>
    let f := u.fwSlot n
    (u.setPar Ix.fwVersion n (if f.committed then fwVersionOf f.data else 0)).setPar Ix.fwSecVersion n
      (if f.committed then fwSecOf f.data else 0)) s

/-- The management processor starts (R434). -/
def State.bootCounted (s : State) : State := s.setPar Ix.storeBootCount 0 (s.par Ix.storeBootCount 0 + 1)

/-- The image of a slot runs. -/
def State.runImage (s : State) (n : Nat) : State :=
  let s1 := { s with nv := { s.nv with running := true, fwSince := s.now, expiries := 0 } }
  (s1.setPar Ix.fwActiveSlot 0 n).setPar Ix.idFwVersion 0 (fwVersionOf (s.fwSlot n).data)

/-- The activation number above that of the active slot; 1 where no slot has one. -/
def State.nextAct (s : State) : Nat :=
  match (s.fwSlot (s.par Ix.fwActiveSlot 0)).act with
  | some a => (a + 1) % 2 ^ 32
  | none => 1

/-- The management processor restarts: sessions end, its transfers and its store operation are lost, its crossing is
initialised again (R14, R377, R414). -/
def State.mpRestart (s : State) (inFlight hanging : Nat) : State :=
  let s1 := (s.endSessions).crossingReset inFlight hanging
  { s1 with nv := { s1.nv with job := none, stage := none } }.setPar Ix.storeState 0 0

/-! ### Staging and activation (R429, R430) -/

/-- The slot that is not active. -/
def State.otherSlot (s : State) : Nat := 1 - s.par Ix.fwActiveSlot 0

/-- A failed firmware operation. -/
def State.fwFails (s : State) (code : Nat) : State × Option Nat :=
  ((({ s with nv := { s.nv with stage := none } }.setPar Ix.storeState 0 0).setPar Ix.fwState 0 0).result code, some code)

/-- The last segment has come: the image is checked and committed (R429). -/
def State.stageEnd (s : State) (total : Nat) : State × Option Nat :=
  let n := s.otherSlot
  let f := s.fwSlot n
  match s.imageFails f.data total with
  | some a => s.fwFails a
  | none =>
    let s1 := s.setFw n { f with committed := true, writeAge := s.par Ix.storeAge 0 }
    let s2 := { s1 with nv := { s1.nv with stage := none } }
    (((s2.fwReport).setPar Ix.storeState 0 0).setPar Ix.fwState 0 1 |>.result 0, none)

/-- A segment of FW_STAGE (R375, R429): the segment at offset 0 erases the slot. A broken order is refused. -/
def State.stageSegment (s : State) (last : Bool) (off total : Nat) (bytes : List Byte) : State × Option Nat :=
  if 4190208 < total then (s.result abTooLarge, some abTooLarge)
  else if off = 0 then
    if s.par Ix.storeState 0 ≠ 0 ∧ s.par Ix.storeState 0 ≠ 3 then (s.result abBusy, some abBusy)
    else
      let s1 := (((s.setFw s.otherSlot { data := bytes }).fwReport).setPar Ix.storeState 0 3).setPar Ix.fwState 0 0
      let s2 := { s1 with nv := { s1.nv with stage := some (bytes.length, total) } }
      if last then s2.stageEnd total else (s2, none)
  else
    match s.nv.stage with
    | some (next, tot) =>
      if off ≠ next ∨ total ≠ tot ∨ tot < off + bytes.length then (s.result abSegment, some abSegment)
      else
        let f := s.fwSlot s.otherSlot
        let s1 := s.setFw s.otherSlot { f with data := f.data ++ bytes }
        let s2 := { s1 with nv := { s1.nv with stage := some (next + bytes.length, tot) } }
        if last then s2.stageEnd total else (s2, none)
    | none => (s.result abSegment, some abSegment)

/-- Why FW_ACTIVATE is refused (R430). -/
def State.activateRefused (s : State) (version : Nat) : Option Nat :=
  if s.par Ix.storeState 0 ≠ 0 then some abBusy
  else if s.par Ix.fwState 0 = 1 ∧ fwVersionOf (s.fwSlot s.otherSlot).data = version then none else some abNoImage

/-- What FW_ACTIVATE does after its response (R430). -/
def State.activate (s : State) (inFlight hanging : Nat) : State :=
  let n := s.otherSlot
  let f := s.fwSlot n
  match s.imageFails f.data f.data.length with
  | some a => (s.result a).setPar Ix.fwState 0 0
  | none =>
    let s1 := ((s.setFw n { f with act := some s.nextAct, confirm := false }).mpRestart inFlight hanging).runImage n
    ((s1.bootCounted).setPar Ix.fwState 0 2).result 0

/-! ### The commands of the processor -/

/-- The third expiry before confirmation: the previous slot runs again (R432). -/
def State.revert (s : State) : State :=
  let n := s.otherSlot
  let s1 := (s.setFw n { s.fwSlot n with act := some s.nextAct }).runImage n
  (s1.setPar Ix.fwReverts 0 (s1.par Ix.fwReverts 0 + 1)).setPar Ix.fwState 0 4

/-- WATCHDOG_EXPIRY: the processor restarts from the active slot (R14); an unconfirmed image's third expiry reverts it
(R432), where the previous slot holds an image that passes. -/
def execWatchdogExpiry (t inFlight hanging : Nat) (s : State) : Host.Outcome State Fault Refusal :=
  let s1 := s.enter t
  if s1.par Ix.startStep 0 ≤ 5 then .next s1
  else
    let s2 := (s1.mpRestart inFlight hanging).bootCounted
    if s2.par Ix.fwState 0 = 2 then
      let n := s2.nv.expiries + 1
      let prev := s2.fwSlot s2.otherSlot
      if 3 ≤ n ∧ prev.committed ∧ (s2.imageFails prev.data prev.data.length).isNone then .next s2.revert
      else .next { s2 with nv := { s2.nv with expiries := n, fwSince := s2.now } }
    else .next s2

/-- FW_CONFIRM: an unconfirmed image has run FW.CONFIRM_TIME without an expiry; the fuses rise to its security version, 256
at most (R431, R432). -/
def execFwConfirm (t : Nat) (s : State) : Host.Outcome State Fault Refusal :=
  let s1 := s.enter t
  if s1.par Ix.fwState 0 = 2 ∧ s1.nv.fwSince + s1.par Ix.fwConfirmTime 0 * 256000000000 ≤ s1.now then
    let n := s1.par Ix.fwActiveSlot 0
    let f := s1.fwSlot n
    let s2 := (s1.setFw n { f with confirm := true }).setPar Ix.fwState 0 3
    .next (s2.setPar Ix.fwFuseCount 0 (max (s2.par Ix.fwFuseCount 0) (min (fwSecOf f.data) 256)))
  else .next s1

/-- The active image is copied into the other slot, which becomes the active one (R426). -/
def State.refreshFw (s : State) : State :=
  let f := s.fwSlot (s.par Ix.fwActiveSlot 0)
  let st := s.par Ix.fwState 0
  if s.nv.running && f.confirm && decide (f.writeAge + 43500 ≤ s.par Ix.storeAge 0) && decide (st ≠ 1) && decide (st ≠ 2)
      && decide (s.par Ix.storeState 0 = 0) then
    let n := s.otherSlot
    let s1 := s.setFw n { f with act := some s.nextAct, writeAge := s.par Ix.storeAge 0 }
    ((s1.setPar Ix.fwActiveSlot 0 n).fwReport).setPar Ix.storeRefreshes 0 (s1.par Ix.storeRefreshes 0 + 1)
  else s

/-- The temperature band of an hour's mean junction temperature in m°C (R463). -/
def tjBand (mean : Int) : Nat := min 29 ((mean + 40000) / 5000).toNat

/-- The weight of a band (R463). -/
def tjWeight (b : Nat) : Nat := if b ≤ 24 then 1 else if b ≤ 26 then 2 else 4

/-- AGE_HOUR: another powered hour, with its mean junction temperature in m°C; the retention checks follow (R425, R426,
R463). -/
def execAgeHour (t : Nat) (mean : Int) (s : State) : Host.Outcome State Fault Refusal :=
  let s1 := s.enter t
  let b := tjBand mean
  let s2 := s1.setPar Ix.storeAge 0 (s1.par Ix.storeAge 0 + 1)
  let s3 := s2.setPar Ix.diagTjHours b (s2.par Ix.diagTjHours b + 1)
  let s4 := s3.setPar Ix.diagLifeUsed 0 (s3.par Ix.diagLifeUsed 0 + tjWeight b)
  .next s4.refreshCopy.refreshFw

/-! ### Attestation (R435) -/

/-- DIGEST of the configuration in force: with the header of the current copy, so that it equals STORED_DIGEST when the
bodies are equal; with a new copy's header where there is none. -/
def State.runningDigest (s : State) : Nat :=
  let b := s.saveBody
  match s.currentCopy with
  | some c => { c with body := b.1, count := b.2 : Copy }.digest
  | none => (s.newCopy false).digest

/-- Words W0 to W67 of the report (Table 5). -/
def State.reportWords (s : State) (nonce : List Word) : List Word :=
  let run := s.fwSlot (s.par Ix.fwActiveSlot 0)
  let other := s.fwSlot s.otherSlot
  let serial := s.par Ix.idSerial 0
  [w32 (65536 + 368), w32 (s.par Ix.idChipNum 0 * 65536), w32 serial, w32 (serial / 2 ^ 32)] ++ nonce.take 8
    ++ [w32 s.now, w32 (s.now / 2 ^ 32), w32 (s.time.quality.code * 256 + s.now / 2 ^ 64 % 256),
      w32 (s.par Ix.storeBootCount 0), w32 ((if s.nv.running then fwSecOf run.data else 0) * 65536 + s.par Ix.fwFuseCount 0 % 512),
      w32 (s.par Ix.idFwVersion 0)]
    ++ wordsOf 12 (if s.nv.running then fwMeasure run.data else 0)
    ++ wordsOf 12 (if other.committed then fwMeasure other.data else 0)
    ++ wordsOf 12 (match s.currentCopy with | some c => c.digest | none => 0)
    ++ wordsOf 12 s.runningDigest
    ++ [w32 (match s.currentCopy with | some c => c.seq | none => 0), w32 (s.par Ix.dictDangerWrites 0)]

/-- The attestation report, signed by the device key (R435). -/
def State.attestation (s : State) (nonce : List Word) : List Word :=
  let ws := s.reportWords nonce
  ws ++ wordsOfBytes (deviceSign s.fresh (sha384Bytes (bytesOfWords ws)))

end Sys2Proof.Machine
end

