-- ==== Sys2Proof/Machine/Startup.lean ====
section
/-! DEFINITION. Resets and the start-up sequence (19_start_up.md R438 to R451).

Readings and choices here: DESIGN CHOICE log 9, log 10; DEDUCED log 11, log 12, log 15, log 40, log 62, log 81, log 83. -/
namespace Sys2Proof.Machine

/-! ### Resets (R438, R439) -/

/-- What the boot record and OTP keep across a device reset (R436, R439, R463). -/
def survives (ix : Nat) : Bool :=
  [Ix.storeRegionWrites, Ix.storeSlotsRetired, Ix.storeAge, Ix.storeBootCount, Ix.storeRefreshes, Ix.fwReverts,
    Ix.fwFuseCount, Ix.diagTjHours, Ix.diagLifeUsed].contains ix

/-- A device reset: every parameter returns to its default, Garnet time to zero; the flash, the boot record and the fuses
stay, and so do the levels that the pins PERST_N and PGOOD show. -/
def State.deviceReset (s : State) (cause : Nat) : State :=
  let keep := s.dict.filter (fun (x : Nat × Nat) => survives (x.1 / 256))
  let r : State := {
    pending := s.pending, fresh := s.fresh, dict := keep
    nv := { copies := s.nv.copies, retired := s.nv.retired, xaMult := s.nv.xaMult, fw := s.nv.fw }
    host := { perst := s.host.perst }
    clk := { pgood := s.clk.pgood } }
  r.setPar Ix.startResetCause 0 cause

/-- The straps are sampled: START.STRAPS [0] FL_V18, [1] BOOT_NOCOPY, [3:2] XA_SEL (R442). -/
def State.sampleStraps (s : State) (straps : Nat) : State := s.setPar Ix.startStraps 0 straps

/-- POWER_ON: the supply comes or comes back; start-up begins at step 1 unless RESET_N is low (R438, R442). -/
def execPowerOn (_t : Nat) (resetN : Bool) (straps : Fin 16) (s : State) : Host.Outcome State Fault Refusal :=
  let s1 := s.deviceReset 0
  .next (if resetN then s1.sampleStraps straps else { s1 with resetHeld := true })

/-- RESET_N_ASSERT: RESET_N has been low for 10 µs (R438). -/
def execResetNAssert (_t : Nat) (s : State) : Host.Outcome State Fault Refusal :=
  .next { s.deviceReset 1 with resetHeld := true }

/-- RESET_N_RELEASE: RESET_N rises; the straps are sampled and step 1 begins (R442, R444). -/
def execResetNRelease (_t : Nat) (straps : Fin 16) (s : State) : Host.Outcome State Fault Refusal :=
  if s.resetHeld then .next ((s.deviceReset (s.par Ix.startResetCause 0)).sampleStraps straps) else .next { s with out := [] }

/-- While a reset is in force, and until the step of start-up that uses it begins, the DDR5 reset outputs are low, FL_CS_N is high and
the PCI Express transmitters are electrically idle (R440; DEDUCED, log 83: R440 names the end of step 7 for all pins, but step 5
reads the flash, step 6 trains the DRAM and the link trains from the end of step 4, R444, R450). -/
def State.ddrResetLow (s : State) : Bool := s.resetHeld || decide (s.par Ix.startStep 0 < 6)
def State.flashUnselected (s : State) : Bool := s.resetHeld || decide (s.par Ix.startStep 0 < 5)
def State.hostTxIdle (s : State) : Bool := s.resetHeld || decide (s.par Ix.startStep 0 < 5)

/-! ### Steps (R444) -/

/-- Step `n` ends with an outcome code and the next begins (R446). -/
def State.stepEnds (s : State) (n code : Nat) : State :=
  ((s.setPar (nth Ix.startStepEnd 9 (n - 1)) 0 (s.now % 2 ^ 72)).setPar Ix.startResult n code).setPar Ix.startStep 0 (n + 1)

/-- The parameters of an OTP record both of whose copies failed read 0 (R451): identity, keys (whose blocks are read by
`domainBytes`), calibration. -/
def otpGroup : Nat → List (Nat × Nat)
  | 0 => [(Ix.idOrderCode, 1), (Ix.idOrderName, 4), (Ix.idSerial, 1), (Ix.netMac, 1)]
  | 1 => []
  | _ => [(Ix.pierSliceOffset, 216), (Ix.pierSliceGain, 216), (Ix.calCfFactory, 48), (Ix.calRefFactory, 24)]
      ++ ((List.range 3).map (fun i => (Ix.calRinFactory + i, 48))) ++ ((List.range 5).map (fun i => (Ix.calOffsetFactory + i, 192)))
      ++ ((List.range 5).map (fun i => (Ix.calGainFactory + i, 192)))

/-- Set the instances of an OTP group to 0. -/
def State.otpFails (s : State) (g : Nat) : State :=
  let s1 := (otpGroup g).foldl (fun u (x : Nat × Nat) => (List.range x.2).foldl (fun w n => w.setPar x.1 n 0) u) s
  if g = 0 then s1.setPar Ix.netIp6Iid 0 0x020000FFFE000000 else s1

/-- Step 2 has read OTP; XA and XB start (R394, R444). -/
def State.endStep2 (s : State) (faults : Nat) : State :=
  let s1 := (setBits faults 3).foldl State.otpFails (s.setPar Ix.startOtpFaults 0 faults)
  ((s1.stepEnds 2 0).startSource 0).startSource 1

/-- Step 3 ends once XA is READY, or after its third failed start with XB READY (R444, R445). -/
def State.step3Over (s : State) : Bool := s.refReady .xa || (decide (3 ≤ s.par Ix.startXaRetries 0) && s.sourceReady 1)

/-- N of step 4: the one that the newest committed copy stores, else that of XA_SEL (R443). -/
def State.bootMult (s : State) : Nat :=
  match s.nv.xaMult with
  | some n => n
  | none => match fld (s.par Ix.startStraps 0) 3 2 with | 0 => 10 | 1 => 20 | 2 => 25 | _ => 40

/-- Step 4 begins: TPLL locks to XA, or to FRO after the failed starts (R443, R445). -/
def State.endStep3 (s : State) : State :=
  let code := if !s.refReady .xa then 2 else if s.par Ix.startXaRetries 0 ≠ 0 then 1 else 0
  let s0 := s.stepEnds 3 code
  let s1 := { s0 with clk := { s0.clk with mult := s0.bootMult } }
  if s1.refReady .xa then s1.lockTo .xa else (s1.setPar Ix.clkFallbackState 0 1).lockTo .fro

/-- Step 4 ends with TPLL and CPLL locked: the device is in IDLE, the host link trains (R444, R450). -/
def State.endStep4 (s : State) : State :=
  let s1 := ((s.stepEnds 4 0).setPar Ix.pwrState 0 1).froFollow
  if s1.host.perst then (s1.setPar Ix.hostLinkState 0 1).setGood 6 true else s1

/-- Step 5: the boot ROM selects the current copy and the firmware slot (R420, R430, R444, R447, R448). An image that is not
confirmed goes on as UNCONFIRMED. -/
def State.endStep5 (s : State) : State :=
  let s1 := (s.pointCopies.fwReport).bootCounted
  let s2 := match s1.bootSlot with
    | some n => (s1.runImage n).setPar Ix.fwState 0 (if (s1.fwSlot n).confirm then 0 else 2)
    | none => s1.setPar Ix.startMode 0 1
  match s2.currentRegion with
  | some r => (s2.setPar Ix.storeBootSource 0 r).stepEnds 5 0
  | none => (s2.setPar Ix.storeBootSource 0 2).stepEnds 5 2

/-- The copy that step 5 selected. -/
def State.bootCopy (s : State) : Option Copy :=
  if s.par Ix.storeBootSource 0 = 2 then none else (s.copyOf (s.par Ix.storeBootSource 0)).map Prod.snd

/-- A value of the selected copy, or the default (R279). -/
def State.bootValue (s : State) (ix sub : Nat) : Nat :=
  match s.bootCopy.bind (fun c => c.value ix sub) with
  | some v => v
  | none => dfltOf (key ix sub)

/-- The data rates of R277. -/
def memRate : Nat → Nat
  | 0 => 4800 | 1 => 5600 | 2 => 6400 | 3 => 7200 | _ => 8000

/-- Step 6: the DRAM is trained with the channels and at the rate it reached (R277, R279, R449). A configuration whose
capacity would exceed 128 GiB is not supported and is not trained: the step ends like one whose channels do not train (R277;
DEDUCED, log 81). -/
def State.endStep6 (s : State) (channels rate : Nat) : State :=
  let want := s.bootValue Ix.memCfgChannels 0
  let ch := min channels want
  let ranks := s.bootValue Ix.memCfgRanks 0
  let r := min (memRate rate) (s.bootValue Ix.memCfgSpeed 0)
  let size := ch * 2 * ranks * s.bootValue Ix.memCfgDensity 0 * 16384
  let code := if ch < want ∨ r < s.bootValue Ix.memCfgSpeed 0 then 2 else 0
  if ch = 0 ∨ 128 < want * 2 * ranks * s.bootValue Ix.memCfgDensity 0 then ((s.setPar Ix.memSize 0 0).setPar Ix.memState 0 0).stepEnds 6 2
  else
    let s1 := { s with dram := { s.dram with channels := ch, ranks := ranks, rate := r, passStart := s.now } }
    ((s1.setPar Ix.memSize 0 size).setPar Ix.memState 0 1).stepEnds 6 code

/-- The device and the piers take their boot states (R407, R447): without a copy IDLE and ASLEEP. Below WATCH the DRAM
goes into self-refresh (R279). -/
def State.bootPower (s : State) (t xbEdge sroEdge : Nat) : State :=
  let none_ := decide (s.par Ix.storeBootSource 0 = 2)
  let target (u : State) (p : Nat) : State := u.setPar Ix.pwrPierTarget p (if none_ then 0 else u.par Ix.pwrPierBoot p)
  let s1 := (List.range 24).foldl target s
  let s2 := s1.deviceTo t (if none_ then 1 else s1.par Ix.pwrBootState 0) xbEdge sroEdge
  if s2.par Ix.pwrState 0 ≤ 1 ∧ s2.par Ix.memState 0 = 1 then s2.setPar Ix.memState 0 2 else s2

/-- Step 7: the dictionary is loaded, the configuration space takes HOST.SUBSYS_ID and the size of BAR4; step 8 begins (R297, R427, R444). -/
def State.endStep7 (s : State) (t xbEdge sroEdge : Nat) : State :=
  let s1 := match s.bootCopy with
    | some c => s.loadBody c
    | none => s
  (s1.cfgLoad.stepEnds 7 0).bootPower t xbEdge sroEdge

/-- The changes that LOAD left queued wait for the boundary of the enables (R450). -/
def State.requeueBoot (s : State) : State :=
  let old := s.cw.queue
  old.foldl (fun (u : State) (c : Change) => u.enqueue c.ix c.sub c.val) { s with cw := { s.cw with queue := [] } }

/-- Step 8 ends with Jasper at its point: the copy's enables are queued (R444). -/
def State.endStep8 (s : State) : State :=
  let s1 := s.requeueBoot
  (match s1.bootCopy with
    | some c => s1.loadEnables c
    | none => s1).stepEnds 8 0

/-- Step 9 ends once the enables have taken effect; SAVE is allowed from STORE.SAVE_INTERVAL later (R422, R444). -/
def State.endStep9 (s : State) : State :=
  let s1 := s.stepEnds 9 0
  { s1 with nv := { s1.nv with lastCommit := s1.now } }

/-- START_UP_STEP_END: the step in progress ends, if what it waits for has come; a clock failure leaves it in progress until its
domains are released (R450). Measured in the step: the OTP records that
failed (step 2), the channels and the rate that trained (step 6), the stamps of the latest edges of XB and SRO (for a boot
state of DORMANT). -/
def execStartUpStepEnd (t : Nat) (faults : Fin 8) (channels : Fin 3) (rate : Fin 5) (xbEdge sroEdge : Nat) (s : State) :
    Host.Outcome State Fault Refusal :=
  let s1 := s.enter t
  if s1.resetHeld ∨ (5 ≤ s1.par Ix.startStep 0 ∧ !s1.runs 2) then .next s1
  else
    match s1.par Ix.startStep 0 with
    | 1 => .next (((s1.setReady 3 true).setGood 0 true).stepEnds 1 0)
    | 2 => .next (s1.endStep2 faults)
    | 3 => .next (if s1.step3Over then s1.endStep3 else s1)
    | 4 => .next (if s1.loopState 0 = 2 ∧ s1.loopState 1 = 2 ∧ s1.tpll then s1.endStep4 else s1)
    | 5 => .next s1.endStep5
    | 6 => .next (s1.endStep6 channels rate)
    | 7 => .next (s1.endStep7 s1.now xbEdge sroEdge)
    | 8 => .next (if s1.clk.dvfs = .steady ∧ s1.par Ix.clkJasperNow 0 = s1.jasperGoal then s1.endStep8 else s1)
    | 9 => .next (if s1.cw.queue.isEmpty then s1.endStep9 else s1)
    | _ => .next s1

end Sys2Proof.Machine
end

