-- ==== Sys2Proof/Machine/Writes.lean ====
section
/-! DEFINITION. Writes of the dictionary on either path: commands, checks, slow slots, broadcasts, triplicated fields
(15_dictionary_registers.md R348, R352 to R354, R360, R362; 12 R291, R292).

Readings and choices here: DEDUCED log 37, log 39, log 56, log 81, log 84; DESIGN CHOICE log 68. -/
namespace Sys2Proof.Machine

/-! ### WO commands -/

/-- A WO command that takes effect at a release boundary (R354). -/
def boundaryCommand (ix : Nat) : Bool := [Ix.caResetCmd, Ix.ca1ResetCmd, Ix.calUserCommit, Ix.spanRestart].contains ix

/-- A write of 1 to SPAN.RESTART of a stream: ignored and counted unless it is STOPPED (R246). -/
def State.restartRequest (s : State) (n : Nat) : State :=
  if s.par Ix.streamState n = 2 then s.enqueue Ix.spanRestart n 1 else s.ownerReject Ix.spanRestart n

/-- Commands of the time base, the lanes, the piers, the lines and the streams. -/
def State.commandA (s : State) (ix sub v : Nat) : Option State :=
  if ix = Ix.spanRestart then some (s.restartRequest sub)
  else if boundaryCommand ix then some (s.enqueue ix sub v)
  else if ix = Ix.timeLoadCmd then some s.loadCmd
  else if ix = Ix.guardSafeRelease then some (s.releaseRequest .guard sub)
  else if ix = Ix.guardSafeAll then some (s.safeEverything s.now true)
  else if ix = Ix.exSafeRelease then some (s.exRelease (2 * sub))
  else if ix = Ix.ex1SafeRelease then some (s.exRelease (2 * sub + 1))
  else if ix = Ix.pierSliceRetest then some (s.sliceRetest sub)
  else if ix = Ix.vdSafeRelease then some (s.releaseRequest .line sub)
  else if ix = Ix.streamFlush then some (s.streamFlush sub)
  else if ix = Ix.fetchCmd then some (if v = 1 then s.fetchStart else s.fetchAbort)
  else none

/-- Commands of the dictionary, the clocks, the power states and the store; `busy`: an access into what PWR.CMD would turn
off is outstanding. -/
def State.commandB (s : State) (ix sub v : Nat) (busy : Bool) : State :=
  if ix = Ix.dictSnapshot then s.requestSnapshot
  else if ix = Ix.pwrCmd then s.pwrCmd v busy
  else if ix = Ix.pwrPierCmd then s.pierCmd sub v busy
  else if ix = Ix.clkReturn then s.clkReturn
  else if ix = Ix.storeSaveCmd then s.saveCmd (decide (v = 3))
  else if ix = Ix.storeLoadCmd then (s.load (v - 1)).1
  else s

/-- A WO command is carried out. -/
def State.command (s : State) (ix sub v : Nat) (busy : Bool) : State :=
  match s.commandA ix sub v with
  | some u => u
  | none => s.commandB ix sub v busy

/-! ### One instance -/

/-- A write that has passed its checks takes effect. -/
def State.applyWrite (s : State) (mgmt : Bool) (p : Param) (ix sub v : Nat) (busy : Bool) : State :=
  if p.acc = .wo then s.command ix sub v busy else s.acceptValue mgmt p ix sub v busy

/-- A write is checked and takes effect, or is refused and counted. -/
def State.tryWrite (s : State) (mgmt : Bool) (p : Param) (ix sub v : Nat) (busy : Bool) : State :=
  match s.writeFails p ix sub v busy with
  | some e => s.refuseWrite e ix sub
  | none => s.applyWrite mgmt p ix sub v busy

/-- A write of the slot waits for the next slow-clock edge (R362): an Opal-owned slot, or one of an ASLEEP pier; an RWL
change and a boundary command keep their effective time. -/
def State.slowWrite (s : State) (p : Param) (ix sub : Nat) : Bool :=
  if p.acc = .rwl ∨ boundaryCommand ix then false
  else s.slowSlot p ix sub

/-- The write is held in the one-entry buffer of its slot; a later one replaces it (R362). -/
def State.holdWrite (s : State) (ix sub v : Nat) : State :=
  let keep := s.ds.slow.filter (fun (x : Nat × Nat × Nat) => !(decide (x.1 = ix) && decide (x.2.1 = sub)))
  { s with ds := { s.ds with slow := keep ++ [(ix, sub, v)] } }

/-- A write of the host port, whose checks are made as it is applied: at once, or at the next slow-clock edge. A value that is
taken stands over one of the management path in the same Jasper cycle (R16). -/
def State.putWrite (s : State) (p : Param) (ix sub v : Nat) (busy : Bool) : State :=
  if s.slowWrite p ix sub then (s.holdWrite ix sub v).noteHost ix sub
  else
    match s.writeFails p ix sub v busy with
    | some e => s.refuseWrite e ix sub
    | none => (s.applyWrite false p ix sub v busy).noteHost ix sub

/-- The host has written the slot in this Jasper cycle, and its value stands (R16); a command is carried out on either path,
and DICT.VIEW is each path's own. -/
def State.hostStands (s : State) (p : Param) (ix sub : Nat) : Bool :=
  decide (p.acc ≠ .wo) && decide (ix ≠ Ix.dictView) && s.hostSlots.contains (ix, sub)

/-- A write that has been checked on the dictionary path: at once, or at the next slow-clock edge, where it is checked
again. -/
def State.takeWrite (s : State) (p : Param) (ix sub v : Nat) (busy : Bool) : State :=
  if s.hostStands p ix sub then (if p.danger then s.dangerTrace ix sub else s)
  else if s.slowWrite p ix sub then s.holdWrite ix sub v else s.applyWrite true p ix sub v busy

/-- A held write is applied. -/
def State.applyHeld (busy : Bool) (s : State) (x : Nat × Nat × Nat) : State :=
  match paramAt x.1 x.2.1 with
  | some p => s.tryWrite true p x.1 x.2.1 x.2.2 busy
  | none => s

/-! ### Broadcasts (R348) -/

/-- One instance takes the value of a broadcast, without a record of its own. -/
def State.spread (p : Param) (ix v : Nat) (busy : Bool) (s : State) (n : Nat) : State :=
  if s.hostStands p ix n then s
  else if s.slowWrite p ix n then s.holdWrite ix n v
  else if p.acc = .wo then s.command ix n v busy else s.takeValue true p ix n v busy

/-- A broadcast enters the queue as one change; what the host has written to single lanes in the same Jasper cycle stands over
it (R16, R149). -/
def State.enqueueAll (s : State) (p : Param) (ix v : Nat) : State :=
  let own := ((s.hostSlots.filter (fun x => decide (x.1 = ix) && s.hostStands p ix x.2)).reverse).map (fun x => (x.2, s.latest ix x.2))
  own.foldl (fun (u : State) (x : Nat × Nat) => u.enqueue ix x.1 x.2) (s.enqueue ix 255 v)

/-- An accepted broadcast: one change of an RWL parameter or of a boundary command (R149); otherwise every instance takes the
value, and a dangerous parameter's trace is left once (R364) and one CONFIG record (R24, R220). -/
def State.acceptBroadcast (s : State) (p : Param) (ix v : Nat) (busy : Bool) : State :=
  let targets := s.broadcastTargets p ix
  let s1 := if p.danger then s.dangerTrace ix 255 else s
  if (p.acc = .rwl ∧ ix ≠ Ix.calOffsetUser ∧ ix ≠ Ix.calGainUser) ∨ boundaryCommand ix then s1.enqueueAll p ix v
  else
    let s2 := targets.foldl (State.spread p ix v busy) s1
    if s2.anyStream ∧ targets.any (fun n => tellsChange p ix n && decide (s2.par ix n ≠ s1.par ix n)) then s2.tellConfig s2.now ix 255 v else s2

/-! ### Triplicated fields (R291, R292) -/

/-- LANE.ROLE of a lane has been lost: the lane is OFF and disabled, with its two records (R292). -/
def State.roleLost (s : State) (lane : Nat) : State :=
  let s1 := s.roleSet lane 0
  let was := s1.laneOn lane
  let s2 := s1.setAt s1.now Ix.laneEnable lane 0
  if was then s2.laneDisable lane s2.now else s2.laneStateRecord lane s2.now

/-- A triplicated field takes the value that its copies give, with what follows from it (R291, R292). -/
def State.setField (s : State) (p : Param) (ix sub v : Nat) : State :=
  let on := decide (v ≠ 0)
  let was := decide (s.par ix sub ≠ 0)
  if ix = Ix.guardEnable then (s.setAt s.now ix sub v).outEnableEffect .guard sub on was
  else if ix = Ix.vdEnable then (s.setAt s.now ix sub v).outEnableEffect .line sub on was
  else
    match s.valueEffect ix sub v false with
    | some u => u
    | none => if p.acc = .rwl then s.setAt s.now ix sub v else s.setPar ix sub v

/-- A field whose three copies differ takes its default value (R292). -/
def State.fieldLost (s : State) (p : Param) (ix sub : Nat) : State :=
  let s1 := (s.cnt Ix.regTmrFatal 0).setPar Ix.regTmrFatalLast 0 (ix * 256 + sub)
  if ix = Ix.laneRole then s1.roleLost sub else s1.setField p ix sub (dfltOf (key ix sub))

/-- The three copies of a field are read, by a use or by the scrubber: the field takes what two of them give, the third is
rewritten and counted, and three that differ are a loss (R291, R292). -/
def State.vote (s : State) (p : Param) (ix sub c0 c1 c2 : Nat) : State :=
  if c0 ≠ c1 ∧ c1 ≠ c2 ∧ c0 ≠ c2 then s.fieldLost p ix sub
  else
    let v := if c1 = c2 then c1 else c0
    let s1 := if s.par ix sub = v then s else s.setField p ix sub v
    if c0 = c1 ∧ c1 = c2 then s1 else (s1.cntW Ix.regTmrCorrected 0 1).setPar Ix.regTmrLast 0 (ix * 256 + sub)

/-! ### The commands -/

/-- SLOW_WRITE_APPLY: an edge of the slow clock refreshes the copy of the slow slots and applies every write that waits for it
(R362): a read shows a written value from the next edge on. -/
def execSlowWriteApply (t : Nat) (busy : Bool) (s : State) : Host.Outcome State Fault Refusal :=
  let s0 := s.enter t
  let s1 := s0.refreshSlots
  if s0.clk.opalDead then .next s0 else .next (s1.ds.slow.foldl (State.applyHeld busy) { s1 with ds := { s1.ds with slow := [] } })

/-- TMR_SCRUB: the three copies of a triplicated field are read and compared (R291, R292). What the copies hold is the command's
to say (DESIGN CHOICE, log 81). -/
def execTmrScrub (t : Nat) (ix sub c0 c1 c2 : Nat) (s : State) : Host.Outcome State Fault Refusal :=
  let s1 := s.enter t
  match paramAt ix sub with
  | some p => if p.tmr ∧ (p.slow ∨ s1.runs 2) then .next (s1.vote p ix sub c0 c1 c2) else .next s1
  | none => .next s1

/-- DICT_SNAPSHOT: 1 is written to DICT.SNAPSHOT (R360). -/
def execDictSnapshot (t : Nat) (s : State) : Host.Outcome State Fault Refusal := .next (s.enter t).requestSnapshot

/-- SNAPSHOT_TAKE: the snapshot instant has come (R360). -/
def execSnapshotTake (t : Nat) (s : State) : Host.Outcome State Fault Refusal :=
  let s1 := s.enter t
  match s1.ds.snapAt with
  | some a => if a ≤ s1.now then .next (s1.takeSnapshot (if s1.tpll then a else s1.now)) else .next s1
  | none => .next s1

/-- CA_RESET_CMD: 1 is written to CA.RESET_CMD of an amplifier; the reset comes at the release boundary (R98, R354). -/
def execCaResetCmd (t : Nat) (a : Fin 48) (s : State) : Host.Outcome State Fault Refusal :=
  .next ((s.enter t).enqueue (caIx Ix.caResetCmd a) (a / 2) 1)

/-- CAL_USER_COMMIT: 1 is written to CAL.USER_COMMIT of a lane (R123, R354). -/
def execCalUserCommit (t : Nat) (lane : Fin 192) (s : State) : Host.Outcome State Fault Refusal :=
  let s1 := s.enter t
  match paramAt Ix.calUserCommit lane with
  | some p => .next (s1.tryWrite false p Ix.calUserCommit lane 1 false)
  | none => .next s1

/-- SPAN_RESTART: 1 is written to SPAN.RESTART of a stream (R246, R354). -/
def execSpanRestart (t : Nat) (n : Fin 8) (s : State) : Host.Outcome State Fault Refusal :=
  .next ((s.enter t).restartRequest n)

/-- SOURCE_SELECT_WRITE: a value of CLK.OPAL_SRC, or of SYNCE.REF_SELECT, is applied or refused (R31, R44, R392, R397). -/
def execSourceSelectWrite (t : Nat) (opal : Bool) (v : Nat) (s : State) : Host.Outcome State Fault Refusal :=
  let s1 := s.enter t
  let ix := if opal then Ix.clkOpalSrc else Ix.synceRefSelect
  match paramAt ix 0 with
  | some p => .next (s1.tryWrite false p ix 0 (p.fit v) false)
  | none => .next s1

/-- FORCE_SRC_WRITE: a value of CLK.FORCE_SRC, 0 Opal or 1 the reference, is applied (R364, R397). -/
def execForceSrcWrite (t : Nat) (sub : Fin 2) (v : Nat) (s : State) : Host.Outcome State Fault Refusal :=
  let s1 := s.enter t
  match paramAt Ix.clkForceSrc sub with
  | some p => .next (s1.tryWrite false p Ix.clkForceSrc sub (p.fit v) false)
  | none => .next s1

end Sys2Proof.Machine
end

