-- ==== Sys2Proof/Machine/ConfigEffect.lean ====
section
/-! DEFINITION. CONFIG_EFFECT: queued changes take effect at a release boundary (06_causeway.md R148 to R150; 03 R79; 04 R86,
R91; 05 R123, R128; 07 R162, R178, R179; 09 R231; 10 R242, R246).

Readings and choices here: DEDUCED log 23, log 39, log 40, log 58, log 59, log 71; DESIGN CHOICE log 78. -/
namespace Sys2Proof.Machine

/-! ### Refused enables -/

/-- A response that waits for a change refused by the route check at `e` tells so, with the item (R376). -/
def HeldResponse.mark (e ix sub : Nat) (later : Bool) (h : HeldResponse) : HeldResponse :=
  if h.conflict.isNone ∧ (h.due = e ∨ !later) then
    { h with conflict := h.slots.find? (fun (x : Nat × Nat × Nat) => decide (x.1 = ix) && decide (x.2.1 = sub)) }
  else h

/-- The route check refused the change of a slot, written under `sub` (R86, R376). -/
def State.routeConflict (s : State) (e ix sub : Nat) : State :=
  let later := s.cw.queue.any (fun c => decide (c.ix = ix) && decide (c.sub = sub))
  { s with net := { s.net with held := s.net.held.map (HeldResponse.mark e ix sub later) } }

/-- The enable of a lane, source, bias output or tone generator, after the route check of its pier with it switched on
(R86): the state, and whether it was accepted. `slot` is the sub-index that was written. -/
def State.routed (s : State) (e ix sub slot pier : Nat) (on : PierOn) (act : State → State) : State × Bool :=
  match s.routeCheck pier on with
  | some f => ((s.routeRefused pier f).routeConflict e ix slot, false)
  | none => (act (s.setAt e ix sub 1), true)

/-! ### Enables by owner -/

/-- LANE.ENABLE takes effect (R79, R86). -/
def State.laneSwitch (s : State) (e lane slot v : Nat) : State × Bool :=
  if v = 0 then ((s.setAt e Ix.laneEnable lane 0).laneDisable lane e, true)
  else
    let on := s.pierOn (lane / 8)
    s.routed e Ix.laneEnable lane slot (lane / 8) { on with lanes := on.lanes ++ [lane] } (fun u => u.laneEnable lane e)

/-- EX.ENABLE of source `k` takes effect (R86, R91). -/
def State.exSwitch (s : State) (e k v : Nat) : State × Bool :=
  let ix := exIx Ix.exEnable k
  if v = 0 then ((s.setAt e ix (k / 2) 0).exEnableEffect k false e, true)
  else
    let on := s.pierOn (k / 2)
    s.routed e ix (k / 2) (k / 2) (k / 2) { on with sources := on.sources ++ [k] } (fun u => u.exEnableEffect k true e)

/-- BIAS.ENABLE takes effect (R86, R96, R105). -/
def State.biasSwitch (s : State) (e p v : Nat) : State × Bool :=
  if v = 0 then ((s.setAt e Ix.biasEnable p 0).settleLanes (s.biasedLanes p) e, true)
  else s.routed e Ix.biasEnable p p p { s.pierOn p with bias := true } (fun u => u.settleLanes (u.biasedLanes p) e)

/-- TONE.ENABLE takes effect (R86, R103); a tone check that stops reports nothing further. -/
def State.toneSwitch (s : State) (e p v : Nat) : State × Bool :=
  if v = 0 then
    let u := s.setAt e Ix.toneEnable p 0
    ({ u with tone := u.tone.map (fun (x : Nat × ToneSt) => if x.1 = p then (x.1, { x.2 with due := 0 }) else x) }, true)
  else s.routed e Ix.toneEnable p p p { s.pierOn p with tone := true } id

/-- A pending load is cancelled by the enable of a stream or a sequencer (R53). -/
def State.stopLoad (s : State) : State := if s.time.load.isSome then s.cancelLoad else s

/-- KEY.CU_ENABLE takes effect (R162, R178). -/
def State.unitSwitch (s : State) (e u v : Nat) : State × Bool :=
  if v = 0 then ((s.setAt e Ix.keyCuEnable u 0).store (.ctl e (.unit u false)), true)
  else
    match s.unitFails u with
    | some r => (s.keyRefused 4 r 0xFF u 0xFF, false)
    | none => ((s.setAt e Ix.keyCuEnable u 1).store (.ctl e (.unit u true)), true)

/-- KEY.ENABLE takes effect (R178, R180). -/
def State.seqSwitch (s : State) (e k v : Nat) : State × Bool :=
  if v = 0 then (((s.setAt e Ix.keyEnable k 0).setPar Ix.keyArmed k 0).store (.ctl e (.seq k false)), true)
  else
    match s.seqFails k with
    | some f => (s.keyRefused k f.1 k f.2.1 f.2.2, false)
    | none => ((s.stopLoad.setAt e Ix.keyEnable k 1).store (.ctl e (.seq k true)), true)

/-- KEY.ARMED takes effect (R179): ignored and counted while the sequencer is DISABLED. -/
def State.armSwitch (s : State) (e k v : Nat) : State × Bool :=
  let was := s.par Ix.keyArmed k
  if s.par Ix.keyEnable k = 0 then (if v = 1 then s.cnt Ix.keyArmIgnored k else s, false)
  else ((s.setAt e Ix.keyArmed k v).store (.ctl e (.arm k (decide (v = 1)))), decide (was ≠ v))

/-- A Caisson's region is the device's from now on: what it holds the spec does not lay out. -/
def State.scribble (s : State) (r : Region) : State :=
  if r.size = 0 then s else { s with dram := { s.dram with scratch := s.dram.scratch ++ [(r.base, r.base + r.size)] } }

/-- CONFIG record of a value in force, for one stream alone (R151, R193, R231). -/
def State.tellStream (n e ix : Nat) (s : State) : State :=
  let k := ((paramOf ix).map (fun p => p.ty.words)).getD 1
  s.emitItem (.record (recConfig e ix 0 k (s.parAt e ix 0)) (some n))

/-- A stream begins at `e`, by an enable or a restart (R151, R193, R231, R246); an enable's own CONFIG record follows with the
change, a restart's is stored here. -/
def State.streamStarts (s : State) (e n : Nat) (restart : Bool) : State :=
  let s1 := ((s.setPar Ix.streamState n 1).setPar Ix.spanState n 0).store (.ctl e (.streamOn n restart))
  let s2 := ((s1.emitStart n e).tellStream n e Ix.actDelay).tellStream n e Ix.cwHorizon
  if restart then s2.emitItem (.record (recConfig e Ix.streamEnable n 1 1) (some n)) else s2

/-- A stream whose regions passed starts; one whose regions failed stays off: `r` is the verdict. -/
def streamRuns (e n : Nat) (r : State × Bool) : State × Bool :=
  if r.2 then (((r.1.stopLoad.setAt e Ix.streamEnable n 1).streamStarts e n false), true)
  else (r.1, false)

/-- STREAM.ENABLE takes effect (R231, R242). -/
def State.streamSwitch (s : State) (e n v : Nat) : State × Bool :=
  if v = 0 then
    (((s.setAt e Ix.streamEnable n 0).setPar Ix.streamState n 0).store (.ctl e (.streamOff n)), true)
  else
    streamRuns e n (s.streamRegions n)

/-- A Caisson whose region passed starts; one whose region failed stays off: `r` is the verdict. -/
def State.caiStarts (s : State) (e p : Nat) (r : State × Bool) : State × Bool :=
  if r.2 then (((r.1.setAt e Ix.caiEnable p 1).scribble (s.caiRegion p)).caiEnableEffect p true e, true) else (r.1, false)

/-- CAI.ENABLE takes effect (R242, Table 3 of 10). -/
def State.caiSwitch (s : State) (e p v : Nat) : State × Bool :=
  if v = 0 then ((s.setAt e Ix.caiEnable p 0).caiEnableEffect p false e, true)
  else
    s.caiStarts e p (s.caiRegions p)

/-- VD.IN_ENABLE takes effect (R165, R202): the line's level enters the source state table. -/
def State.lineInSwitch (s : State) (e n v : Nat) : State × Bool :=
  let src := 192 + n
  let u := s.setAt e Ix.vdInEnable n v
  if v = 0 then ((u.setRun src ((u.runOf src).stop e)).store (.ctl e (.src src none none)), true)
  else ((u.setRun src ((u.runOf src).begin_ e)).store (.ctl e (.src src (some (u.edgeOf src).input) none)), true)

/-! ### One change -/

/-- What follows from the new value of a parameter of the front end, the outputs and the servo. -/
def State.plainEffect (s : State) (e ix sub v old : Nat) : State :=
  if ix = Ix.guardEnable then s.outEnableEffect .guard sub (decide (v = 1)) (decide (old = 1))
  else if ix = Ix.vdEnable then s.outEnableEffect .line sub (decide (v = 1)) (decide (old = 1))
  else if ix = Ix.exLevel ∨ ix = Ix.exPolarity then s.exChange (2 * sub) e
  else if ix = Ix.ex1Level ∨ ix = Ix.ex1Polarity then s.exChange (2 * sub + 1) e
  else if ix = Ix.pierRotEnable ∧ v = 0 then s.overlapCancel sub e
  else if ix = Ix.timeServoEnable then s.servoEffect (decide (v = 1))
  else s

/-- The value `v` of one instance takes effect at `e`, written under the sub-index `slot`: the state, and whether the value
in force changed. -/
def State.takeChange (s : State) (e ix sub slot v : Nat) : State × Bool :=
  let old := s.par ix sub
  if ix = Ix.keyArmed then s.armSwitch e sub v
  else if old = v then (s, false)
  else if ix = Ix.laneEnable then s.laneSwitch e sub slot v
  else if ix = Ix.exEnable then s.exSwitch e (2 * sub) v
  else if ix = Ix.ex1Enable then s.exSwitch e (2 * sub + 1) v
  else if ix = Ix.biasEnable then s.biasSwitch e sub v
  else if ix = Ix.toneEnable then s.toneSwitch e sub v
  else if ix = Ix.keyCuEnable then s.unitSwitch e sub v
  else if ix = Ix.keyEnable then s.seqSwitch e sub v
  else if ix = Ix.streamEnable then s.streamSwitch e sub v
  else if ix = Ix.caiEnable then s.caiSwitch e sub v
  else if ix = Ix.vdInEnable then s.lineInSwitch e sub v
  else ((s.setAt e ix sub v).plainEffect e ix sub v old, true)

/-- No later change of the boundary writes the slot again: of several the last value stands (R149). -/
def State.stands (s : State) (later : List Change) (ix sub : Nat) : Bool := !later.any (fun d => s.covers d ix sub)

/-- An RWL change takes effect; a broadcast reaches every lane that uses the parameter and tells of it once (R149). `later`: the
changes of the same boundary that were accepted after it. -/
def State.rwlChange (s : State) (c : Change) (later : List Change) : State :=
  if laneWide c.ix ∧ c.sub = 255 then
    let r := ((List.range 192).filter (fun l => s.roleUses c.ix l && s.stands later c.ix l)).foldl (fun (u : State × Bool) l =>
      let x := u.1.takeChange c.eff c.ix l 255 c.val
      (x.1, u.2 || x.2)) (s, false)
    if r.2 then r.1.tellConfig c.eff c.ix 255 c.val else r.1
  else if s.stands later c.ix c.sub then
    let r := s.takeChange c.eff c.ix c.sub c.sub c.val
    if r.2 then r.1.tellConfig c.eff c.ix c.sub c.val else r.1
  else s

/-! ### Boundary commands (R354) -/

/-- One staged calibration value of a lane is applied (R123). DESIGN CHOICE, log 78: what is applied is what stands staged at the
boundary, a value staged after the write of CAL.USER_COMMIT with it. -/
def State.commitValue (e lane : Nat) (s : State) (ix : Nat) : State :=
  match tfind s.staged (key ix lane) with
  | some v =>
    let u := { s with staged := terase s.staged (key ix lane) }
    if u.par ix lane = v then u else (u.setAt e ix lane v).tellConfig e ix lane v
  | none => s

/-- CAL.USER_COMMIT of a lane (R123). -/
def State.calCommit (e : Nat) (s : State) (lane : Nat) : State :=
  [Ix.calOffsetUser, Ix.calGainUser].foldl (State.commitValue e lane) s

/-- CA.RESET_CMD of amplifier `a` (R98, R99); the accounting converter's readings, in the lane's raw unit. -/
def State.commandReset (s : State) (e a : Nat) (reads : List (Fin 48 × Int × Int)) : State :=
  match reads.find? (fun (x : Fin 48 × Int × Int) => decide (x.1.val = a)) with
  | some x => s.caCause a 2 e x.2.1 x.2.2
  | none => s.draw.draw.caCause a 2 e (Config.freeInt s.fresh) (Config.freeInt (s.fresh + 1))

/-- SPAN.RESTART: only a stopped stream restarts (R246). -/
def State.restartStream (s : State) (e n : Nat) : State :=
  if s.par Ix.streamState n = 2 then s.streamStarts e n true else s

/-- A boundary command takes effect. -/
def State.boundaryEffect (s : State) (c : Change) (reads : List (Fin 48 × Int × Int)) : State :=
  if c.ix = Ix.caResetCmd then s.commandReset c.eff (2 * c.sub) reads
  else if c.ix = Ix.ca1ResetCmd then s.commandReset c.eff (2 * c.sub + 1) reads
  else if c.ix = Ix.calUserCommit then
    (if c.sub = 255 then ((List.range 192).filter (s.roleUses c.ix)).foldl (State.calCommit c.eff) s
     else s.calCommit c.eff c.sub)
  else if c.ix = Ix.spanRestart then s.restartStream c.eff c.sub
  else s

/-! ### A boundary -/

/-- Changes of one boundary take effect together (R150): plain values, then disables, then enables with their checks, then
the arming of sequencers and the commands. -/
def Change.phase (c : Change) : Nat :=
  if boundaryCommand c.ix then 4
  else if c.ix = Ix.keyArmed then 3
  else if isEnable c.ix then (if c.val = 0 then 1 else 2) else 0

/-- Each change of a boundary with the ones accepted after it. -/
def withLater : List Change → List (Change × List Change)
  | [] => []
  | c :: t => (c, t) :: withLater t

/-- One change. -/
def State.changeEffect (reads : List (Fin 48 × Int × Int)) (s : State) (c : Change × List Change) : State :=
  if boundaryCommand c.1.ix then s.boundaryEffect c.1 reads else s.rwlChange c.1 c.2

/-- The changes of boundary `e`. -/
def State.boundary (reads : List (Fin 48 × Int × Int)) (s : State) (e : Nat) : State :=
  let mine := s.cw.queue.filter (fun c => decide (c.eff = e))
  let s1 := { s with cw := { s.cw with queue := s.cw.queue.filter (fun c => decide (c.eff ≠ e)) } }
  let inOrder := [0, 1, 2, 3, 4].flatMap (fun k => (withLater mine).filter (fun c => decide (c.1.phase = k)))
  inOrder.foldl (State.changeEffect reads) s1

/-- Put a number at its place in an ascending list, once. -/
def insertNat (a : Nat) : List Nat → List Nat
  | [] => [a]
  | b :: t => if a < b then a :: b :: t else if a = b then b :: t else b :: insertNat a t

/-- The boundaries that have come and hold changes, in order. -/
def State.boundariesDue (s : State) : List Nat :=
  ((s.cw.queue.filter (fun c => decide (c.eff ≤ s.now))).map Change.eff).foldr insertNat []

/-- CONFIG_EFFECT: a release boundary comes. Until step 8 of start-up has ended the loaded values of step 7 wait. -/
def execConfigEffect (t : Nat) (reads : List (Fin 48 × Int × Int)) (s : State) : Host.Outcome State Fault Refusal :=
  let s1 := s.enter t
  if s1.par Ix.startStep 0 ≤ 8 then .next s1 else .next (s1.boundariesDue.foldl (State.boundary reads) s1)

end Sys2Proof.Machine
end

