-- ==== Sys2Proof/Machine/Rom.lean ====
section
/-! DEFINITION. The attributes of the dictionary's entries and the Index ROM (15_dictionary_registers.md R343, R351, R352, R365,
R366).

Readings and choices here: DESIGN CHOICE log 33. -/
namespace Sys2Proof.Machine

/-! ### Units (R343 Table 1) -/

/-- Units of the parameter tables, part 1. -/
def units1 : List (Nat × String) := [
  (0x2006, "tick"), (0x2013, "µs"), (0x2014, "µs"), (0x2020, "µs"), (0x2021, "µs"), (0x2029, "ms"), (0x202D, "tick"),
  (0x2031, "ps"), (0x2032, "cycles"), (0x2034, "µs"), (0x2100, "tick"), (0x2103, "tick"), (0x2104, "tick"),
  (0x210A, "ns"), (0x210B, "ppm"), (0x210C, "tick"), (0x210D, "tick"), (0x2111, "1/256 tick"), (0x2115, "tick"),
  (0x2116, "2^−16 tick"), (0x2117, "2^−16 tick"), (0x2118, "tick"), (0x2120, "tick"), (0x2121, "tick"),
  (0x2122, "ns"), (0x2125, "tick"), (0x3010, "1.25 mV"), (0x3011, "1.25 mV"), (0x3012, "ns"), (0x3018, "entries"),
  (0x3021, "code"), (0x3022, "code"), (0x3023, "code"), (0x3045, "Ω"), (0x3046, "Ω"), (0x3055, "°C"),
  (0x3057, "Sample unit"), (0x3058, "ms"), (0x305C, "count"), (0x4014, "nA or µV"), (0x4016, "cycles"),
  (0x4019, "nA"), (0x4043, "1/256 FS"), (0x4044, "µs"), (0x4062, "cycles"), (0x4063, "µs"), (0x4071, "ms"),
  (0x4072, "µs"), (0x4073, "µV"), (0x407B, "count"), (0x5010, "µs"), (0x5022, "ns"), (0x5024, "tick"),
  (0x5210, "ns"), (0x5212, "slots"), (0x5213, "slots"), (0x5302, "ns"), (0x6000, "ns"), (0x6002, "entries"),
  (0x6003, "entries")]

/-- Units of the parameter tables, part 2. -/
def units2 : List (Nat × String) := [
  (0x6004, "tick"), (0x7000, "engines"), (0x7001, "frames"), (0x7018, "words"), (0x7020, "words"),
  (0x7100, "64 KiB"), (0x7101, "64 KiB"), (0x7103, "ms"), (0x7104, "µs"), (0x7107, "KiB"), (0x7108, "KiB"),
  (0x7201, "64 KiB"), (0x7222, "samples"), (0x7223, "samples"), (0x7300, "64 KiB"), (0x7301, "64 KiB"),
  (0x7320, "64 KiB"), (0x7321, "64 KiB"), (0x7381, "tick"), (0x7382, "tick"), (0x7400, "MT/s"), (0x7403, "Gb"),
  (0x7404, "64 KiB"), (0x7419, "symbols"), (0x7421, "ms"), (0x7422, "64 KiB"), (0x7430, "Topaz cycle"),
  (0x8001, "lanes"), (0x8003, "lanes"), (0x8014, "byte"), (0x801C, "byte"), (0x8028, "byte"), (0x802A, "byte"),
  (0x8032, "tick"), (0x8036, "requests"), (0x8043, "µs"), (0x8050, "byte"), (0x9005, "s"), (0x9204, "tick"),
  (0x9205, "tick"), (0x9206, "2^−40"), (0xA000, "x1 unit"), (0xA010, "count"), (0xA018, "x1 unit per count"),
  (0xA020, "F"), (0xA021, "Ω"), (0xA024, "V"), (0xB001, "s"), (0xB00A, "h"), (0xB025, "s"), (0xC002, "tick"),
  (0xC009, "tick"), (0xC021, "tick"), (0xC050, "°C"), (0xC051, "°C"), (0xC053, "h"), (0xC054, "h")]

/-- The unit of an entry, empty for none. The second source and the second amplifier of a pier have the layout of the first (R107). -/
def unitOf (ix : Nat) : String :=
  let i := if within ix 0x4020 0x402F ∨ within ix 0x4050 0x405F then ix - 16 else ix
  (tfind (units1 ++ units2) i).getD ""

/-! ### Owners as the ROM names them (R352, R366) -/

/-- OWNER_STATE: the index whose value tells whether the owner is disabled, 0 where none does. -/
def ownerState (ix : Nat) : Owner → Nat
  | .timeBase => Ix.cwState
  | .ppsIn => Ix.timePpsInMode
  | .ptp => Ix.timeServoEnable
  | .lane _ => Ix.laneEnable
  | .guard _ => Ix.guardEnable
  | .source _ => if within ix 0x4020 0x402F then Ix.ex1Enable else Ix.exEnable
  | .bias _ => Ix.biasEnable
  | .tone _ => Ix.toneEnable
  | .amp _ => 0
  | .rotation _ => Ix.pierRotEnable
  | .curve _ => 0
  | .causeway => Ix.cwState
  | .seq _ => Ix.keyState
  | .unit _ => Ix.keyCuEnable
  | .executor => Ix.actState
  | .lineIn _ => Ix.vdInEnable
  | .lineOut _ => Ix.vdEnable
  | .stream _ => Ix.streamState
  | .caisson _ => Ix.caiEnable
  | .fetch => Ix.fetchState
  | .window _ => Ix.winState
  | .host => 0
  | .other => 0

/-- SUB_KIND: 0 single, 1 lane, 2 pier, 3 source 0 to 200, 4 stream, 5 sequencer, 6 other. -/
def subKind (p : Param) (ix : Nat) : Nat :=
  if p.dedicated ∨ p.s1 = 0 then 0
  else if p.s0 = 0 ∧ p.s1 = 191 then 1
  else if p.s0 = 0 ∧ p.s1 = 23 then 2
  else if p.s0 = 0 ∧ p.s1 = 200 then 3
  else
    match ownerOf ix 0 with
    | .stream _ => 4
    | .seq _ => if p.s1 = 3 then 5 else 6
    | _ => 6

/-- The code of a type (R344 Table 2). -/
def Ty.code : Ty → Nat
  | .u8 => 0 | .u16 => 1 | .u32 => 2 | .i32 => 3 | .f32 => 4 | .u64 => 5 | .t72 => 6 | .bits => 7 | .string => 8 | .domain => 9

/-- The code of an access class (Table 7). -/
def Acc.code : Acc → Nat
  | .ro => 0 | .rw => 1 | .rwd => 2 | .rwl => 3 | .wo => 4 | .st => 5 | .cntS => 6 | .cntW => 7

/-- DEFAULT_LO, DEFAULT_HI, DEFAULT_TOP, MODULUS and DEFAULT_KIND: a list of defaults has no form in Table 7 but that of an
arithmetic one. -/
def Param.romDefault (p : Param) : Nat × Nat × Nat × Nat × Nat :=
  if p.acc = .wo then (0, 0, 0, 0, 3)
  else
    match p.dflt with
    | .const n => (n % 2 ^ 32, n / 2 ^ 32 % 2 ^ 32, n / 2 ^ 64 % 256, 0, 0)
    | .step b d m => (b, d, 0, m, 1)
    | .list [3, 2, 1, 0] => (3, 0xFFFFFFFF, 0, 0, 1)
    | .list _ => (0, 0, 0, 0, 3)
    | .otp => (0, 0, 0, 0, 2)
    | .eui64 => (0, 0, 0, 0, 2)

/-- Word `j` of the entry of an index that a parameter table describes (R366 Table 7); the places of its strings are the part's,
`open_`. -/
def romEntry (p : Param) (ix j open_ : Nat) : Nat :=
  let o := ownerOf ix p.s0
  let d := p.romDefault
  let wide := decide (1 < p.ty.words)
  match j with
  | 0 => ix * 65536 + p.s1 * 256 + p.s0
  | 1 =>
    p.ty.code * 2 ^ 28 + p.acc.code * 2 ^ 24 + b2n p.danger * 2 ^ 23 + b2n p.tmr * 2 ^ 22 + b2n p.bcast * 2 ^ 21
      + b2n p.slow * 2 ^ 20 + subKind p ix * 65536 + (if p.ty = .string then p.s1 + 1 else p.ty.words) * 256
      + b2n p.latchOnly * 128 + b2n p.hwm * 64
  | 2 => ownerState ix o * 65536 + (rejectIx o).1
  | 3 => d.1
  | 4 => d.2.1
  | 5 => d.2.2.2.1 * 65536 + d.2.2.1 * 256 + b2n (decide (o = .fetch)) * 4 + d.2.2.2.2
  | 6 => if wide then 0 else (p.lo % 2 ^ 32).toNat
  | 7 => if wide then 0xFFFFFFFF else (p.hi % 2 ^ 32).toNat
  | 8 => open_ % 2 ^ 32
  | 9 => open_ % 2 ^ 32
  | 10 => open_ % 2 ^ 32
  | _ => 0

/-- A word of an entry that no table of the spec describes: its reserved bits are zero (R5). -/
def romOther (j open_ : Nat) : Nat :=
  match j with
  | 1 => open_ % 2 ^ 32 &&& 0xFFFFFFC0
  | 5 => open_ % 2 ^ 32 &&& 0x00FFFF07
  | 11 => 0
  | _ => open_ % 2 ^ 32

/-- The entries that the tables describe, in ascending order of index. -/
def romRows : List (Param × Nat) :=
  (List.range 0xD0).flatMap (fun b => (paramBlock b).flatMap (fun p => (List.range (p.more + 1)).map (fun i => (p, p.ix + i))))

/-- The entry at place `i` of the table, where the tables describe it. The ROM holds 2,703 entries; how many that no table prints
stand before each printed one is the part's (DESIGN CHOICE, log 33). -/
def romAt : List (Param × Nat) → Nat → Nat → Option (Param × Nat)
  | [], _, _ => none
  | r :: rest, place, i =>
    let here := min (place + Config.romGap r.2) (2702 - rest.length)
    if i < here then none else if i = here then some r else romAt rest (here + 1) i

/-- A word of the Index ROM by its byte offset: the header (R365), the entries (R366), the strings, which are the part's. -/
def State.romWord (s : State) (off : Nat) : Nat :=
  match off with
  | 0x00 => 0x58494845
  | 0x04 => 0x00010030
  | 0x08 => 2703
  | 0x0C => 0x40
  | 0x10 => 0x1FB10
  | 0x18 => s.par Ix.idRomCrc 0
  | 0x1C => 2
  | _ =>
    if 0x20 ≤ off ∧ off < 0x40 then 0
    else if 0x40 ≤ off ∧ off < 0x1FB10 then
      let j := (off - 0x40) % 48 / 4
      match romAt romRows 0 ((off - 0x40) / 48) with
      | some r => romEntry r.1 r.2 j (Config.rom off)
      | none => romOther j (Config.rom off)
    else Config.rom off % 2 ^ 32

end Sys2Proof.Machine
end

