-- ==== Sys2Proof/Machine/Registers.lean ====
section
/-! DEFINITION. The host port's access to the dictionary, the Index ROM and BAR2 (13_host_port_mapping.md R301 to R305;
14 R317, R318, R339; 15 R346 to R350, R363, R365).

Readings and choices here: DEDUCED log 57. -/
namespace Sys2Proof.Machine

/-- A write that has no effect and is counted (R6, R302, R305, R363). -/
def State.ignored (s : State) : State := s.cnt Ix.hostBar0Ignored 0

/-! ### Slots (R347) -/

/-- The row that holds a slot: a latch-only or one-slot parameter by its sub-indices, a dedicated wide one by its words. -/
def slotParam (ix sub : Nat) : Option Param :=
  match paramAt ix sub with
  | some p => if p.ty = .domain then none else some p
  | none => none

/-- A word of a value. -/
def wordOf (v i : Nat) : Nat := v / 2 ^ (32 * i) % 2 ^ 32

/-! ### Reading a slot (R349) -/

/-- The read latch takes the upper words of a value, with its index. -/
def State.loadLatch (s : State) (mgmt : Bool) (ix v : Nat) : State :=
  s.setPath mgmt { s.path mgmt with readTag := ix, readW0 := wordOf v 1, readW1 := wordOf v 2 }

/-- A read of a slot on a path: the word, and what the read latches and counts. -/
def State.readSlot (s : State) (mgmt : Bool) (ix sub : Nat) : State × Nat :=
  match slotParam ix sub with
  | none => (s, 0)
  | some p =>
    if p.latchOnly then
      let v := s.readValue mgmt p ix sub
      (s.loadLatch mgmt ix v, wordOf v 0)
    else if p.dedicated then
      let v := s.readValue mgmt p ix 0
      let h := s.path mgmt
      if sub = 0 then (s.loadLatch mgmt ix v, wordOf v 0)
      else if h.readTag = ix then (s, if sub = 1 then h.readW0 else h.readW1)
      else (s.cnt Ix.dictUnlatched 0, wordOf v sub)
    else (s, s.readValue mgmt p ix sub % 2 ^ 32)

/-! ### Writing a slot (R302, R350, R363) -/

/-- The value that a write finds in a slot: one that waits for the slow clock, else what a read returns. -/
def State.oldValue (s : State) (p : Param) (ix sub : Nat) : Nat :=
  match s.ds.slow.find? (fun (x : Nat × Nat × Nat) => decide (x.1 = ix) && decide (x.2.1 = sub)) with
  | some x => x.2.2
  | none => s.liveRead false p ix sub

/-- A word with the enabled bytes of another. -/
def mergeBytes (old new be : Nat) : Nat :=
  let m := byteMask be
  (old &&& (0xFFFFFFFF ^^^ m)) ||| (new &&& m)

/-- The value that a write through an alias stores: 0 normal, 1 set, 2 clear, 3 toggle (R363). -/
def aliasValue (region old data be : Nat) : Nat :=
  let m := data &&& byteMask be
  match region with
  | 0 => mergeBytes old data be
  | 1 => old ||| m
  | 2 => old &&& (0xFFFFFFFF ^^^ m)
  | _ => old ^^^ m

/-- A word of a wide parameter is written (R350). -/
def State.writeWide (s : State) (p : Param) (ix k data be : Nat) (busy : Bool) : State :=
  let n := p.ty.words
  let h := if s.hostPath.writeTag = ix then s.hostPath else { s.hostPath with writeTag := ix, writeMask := 0 }
  let held (i : Nat) : Nat := if i = 0 then h.writeW0 else h.writeW1
  let old := if k + 1 < n ∧ bit h.writeMask k then held k else wordOf (s.oldValue p ix 0) k
  let w := mergeBytes old data be
  if k + 1 < n then
    let h1 := { h with writeMask := putBit h.writeMask k true }
    { s with hostPath := if k = 0 then { h1 with writeW0 := w } else { h1 with writeW1 := w } }
  else if s.hostPath.writeTag = ix ∧ s.hostPath.writeMask + 1 = 2 ^ (n - 1) then
    let low := h.writeW0 + (if n = 3 then h.writeW1 * 2 ^ 32 else 0)
    let s1 := { s with hostPath := { s.hostPath with writeTag := 0, writeMask := 0 } }
    s1.putWrite p ix 0 (p.fit (low + w * 2 ^ (32 * (n - 1)))) busy
  else s.cnt Ix.dictWideRefused 0

/-- A write of a slot through an alias region by the register path. -/
def State.writeSlotWord (s : State) (region ix sub data be : Nat) (busy : Bool) : State :=
  if be = 0 then s
  else
    match slotParam ix sub with
    | none => s.ignored
    | some p =>
      let fixed := decide (p.acc = .ro) || decide (p.acc = .st) || decide (p.acc = .cntS) || decide (p.acc = .cntW)
        || decide (p.ty = .string)
      let aliased := decide (region ≠ 0)
      if fixed || (aliased && (decide (p.acc = .wo) || decide (1 < p.ty.words) || p.danger)) then s.ignored
      else if p.dedicated then s.writeWide p ix sub data be busy
      else if p.acc = .rwd ∧ s.ownerOn (ownerOf ix sub) ∧ !s.slowWrite p ix sub then s.ownerReject ix sub
      else s.putWrite p ix sub (p.fit (aliasValue region (s.oldValue p ix sub) data be)) busy

/-! ### BAR0 (R301, R302) -/

/-- A DW of BAR0 as a read returns it. -/
def State.readBar0 (s : State) (off : Nat) : State × Nat :=
  let o := off % 0x4000000
  if 0x3800000 ≤ o ∧ (o < 0x3C00000 ∨ 0x4000000 ≤ off) then (s, 0)
  else if 0x3C00000 ≤ o then (s, s.romWord (o - 0x3C00000))
  else s.readSlot false (0x1000 + o / 1024) (o % 1024 / 4)

/-- A DW of BAR0 is written. -/
def State.writeBar0 (s : State) (off data be : Nat) (busy : Bool) : State :=
  let o := off % 0x4000000
  if be = 0 then s
  else if 0x3800000 ≤ o then s.ignored
  else s.writeSlotWord (off / 0x4000000) (0x1000 + o / 1024) (o % 1024 / 4) data be busy

/-! ### BAR2 (R304, R305, R317, R339) -/

/-- A word of a ring control block (Table 1). -/
def RingSt.word (r : RingSt) (o : Nat) : Nat :=
  match o with
  | 0x00 => r.base % 2 ^ 32
  | 0x04 => r.base / 2 ^ 32
  | 0x08 => b2n r.roData * 256 + r.sizeLog2
  | 0x0C => b2n r.enable
  | 0x10 => r.wb % 2 ^ 32
  | 0x14 => r.wb / 2 ^ 32
  | 0x18 => r.irqInterval * 65536 + r.idleClose
  | 0x1C => r.devPtr
  | 0x20 => r.hostPtr
  | 0x24 => r.hostSeen
  | 0x28 => r.state
  | 0x2C => r.rejected
  | 0x30 => r.descErrors
  | 0x34 => r.lastError
  | _ => 0

/-- An RWD word of a ring control block takes a value; reserved bits stay zero. -/
def RingSt.setWord (r : RingSt) (o v : Nat) : RingSt :=
  match o with
  | 0x00 => { r with base := r.base / 2 ^ 32 * 2 ^ 32 + v / 64 * 64 }
  | 0x04 => { r with base := v * 2 ^ 32 + r.base % 2 ^ 32 }
  | 0x08 => { r with roData := bit v 8, sizeLog2 := v % 32 }
  | 0x10 => { r with wb := r.wb / 2 ^ 32 * 2 ^ 32 + v / 8 * 8 }
  | 0x14 => { r with wb := v * 2 ^ 32 + r.wb % 2 ^ 32 }
  | _ => { r with irqInterval := v / 65536, idleClose := v % 65536 }

/-- A word of a ring control block is written. -/
def State.writeRing (s : State) (n o data be : Nat) : State :=
  let r := s.ringOf n
  let v := mergeBytes (r.word o) data be
  if o = 0x0C then (if v % 2 = 1 then s.ringEnable n else s.ringDisable n)
  else if [0x00, 0x04, 0x08, 0x10, 0x14, 0x18].contains o then
    (if r.enable then s.setRing n { r with rejected := min (r.rejected + 1) 0xFFFFFFFF } else s.setRing n (r.setWord o v))
  else s.ignored

/-- A word of the port control page (Table 8). -/
def State.portWord (s : State) (o : Nat) : Nat :=
  let t := s.par Ix.hostFreezeTime 0
  match o with
  | 0x00 => s.host.firstCause * 256 + 2 * b2n s.linkUp + b2n (!s.portRunning)
  | 0x04 => s.host.causes
  | 0x08 => wordOf t 0
  | 0x0C => wordOf t 1
  | 0x10 => wordOf t 2
  | _ => 0

/-- RELEASE is written (R339, R340). -/
def State.writeRelease (s : State) (v : Nat) : State :=
  if v = 0x5A01 then s.portResume else if v = 0x5A02 then s.portRestart else s.cnt Ix.hostReleaseRefused 0

/-- The ring whose block or doorbell page, from `base` on, an offset lies in, and the offset there. -/
def ringAt (base off : Nat) : Option (Nat × Nat) :=
  if base ≤ off ∧ off < base + 0x9000 then some ((off - base) / 0x1000, (off - base) % 0x1000) else none

/-- A DW of BAR2 as a read returns it. -/
def State.readBar2 (s : State) (off : Nat) : Nat :=
  match ringAt 0 off, ringAt 0x10000 off with
  | some (n, o), _ => (s.ringOf n).word o
  | none, some (n, o) => if o = 0 then (s.ringOf n).hostPtr else if o = 4 then (s.ringOf n).hostSeen else 0
  | none, none =>
    if within off 0x20000 0x20FFF then s.portWord (off - 0x20000)
    else if within off 0x30000 0x303FF then s.msixWord ((off - 0x30000) / 4)
    else if off = 0x38000 then (if s.irqMode = 3 then s.host.pba % 2 ^ 32 else 0)
    else if off = 0x38004 then (if s.irqMode = 3 then s.host.pba / 2 ^ 32 else 0)
    else 0

/-- A DW of BAR2 is written by requester `peer`. -/
def State.writeBar2 (s : State) (off data be peer : Nat) : State :=
  if be = 0 then s
  else
    match ringAt 0 off, ringAt 0x10000 off with
    | some (n, o), _ => s.writeRing n o data be
    | none, some (n, o) =>
      if o = 0 then s.bellHostPtr n (mergeBytes (s.ringOf n).hostPtr data be) peer
      else if o = 4 then s.bellHostSeen n (mergeBytes (s.ringOf n).hostSeen data be) peer
      else s.ignored
    | none, none =>
      if off = 0x20018 then s.writeRelease (mergeBytes 0 data be)
      else if within off 0x30000 0x303FF then
        s.msixWrite ((off - 0x30000) / 4) (mergeBytes (s.msixWord ((off - 0x30000) / 4)) data be)
      else s.ignored

/-! ### Requests -/

/-- The request stays in its block: 1 to 16 DW in 64 bytes for BAR0, 1 or 2 DW in 8 bytes for BAR2 (R302, R305). -/
def requestFits (bar off n : Nat) : Bool :=
  let block := if bar = 0 then 64 else 8
  decide (1 ≤ n) && decide (off % block + 4 * n ≤ block)

/-- The byte enables of DW `i` of `n`. -/
def dwEnables (n first last i : Nat) : Nat := if i = 0 then first else if i + 1 = n then last else 15

/-- The DWs of a write, in ascending address order. -/
def State.writeDws (s : State) (bar off : Nat) (ws : List Word) (first last peer : Nat) (busy : Bool) : State :=
  (ws.zipIdx).foldl (fun u (x : Word × Nat) =>
    let be := dwEnables ws.length first last x.2
    if bar = 0 then u.writeBar0 (off + 4 * x.2) x.1.toNat be busy else u.writeBar2 (off + 4 * x.2) x.1.toNat be peer) s

/-- A posted write to BAR0 or BAR2 reaches the port. -/
def State.hostWrite (s : State) (bar off : Nat) (ws : List Word) (first last : Nat) (tlp : Tlp) (busy : Bool) : State :=
  let o := off / 4 * 4
  if requestFits bar o ws.length then s.postedWrite tlp (fun u => u.writeDws bar o ws first last tlp.peer busy)
  else
    let r := s.memRequest true false tlp
    if r.2 then r.1.partnerFault 0 tlp.peer 2 bar else r.1

/-- The DWs of a read, in ascending address order; one with no byte enables reads zero and does nothing else (R302). -/
def State.readDws (s : State) (bar off first last n : Nat) : Nat → List Word → State × List Word
  | 0, acc => (s, acc.reverse)
  | k + 1, acc =>
    let i := n - (k + 1)
    if dwEnables n first last i = 0 then s.readDws bar off first last n k (0 :: acc)
    else if bar = 0 then
      let r := s.readBar0 (off + 4 * i)
      r.1.readDws bar off first last n k (w32 r.2 :: acc)
    else s.readDws bar off first last n k (w32 (s.readBar2 (off + 4 * i)) :: acc)

/-- Every DW of a BAR0 read is a slot of the Opal domain, which SAFE_HOLD still serves (R402). -/
def opalOwned (off n : Nat) : Bool :=
  (List.range n).all (fun i =>
    let o := (off + 4 * i) % 0x4000000
    match slotParam (0x1000 + o / 1024) (o % 1024 / 4) with
    | some p => p.slow && decide (o < 0x3800000)
    | none => false)

/-- A read reaches the port (R302, R305, R339, R402, R412). -/
def State.hostRead (s : State) (bar off n first last : Nat) (tlp : Tlp) : State :=
  let o := off / 4 * 4
  let control := decide (bar = 2) && within o 0x20000 0x20FFF
  let r := s.memRequest false control tlp
  if !r.2 then r.1
  else if !requestFits bar o n then r.1.completerAbort tlp
  else if bar = 0 && !r.1.runs 2 && !(decide (r.1.par Ix.clkFallbackState 0 = 3) && opalOwned o n) then
    r.1.governed.send (.completion .abort [] [])
  else
    let x := r.1.readDws bar o first last n n []
    x.1.send (.completion .success x.2 [])

/-! ### The commands -/

/-- REGISTER_WRITE: a posted write of DWs to BAR0 or BAR2, with its byte enables (R6, R302, R305,
R363). -/
def execRegisterWrite (t : Nat) (bar2 : Bool) (off : Nat) (ws : List Word) (firstBe lastBe : Fin 16) (tlp : Tlp)
    (busy : Bool) (s : State) : Host.Outcome State Fault Refusal :=
  .next ((s.enter t).hostWrite (if bar2 then 2 else 0) off ws firstBe lastBe tlp busy)

/-- WIDE_WORD_WRITE: a posted write of one word of a dedicated-index wide parameter (R350). -/
def execWideWordWrite (t : Nat) (ix : Fin 65536) (k : Fin 3) (w : Word) (tlp : Tlp) (busy : Bool) (s : State) :
    Host.Outcome State Fault Refusal :=
  let s1 := s.enter t
  match slotParam ix k with
  | some p =>
    if p.dedicated then .next (s1.hostWrite 0 ((ix - 0x1000) * 1024 + 4 * k) [w] 15 15 tlp busy) else .next s1
  | none => .next s1

/-- WIDE_LOW_READ: a read of `n` DWs of BAR0 or BAR2; the read of a wide value's low word latches its upper words (R302,
R305, R349). -/
def execWideLowRead (t : Nat) (bar2 : Bool) (off n : Nat) (firstBe lastBe : Fin 16) (tlp : Tlp) (s : State) :
    Host.Outcome State Fault Refusal :=
  .next ((s.enter t).hostRead (if bar2 then 2 else 0) off n firstBe lastBe tlp)

end Sys2Proof.Machine
end

