-- ==== Sys2Proof/Machine/Cdp.lean ====
section
/-! DEFINITION. The Chaex Dictionary Protocol: messages, sessions, reads (16_field_network.md R374 to R381, R385; 19 R447,
R448).

Readings and choices here: DESIGN CHOICE log 64; DEDUCED log 65, log 66, log 67, log 87; PRESUMED log 82. -/
namespace Sys2Proof.Machine

/-! ### Abort codes (R385 Table 5) -/

/-- An abort code: class, block, detail. -/
def abortCode (cls block detail : Nat) : Nat := cls * 2 ^ 24 + block * 2 ^ 16 + detail

/-- An abort: its code and the item word, index, sub-index and item number. -/
structure Abort where
  code : Nat
  item : Nat
  deriving DecidableEq, Repr

/-- An abort that concerns no index, with the block of its operation. -/
def abOp (cls detail block : Nat) : Abort := ⟨abortCode cls block detail, 0⟩

/-- An abort that concerns an index. -/
def abIx (cls detail ix sub item : Nat) : Abort :=
  ⟨abortCode cls (ix / 256 % 256) detail, ix % 65536 * 65536 + sub % 256 * 256 + item % 256⟩

/-- Table 5, Logged. -/
def Abort.logged (a : Abort) : Bool :=
  let c := a.code / 2 ^ 24
  let d := a.code % 65536
  decide (c = 1) || (decide (c = 2) && [1, 3, 4, 7, 10].contains d) || (decide (c = 3) && decide (d ≤ 2))

/-- The block of an operation whose abort concerns no index. -/
def opBlock (op : Nat) : Nat := if [0x20, 0x21, 0x50, 0x51, 0x52].contains op then 0xB0 else 0

/-! ### Sending (R374, R377) -/

/-- Two bytes of a number. -/
def bytes2 (n : Nat) : List Byte := bytesLE 2 n

/-- The nonce of R379: SESSION, a direction (0 request, 1 response, 2 EVENT), zero, SEQ, zeros. -/
def cdpNonce (session dir seq : Nat) : List Byte :=
  bytes2 session ++ [BitVec.ofNat 8 dir, 0] ++ bytesLE 4 seq ++ [0, 0, 0, 0]

/-- The body of a sealed message: the ciphertext and the tag, the header being additional data (R379). -/
def sealBody (key : List Byte) (dir : Nat) (header body : List Word) : List Word :=
  let nonce := cdpNonce ((header.getD 1 0).toNat / 65536) dir (header.getD 2 0).toNat
  let r := gcmSeal key nonce (bytesOfWords header) (bytesOfWords body)
  wordsOfBytes (r.1 ++ r.2)

/-- A message leaves the port, if it can send; in an authenticated session sealed under the key to its master (R379). -/
def State.cdpOut (s : State) (port : Nat) (ws : List Word) (sealed : Bool) : State :=
  let header := ws.take 5
  let w0 := (header.getD 0 0).toNat
  let key := (tget {} s.net.sessions ((header.getD 1 0).toNat / 65536)).keyOut
  let body := if sealed then sealBody key (if fld w0 15 8 = 0x31 then 2 else 1) header (ws.drop 5) else ws.drop 5
  if s.canSend port then s.send (.cdp port header body sealed) else s

/-- The words of a message of the device: header and body. -/
def cdpWords (op : Nat) (more auth abort : Bool) (session seq dst chip : Nat) (body : List Word) : List Word :=
  [w32 (0xCD100000 + op % 256 * 256 + 16 * b2n more + 8 * b2n auth + 2 * b2n abort + 1),
   w32 (session % 65536 * 65536 + (20 + 4 * body.length + 16 * b2n auth)), w32 seq,
   w32 (dst % 65536 * 65536 + chip % 65536), 0] ++ body

/-- A response without being kept. -/
def State.reply (s : State) (r : Reply) (abort : Bool) (body : List Word) : State :=
  s.cdpOut r.port (cdpWords r.op false r.auth abort r.session r.seq r.dst (s.par Ix.idChipNum 0) body) r.auth

/-- A response, kept as the stored response of its session's last accepted message (R377). -/
def State.respond (s : State) (r : Reply) (abort : Bool) (body : List Word) : State :=
  let ws := cdpWords r.op false r.auth abort r.session r.seq r.dst (s.par Ix.idChipNum 0) body
  let s1 := match tfind s.net.sessions r.session with
    | some x =>
      if x.q = r.seq then { s with net := { s.net with sessions := tset s.net.sessions r.session { x with response := ws } } }
      else s
    | none => s
  s1.cdpOut r.port ws r.auth

/-- A response whose body is too long becomes an abort (Table 5). -/
def State.respondFit (s : State) (r : Reply) (body : List Word) : State :=
  if 508 < 20 + 4 * body.length + 16 * b2n r.auth then
    (s.cnt Ix.netAbortsSent 0).respond r true [w32 (abOp 5 1 0).code, 0]
  else s.respond r false body

/-- An abort of an accepted message: counted, logged where Table 5 says so, sent (R385, R388). -/
def State.abort (s : State) (h : CdpHdr) (r : Reply) (a : Abort) : State :=
  let s1 := s.cnt Ix.netAbortsSent 0
  let s2 := if a.logged then s1.partnerFault (1 + h.port) h.peer 18 a.code else s1
  s2.respond r true [w32 a.code, w32 a.item]

/-- An abort of a message that is not accepted: it is not kept. -/
def State.abortEarly (s : State) (h : CdpHdr) (r : Reply) (a : Abort) : State :=
  let s1 := s.cnt Ix.netAbortsSent 0
  let s2 := if a.logged then s1.partnerFault (1 + h.port) h.peer 18 a.code else s1
  s2.reply r true [w32 a.code, w32 a.item]

/-! ### Admission (R374, R377, R379, R380, R447, R448) -/

/-- What an operation needs (Table 3). -/
inductive Need where
  | nothing | session | owner
  deriving DecidableEq, Repr

/-- LENGTH breaks R374. -/
def lengthBad (h : CdpHdr) (body : List Word) : Bool :=
  decide (h.length ≠ 20 + 4 * body.length + 16 * b2n h.auth + h.extra) || decide (h.length % 4 ≠ 0) || decide (508 < h.length)

/-- The first check that the header fails, before the session is looked at. -/
def State.headerFails (s : State) (h : CdpHdr) (op : Nat) (known : Bool) (body : List Word) : Option Abort :=
  let b := opBlock op
  if h.version ≠ 1 then some (abOp 1 1 b)
  else if h.dst ≠ 65535 ∧ h.dst ≠ s.par Ix.idChipNum 0 then some (abOp 2 10 b)
  else if lengthBad h body then some (abOp 1 2 b)
  else if !known then some (abOp 1 3 b)
  else if h.reserved || h.response || h.abort then some (abOp 1 4 b) else none

/-- The operations of recovery (R448) and of a device without a copy whose BOOT_NOCOPY is 1 (R447). -/
def State.modeFails (s : State) (op : Nat) : Option Abort :=
  if !s.nv.running ∧ !([0x01, 0x02, 0x03, 0x04, 0x05, 0x10, 0x51, 0x52].contains op) then some (abOp 5 3 (opBlock op))
  else if s.par Ix.storeBootSource 0 = 2 ∧ bit (s.par Ix.startStraps 0) 1 ∧
      !([0x01, 0x02, 0x03, 0x04, 0x10, 0x12, 0x50].contains op) then some (abOp 2 8 (opBlock op))
  else none

/-- The role-generation guard fails; the abort names the first item of the body (R381). -/
def State.guardFails (s : State) (h : CdpHdr) (op : Nat) (body : List Word) : Option Abort :=
  if h.guard ∧ (192 ≤ h.guardLane ∨ s.par Ix.laneRoleGen h.guardLane ≠ h.gen) then
    let item := match op with
      | 0x10 => body.head?
      | 0x11 => body.head?
      | 0x12 => body[1]?
      | 0x13 => body[1]?
      | 0x14 => body[1]?
      | 0x15 => body[1]?
      | _ => none
    match item with
    | some w => some (abIx 3 7 (w.toNat / 65536) (w.toNat / 256 % 256) 0)
    | none => some (abOp 3 7 (opBlock op))
  else none

/-- Comparison of SEQ with the last accepted value (R377 table). -/
inductive SeqClass where
  | next | same | replay | window
  deriving DecidableEq, Repr

def seqClass (q seq : Nat) : SeqClass :=
  let d := (seq % 2 ^ 32 + 2 ^ 32 - q % 2 ^ 32) % 2 ^ 32
  if d = 0 then .same else if d ≤ 1024 then .next else if 2 ^ 31 < d then .replay else .window

/-- A message of a session is accepted: its number and time, where the session is reached (R377). -/
def State.acceptSeq (s : State) (h : CdpHdr) (op : Nat) (x : Session) : State :=
  let y : Session :=
    { x with q := h.seq % 2 ^ 32, op := op, len := h.length, response := [], at_ := s.now, port := h.port, chip := h.src }
  { s with net := { s.net with sessions := tset s.net.sessions h.session y } }

/-- What an accepted message must still pass: ownership, mode, guard. -/
def State.cdpFails (s : State) (h : CdpHdr) (op : Nat) (need : Need) (body : List Word) : Option Abort :=
  if need = .owner ∧ s.par Ix.netOwner 0 ≠ h.session then some (abOp 2 8 (opBlock op))
  else
    match s.modeFails op with
    | some a => some a
    | none => s.guardFails h op body

/-- The header of a received message whose checks have passed, as its five words (Table 2). -/
def headerWords (h : CdpHdr) (op : Nat) : List Word :=
  [w32 (0xCD100000 + op % 256 * 256 + 16 * b2n h.more + 8 * b2n h.auth + 4 * b2n h.guard), w32 (h.session % 65536 * 65536 + h.length % 65536),
   w32 h.seq, w32 (h.dst % 65536 * 65536 + h.src % 65536), w32 (h.gen % 65536 * 65536 + h.guardLane % 256 * 256)]

/-- The tag of a sealed message verifies under the key from its master (R379); `body` is what its ciphertext spells under that key. -/
def tagFits (h : CdpHdr) (op : Nat) (body : List Word) (x : Session) : Bool :=
  let header := bytesOfWords (headerWords h op)
  decide ((gcmSeal x.keyIn (cdpNonce h.session 0 h.seq) header (bytesOfWords body)).2 = bytesLE 16 h.tag)

/-- A message of an existing session: discarded, answered, or accepted. -/
def State.sessionAdmit (s : State) (h : CdpHdr) (op : Nat) (need : Need) (body : List Word) (x : Session) :
    State × Option Reply :=
  let r : Reply := ⟨h.port, h.session, op, h.seq, x.auth, h.src⟩
  if h.auth ≠ x.auth then (s.abortEarly h r (abOp 1 4 (opBlock op)), none)
  else if h.auth && !tagFits h op body x then (s.partnerFault (1 + h.port) h.peer 17 h.session, none)
  else
    match seqClass x.q h.seq with
    | .same =>
      if x.op = op ∧ x.len = h.length then
        (if x.response.isEmpty then s else s.cdpOut h.port x.response x.auth, none)
      else (s.abortEarly h r (abOp 2 3 (opBlock op)), none)
    | .replay => (s.abortEarly h r (abOp 2 3 (opBlock op)), none)
    | .window => (s.abortEarly h r (abOp 2 4 (opBlock op)), none)
    | .next =>
      if 0xFFFFF000 ≤ x.q ∧ op ≠ 0x03 ∧ op ≠ 0x04 then (s.abortEarly h r (abOp 2 5 (opBlock op)), none)
      else
        let s1 := s.acceptSeq h op x
        match s1.cdpFails h op need body with
        | some a => (s1.abort h r a, none)
        | none => (s1, some r)

/-- A CDP message with a good header reaches the management processor: the state, and the reply that an accepted one
awaits. `known`: OP is one of Table 3. -/
def State.admitCdp (s : State) (h : CdpHdr) (op : Nat) (known : Bool) (need : Need) (body : List Word) : State × Option Reply :=
  if !s.portUp h.port ∨ s.par Ix.startStep 0 ≤ 7 ∨ !s.runs 2 ∨ !s.runs 5 then (s, none)
  else
    let sess := tfind s.net.sessions h.session
    let r : Reply := ⟨h.port, h.session, op, h.seq, (sess.map Session.auth).getD false, h.src⟩
    match s.headerFails h op known body with
    | some a => (s.abortEarly h r a, none)
    | none =>
      if need = .nothing then
        if h.session ≠ 0 then (s.abortEarly h r (abOp 2 1 (opBlock op)), none)
        else if h.auth then (s.abortEarly h r (abOp 1 4 (opBlock op)), none)
        else
          match s.cdpFails h op need body with
          | some a => (s.abortEarly h r a, none)
          | none => (s, some r)
      else
        match sess with
        | none => (s.abortEarly h r (abOp 2 1 (opBlock op)), none)
        | some x => s.sessionAdmit h op need body x

/-- An operation on an admitted message. -/
def State.cdp (s : State) (h : CdpHdr) (op : Nat) (need : Need) (body : List Word) (act : State → Reply → State) :
    Host.Outcome State Fault Refusal :=
  let a := s.admitCdp h op true need body
  match a.2 with
  | some r => .next (act a.1 r)
  | none => .next a.1

/-- The body's word count does not fit the operation. -/
def State.badLength (s : State) (h : CdpHdr) (r : Reply) : State := s.abort h r (abOp 1 2 (opBlock r.op))

/-- A word of the body as a number; 0 beyond its end. -/
def bodyWord (body : List Word) (i : Nat) : Nat := (body.getD i 0).toNat

/-! ### Sessions and ownership (R377, R378, R380) -/

/-- The session is authenticated. -/
def State.isAuth (s : State) (n : Nat) : Bool := ((tfind s.net.sessions n).map Session.auth).getD false

/-- IDENTIFY (Table 3). -/
def State.identity (s : State) : List Word :=
  let serial := s.par Ix.idSerial 0
  [0x1EB70192, w32 (s.par Ix.idChipNum 0 * 65536 + s.par Ix.idSiliconRev 0 % 256 * 256 + s.par Ix.idOrderCode 0 % 256),
   w32 serial, w32 (serial / 2 ^ 32), w32 (s.par Ix.idFwVersion 0),
   w32 (s.par Ix.netAuthRequired 0 * 2 ^ 17 + b2n (decide (s.par Ix.netOwner 0 ≠ 0)) * 2 ^ 16 + s.net.sessions.length)]

/-- A session number that is not in use, from `n` on. -/
def State.freeSession (s : State) : Nat → Nat → Nat
  | 0, n => n
  | fuel + 1, n =>
    if (tfind s.net.sessions n).isSome then s.freeSession fuel (if n = 0xFFFE then 1 else n + 1) else n

/-- SESSION_OPEN: the number is the device's choice. -/
def State.openSession (s : State) (h : CdpHdr) (r : Reply) : State :=
  if 16 ≤ s.net.sessions.length then s.abort h r (abOp 2 2 0)
  else
    let n := s.freeSession 16 (1 + Config.freeNat s.fresh % 0xFFFE)
    let s1 := s.draw
    let x : Session := { at_ := s1.now, port := h.port, chip := h.src, evAt := s1.now }
    let s2 := { s1 with net := { s1.net with sessions := tset s1.net.sessions n x } }
    (s2.setPar Ix.netSessions 0 s2.net.sessions.length).respond r false [w32 n, w32 (s2.par Ix.netSessionIdle 0)]

/-- The two session keys of R378 from the shared secret: the first 32 bytes are K_md, the next 32 K_dm. -/
def State.sessionKeys (s : State) (session : Nat) (nm nd z : List Byte) : List Byte × List Byte :=
  let info : List Byte := [0x43, 0x44, 0x50, 0x31] ++ bytes2 (s.par Ix.idChipNum 0) ++ bytes2 session
  let okm := hkdf384 (nm ++ nd) z info
  (okm.take 32, okm.drop 32)

/-- SESSION_AUTH, first request (R378): the transcript and the keys are kept, and the device answers with its ephemeral key, its nonce
and its signature. The ephemeral key's secret number, the nonce and the signature's secret number are free values; so is the shared
secret with a Q_m that is no point of the curve, of which the rule says nothing (log 82). -/
def State.authKeys (s : State) (h : CdpHdr) (r : Reply) (body : List Word) : State :=
  if body.length ≠ 34 then s.badLength h r
  else
    let given := (bytesOfWords (body.drop 1)).take 129
    let d := ecScalar (Config.freeNat s.fresh)
    let qd := ecEncode (ecMul d ecG)
    let nd := bytesLE 32 (Config.freeNat (s.fresh + 1))
    let z := match ecMul d (ecDecode (given.take 97)) with
      | some (x, _) => x
      | none => Config.freeNat (s.fresh + 2)
    let keys := s.sessionKeys h.session (given.drop 97) nd (bytesBE 48 z)
    let t := sha384Bytes (bytes2 (s.par Ix.idChipNum 0) ++ bytes2 h.session ++ given ++ qd ++ nd)
    let sig := deviceSign (s.fresh + 3) t
    let s1 := s.draw.draw.draw.draw
    let s2 := match tfind s1.net.sessions h.session with
      | some x => { s1 with net := { s1.net with
          sessions := tset s1.net.sessions h.session
            { x with
              half := some (bodyWord body 0 % 256, ofBytes t), nextIn := keys.1, nextOut := keys.2 } } }
      | none => s1
    s2.respond r false (wordsOfBytes (qd ++ nd ++ sig))

/-- The key of a trusted slot; empty where it holds none (R428). -/
def State.masterKey (s : State) (slot : Nat) : List Byte := tget [] s.nv.masterKeys slot

/-- A session takes new keys: authenticated, with both sequence counts restarted; EVENTs under the old keys are given up, and
the frames they carried are sent again (R378). -/
def State.rekey (s : State) (n : Nat) (x : Session) : State :=
  let y : Session := { x with
    auth := true, q := 0, op := 0, len := 0, response := [], evSeq := 0, unacked := [], half := none
    keyIn := x.nextIn, keyOut := x.nextOut }
  { s with net := { s.net with
    sessions := tset s.net.sessions n y
    subs := s.net.subs.map (fun (z : Nat × Sub) => if z.2.session = n then (z.1, { z.2 with sent := 0, ahead := 0 }) else z) } }

/-- SESSION_AUTH, second request (R378): the answer goes out under the old keys. -/
def State.authSign (s : State) (h : CdpHdr) (r : Reply) (body : List Word) : State :=
  if body.length ≠ 25 then s.badLength h r
  else
    match tfind s.net.sessions h.session with
    | some x =>
      let s1 := { s with net := { s.net with sessions := tset s.net.sessions h.session { x with half := none } } }
      let sig := bytesOfWords (body.drop 1)
      let ok := match x.half with
        | some y => decide (s.masterKey y.1 ≠ []) && ecdsaVerifies (s.masterKey y.1) (bytesLE 48 y.2) sig
        | none => false
      if ok then ((s1.respond r false []).rekey h.session x) else s1.abort h r (abOp 2 7 0)
    | none => s

/-- OWNERSHIP (R380). -/
def State.ownership (s : State) (h : CdpHdr) (r : Reply) (body : List Word) (take : Bool) : State :=
  let owner := s.par Ix.netOwner 0
  let mine := s.isAuth h.session
  if body.length ≠ 1 then s.badLength h r
  else if take then
    if s.par Ix.netAuthRequired 0 = 1 ∧ !mine then s.abort h r (abOp 2 6 0)
    else if owner = 0 ∨ owner = h.session ∨ (mine ∧ !s.isAuth owner) then
      (s.setPar Ix.netOwner 0 h.session).respond r false [w32 h.session]
    else s.abort h r (abOp 2 9 0)
  else
    let now_ := if owner = h.session then 0 else owner
    (s.setPar Ix.netOwner 0 now_).respond r false [w32 now_]

/-! ### Items (R348, R375) -/

/-- An item of a body: its number, index, first sub-index, count. -/
structure CdpItem where
  item : Nat
  ix : Nat
  sub : Nat
  count : Nat
  deriving DecidableEq, Repr

/-- PADDR of R375. -/
def CdpItem.of (item : Nat) (w : Word) : CdpItem :=
  ⟨item, w.toNat / 65536, w.toNat / 256 % 256, w.toNat % 256⟩

def CdpItem.fail (x : CdpItem) (cls detail : Nat) : Abort := abIx cls detail x.ix x.sub x.item

/-- The index and the instances of an item (INDEX_UNKNOWN, SUB_INVALID); a broadcast only where `wide` allows it. -/
def CdpItem.param (x : CdpItem) (wide : Bool) : Param ⊕ Abort :=
  match paramOf x.ix with
  | none => .inr (x.fail 3 1)
  | some p =>
    let last := if p.dedicated then p.s0 else p.s1
    if wide && p.bcast && decide (x.sub = 255) && decide (x.count = 1) then .inl p
    else if x.count = 0 ∨ x.sub < p.s0 ∨ last < x.sub + (x.count - 1) then .inr (x.fail 3 2) else .inl p

/-- The values of an item as the management path reads them, each whole; with `latch` the read latch takes the upper words of
a wide value (R349). -/
def State.readItem (s : State) (p : Param) (x : CdpItem) (latch : Bool) : State × List Word :=
  ((List.range x.count).map (fun i => x.sub + i)).foldl (fun (a : State × List Word) n =>
    let v := a.1.readValue true p x.ix n
    (if latch && decide (1 < p.ty.words) then a.1.loadLatch true x.ix v else a.1, a.2 ++ wordsOf p.ty.words v)) (s, [])

/-- The bytes of a DOMAIN parameter; the OTP blocks read as zeros once their record has failed (R428, R433, R451). -/
def State.domainBytes (s : State) (ix : Nat) : List Byte :=
  if within ix Ix.secMasterKey (Ix.secMasterKey + 7) then s.masterKey (ix - Ix.secMasterKey)
  else
    let b := otpBlock ix
    if bit (s.par Ix.startOtpFaults 0) 1 then b.map (fun _ => 0) else b

/-- READ of a DOMAIN: total bytes, then the bytes asked for. -/
def State.readDomain (s : State) (h : CdpHdr) (r : Reply) (x : CdpItem) (body : List Word) : State :=
  if body.length ≠ 3 then s.badLength h r
  else if 448 < bodyWord body 2 then s.abort h r (x.fail 4 1)
  else
    let b := s.domainBytes x.ix
    s.respondFit r (w32 b.length :: wordsOfBytes ((b.drop (bodyWord body 1)).take (bodyWord body 2)))

/-- READ (Table 3). -/
def State.cdpRead (s : State) (h : CdpHdr) (r : Reply) (body : List Word) : State :=
  match body with
  | [] => s.badLength h r
  | w :: rest =>
    let x := CdpItem.of 0 w
    match x.param false with
    | .inr a => s.abort h r a
    | .inl p =>
      if p.ty = .domain then s.readDomain h r x body
      else if rest ≠ [] then s.badLength h r
      else
        let v := s.readItem p x true
        v.1.respondFit r v.2

/-- The items of a body of PADDR words. -/
def itemsOf (ws : List Word) : List CdpItem := ws.zipIdx.map (fun (x : Word × Nat) => CdpItem.of x.2 x.1)

/-- One item of READ_MULTI: a status word, then its values. -/
def readMultiItem (a : State × List Word) (x : CdpItem) : State × List Word :=
  match x.param false with
  | .inr b => (a.1, a.2 ++ [w32 b.code])
  | .inl p =>
    let v := a.1.readItem p x true
    (v.1, a.2 ++ 0 :: v.2)

/-- READ_MULTI (Table 3). -/
def State.readMulti (s : State) (h : CdpHdr) (r : Reply) (body : List Word) : State :=
  let n := bodyWord body 0 % 256
  if body.length ≠ n + 1 then s.badLength h r
  else if n = 0 ∨ 64 < n then s.abort h r (abOp 4 1 0)
  else
    let v := (itemsOf (body.drop 1)).foldl readMultiItem (s, [])
    v.1.respondFit r v.2

/-! ### The commands -/

/-- IDENTIFY. -/
def execIdentify (t : Nat) (h : CdpHdr) (body : List Word) (s : State) : Host.Outcome State Fault Refusal :=
  (s.enter t).cdp h 0x01 .nothing body (fun u r => if body.isEmpty then u.respond r false u.identity else u.badLength h r)

/-- SESSION_OPEN (R377). -/
def execSessionOpen (t : Nat) (h : CdpHdr) (body : List Word) (s : State) : Host.Outcome State Fault Refusal :=
  (s.enter t).cdp h 0x02 .nothing body (fun u r => if body.isEmpty then u.openSession h r else u.badLength h r)

/-- SESSION_AUTH_KEYS: the first request of SESSION_AUTH; the top byte of W0 is 1 (R378). -/
def execSessionAuthKeys (t : Nat) (h : CdpHdr) (body : List Word) (s : State) : Host.Outcome State Fault Refusal :=
  (s.enter t).cdp h 0x03 .session body (fun u r => u.authKeys h r body)

/-- SESSION_AUTH_SIGN: the second request; the top byte of W0 is 2 (R378). -/
def execSessionAuthSign (t : Nat) (h : CdpHdr) (body : List Word) (s : State) : Host.Outcome State Fault Refusal :=
  (s.enter t).cdp h 0x03 .session body (fun u r => u.authSign h r body)

/-- SESSION_CLOSE: the session ends with its answer (R377). -/
def execSessionClose (t : Nat) (h : CdpHdr) (body : List Word) (s : State) : Host.Outcome State Fault Refusal :=
  (s.enter t).cdp h 0x04 .session body (fun u r =>
    if body.isEmpty then (u.respond r false []).endSession h.session else u.badLength h r)

/-- SESSION_IDLE_TIMEOUT: no message accepted for NET.SESSION_IDLE seconds (R377). -/
def execSessionIdleTimeout (t : Nat) (n : Nat) (s : State) : Host.Outcome State Fault Refusal :=
  let s1 := s.enter t
  match tfind s1.net.sessions n with
  | some x => if x.at_ + s1.par Ix.netSessionIdle 0 * 256000000000 ≤ s1.now then .next (s1.endSession n) else .next s1
  | none => .next s1

/-- OWNERSHIP_TAKE: OWNERSHIP with bit 0 of W0 set (R380). -/
def execOwnershipTake (t : Nat) (h : CdpHdr) (body : List Word) (s : State) : Host.Outcome State Fault Refusal :=
  (s.enter t).cdp h 0x05 .session body (fun u r => u.ownership h r body true)

/-- OWNERSHIP_RELEASE: OWNERSHIP with bit 0 of W0 clear (R380). -/
def execOwnershipRelease (t : Nat) (h : CdpHdr) (body : List Word) (s : State) : Host.Outcome State Fault Refusal :=
  (s.enter t).cdp h 0x05 .session body (fun u r => u.ownership h r body false)

/-- CDP_READ: READ (R375). -/
def execCdpRead (t : Nat) (h : CdpHdr) (body : List Word) (s : State) : Host.Outcome State Fault Refusal :=
  (s.enter t).cdp h 0x10 .session body (fun u r => u.cdpRead h r body)

/-- READ_MULTI (R375). -/
def execReadMulti (t : Nat) (h : CdpHdr) (body : List Word) (s : State) : Host.Outcome State Fault Refusal :=
  (s.enter t).cdp h 0x12 .session body (fun u r => u.readMulti h r body)

/-- SNAPSHOT_COUNTERS: the snapshot's instant, and the number it will carry (R360). -/
def execSnapshotCounters (t : Nat) (h : CdpHdr) (body : List Word) (s : State) : Host.Outcome State Fault Refusal :=
  (s.enter t).cdp h 0x16 .session body (fun u r =>
    if body.isEmpty then
      let v := u.requestSnapshot
      v.respond r false (wordsOf 3 (v.ds.snapAt.getD v.now) ++ [w32 (v.par Ix.dictSnapSeq 0 + 1)])
    else u.badLength h r)

end Sys2Proof.Machine
end

