-- ==== Sys2Proof/Machine/CdpWrite.lean ====
section
/-! DEFINITION. CDP writes, held responses, store and firmware operations (16_field_network.md R375, R376, R380, R381, R385; 15
R348, R352, R353; 18 R421 to R435).

Readings and choices here: DEDUCED log 62, log 66. -/
namespace Sys2Proof.Machine

/-! ### What a body asks to write -/

/-- One instance to write, with the item it belongs to; sub-index 255 of a broadcast entry stands for all. -/
structure CdpPut where
  item : Nat
  p : Param
  ix : Nat
  sub : Nat
  all : Bool
  val : Nat
  deriving DecidableEq, Repr

def CdpPut.fail (x : CdpPut) (cls detail : Nat) : Abort := abIx cls detail x.ix x.sub x.item

/-- The instances of an item and its value words; none where the words do not suffice. -/
def CdpItem.puts (x : CdpItem) (p : Param) (ws : List Word) : Option (List CdpPut × List Word) :=
  let k := p.ty.words
  if ws.length < k * x.count then none
  else
    some ((List.range x.count).map (fun i =>
      ⟨x.item, p, x.ix, x.sub + i, p.bcast && decide (x.sub = 255), p.fit (ofWords ((ws.drop (k * i)).take k))⟩), ws.drop (k * x.count))

/-- The instances of `n` items that carry their values (WRITE, WRITE_MULTI). A DOMAIN item has no place among several. -/
def putsOf : Nat → Nat → List Word → List CdpPut ⊕ Abort
  | 0, _, ws => if ws.isEmpty then .inl [] else .inr (abOp 1 2 0)
  | _ + 1, _, [] => .inr (abOp 1 2 0)
  | n + 1, i, w :: ws =>
    let x := CdpItem.of i w
    match x.param true with
    | .inr a => .inr a
    | .inl p =>
      if p.ty = .domain then .inr (x.fail 1 2)
      else
        match x.puts p ws with
        | none => .inr (x.fail 1 2)
        | some (l, rest) =>
          match putsOf n (i + 1) rest with
          | .inl m => .inl (l ++ m)
          | .inr a => .inr a

/-- The instances that ENABLE or DISABLE writes `v` to. -/
def enablePuts (v : Nat) : List CdpItem → List CdpPut ⊕ Abort
  | [] => .inl []
  | x :: t =>
    match x.param true with
    | .inr a => .inr a
    | .inl p =>
      if !isEnable x.ix then .inr (x.fail 3 9)
      else
        match enablePuts v t with
        | .inl m => .inl ((List.range x.count).map (fun i => ⟨x.item, p, x.ix, x.sub + i, p.bcast && decide (x.sub = 255), v⟩) ++ m)
        | .inr a => .inr a

/-! ### Checks (R376) -/

/-- The abort of a refused value (Table 5). -/
def CdpPut.refused (x : CdpPut) : WErr → Abort
  | .roleInvalid => x.fail 3 6
  | .notANumber => x.fail 4 3
  | .outOfRange => x.fail 4 1
  | .ownerEnabled => x.fail 3 5
  | .clock r _ => x.fail 8 r

/-- The class takes no write: RO, ST, CNT/S, CNT/W, or a STRING. -/
def Param.readOnly (p : Param) : Bool :=
  decide (p.acc = .ro) || decide (p.acc = .st) || decide (p.acc = .cntS) || decide (p.acc = .cntW) || decide (p.ty = .string)

/-- The first check that an instance fails: its abort, and the state with the refusal counted by the owner. -/
def State.putFails (s : State) (mine busy : Bool) (x : CdpPut) : Option (Abort × State) :=
  if x.p.readOnly then some (x.fail 3 3, s)
  else if x.p.danger && !mine then some (x.fail 3 8, s)
  else if x.all then
    (s.broadcastFails x.p x.ix x.val busy).map (fun e => (x.refused e.1, s.refuseBroadcast e.1 x.ix e.2))
  else (s.writeFails x.p x.ix x.sub x.val busy).map (fun e => (x.refused e, s.refuseWrite e x.ix x.sub))

/-- The first failure of all instances. -/
def State.putsFail (s : State) (mine busy : Bool) (l : List CdpPut) : Option (Abort × State) :=
  l.findSome? (s.putFails mine busy)

/-! ### Application (R376) -/

/-- An instance is written. -/
def State.put (busy : Bool) (s : State) (x : CdpPut) : State :=
  if x.all then s.acceptBroadcast x.p x.ix x.val busy else s.takeWrite x.p x.ix x.sub x.val busy

/-- The instance is an RWL change: it waits for a release boundary (R148); staged calibration values do not. -/
def CdpPut.waits (x : CdpPut) : Bool :=
  decide (x.p.acc = .rwl) && decide (x.ix ≠ Ix.calOffsetUser) && decide (x.ix ≠ Ix.calGainUser)

/-- The effective time of the last change queued. -/
def State.lastEff (s : State) : Nat := (s.cw.queue.getLast?.map Change.eff).getD 0

/-- Checked instances are written in order; a response to RWL changes waits for their effective time (R376). -/
def State.putAll (s : State) (r : Reply) (busy : Bool) (l : List CdpPut) : State :=
  let s1 := l.foldl (State.put busy) s
  let slots := (l.filter CdpPut.waits).map (fun x => (x.ix, x.sub, x.item))
  if slots.isEmpty then s1.respond r false [0, 0, 0]
  else
    let due := ((s1.cw.queue.filter (fun c => slots.any (fun (x : Nat × Nat × Nat) =>
      decide (x.1 = c.ix) && decide (x.2.1 = c.sub)))).map Change.eff).foldl max 0
    let h : HeldResponse := ⟨due, r, wordsOf 3 due, slots, none⟩
    { s1 with net := { s1.net with held := s1.net.held ++ [h] } }

/-- A list of instances is checked as a whole and written, or refused. -/
def State.putOrAbort (s : State) (h : CdpHdr) (r : Reply) (l : List CdpPut ⊕ Abort) : State :=
  match l with
  | .inr a => s.abort h r a
  | .inl m =>
    match s.putsFail (s.isAuth h.session) h.busy m with
    | some f => f.2.abort h r f.1
    | none => s.putAll r h.busy m

/-- A master key slot is written or emptied (R428). -/
def State.writeKey (s : State) (h : CdpHdr) (r : Reply) (x : CdpItem) (body : List Word) : State :=
  let off := bodyWord body 1
  let len := bodyWord body 2
  let slot := x.ix - Ix.secMasterKey
  if body.length < 3 then s.abort h r (x.fail 1 2)
  else if !within x.ix Ix.secMasterKey (Ix.secMasterKey + 7) then s.abort h r (x.fail 3 3)
  else if body.length ≠ 3 + (len + 3) / 4 then s.abort h r (x.fail 1 2)
  else if off ≠ 0 ∨ h.more then s.abort h r (x.fail 1 5)
  else if len ≠ 0 ∧ len ≠ 97 then s.abort h r (x.fail 4 1)
  else if s.nv.masterKeys.any (fun (k : Nat × List Byte) => decide (k.2 ≠ [])) ∧ !s.isAuth h.session then
    s.abort h r (x.fail 2 6)
  else
    let keys := if len = 0 then terase s.nv.masterKeys slot
      else tset s.nv.masterKeys slot ((bytesOfWords (body.drop 3)).take 97)
    { s with nv := { s.nv with masterKeys := keys } }.respond r false [0, 0, 0]

/-- WRITE (Table 3). -/
def State.cdpWrite (s : State) (h : CdpHdr) (r : Reply) (body : List Word) : State :=
  match body with
  | [] => s.badLength h r
  | w :: _ =>
    let x := CdpItem.of 0 w
    match x.param true with
    | .inr a => s.abort h r a
    | .inl p => if p.ty = .domain then s.writeKey h r x body else s.putOrAbort h r (putsOf 1 0 body)

/-- WRITE_MULTI (Table 3). -/
def State.writeMulti (s : State) (h : CdpHdr) (r : Reply) (body : List Word) : State :=
  match body with
  | [] => s.badLength h r
  | w :: rest => s.putOrAbort h r (putsOf (w.toNat % 256) 0 rest)

/-- ENABLE or DISABLE (Table 3, R375). -/
def State.cdpEnable (s : State) (h : CdpHdr) (r : Reply) (body : List Word) (v : Nat) : State :=
  if body.length ≠ bodyWord body 0 % 256 + 1 then s.badLength h r
  else s.putOrAbort h r (enablePuts v (itemsOf (body.drop 1)))

/-! ### Held responses (R376) -/

/-- The effective time of a held response has passed, and its changes have taken effect. -/
def State.ripe (s : State) (h : HeldResponse) : Bool :=
  decide (h.due ≤ s.now) && !s.cw.queue.any (fun c => decide (c.eff ≤ h.due))

/-- A held response goes out: an abort where the route check refused one of its changes (R86). -/
def State.answerHeld (s : State) (h : HeldResponse) : State :=
  match h.conflict with
  | none => s.respond h.reply false h.words
  | some x =>
    let a := abIx 4 2 x.1 x.2.1 x.2.2
    (s.cnt Ix.netAbortsSent 0).respond h.reply true [w32 a.code, w32 a.item]

/-! ### Store and firmware operations -/

/-- SAVE (R421, R422): its answer comes when the copy is committed. -/
def State.cdpSave (s : State) (h : CdpHdr) (r : Reply) (body : List Word) : State :=
  if body.length ≠ 1 then s.badLength h r
  else
    let v := s.save (bit (bodyWord body 0) 0) (some r)
    match v.2 with
    | some a => v.1.abort h r ⟨a, 0⟩
    | none => v.1

/-- LOAD (R427): its answer waits for the effective time of the changes it queued (R376). -/
def State.cdpLoad (s : State) (h : CdpHdr) (r : Reply) (body : List Word) : State :=
  let sel := bodyWord body 0 % 4
  if body.length ≠ 1 then s.badLength h r
  else if sel = 3 then s.abort h r (abOp 4 1 0xB0)
  else
    let v := s.load sel
    match v.2 with
    | some a => v.1.abort h r ⟨a, 0⟩
    | none =>
      if v.1.cw.queue = s.cw.queue then v.1.respond r false []
      else
        let slots := (v.1.cw.queue.filter (fun c => !s.cw.queue.contains c)).map (fun c => (c.ix, c.sub, 0))
        { v.1 with net := { v.1.net with held := v.1.net.held ++ [⟨v.1.lastEff, r, [], slots, none⟩] } }

/-- FW_STAGE (R375, R429). -/
def State.cdpStage (s : State) (h : CdpHdr) (r : Reply) (body : List Word) : State :=
  let off := bodyWord body 1
  let total := bodyWord body 2
  let bytes := (bytesOfWords (body.drop 3)).take (total - off)
  if body.length < 3 ∨ 112 < body.length - 3 then s.badLength h r
  else
    let v := s.stageSegment (bit (bodyWord body 0) 0) off total bytes
    match v.2 with
    | some a => v.1.abort h r ⟨a, 0⟩
    | none => v.1.respond r false []

/-- FW_ACTIVATE (R430): the answer goes out before the switch. -/
def State.cdpActivate (s : State) (h : CdpHdr) (r : Reply) (body : List Word) (inFlight hanging : Nat) : State :=
  if body.length ≠ 1 then s.badLength h r
  else
    match s.activateRefused (bodyWord body 0) with
    | some a => (s.result a).abort h r ⟨a, 0⟩
    | none => (s.respond r false []).activate inFlight hanging

/-- The requester of a SAVE is answered: the copy's sequence number, or an abort. -/
def State.answerSave (s : State) (r : Option Reply) (v : Option (Nat × Bool)) : State :=
  match r, v with
  | some r, some (n, true) => s.respond r false [w32 n]
  | some r, some (a, false) => (s.cnt Ix.netAbortsSent 0).respond r true [w32 a, 0]
  | _, _ => s

/-- The session that a reply belongs to is still open. -/
def State.stillOpen (s : State) (r : Reply) : Bool := (tfind s.net.sessions r.session).isSome

/-! ### The commands -/

/-- CDP_WRITE: WRITE. -/
def execCdpWrite (t : Nat) (h : CdpHdr) (body : List Word) (s : State) : Host.Outcome State Fault Refusal :=
  (s.enter t).cdp h 0x11 .owner body (fun u r => u.cdpWrite h r body)

/-- WRITE_MULTI. -/
def execWriteMulti (t : Nat) (h : CdpHdr) (body : List Word) (s : State) : Host.Outcome State Fault Refusal :=
  (s.enter t).cdp h 0x13 .owner body (fun u r => u.writeMulti h r body)

/-- CDP_ENABLE: ENABLE. -/
def execCdpEnable (t : Nat) (h : CdpHdr) (body : List Word) (s : State) : Host.Outcome State Fault Refusal :=
  (s.enter t).cdp h 0x14 .owner body (fun u r => u.cdpEnable h r body 1)

/-- CDP_DISABLE: DISABLE. -/
def execCdpDisable (t : Nat) (h : CdpHdr) (body : List Word) (s : State) : Host.Outcome State Fault Refusal :=
  (s.enter t).cdp h 0x15 .owner body (fun u r => u.cdpEnable h r body 0)

/-- CDP_RESPONSE_SEND: the first held response whose effective time has passed goes out. -/
def execCdpResponseSend (t : Nat) (s : State) : Host.Outcome State Fault Refusal :=
  let s1 := s.enter t
  match s1.net.held.find? s1.ripe with
  | some h => .next ({ s1 with net := { s1.net with held := s1.net.held.erase h } }.answerHeld h)
  | none => .next s1

/-- ATTEST: a report over the verifier's nonce (R435). -/
def execAttest (t : Nat) (h : CdpHdr) (body : List Word) (s : State) : Host.Outcome State Fault Refusal :=
  (s.enter t).cdp h 0x50 .session body (fun u r =>
    if body.length = 8 then u.draw.respond r false (u.attestation body) else u.badLength h r)

/-- CDP_SAVE: SAVE. -/
def execCdpSave (t : Nat) (h : CdpHdr) (body : List Word) (s : State) : Host.Outcome State Fault Refusal :=
  (s.enter t).cdp h 0x20 .owner body (fun u r => u.cdpSave h r body)

/-- CDP_LOAD: LOAD. -/
def execCdpLoad (t : Nat) (h : CdpHdr) (body : List Word) (s : State) : Host.Outcome State Fault Refusal :=
  (s.enter t).cdp h 0x21 .owner body (fun u r => u.cdpLoad h r body)

/-- SAVE_COMPLETE: the flash has erased, programmed and read back the slot (R421, R422). -/
def execSaveComplete (t : Nat) (ok : Bool) (s : State) : Host.Outcome State Fault Refusal :=
  let s1 := s.enter t
  match s1.nv.job with
  | some j =>
    if !s1.runs 2 then .next s1
    else
    let v := s1.saveDone j ok
    .next (v.1.answerSave (j.reply.filter v.1.stillOpen) v.2)
  | none => .next s1

/-- FW_STAGE: a segment of an image (R429). -/
def execFwStage (t : Nat) (h : CdpHdr) (body : List Word) (s : State) : Host.Outcome State Fault Refusal :=
  (s.enter t).cdp h 0x51 .owner body (fun u r => u.cdpStage h r body)

/-- FW_ACTIVATE: the staged image is started (R430); entries that the management processor's crossing holds, and transfers that
hang in it, are lost (R414). -/
def execFwActivate (t : Nat) (h : CdpHdr) (body : List Word) (inFlight hanging : Nat) (s : State) :
    Host.Outcome State Fault Refusal :=
  (s.enter t).cdp h 0x52 .owner body (fun u r => u.cdpActivate h r body inFlight hanging)

end Sys2Proof.Machine
end

