-- ==== Sys2Proof/Machine/Events.lean ====
section
/-! DEFINITION. Subscriptions and EVENT messages (16_field_network.md R382 to R384).

Readings and choices here: DEDUCED log 67. -/
namespace Sys2Proof.Machine

/-! ### EVENT messages (R383, R384) -/

/-- An EVENT of a session leaves its port. -/
def State.eventOut (s : State) (n : Nat) (x : Session) (e : EventMsg) : State :=
  s.cdpOut x.port (cdpWords 0x31 e.more x.auth false n e.seq x.chip (s.par Ix.idChipNum 0) e.body) x.auth

/-- The session's window has room: at most 64 EVENTs unacknowledged. -/
def Session.open_ (x : Session) : Bool := decide (x.unacked.length < 64)

/-- A new EVENT of a session: numbered, sent, kept until it is acknowledged. -/
def State.event (s : State) (n : Nat) (x : Session) (more : Bool) (body : List Word) (frame : Option Nat) : State :=
  let e : EventMsg := ⟨(x.evSeq + 1) % 2 ^ 32, more, body, frame⟩
  let y : Session := { x with evSeq := e.seq, unacked := x.unacked ++ [e], evAt := if x.unacked.isEmpty then s.now else x.evAt }
  { s with net := { s.net with sessions := tset s.net.sessions n y } }.eventOut n y e

/-- W0 of an EVENT's body: kind and subscription. -/
def eventHead (kind sub : Nat) : Word := w32 (kind * 2 ^ 24 + sub % 256)

/-- A subscription's table entry is put back. -/
def State.setSub (s : State) (k : Nat) (x : Sub) : State := { s with net := { s.net with subs := tset s.net.subs k x } }

/-! ### Parameter events -/

/-- The values that a parameter subscription names, each read whole. -/
def State.subValues (s : State) (items : List Word) : List Word :=
  (itemsOf items).flatMap (fun x =>
    match x.param false with
    | .inl p => (s.readItem p x false).2
    | .inr _ => [])

/-- The body of a parameter event: the time of the reading, then the values. -/
def State.reading (s : State) (k : Nat) (items : List Word) : List Word :=
  eventHead 0 k :: wordsOf 3 s.now ++ s.subValues items

/-- The newest reading of a subscription goes out, or waits for the window (R384). -/
def State.offer (s : State) (k : Nat) (x : Sub) : State :=
  match tfind s.net.sessions x.session with
  | some y =>
    if y.open_ then ((s.setSub k { x with waiting := false }).event x.session y false x.last none)
    else s.setSub k { x with waiting := true }
  | none => s

/-- Readings of a session that waited for the window go out, in the order of their subscriptions. -/
def State.offerWaiting (s : State) (n : Nat) : State :=
  let mine := s.net.subs.filter (fun (z : Nat × Sub) => decide (z.2.session = n) && z.2.waiting)
  mine.foldl (fun u (z : Nat × Sub) => u.offer z.1 z.2) s

/-! ### Stream events (R240, R384) -/

/-- The frame of a stream that its subscription sends next. -/
def State.nextFrame (s : State) (x : Sub) : Option Frame :=
  let y := s.streamOf x.stream
  if bit (s.par Ix.streamOutlets x.stream) 1 then y.tail[y.cdpTook + x.ahead]? else none

/-- The CDP outlet carries at most 2 MB/s of a stream, and 8 MB/s of all: a byte in 128,000 ticks, in 32,000 (R384). -/
def State.outletFree (s : State) (n : Nat) : Bool :=
  decide (tget 0 s.net.evStream n ≤ s.now) && decide (s.net.evAny ≤ s.now)

/-- A segment of `b` bytes of a stream has gone out. -/
def State.outletCarries (s : State) (n b : Nat) : State :=
  { s with net := { s.net with evStream := tset s.net.evStream n (s.now + 128000 * b), evAny := s.now + 32000 * b } }

/-- The outlet begins to read a frame out of the tail abutment; what its codewords in error leave of it is the frame from now on
(R284, R289 codes 2 and 3). -/
def State.outletRead (s : State) (x : Sub) (f : Frame) (errs : List CodeErr) : State × Frame :=
  if x.sent ≠ 0 then (s, f)
  else
    let r := s.sramFrame x.stream f errs
    let y := r.1.streamOf x.stream
    (r.1.setStream x.stream { y with tail := y.tail.set (y.cdpTook + x.ahead) r.2 }, r.2)

/-- The next segment of a stream's frame goes out: up to 448 bytes, header and stored words unchanged. -/
def State.sendSegment (s : State) (k : Nat) (x : Sub) (y : Session) (f : Frame) : State :=
  let bytes := bytesOfWords f.words
  let part := (bytes.drop x.sent).take 448
  let last := decide (bytes.length ≤ x.sent + 448)
  let body := eventHead 1 k :: w32 (bytes.length % 65536 * 65536 + x.sent % 65536) :: wordsOfBytes part
  let x1 : Sub := if last then { x with sent := 0, ahead := x.ahead + 1 } else { x with sent := x.sent + 448 }
  ((s.outletCarries x.stream part.length).setSub k x1).event x.session y (!last) body (if last then some x.stream else none)

/-- The oldest alert of a subscription goes out. -/
def State.sendAlert (s : State) (k : Nat) (x : Sub) (y : Session) : State :=
  match s.net.alerts.find? (fun (a : Nat × Nat × Nat) => decide (a.1 = k)) with
  | some a =>
    { s with net := { s.net with alerts := s.net.alerts.erase a } }.event x.session y false
      [eventHead 2 k, w32 a.2.1, w32 a.2.2] none
  | none => s

/-! ### Acknowledgement (R384) -/

/-- `a` is at or before `b`, modulo 2^32. -/
def seqUpTo (a b : Nat) : Bool := decide ((b % 2 ^ 32 + 2 ^ 32 - a % 2 ^ 32) % 2 ^ 32 < 2 ^ 31)

/-- A frame of a stream has been acknowledged whole: the CDP outlet has taken it. -/
def State.frameTaken (s : State) (n : Nat) : State :=
  let y := s.streamOf n
  let subs := s.net.subs.map (fun (z : Nat × Sub) =>
    if z.2.kind = 2 ∧ z.2.stream = n then (z.1, { z.2 with ahead := z.2.ahead - 1 }) else z)
  ({ s with net := { s.net with subs := subs } }.setStream n { y with cdpTook := y.cdpTook + 1 }).drainTail n

/-- Every EVENT of a session up to a number is acknowledged. -/
def State.ackEvents (s : State) (n upTo : Nat) : State :=
  match tfind s.net.sessions n with
  | some x =>
    let done := x.unacked.filter (fun e => seqUpTo e.seq upTo)
    if done.isEmpty then s
    else
      let y : Session := { x with unacked := x.unacked.filter (fun e => !seqUpTo e.seq upTo), evAt := s.now }
      let s1 := { s with net := { s.net with sessions := tset s.net.sessions n y } }
      ((done.filterMap EventMsg.frame).foldl State.frameTaken s1).offerWaiting n
  | none => s

/-! ### SUBSCRIBE (R382) -/

/-- The lowest subscription number that is free. -/
def State.freeSub (s : State) : Option Nat := (List.range 16).find? (fun k => (tfind s.net.subs k).isNone)

/-- A subscription is made, and its number answered. -/
def State.subscribe (s : State) (h : CdpHdr) (r : Reply) (x : Sub) : State :=
  match s.freeSub with
  | none => s.abort h r (abOp 5 2 0)
  | some k => (s.setSub k { x with last := s.reading k x.items }).respond r false [w32 k]

/-- The first item of a parameter subscription that names nothing. -/
def itemsFail (l : List CdpItem) : Option Abort :=
  l.findSome? (fun x => match x.param false with
    | .inr a => some a
    | .inl _ => none)

/-- SUBSCRIBE kinds 0 and 1: W1 interval in ms, W2 the number of items, then the items. -/
def State.subscribeParams (s : State) (h : CdpHdr) (r : Reply) (body : List Word) (onChange : Bool) : State :=
  let ms := bodyWord body 1
  let n := bodyWord body 2 % 256
  let items := body.drop 3
  if body.length < 3 ∨ items.length ≠ n then s.badLength h r
  else if 64 < n ∨ ms < 10 ∨ (!onChange ∧ 3600000 < ms) then s.abort h r (abOp 4 1 0)
  else
    match itemsFail (itemsOf items) with
    | some a => s.abort h r a
    | none =>
      if 508 < 20 + 16 + 4 * (4 + (s.subValues items).length) then s.abort h r (abOp 5 1 0)
      else s.subscribe h r ⟨h.session, b2n onChange, ms, items, 0, s.now + ms * 256000000, [], false, 0, 0⟩

/-- SUBSCRIBE kind 2: W2 [2:0] names the stream. Frames that stand in its tail abutment count as taken. -/
def State.subscribeStream (s : State) (h : CdpHdr) (r : Reply) (body : List Word) : State :=
  let n := bodyWord body 2 % 8
  if body.length ≠ 3 then s.badLength h r
  else if !bit (s.par Ix.streamOutlets n) 1 || s.cdpSubscribed n then s.abort h r (abOp 5 4 0)
  else if s.freeSub.isNone then s.abort h r (abOp 5 2 0)
  else
    let y := s.streamOf n
    (s.setStream n { y with cdpTook := y.tail.length }).subscribe h r ⟨h.session, 2, 0, [], n, 0, [], false, 0, 0⟩

/-- SUBSCRIBE kind 4: W2 [7:0] names a subscription of the session. -/
def State.cancelSub (s : State) (h : CdpHdr) (r : Reply) (body : List Word) : State :=
  let k := bodyWord body 2 % 256
  if body.length ≠ 3 then s.badLength h r
  else
    match tfind s.net.subs k with
    | some x => if x.session = h.session then (s.endSub k).respond r false [w32 k] else s.abort h r (abOp 4 1 0)
    | none => s.abort h r (abOp 4 1 0)

/-! ### The commands -/

/-- SUBSCRIBE_PERIODIC: SUBSCRIBE kind 0. -/
def execSubscribePeriodic (t : Nat) (h : CdpHdr) (body : List Word) (s : State) : Host.Outcome State Fault Refusal :=
  (s.enter t).cdp h 0x30 .session body (fun u r => u.subscribeParams h r body false)

/-- SUBSCRIBE_ON_CHANGE: SUBSCRIBE kind 1. -/
def execSubscribeOnChange (t : Nat) (h : CdpHdr) (body : List Word) (s : State) : Host.Outcome State Fault Refusal :=
  (s.enter t).cdp h 0x30 .session body (fun u r => u.subscribeParams h r body true)

/-- SUBSCRIBE_STREAM: SUBSCRIBE kind 2. -/
def execSubscribeStream (t : Nat) (h : CdpHdr) (body : List Word) (s : State) : Host.Outcome State Fault Refusal :=
  (s.enter t).cdp h 0x30 .session body (fun u r => u.subscribeStream h r body)

/-- SUBSCRIBE_ALERTS: SUBSCRIBE kind 3. -/
def execSubscribeAlerts (t : Nat) (h : CdpHdr) (body : List Word) (s : State) : Host.Outcome State Fault Refusal :=
  (s.enter t).cdp h 0x30 .session body (fun u r =>
    if body.length = 2 then u.subscribe h r ⟨h.session, 3, 0, [], 0, 0, [], false, 0, 0⟩ else u.badLength h r)

/-- SUBSCRIBE_CANCEL: SUBSCRIBE kind 4. -/
def execSubscribeCancel (t : Nat) (h : CdpHdr) (body : List Word) (s : State) : Host.Outcome State Fault Refusal :=
  (s.enter t).cdp h 0x30 .session body (fun u r => u.cancelSub h r body)

/-- EVENT_ACKNOWLEDGE: SUBSCRIBE kind 5. The subscription number of its answer names nothing: a free value. -/
def execEventAcknowledge (t : Nat) (h : CdpHdr) (body : List Word) (s : State) : Host.Outcome State Fault Refusal :=
  (s.enter t).cdp h 0x30 .session body (fun u r =>
    if body.length = 3 then
      (u.draw.ackEvents h.session (bodyWord body 2)).respond r false [w32 (Config.freeNat u.fresh % 256)]
    else u.badLength h r)

/-- SUBSCRIPTION_TIMER: a subscription's interval expires (R382): a reading goes out, of kind 1 only where a value differs. -/
def execSubscriptionTimer (t : Nat) (k : Fin 16) (s : State) : Host.Outcome State Fault Refusal :=
  let s1 := s.enter t
  match tfind s1.net.subs k with
  | some x =>
    if x.kind ≤ 1 ∧ x.due ≤ s1.now ∧ s1.runs 2 then
      let now_ := s1.reading k x.items
      let x1 : Sub := { x with due := x.due + x.interval * 256000000 }
      if x.kind = 1 ∧ now_.drop 4 = x.last.drop 4 then .next (s1.setSub k x1)
      else .next (s1.offer k { x1 with last := now_ })
    else .next s1
  | none => .next s1

/-- EVENT_SEND: the next segment of a stream subscription, at the outlet's rate, or the oldest alert of an alert subscription (R383,
R384); `errs` are codewords of the tail abutment in error, met where a frame begins. -/
def execEventSend (t : Nat) (k : Fin 16) (errs : List CodeErr) (s : State) : Host.Outcome State Fault Refusal :=
  let s1 := s.enter t
  match tfind s1.net.subs k with
  | some x =>
    match tfind s1.net.sessions x.session with
    | some y =>
      if !y.open_ ∨ !s1.runs 2 then .next s1
      else if x.kind = 3 then .next (s1.sendAlert k x y)
      else if x.kind = 2 then
        match s1.nextFrame x with
        | some f =>
          if s1.outletFree x.stream then
            let r := s1.outletRead x f errs
            .next (r.1.sendSegment k x y r.2)
          else .next s1
        | none => .next s1
      else .next s1
    | none => .next s1
  | none => .next s1

/-- EVENT_RESEND: no EVENT of a session acknowledged for 20 ms (R384). -/
def execEventResend (t : Nat) (n : Nat) (s : State) : Host.Outcome State Fault Refusal :=
  let s1 := s.enter t
  match tfind s1.net.sessions n with
  | some x =>
    if x.unacked.isEmpty ∨ s1.now < x.evAt + 5120000000 ∨ !s1.runs 2 then .next s1
    else
      let y : Session := { x with evAt := s1.now }
      let s2 := ({ s1 with net := { s1.net with sessions := tset s1.net.sessions n y } }).cnt Ix.netEventResends 0
      .next (x.unacked.foldl (fun u e => u.eventOut n y e) s2)
  | none => .next s1

end Sys2Proof.Machine
end

