-- ==== Sys2Proof/Machine/Ethernet.lean ====
section
/-! DEFINITION. Frames of the field network (16_field_network.md R370 to R373, R388; 02 R44).

Readings and choices here: DEDUCED log 73. -/
namespace Sys2Proof.Machine

/-- A frame is forwarded to the other port (R370): not one for this device, no PTP, not its own ring test frame, and nothing
while a closer keeps the ring closed (R372). -/
def State.forwards (s : State) (dst : EthDst) (body : EthBody) : Bool :=
  decide (dst ≠ .mine) && decide (body ≠ .ptp) && decide (body ≠ .ringTest) && decide (s.par Ix.netRingState 0 ≠ 1)

/-- The frame leaves the other port, if it can send; its FCS is inverted where it came in bad. -/
def State.forwardFrame (s : State) (port : Fin 2) (bad : Bool) : State :=
  if s.canSend (1 - port.val) then s.send (.forward (1 - port.val) bad) else s

/-- The closer receives its own test frame on ETH1 (R372). -/
def State.testFrame (s : State) (port : Fin 2) : State :=
  if s.par Ix.netRingRole 0 = 1 ∧ port = 1 then
    { s.setPar Ix.netRingState 0 1 with net := { s.net with testSeen := s.now } }
  else s

/-- An ESMC PDU gives the port's received quality level; an automatic reference follows (R44). -/
def State.esmcLevel (s : State) (port : Fin 2) (level : Nat) : State :=
  let s1 := s.setPar Ix.synceQlRx port (level % 256)
  if s1.par Ix.synceRefSelect 0 = 3 then s1.autoRef else s1

/-- ARP and echo requests of IPv4 are answered while IPv4 is on, those of IPv6 always (R373). -/
def State.answerFrame (s : State) (port : Fin 2) (what : Fin 4) : State :=
  let v4 := decide (what = 0) || decide (what = 2)
  if v4 && decide (s.par Ix.netIp4Addr 0 = 0) then s
  else if s.canSend port then s.send (.answer port what) else s

/-- A CDP message that no command carries: OP outside Table 3, EVENT, or a SESSION_AUTH or SUBSCRIBE of a kind that R378 and
R382 do not give. -/
def State.cdpStray (s : State) (h : CdpHdr) (op : Nat) (body : List Word) : State :=
  let known := decide (op = 0x03) || decide (op = 0x30)
  let a := s.admitCdp h op known .session body
  match a.2 with
  | some r => a.1.abort h r (abOp 4 1 0)
  | none => a.1

/-- The device takes a frame (R370, R373, R388). CDP and answers begin with the end of step 7 (R446). -/
def State.takeFrame (s : State) (port : Fin 2) (body : EthBody) : State :=
  let served := decide (8 ≤ s.par Ix.startStep 0)
  match body with
  | .ptp => s
  | .ringTest => s.testFrame port
  | .esmc level => s.esmcLevel port level
  | .request what => if served then s.answerFrame port what else s
  | .cdpMalformed peer pos => if served then s.partnerFault (1 + port) peer 16 pos else s
  | .cdpOther h op ws => s.cdpStray { h with port := port } op ws
  | .cdp => s
  | .other => s

/-- ETH_FRAME_RX: a frame of `len` bytes, destination address to FCS, reaches a port: discarded and counted if it is too long,
else forwarded, taken, or both (R370, R371). A frame of fewer than 64 bytes is neither; one with a bad FCS is not taken. -/
def execEthFrameRx (t : Nat) (port : Fin 2) (dst : EthDst) (len : Nat) (fcsOk : Bool) (body : EthBody) (s : State) :
    Host.Outcome State Fault Refusal :=
  let s1 := s.enter t
  if !s1.portUp port ∨ !bit (s1.par Ix.clkDomainGood 0) 5 ∨ len < 64 then .next s1
  else if 576 < len then .next (s1.cnt Ix.netOversize port)
  else
    let s2 := if fcsOk then s1 else s1.cnt Ix.netFcsErrors port
    let s3 := if s2.forwards dst body then s2.forwardFrame port (!fcsOk) else s2
    if fcsOk ∧ dst ≠ .other then .next (s3.takeFrame port body) else .next s3

end Sys2Proof.Machine
end

