-- ==== Sys2Proof/Machine/Dispatch.lean ====
section
/-! DEFINITION. Dispatch: one arm per command, one call of its meaning. -/
namespace Sys2Proof.Machine

/-- The effect of a command on everything but the queue. -/
def exec (i : Instr) (s : State) : Host.Outcome State Fault Refusal :=
  match i with
  | .powerOn t resetN straps => Sys2Proof.Machine.execPowerOn t resetN straps s
  | .resetNAssert t => Sys2Proof.Machine.execResetNAssert t s
  | .startUpStepEnd t faults channels rate xbEdge sroEdge => Sys2Proof.Machine.execStartUpStepEnd t faults channels rate xbEdge sroEdge s
  | .brownOut t aon => Sys2Proof.Machine.execBrownOut t aon s
  | .railLow t rail => Sys2Proof.Machine.execRailLow t rail s
  | .sourceReady t src pass xbEdge sroEdge => Sys2Proof.Machine.execSourceReady t src pass xbEdge sroEdge s
  | .pllLock t l inFlight hanging => Sys2Proof.Machine.execPllLock t l inFlight hanging s
  | .clockFailure t code stopped xbEdge sroEdge inFlight hanging => Sys2Proof.Machine.execClockFailure t code stopped xbEdge sroEdge inFlight hanging s
  | .safeHoldEntry t inFlight hanging => Sys2Proof.Machine.execSafeHoldEntry t inFlight hanging s
  | .safeHoldRetry t xa => Sys2Proof.Machine.execSafeHoldRetry t xa s
  | .domainRelease t => Sys2Proof.Machine.execDomainRelease t s
  | .autoReturn t => Sys2Proof.Machine.execAutoReturn t s
  | .clkReturn t => Sys2Proof.Machine.execClkReturn t s
  | .sourceSelectWrite t opal v => Sys2Proof.Machine.execSourceSelectWrite t opal v s
  | .forceSrcWrite t sub v => Sys2Proof.Machine.execForceSrcWrite t sub v s
  | .jasperPointWrite t v => Sys2Proof.Machine.execJasperPointWrite t v s
  | .dvfsDwellEnd t => Sys2Proof.Machine.execDvfsDwellEnd t s
  | .pgoodTimeout t => Sys2Proof.Machine.execPgoodTimeout t s
  | .pgoodFall t => Sys2Proof.Machine.execPgoodFall t s
  | .pgoodRise t => Sys2Proof.Machine.execPgoodRise t s
  | .pwrCmd t v busy => Sys2Proof.Machine.execPwrCmd t v busy s
  | .pwrPierCmd t p v busy => Sys2Proof.Machine.execPwrPierCmd t p v busy s
  | .powerStateEffect t xbEdge sroEdge => Sys2Proof.Machine.execPowerStateEffect t xbEdge sroEdge s
  | .wakeEvent t cause lane => Sys2Proof.Machine.execWakeEvent t cause lane s
  | .unitWake t u => Sys2Proof.Machine.execUnitWake t u s
  | .watchdogExpiry t inFlight hanging => Sys2Proof.Machine.execWatchdogExpiry t inFlight hanging s
  | .fwConfirm t => Sys2Proof.Machine.execFwConfirm t s
  | .ageHour t mean => Sys2Proof.Machine.execAgeHour t mean s
  | .tjSample t tj => Sys2Proof.Machine.execTjSample t tj s
  | .timeLoadCmd t => Sys2Proof.Machine.execTimeLoadCmd t s
  | .timeLoadEffect t => Sys2Proof.Machine.execTimeLoadEffect t s
  | .ptpMessageRx t port m => Sys2Proof.Machine.execPtpMessageRx t port m s
  | .announceTimeout t port => Sys2Proof.Machine.execAnnounceTimeout t port s
  | .servoSlewTick t add => Sys2Proof.Machine.execServoSlewTick t add s
  | .forwardStep t => Sys2Proof.Machine.execForwardStep t s
  | .backwardStep t => Sys2Proof.Machine.execBackwardStep t s
  | .ppsOutEdge t => Sys2Proof.Machine.execPpsOutEdge t s
  | .ppsInEdge t base code => Sys2Proof.Machine.execPpsInEdge t base code s
  | .froMeasurement t fro xb sro => Sys2Proof.Machine.execFroMeasurement t fro xb sro s
  | .tdcCalWindowEnd t src counts => Sys2Proof.Machine.execTdcCalWindowEnd t src counts s
  | .tdcTableUpdate t => Sys2Proof.Machine.execTdcTableUpdate t s
  | .thresholdEdge t src base code inp => Sys2Proof.Machine.execThresholdEdge t src base code inp s
  | .tdcResample t src => Sys2Proof.Machine.execTdcResample t src s
  | .deglitchEnd t src => Sys2Proof.Machine.execDeglitchEnd t src s
  | .digitalSample t lane instant => Sys2Proof.Machine.execDigitalSample t lane instant s
  | .fcZoneChange t lane pos neg => Sys2Proof.Machine.execFcZoneChange t lane pos neg s
  | .eventDelivery t src errs => Sys2Proof.Machine.execEventDelivery t src errs s
  | .bufDrop t src => Sys2Proof.Machine.execBufDrop t src s
  | .lossAccountClose t src => Sys2Proof.Machine.execLossAccountClose t src s
  | .causewayRelease t errs => Sys2Proof.Machine.execCausewayRelease t errs s
  | .frameAgeClose t n => Sys2Proof.Machine.execFrameAgeClose t n s
  | .streamFlush t n => Sys2Proof.Machine.execStreamFlush t n s
  | .keystoneItem t => Sys2Proof.Machine.execKeystoneItem t s
  | .deadlineItem t => Sys2Proof.Machine.execDeadlineItem t s
  | .markOutSend t => Sys2Proof.Machine.execMarkOutSend t s
  | .timedActionExec t => Sys2Proof.Machine.execTimedActionExec t s
  | .pulseEnd t target => Sys2Proof.Machine.execPulseEnd t target s
  | .guardSafeAll t => Sys2Proof.Machine.execGuardSafeAll t s
  | .guardSafeRelease t lane => Sys2Proof.Machine.execGuardSafeRelease t lane s
  | .vdSafeRelease t line => Sys2Proof.Machine.execVdSafeRelease t line s
  | .exSafeRelease t k => Sys2Proof.Machine.execExSafeRelease t k s
  | .safeReleaseEffect t target => Sys2Proof.Machine.execSafeReleaseEffect t target s
  | .exFlagSet t k open_ reading => Sys2Proof.Machine.execExFlagSet t k open_ reading s
  | .exFlagClear t k open_ reading => Sys2Proof.Machine.execExFlagClear t k open_ reading s
  | .exSwap t k => Sys2Proof.Machine.execExSwap t k s
  | .biasOverload t pier on => Sys2Proof.Machine.execBiasOverload t pier on s
  | .caAutoTrip t a pre residual => Sys2Proof.Machine.execCaAutoTrip t a pre residual s
  | .caPeriodicReset t a pre residual => Sys2Proof.Machine.execCaPeriodicReset t a pre residual s
  | .caResetCmd t a => Sys2Proof.Machine.execCaResetCmd t a s
  | .caResetEnd t a pos neg => Sys2Proof.Machine.execCaResetEnd t a pos neg s
  | .clampSet t pier pin => Sys2Proof.Machine.execClampSet t pier pin s
  | .clampClear t pier pin => Sys2Proof.Machine.execClampClear t pier pin s
  | .toneBurst t pier => Sys2Proof.Machine.execToneBurst t pier s
  | .toneResult t lane nv => Sys2Proof.Machine.execToneResult t lane nv s
  | .sampleOutput t lane raw saturated overload => Sys2Proof.Machine.execSampleOutput t lane raw saturated overload s
  | .calUserCommit t lane => Sys2Proof.Machine.execCalUserCommit t lane s
  | .rotationSlot t pier diffs => Sys2Proof.Machine.execRotationSlot t pier diffs s
  | .rotationDecision t pier => Sys2Proof.Machine.execRotationDecision t pier s
  | .referenceCycleEnd t pier slice zero plus minus tonePpm => Sys2Proof.Machine.execReferenceCycleEnd t pier slice zero plus minus tonePpm s
  | .pierSliceRetest t pier => Sys2Proof.Machine.execPierSliceRetest t pier s
  | .caissonRecord t pier raws errs => Sys2Proof.Machine.execCaissonRecord t pier raws errs s
  | .snapshotFraming t pier errs => Sys2Proof.Machine.execSnapshotFraming t pier errs s
  | .caissonRearm t pier => Sys2Proof.Machine.execCaissonRearm t pier s
  | .berylEngineTake t engine errs => Sys2Proof.Machine.execBerylEngineTake t engine errs s
  | .berylComplete t engine => Sys2Proof.Machine.execBerylComplete t engine s
  | .frameToHead t n errs => Sys2Proof.Machine.execFrameToHead t n errs s
  | .spanMove t n fromSpan errs => Sys2Proof.Machine.execSpanMove t n fromSpan errs s
  | .spanRestart t n => Sys2Proof.Machine.execSpanRestart t n s
  | .fetchStart t => Sys2Proof.Machine.execFetchStart t s
  | .fetchAbort t => Sys2Proof.Machine.execFetchAbort t s
  | .fetchFrame t errs => Sys2Proof.Machine.execFetchFrame t errs s
  | .refreshSlot t hot => Sys2Proof.Machine.execRefreshSlot t hot s
  | .scrubSlot t count errs => Sys2Proof.Machine.execScrubSlot t count errs s
  | .tmrScrub t ix sub c0 c1 c2 => Sys2Proof.Machine.execTmrScrub t ix sub c0 c1 c2 s
  | .configEffect t reads => Sys2Proof.Machine.execConfigEffect t reads s
  | .dictSnapshot t => Sys2Proof.Machine.execDictSnapshot t s
  | .snapshotTake t => Sys2Proof.Machine.execSnapshotTake t s
  | .slowWriteApply t busy => Sys2Proof.Machine.execSlowWriteApply t busy s
  | .registerWrite t bar2 off ws firstBe lastBe tlp busy => Sys2Proof.Machine.execRegisterWrite t bar2 off ws firstBe lastBe tlp busy s
  | .wideWordWrite t ix k w tlp busy => Sys2Proof.Machine.execWideWordWrite t ix k w tlp busy s
  | .wideLowRead t bar2 off n firstBe lastBe tlp => Sys2Proof.Machine.execWideLowRead t bar2 off n firstBe lastBe tlp s
  | .configRequest t write dw be v => Sys2Proof.Machine.execConfigRequest t write dw be v s
  | .perstNFall t inFlight hanging => Sys2Proof.Machine.execPerstNFall t inFlight hanging s
  | .hotReset t => Sys2Proof.Machine.execHotReset t s
  | .linkDown t => Sys2Proof.Machine.execLinkDown t s
  | .linkUp t speed width => Sys2Proof.Machine.execLinkUp t speed width s
  | .inboundTlpError t e advisory answer tlp => Sys2Proof.Machine.execInboundTlpError t e advisory answer tlp s
  | .portResume t tlp => Sys2Proof.Machine.execPortResume t tlp s
  | .portRestart t tlp => Sys2Proof.Machine.execPortRestart t tlp s
  | .ringEnable t n tlp => Sys2Proof.Machine.execRingEnable t n tlp s
  | .ringDisable t n tlp => Sys2Proof.Machine.execRingDisable t n tlp s
  | .doorbellHostPtr t n v tlp => Sys2Proof.Machine.execDoorbellHostPtr t n v tlp s
  | .doorbellHostSeen t n v tlp => Sys2Proof.Machine.execDoorbellHostSeen t n v tlp s
  | .descriptorRead t n want => Sys2Proof.Machine.execDescriptorRead t n want s
  | .completionRx t tag poisoned ws tlp => Sys2Proof.Machine.execCompletionRx t tag poisoned ws tlp s
  | .completionTimeout t tag => Sys2Proof.Machine.execCompletionTimeout t tag s
  | .tagQuarantineEnd t tag => Sys2Proof.Machine.execTagQuarantineEnd t tag s
  | .frameDeliver t n errs => Sys2Proof.Machine.execFrameDeliver t n errs s
  | .idleClose t n => Sys2Proof.Machine.execIdleClose t n s
  | .irqMessage t src => Sys2Proof.Machine.execIrqMessage t src s
  | .irqAck t n v => Sys2Proof.Machine.execIrqAck t n v s
  | .windowEnable t n => Sys2Proof.Machine.execWindowEnable t n s
  | .windowDisable t n outstanding => Sys2Proof.Machine.execWindowDisable t n outstanding s
  | .windowDrained t n => Sys2Proof.Machine.execWindowDrained t n s
  | .bar4Read t a n errs tlp => Sys2Proof.Machine.execBar4Read t a n errs tlp s
  | .bar4Write t a ws firstBe lastBe errs tlp => Sys2Proof.Machine.execBar4Write t a ws firstBe lastBe errs tlp s
  | .ethFrameRx t port dst len fcsOk body => Sys2Proof.Machine.execEthFrameRx t port dst len fcsOk body s
  | .ringTestSend t => Sys2Proof.Machine.execRingTestSend t s
  | .ringTestTimeout t => Sys2Proof.Machine.execRingTestTimeout t s
  | .markOutRx t port dst length body peer => Sys2Proof.Machine.execMarkOutRx t port dst length body peer s
  | .identify t h body => Sys2Proof.Machine.execIdentify t h body s
  | .sessionOpen t h body => Sys2Proof.Machine.execSessionOpen t h body s
  | .sessionAuthKeys t h body => Sys2Proof.Machine.execSessionAuthKeys t h body s
  | .sessionAuthSign t h body => Sys2Proof.Machine.execSessionAuthSign t h body s
  | .sessionClose t h body => Sys2Proof.Machine.execSessionClose t h body s
  | .sessionIdleTimeout t n => Sys2Proof.Machine.execSessionIdleTimeout t n s
  | .ownershipTake t h body => Sys2Proof.Machine.execOwnershipTake t h body s
  | .ownershipRelease t h body => Sys2Proof.Machine.execOwnershipRelease t h body s
  | .cdpRead t h body => Sys2Proof.Machine.execCdpRead t h body s
  | .cdpWrite t h body => Sys2Proof.Machine.execCdpWrite t h body s
  | .readMulti t h body => Sys2Proof.Machine.execReadMulti t h body s
  | .writeMulti t h body => Sys2Proof.Machine.execWriteMulti t h body s
  | .cdpEnable t h body => Sys2Proof.Machine.execCdpEnable t h body s
  | .cdpDisable t h body => Sys2Proof.Machine.execCdpDisable t h body s
  | .snapshotCounters t h body => Sys2Proof.Machine.execSnapshotCounters t h body s
  | .cdpResponseSend t => Sys2Proof.Machine.execCdpResponseSend t s
  | .subscribePeriodic t h body => Sys2Proof.Machine.execSubscribePeriodic t h body s
  | .subscribeOnChange t h body => Sys2Proof.Machine.execSubscribeOnChange t h body s
  | .subscribeStream t h body => Sys2Proof.Machine.execSubscribeStream t h body s
  | .subscribeAlerts t h body => Sys2Proof.Machine.execSubscribeAlerts t h body s
  | .subscribeCancel t h body => Sys2Proof.Machine.execSubscribeCancel t h body s
  | .eventAcknowledge t h body => Sys2Proof.Machine.execEventAcknowledge t h body s
  | .subscriptionTimer t k => Sys2Proof.Machine.execSubscriptionTimer t k s
  | .eventSend t k errs => Sys2Proof.Machine.execEventSend t k errs s
  | .eventResend t n => Sys2Proof.Machine.execEventResend t n s
  | .attest t h body => Sys2Proof.Machine.execAttest t h body s
  | .cdpSave t h body => Sys2Proof.Machine.execCdpSave t h body s
  | .cdpLoad t h body => Sys2Proof.Machine.execCdpLoad t h body s
  | .storeSave t => Sys2Proof.Machine.execStoreSave t s
  | .storeSaveSigned t => Sys2Proof.Machine.execStoreSaveSigned t s
  | .storeLoadCurrent t => Sys2Proof.Machine.execStoreLoadCurrent t s
  | .storeLoadA t => Sys2Proof.Machine.execStoreLoadA t s
  | .storeLoadB t => Sys2Proof.Machine.execStoreLoadB t s
  | .saveComplete t ok => Sys2Proof.Machine.execSaveComplete t ok s
  | .fwStage t h body => Sys2Proof.Machine.execFwStage t h body s
  | .fwActivate t h body inFlight hanging => Sys2Proof.Machine.execFwActivate t h body inFlight hanging s
  | .ethLinkDown t port => Sys2Proof.Machine.execEthLinkDown t port s
  | .ethLinkUp t port => Sys2Proof.Machine.execEthLinkUp t port s
  | .ptpMessageSend t port kind => Sys2Proof.Machine.execPtpMessageSend t port kind s
  | .esmcPduSend t port => Sys2Proof.Machine.execEsmcPduSend t port s
  | .brownOutClear t aon => Sys2Proof.Machine.execBrownOutClear t aon s
  | .railLowClear t rail => Sys2Proof.Machine.execRailLowClear t rail s
  | .perstNRise t => Sys2Proof.Machine.execPerstNRise t s
  | .resetNRelease t straps => Sys2Proof.Machine.execResetNRelease t straps s
  | .msixVectorUnmask t v tlp => Sys2Proof.Machine.execMsixVectorUnmask t v tlp s

end Sys2Proof.Machine
end

