-- ==== Sys2Proof/Machine/Touches.lean ====
section
/-! DEFINITION. What each command may touch: the parts of the state and the dictionary parameters. Time and what is sent out may
change with every command; what is not named here stays. -/
namespace Sys2Proof.Machine

/-- The parts of the state besides the queue, Garnet time, the outputs and the dictionary; each is a field of State. -/
inductive Part where
  | fresh | resetHeld | time | edge | run | guard | line | clockCause | brownCause | ex
  | ca | tone | clamp | conv | slice | overlap | staged | slots | markOut | markOutNum
  | driven | cw | src | units | seqs | stream | cai | mem | dram | fetch
  | host | net | clk | nv | pflLast | ds | hostPath | mgmtPath
  deriving DecidableEq, Repr

/-- A part is the same in two states. -/
def Part.same (s t : State) : Part → Prop
  | .fresh => t.fresh = s.fresh
  | .resetHeld => t.resetHeld = s.resetHeld
  | .time => t.time = s.time
  | .edge => t.edge = s.edge
  | .run => t.run = s.run
  | .guard => t.guard = s.guard
  | .line => t.line = s.line
  | .clockCause => t.clockCause = s.clockCause
  | .brownCause => t.brownCause = s.brownCause
  | .ex => t.ex = s.ex
  | .ca => t.ca = s.ca
  | .tone => t.tone = s.tone
  | .clamp => t.clamp = s.clamp
  | .conv => t.conv = s.conv
  | .slice => t.slice = s.slice
  | .overlap => t.overlap = s.overlap
  | .staged => t.staged = s.staged
  | .slots => t.slots = s.slots
  | .markOut => t.markOut = s.markOut
  | .markOutNum => t.markOutNum = s.markOutNum
  | .driven => t.driven = s.driven
  | .cw => t.cw = s.cw
  | .src => t.src = s.src
  | .units => t.units = s.units
  | .seqs => t.seqs = s.seqs
  | .stream => t.stream = s.stream
  | .cai => t.cai = s.cai
  | .mem => t.mem = s.mem
  | .dram => t.dram = s.dram
  | .fetch => t.fetch = s.fetch
  | .host => t.host = s.host
  | .net => t.net = s.net
  | .clk => t.clk = s.clk
  | .nv => t.nv = s.nv
  | .pflLast => t.pflLast = s.pflLast
  | .ds => t.ds = s.ds
  | .hostPath => t.hostPath = s.hostPath
  | .mgmtPath => t.mgmtPath = s.mgmtPath

/-- The name of an index's parameter, as the first index of its layout; none where no parameter stands (R343). -/
def paramName (ix : Nat) : Option Nat := (paramOf ix).map Param.ix

/-- Only parameters named in the list have other values in force. -/
def State.keepsOthers (s t : State) (names : List Nat) : Prop :=
  ∀ ix sub, (∀ n, paramName ix = some n → n ∉ names) → t.par ix sub = s.par ix sub

/-- The parts a command may touch. -/
def touches : Instr → List Part
  | .powerOn .. | .resetNAssert .. | .resetNRelease .. => [.resetHeld, .time, .edge, .run, .guard, .line, .clockCause,
    .brownCause, .ex, .ca, .tone, .clamp, .conv, .slice, .overlap, .staged, .slots, .markOut, .markOutNum, .driven, .cw,
    .src, .units, .seqs, .stream, .cai, .mem, .dram, .fetch, .host, .net, .clk, .nv, .pflLast, .ds, .hostPath, .mgmtPath]
  | .startUpStepEnd .. => [.fresh, .time, .edge, .run, .guard, .line, .ex, .tone, .clamp, .conv, .slice, .overlap, .staged,
    .cw, .stream, .cai, .dram, .host, .net, .clk, .nv, .hostPath, .mgmtPath]
  | .brownOut .. => [.edge, .guard, .line, .brownCause, .ex, .tone, .conv, .overlap, .cw, .clk]
  | .railLow .. | .tjSample .. | .linkUp .. | .windowEnable .. | .windowDisable .. | .windowDrained .. | .ringTestSend .. |
    .ringTestTimeout .. | .ethLinkUp .. | .railLowClear .. => []
  | .sourceReady .. => [.time, .cw, .clk]
  | .pllLock .. => [.time, .edge, .run, .guard, .line, .clockCause, .ex, .tone, .clamp, .conv, .slice, .overlap, .slots,
    .driven, .cw, .cai, .net, .clk]
  | .clockFailure .. => [.fresh, .time, .edge, .run, .guard, .line, .clockCause, .ex, .tone, .clamp, .conv, .slice,
    .overlap, .cw, .cai, .net, .clk]
  | .safeHoldEntry .. | .safeHoldRetry .. | .jasperPointWrite .. | .dvfsDwellEnd .. | .pgoodTimeout .. | .pgoodFall .. |
    .pgoodRise .. | .wakeEvent .. | .unitWake .. => [.clk]
  | .domainRelease .. => [.time, .edge, .guard, .line, .clockCause, .ex, .conv, .overlap, .slots, .driven, .cw, .net, .clk]
  | .autoReturn .. | .clkReturn .. => [.time, .conv, .overlap, .cw, .net, .clk]
  | .sourceSelectWrite .. | .forceSrcWrite .. | .calUserCommit .. | .slowWriteApply .. => [.fresh, .time, .edge, .guard,
    .line, .ex, .tone, .conv, .slice, .overlap, .staged, .cw, .stream, .fetch, .host, .net, .clk, .nv, .ds, .hostPath,
    .mgmtPath]
  | .pwrCmd .. | .pwrPierCmd .. => [.fresh, .clk]
  | .powerStateEffect .. => [.time, .edge, .run, .ex, .tone, .clamp, .conv, .slice, .overlap, .cw, .stream, .cai, .host,
    .net, .clk]
  | .watchdogExpiry .. => [.stream, .net, .nv]
  | .fwConfirm .. => [.nv]
  | .ageHour .. | .storeSave .. | .storeSaveSigned .. => [.fresh, .nv]
  | .timeLoadCmd .. | .servoSlewTick .. | .ppsOutEdge .. | .froMeasurement .. | .tdcCalWindowEnd .. | .tdcTableUpdate .. |
    .ptpMessageSend .. => [.time]
  | .timeLoadEffect .. => [.time, .edge, .run, .guard, .line, .ex, .ca, .tone, .clamp, .conv, .slice, .overlap, .slots,
    .markOut, .markOutNum, .driven, .cw, .src, .units, .seqs, .stream, .cai, .dram, .host, .net, .clk, .nv, .pflLast, .ds]
  | .ptpMessageRx .. => [.fresh, .time, .cw, .net, .pflLast]
  | .announceTimeout .. => [.fresh, .time, .cw]
  | .forwardStep .. => [.time, .edge, .guard, .line, .ex, .conv, .overlap, .slots, .cw, .cai, .host, .net, .clk, .nv, .ds]
  | .backwardStep .. => [.time, .edge, .run, .ex, .ca, .tone, .clamp, .conv, .slice, .overlap, .driven, .cw, .stream,
    .dram, .host, .net, .clk, .nv, .pflLast, .ds]
  | .ppsInEdge .. | .thresholdEdge .. => [.fresh, .time, .edge, .run, .guard, .line, .ex, .ca, .tone, .clamp, .conv,
    .slice, .overlap, .slots, .markOut, .markOutNum, .driven, .cw, .src, .units, .seqs, .stream, .cai, .dram, .host, .net,
    .clk, .nv, .pflLast, .ds]
  | .tdcResample .. | .deglitchEnd .. | .digitalSample .. | .bufDrop .. => [.edge]
  | .fcZoneChange .. | .caResetEnd .. => [.fresh, .edge]
  | .eventDelivery .. | .lossAccountClose .. => [.edge, .cw]
  | .causewayRelease .. | .keystoneItem .. | .deadlineItem .. => [.slots, .markOut, .markOutNum, .cw, .src, .units, .seqs,
    .stream, .cai, .net]
  | .frameAgeClose .. | .streamFlush .. => [.cw, .stream, .net]
  | .markOutSend .. => [.markOut]
  | .timedActionExec .. => [.edge, .guard, .line, .ex, .conv, .overlap, .slots, .driven, .cw]
  | .pulseEnd .. => [.guard, .line, .slots, .driven, .cw]
  | .guardSafeAll .. => [.edge, .guard, .line, .ex, .tone, .conv, .overlap, .cw]
  | .guardSafeRelease .. | .vdSafeRelease .. => [.guard, .line]
  | .exSafeRelease .. => [.ex]
  | .safeReleaseEffect .. => [.edge, .guard, .line, .ex, .conv, .overlap, .cw]
  | .exFlagSet .. => [.edge, .overlap, .cw]
  | .exFlagClear .. | .biasOverload .. => [.edge, .conv, .overlap, .cw]
  | .exSwap .. => [.conv, .overlap]
  | .caAutoTrip .. | .caPeriodicReset .. => [.edge, .ca, .conv, .overlap, .cw]
  | .caResetCmd .. | .spanRestart .. => [.cw]
  | .clampSet .. | .clampClear .. => [.edge, .clamp, .cw]
  | .toneBurst .. => [.tone, .conv, .overlap]
  | .toneResult .. => [.edge, .tone, .conv, .cw]
  | .sampleOutput .. => [.edge, .conv]
  | .rotationSlot .. => [.slice, .overlap]
  | .rotationDecision .. => [.edge, .slice, .overlap, .cw]
  | .referenceCycleEnd .. => [.edge, .slice, .cw]
  | .pierSliceRetest .. => [.slice]
  | .caissonRecord .. | .caissonRearm .. => [.cai]
  | .snapshotFraming .. => [.cw, .stream, .cai, .net]
  | .berylEngineTake .. | .berylComplete .. => [.stream]
  | .frameToHead .. => [.stream, .mem, .dram, .net]
  | .spanMove .. => [.fresh, .stream, .mem, .dram]
  | .fetchStart .. | .fetchAbort .. => [.fetch]
  | .fetchFrame .. => [.fresh, .dram, .fetch]
  | .refreshSlot .. | .scrubSlot .. => [.dram]
  | .tmrScrub .. => [.time, .edge, .run, .guard, .line, .conv, .slice, .overlap, .cw, .stream, .cai, .host, .net, .clk]
  | .configEffect .. => [.fresh, .time, .edge, .run, .guard, .line, .ex, .ca, .tone, .conv, .slice, .overlap, .staged, .cw,
    .cai, .dram, .net]
  | .dictSnapshot .. | .snapshotTake .. => [.ds]
  | .registerWrite .. | .wideWordWrite .. | .cdpWrite .. | .writeMulti .. | .cdpEnable .. | .cdpDisable .. => [.fresh,
    .time, .edge, .guard, .line, .ex, .tone, .conv, .slice, .overlap, .staged, .cw, .stream, .fetch, .host, .net, .clk,
    .nv, .pflLast, .ds, .hostPath, .mgmtPath]
  | .wideLowRead .. => [.fresh, .host, .net, .pflLast, .hostPath, .mgmtPath]
  | .configRequest .. | .descriptorRead .. | .tagQuarantineEnd .. | .irqMessage .. | .irqAck .. | .perstNRise .. => [.host]
  | .perstNFall .. | .hotReset .. | .linkDown .. => [.host, .net]
  | .inboundTlpError .. | .portResume .. | .portRestart .. | .ringEnable .. | .doorbellHostPtr .. | .doorbellHostSeen .. |
    .completionTimeout .. | .msixVectorUnmask .. => [.fresh, .host, .net, .pflLast]
  | .ringDisable .. => [.fresh, .stream, .fetch, .host, .net, .pflLast]
  | .completionRx .. => [.fresh, .stream, .host, .net, .pflLast]
  | .frameDeliver .. | .idleClose .. => [.stream, .fetch, .host]
  | .bar4Read .. => [.fresh, .dram, .host, .net, .pflLast]
  | .bar4Write .. => [.fresh, .mem, .dram, .host, .net, .pflLast]
  | .ethFrameRx .. => [.cw, .net, .clk, .pflLast]
  | .markOutRx .. => [.cw, .net, .pflLast]
  | .identify .. | .sessionAuthSign .. | .ownershipTake .. | .ownershipRelease .. | .subscribePeriodic .. |
    .subscribeOnChange .. | .subscribeAlerts .. => [.net, .pflLast]
  | .sessionOpen .. | .sessionAuthKeys .. | .attest .. => [.fresh, .net, .pflLast]
  | .sessionClose .. | .subscribeStream .. | .subscribeCancel .. => [.stream, .net, .pflLast]
  | .sessionIdleTimeout .. | .eventSend .. => [.stream, .net]
  | .cdpRead .. | .readMulti .. => [.net, .pflLast, .hostPath, .mgmtPath]
  | .snapshotCounters .. => [.net, .pflLast, .ds]
  | .cdpResponseSend .. | .subscriptionTimer .. | .eventResend .. => [.net]
  | .eventAcknowledge .. => [.fresh, .stream, .net, .pflLast]
  | .cdpSave .. => [.fresh, .net, .nv, .pflLast]
  | .cdpLoad .. => [.fresh, .time, .edge, .guard, .line, .conv, .overlap, .staged, .cw, .stream, .host, .net, .clk, .nv,
    .pflLast, .hostPath, .mgmtPath]
  | .storeLoadCurrent .. | .storeLoadA .. | .storeLoadB .. => [.fresh, .time, .edge, .guard, .line, .conv, .overlap,
    .staged, .cw, .stream, .host, .net, .clk, .nv, .hostPath, .mgmtPath]
  | .saveComplete .. => [.net, .nv]
  | .fwStage .. => [.net, .nv, .pflLast]
  | .fwActivate .. => [.stream, .net, .nv, .pflLast]
  | .ethLinkDown .. => [.time, .cw]
  | .esmcPduSend .. => [.fresh]
  | .brownOutClear .. => [.guard, .line, .brownCause, .clk]

/-- What the step of a counter into saturation writes (R357). -/
def satRegs : List Nat :=
  [Ix.dictSatCount, Ix.dictSatLast]

/-- What a record put into the Causeway may count. -/
def recordRegs : List Nat :=
  [Ix.cwOccupancyHwm, Ix.cwLate, Ix.dictSatCount, Ix.dictSatLast]

/-- What the checks of a CDP message may write: counters and the partner fault log. -/
def cdpRegs : List Nat :=
  [Ix.netAbortsSent, Ix.dictSatCount, Ix.dictSatLast, Ix.pflEntry, Ix.pflWritten, Ix.pflSuppressed, Ix.pflKindCount]

/-- What a write to the host port may write besides its effect: counters, the partner fault log. -/
def portRegs : List Nat :=
  [Ix.clkGovRefused, Ix.hostPortState, Ix.hostFreezeTime, Ix.hostFreezes, Ix.hostFrozenCa, Ix.dictSatCount, Ix.dictSatLast,
  Ix.pflEntry, Ix.pflWritten, Ix.pflSuppressed, Ix.pflKindCount]

/-- The parameters a command may write; none where it is a write, a load or a reset that may reach any. -/
def mayWrite : Instr → Option (List Nat)
  | .powerOn .. | .resetNAssert .. | .startUpStepEnd .. | .sourceSelectWrite .. | .forceSrcWrite .. | .calUserCommit .. |
    .tmrScrub .. | .configEffect .. | .slowWriteApply .. | .registerWrite .. | .wideWordWrite .. | .cdpWrite .. |
    .writeMulti .. | .cdpEnable .. | .cdpDisable .. | .cdpLoad .. | .storeLoadCurrent .. | .storeLoadA .. | .storeLoadB ..
    | .resetNRelease .. => none
  | .brownOut .. | .guardSafeAll .. => some (recordRegs ++ [Ix.laneBufDrops, Ix.laneBufHwm, Ix.guardSafeEntries,
    Ix.laneWireOpenEvents, Ix.exState, Ix.exOpen, Ix.exCompliance, Ix.ex1State, Ix.ex1Open, Ix.ex1Compliance,
    Ix.vdSafeEntries])
  | .railLow .. => some (satRegs ++ [Ix.diagRailLow, Ix.diagRailEvents])
  | .sourceReady .. => some (recordRegs ++ [Ix.clkReady, Ix.clkFailures, Ix.clkLastFailure, Ix.clkFailureTime,
    Ix.clkPllState, Ix.startXaRetries])
  | .pllLock .. => some (recordRegs ++ [Ix.pwrState, Ix.pwrPierState, Ix.clkReady, Ix.clkDomainGood, Ix.clkFallbackState,
    Ix.clkPllState, Ix.clkPllLockTime, Ix.clkCrossingResets, Ix.clkXingDiscards, Ix.laneState, Ix.laneBufDrops,
    Ix.laneBufHwm, Ix.laneWireOpenEvents, Ix.pierRouteRefused, Ix.pierRouteLast, Ix.pierClampActive, Ix.pierClampEvents,
    Ix.pierClampLast, Ix.exEnable, Ix.exLevel, Ix.exPolarity, Ix.exState, Ix.exOpen, Ix.exCompliance, Ix.ex1Enable,
    Ix.ex1Level, Ix.ex1Polarity, Ix.ex1State, Ix.ex1Open, Ix.ex1Compliance, Ix.biasOverload, Ix.pierSpare,
    Ix.pierSliceFaulty, Ix.actRefused, Ix.actLastRefused, Ix.actExecuted, Ix.actLate, Ix.actPreempted, Ix.cwReleaseLagMax,
    Ix.cwGapRecords, Ix.cwLostEvents, Ix.cwSourceGaps, Ix.caiState, Ix.memState, Ix.sramCeTotal, Ix.sramUeTotal,
    Ix.sramLastInfo, Ix.hostLinkState])
  | .clockFailure .. => some (recordRegs ++ [Ix.pwrPierState, Ix.clkReady, Ix.clkDomainGood, Ix.clkFallbackState,
    Ix.clkFailures, Ix.clkLastFailure, Ix.clkFailureTime, Ix.clkPllState, Ix.clkPllLosses, Ix.clkCrossingResets,
    Ix.clkXingDiscards, Ix.timeSyncState, Ix.laneState, Ix.laneBufDrops, Ix.laneBufHwm, Ix.guardSafeEntries,
    Ix.laneWireOpenEvents, Ix.pierClampActive, Ix.pierClampEvents, Ix.pierClampLast, Ix.exState, Ix.exOpen,
    Ix.exCompliance, Ix.ex1State, Ix.ex1Open, Ix.ex1Compliance, Ix.biasOverload, Ix.pierSpare, Ix.pierSliceFaulty,
    Ix.vdSafeEntries, Ix.caiState, Ix.memState, Ix.netLink, Ix.netRingState, Ix.netRingOpenings, Ix.ptpPortState])
  | .safeHoldEntry .. => some (satRegs ++ [Ix.clkReady, Ix.clkFallbackState, Ix.clkCrossingResets, Ix.clkXingDiscards])
  | .safeHoldRetry .. => some [Ix.clkReady]
  | .domainRelease .. => some (recordRegs ++ [Ix.pwrState, Ix.clkReady, Ix.clkDomainGood, Ix.clkFallbackState,
    Ix.laneBufDrops, Ix.laneBufHwm, Ix.laneWireOpenEvents, Ix.pierRouteRefused, Ix.pierRouteLast, Ix.exEnable, Ix.exLevel,
    Ix.exPolarity, Ix.exState, Ix.exOpen, Ix.exCompliance, Ix.ex1Enable, Ix.ex1Level, Ix.ex1Polarity, Ix.ex1State,
    Ix.ex1Open, Ix.ex1Compliance, Ix.actRefused, Ix.actLastRefused, Ix.actExecuted, Ix.actLate, Ix.actPreempted,
    Ix.cwReleaseLagMax, Ix.cwGapRecords, Ix.cwLostEvents, Ix.cwSourceGaps, Ix.memState, Ix.sramCeTotal, Ix.sramUeTotal,
    Ix.sramLastInfo, Ix.hostLinkState])
  | .autoReturn .. | .clkReturn .. => some (recordRegs ++ [Ix.clkReady, Ix.clkFallbackState])
  | .jasperPointWrite .. => some [Ix.clkJasperPoint, Ix.clkJasperNow]
  | .dvfsDwellEnd .. | .pgoodFall .. => some (satRegs ++ [Ix.clkJasperNow, Ix.clkPgoodLosses])
  | .pgoodTimeout .. => some (satRegs ++ [Ix.clkJasperNow, Ix.clkDvfsFails])
  | .pgoodRise .. => some [Ix.clkJasperNow]
  | .pwrCmd .. => some (satRegs ++ [Ix.clkRefused, Ix.clkLastRefused])
  | .pwrPierCmd .. => some (satRegs ++ [Ix.pwrPierTarget, Ix.clkRefused, Ix.clkLastRefused])
  | .powerStateEffect .. => some (recordRegs ++ [Ix.pwrState, Ix.pwrPierState, Ix.clkJasperNow, Ix.clkReady,
    Ix.clkDomainGood, Ix.clkFallbackState, Ix.clkPllState, Ix.timeSyncState, Ix.laneState, Ix.laneBufDrops, Ix.laneBufHwm,
    Ix.laneWireOpenEvents, Ix.pierClampActive, Ix.pierClampEvents, Ix.pierClampLast, Ix.exState, Ix.exOpen,
    Ix.exCompliance, Ix.ex1State, Ix.ex1Open, Ix.ex1Compliance, Ix.biasOverload, Ix.pierSpare, Ix.pierSliceFaulty,
    Ix.caiState, Ix.memState, Ix.hostLinkSpeed, Ix.hostLinkWidth, Ix.hostLinkState, Ix.hostLinkDowns, Ix.hostPortState,
    Ix.hostFreezeTime, Ix.hostFreezes, Ix.netLink, Ix.netRingState, Ix.netSessions, Ix.netOwner, Ix.netRingOpenings,
    Ix.ptpPortState])
  | .wakeEvent .. => some [Ix.pwrWakeCause, Ix.clkReady]
  | .unitWake .. => some [Ix.clkReady, Ix.memState]
  | .watchdogExpiry .. => some (satRegs ++ [Ix.idFwVersion, Ix.clkCrossingResets, Ix.clkXingDiscards, Ix.netSessions,
    Ix.netOwner, Ix.storeState, Ix.storeBootCount, Ix.fwActiveSlot, Ix.fwState, Ix.fwReverts])
  | .fwConfirm .. => some [Ix.fwFuseCount, Ix.fwState]
  | .ageHour .. => some [Ix.storeState, Ix.storeRegionWrites, Ix.storeAge, Ix.storeRefreshes, Ix.fwActiveSlot,
    Ix.fwVersion, Ix.fwSecVersion, Ix.diagTjHours, Ix.diagLifeUsed]
  | .tjSample .. => some [Ix.diagTj, Ix.diagTjMax, Ix.diagTjOver]
  | .timeLoadCmd .. => some (satRegs ++ [Ix.timeLoadState, Ix.timeLoadCancelled, Ix.timeRejectedWrites,
    Ix.timeLastRejected])
  | .timeLoadEffect .. => some (recordRegs ++ [Ix.timeSyncState, Ix.timeEpochNum, Ix.timeLoadState, Ix.timeLoadCancelled,
    Ix.keyArmed, Ix.keyStage, Ix.keyMarkNum, Ix.keyTransitions, Ix.keyArmIgnored, Ix.keyCascadeLimit,
    Ix.keyRelaySuppressed, Ix.keyStageEntries, Ix.keyBrFired, Ix.keyCuState, Ix.keyCuGenA, Ix.keyCuGenB,
    Ix.keyCuOccurrences, Ix.actSlotsHwm, Ix.actRefused, Ix.actLastRefused, Ix.actUserCount, Ix.actIrqCount,
    Ix.actMarkoutRefused, Ix.cwRwlDeferred, Ix.cwLoadDiscards, Ix.streamState, Ix.streamLastClose, Ix.streamSeqNext,
    Ix.streamRecords, Ix.streamUnsettledDropped, Ix.berylQueueHwm, Ix.berylQueueRefused, Ix.berylInWords, Ix.spanState,
    Ix.spanOverflows, Ix.spanRefusedFrames, Ix.spanLostRecords, Ix.caiState, Ix.caiBlocks, Ix.caiDeclinedBusy,
    Ix.caiShortPre, Ix.caiDiscarded, Ix.caiDeclinedInvalid, Ix.histOldestSeq, Ix.histNewestSeq])
  | .ptpMessageRx .. => some (recordRegs ++ [Ix.timeSyncState, Ix.timeOffset, Ix.netPtpMalformed, Ix.ptpPortState,
    Ix.pflEntry, Ix.pflWritten, Ix.pflSuppressed, Ix.pflKindCount])
  | .announceTimeout .. => some (recordRegs ++ [Ix.timeSyncState, Ix.ptpPortState])
  | .servoSlewTick .. => some [Ix.timeSlewTicks]
  | .forwardStep .. => some (recordRegs ++ [Ix.timeEpochNum, Ix.timeSteps, Ix.laneGlitches, Ix.laneBufDrops, Ix.laneBufHwm,
    Ix.caiState])
  | .backwardStep .. => some (satRegs ++ [Ix.timeEpochNum, Ix.timeSteps])
  | .ppsOutEdge .. | .tdcTableUpdate .. | .tdcResample .. | .exSwap .. | .dictSnapshot .. | .tagQuarantineEnd .. |
    .ringTestSend .. | .subscriptionTimer .. | .ptpMessageSend .. | .esmcPduSend .. | .brownOutClear .. => some []
  | .ppsInEdge .. | .thresholdEdge .. => some (recordRegs ++ [Ix.timeSyncState, Ix.timeEpochNum, Ix.timeDpLost,
    Ix.timePpsInLast, Ix.timeLoadState, Ix.timeLoadCancelled, Ix.keyArmed, Ix.keyStage, Ix.keyMarkNum, Ix.keyTransitions,
    Ix.keyArmIgnored, Ix.keyCascadeLimit, Ix.keyRelaySuppressed, Ix.keyStageEntries, Ix.keyBrFired, Ix.keyCuState,
    Ix.keyCuGenA, Ix.keyCuGenB, Ix.keyCuOccurrences, Ix.actSlotsHwm, Ix.actRefused, Ix.actLastRefused, Ix.actUserCount,
    Ix.actIrqCount, Ix.actMarkoutRefused, Ix.cwRwlDeferred, Ix.cwLoadDiscards, Ix.streamState, Ix.streamLastClose,
    Ix.streamSeqNext, Ix.streamRecords, Ix.streamUnsettledDropped, Ix.berylQueueHwm, Ix.berylQueueRefused, Ix.berylInWords,
    Ix.spanState, Ix.spanOverflows, Ix.spanRefusedFrames, Ix.spanLostRecords, Ix.caiState, Ix.caiBlocks,
    Ix.caiDeclinedBusy, Ix.caiShortPre, Ix.caiDiscarded, Ix.caiDeclinedInvalid, Ix.histOldestSeq, Ix.histNewestSeq])
  | .froMeasurement .. => some [Ix.timeXbTrim, Ix.timeSroTrim]
  | .tdcCalWindowEnd .. => some [Ix.timeTdcDnlMax]
  | .deglitchEnd .. => some (satRegs ++ [Ix.laneGlitches, Ix.laneBufDrops, Ix.laneBufHwm])
  | .digitalSample .. => some (satRegs ++ [Ix.laneBufDrops, Ix.laneBufHwm])
  | .fcZoneChange .. | .caResetEnd .. => some (satRegs ++ [Ix.laneBufDrops, Ix.laneBufHwm, Ix.laneFcZone])
  | .eventDelivery .. => some (recordRegs ++ [Ix.cwAdmitWaits, Ix.cwGapRecords, Ix.cwLostEvents, Ix.cwSourceGaps,
    Ix.sramCeTotal, Ix.sramUeTotal, Ix.sramLastInfo])
  | .bufDrop .. => some (satRegs ++ [Ix.laneBufDrops])
  | .lossAccountClose .. => some (recordRegs ++ [Ix.cwGapRecords, Ix.cwLostEvents, Ix.cwSourceGaps])
  | .causewayRelease .. => some (recordRegs ++ [Ix.keyArmed, Ix.keyStage, Ix.keyMarkNum, Ix.keyTransitions,
    Ix.keyArmIgnored, Ix.keyCascadeLimit, Ix.keyRelaySuppressed, Ix.keyStageEntries, Ix.keyBrFired, Ix.keyCuState,
    Ix.keyCuGenA, Ix.keyCuGenB, Ix.keyCuOccurrences, Ix.actSlotsHwm, Ix.actRefused, Ix.actLastRefused, Ix.actUserCount,
    Ix.actIrqCount, Ix.actMarkoutRefused, Ix.cwReleaseLagMax, Ix.cwGapRecords, Ix.cwLostEvents, Ix.cwSourceGaps,
    Ix.streamState, Ix.streamLastClose, Ix.streamSeqNext, Ix.streamRecords, Ix.streamUnsettledDropped, Ix.berylQueueHwm,
    Ix.berylQueueRefused, Ix.berylInWords, Ix.spanState, Ix.spanOverflows, Ix.spanRefusedFrames, Ix.spanLostRecords,
    Ix.caiState, Ix.caiBlocks, Ix.caiDeclinedBusy, Ix.caiShortPre, Ix.caiDeclinedInvalid, Ix.histOldestSeq,
    Ix.histNewestSeq, Ix.sramCeTotal, Ix.sramUeTotal, Ix.sramLastInfo])
  | .frameAgeClose .. => some (satRegs ++ [Ix.streamState, Ix.streamLastClose, Ix.berylQueueHwm, Ix.berylQueueRefused,
    Ix.berylInWords, Ix.spanState, Ix.spanOverflows, Ix.spanRefusedFrames, Ix.spanLostRecords])
  | .streamFlush .. => some (satRegs ++ [Ix.streamState, Ix.streamFlushes, Ix.streamFlushEmpty, Ix.streamLastClose,
    Ix.berylQueueHwm, Ix.berylQueueRefused, Ix.berylInWords, Ix.spanState, Ix.spanOverflows, Ix.spanRefusedFrames,
    Ix.spanLostRecords])
  | .keystoneItem .. | .deadlineItem .. => some (recordRegs ++ [Ix.keyArmed, Ix.keyStage, Ix.keyMarkNum, Ix.keyTransitions,
    Ix.keyArmIgnored, Ix.keyCascadeLimit, Ix.keyRelaySuppressed, Ix.keyStageEntries, Ix.keyBrFired, Ix.keyCuState,
    Ix.keyCuGenA, Ix.keyCuGenB, Ix.keyCuOccurrences, Ix.actSlotsHwm, Ix.actRefused, Ix.actLastRefused, Ix.actUserCount,
    Ix.actIrqCount, Ix.actMarkoutRefused, Ix.streamState, Ix.streamLastClose, Ix.streamSeqNext, Ix.streamRecords,
    Ix.streamUnsettledDropped, Ix.berylQueueHwm, Ix.berylQueueRefused, Ix.berylInWords, Ix.spanState, Ix.spanOverflows,
    Ix.spanRefusedFrames, Ix.spanLostRecords, Ix.caiState, Ix.caiBlocks, Ix.caiDeclinedBusy, Ix.caiShortPre,
    Ix.caiDeclinedInvalid, Ix.histOldestSeq, Ix.histNewestSeq])
  | .markOutSend .. => some [Ix.actMarkoutSent]
  | .timedActionExec .. => some (recordRegs ++ [Ix.laneBufDrops, Ix.laneBufHwm, Ix.laneWireOpenEvents, Ix.pierRouteRefused,
    Ix.pierRouteLast, Ix.exEnable, Ix.exLevel, Ix.exPolarity, Ix.exState, Ix.exOpen, Ix.exCompliance, Ix.ex1Enable,
    Ix.ex1Level, Ix.ex1Polarity, Ix.ex1State, Ix.ex1Open, Ix.ex1Compliance, Ix.actRefused, Ix.actLastRefused,
    Ix.actExecuted, Ix.actLate, Ix.actPreempted])
  | .pulseEnd .. => some (recordRegs ++ [Ix.actLate])
  | .guardSafeRelease .. | .vdSafeRelease .. => some (satRegs ++ [Ix.guardReleaseRefused, Ix.vdReleaseRefused])
  | .exSafeRelease .. => some (satRegs ++ [Ix.exReleaseRefused])
  | .safeReleaseEffect .. => some (recordRegs ++ [Ix.laneBufDrops, Ix.laneBufHwm, Ix.laneWireOpenEvents, Ix.exState,
    Ix.exOpen, Ix.exCompliance, Ix.ex1State, Ix.ex1Open, Ix.ex1Compliance])
  | .exFlagSet .. => some (satRegs ++ [Ix.laneBufDrops, Ix.laneBufHwm, Ix.laneWireOpenEvents, Ix.exOpen, Ix.exCompliance,
    Ix.exOpenEvents, Ix.ex1Open, Ix.ex1Compliance, Ix.ex1OpenEvents])
  | .exFlagClear .. => some (satRegs ++ [Ix.laneBufDrops, Ix.laneBufHwm, Ix.laneWireOpenEvents, Ix.exOpen, Ix.exCompliance,
    Ix.ex1Open, Ix.ex1Compliance])
  | .biasOverload .. => some (satRegs ++ [Ix.laneBufDrops, Ix.laneBufHwm, Ix.biasOverload])
  | .caAutoTrip .. | .caPeriodicReset .. => some (satRegs ++ [Ix.laneBufDrops, Ix.laneBufHwm, Ix.caResets, Ix.ca1Resets])
  | .caResetCmd .. => some (satRegs ++ [Ix.cwRwlDeferred])
  | .clampSet .. | .clampClear .. => some (satRegs ++ [Ix.laneBufDrops, Ix.laneBufHwm, Ix.pierClampActive,
    Ix.pierClampEvents, Ix.pierClampLast])
  | .toneBurst .. => some (satRegs ++ [Ix.toneSkipped])
  | .toneResult .. => some (satRegs ++ [Ix.laneBufDrops, Ix.laneBufHwm, Ix.laneToneZ, Ix.laneWireOpenEvents])
  | .sampleOutput .. => some (satRegs ++ [Ix.laneBufDrops, Ix.laneBufHwm, Ix.laneSuppressed])
  | .rotationSlot .. | .pierSliceRetest .. => some [Ix.pierSpare, Ix.pierSliceFaulty]
  | .rotationDecision .. => some (satRegs ++ [Ix.laneBufDrops, Ix.laneBufHwm, Ix.laneSlice, Ix.laneCalMismatch,
    Ix.laneRotAborts, Ix.laneRotLastDiff, Ix.pierRotNextLane, Ix.pierSpare, Ix.pierSliceFaulty, Ix.pierHandovers,
    Ix.pierRotPostponed])
  | .referenceCycleEnd .. => some (satRegs ++ [Ix.laneBufDrops, Ix.laneBufHwm, Ix.pierSpare, Ix.pierSliceFaulty,
    Ix.pierSliceOffset, Ix.pierSliceGain])
  | .caissonRecord .. => some (satRegs ++ [Ix.caiState, Ix.memCeTotal, Ix.memUeTotal, Ix.memCeDevice, Ix.memLastCeAddr,
    Ix.memLastCeInfo, Ix.memLastUeAddr, Ix.memLastUeInfo])
  | .snapshotFraming .. => some (satRegs ++ [Ix.streamState, Ix.streamLastClose, Ix.streamRecords, Ix.berylQueueHwm,
    Ix.berylQueueRefused, Ix.berylInWords, Ix.spanState, Ix.spanOverflows, Ix.spanRefusedFrames, Ix.spanLostRecords,
    Ix.caiMissingWords, Ix.caiDiscarded, Ix.memCeTotal, Ix.memUeTotal, Ix.memCeDevice, Ix.memLastCeAddr, Ix.memLastCeInfo,
    Ix.memLastUeAddr, Ix.memLastUeInfo])
  | .caissonRearm .. => some [Ix.caiState]
  | .berylEngineTake .. => some [Ix.sramCeTotal, Ix.sramUeTotal, Ix.sramLastInfo]
  | .berylComplete .. => some [Ix.berylRawFrames]
  | .frameToHead .. => some (satRegs ++ [Ix.streamState, Ix.streamLastClose, Ix.streamSeqNext, Ix.streamFrames,
    Ix.berylRawFrames, Ix.berylOutWords, Ix.spanState, Ix.spanGapFrames, Ix.spanOverflows, Ix.spanRefusedFrames,
    Ix.spanLostRecords, Ix.histOldestSeq, Ix.histNewestSeq, Ix.memCeTotal, Ix.memUeTotal, Ix.memCeDevice, Ix.memLastCeAddr,
    Ix.memLastCeInfo, Ix.memLastUeAddr, Ix.memLastUeInfo, Ix.memUeLastSeq, Ix.memSubstituteFrames, Ix.sramCeTotal,
    Ix.sramUeTotal, Ix.sramLastInfo])
  | .spanMove .. => some (satRegs ++ [Ix.berylRawFrames, Ix.spanFill, Ix.spanFillHwm, Ix.memCeTotal, Ix.memUeTotal,
    Ix.memCeDevice, Ix.memLastCeAddr, Ix.memLastCeInfo, Ix.memLastUeAddr, Ix.memLastUeInfo, Ix.memUeLastSeq,
    Ix.memSubstituteFrames, Ix.sramCeTotal, Ix.sramUeTotal, Ix.sramLastInfo])
  | .spanRestart .. => some (satRegs ++ [Ix.timeRejectedWrites, Ix.timeLastRejected, Ix.laneRejectedWrites,
    Ix.laneLastRejected, Ix.pierRejectedWrites, Ix.pierLastRejected, Ix.keyRejectedWrites, Ix.keyLastRejected,
    Ix.actRejectedWrites, Ix.actLastRejected, Ix.vdRejectedWrites, Ix.vdLastRejected, Ix.cwRwlDeferred,
    Ix.cwRejectedWrites, Ix.cwLastRejected, Ix.streamRejectedWrites, Ix.streamLastRejected, Ix.caiRejectedWrites,
    Ix.caiLastRejected, Ix.fetchRejectedWrites, Ix.fetchLastRejected, Ix.hostRejectedWrites, Ix.hostLastRejected,
    Ix.curveRejectedWrites, Ix.curveLastRejected, Ix.dictRejectedWrites, Ix.dictLastRejected])
  | .fetchStart .. => some (satRegs ++ [Ix.spanRegionRefused, Ix.spanRegionLast, Ix.fetchState])
  | .fetchAbort .. => some [Ix.fetchState]
  | .fetchFrame .. => some (satRegs ++ [Ix.fetchState, Ix.fetchFirstSeq, Ix.fetchLastSeq, Ix.fetchFaults, Ix.fetchSkipped,
    Ix.fetchLastFault, Ix.fetchLastFaultSeq, Ix.memCeTotal, Ix.memUeTotal, Ix.memCeDevice, Ix.memLastCeAddr,
    Ix.memLastCeInfo, Ix.memLastUeAddr, Ix.memLastUeInfo, Ix.sramCeTotal, Ix.sramUeTotal, Ix.sramLastInfo])
  | .refreshSlot .. => some [Ix.memDramHot]
  | .scrubSlot .. => some (satRegs ++ [Ix.memCeTotal, Ix.memUeTotal, Ix.memCeDevice, Ix.memLastCeAddr, Ix.memLastCeInfo,
    Ix.memLastUeAddr, Ix.memLastUeInfo, Ix.memDeviceSuspect, Ix.memScrubPasses, Ix.memScrubPassTime, Ix.memScrubPos,
    Ix.sramCeTotal, Ix.sramUeTotal, Ix.sramLastInfo])
  | .snapshotTake .. => some [Ix.laneBufHwm, Ix.actSlotsHwm, Ix.cwOccupancyHwm, Ix.cwReleaseLagMax, Ix.berylQueueHwm,
    Ix.spanFillHwm, Ix.dictSnapSeq, Ix.dictSnapTime, Ix.diagTjMax]
  | .wideLowRead .. => some (portRegs ++ [Ix.dictUnlatched])
  | .configRequest .. | .irqMessage .. => some (satRegs ++ [Ix.irqMessages])
  | .perstNFall .. => some (satRegs ++ [Ix.clkDomainGood, Ix.clkCrossingResets, Ix.clkXingDiscards, Ix.hostLinkSpeed,
    Ix.hostLinkWidth, Ix.hostLinkState, Ix.hostPerstCount, Ix.hostPortState, Ix.hostFreezeTime, Ix.hostFreezes])
  | .hotReset .. => some (satRegs ++ [Ix.hostLinkSpeed, Ix.hostLinkWidth, Ix.hostLinkState, Ix.hostHotResets,
    Ix.hostPortState, Ix.hostFreezeTime, Ix.hostFreezes])
  | .linkDown .. => some (satRegs ++ [Ix.hostLinkSpeed, Ix.hostLinkWidth, Ix.hostLinkState, Ix.hostLinkDowns,
    Ix.hostPortState, Ix.hostFreezeTime, Ix.hostFreezes])
  | .linkUp .. => some [Ix.hostLinkSpeed, Ix.hostLinkWidth, Ix.hostLinkState, Ix.hostPortState]
  | .inboundTlpError .. => some (satRegs ++ [Ix.hostPortState, Ix.hostFreezeTime, Ix.hostFreezes, Ix.pflEntry,
    Ix.pflWritten, Ix.pflSuppressed, Ix.pflKindCount])
  | .portResume .. | .portRestart .. | .ringEnable .. | .doorbellHostPtr .. | .doorbellHostSeen .. => some (portRegs)
  | .ringDisable .. => some (portRegs ++ [Ix.ringBytes])
  | .descriptorRead .. => some (satRegs ++ [Ix.hostTagWaits])
  | .completionRx .. => some (satRegs ++ [Ix.hostPortState, Ix.hostFreezeTime, Ix.hostFreezes, Ix.hostTagWaits,
    Ix.hostPoisonedRx, Ix.hostLateCpl, Ix.hostUnexpectedCpl, Ix.ringBytes, Ix.pflEntry, Ix.pflWritten, Ix.pflSuppressed,
    Ix.pflKindCount])
  | .completionTimeout .. => some (satRegs ++ [Ix.hostPortState, Ix.hostFreezeTime, Ix.hostFreezes, Ix.hostTagWaits,
    Ix.hostCplTimeouts, Ix.pflEntry, Ix.pflWritten, Ix.pflSuppressed, Ix.pflKindCount])
  | .frameDeliver .. => some (satRegs ++ [Ix.berylRawFrames, Ix.fetchState, Ix.memUeLastSeq, Ix.memSubstituteFrames,
    Ix.sramCeTotal, Ix.sramUeTotal, Ix.sramLastInfo, Ix.ringBytes])
  | .idleClose .. => some [Ix.ringBytes]
  | .irqAck .. => some [Ix.irqAck]
  | .windowEnable .. => some (satRegs ++ [Ix.hostRejectedWrites, Ix.hostLastRejected, Ix.winEnable, Ix.winState,
    Ix.winRefused, Ix.winLastRefused])
  | .windowDisable .. => some [Ix.winEnable, Ix.winState]
  | .windowDrained .. => some [Ix.winState]
  | .bar4Read .. => some (portRegs ++ [Ix.memCeTotal, Ix.memUeTotal, Ix.memCeDevice, Ix.memLastCeAddr, Ix.memLastCeInfo,
    Ix.memLastUeAddr, Ix.memLastUeInfo, Ix.sramCeTotal, Ix.sramUeTotal, Ix.sramLastInfo, Ix.winMissNp, Ix.winMissP,
    Ix.winMissLast])
  | .bar4Write .. => some (portRegs ++ [Ix.memCeTotal, Ix.memUeTotal, Ix.memCeDevice, Ix.memLastCeAddr, Ix.memLastCeInfo,
    Ix.memLastUeAddr, Ix.memLastUeInfo, Ix.sramCeTotal, Ix.sramUeTotal, Ix.sramLastInfo, Ix.winMissNp, Ix.winMissP,
    Ix.winMissLast, Ix.winWriteBlocked, Ix.winBlockedLast])
  | .ethFrameRx .. => some (cdpRegs ++ [Ix.cwOccupancyHwm, Ix.cwLate, Ix.netRingState, Ix.netOversize, Ix.netFcsErrors,
    Ix.synceQlRx])
  | .ringTestTimeout .. => some (satRegs ++ [Ix.netRingState, Ix.netRingOpenings])
  | .markOutRx .. => some (recordRegs ++ [Ix.netMarkDuplicates, Ix.pflEntry, Ix.pflWritten, Ix.pflSuppressed,
    Ix.pflKindCount])
  | .identify .. | .sessionAuthKeys .. | .sessionAuthSign .. | .cdpRead .. | .readMulti .. | .snapshotCounters .. |
    .subscribePeriodic .. | .subscribeOnChange .. | .subscribeStream .. | .subscribeAlerts .. | .subscribeCancel .. |
    .eventAcknowledge .. | .attest .. => some (cdpRegs)
  | .sessionOpen .. => some (cdpRegs ++ [Ix.netSessions])
  | .sessionClose .. => some (cdpRegs ++ [Ix.netSessions, Ix.netOwner])
  | .sessionIdleTimeout .. => some [Ix.netSessions, Ix.netOwner]
  | .ownershipTake .. | .ownershipRelease .. => some (cdpRegs ++ [Ix.netOwner])
  | .cdpResponseSend .. => some (satRegs ++ [Ix.netAbortsSent])
  | .eventSend .. => some (satRegs ++ [Ix.berylRawFrames, Ix.memUeLastSeq, Ix.memSubstituteFrames, Ix.sramCeTotal,
    Ix.sramUeTotal, Ix.sramLastInfo])
  | .eventResend .. => some (satRegs ++ [Ix.netEventResends])
  | .cdpSave .. => some (cdpRegs ++ [Ix.storeState, Ix.storeLastResult, Ix.storeRegionWrites])
  | .storeSave .. | .storeSaveSigned .. => some [Ix.storeState, Ix.storeLastResult, Ix.storeRegionWrites]
  | .saveComplete .. => some (satRegs ++ [Ix.netAbortsSent, Ix.storeState, Ix.storeLastResult, Ix.storeCopySeq,
    Ix.storeCopySlot, Ix.storeRegionWrites, Ix.storeSlotsRetired, Ix.storeRefreshes])
  | .fwStage .. => some (cdpRegs ++ [Ix.storeState, Ix.storeLastResult, Ix.fwVersion, Ix.fwSecVersion, Ix.fwState])
  | .fwActivate .. => some (cdpRegs ++ [Ix.idFwVersion, Ix.clkCrossingResets, Ix.clkXingDiscards, Ix.netSessions,
    Ix.netOwner, Ix.storeState, Ix.storeLastResult, Ix.storeBootCount, Ix.fwActiveSlot, Ix.fwState])
  | .ethLinkDown .. => some (recordRegs ++ [Ix.clkReady, Ix.timeSyncState, Ix.netLink, Ix.netRingState, Ix.netRingOpenings,
    Ix.ptpPortState])
  | .ethLinkUp .. => some [Ix.netLink]
  | .railLowClear .. => some [Ix.diagRailLow]
  | .perstNRise .. => some [Ix.clkDomainGood, Ix.hostLinkState]
  | .msixVectorUnmask .. => some (portRegs ++ [Ix.irqMessages])

end Sys2Proof.Machine
end

