-- ==== Sys2Proof/Safety.lean ====
section
/-! DEFINITION. What a good state is, in the terms the statements use: its memory and its dictionary stand in their canonical
forms. -/
namespace Sys2Proof

/-- A device reset (R438). -/
def Instr.isReset : Instr → Bool
  | .powerOn .. | .resetNAssert .. | .resetNRelease .. => true
  | _ => false

/-- Commands of the host port, the network, the store and the management processor that are no writes of the dictionary, and the
read side of the streams: what never reaches the capture (R13, R14, R259, R312). -/
def Instr.besideCapture : Instr → Bool
  | .watchdogExpiry .. | .fwConfirm .. | .ageHour .. | .fwStage .. | .fwActivate .. | .attest .. => true
  | .cdpSave .. | .storeSave .. | .storeSaveSigned .. | .saveComplete .. => true
  | .configRequest .. | .perstNFall .. | .perstNRise .. | .hotReset .. | .linkDown .. | .linkUp .. => true
  | .inboundTlpError .. | .portResume .. | .portRestart .. | .ringEnable .. | .ringDisable .. => true
  | .doorbellHostPtr .. | .doorbellHostSeen .. | .descriptorRead .. | .completionRx .. | .completionTimeout .. => true
  | .tagQuarantineEnd .. | .frameDeliver .. | .idleClose .. | .irqMessage .. | .irqAck .. | .msixVectorUnmask .. => true
  | .windowEnable .. | .windowDisable .. | .windowDrained .. | .bar4Read .. | .bar4Write .. | .wideLowRead .. => true
  | .ringTestSend .. | .ringTestTimeout .. | .ethLinkUp .. | .ptpMessageSend .. | .esmcPduSend .. => true
  | .identify .. | .sessionOpen .. | .sessionAuthKeys .. | .sessionAuthSign .. | .sessionClose .. => true
  | .sessionIdleTimeout .. | .ownershipTake .. | .ownershipRelease .. | .cdpRead .. | .readMulti .. => true
  | .snapshotCounters .. | .cdpResponseSend .. | .subscribePeriodic .. | .subscribeOnChange .. => true
  | .subscribeStream .. | .subscribeAlerts .. | .subscribeCancel .. | .eventAcknowledge .. | .subscriptionTimer .. => true
  | .eventSend .. | .eventResend .. | .dictSnapshot .. | .snapshotTake .. => true
  | .berylEngineTake .. | .berylComplete .. | .frameToHead .. | .spanMove .. => true
  | .fetchStart .. | .fetchAbort .. | .fetchFrame .. | .refreshSlot .. | .scrubSlot .. => true
  | .railLow .. | .railLowClear .. | .tjSample .. | .wakeEvent .. | .unitWake .. => true
  | _ => false

end Sys2Proof

namespace Sys2Proof.Machine

/-- The dictionary's table: keys strictly rising, and no entry equal to its default, so that equal dictionaries are equal data.
-/
def Dict.wf (d : Tbl Nat) : Prop := tsorted d = true ∧ ∀ x ∈ d, x.2 ≠ dfltOf x.1

/-- The tables of sessions and subscriptions: numbers strictly rising, and no session has number 0, which stands for none (R374,
R377). -/
def Net.wf (n : NetSt) : Prop := tsorted n.sessions = true ∧ tfind n.sessions 0 = none ∧ tsorted n.subs = true

/-- The invariant of every state that the block can reach. -/
def State.Inv (s : State) : Prop := Memory.wf s.mem = true ∧ Dict.wf s.dict ∧ Net.wf s.net

/-- A counter of class CNT/S after one more event (R357). -/
def cntNext (v : Nat) : Nat := if v < 0xFFFFFFFF then v + 1 else v

/-- A command carried out in a state answers a next state of which `P` holds. -/
def Completes (c : Instr) (s : State) (P : State → Prop) : Prop := ∃ t, exec c s = .next t ∧ P t

/-- No parameter has another value, but those of the instances named. -/
def State.onlyPars (s t : State) (l : List (Nat × Nat)) : Prop :=
  ∀ ix sub, (∀ x ∈ l, key ix sub ≠ key x.1 x.2) → t.par ix sub = s.par ix sub

/-- The instances that an event on a CNT/S counter may write: the counter, and what its step into saturation writes. -/
def cntPars (ix sub : Nat) : List (Nat × Nat) := [(ix, sub), (Ix.dictSatCount, 0), (Ix.dictSatLast, 0)]

/-! ### Messages of the dictionary protocol (R374, R377, R380, R381, R447, R448) -/

/-- A message of an operation reaches the device, whose management processor runs and can answer on that port, and passes every check that does not look at its
session: its header, its destination and LENGTH (R374), the operations that recovery and a device without a copy leave (R447,
R448), and the role-generation guard (R381). -/
def State.hearsCdp (s : State) (h : CdpHdr) (op : Nat) (body : List Word) : Prop :=
  s.canSend h.port = true ∧ s.runs 2 = true ∧ 7 < s.par Ix.startStep 0
    ∧ h.version = 1 ∧ (h.dst = 65535 ∨ h.dst = s.par Ix.idChipNum 0) ∧ h.extra = 0
    ∧ h.length = 20 + 4 * body.length + (if h.auth = true then 16 else 0) ∧ h.length ≤ 508
    ∧ h.reserved = false ∧ h.response = false ∧ h.abort = false
    ∧ (h.guard = true → h.guardLane < 192 ∧ s.par Ix.laneRoleGen h.guardLane = h.gen)
    ∧ (s.nv.running = true ∨ op ∈ [0x01, 0x02, 0x03, 0x04, 0x05, 0x10, 0x51, 0x52])
    ∧ (s.par Ix.storeBootSource 0 ≠ 2 ∨ bit (s.par Ix.startStraps 0) 1 = false ∨ op ∈ [0x01, 0x02, 0x03, 0x04, 0x10, 0x12, 0x50])

/-- The session that a message names. -/
def State.sessionOf (s : State) (n : Nat) : Session := tget {} s.net.sessions n

/-- A message is the next of its session: the session is open, AUTH and the tag are as it wants them, SEQ follows the last
accepted number by 1 to 1024, and the numbers are not used up (R377, R379). -/
def State.acceptsCdp (s : State) (h : CdpHdr) (op : Nat) (body : List Word) : Prop :=
  s.hearsCdp h op body ∧ (tfind s.net.sessions h.session).isSome = true ∧ h.auth = (s.sessionOf h.session).auth
    ∧ (h.auth = true → tagFits h op body (s.sessionOf h.session) = true) ∧ (s.sessionOf h.session).q < 0xFFFFF000
    ∧ 1 ≤ (h.seq % 2 ^ 32 + 2 ^ 32 - (s.sessionOf h.session).q) % 2 ^ 32
    ∧ (h.seq % 2 ^ 32 + 2 ^ 32 - (s.sessionOf h.session).q) % 2 ^ 32 ≤ 1024

/-- An accepted message of the session that owns the device (R380). -/
def State.ownerCdp (s : State) (h : CdpHdr) (op : Nat) (body : List Word) : Prop :=
  s.acceptsCdp h op body ∧ s.par Ix.netOwner 0 = h.session

/-- In `t` the message has its answer, and nothing else has been sent: on its port, with the session, OP and SEQ of the request and
`ws` as its body, sealed under the session's key to its master where the session is authenticated (R374, R376, R379). -/
def State.answered (s t : State) (h : CdpHdr) (op : Nat) (abort : Bool) (ws : List Word) : Prop :=
  let sealed := if h.auth = true then 1 else 0
  let aborts := if abort = true then 1 else 0
  let header := [w32 (0xCD100000 + op * 256 + 8 * sealed + 2 * aborts + 1),
    w32 (h.session * 65536 + (20 + 4 * ws.length + 16 * sealed)), w32 h.seq, w32 (h.src * 65536 + s.par Ix.idChipNum 0 % 65536), 0]
  t.out = [.cdp h.port header (if h.auth = true then sealBody (s.sessionOf h.session).keyOut 1 header ws else ws) h.auth]

end Sys2Proof.Machine
end

