-- ==== Sys2Proof/Certificates/Slice0/Obligations.lean ====
section
/-! DEFINITION. Statements for the provers. Each docstring names the rules a statement comes from, and the entries of the assumption
log that it rests on. -/
open Sys2Proof Sys2Proof.Machine

/-- The block takes the command at the front of its queue: the step is the command carried out on the state whose queue is the
rest. -/
def Obligations.StepRunsFront : Prop :=
  ∀ (c : Instr) (s : State), step { s with pending := c :: s.pending } = exec c s

/-- With nothing waiting the block idles: time passes with the commands alone. The model's own choices in it: log 1. -/
def Obligations.IdleStep : Prop :=
  ∀ s : State, s.pending = [] → step s = .next s

/-- After reset memory, dictionary, sessions and subscriptions stand in their canonical forms. The model's own choices in it: log
8, 9. -/
def Obligations.ResetInv : Prop :=
  State.reset.Inv

/-- After power-on reset every parameter is at its default but START.STEP, which says that step 1 runs; Garnet time is zero and
COARSE, nothing is stored, buffered or enabled, no pin is driven. Comes from R27, R38, R70, R438, R439, R446. The model's own
choices in it: log 7 to 10. -/
def Obligations.ResetState : Prop :=
  let r := State.reset
  (∀ ix sub, r.par ix sub = dfltOf (key ix sub)) ∧ r.par Ix.startStep 0 = 1 ∧ r.par Ix.startMode 0 = 0
    ∧ r.now = 0 ∧ r.time.quality = .coarse ∧ r.tpll = false ∧ r.anyStream = false ∧ r.anySeq = false
    ∧ r.cw.store = [] ∧ r.cw.queue = [] ∧ r.slots = [] ∧ r.seqs = [] ∧ r.units = [] ∧ r.stream = []
    ∧ (∀ a, memRead r.mem a = 0) ∧ r.nv.copies = [] ∧ r.net.sessions = []
    ∧ (∀ n : Fin 192, r.pinState .guard n = 2) ∧ (∀ n : Fin 8, r.pinState .line n = 2)

/-- Every step keeps the canonical forms of memory, dictionary, sessions and subscriptions, whatever the command and the state
that has them. The model's own choices in it: log 9. -/
def Obligations.StepKeepsInv : Prop :=
  ∀ s t : State, s.Inv → step s = .next t → t.Inv

/-- Every command is answered by a next state, in every state, and the commands that wait behind it stay. The model's own choices
in it: log 2. -/
def Obligations.EveryCommandCompletes : Prop :=
  ∀ (c : Instr) (s : State), Completes c s (fun t => t.pending = s.pending)

/-- The frame of the whole block: a command leaves every part of the state outside `touches` as it was. Time and what is sent out
are not parts; parameters are the subject of `Obligations.WritesOnly`. -/
def Obligations.TouchesOnly : Prop :=
  ∀ (c : Instr) (s t : State) (p : Part), exec c s = .next t → p ∉ touches c → p.same s t

/-- The frame of the dictionary: a command leaves every parameter outside `mayWrite` at its value. A general write, a load, an
effect of queued changes and a reset name no list: what they write is in their operands and in what is queued or stored. -/
def Obligations.WritesOnly : Prop :=
  ∀ (c : Instr) (s t : State) (l : List Nat), s.Inv → exec c s = .next t → mayWrite c = some l → s.keepsOthers t l

/-- Memory changes by four kinds of command alone: a frame that leaves Beryl for its history region, a frame that moves from the
head abutment into its span region, a write through a window, and a device reset, which clears it. The model's own choices in
it: log 34, 80. -/
def Obligations.MemoryFrame : Prop :=
  ∀ (c : Instr) (s t : State) (a : Nat), s.Inv → exec c s = .next t → c.isReset = false →
    (∀ u n errs, c ≠ .frameToHead u n errs) → (∀ u n errs, c ≠ .spanMove u n false errs) →
    (∀ u b ws x y errs p, c ≠ .bar4Write u b ws x y errs p) →
    memRead t.mem a = memRead s.mem a

/-- But for a device reset, Garnet time decreases only where a load is pending or a backward step is decided, and only while no
stream and no sequencer is enabled. Comes from R26, R53. The model's own choices in it: log 16, 31. -/
def Obligations.GarnetTime : Prop :=
  ∀ (c : Instr) (s t : State), exec c s = .next t → t.now < s.now → c.isReset = false →
    s.anyStream = false ∧ s.anySeq = false ∧ (s.time.load.isSome ∨ ∃ d, s.time.step = some (.backward d))

/-- With a stream or a sequencer enabled a backward step does not happen, and no command but a device reset, which ends the
records, makes Garnet time decrease. Comes from R49. -/
def Obligations.RecordsTime : Prop :=
  ∀ (c : Instr) (s t : State), exec c s = .next t → (s.anyStream = true ∨ s.anySeq = true) →
    (∀ u, c = .backwardStep u → t.now = (s.enter u).now ∧ t.dict = s.dict ∧ ∀ d, t.time.step ≠ some (.backward d))
      ∧ (c.isReset = false → s.now ≤ t.now)

/-- What the host port, the network, the store and the management processor do never touches the capture: the edge paths, the
conversions, the front end, the Causeway's store and buckets, the source table, units and sequencers, the streams' frames, the
timed actions and the outputs; of the time only the timestamps of the PTP messages sent are new. Comes from R13, R14, R312,
R259. -/
def Obligations.CaptureUndisturbed : Prop :=
  ∀ (c : Instr) (s t : State), c.besideCapture = true → exec c s = .next t →
    t.edge = s.edge ∧ t.run = s.run ∧ t.conv = s.conv ∧ t.slice = s.slice ∧ t.overlap = s.overlap ∧ t.ca = s.ca
      ∧ t.clamp = s.clamp ∧ t.tone = s.tone ∧ t.ex = s.ex ∧ t.cw = s.cw ∧ t.src = s.src ∧ t.units = s.units
      ∧ t.seqs = s.seqs ∧ t.slots = s.slots ∧ t.guard = s.guard ∧ t.line = s.line ∧ t.time = { s.time with ptpTx := t.time.ptpTx }

/-- The image that the encoder makes of a payload, at any level, decodes to that payload. Comes from R262 to R266, R272. -/
def Obligations.BerylRoundTrip : Prop :=
  ∀ (level : Nat) (ws : List Word), berylDecode ws.length (berylImage level ws) = .ok ws

/-- A device reset returns every parameter to its default but those that the flash and the fuses keep, Garnet time to zero and the
start-up to step 1; the cause is kept, the straps are sampled once RESET_N is high. Memory reads as zero afterwards. Comes
from R438, R439, R442, R444. The model's own choices in it: log 9 to 12, 83. -/
def Obligations.DeviceResets : Prop :=
  ∀ (s : State) (t : Nat) (resetN : Bool) (straps : Fin 16), s.Inv →
    let fresh (u : State) (cause : Nat) : Prop :=
      u.now = 0 ∧ u.time = {} ∧ u.mem = [] ∧ u.cw = {} ∧ u.stream = [] ∧ u.par Ix.startResetCause 0 = cause
        ∧ u.nv.copies = s.nv.copies ∧ u.nv.fw = s.nv.fw
        ∧ ∀ ix sub, ix ≠ Ix.startResetCause → ix ≠ Ix.startStraps →
          u.par ix sub = if survives ix then s.par ix sub else dfltOf (key ix sub)
    Completes (.powerOn t resetN straps) s (fun u => fresh u 0 ∧ u.resetHeld = !resetN
      ∧ u.par Ix.startStraps 0 = if resetN then straps.val else dfltOf (key Ix.startStraps 0))
    ∧ Completes (.resetNAssert t) s (fun u => fresh u 1 ∧ u.resetHeld = true)
    ∧ (s.resetHeld = true → Completes (.resetNRelease t straps) s (fun u => fresh u (s.par Ix.startResetCause 0)
      ∧ u.resetHeld = false ∧ u.par Ix.startStraps 0 = straps.val))

/-- A step of start-up whose end condition holds ends: START.STEP_END keeps the time, the next step begins. Step 5 counts the
start of the management processor, step 4 leaves the device in IDLE, step 6 sizes the DRAM, step 9 opens the interval before
the first SAVE (R422). Comes from R444, R446. The model's own choices in it: log 10, 15, 62, 75, 81, 83. -/
def Obligations.StartUpSteps : Prop :=
  ∀ (s : State) (t xb sro : Nat) (n : Fin 9) (faults : Fin 8) (channels : Fin 3) (rate : Fin 5), s.Inv →
    let s1 := s.enter t
    let ends : Bool :=
      match n.val with
      | 2 => s1.step3Over
      | 3 => decide (s1.loopState 0 = 2) && decide (s1.loopState 1 = 2) && s1.tpll
      | 7 => decide (s1.clk.dvfs = .steady) && decide (s1.par Ix.clkJasperNow 0 = s1.jasperGoal)
      | 8 => s1.cw.queue.isEmpty
      | _ => true
    s.resetHeld = false → s.par Ix.startStep 0 = n.val + 1 → ends = true → (4 ≤ n.val → s.runs 2 = true) →
      Completes (.startUpStepEnd t faults channels rate xb sro) s (fun u =>
        u.par Ix.startStep 0 = n.val + 2 ∧ u.par (Ix.startStepEnd + n.val) 0 = s1.now % 2 ^ 72
        ∧ (n.val = 0 → u.sourceReady 3 = true ∧ u.domainGood 0 = true)
        ∧ (n.val = 1 → tfind u.clk.started 0 = some s1.now ∧ tfind u.clk.started 1 = some s1.now)
        ∧ (n.val = 3 → u.par Ix.pwrState 0 = 1)
        ∧ (n.val = 4 → u.par Ix.storeBootCount 0 = s.par Ix.storeBootCount 0 + 1)
        ∧ (n.val = 5 → min channels.val (s1.bootValue Ix.memCfgChannels 0) = 0 → u.par Ix.memSize 0 = 0 ∧ u.par Ix.memState 0 = 0)
        ∧ (n.val = 5 → min channels.val (s1.bootValue Ix.memCfgChannels 0) ≠ 0 → u.par Ix.memState 0 = 1)
        ∧ (n.val = 8 → u.nv.lastCommit = s1.now))

/-- An oscillator whose start-up delay has run becomes READY when its monitor passes; a first check that fails is counted and the
oscillator is started again. A recovered clock becomes READY with its checks. In SAFE_HOLD FRO and XA are started again when
their retry is due; SAFE_HOLD is entered 80 µs after the failure, with Opal on SRO. TPLL is released onto the reference it has
locked to: time is FINE, or HOLDOVER on FRO, and the fallback is over or complete. In FALLBACK it returns to a permitted
reference that is READY, by itself after CLK.XA_RECOVER or on a write of CLK.RETURN. A source that is READY is selected for
Opal or for TPLL while the owner is disabled; a selection of a source that is not READY is refused, counted in CLK.REFUSED and
named in CLK.LAST_REFUSED with reason 1. CLK.FORCE_SRC takes effect without a READY check. Comes from R394, R402, R31, R39,
R401, Table 6, R44, R392, R397, R364. The model's own choices in it: log 13, 15, 22, 32, 43, 75, 87. -/
def Obligations.ClockSources : Prop :=
  (∀ (s : State) (t xb sro inFlight hanging : Nat), s.Inv →
      let s1 := s.enter t
      (∀ src : Fin 6, src.val ≤ 2 → s1.delayOver src = true →
        Completes (.sourceReady t src true xb sro) s (fun u => u.sourceReady src = true)
        ∧ Completes (.sourceReady t src false xb sro) s (fun u => u.sourceReady src = false
          ∧ tfind u.clk.started src = some s1.now ∧ u.par Ix.clkFailures 0 = cntNext (s.par Ix.clkFailures 0)
          ∧ u.par Ix.clkLastFailure 0 = (src.val + 1) * 2 ^ 24 ∧ u.par Ix.clkFailureTime 0 = s1.now))
      ∧ (∀ src : Fin 6, 4 ≤ src.val → s1.lineOver src = true →
        Completes (.sourceReady t src true xb sro) s (fun u => u.sourceReady src = true))
      ∧ (∀ xa : Bool, s.par Ix.clkFallbackState 0 = 3 → s1.retryDue (if xa then 0 else 2) = true →
        Completes (.safeHoldRetry t xa) s (fun u => u.sourceReady (if xa then 0 else 2) = false
          ∧ tfind u.clk.started (if xa then 0 else 2) = some s1.now))
      ∧ (s.par Ix.clkFallbackState 0 = 2 → s1.refReady .fro = false → s.clk.heldSince + 20480000 ≤ s1.now →
        Completes (.safeHoldEntry t inFlight hanging) s (fun u => u.par Ix.clkFallbackState 0 = 3 ∧ u.clk.opalXb = false
          ∧ u.time = s.time)))
  ∧ (∀ (s : State) (t : Nat) (r : Ref), s.Inv →
      let s1 := s.enter t
      let steady (r : Ref) : Bool := s1.refReady r
        && decide (tget 0 s1.clk.readyAt r.readyBit + s1.par Ix.clkXaRecover 0 * 256000000 ≤ s1.now)
      let back (u : State) : Prop := u.par Ix.clkFallbackState 0 = 0 ∧ u.clk.ref = some r ∧ u.time.quality = .fine
      (s.clk.locked = some r → s.time.quality = .coarse → s.clk.lockedAt < s1.now →
        Completes (.domainRelease t) s (fun u => u.clk.locked = none
          ∧ u.time.quality = (if r = .fro then .holdover else .fine) ∧ u.par Ix.clkFallbackState 0 = (if r = .fro then 1 else 0)))
      ∧ (s.par Ix.clkFallbackState 0 = 1 → s.par Ix.clkAutoReturn 0 = 1 → s1.forcedRef = none → r ≠ .fro →
        s1.permitted.find? steady = some r → Completes (.autoReturn t) s back)
      ∧ (s.par Ix.clkFallbackState 0 = 1 → r ≠ .fro → s1.chosenRef false = some r → Completes (.clkReturn t) s back))
  ∧ (∀ (s : State) (t v : Nat) (sub : Fin 2) (r : Ref), s.Inv →
      let s1 := s.enter t
      (s.capturing = false → v ≤ 1 → (v = 0 → s1.sourceReady 1 = true) →
        Completes (.sourceSelectWrite t true v) s (fun u => u.par Ix.clkOpalSrc 0 = v
          ∧ (s.par Ix.clkForceSrc 0 = 0 → s.par Ix.clkFallbackState 0 ≠ 3 → u.clk.opalXb = (decide (v = 0) && s.sourceReady 1))))
      ∧ (s.capturing = false → s.sourceReady 1 = false →
        Completes (.sourceSelectWrite t true 0) s (fun u => u.par Ix.clkRefused 0 = cntNext (s.par Ix.clkRefused 0)
          ∧ u.par Ix.clkLastRefused 0 = 2 ^ 24 + Ix.clkOpalSrc * 2 ^ 8 ∧ u.par Ix.clkOpalSrc 0 = s.par Ix.clkOpalSrc 0))
      ∧ (s.par Ix.timeServoEnable 0 = 0 → r ≠ .fro → s.refReady r = true → v = r.code →
        Completes (.sourceSelectWrite t false v) s (fun u => u.par Ix.synceRefSelect 0 = v
          ∧ (s.time.quality = .fine → s.par Ix.clkFallbackState 0 = 0 → s.forcedRef = none → u.clk.ref = some r)))
      ∧ (s.par Ix.timeServoEnable 0 = 0 → Completes (.sourceSelectWrite t false 3) s (fun u => u.par Ix.synceRefSelect 0 = 3))
      ∧ (v ≤ 2 + 2 * sub.val → Completes (.forceSrcWrite t sub v) s (fun u => u.par Ix.clkForceSrc sub = v
          ∧ (sub.val = 0 → v ≠ 0 → u.clk.opalXb = decide (v = 2))
          ∧ (sub.val = 1 → s.tpll = true → v = r.code + 1 → u.clk.ref = some r
            ∧ u.time.quality = (if r = .fro then .holdover else .fine)))))

/-- A failure is counted and recorded; a failure of XA, the only permitted reference, with FRO READY brings TPLL to FRO, time to
HOLDOVER and the clock cause of the safe state; a loop that loses lock is counted and begins to lock. A forced reference that
stops is followed by no safe state and no fallback: the pins stay, and time stops advancing without a record. A loop declares
lock once its count of reference cycles has passed, 2^16 in fixed-time mode. Comes from R395, R397, R399, R401. The model's
own choices in it: log 15, 22, 43, 75. -/
def Obligations.ClockFailures : Prop :=
  ∀ (s : State) (t v xb sro inFlight hanging : Nat) (stopped : Bool) (f : Ref), s.Inv →
    let s1 := s.enter t
    let until_ (l : Fin 5) : Nat := tget 0 s.clk.lockFrom l
      + (if s.par Ix.clkPllLockMode l = 1 then 65536 else s.par Ix.clkPllLockCount l) * s.loopPeriod l
    (∀ code : Fin 12, code.val ≠ 0 → Completes (.clockFailure t code stopped xb sro inFlight hanging) s (fun u =>
      u.par Ix.clkFailures 0 = cntNext (s.par Ix.clkFailures 0) ∧ u.par Ix.clkLastFailure 0 = code.val * 2 ^ 24
      ∧ u.par Ix.clkFailureTime 0 = s1.now))
    ∧ (s.clk.ref = some .xa → s.par Ix.synceRefSelect 0 = 0 → s1.forcedRef = none → s1.tpll = true → s1.refReady .fro = true →
      Completes (.clockFailure t 1 stopped xb sro inFlight hanging) s (fun u => u.time.quality = .holdover
        ∧ u.clk.ref = some .fro ∧ u.clockCause = true ∧ u.sourceReady 0 = false))
    ∧ (∀ l : Fin 3, Completes (.clockFailure t ⟨8 + l.val, by omega⟩ stopped xb sro inFlight hanging) s (fun u =>
      u.loopState (1 + l.val) = 1 ∧ u.par Ix.clkPllLosses (1 + l.val) = cntNext (s.par Ix.clkPllLosses (1 + l.val))))
    ∧ (∀ code : Fin 12, monitorSource code = some f.readyBit → s1.forcedRef = some f → s.clk.ref = some f → s.tpll = true →
      Completes (.clockFailure t code true xb sro inFlight hanging) s (fun u => u.clk.dead = true ∧ u.now = s1.now
        ∧ u.clockCause = s.clockCause ∧ u.guard = s.guard ∧ u.line = s.line ∧ u.cw = s.cw
        ∧ u.par Ix.clkFallbackState 0 = s.par Ix.clkFallbackState 0 ∧ u.timeAt v = u.now))
    ∧ (∀ l : Fin 5, s.loopState l = 1 →
        (until_ l ≤ max t s1.now ∨ (l.val = 0 ∧ s.time.quality ≠ .coarse)) → Completes (.pllLock t l inFlight hanging) s (fun u =>
      u.par Ix.clkPllLockTime l = (s1.now - tget 0 s.clk.lockFrom l) / 256000 % 2 ^ 32 ∧ u.loopState l = 2))

/-- A point of Jasper is taken: a rise drives the new code and waits for the dwell and PGOOD, a fall is in force at once. PGOOD
that does not come within its time leaves the point and drives the old code again; PGOOD that falls at a steady point drops
Jasper to J3. Comes from R404, R405, R406. The model's own choices in it: log 48. -/
def Obligations.JasperPoint : Prop :=
  ∀ (s : State) (t : Nat) (v : Fin 4) (g d old : Nat), s.Inv →
    let s1 := s.enter t
    let code (k : Nat) : Nat := s.par Ix.clkVselCode k
    let until_ := s1.now + s.par Ix.clkVselDwell 0 * 256000
    Completes (.jasperPointWrite t v) s (fun u => u.par Ix.clkJasperPoint 0 = v
      ∧ (s.clk.dvfs ≠ .steady → u.clk.dvfs = s.clk.dvfs ∧ u.clk.again = true)
      ∧ (s.clk.dvfs = .steady → 2 ≤ s.par Ix.pwrState 0 → v.val < s.par Ix.clkJasperNow 0 →
        u.clk.dvfs = .dwell v until_ s.clk.vsel ∧ u.clk.vsel = code v ∧ u.par Ix.clkJasperNow 0 = s.par Ix.clkJasperNow 0)
      ∧ (s.clk.dvfs = .steady → 2 ≤ s.par Ix.pwrState 0 → s.par Ix.clkJasperNow 0 < v.val →
        u.clk.dvfs = .down until_ ∧ u.clk.vsel = code v ∧ u.par Ix.clkJasperNow 0 = v.val))
    ∧ (s.clk.dvfs = .dwell g d old → d ≤ s1.now → s.clk.again = false →
      Completes (.dvfsDwellEnd t) s (fun u =>
        (s.clk.pgood = true → u.clk.dvfs = .steady ∧ u.par Ix.clkJasperNow 0 = g)
        ∧ (s.clk.pgood = false → u.clk.dvfs = .wait g (d + s.par Ix.clkPgoodTimeout 0 * 256000) old
          ∧ u.par Ix.clkJasperNow 0 = s.par Ix.clkJasperNow 0)))
    ∧ (s.clk.dvfs = .wait g d old → d ≤ s1.now → s.clk.pgood = false → s.clk.again = false →
      Completes (.pgoodTimeout t) s (fun u => u.clk.dvfs = .steady ∧ u.clk.vsel = old
        ∧ u.par Ix.clkDvfsFails 0 = cntNext (s.par Ix.clkDvfsFails 0) ∧ u.par Ix.clkJasperNow 0 = s.par Ix.clkJasperNow 0))
    ∧ (s.clk.dvfs = .wait g d old → s.clk.again = false →
      Completes (.pgoodRise t) s (fun u => u.clk.dvfs = .steady ∧ u.par Ix.clkJasperNow 0 = g ∧ u.clk.pgood = true))
    ∧ (s.clk.dvfs = .steady → s.clk.pgood = true →
      Completes (.pgoodFall t) s (fun u => u.par Ix.clkJasperNow 0 = 3 ∧ u.clk.pgood = false
        ∧ u.par Ix.clkPgoodLosses 0 = cntNext (s.par Ix.clkPgoodLosses 0)))

/-- A commanded state of the device or of a pier that nothing blocks waits for the first whole microsecond after the write; a
blocked one is counted in CLK.REFUSED. At its microsecond it takes effect: a pier runs in the lower of its target and the
device state; in DORMANT time is COARSE. Comes from R403, R407. The model's own choices in it: log 44, 48. -/
def Obligations.PowerStates : Prop :=
  ∀ (s : State) (t xb sro d reason block : Nat) (v : Fin 4) (p : Fin 24) (w : Fin 3) (busy : Bool), s.Inv →
    let s1 := s.enter t
    let waits (u : State) (pier : Option Nat) (x : Nat) : Prop := u.clk.pending = s.clk.pending ++ [⟨nextMicro s1.now, pier, x⟩]
    (s.par Ix.pwrState 0 ≠ 0 → s1.pwrBlocked v busy = none → Completes (.pwrCmd t v busy) s (fun u => waits u none v))
    ∧ (s.par Ix.pwrState 0 ≠ 0 → s1.pwrBlocked v busy = some (reason, block) →
      Completes (.pwrCmd t v busy) s (fun u => u.clk.pending = s.clk.pending
        ∧ u.par Ix.clkRefused 0 = cntNext (s.par Ix.clkRefused 0)
        ∧ u.par Ix.clkLastRefused 0 = reason * 2 ^ 24 + block / 256 * 2 ^ 8 + block % 256))
    ∧ (w.val ≠ 0 ∨ busy = false →
      Completes (.pwrPierCmd t p w busy) s (fun u => u.par Ix.pwrPierTarget p = w ∧ waits u (some p) w))
    ∧ (s.clk.pending = [⟨d, none, v⟩] → d ≤ s1.now → s.par Ix.pwrState 0 ≠ 0 →
      Completes (.powerStateEffect t xb sro) s (fun u => u.par Ix.pwrState 0 = v ∧ (v.val = 0 → u.time.quality = .coarse)))
    ∧ (s.clk.pending = [⟨d, some p, w⟩] → d ≤ s1.now →
      Completes (.powerStateEffect t xb sro) s (fun u => u.par Ix.pwrPierState p = s1.pierWant p ∧ u.clk.pending = []))

/-- An enabled wake source wakes the device from DORMANT: PWR.WAKE_CAUSE keeps it, XA starts. A DRAM channel that wakes on demand
takes the DRAM out of self-refresh; FRO starts where it is wanted; no other wake changes a result. Comes from R408, R409,
R410. The model's own choices in it: log 44, 48. -/
def Obligations.Wakes : Prop :=
  ∀ (s : State) (t : Nat) (cause : Fin 3) (lane : Fin 192) (n : WakeUnit), s.Inv →
    let s1 := s.enter t
    (s.par Ix.pwrState 0 = 0 → s.par Ix.startStep 0 = 10 → s.clk.waking = false → s1.wakes cause lane (max t s1.now) = true →
      Completes (.wakeEvent t cause lane) s (fun u => u.clk.waking = true ∧ u.par Ix.pwrWakeCause 0 = cause
        ∧ tfind u.clk.started 0 = some s1.now ∧ u.sourceReady 0 = false))
    ∧ Completes (.unitWake t n) s (fun u => u.par Ix.pwrState 0 = s.par Ix.pwrState 0
      ∧ ((∃ k, n = .dram k) → s.par Ix.memState 0 = 2 → 2 ≤ s.par Ix.pwrState 0 → s.domainGood 3 = true →
        u.par Ix.memState 0 = 1)
      ∧ (n = .fro → s.froWanted = true → tfind s.clk.started 2 = none → tfind u.clk.started 2 = some s1.now)
      ∧ (((∃ k, n = .tdc k) ∨ (∃ k, n = .slice k) ∨ (∃ k, n = .engine k) ∨ (∃ k, n = .port k)) → u.dict = s.dict ∧ u.clk = s.clk))

/-- A brown-out holds every guard pin that is not overridden and every Viaduct line in the safe state; once both detectors are
clear the cause is gone, and an output in FOLLOW mode that no other cause holds leaves at the next whole microsecond. A low
rail is reported and counted. DIAG.TJ_OVER is 1 while the temperature exceeds 105 °C. An expiry of the watchdog ends every
session, drops the store's operation and counts a start of the processor; an image confirmed after FW.CONFIRM_TIME raises the
fuses; a powered hour is counted in its temperature band and weighs on the life used. Comes from R72, R73, R454, R461, R462,
R14, R377, R425, R431, R432, R463. The model's own choices in it: log 43, 63. -/
def Obligations.RailsTemperatureProcessor : Prop :=
  (∀ (s : State) (t : Nat) (aon : Bool) (rail : Fin 7) (tj : Word), s.Inv →
      let s1 := s.enter t
      Completes (.brownOut t aon) s (fun u => u.brownCause = true
        ∧ (if aon then u.clk.brownAon = true else u.clk.brownCore = true)
        ∧ (∀ n : Fin 192, s.par Ix.guardSafeOverride n ≠ 1 → (u.outOf .guard n).held = true)
        ∧ (∀ n : Fin 8, (u.outOf .line n).held = true))
      ∧ (s.brownCause = true → (if aon then s.clk.brownCore = false else s.clk.brownAon = false) → s.clockCause = false →
        Completes (.brownOutClear t aon) s (fun u => u.brownCause = false ∧ u.clk.brownCore = false ∧ u.clk.brownAon = false
          ∧ ∀ n : Fin 192, (s.outOf .guard n).held = true → (s.outOf .guard n).safeAll = false →
            s.par Ix.guardSafeMode n = 1 → (s.outOf .guard n).releaseAt = none →
            (u.outOf .guard n).releaseAt = some (nextMicro s1.now)))
      ∧ (bit (s.par Ix.diagRailLow 0) rail = false → Completes (.railLow t rail) s (fun u =>
        bit (u.par Ix.diagRailLow 0) rail = true ∧ u.par Ix.diagRailEvents 0 = cntNext (s.par Ix.diagRailEvents 0)))
      ∧ Completes (.railLowClear t rail) s (fun u => bit (u.par Ix.diagRailLow 0) rail = false)
      ∧ Completes (.tjSample t tj) s (fun u => u.par Ix.diagTj 0 = tj.toNat
        ∧ u.par Ix.diagTjOver 0 = b2n (decide (f32Key 0x42D20000 < f32Key tj.toNat))
        ∧ (f32Key (s.par Ix.diagTjMax 0) < f32Key tj.toNat → u.par Ix.diagTjMax 0 = tj.toNat)))
  ∧ (∀ (s : State) (t inFlight hanging : Nat) (mean : Int), s.Inv →
      let s1 := s.enter t
      (6 ≤ s.par Ix.startStep 0 → tsorted s.net.sessions = true →
        Completes (.watchdogExpiry t inFlight hanging) s (fun u => u.net.sessions = [] ∧ u.nv.job = none ∧ u.nv.stage = none
          ∧ u.par Ix.storeState 0 = 0 ∧ u.par Ix.storeBootCount 0 = s.par Ix.storeBootCount 0 + 1))
      ∧ (s.par Ix.fwState 0 = 2 → s.nv.fwSince + s.par Ix.fwConfirmTime 0 * 256000000000 ≤ s1.now →
        Completes (.fwConfirm t) s (fun u => u.par Ix.fwState 0 = 3 ∧ (u.fwSlot (s.par Ix.fwActiveSlot 0)).confirm = true
          ∧ u.par Ix.fwFuseCount 0 = max (s.par Ix.fwFuseCount 0)
            (min (fwSecOf (s.fwSlot (s.par Ix.fwActiveSlot 0)).data) 256)))
      ∧ Completes (.ageHour t mean) s (fun u => u.par Ix.storeAge 0 = s.par Ix.storeAge 0 + 1
        ∧ u.par Ix.diagTjHours (tjBand mean) = s.par Ix.diagTjHours (tjBand mean) + 1
        ∧ u.par Ix.diagLifeUsed 0 = s.par Ix.diagLifeUsed 0 + tjWeight (tjBand mean)))

/-- A write of 1 to TIME.LOAD_CMD is refused and counted while anything captures; else it latches the mode, the value and LOAD_AT,
and the load is pending, or cancelled at once where LOAD_AT has passed. An IMMEDIATE or AT_TIME load takes effect at its
instant, with no stream and no sequencer enabled and every boundary up to it done: Garnet time is the value and what has
passed since, a new epoch begins, the servo is back at ACQUIRING. With one enabled the load is cancelled and changes nothing.
A forward step takes effect at its multiple of 2^28 ticks: time jumps by it, the skipped interval holds nothing scheduled, a
new epoch begins. A backward step, with nothing enabled, takes its ticks back. A slewed tick is counted. Comes from R53, R54,
R57, R47 to R51. The model's own choices in it: log 16, 17, 31, 78. -/
def Obligations.TimeChanges : Prop :=
  (∀ (s : State) (t d : Nat) (l : PendingLoad), s.Inv →
      let s1 := s.enter t
      let mode := s.par Ix.timeLoadMode 0
      let cancelled (u : State) : Prop := u.par Ix.timeLoadState 0 = 3 ∧ u.time.load = none
        ∧ u.par Ix.timeLoadCancelled 0 = cntNext (s.par Ix.timeLoadCancelled 0)
      (s1.capturing = true →
        Completes (.timeLoadCmd t) s (fun u => u.par Ix.timeRejectedWrites 0 = cntNext (s.par Ix.timeRejectedWrites 0)
          ∧ u.par Ix.timeLastRejected 0 = Ix.timeLoadCmd * 256 ∧ u.time = s.time))
      ∧ (s1.capturing = false → (mode = 1 → s1.now < s.par Ix.timeLoadAt 0) →
        Completes (.timeLoadCmd t) s (fun u => u.par Ix.timeLoadState 0 = 1
          ∧ u.time.load = some ⟨mode, s.par Ix.timeLoadValue 0, s.par Ix.timeLoadAt 0, s1.now⟩))
      ∧ (s1.capturing = false → mode = 1 → s.par Ix.timeLoadAt 0 ≤ s1.now →
        Completes (.timeLoadCmd t) s (fun u => cancelled u ∧ u.now = s1.now))
      ∧ (s.time.load = some l → l.due = some d → d ≤ s1.now → (s.cw.queue.all fun c => decide (d < c.eff)) = true →
          s.anyStream = false → s.anySeq = false →
        Completes (.timeLoadEffect t) s (fun u => u.now = (l.value + (s1.now - d)) % 2 ^ 72 ∧ u.time.load = none
          ∧ u.par Ix.timeLoadState 0 = 2 ∧ u.par Ix.timeEpochNum 0 = (s.par Ix.timeEpochNum 0 + 1) % 65536
          ∧ u.time.loadOwed = 255 ∧ u.par Ix.timeSyncState 0 = min 1 (s.par Ix.timeSyncState 0)))
      ∧ (s.time.load = some l → l.due = some d → d ≤ s1.now → (s.cw.queue.all fun c => decide (d < c.eff)) = true →
          (s.anyStream = true ∨ s.anySeq = true) →
        Completes (.timeLoadEffect t) s (fun u => cancelled u ∧ u.now = s1.now)))
  ∧ (∀ (s : State) (t a d : Nat) (add : Bool), s.Inv →
      let s1 := s.enter t
      let counted (u : State) : Prop := u.time.step = none ∧ u.par Ix.timeSteps 0 = cntNext (s.par Ix.timeSteps 0)
        ∧ u.par Ix.timeEpochNum 0 = (s.par Ix.timeEpochNum 0 + 1) % 65536
      (s.time.step = some (.forward a d) → a ≤ s1.now → s.tpll = true → s.servoRuns = true →
          (s.par Ix.timeStepMode 0 = 2 ∨ (s.par Ix.timeStepMode 0 = 1 ∧ s.idle = true)) →
        Completes (.forwardStep t) s (fun u => u.now = s1.now + d ∧ counted u ∧ u.time.skipped = some (a, a + d)
          ∧ (∀ x ∈ u.slots, x.due < a ∨ a + d ≤ x.due) ∧ (∀ c ∈ u.cw.queue, c.eff < a ∨ a + d ≤ c.eff)))
      ∧ (s.time.step = some (.backward d) → s.tpll = true → s.servoRuns = true → s.idle = true → s.par Ix.timeStepMode 0 ≠ 0 →
        Completes (.backwardStep t) s (fun u => u.now = s1.now - d ∧ counted u))
      ∧ (s.tpll = true → s.servoRuns = true → (s.par Ix.timeSyncState 0 ≠ 0 ∨ s.par Ix.timePpsInMode 0 = 2) →
          s.time.slewDue ≤ s1.now * 1000000 →
        Completes (.servoSlewTick t add) s (fun u => u.time.slew = some (s1.now, add) ∧ u.now = s1.now
          ∧ (0 < s.par Ix.timeSlewMax 0 →
            1000000000000 ≤ (u.time.slewDue - (s1.now - 255) * 1000000) * s.par Ix.timeSlewMax 0)
          ∧ u.par Ix.timeSlewTicks 0 = (s.par Ix.timeSlewTicks 0 + 1) % 2 ^ 64)))

/-- PPS_OUT rises where Garnet time equals the phase modulo the period, for TIME.PPS_WIDTH, and takes the pending period and phase
with its edge; its falling edge ends the pulse. A rising edge of PPS_IN is stamped and kept in TIME.PPS_IN_LAST; a pending
AT_PPS_IN load gives that stamp the load value, with the edge's FRAC. An edge inside the blind interval is only counted. Comes
from R53, R55, R56. The model's own choices in it: log 18, 19. -/
def Obligations.PpsOutAndIn : Prop :=
  ∀ (s : State) (t f base code : Nat) (l : PendingLoad), s.Inv →
    let s1 := s.enter t
    let p := s.time.pps
    let stamp := s1.stampOf 200 base code
    let w := s.par Ix.timePpsWidth 0
    let period := s.par Ix.timePpsPeriod 0
    let gap := 1 + (s.par Ix.timePpsPhase 0 % period + period - (s1.now + 1) % period) % period
    let e := s.edgeOf 200
    let running : Prop := s.tpll = true ∧ (s.par Ix.timePpsInMode 0 ≠ 0 ∨ s.ppsLoad = true)
    let rises : Prop := e.input = 0 ∧ running ∧ (e.blind = none ∨ e.blind = some f ∧ s1.blindEnd f ≤ stamp)
    let latched (u : State) : Prop := u.time.pps.period = s.par Ix.timePpsPeriod 0 ∧ u.time.pps.phase = s.par Ix.timePpsPhase 0
    (s.tpll = true → p.running = true → p.fallAt = none → s1.now % p.period = p.phase % p.period → p.after ≠ some s1.now →
      Completes (.ppsOutEdge t) s (fun u => latched u ∧ u.now = s1.now ∧ u.time.pps.high = decide (w ≠ 0)
        ∧ u.time.pps.fallAt = if w = 0 ∨ gap ≤ 256 * w then none else some (s1.now + 256 * w)))
    ∧ (s.tpll = true → p.running = true → p.fallAt = some f → f ≤ s1.now →
      Completes (.ppsOutEdge t) s (fun u => latched u ∧ u.time.pps.high = false ∧ u.time.pps.fallAt = none))
    ∧ (rises → s.time.load = none ∨ s.time.load = some l ∧ l.mode ≠ 2 →
      Completes (.ppsInEdge t base code) s (fun u => u.par Ix.timePpsInLast 0 = stamp % 2 ^ 72 ∧ (u.edgeOf 200).input = 1
        ∧ (u.edgeOf 200).blind = some stamp ∧ u.now = s1.now))
    ∧ (rises → s.time.load = some l → l.mode = 2 → s.anyStream = false → s.anySeq = false →
        (s.cw.queue.all fun c => decide (stamp < c.eff)) = true →
      Completes (.ppsInEdge t base code) s (fun u => u.par Ix.timePpsInLast 0 = stamp % 2 ^ 72 ∧ u.par Ix.timeLoadState 0 = 2
        ∧ u.time.load = none ∧ u.now = (l.value / 256 * 256 + stamp % 256 + (s1.now - stamp)) % 2 ^ 72))
    ∧ (e.input = 0 → running → e.blind = some f → stamp < s1.blindEnd f →
      Completes (.ppsInEdge t base code) s (fun u => u.par Ix.timePpsInLast 0 = s.par Ix.timePpsInLast 0 ∧ u.now = s1.now
        ∧ (u.edgeOf 200).edges = e.edges ∧ u.par Ix.timeDpLost 200 = cntNext (s.par Ix.timeDpLost 200)))

/-- The clocks that are READY are measured once at the end of each interval of 2^38 ticks, in COARSE at the first edge of the slow
clock from it on: against the reference while FINE, SRO against XB else. A window of calibration hits gives the position of
every code: the widths before it and half its own. Once at a multiple of 2^38 ticks the tables in effect move towards the
measured ones by at most a quarter tick an entry, and a frozen input keeps its own. Comes from R32, R34, R35, R38. The model's
own choices in it: log 3, 22. -/
def Obligations.TdcTables : Prop :=
  ∀ (s : State) (t : Nat) (fro xb sro : Int) (src : Fin 201) (counts old new : List Nat) (c : Fin 256), s.Inv →
    let s1 := s.enter t
    let due : Prop := s.time.froAt ≠ some s1.now ∧ (s.tpll = true → s1.now % 2 ^ 38 = 0)
      ∧ (s.tpll = false → s1.now % 2 ^ 38 * 65536 < s.slowPeriod)
    let updates : Prop := s.tpll = true ∧ s1.now % 2 ^ 38 = 0 ∧ s.time.tableAt ≠ some s1.now
    (due → s.time.quality = .fine → Completes (.froMeasurement t fro xb sro) s (fun u =>
      u.par Ix.timeSroTrim 0 = ofI32 sro ∧ (s.sourceReady 1 = true → u.par Ix.timeXbTrim 0 = ofI32 xb)
        ∧ u.time.fro = (if s.sourceReady 2 then fro else s.time.fro) ∧ u.now = s1.now))
    ∧ (due → s.time.quality ≠ .fine → s.sourceReady 1 = true → Completes (.froMeasurement t fro xb sro) s (fun u =>
      u.par Ix.timeSroTrim 0 = ofI32 sro ∧ u.par Ix.timeXbTrim 0 = s.par Ix.timeXbTrim 0 ∧ u.time.fro = s.time.fro
        ∧ u.now = s1.now))
    ∧ (s1.calRuns src = true → counts.length = 256 → 0 < counts.sum →
      Completes (.tdcCalWindowEnd t src counts) s (fun u => ∃ l, tfind u.time.newTables src = some l
        ∧ l[c.val]? = some ((2 * (counts.take c).sum + counts.getD c 0) * 4194304 / counts.sum)
        ∧ u.time.tables = s.time.tables))
    ∧ (updates → s.time.newTables = [(src.val, new)] → s.par Ix.timeTdcCalFreeze src = 0 →
        tfind s.time.tables src = some old → old.length = 256 → new.length = 256 →
      Completes (.tdcTableUpdate t) s (fun u => ∃ l, tfind u.time.tables src = some l
        ∧ l[c.val]? = some (max (old.getD c 0 - 8192) (min (old.getD c 0 + 8192) (new.getD c 0)))))
    ∧ (updates → s.time.newTables = [(src.val, new)] → s.par Ix.timeTdcCalFreeze src = 1 →
      Completes (.tdcTableUpdate t) s (fun u => u.time.tables = s.time.tables))

/-- A message of another domain changes nothing. On a port that follows its master a one-step Sync, or the Follow_Up of a two-step
one, gives TIME.OFFSET its filtered offset, a value that the servo's loop (a free value of Config) makes of the Sync's receive
timestamp, the last delay request's transmit timestamp and the asymmetry; sixteen in the lock window lock the servo. A sent
Sync carries its transmit timestamp with the user's delay, with PTP.TWO_STEP its Follow_Up does; a message that the profile
does not use is not sent. An announce timeout that leaves no master leads to NET_HOLDOVER. An ESMC PDU carries the quality
level of the reference in use. Comes from R41, R42, R44, R45. The model's own choices in it: log 20, 21, 32. -/
def Obligations.PtpAndEsmc : Prop :=
  ∀ (s : State) (t : Nat) (port : Fin 2) (kind : Fin 16) (m : PtpMsg), s.Inv →
    let s1 := s.enter t
    let rx : Int := (s1.now : Int) - Config.ptpDelay port false - i32 (s.par Ix.ptpRxDelayExt port)
    let tx : Int := (s1.now : Int) + Config.ptpDelay port true + i32 (s.par Ix.ptpTxDelayExt port)
    let request := tget 0 s.time.ptpTx (16 * port.val + if s.par Ix.ptpProfile 0 = 1 then 2 else 1)
    let offset (stamp : Int) := Config.servoOffset s.fresh stamp request (i32 (s.par Ix.ptpAsymCoeff port))
    let follows : Prop := s.portUp port = true ∧ 8 ≤ s.par Ix.ptpPortState port ∧ s.par Ix.timeServoEnable 0 = 1
      ∧ s.time.load = none ∧ ptpFails m = none ∧ m.domain = s.par Ix.ptpDomain 0
    let servo (off : Int) (u : State) : Prop := u.par Ix.timeOffset 0 = ofI32 (clampI (-2147483648) 2147483647 off)
      ∧ u.time.inWindow = (if off.natAbs ≤ s.par Ix.timeLockWindow 0 then s.time.inWindow + 1 else 0)
      ∧ u.par Ix.timeSyncState 0 = if 16 ≤ u.time.inWindow then 2 else 1
    let message (k : Nat) (stamp : Option Int) : Out := .ptp port (s.par Ix.ptpTransport port) (s.par Ix.ptpDomain 0)
      (s.par Ix.ptpPriority1 0) (s.par Ix.ptpPriority2 0) k stamp
    (s.portUp port = true → ptpFails m = none → m.domain ≠ s.par Ix.ptpDomain 0 →
      Completes (.ptpMessageRx t port m) s (fun u => u.time = s.time ∧ u.dict = s.dict))
    ∧ (follows → m.kind = 0 → m.twoStep = false → Completes (.ptpMessageRx t port m) s (servo (offset rx)))
    ∧ (follows → m.kind = 0 → m.twoStep = true →
      Completes (.ptpMessageRx t port m) s (fun u => tget 0 u.time.ptpRx (16 * port.val) = rx ∧ u.dict = s.dict))
    ∧ (follows → m.kind = 8 →
      Completes (.ptpMessageRx t port m) s (servo (offset (tget 0 s.time.ptpRx (16 * port.val)))))
    ∧ (s.portUp port = true → kind.val = 0 → Completes (.ptpMessageSend t port kind) s (fun u =>
      u.out = if s.par Ix.ptpTwoStep 0 = 1 then [message 0 none, message 8 (some tx)] else [message 0 (some tx)]))
    ∧ (s.portUp port = true → s.par Ix.ptpProfile 0 ≠ 1 → kind.val = 1 → Completes (.ptpMessageSend t port kind) s (fun u =>
      u.out = [message 1 none] ∧ tget 0 u.time.ptpTx (16 * port.val + 1) = tx))
    ∧ (s.portUp port = true → s.par Ix.ptpProfile 0 ≠ 1 → (kind.val = 2 ∨ kind.val = 3 ∨ kind.val = 10) →
      Completes (.ptpMessageSend t port kind) s (fun u => u.out = [] ∧ u.time = s.time))
    ∧ (s.par Ix.timeServoEnable 0 = 1 → s.par Ix.ptpPortState (1 - port.val) < 8 → s.time.master = true →
      Completes (.announceTimeout t port) s (fun u => u.par Ix.timeSyncState 0 = 3 ∧ u.time.master = false
        ∧ u.time.inWindow = 0))
    ∧ (s.canSend port = true → s.clk.ref = some .xa →
      Completes (.esmcPduSend t port) s (fun u => u.out = [.esmc port (s.par Ix.synceQlXa 0)]))
    ∧ (s.canSend port = true → (s.clk.ref = some .eth0 ∨ s.clk.ref = some .eth1) →
      Completes (.esmcPduSend t port) s (fun u =>
        u.out = [.esmc port (s.par Ix.synceQlRx (if s.clk.ref = some .eth0 then 0 else 1))]))

/-- A malformed PTP message is discarded silently, counted and logged; the time base, the servo state and the port state stay.
Comes from R43. The model's own choices in it: log 20. -/
def Obligations.MalformedPtp : Prop :=
  ∀ (s : State) (t r : Nat) (port : Fin 2) (m : PtpMsg), s.Inv →
    let s1 := s.enter t
    let kept (u : State) : Prop := u.out = [] ∧ u.now = s1.now ∧ u.time = s.time
      ∧ u.par Ix.timeSyncState 0 = s.par Ix.timeSyncState 0 ∧ u.par Ix.timeOffset 0 = s.par Ix.timeOffset 0
      ∧ (∀ p : Fin 2, u.par Ix.ptpPortState p = s.par Ix.ptpPortState p)
    let counted (u : State) : Prop := u.par Ix.netPtpMalformed 0 = cntNext (s.par Ix.netPtpMalformed 0)
      ∧ u.par Ix.pflKindCount 32 = cntNext (s.par Ix.pflKindCount 32)
    (s.portUp port = true → ptpFails m = some r → (∀ a, tfind s.pflLast 32 = some a → a + 2560000 ≤ s1.now) →
      Completes (.ptpMessageRx t port m) s (fun u => kept u ∧ counted u
        ∧ u.par Ix.pflWritten 0 = (s.par Ix.pflWritten 0 + 1) % 2 ^ 64 ∧ tfind u.pflLast 32 = some s1.now))
    ∧ (s.portUp port = true → ptpFails m = some r → (∃ a, tfind s.pflLast 32 = some a ∧ s1.now < a + 2560000) →
      Completes (.ptpMessageRx t port m) s (fun u => kept u ∧ counted u
        ∧ u.par Ix.pflSuppressed 0 = cntNext (s.par Ix.pflSuppressed 0)))

/-- A lane's comparator rises above its upper threshold and falls below its lower one, a line's at 1.75 V and 1.35 V; within 50 ns
of a change of its codes a lane's thresholds lie between old and new. A crossing outside a blind interval is stamped and opens
one; one inside is only counted, and the input is sampled again at its end. An edge whose level does not hold for the deglitch
interval goes with the edge that ended it, a glitch; an edge that holds moves the accepted level and, stamped while its source
runs, makes a TRANSITION in the source's buffer of 256 or 64 places. Comes from R37, R59, R60, R61, R62, R64, R79, R202. The
model's own choices in it: log 18, 85. -/
def Obligations.Edges : Prop :=
  ∀ (s : State) (t base code t0 : Nat) (src : Fin 201) (inp : PinInput) (uv : Int) (x y : Edge) (rest : List Edge), s.Inv →
    let s1 := s.enter t
    let e := s.edgeOf src
    let lv := s1.comparator src e.input inp
    let stamp := s1.stampOf src base code
    let thr (a : Nat) (ix : Nat) : Nat := min (s1.parAt a ix src) 4000
    let hi (a : Nat) : Int := if src.val < 192 then (max (thr a Ix.laneThrHi) (thr a Ix.laneThrLo) : Nat) * 1250 + 1000 else 1750000
    let lo (a : Nat) : Int := if src.val < 192 then (min (thr a Ix.laneThrHi) (thr a Ix.laneThrLo) : Nat) * 1250 - 1000 else 1350000
    let past := s1.now - 12800
    let due : Prop := (x.stamp : Int) - s.skew src + s.deglitch src ≤ (s1.now : Int)
    let holds : Prop := (e.edges = [x] ∨ e.edges = x :: y :: rest ∧ (x.stamp + s.deglitch src < y.stamp ∨ s.deglitch src = 0)) ∧ due
    let r := recTransition x.stamp src x.level x.resampled
    let live : Prop := src.val < 200 ∧ (s.runOf src).at_ x.stamp = true ∧ (192 ≤ src.val ∨ s.par Ix.laneDcapMode src ≠ 1)
    let places := if src.val < 192 then 256 else 64
    (src.val < 200 → Completes (.thresholdEdge t src base code (.volts uv)) s (fun u =>
      (max (hi s1.now) (hi past) < uv → (u.edgeOf src).input = 1) ∧ (uv < min (lo s1.now) (lo past) → (u.edgeOf src).input = 0)
        ∧ (lo s1.now ≤ uv → uv ≤ hi s1.now → lo past ≤ uv → uv ≤ hi past → (u.edgeOf src).input = e.input)))
    ∧ (src.val < 200 → e.input ≠ lv → s1.tdcRuns src = true → e.blind = none →
      Completes (.thresholdEdge t src base code inp) s (fun u => (u.edgeOf src).blind = some stamp ∧ (u.edgeOf src).reported = lv
        ∧ (u.edgeOf src).edges.getLast? = some ⟨stamp, lv, false⟩))
    ∧ (src.val < 200 → e.input ≠ lv → s1.tdcRuns src = true → e.blind = some t0 → stamp < s1.blindEnd t0 →
      Completes (.thresholdEdge t src base code inp) s (fun u => (u.edgeOf src).blind = some t0 ∧ (u.edgeOf src).edges = e.edges
        ∧ u.par Ix.timeDpLost src = cntNext (s.par Ix.timeDpLost src)))
    ∧ (e.blind = some t0 → (s1.blindEnd t0 : Int) - s.skew src ≤ (s1.now : Int) → s1.tdcRuns src = true →
      Completes (.tdcResample t src) s (fun u => (u.edgeOf src).blind = none ∧ (u.edgeOf src).reported = e.input
        ∧ (u.edgeOf src).edges = e.edges ++ (if e.input = e.reported then [] else [⟨s1.blindEnd t0, e.input, true⟩])))
    ∧ (e.edges = x :: y :: rest → due → y.stamp ≤ x.stamp + s.deglitch src → s.deglitch src ≠ 0 →
      Completes (.deglitchEnd t src) s (fun u => (u.edgeOf src).edges = rest ∧ (u.edgeOf src).level = e.level
        ∧ (u.edgeOf src).buf = e.buf ∧ (src.val < 192 → u.par Ix.laneGlitches src = cntNext (s.par Ix.laneGlitches src))))
    ∧ (holds → live → e.buf.length < places →
      Completes (.deglitchEnd t src) s (fun u => (u.edgeOf src).edges = e.edges.drop 1 ∧ (u.edgeOf src).level = x.level
        ∧ (u.edgeOf src).buf = e.buf ++ [r]))
    ∧ (holds → live → places ≤ e.buf.length →
      Completes (.deglitchEnd t src) s (fun u => (u.edgeOf src).level = x.level ∧ (u.edgeOf src).buf = e.buf
        ∧ (src.val < 192 → u.par Ix.laneBufDrops src = cntNext (s.par Ix.laneBufDrops src))))
    ∧ (holds → src.val < 200 → (s.runOf src).at_ x.stamp = false →
      Completes (.deglitchEnd t src) s (fun u => (u.edgeOf src).edges = e.edges.drop 1 ∧ (u.edgeOf src).level = x.level
        ∧ (u.edgeOf src).buf = e.buf ∧ (u.edgeOf src).counted = e.counted))

/-- At a sampling instant the lane's digital SAMPLE holds the edges of its period, saturating, whether there was one, and the
level. A window comparator compares what the range stage's gain makes of the two nodes; one that sees another zone reports it,
stamped with the coarse period's start, and where it has reported in that period already one record is left, of the zone at
the period's end. Comes from R63, R66 to R68, R83. The model's own choices in it: log 85. -/
def Obligations.LaneSamples : Prop :=
  ∀ (s : State) (t i : Nat) (lane : Fin 192) (pos neg : Int), s.Inv →
    let s1 := s.enter t
    let e := s.edgeOf lane
    let mine := e.counted.filter (fun x => decide (x.1 ≤ i))
    let n := (mine.filter (fun x => decide (i < x.1 + 2 ^ s.par Ix.laneDsampK lane * 262144))).length
    let lv := (mine.getLast?.map Prod.snd).getD e.sampleLevel
    let old := s.par Ix.laneFcZone lane
    let gain : Int := [1, 2, 8, 32, 128].getD (s.par Ix.laneRange lane) 128
    let at_ (ix : Nat) := s1.parAt s1.now ix lane
    let z := fcZone (at_ Ix.laneFcLo) (at_ Ix.laneFcHi) (at_ Ix.laneFcHyst) old (gain * (pos - neg))
    let settled : Prop := ∀ ix ∈ [Ix.laneFcLo, Ix.laneFcHi, Ix.laneFcHyst], at_ ix = s1.parAt (s1.now - 12800) ix lane
    let began := s1.now / 256 * 256
    let sees : Prop := s1.fcRuns lane = true ∧ s1.zoneHeld lane s1.now = false ∧ settled
    (s1.sampleReady lane i = true → e.buf.length < 256 →
      Completes (.digitalSample t lane i) s (fun u => (u.edgeOf lane).sampleFrom = i + 1
        ∧ (u.edgeOf lane).buf = e.buf ++
          [recSample i lane 0 0 2 (min n 65535 * 65536 + (if n = 0 then 0 else 2) + lv) false]))
    ∧ (sees → z = old → Completes (.fcZoneChange t lane pos neg) s (fun u => u.par Ix.laneFcZone lane = old ∧ u.edge = s.edge))
    ∧ (sees → z ≠ old → e.fcSeen.map Prod.fst ≠ some began → e.buf.length < 256 →
      Completes (.fcZoneChange t lane pos neg) s (fun u => u.par Ix.laneFcZone lane = z
        ∧ (u.edgeOf lane).buf = e.buf ++ [recFcTransition began lane z]))
    ∧ (sees → z ≠ old → e.fcSeen.map Prod.fst = some began → e.buf.length < 256 →
      Completes (.fcZoneChange t lane pos neg) s (fun u => u.par Ix.laneFcZone lane = z
        ∧ ((u.edgeOf lane).buf.filter (Rec.fcAt began)).length ≤ 1
        ∧ ∀ r ∈ (u.edgeOf lane).buf, r.fcAt began = true → r = recFcTransition began lane z))

/-- When its turn comes the event at a buffer's head enters the store in the order of the Causeway, or, with 32 events admitted in
the cycle or 65,536 in the store, waits. Past its time plus 180 ns it is dropped into the source's loss account. A closed
account leaves as one GAP record. Comes from R64, R65, R142 to R147. The model's own choices in it: log 25, 26, 74. -/
def Obligations.EventPaths : Prop :=
  ∀ (s : State) (t : Nat) (src : Fin 201) (r : Rec) (rest : List Rec) (a : Account), s.Inv →
    let s1 := s.enter t
    let e := s.edgeOf src
    let c := concentrator src
    let runs : Prop := s.tpll = true ∧ 2 ≤ s.par Ix.pwrState 0
    let offered : Prop := runs ∧ e.buf = r :: rest ∧ s1.turnOf c = some src.val ∧ s.cw.port.offered.find? (fun x => x.1 == c) = none
    let alone : Prop := s.cw.port.cycle ≠ s1.now / 1280
      ∧ ∀ d ∈ List.range 25, d ≠ c → ∀ o ∈ sourcesOf d, (s.edgeOf o).buf = []
    (offered → alone → s.occupancy < 65536 → r.spec < 2 ^ 20 →
      Completes (.eventDelivery t src []) s (fun u => (u.edgeOf src).buf = rest
        ∧ u.cw.store = insertItem (.record r none) s.cw.store ∧ u.cw.port.taken = 1 ∧ u.cw.port.last = c))
    ∧ (offered → (65536 ≤ s.occupancy ∨ s.cw.port.cycle = s1.now / 1280 ∧ 32 ≤ s.cw.port.taken) →
      Completes (.eventDelivery t src []) s (fun u => (u.edgeOf src).buf = r :: rest ∧ u.cw.store = s.cw.store
        ∧ u.par Ix.cwAdmitWaits 0 = cntNext (s.par Ix.cwAdmitWaits 0)))
    ∧ (e.buf = r :: rest → r.stamp + 46080 < s1.now → s.tpll = true →
      Completes (.bufDrop t src) s (fun u => (u.edgeOf src).buf = rest ∧ u.cw = s.cw
        ∧ (e.accounts = [] → (u.edgeOf src).accounts = [⟨r.stamp, r.stamp, 1⟩])
        ∧ (e.accounts = [a] → a.start ≤ r.stamp → r.stamp < a.start + 8192 →
          (u.edgeOf src).accounts = [⟨a.start, max a.last r.stamp, a.count + 1⟩])
        ∧ (src.val < 192 → u.par Ix.laneBufDrops src = cntNext (s.par Ix.laneBufDrops src))))
    ∧ (runs → e.accounts = [a] → a.start + 54272 ≤ s1.now →
      Completes (.lossAccountClose t src) s (fun u => (u.edgeOf src).accounts = []
        ∧ u.cw.store = insertItem (.record (recGap a.start src 0 false (a.last - a.start + 1) a.count) none) s.cw.store
        ∧ u.par Ix.cwGapRecords 0 = (s.par Ix.cwGapRecords 0 + 1) % 2 ^ 64
        ∧ u.par Ix.cwLostEvents 0 = (s.par Ix.cwLostEvents 0 + a.count) % 2 ^ 64
        ∧ u.par Ix.cwSourceGaps src = cntNext (s.par Ix.cwSourceGaps src)))

/-- With the Causeway running (log 74: the store holds records alone, none of a slot that has not acted) it releases, in the
store's order, exactly the records whose bucket is due at the cycle: bucket b at the first cycle at or after (b + 1) × 1,280
ticks + H, or since a forward step. No more than 64 events leave in one cycle. In another power state than RUN and TURBO, or
in COARSE, nothing does. Comes from R18, R140, R141, R152. The model's own choices in it: log 23, 25, 74. -/
def Obligations.CausewayReleases : Prop :=
  ∀ (s : State) (t : Nat), s.Inv →
    let s1 := s.enter t
    let runs : Prop := s.tpll = true ∧ 2 ≤ s.par Ix.pwrState 0
    let due (i : Item) : Bool := decide (i.stamp / 1280 < s.cw.dueTo)
      || decide ((i.stamp / 1280 + 1) * 1280 + s.par Ix.cwHorizon 0 * 256 ≤ s1.now / 1280 * 1280)
    let plain (i : Item) : Bool := match i with
      | .record r _ => decide (r.spec < 2 ^ 20)
      | .ctl .. => false
    let stands : Prop := s.cw.store.Pairwise (fun x y => y.before x = false) ∧ s.slots = []
      ∧ s.cw.store.all plain = true ∧ s.cw.intake.all Item.isRecord = true
      ∧ s.cw.port.outCycle ≠ s1.now / 1280
    (runs → stands → (s.cw.store.filter due).length ≤ 32 →
      Completes (.causewayRelease t []) s (fun u => u.cw.intake = s.cw.intake ++ s.cw.store.filter due
        ∧ u.cw.store = s.cw.store.filter (fun i => !due i)))
    ∧ (runs → stands → s.cw.store.all due = true → 64 ≤ s.cw.store.length → s.cw.store.all (fun i => !i.isGap) = true →
      Completes (.causewayRelease t []) s (fun u => u.cw.intake = s.cw.intake ++ s.cw.store.take 64
        ∧ u.cw.store = s.cw.store.drop 64))
    ∧ (¬ runs → Completes (.causewayRelease t []) s (fun u => u.cw = s.cw))

/-- Keystone takes the front record: the table follows its source, an EDGE unit of that source and sense occurs, and a stream that
takes it opens a frame at its stamp. At a deadline a PERIODIC timer occurs and is set again, and a stage's timeout leads to
its next stage. Comes from R158, R159, R162, R164, R165, R227. The model's own choices in it: log 23, 24. -/
def Obligations.KeystoneItems : Prop :=
  ∀ (s : State) (t d : Nat) (r : Rec) (rest : List Item) (only : Option Nat) (k : Fin 8) (x : Fin 256) (q : Fin 4) (g h : Fin 16)
    (st : UnitSt) (sq : SeqSt), s.Inv →
    let taken : Prop := s.tpll = true ∧ 2 ≤ s.par Ix.pwrState 0 ∧ s.cw.intake = .record r only :: rest ∧ rest.all Item.isRecord = true
      ∧ s.deadlineFirst r.stamp (decide (203 ≤ r.src)) = false
    let due : Prop := s.tpll = true ∧ 2 ≤ s.par Ix.pwrState 0 ∧ s.cw.intake = [] ∧ s.cw.past = [] ∧ s.time.skipped = none ∧ d / 1280 < s.cw.bucket
    (taken → Completes (.keystoneItem t) s (fun u => u.cw.intake = rest
      ∧ (r.src ≤ 200 → r.typ = 1 → bit r.spec 19 = false → (u.srcOf r.src).level = some (r.spec % 4))
      ∧ (r.src ≤ 200 → r.typ = 1 → bit r.spec 19 = true → (u.srcOf r.src).zone = some (r.spec % 4))
      ∧ (r.src ≤ 200 → r.typ = 4 → (u.srcOf r.src).level = none ∧ (u.srcOf r.src).zone = none)
      ∧ (200 < r.src → u.src = s.src)))
    ∧ (taken → s.units = [(x.val, st)] → st.stale = false → (s.unitCfg r.stamp x).typ = 1 → (s.unitCfg r.stamp x).a = r.src →
        r.src ≤ 200 → r.typ = 1 → bit r.spec 19 = false → edgeMatches ((s.unitCfg r.stamp x).mode % 4) (r.spec % 4) = true →
      Completes (.keystoneItem t) s (fun u => u.par Ix.keyCuOccurrences x = cntNext (s.par Ix.keyCuOccurrences x)))
    ∧ (taken → s.seqs = [] → s.units = [] → s.cai = [] → only = some k.val → r.typ ≠ 2 → (s.streamOf k).on = true →
        (s.streamOf k).stopped = false → (s.streamOf k).holding = [] → (s.streamOf k).open_ = none →
      Completes (.keystoneItem t) s (fun u => ∃ f, (u.streamOf k).open_ = some f ∧ f.base = r.stamp ∧ f.words = r.words r.stamp
        ∧ f.records = 1 ∧ f.last = r.stamp))
    ∧ (due → s.seqs = [] → s.units = [(x.val, st)] → st.stale = false → st.due = some d → (s.unitCfg d x).typ = 9 →
        (s.unitCfg d x).mode % 4 = 2 →
      Completes (.deadlineItem t) s (fun u => u.par Ix.keyCuOccurrences x = cntNext (s.par Ix.keyCuOccurrences x)
        ∧ u.units = [(x.val, { st with due := some (d + (s.unitCfg d x).span) })]))
    ∧ (due → s.units = [] → s.seqs = [(q.val, sq)] → sq.armed = true → sq.deadlines = [d] → sq.timeout = some d →
        s.par Ix.keyStage q = g.val → (∀ j : Fin 64, s.par Ix.keyBrExpr (64 * q.val + j.val) = 0) →
        s.par Ix.keyStageActCount (16 * q.val + g.val) = 0 → s.par Ix.keyStageNext (16 * q.val + g.val) = h.val →
      Completes (.deadlineItem t) s (fun u => u.par Ix.keyStage q = h.val ∧ (u.seqOf q).entry = d
        ∧ u.par Ix.keyTransitions q = (s.par Ix.keyTransitions q + 1) % 2 ^ 64
        ∧ u.par Ix.keyStageEntries (16 * q.val + h.val) = cntNext (s.par Ix.keyStageEntries (16 * q.val + h.val))
        ∧ (s.par Ix.keyStageTimeout (16 * q.val + h.val) = 0 → (u.seqOf q).timeout = none)))

/-- An open frame whose age has passed 1 ms, with nothing below that still to come, closes by rule 2; a write of 1 to STREAM.FLUSH
closes it by rule 6 with FLUSHED, or is counted where none is open. The closed frame stands in Beryl behind the others, its
payload padded to an even count; level 0 passes the engines by. Where 32 frames wait it is refused and counted. Comes from
R227, R228, R270. The model's own choices in it: log 28, 29, 79. -/
def Obligations.FrameClosing : Prop :=
  ∀ (s : State) (t : Nat) (n : Fin 8) (f : OpenFrame), s.Inv →
    let s1 := s.enter t
    let x := s.streamOf n
    let lim := f.base + 256000000
    let due : Prop := s.tpll = true ∧ 2 ≤ s.par Ix.pwrState 0 ∧ x.open_ = some f ∧ lim + s.par Ix.cwHorizon 0 * 256 + 32768 < s1.now ∧ s1.stillToCome n lim = false
    let made (u : State) (rule : Nat) (flushed : Bool) : Prop := (u.streamOf n).open_ = none ∧ u.par Ix.streamLastClose n = rule
      ∧ (u.streamOf n).beryl.dropLast = x.beryl
      ∧ ∃ b, (u.streamOf n).beryl.getLast? = some b ∧ b.at_ = (if x.level = 0 then .ready else .queued)
        ∧ (∀ y ∈ x.beryl, (∀ z ∈ x.beryl, z.closed ≤ s.cw.closeNum) → y.closed ≤ b.closed)
        ∧ b.frame.payload = f.words ++ (if f.words.length % 2 = 1 then [0] else []) ∧ b.frame.base = f.base
        ∧ b.frame.epoch = f.epoch ∧ b.frame.flushed = flushed ∧ b.frame.records = f.records
    (due → (x.level = 0 ∨ queuedFrames x < 32) → Completes (.frameAgeClose t n) s (fun u => made u 2 false))
    ∧ (x.open_ = some f → (x.level = 0 ∨ queuedFrames x < 32) →
      Completes (.streamFlush t n) s (fun u => made u 6 true ∧ u.par Ix.streamFlushes n = cntNext (s.par Ix.streamFlushes n)))
    ∧ (x.open_ = some f → x.level ≠ 0 → 32 ≤ queuedFrames x → s.par Ix.streamState n = 1 → s.par Ix.spanGapPolicy n = 0 → x.loss = none →
        x.overflow = none →
      Completes (.streamFlush t n) s (fun u => (u.streamOf n).open_ = none ∧ (u.streamOf n).beryl = x.beryl
        ∧ u.par Ix.berylQueueRefused n = cntNext (s.par Ix.berylQueueRefused n) ∧ u.par Ix.spanState n = 1
        ∧ (u.streamOf n).loss = some ⟨f.base, f.last + 1, f.records, x.chip, x.level, none⟩))
    ∧ (x.open_ = none → Completes (.streamFlush t n) s (fun u =>
      u.par Ix.streamFlushEmpty n = cntNext (s.par Ix.streamFlushEmpty n) ∧ u.stream = s.stream))

/-- An action that is loaded takes a slot, its GUARD record standing in the store before its tick; with 64 held it is refused and
counted, its record with REFUSED alone made at the refusal. The action whose tick has come is carried out: a level commanded,
a pulse begun, an excitation level set; it is counted and its record states the result. A pulse ends at its edge. A queued
MARK_OUT leaves on both ports in one count. Comes from R139, R190, R194 to R200, R205. The model's own choices in it: log 27,
43. -/
def Obligations.TimedActions : Prop :=
  ∀ (s : State) (t : Nat) (x : Slot) (g : Fin 192) (k : Fin 48) (p : Pulse) (m : MarkOut) (rest : List MarkOut), s.Inv →
    let s1 := s.enter t
    let o := s.outOf .guard g
    let runs : Prop := s.tpll = true ∧ 2 ≤ s.par Ix.pwrState 0
    let due : Prop := runs ∧ s.slots = [x] ∧ x.done = false ∧ x.due ≤ s1.now
    let told (u : State) (entered : Option Rec) (r : Rec) : Prop := u.cw.store
      = insertItem (.record r none) (entered.elim s.cw.store (fun q => s.cw.store.erase (.record q none)))
    let executed (u : State) : Prop := u.par Ix.actExecuted 0 = (s.par Ix.actExecuted 0 + 1) % 2 ^ 64
      ∧ u.slots = [{ x with done := true, entered := none }]
    let at_ := x.cause + s.par Ix.actDelay 0 * 256
    let load := s1.loadAction ⟨x.seq, x.stage, x.branch, x.cause⟩ ⟨3, x.subop, g, x.param, x.arg⟩
    let stands (refused : Bool) := recGuard at_ 0 x.subop { s.outFlags .guard g with refused := refused } g (s.outResult .guard g)
      x.seq x.stage x.branch 0
    let chip := s.par Ix.idChipNum 0
    let ws : List Word := [w32 0xCD104000, w32 40, w32 m.num, w32 (m.dst % 65536 * 65536 + chip % 65536), 0,
      w32 (m.code % 65536 * 65536 + chip % 65536), w32 m.num,
      w32 (m.cause / 2 ^ 64 % 256 * 2 ^ 24 + m.branch % 256 * 2 ^ 16 + m.stage % 256 * 2 ^ 8 + m.seq % 256),
      w32 m.cause, w32 (m.cause / 2 ^ 32)]
    let v4 := decide (s.par Ix.netIp4Addr 0 ≠ 0)
    (runs → s.time.skipped = none → s.slots.length < 64 →
      told load none (stands false) ∧ load.slots.getLast? = some ⟨0, g, x.subop, x.param, x.arg, x.cause, at_,
        (if x.subop = 3 then at_ + x.arg else at_), x.seq, x.stage, x.branch, false, some (stands false), none⟩)
    ∧ (runs → s.time.skipped = none → 64 ≤ (s.slots.filter (fun y => decide (x.cause < y.holdTo))).length →
      told load none (stands true) ∧ (∀ y ∈ load.slots, y ∈ s.slots) ∧ load.par Ix.actRefused 0 = cntNext (s.par Ix.actRefused 0))
    ∧ (due → x.kind = 0 → x.target = g.val → x.subop ≤ 2 → o.pulse = none →
      Completes (.timedActionExec t) s (fun u => executed u ∧ (u.outOf .guard g).pulse = none
        ∧ (u.outOf .guard g).cmd = (if x.subop = 0 then 1 else if x.subop = 1 then 0 else 2)
        ∧ told u x.entered (recGuard x.due 0 x.subop (u.outFlags .guard g) g (u.outResult .guard g) x.seq x.stage x.branch 0)))
    ∧ (due → x.kind = 0 → x.target = g.val → x.subop = 3 → o.pulse = none → s.time.skipped = none →
      Completes (.timedActionExec t) s (fun u => executed u ∧ (u.outOf .guard g).cmd = o.cmd
        ∧ (u.outOf .guard g).pulse = some ⟨x.param % 4, x.due, x.due + x.arg, !s.outHeld .guard g, x.seq, x.stage, x.branch⟩))
    ∧ (due → x.kind = 2 → x.target = k.val → x.subop = 0 →
      Completes (.timedActionExec t) s (fun u => executed u ∧ u.exPar Ix.exLevel k = x.arg))
    ∧ (runs → o.pulse = some p → p.end_ ≤ s1.now → s.slots = [] →
      Completes (.pulseEnd t (.guard g)) s (fun u => (u.outOf .guard g).pulse = none ∧ (u.outOf .guard g).cmd = o.cmd
        ∧ told u none (recGuard p.end_ 0 3 { u.outFlags .guard g with pulseEnd := true } g (u.outResult .guard g)
          p.seq p.stage p.branch 0)))
    ∧ (runs → o.pulse = some p → p.end_ ≤ s1.now → s.slots = [x] → x.done = true → x.kind = 0 → x.target = g.val → x.subop = 3 →
        x.due = p.start → x.holdTo = p.end_ →
      Completes (.pulseEnd t (.guard g)) s (fun u => (u.outOf .guard g).pulse = none ∧ (u.outOf .guard g).cmd = o.cmd
        ∧ told u x.endEntered (recGuard p.end_ 0 3 { u.outFlags .guard g with pulseEnd := true } g (u.outResult .guard g)
          p.seq p.stage p.branch 0)))
    ∧ (s.markOut = m :: rest → s.canSend 0 = true → s.canSend 1 = true →
      Completes (.markOutSend t) s (fun u => u.markOut = rest
        ∧ u.out = [.markOut 0 v4 (s.par Ix.netUdpPort 0) ws, .markOut 1 v4 (s.par Ix.netUdpPort 0) ws]
        ∧ u.par Ix.actMarkoutSent 0 = (s.par Ix.actMarkoutSent 0 + 1) % 2 ^ 64))
    ∧ (s.markOut = m :: rest → s.canSend 0 = false → s.canSend 1 = false →
      Completes (.markOutSend t) s (fun u => u.markOut = rest ∧ u.out = [] ∧ u.dict = s.dict))

/-- GUARD.SAFE_ALL holds every pin that is not overridden, every line and every source that runs, whose output then is open or at
zero as EX.SAFE_STATE says, as it is in a pier that is asleep. A release of a held output with no cause of the device left
comes at the next whole microsecond, else it is refused and counted. At its microsecond the output leaves, with its record,
and the source resumes. Comes from R72 to R74, R93 to R95, R201. The model's own choices in it: log 43. -/
def Obligations.SafeStates : Prop :=
  ∀ (s : State) (t m : Nat) (g : Fin 192) (l : Fin 8) (k : Fin 48), s.Inv →
    let s1 := s.enter t
    let micro := (s1.now / 256000 + 1) * 256000
    let cause := s.clockCause || s.brownCause
    Completes (.guardSafeAll t) s (fun u =>
      (s.par Ix.guardSafeOverride g ≠ 1 → (u.outOf .guard g).held = true ∧ (u.outOf .guard g).safeAll = true
        ∧ u.par Ix.guardSafeEntries g = if (s.outOf .guard g).held then s.par Ix.guardSafeEntries g
          else cntNext (s.par Ix.guardSafeEntries g))
      ∧ (s.par Ix.guardSafeOverride g = 1 → u.outOf .guard g = s.outOf .guard g)
      ∧ (u.outOf .line l).held = true ∧ (u.outOf .line l).safeAll = true
      ∧ ((s.exState k = 1 ∨ s.exState k = 3) → u.exState k = 2
        ∧ u.exDrive k s1.now = if s.exPar Ix.exSafeState k = 0 then .open_ else .zero))
    ∧ ((s.outOf .guard g).held = true → Completes (.guardSafeRelease t g) s (fun u => (u.outOf .guard g).safeAll = false
      ∧ (cause = false → (u.outOf .guard g).releaseAt = some micro)
      ∧ (cause = true → (u.outOf .guard g).releaseAt = (s.outOf .guard g).releaseAt
        ∧ u.par Ix.guardReleaseRefused g = cntNext (s.par Ix.guardReleaseRefused g))))
    ∧ ((s.outOf .line l).held = true → Completes (.vdSafeRelease t l) s (fun u => (u.outOf .line l).safeAll = false
      ∧ (cause = false → (u.outOf .line l).releaseAt = some micro)
      ∧ (cause = true → (u.outOf .line l).releaseAt = (s.outOf .line l).releaseAt
        ∧ u.par Ix.vdReleaseRefused l = cntNext (s.par Ix.vdReleaseRefused l))))
    ∧ (s.exState k = 2 → Completes (.exSafeRelease t k) s (fun u => (u.exOf k).safeAll = false
      ∧ (cause = false → (u.exOf k).releaseAt = some micro)
      ∧ (cause = true → (u.exOf k).releaseAt = (s.exOf k).releaseAt
        ∧ u.par Ix.exReleaseRefused k = cntNext (s.par Ix.exReleaseRefused k))))
    ∧ (s.tpll = true → 2 ≤ s.par Ix.pwrState 0 → (s.outOf .guard g).held = true → (s.outOf .guard g).releaseAt = some m → m ≤ s1.now →
      Completes (.safeReleaseEffect t (.guard g)) s (fun u => (u.outOf .guard g).held = false
        ∧ u.cw.store = insertItem (.record (recGuard m 0 0 (u.outFlags .guard g) g (u.outResult .guard g) 255 255 255 2) none)
          s.cw.store))
    ∧ ((s.outOf .line l).held = true → (s.outOf .line l).releaseAt = some m → m ≤ s1.now →
      Completes (.safeReleaseEffect t (.line l)) s (fun u => (u.outOf .line l).held = false))
    ∧ (s.exState k = 2 → (s.exOf k).releaseAt = some m → m ≤ s1.now → s.awake (k / 2) = true →
      Completes (.safeReleaseEffect t (.source k)) s (fun u => u.exState k = 1
        ∧ (s.exPar Ix.exMode k = 1 → s.alternates k = false → s.exPar Ix.exPolarity k = 0 →
          u.exDrive k s1.now = .volts (s.exPar Ix.exPin k) (s.exPar Ix.exReturn k) (min (s.exPar Ix.exLevel k) 5000000))))
    ∧ (s.exState k = 2 → (s.exOf k).releaseAt = some m → m ≤ s1.now → s.awake (k / 2) = false →
      Completes (.safeReleaseEffect t (.source k)) s (fun u => u.exState k = 3
        ∧ u.exDrive k s1.now = if s.exPar Ix.exSafeState k = 0 then .open_ else .zero))

/-- A source in RUN reports an open circuit or compliance of Table 4 once: the flag, EX.OPEN_EVENTS, and a STATUS record of every
enabled consumer; its clearing likewise, and the consumers settle. A swap unsettles them too. The bias output reports its
overload on the biased lanes. Comes from R87, R89, R92, R96, R105, R473. The model's own choices in it: log 42, 43. -/
def Obligations.SourceFlags : Prop :=
  ∀ (s : State) (t : Nat) (k : Fin 48) (open_ on : Bool) (reading : Int) (l : Fin 192) (p : Fin 24), s.Inv →
    let s1 := s.enter t
    let ix := exIx (if open_ then Ix.exOpen else Ix.exCompliance) k
    let volts := decide (s.exPar Ix.exMode k ≠ 0)
    let seen : Bool := if volts then
        (if open_ then decide (100000 ≤ s.exPar Ix.exLevel k) && decide (reading.natAbs < s.exPar Ix.exIOpen k)
          else decide (10000000 ≤ reading.natAbs))
      else open_ && (decide (reading ≤ 300000) || decide (4600000 ≤ reading))
    let tells : Prop := s.tpll = true ∧ 2 ≤ s.par Ix.pwrState 0 ∧ s.laneOn l = true ∧ s.awake (l / 8) = true
      ∧ (s.edgeOf l).buf.length < 256
    let tell (u : State) (r : Rec) : Prop := (u.edgeOf l).buf = (s.edgeOf l).buf ++ [r]
    let kind := if open_ then 1 else 3
    let period := s.samplePeriod l
    let first := ceilMul (s1.now + 25601) period
    let settles (u : State) : Prop := s.analog l = true →
      (u.convOf l).unsettled.getLast? = some (first, first + (s.settleCount l - 1) * period)
    (s.exState k = 1 → seen = true → s.par ix (k / 2) = 0 →
      Completes (.exFlagSet t k open_ reading) s (fun u => u.par ix (k / 2) = 1
        ∧ u.exPar Ix.exOpenEvents k = cntNext (s.exPar Ix.exOpenEvents k)
        ∧ (l.val ∈ s.consumers k → open_ = true → u.par Ix.laneWireOpenEvents l = cntNext (s.par Ix.laneWireOpenEvents l))
        ∧ (l.val ∈ s.consumers k → tells → tell u (recStatus (s1.now / 256 * 256) l kind (1 + 2 * (k % 2)) 0 0))))
    ∧ (s.par ix (k / 2) = 1 → seen = false → Completes (.exFlagClear t k open_ reading) s (fun u => u.par ix (k / 2) = 0
      ∧ (l.val ∈ s.consumers k → settles u)
      ∧ (l.val ∈ s.consumers k → tells → tell u (recStatus s1.now l kind (2 * (k % 2)) 0 0))))
    ∧ (s.exState k = 1 → s.alternates k = true → s1.now % s.swapPeriod k = 0 →
      Completes (.exSwap t k) s (fun u => u.dict = s.dict ∧ (l.val ∈ s.consumers k → settles u)))
    ∧ (s.awake p = true → (s.par Ix.biasEnable p = 1 ∨ on = false) → s.par Ix.biasOverload p = b2n (!on) →
      Completes (.biasOverload t p on) s (fun u => u.par Ix.biasOverload p = b2n on
        ∧ (l.val ∈ s.biasedLanes p → on = false → settles u)
        ∧ (l.val ∈ s.biasedLanes p → tells → tell u (recStatus s1.now l 3 (b2n on + 20) 0 0))))

/-- An amplifier out of its band is reset at the next whole nanosecond, a periodic reset comes at its multiple, with a
RESET_ACCOUNT record of the lane; a cause within a reset's 200 ns only joins it, one in the 50 ns after it is dropped.
CA.RESET_CMD waits for a release boundary, as any write there does (128 in one go to the next). 50 ns after a reset the
comparator of the lane reports a zone that differs. A clamp of a pin of an awake pier is flagged, counted, named and reported
by the pin's lane, and cleared. A tone burst falls due at its multiple for the lanes that no swap hits, the others are
counted; its result gives LANE.TONE_Z, from 1 Ω to 10 MΩ, whole ohms rounded down (the model's choice, log 46), and an open
wire above LANE.OPEN_OHMS. Comes from R98, R99, R101, R148, R354, R102, R103, R104, R472. The model's own choices in it: log
42, 45, 46, 77. -/
def Obligations.AmplifiersClampsTone : Prop :=
  (∀ (s : State) (t b : Nat) (a : Fin 48) (l : Fin 192) (pre residual pos neg : Int), s.Inv →
      let s1 := s.enter t
      let ns := (s1.now / 256 + 1) * 256
      let e := (s1.now + 49151) / 16384 * 16384
      let room : Prop := 2 ≤ s.par Ix.pwrState 0 ∧ (s.edgeOf l).buf.length < 256
      let begun (u : State) (at_ cause : Nat) : Prop := u.caSt a = ⟨some at_, 2 ^ cause⟩ ∧ u.caHeld a at_ = true
        ∧ u.exPar (Ix.caResets) a = (s.exPar Ix.caResets a + 1) % 2 ^ 64
        ∧ (s.caLane a = some l.val → room → (u.edgeOf l).buf = (s.edgeOf l).buf ++
          [recResetAccount at_ l (2 ^ cause) (s.par Ix.laneOutFormat l) (s1.sampleValue l pre false at_ at_).1
            (s1.sampleValue l residual false at_ at_).1])
      let joins (u : State) (cause : Nat) : Prop := (u.caSt a).start = some b ∧ (u.caSt a).causes = (s.caSt a).causes + 2 ^ cause
        ∧ u.exPar Ix.caResets a = s.exPar Ix.caResets a ∧ (u.edgeOf l).buf.length = (s.edgeOf l).buf.length
      let dropped (u : State) : Prop := u.ca = s.ca ∧ u.edge = s.edge ∧ u.dict = s.dict
      let trips : Prop := s.tpll = true ∧ s.awake (a / 2) = true ∧ s.caPar Ix.caAutoreset a ≠ 0
        ∧ s.caPar Ix.caAutoreset a * 2 ^ 30 < pre.natAbs * 256
      let ticks : Prop := s.tpll = true ∧ s.awake (a / 2) = true ∧ s.caPar Ix.caResetPeriod a ≠ 0
        ∧ s1.now % (s.caPar Ix.caResetPeriod a * 256000) = 0
      let free : Prop := ∀ x ∈ (s.caSt a).start, x + 64000 ≤ s1.now
      let begins := (s.caSt a).start = some b
      let old := s.par Ix.laneFcZone l
      let gain : Int := [1, 2, 8, 32, 128].getD (s.par Ix.laneRange l) 128
      let at_ (ix : Nat) := s1.parAt s1.now ix l
      let settled : Prop := ∀ ix ∈ [Ix.laneFcLo, Ix.laneFcHi, Ix.laneFcHyst], at_ ix = s1.parAt (s1.now - 12800) ix l
      let z := fcZone (at_ Ix.laneFcLo) (at_ Ix.laneFcHi) (at_ Ix.laneFcHyst) old (gain * (pos - neg))
      (trips → free → Completes (.caAutoTrip t a pre residual) s (fun u => begun u ns 0))
      ∧ (trips → begins → s1.now < b + 51200 → bit (s.caSt a).causes 0 = false →
        Completes (.caAutoTrip t a pre residual) s (fun u => joins u 0))
      ∧ (trips → begins → b + 51200 ≤ s1.now → s1.now < b + 64000 → Completes (.caAutoTrip t a pre residual) s dropped)
      ∧ (ticks → free → Completes (.caPeriodicReset t a pre residual) s (fun u => begun u s1.now 1))
      ∧ (ticks → begins → s1.now < b + 51200 → bit (s.caSt a).causes 1 = false →
        Completes (.caPeriodicReset t a pre residual) s (fun u => joins u 1))
      ∧ (ticks → begins → b + 51200 ≤ s1.now → s1.now < b + 64000 → Completes (.caPeriodicReset t a pre residual) s dropped)
      ∧ (atBoundary s.cw.queue e < 128 → Completes (.caResetCmd t a) s (fun u =>
        u.cw.queue.getLast? = some ⟨e, caIx Ix.caResetCmd a, a / 2, 1⟩ ∧ u.ca = s.ca))
      ∧ (begins → s.caLane a = some l.val → b + 64000 ≤ s1.now → s1.fcRuns l = true → settled →
          (∀ x ∈ (s.edgeOf l).fcSeen, x.1 < b + 64000) → (s.edgeOf l).buf.length < 256 →
        Completes (.caResetEnd t a pos neg) s (fun u => u.par Ix.laneFcZone l = z
          ∧ (u.edgeOf l).buf = (s.edgeOf l).buf ++ (if z = old then [] else [recFcTransition (b + 64000) l z]))))
  ∧ (∀ (s : State) (t nv : Nat) (p : Fin 24) (pin : Fin 18) (i : Fin 8) (lane : Fin 192), s.Inv →
      let s1 := s.enter t
      let l := if pin.val < 16 then 8 * p.val + pin.val / 2 else 8 * p.val
      let f := s.par Ix.pierClampActive p
      let tells : Prop := s.tpll = true ∧ 2 ≤ s.par Ix.pwrState 0 ∧ s.laneOn l = true ∧ (s.edgeOf l).buf.length < 256
      let len := s.par Ix.toneCycles p * (2 ^ s.par Ix.toneFreq p * 4096000)
      let q := 8 * p.val + i.val
      let checks := s.analog q && decide (s.par Ix.laneToneCheck q = 1)
      let z := if 10000000 ≤ nv then 10000000 else max 1 (min 10000000 (10000 * nv / (10000000 - nv)))
      let c := s.convOf lane
      (s.awake p = true → bit f pin = false → Completes (.clampSet t p pin) s (fun u =>
        bit (u.par Ix.pierClampActive p) pin = true ∧ u.par Ix.pierClampLast p = pin
          ∧ u.par Ix.pierClampEvents p = cntNext (s.par Ix.pierClampEvents p)
          ∧ (∀ j : Fin 18, j ≠ pin → bit (u.par Ix.pierClampActive p) j = bit f j)
          ∧ (tells → (u.edgeOf l).buf = (s.edgeOf l).buf ++ [recStatus s1.now l 2 1 pin 0])))
      ∧ (s.awake p = true → bit f pin = true → Completes (.clampClear t p pin) s (fun u =>
        bit (u.par Ix.pierClampActive p) pin = false ∧ (∀ j : Fin 18, j ≠ pin → bit (u.par Ix.pierClampActive p) j = bit f j)
          ∧ (tells → (u.edgeOf l).buf = (s.edgeOf l).buf ++ [recStatus s1.now l 2 0 pin 0])))
      ∧ (s.tpll = true → s.par Ix.toneEnable p = 1 → s.awake p = true → s.globalCause = false →
          s1.now % (s.par Ix.tonePeriod p * 256000) = 0 →
        Completes (.toneBurst t p) s (fun u => ∃ b, tfind u.tone p = some b ∧ b.start = s1.now ∧ b.end_ = s1.now + len
          ∧ bit b.due i = (checks && !s.swapWithin q s1.now (s1.now + len))))
      ∧ (bit (tget {} s.tone (lane / 8)).due (lane % 8) = true → (tget {} s.tone (lane / 8)).end_ ≤ s1.now → s.awake (lane / 8) = true →
        Completes (.toneResult t lane nv) s (fun u => u.par Ix.laneToneZ lane = z
          ∧ (u.convOf lane).toneOpen = decide (s.par Ix.laneOpenOhms lane < z)
          ∧ u.par Ix.laneWireOpenEvents lane = (if s.par Ix.laneOpenOhms lane < z ∧ c.toneOpen = false
            then cntNext (s.par Ix.laneWireOpenEvents lane) else s.par Ix.laneWireOpenEvents lane)
          ∧ bit (tget {} u.tone (lane / 8)).due (lane % 8) = false)))

/-- A lane that produces at an instant buffers one SAMPLE of it, with the group-delay code of its filter and rate, in RAW format
the count, corrected by its slices' trims and clipped, with its sign, RANGE where the modulator saturated or the input overran
±2.500 V; a suppressed one is counted and kept from the streams. CAL.USER_COMMIT of an analog lane waits for a release
boundary; of any other it is refused and counted. Comes from R110, R114, R115, R117, R123, R134. The model's own choices in
it: log 3, 47, 78. -/
def Obligations.Samples : Prop :=
  ∀ (s : State) (t : Nat) (lane : Fin 192) (reading : Reading) (saturated overload : Bool), s.Inv →
    let s1 := s.enter t
    let e := (s1.now + 49151) / 16384 * 16384
    let slice := 9 * (lane.val / 8) + s.par Ix.laneSlice lane
    let untrimmed : Prop := reading.former = [] ∧ s.par Ix.pierSliceOffset slice = 0 ∧ s.par Ix.pierSliceGain slice = 0x3F800000
    let raw := s1.rawCount lane reading
    let clip : Int := 0x44000000
    let count := max (-clip) (min clip raw)
    let gd := s.par Ix.laneRate lane + (if s.par Ix.laneFilter lane = 0 then 1 else 33)
    let produces : Prop := s.tpll = true ∧ s.analog lane = true ∧ (s.runOf lane).on = true
      ∧ s.par Ix.pwrPierState (lane / 8) = 2 ∧ (s.convOf lane).from_ ≤ s1.now ∧ s1.now % (2 ^ s.par Ix.laneRate lane * 250000) = 0
      ∧ (s.edgeOf lane).buf.length < 256
    (produces →
      Completes (.sampleOutput t lane reading saturated overload) s (fun u => (u.edgeOf lane).buf.dropLast = (s.edgeOf lane).buf
        ∧ (u.convOf lane).from_ = s1.now + 1
        ∧ ∃ r, (u.edgeOf lane).buf.getLast? = some r ∧ r.stamp = s1.now ∧ r.src = lane ∧ r.typ = 2
          ∧ fld r.spec 15 10 = gd % 64 ∧ fld r.spec 9 8 = min 1 (s.par Ix.laneOutFormat lane)
          ∧ u.par Ix.laneSuppressed lane = (s.par Ix.laneSuppressed lane + b2n r.quiet) % 2 ^ 64
          ∧ (untrimmed → reading.serving.natAbs < 2 ^ 32 → raw = reading.serving)
          ∧ (s.par Ix.laneOutFormat lane = 0 →
            r.body = [w32 (ofI32 ((if s1.negative lane (s1.now - 25600) then -1 else 1) * count))]
            ∧ bit r.spec 16 = (saturated || overload || decide (clip < raw) || decide (raw < -clip)
              || decide (0x40000000 < count) || decide (count < -0x40000000)))))
    ∧ (s.analog lane = true → atBoundary s.cw.queue e < 128 →
      Completes (.calUserCommit t lane) s (fun u => u.cw.queue.getLast? = some ⟨e, Ix.calUserCommit, lane, 1⟩
        ∧ u.staged = s.staged))
    ∧ (s.analog lane = false → Completes (.calUserCommit t lane) s (fun u => u.cw.queue = s.cw.queue
      ∧ u.par Ix.laneRejectedWrites lane = cntNext (s.par Ix.laneRejectedWrites lane)
      ∧ u.par Ix.laneLastRejected lane = Ix.calUserCommit * 256 + lane))

/-- At a slot the spare overlaps the next enabled analog lane. The decision counts the difference samples accepted by t_d: it
postpones a check with less than half of them, hands the lane over within PIER.ROT_TOL, and otherwise marks the mismatch and,
at the third in a row, the slice FAULTY. A reference cycle runs 8,000 µs after; one that passes (offset ±2 mV, gain ±1 %, tone
±0.5 %) gives a spare with its offset, one that fails a FAULTY slice. A retest starts the FAULTY slices again. Comes from R125
to R128. The model's own choices in it: log 46, 78. -/
def Obligations.Rotation : Prop :=
  ∀ (s : State) (t : Nat) (p : Fin 24) (l : Fin 192) (i old : Fin 9) (o : Overlap) (diffs : List (Int × Bool))
    (zero plus minus tonePpm : Int), s.Inv →
    let s1 := s.enter t
    let target := ((List.range 8).map (fun j => 8 * p.val + (s.par Ix.pierRotNextLane p + j) % 8)).find?
      (fun q => s.laneOn q && s.analog q)
    let slot : Prop := s.tpll = true ∧ s.par Ix.pierRotEnable p = 1 ∧ s.par Ix.pwrPierState p = 2
      ∧ s1.now % (s.par Ix.pierRotPeriod p * 256000000) = 0 ∧ tfind s.overlap p = none
    let td := o.t0 + 16000000 + s.par Ix.pierRotOverlap p * 256000
    let decides : Prop := tfind s.overlap p = some o ∧ o.lane = l.val ∧ o.spare = i.val ∧ td ≤ s1.now
      ∧ s.par Ix.laneSlice l = old.val ∧ old ≠ i
    let checks := s.par Ix.pierRotOverlap p * 256000 / 4000000
    let ds := s1.checkUse p o td
    let n := ds.length
    let enough : Prop := checks ≤ 2 * n ∧ n ≠ 0
    let near : Prop := ds.sum.natAbs * 2500000 ≤ s.par Ix.pierRotTol p * 2 ^ 30 * n
    let ends : Prop := (s.sliceOf p i).state = .spareCal ∧ s.par Ix.pwrPierState p = 2 ∧ (s.sliceOf p i).cycleEnd ≤ s1.now
    let passes := decide (zero.natAbs * 2500 ≤ 2 ^ 31) && gainPasses (fpOf32 (s.par Ix.calRefFactory p)) plus minus
      && decide (tonePpm.natAbs ≤ 5000)
    (slot → target = some l.val → (s.sliceOf p i).state = .spare → (∀ j : Fin 9, j < i → (s.sliceOf p j).state ≠ .spare) →
      Completes (.rotationSlot t p diffs) s (fun u => (u.sliceOf p i).state = .overlap
        ∧ tfind u.overlap p = some ⟨l, i, s1.now, diffs, s.checkExcl l, s.checkCond l⟩))
    ∧ (slot → target = none → Completes (.rotationSlot t p diffs) s (fun u => u.overlap = s.overlap ∧ u.slice = s.slice))
    ∧ (o.excl = [] → o.cond = [] → s.clamp = [] → s.time.skipped = none → o.diffs.all (fun d => !d.2) = true →
      ds = (o.diffs.take checks).map Prod.fst)
    ∧ (decides → ¬ enough → Completes (.rotationDecision t p) s (fun u => tfind u.overlap p = none
      ∧ (u.sliceOf p i).state = .spare ∧ u.par Ix.laneSlice l = old
      ∧ u.par Ix.pierRotPostponed p = cntNext (s.par Ix.pierRotPostponed p)))
    ∧ (decides → enough → near → Completes (.rotationDecision t p) s (fun u => tfind u.overlap p = none
      ∧ (u.sliceOf p i).state = .serving ∧ (u.sliceOf p old).state = .spareCal
      ∧ (u.sliceOf p old).cycleEnd = (td + 12499) / 12500 * 12500 + 2048000000 ∧ u.par Ix.laneSlice l = i
      ∧ u.par Ix.laneCalMismatch l = 0 ∧ u.par Ix.pierRotNextLane p = (l.val % 8 + 1) % 8
      ∧ u.par Ix.laneRotLastDiff l = ofI32 (Int.tdiv ds.sum n)
      ∧ u.par Ix.pierHandovers p = (s.par Ix.pierHandovers p + 1) % 2 ^ 64))
    ∧ (decides → enough → ¬ near → Completes (.rotationDecision t p) s (fun u => tfind u.overlap p = none
      ∧ (u.sliceOf p i).state = (if 2 ≤ (s.sliceOf p i).aborts then .faulty else .spareCal) ∧ u.par Ix.laneSlice l = old
      ∧ u.par Ix.laneCalMismatch l = 1 ∧ u.par Ix.pierRotNextLane p = (l.val % 8 + 1) % 8
      ∧ u.par Ix.laneRotAborts l = cntNext (s.par Ix.laneRotAborts l)))
    ∧ gainPasses (fpOf32 0x40000000) plus minus
      = (decide (99 * 16 * 2 ^ 30 ≤ 1000 * (plus - minus)) && decide (1000 * (plus - minus) ≤ 101 * 16 * 2 ^ 30))
    ∧ (ends → Completes (.referenceCycleEnd t p i zero plus minus tonePpm) s (fun u =>
        (u.sliceOf p i).state = (if passes then .spare else .faulty)
        ∧ (passes = true → u.par Ix.pierSliceOffset (9 * p.val + i.val) = ofI32 zero)
        ∧ bit (u.par Ix.pierSliceFaulty p) i = !passes))
    ∧ (s.par Ix.pwrPierState p = 2 → Completes (.pierSliceRetest t p) s (fun u => u.par Ix.pierSliceFaulty p = 0
      ∧ (u.sliceOf p i).state = (if (s.sliceOf p i).state = .faulty then .spareCal else (s.sliceOf p i).state)
      ∧ ((s.sliceOf p i).state = .faulty → (u.sliceOf p i).cycleEnd = s1.now + 2048000000 ∧ (u.sliceOf p i).aborts = 0)))

/-- At a multiple of T_c each recording lane's word enters its ring, and a pending block whose window holds the instant. A block
whose place has passed H and 128 ns is framed once: without an enabled destination it is discarded and counted, to a
destination go its descriptor and segments. Past its re-arm time the Caisson is ready, or off. Comes from R247, R248, R251 to
R254. The model's own choices in it: log 80. -/
def Obligations.CaissonBlocks : Prop :=
  ∀ (s : State) (t : Nat) (p : Fin 24) (i n : Fin 8) (reading : Reading) (b : Block), s.Inv →
    let s1 := s.enter t
    let clip : Int := 0x44000000
    let l := 8 * p.val + i.val
    let x := (s.caiOf p)
    let word := ofI32 ((if s1.negative l (s1.now - 25600) then -1 else 1) * max (-clip) (min clip (s1.rawCount l reading)))
    let recorded := ((tfind x.lanes i).bind (fun r => r.words.head?)).map Prod.fst
    let frames : Prop := x.block = some b ∧ b.framed = false ∧ b.place + s.par Ix.cwHorizon 0 * 256 + 32768 < s1.now
      ∧ (s.cw.intake ++ s.cw.store).all (fun k => decide (b.place ≤ k.stamp)) = true ∧ s.earlierBlock b = false
    (s.tpll = true → s1.now % (2 ^ s.par Ix.caiRate p * 250000) = 0 → s.caiRecords l = true → s.par Ix.caiFormat p = 0 →
        recorded ≠ some s1.now →
      Completes (.caissonRecord t p [(i, reading)] []) s (fun u => ∃ r, tfind (u.caiOf p).lanes i = some r
        ∧ r.words.head? = some (s1.now, word) ∧ r.words.length ≤ 2 ^ s.par Ix.caiDepthLog2 p
        ∧ (x.block = some b → b.framed = false → bit b.lanes i = true → b.covers s1.now = true →
          (u.caiOf p).block = some { b with words := (i.val, s1.now, word) :: b.words })))
    ∧ (frames → (∀ k : Fin 8, bit b.mask k = true → s.par Ix.streamState k ≠ 1) →
      Completes (.snapshotFraming t p []) s (fun u => (∃ c, (u.caiOf p).block = some c ∧ c.framed = true)
        ∧ u.par Ix.caiDiscarded p = cntNext (s.par Ix.caiDiscarded p)))
    ∧ (frames → b.mask = 2 ^ n.val → s.par Ix.streamState n = 1 → (s.streamOf n).on = true → (s.streamOf n).stopped = false →
        (s.streamOf n).level = 0 → (s.streamOf n).holding = [] →
      Completes (.snapshotFraming t p []) s (fun u => (∃ c, (u.caiOf p).block = some c ∧ c.framed = true)
        ∧ u.par (Ix.streamRecords + n.val) 0 = (s.par (Ix.streamRecords + n.val) 0 + (b.records p b.sequence).length) % 2 ^ 64
        ∧ u.par Ix.caiDiscarded p = s.par Ix.caiDiscarded p))
    ∧ (x.block = some b → b.rearm < s1.now → s.par Ix.caiState p = 3 →
      Completes (.caissonRearm t p) s (fun u => u.par Ix.caiState p = if s.caiFull p then 2 else 1))
    ∧ (x.block = some b → b.rearm < s1.now → s.par Ix.caiState p = 4 →
      Completes (.caissonRearm t p) s (fun u => u.par Ix.caiState p = 0))

/-- With Jasper running a free engine takes the frame that has waited longest and reads its payload, and hands it back compressed
where that is shorter. A frame that leaves Beryl is numbered as it enters the head abutment and written to its history;
without room it is refused and opens a loss interval. Frames pass to the tail, or through the span while it holds any, which
stores the header twice. SPAN.RESTART of a stopped stream waits for a boundary; of any other it is refused. Comes from R229,
R239, R241, R246, R255, R267, R270, R285. The model's own choices in it: log 28, 29, 34, 79, 80. -/
def Obligations.FramePath : Prop :=
  ∀ (s : State) (t addr base size : Nat) (n : Fin 8) (g : Fin 16) (b : BerylFrame) (rest : List BerylFrame) (f : Frame)
    (fs : List Frame) (items : List SpanItem) (x : StreamSt) (k : Fin 4128), s.Inv →
    let s1 := s.enter t
    let e := (s1.now + 49151) / 16384 * 16384
    let y := s.streamOf n
    let q := s.par (Ix.streamSeqNext + n.val) 0
    let image := berylImage b.frame.level b.taken
    let idle : Bool := s.stream.all (fun z => z.2.beryl.all (fun c => decide (c.at_ ≠ .engine g)))
    let jasper : Prop := s.runs 2 = true
    let dram : Prop := s.runs 3 = true ∧ s.par Ix.memState 0 = 1
    let ready : Prop := jasper ∧ (bit (s.par Ix.streamOutlets n) 2 = true → dram) ∧ y.beryl = b :: rest ∧ b.at_ = .ready
      ∧ y.runs = [] ∧ y.loss = none ∧ y.overflow = none ∧ y.owed = []
    let direct : Prop := bit (s.par Ix.streamOutlets n) 0 = true ∧ bit (s.par Ix.streamOutlets n) 1 = false ∧ y.ringTook = 0
    let region := s.par Ix.spanBase n * 65536
    let bytes := s.par Ix.spanSize n * 65536
    let line := y.spanPos % bytes
    (jasper → idle = true → s.nextQueued = some n.val → y.beryl.find? (fun c => decide (c.at_ = .queued)) = some b →
      Completes (.berylEngineTake t g []) s (fun u => (u.streamOf n).beryl.find? (fun c => decide (c.at_ = .engine g))
        = some { b with at_ := .engine g, taken := b.frame.payload, hurt := false }))
    ∧ (jasper → s.stream = [(n.val, x)] → x.beryl = b :: rest → b.at_ = .engine g → 1 ≤ b.frame.level →
      Completes (.berylComplete t g) s (fun u => (u.streamOf n).beryl = { b with at_ := .ready, frame := { b.frame with
        comp := decide (image.length < b.taken.length)
        stored := if image.length < b.taken.length then image else b.taken } } :: rest
        ∧ (b.taken.length ≤ image.length →
          u.par (Ix.berylRawFrames + n.val) 0 = (s.par (Ix.berylRawFrames + n.val) 0 + 1) % 2 ^ 64)))
    ∧ (ready → bytesIn y.head + b.frame.bytes ≤ 524288 → Completes (.frameToHead t n []) s (fun u =>
      (u.streamOf n).head = y.head ++ [{ b.frame with seq := q }] ∧ (u.streamOf n).beryl = rest
        ∧ u.par (Ix.streamSeqNext + n.val) 0 = (q + 1) % 2 ^ 64
        ∧ u.par (Ix.streamFrames + n.val) 0 = (s.par (Ix.streamFrames + n.val) 0 + 1) % 2 ^ 64
        ∧ (bit (s.par Ix.streamOutlets n) 2 = true → u.par (Ix.histNewestSeq + n.val) 0 = q
          ∧ (y.histPos + b.frame.bytes ≤ s.par Ix.histSize n * 65536 → k.val < b.frame.bytes →
            some (memRead u.mem (s.par Ix.histBase n * 65536 + y.histPos + k.val))
              = (bytesOfWords { b.frame with seq := q }.words)[k.val]?))))
    ∧ (ready → 524288 < bytesIn y.head + b.frame.bytes → s.par Ix.spanGapPolicy n = 0 →
      Completes (.frameToHead t n []) s (fun u => (u.streamOf n).head = y.head ∧ u.par Ix.spanState n = 1
        ∧ (u.streamOf n).loss
          = some ⟨b.frame.base, b.frame.last + 1, b.frame.records, b.frame.chip, b.frame.level, none⟩
        ∧ u.par (Ix.spanRefusedFrames + n.val) 0 = (s.par (Ix.spanRefusedFrames + n.val) 0 + 1) % 2 ^ 64))
    ∧ (jasper → y.head = f :: fs → y.span = [] → bytesIn y.tail + f.bytes ≤ 524288 → direct →
      Completes (.spanMove t n false []) s (fun u => (u.streamOf n).head = fs ∧ (u.streamOf n).tail = y.tail ++ [f]))
    ∧ (jasper → dram → y.head = f :: fs → y.span ≠ [] → spanUse y.span + f.spanBytes ≤ bytes →
      Completes (.spanMove t n false []) s (fun u => (u.streamOf n).head = fs
        ∧ (u.streamOf n).span = y.span ++ [.frame f (region + line) region bytes]
        ∧ u.par Ix.spanFill n = (spanUse y.span + f.spanBytes) / 1024
        ∧ (line + f.spanBytes ≤ bytes → k.val < f.spanBytes →
          some (memRead u.mem (region + line + k.val)) = f.spanImage[k.val]?)))
    ∧ (jasper → dram → y.span = .frame f addr base size :: items → bytesIn y.tail + f.bytes ≤ 524288 → direct →
        s.spanRead addr base size f.spanBytes = (f.spanImage, []) →
      Completes (.spanMove t n true []) s (fun u => (u.streamOf n).span = items ∧ (u.streamOf n).tail = y.tail ++ [f]))
    ∧ (s.par Ix.streamState n = 2 → atBoundary s.cw.queue e < 128 → Completes (.spanRestart t n) s (fun u =>
      u.cw.queue.getLast? = some ⟨e, Ix.spanRestart, n, 1⟩))
    ∧ (s.par Ix.streamState n ≠ 2 → Completes (.spanRestart t n) s (fun u => u.cw.queue = s.cw.queue
      ∧ u.par Ix.streamRejectedWrites n = cntNext (s.par Ix.streamRejectedWrites n)
      ∧ u.par Ix.streamLastRejected n = Ix.spanRestart * 256 + n))

/-- A fetch starts unless one runs, which ignores the write; one of the host region first passes the region check. An abort ends
it, once the frame in progress has been delivered, with a descriptor owed. The engine reads the frame it has reached (here
from a DRAM without an error): kept records make a fetch frame, a frame that cannot be decoded is counted and named, with a
header at odds with itself under code 5 at byte 0, one already overwritten is skipped; past the last frame the fetch is DONE,
or PARTIAL. Comes from R242, R257 to R259, R272, R323. The model's own choices in it: log 34, 35, 76. -/
def Obligations.Fetches : Prop :=
  ∀ (s : State) (t c pos : Nat) (h : HistFrame) (n : Fin 8) (hd : FHead) (p : List Word), s.Inv →
    let ends (u : State) (st : Nat) : Prop := u.par Ix.fetchState 0 = st ∧ u.fetch.ending = true
    let a := s.par Ix.histBase n * 65536 + h.offset
    let runs : Prop := s.runs 2 = true ∧ s.runs 3 = true ∧ s.par Ix.memState 0 = 1 ∧ s.par Ix.fetchState 0 = 1
      ∧ s.fetch.ready = none ∧ s.fetch.ending = false ∧ s.fetch.started = true ∧ s.fetch.cursor = none
      ∧ s.par Ix.fetchRegion 0 = n.val
    let reads : Prop := runs ∧ (s.streamOf n).hist = [h] ∧ s.fetch.next = h.seq ∧ s.dram.bad = []
      ∧ headerOf (s.wordsAt a 8) = some hd ∧ hd.version = 2 ∧ hd.epoch = s.par Ix.fetchEpoch 0 ∧ hd.base < s.par Ix.fetchTEnd 0
    let payload := payloadOf hd ((s.wordsAt a (8 + hd.stored)).drop 8)
    let faulty (u : State) (code byte : Nat) : Prop := u.fetch.ready = none
      ∧ u.par Ix.fetchFaults 0 = cntNext (s.par Ix.fetchFaults 0) ∧ u.par Ix.fetchLastFaultSeq 0 = hd.seq
      ∧ u.par Ix.fetchLastFault 0 = code * 2 ^ 24 + byte % 2 ^ 24
    (s.par Ix.fetchState 0 ≠ 1 → s.par Ix.fetchRegion 0 < 8 →
      Completes (.fetchStart t) s (fun u => u.par Ix.fetchState 0 = 1 ∧ u.fetch = { ending := s.fetch.ending }))
    ∧ (s.par Ix.fetchState 0 ≠ 1 → s.par Ix.fetchRegion 0 = 8 → s.hostRegions.2 = false →
      Completes (.fetchStart t) s (fun u => ends u 5 ∧ u.par Ix.spanRegionRefused 0 = cntNext (s.par Ix.spanRegionRefused 0)))
    ∧ (s.par Ix.fetchState 0 = 1 → Completes (.fetchStart t) s (fun u => u.fetch = s.fetch ∧ u.dict = s.dict))
    ∧ (s.par Ix.fetchState 0 = 1 → s.fetch.ready = none → Completes (.fetchAbort t) s (fun u => ends u 4))
    ∧ (s.par Ix.fetchState 0 = 1 → s.fetch.ready ≠ none → Completes (.fetchAbort t) s (fun u =>
      u.fetch = { s.fetch with aborting := true } ∧ u.dict = s.dict))
    ∧ (reads → payload = .ok p → Completes (.fetchFrame t []) s (fun u => u.fetch.next = h.seq + 1
      ∧ u.par Ix.fetchLastSeq 0 = hd.seq ∧ u.fetch.ready = s.fetchFrame hd p
      ∧ u.par Ix.fetchFaults 0 = s.par Ix.fetchFaults 0))
    ∧ (reads → payload = .error (c, some pos) → Completes (.fetchFrame t []) s (fun u => faulty u c pos))
    ∧ (reads → (hd.raw = hd.comp ∨ hd.raw = true ∧ hd.stored ≠ hd.count ∨ hd.comp = true ∧ (hd.level = 0 ∨ hd.count ≤ hd.stored)
        ∨ hd.count % 2 = 1 ∨ hd.count < 2) →
      Completes (.fetchFrame t []) s (fun u => faulty u 5 0))
    ∧ (runs → (s.streamOf n).hist = [h] → s.fetch.next < h.seq → Completes (.fetchFrame t []) s (fun u =>
      u.fetch.next = s.fetch.next + 1 ∧ u.fetch.lost = true ∧ u.par Ix.fetchSkipped 0 = cntNext (s.par Ix.fetchSkipped 0)))
    ∧ (runs → (s.streamOf n).hist = [] → Completes (.fetchFrame t []) s (fun u => ends u (if s.fetch.lost then 3 else 2)))

/-- A refresh slot brings the timing overrides into force and reports the devices' temperature. The scrubber goes on by a
codeword, at the end of the DRAM to the next pass; a codeword it corrects is counted with its address and stands healed, one
it cannot is counted apart and stays as it is. Comes from R279, R283, R286 to R289. The model's own choices in it: log 34, 36. -/
def Obligations.RefreshAndScrub : Prop :=
  ∀ (s : State) (t : Nat) (hot : Bool) (i : Fin 16) (e : CodeErr) (k : Nat) (ks : List Nat), s.Inv →
    let s1 := s.enter t
    let a := 0x1000000000 + s.dram.scrubAt
    let r := readCodeword (memBytes s.mem a 16) (pattern20 e.err)
    let runs : Prop := s.runs 3 = true ∧ s.par Ix.memState 0 = 1 ∧ s.dram.bad = [] ∧ s.dram.scrubAt % 16 = 0
    let inside : Prop := runs ∧ s.dram.scrubAt + 16 < s.par Ix.memSize 0 * 65536
    (s.par Ix.memState 0 = 1 → Completes (.refreshSlot t hot) s (fun u => u.par Ix.memDramHot 0 = b2n hot
      ∧ tget 0 u.dram.timing i = s.par Ix.memTimingOvr i))
    ∧ (inside → Completes (.scrubSlot t 1 []) s (fun u => u.dram.scrubAt = s.dram.scrubAt + 16
      ∧ u.par Ix.memScrubPos 0 = (s.dram.scrubAt + 16) / 65536 ∧ u.par Ix.memCeTotal 0 = s.par Ix.memCeTotal 0))
    ∧ (runs → s.par Ix.memSize 0 * 65536 ≤ s.dram.scrubAt + 16 →
      Completes (.scrubSlot t 1 []) s (fun u => u.dram.scrubAt = 0 ∧ u.dram.passStart = s1.now
        ∧ u.par Ix.memScrubPasses 0 = (s.par Ix.memScrubPasses 0 + 1) % 2 ^ 64
        ∧ u.par Ix.memScrubPassTime 0 = (s1.now - s.dram.passStart) / 256000000))
    ∧ (inside → e.addr = a → r.fixed = some (k :: ks) → Completes (.scrubSlot t 1 [e]) s (fun u =>
      u.par Ix.memCeTotal 0 = (s.par Ix.memCeTotal 0 + 1) % 2 ^ 64 ∧ u.par Ix.memLastCeAddr 0 = a
        ∧ u.par Ix.memCeDevice (s.devicePos a k) = cntNext (s.par Ix.memCeDevice (s.devicePos a k))
        ∧ (r.bytes = memBytes s.mem a 16 → u.dram.bad = [])))
    ∧ (inside → e.addr = a → r.fixed = none → Completes (.scrubSlot t 1 [e]) s (fun u =>
      u.par Ix.memUeTotal 0 = (s.par Ix.memUeTotal 0 + 1) % 2 ^ 64 ∧ u.par Ix.memLastUeAddr 0 = a
        ∧ u.par Ix.memLastUeInfo 0 = 10 * 2 ^ 24 + 255 ∧ u.dram.bad = [(a, pattern20 e.err)]))

/-- Of a triplicated field two copies that agree are what it holds, and the correction is counted; three that differ give the
field its default: a guard enable is off, a lane's role OFF and the lane disabled. What the copies hold is the command's to
say; a field of Jasper's domain is read while that runs. Comes from R291, R292. The model's own choices in it: log 37, 81. -/
def Obligations.TripleVotes : Prop :=
  ∀ (s : State) (t ix sub c0 c1 c2 : Nat) (p : Param) (g l : Fin 192), s.Inv →
    let differ : Prop := s.runs 2 = true ∧ c0 ≠ c1 ∧ c1 ≠ c2 ∧ c0 ≠ c2
    let m := if c1 = c2 then c1 else c0
    let two : Prop := (c0 = c1 ∨ c1 = c2 ∨ c0 = c2) ∧ ¬ (c0 = c1 ∧ c1 = c2)
    let field : Prop := paramAt ix sub = some p ∧ p.tmr = true ∧ (p.slow = true ∨ s.runs 2 = true)
    let corrected (u : State) (ix sub : Nat) : Prop := u.par Ix.regTmrCorrected 0 = (s.par Ix.regTmrCorrected 0 + 1) % 2 ^ 64
      ∧ u.par Ix.regTmrLast 0 = ix * 256 + sub
    let fatal (u : State) (ix sub : Nat) : Prop := u.par Ix.regTmrFatal 0 = cntNext (s.par Ix.regTmrFatal 0)
      ∧ u.par Ix.regTmrFatalLast 0 = ix * 256 + sub
    (field → c0 = c1 → c1 = c2 → s.par ix sub = c0 →
      Completes (.tmrScrub t ix sub c0 c1 c2) s (fun u => u.dict = s.dict))
    ∧ (field → two → s.par ix sub = m → Completes (.tmrScrub t ix sub c0 c1 c2) s (fun u => corrected u ix sub
      ∧ (key ix sub ≠ key Ix.regTmrCorrected 0 → key ix sub ≠ key Ix.regTmrLast 0 → u.par ix sub = m)))
    ∧ (s.runs 2 = true → two → Completes (.tmrScrub t Ix.guardSafeLevel g c0 c1 c2) s (fun u => corrected u Ix.guardSafeLevel g
      ∧ u.par Ix.guardSafeLevel g = m))
    ∧ (differ → Completes (.tmrScrub t Ix.guardEnable g c0 c1 c2) s (fun u => fatal u Ix.guardEnable g
      ∧ u.par Ix.guardEnable g = 0))
    ∧ (differ → Completes (.tmrScrub t Ix.guardSafeLevel g c0 c1 c2) s (fun u => fatal u Ix.guardSafeLevel g
      ∧ u.par Ix.guardSafeLevel g = 2))
    ∧ (differ → Completes (.tmrScrub t Ix.laneRole l c0 c1 c2) s (fun u => fatal u Ix.laneRole l ∧ u.par Ix.laneRole l = 0
      ∧ u.par Ix.laneEnable l = 0 ∧ u.par Ix.laneState l = 0
      ∧ u.par Ix.laneRoleGen l = (s.par Ix.laneRoleGen l + 1) % 65536))

/-- At its boundary a queued value is in force, the value before it kept for older stamps and a CONFIG record made; a lane whose
route passes runs from the boundary, one whose route fails stays off and is counted; a stream whose regions pass begins.
Before its boundary, and up to step 8 of start-up, nothing changes. Comes from R79, R86, R148 to R150, R178, R231, R242, R450.
The model's own choices in it: log 38 to 40, 57, 58, 77, 78. -/
def Obligations.ConfigEffects : Prop :=
  ∀ (s : State) (t e v : Nat) (l : Fin 192) (n : Fin 8) (k : Fin 4) (f : Nat × Nat × Nat), s.Inv →
    let s1 := s.enter t
    let runs : Prop := 8 < s.par Ix.startStep 0 ∧ e ≤ s1.now
    let pier := l.val / 8
    let on := s.pierOn pier
    let route := s.routeCheck pier { on with lanes := on.lanes ++ [l.val] }
    (runs → s.cw.queue = [⟨e, Ix.cwHorizon, 0, v⟩] → v ≠ s.par Ix.cwHorizon 0 → s.tpll = true → 2 ≤ s.par Ix.pwrState 0 →
      Completes (.configEffect t []) s (fun u => u.cw.queue = [] ∧ u.par Ix.cwHorizon 0 = v
        ∧ u.cw.past = s.cw.past ++ [⟨e, key Ix.cwHorizon 0, s.par Ix.cwHorizon 0⟩]
        ∧ u.cw.store = insertItem (.record (recConfig e Ix.cwHorizon 0 1 v) none) s.cw.store))
    ∧ (runs → s.cw.queue = [⟨e, Ix.laneEnable, l, 1⟩] → s.par Ix.laneEnable l = 0 → s.awake pier = true → route = none →
      Completes (.configEffect t []) s (fun u => u.cw.queue = [] ∧ u.par Ix.laneEnable l = 1 ∧ u.par Ix.laneState l = 1
        ∧ (u.runOf l).on = true ∧ (u.runOf l).since = e))
    ∧ (runs → s.cw.queue = [⟨e, Ix.laneEnable, l, 1⟩] → s.par Ix.laneEnable l = 0 → route = some f →
      Completes (.configEffect t []) s (fun u => u.cw.queue = [] ∧ u.par Ix.laneEnable l = 0 ∧ u.run = s.run
        ∧ u.par Ix.pierRouteRefused pier = cntNext (s.par Ix.pierRouteRefused pier)
        ∧ u.par Ix.pierRouteLast pier = f.1 * 65536 + f.2.1 * 256 + f.2.2))
    ∧ (runs → s.cw.queue = [⟨e, Ix.streamEnable, n, 1⟩] → s.par Ix.streamEnable n = 0 → (s.streamRegions n).2 = true →
      Completes (.configEffect t []) s (fun u => u.cw.queue = [] ∧ u.par Ix.streamEnable n = 1 ∧ u.par Ix.streamState n = 1
        ∧ .ctl e (.streamOn n false) ∈ u.cw.store ∧ u.time.load = none))
    ∧ (runs → s.cw.queue = [⟨e, Ix.streamEnable, n, 1⟩] → s.par Ix.streamEnable n = 0 → (s.streamRegions n).2 = false →
      Completes (.configEffect t []) s (fun u => u.cw.queue = [] ∧ u.par Ix.streamEnable n = 0
        ∧ u.par Ix.spanRegionRefused 0 = cntNext (s.par Ix.spanRegionRefused 0)))
    ∧ (runs → s.cw.queue = [⟨e, Ix.keyEnable, k, 1⟩] → s.par Ix.keyEnable k = 0 →
      Completes (.configEffect t []) s (fun u => u.cw.queue = []
        ∧ (s1.seqFails k = none → u.par Ix.keyEnable k = 1 ∧ .ctl e (.seq k true) ∈ u.cw.store)
        ∧ (s1.seqFails k = some f → u.par Ix.keyEnable k = 0 ∧ u.par Ix.keyRefused k = cntNext (s.par Ix.keyRefused k)
          ∧ u.par Ix.keyRefuseLast k = f.1 * 2 ^ 24 + k.val * 2 ^ 16 + f.2.1 * 2 ^ 8 + f.2.2)))
    ∧ (((s.cw.queue.all fun c => decide (s1.now < c.eff)) = true ∨ s.par Ix.startStep 0 ≤ 8) →
      Completes (.configEffect t []) s (fun u => u.cw = s.cw ∧ u.dict = s.dict))

/-- A snapshot that is requested waits for the first release boundary at least 128 ns on and joins one that waits; when it is
taken every counter and mark has its holding copy, the marks start again and DICT.SNAP_SEQ counts it. A write that waits for
the slow clock is checked and applied, or refused, at its edge. Comes from R352, R359 to R362. The model's own choices in it:
log 56, 84. -/
def Obligations.SnapshotsAndSlowWrites : Prop :=
  ∀ (s : State) (t a v : Nat) (ix : Fin 65536) (sub : Fin 256) (p : Param) (n : Fin 8) (busy : Bool), s.Inv →
    let s1 := s.enter t
    (s.ds.snapAt = none → Completes (.dictSnapshot t) s (fun u =>
      u.ds.snapAt = some (if s.tpll then (s1.now + 49151) / 16384 * 16384 else s1.now) ∧ u.dict = s.dict))
    ∧ (s.ds.snapAt = some a → Completes (.dictSnapshot t) s (fun u => u.ds = s.ds ∧ u.dict = s.dict))
    ∧ (s.ds.snapAt = some a → a ≤ s1.now → Completes (.snapshotTake t) s (fun u => u.ds.snapAt = none
      ∧ (paramOf ix = some p → p.counts = true → u.heldCopy (key ix sub) = s.par ix sub)
      ∧ u.par Ix.spanFillHwm n = s.par Ix.spanFill n ∧ u.par Ix.cwReleaseLagMax 0 = 0
      ∧ u.par Ix.dictSnapSeq 0 = (s.par Ix.dictSnapSeq 0 + 1) % 2 ^ 32
      ∧ u.par Ix.dictSnapTime 0 = (if s.tpll then a else s1.now) % 2 ^ 72))
    ∧ (s.ds.slow = [(Ix.pwrWakeEnable, 0, v)] → v ≤ 7 → Completes (.slowWriteApply t busy) s (fun u =>
      u.ds.slow = [] ∧ u.par Ix.pwrWakeEnable 0 = v))
    ∧ (s.ds.slow = [(Ix.pwrWakeEnable, 0, v)] → 7 < v → Completes (.slowWriteApply t busy) s (fun u =>
      u.ds.slow = [] ∧ u.par Ix.pwrWakeEnable 0 = s.par Ix.pwrWakeEnable 0
        ∧ u.par Ix.dictRejectedWrites 0 = cntNext (s.par Ix.dictRejectedWrites 0)
        ∧ u.par Ix.dictLastRejected 0 = Ix.pwrWakeEnable * 256))

/-- A posted write that the port takes writes a plain slot at once, queues a value that waits for a release boundary, and refuses
what its checks refuse, counted by the owner; the set alias sets bits. A read-only slot counts as ignored; a stopped Jasper
domain drops the write. Comes from R6, R302, R347, R348, R352 to R355, R363, R412. The model's own choices in it: log 38, 56,
57, 84. -/
def Obligations.RegisterWrites : Prop :=
  ∀ (s : State) (t : Nat) (ix : Fin 65536) (sub : Fin 256) (p : Param) (w : Word) (tlp : Tlp) (busy : Bool), s.Inv →
    let s1 := s.enter t
    let takes : Prop := s.mayReceive = true ∧ s.memSpace = true ∧ s.d3hot = false
    let e := (s1.now + 49151) / 16384 * 16384
    let off := (ix.val - 0x1000) * 1024 + 4 * sub.val
    let slot : Prop := 0x1000 ≤ ix.val ∧ ix.val < 0xF000 ∧ paramAt ix sub = some p ∧ p.ty.words = 1 ∧ p.ty ≠ .string ∧ p.ty ≠ .domain
      ∧ p.danger = false
    let plain : Prop := slot ∧ p.acc = .rw ∧ s1.slowWrite p ix sub = false ∧ ix.val ≠ Ix.dictView
    let v := p.fit w.toNat
    let r := rejectIx (ownerOf ix sub)
    let write (o : Nat) : Instr := .registerWrite t false o [w] 15 0 tlp busy
    (takes → s.domainGood 2 = true → plain → s1.writeFails p ix sub v busy = none → s1.valueEffect ix sub v busy = none →
      Completes (write off) s (fun u => u.par ix sub = v))
    ∧ (takes → s.domainGood 2 = true → plain → s1.writeFails p ix sub v busy = some .outOfRange →
      Completes (write off) s (fun u => u.par ix sub = s.par ix sub ∧ u.par r.1 r.2.2 = cntNext (s.par r.1 r.2.2)
        ∧ u.par r.2.1 r.2.2 = ix * 256 + sub))
    ∧ (takes → s.domainGood 2 = true → plain → s1.staged = [] → s1.ds.slow = [] → s1.derivedA ix sub = none → s1.derivedB ix sub = none →
        s1.writeFails p ix sub (p.fit (s.par ix sub ||| w.toNat)) busy = none →
        s1.valueEffect ix sub (p.fit (s.par ix sub ||| w.toNat)) busy = none →
      Completes (write (0x4000000 + off)) s (fun u => u.par ix sub = p.fit (s.par ix sub ||| w.toNat)))
    ∧ (takes → s.domainGood 2 = true → slot → p.acc = .rwl → ix.val ≠ Ix.calOffsetUser → ix.val ≠ Ix.calGainUser →
        s1.writeFails p ix sub v busy = none → atBoundary s.cw.queue e < 128 →
      Completes (write off) s (fun u => u.par ix sub = s.par ix sub ∧ u.cw.queue.getLast? = some ⟨e, ix, sub, v⟩))
    ∧ (takes → s.domainGood 2 = true → slot → (p.acc = .ro ∨ p.acc = .st ∨ p.acc = .cntS ∨ p.acc = .cntW) →
      Completes (write off) s (fun u => u.par Ix.hostBar0Ignored 0 = cntNext (s.par Ix.hostBar0Ignored 0)))
    ∧ (takes → s.domainGood 2 = false → Completes (write off) s (fun u => u.cw = s.cw
      ∧ u.par Ix.clkGovRefused 0 = cntNext (s.par Ix.clkGovRefused 0)))

/-- The lower words of a wide parameter wait in the write latch under its index; the highest word, after all of them, writes the
whole value, and one that finds them missing is refused and counted. A read of the low word gives the value and latches its
upper words for the reads that follow. Comes from R346, R349, R350. The model's own choices in it: log 56. -/
def Obligations.WideValues : Prop :=
  ∀ (s : State) (t : Nat) (w : Word) (tlp : Tlp) (busy : Bool), s.Inv →
    let s1 := s.enter t
    let takes : Prop := s.mayReceive = true ∧ s.memSpace = true ∧ s.d3hot = false ∧ s.domainGood 2 = true
    let ix := Ix.timeLoadValue
    let v := (s.hostPath.writeW0 + s.hostPath.writeW1 * 2 ^ 32 + w.toNat * 2 ^ 64) % 2 ^ 72
    let off := (Ix.timeNow - 0x1000) * 1024
    let now_ := s1.now / 256 * 256 % 2 ^ 72
    (takes → Completes (.wideWordWrite t 0x2103 0 w tlp busy) s (fun u => u.hostPath.writeTag = ix
      ∧ u.hostPath.writeW0 = w.toNat ∧ bit u.hostPath.writeMask 0 = true ∧ u.par ix 0 = s.par ix 0))
    ∧ (takes → s.hostPath.writeTag = ix → s.hostPath.writeMask = 3 →
        s1.capturing = false → Completes (.wideWordWrite t 0x2103 2 w tlp busy) s (fun u => u.par ix 0 = v))
    ∧ (takes → s.hostPath.writeTag ≠ ix → Completes (.wideWordWrite t 0x2103 2 w tlp busy) s (fun u => u.par ix 0 = s.par ix 0
      ∧ u.par Ix.dictWideRefused 0 = cntNext (s.par Ix.dictWideRefused 0)))
    ∧ (takes → s.portRunning = true → Completes (.wideLowRead t false off 1 15 0 tlp) s (fun u =>
      u.out = [.completion .success [w32 now_] []] ∧ u.hostPath.readTag = Ix.timeNow
        ∧ u.hostPath.readW0 = now_ / 2 ^ 32 % 2 ^ 32 ∧ u.hostPath.readW1 = now_ / 2 ^ 64 % 2 ^ 32))
    ∧ (takes → s.portRunning = true → s.hostPath.readTag = Ix.timeNow →
      Completes (.wideLowRead t false (off + 4) 1 15 0 tlp) s (fun u =>
        u.out = [.completion .success [w32 s.hostPath.readW0] []]))

/-- Up to step 7 of start-up a configuration request is answered with a retry; then a word is read, and the Command word gives
Memory Space and Bus Master. PERST_N, a hot reset and a link-down freeze a running port, are counted and take the link down,
the first two reset the configuration space, which holds no vector of the MSI-X table; the link comes up at a rate that both
support. An error of Table 7 sets its status bit and, but for an internal one, is a partner violation; an advisory one that
its mask hides sets no status of its own. The first unmasked uncorrectable error leaves its TLP's header in the header log;
one that finds the log held is a Header Log Overflow too. Where HOST.FREEZE_MASK selects its class a running port freezes; a
frozen one adds the cause. A release of a frozen port whose link is up makes it RUNNING again: RESUME keeps the rings and
their DEV_PTR, RESTART disables them. Comes from R298, R312 to R314, R337, R339, R450, R335 to R340. The model's own choices
in it: log 30, 49, 50, 86. -/
def Obligations.PortResetsAndErrors : Prop :=
  (∀ (s : State) (t inFlight hanging : Nat) (write : Bool) (dw : Fin 1024) (be : Fin 16) (v : Word) (speed : Fin 7) (width : Fin 9), s.Inv →
      let s1 := s.enter t
      let down (u : State) (cause : Nat) : Prop := u.par Ix.hostPortState 0 = 2 ∧ (s.portRunning = true →
        u.host.firstCause = cause ∧ u.host.causes = 2 ^ (cause - 1) ∧ u.par Ix.hostFreezeTime 0 = s1.now
          ∧ u.par Ix.hostFreezes 0 = cntNext (s.par Ix.hostFreezes 0) ∧ u.host.reads = [])
      (s.mayReceive = true → s.par Ix.startStep 0 ≤ 7 → Completes (.configRequest t write dw be v) s (fun u =>
        u.out = [.completion .retry [] []] ∧ u.host.cfg = s.host.cfg))
      ∧ (s.mayReceive = true → 7 < s.par Ix.startStep 0 → dw.val ≠ 25 → Completes (.configRequest t false dw be v) s (fun u =>
        u.out = [.completion .success [w32 (s.cfgWord (4 * dw.val))] []] ∧ u.host.cfg = s.host.cfg))
      ∧ (s.mayReceive = true → 7 < s.par Ix.startStep 0 → Completes (.configRequest t true 1 15 v) s (fun u =>
        u.memSpace = bit v.toNat 1 ∧ u.busMaster = bit v.toNat 2))
      ∧ (s.host.perst = true → Completes (.perstNFall t inFlight hanging) s (fun u => u.host.perst = false ∧ u.memSpace = false
        ∧ u.par Ix.hostPerstCount 0 = cntNext (s.par Ix.hostPerstCount 0) ∧ u.par Ix.hostLinkState 0 = 0
        ∧ u.domainGood 6 = false ∧ down u 6))
      ∧ (s.host.perst = false → s.par Ix.pwrState 0 ≠ 0 → Completes (.perstNRise t) s (fun u => u.host.perst = true
        ∧ u.par Ix.hostLinkState 0 = 1 ∧ u.domainGood 6 = true ∧ u.memSpace = false ∧ u.busMaster = false))
      ∧ (s.mayReceive = true → Completes (.hotReset t) s (fun u => u.par Ix.hostHotResets 0 = cntNext (s.par Ix.hostHotResets 0)
        ∧ u.par Ix.hostLinkState 0 = 1 ∧ u.memSpace = false ∧ u.msixWord dw = s.msixWord dw ∧ u.host.subsys = s.host.subsys ∧ down u 5))
      ∧ (s.par Ix.hostLinkState 0 ≠ 0 → Completes (.linkDown t) s (fun u => u.par Ix.hostLinkState 0 = 0
        ∧ u.par Ix.hostLinkDowns 0 = cntNext (s.par Ix.hostLinkDowns 0) ∧ u.host.cfg = s.host.cfg ∧ down u 4))
      ∧ (s.host.perst = true → s.domainGood 6 = true → s.linkUp = false → s.offers speed width = true →
        Completes (.linkUp t speed width) s (fun u => u.linkUp = true ∧ u.par Ix.hostLinkSpeed 0 = speed
          ∧ u.par Ix.hostLinkWidth 0 = width ∧ u.par Ix.hostPortState 0 = if s.par Ix.hostPortState 0 = 2 then 1 else s.par Ix.hostPortState 0)))
  ∧ (∀ (s : State) (t : Nat) (er : PortError) (advisory answer : Bool) (tlp : Tlp) (n : Fin 9), s.Inv →
      let s1 := s.enter t
      let kind := s.errorClass er advisory
      let hidden := decide (kind = 0) && !errorCorrectable er && bit (s.cfgWord 0x114) 13
      let fep := s.cfgWord 0x118 % 32
      let held := decide (fep ≠ 0) && bit (s.cfgWord 0x104) fep
      let logs := !errorCorrectable er && !bit (s.cfgWord 0x108) (errorBit er)
      let takes : Prop := s.mayReceive = true ∧ s.memSpace = true ∧ s.d3hot = false ∧ s.domainGood 2 = true
        ∧ s.par Ix.hostPortState 0 = 1
      let runs (u : State) : Prop := u.par Ix.hostPortState 0 = 0 ∧ u.host.firstCause = 0 ∧ u.host.causes = 0
      (s.host.perst = true → hidden = false → Completes (.inboundTlpError t er advisory answer tlp) s (fun u =>
        bit (u.cfgWord (if errorCorrectable er then 0x110 else 0x104)) (errorBit er) = true))
      ∧ (s.host.perst = true → hidden = true → held = false → Completes (.inboundTlpError t er advisory answer tlp) s (fun u =>
        bit (u.cfgWord 0x110) 13 = true ∧ u.cfgWord 0x104 = s.cfgWord 0x104))
      ∧ (s.host.perst = true → held = false → Completes (.inboundTlpError t er advisory answer tlp) s (fun u =>
        (errorOwn er = false → u.par Ix.pflKindCount 1 = cntNext (s.par Ix.pflKindCount 1))
          ∧ (errorOwn er = true → u.par Ix.pflKindCount 1 = s.par Ix.pflKindCount 1)
          ∧ (s.portRunning = true → bit (s.par Ix.hostFreezeMask 0) kind = true → u.par Ix.hostPortState 0 = 1
            ∧ u.host.firstCause = kind + 1 ∧ u.par Ix.hostFreezeTime 0 = s1.now)
          ∧ (s.portRunning = false → u.host.causes = s.host.causes ||| 2 ^ kind)
          ∧ (bit (s.par Ix.hostFreezeMask 0) kind = false → u.par Ix.hostPortState 0 = s.par Ix.hostPortState 0)))
      ∧ (s.host.perst = true → hidden = false → held = false → logs = true →
        Completes (.inboundTlpError t er advisory answer tlp) s (fun u => u.cfgWord 0x118 % 32 = errorBit er
          ∧ u.cfgWord 0x11C = tlp.h0.toNat ∧ u.cfgWord 0x120 = tlp.h1.toNat ∧ u.cfgWord 0x124 = tlp.h2.toNat
          ∧ u.cfgWord 0x128 = tlp.h3.toNat))
      ∧ (s.host.perst = true → held = true → logs = true → Completes (.inboundTlpError t er advisory answer tlp) s (fun u =>
        bit (u.cfgWord 0x110) 15 = true ∧ u.cfgWord 0x11C = s.cfgWord 0x11C))
      ∧ (takes → Completes (.portResume t tlp) s (fun u => runs u ∧ (u.ringOf n).enable = (s.ringOf n).enable
        ∧ (u.ringOf n).devPtr = (s.ringOf n).devPtr ∧ ((s.ringOf n).enable = true → (u.ringOf n).frames = 0 ∧ (u.ringOf n).descs = [])))
      ∧ (takes → Completes (.portRestart t tlp) s (fun u => runs u ∧ (u.ringOf n).enable = false)))

/-- A write of 1 to ENABLE of a ring of a legal size sets its pointers to 0, of any other it is refused. A disable closes the open
descriptor that holds frames, a faulted ring's too, while the device may make requests. HOST_PTR may run ahead of DEV_PTR by
the ring's size and not back; HOST_SEEN acknowledges and arms the ring's interrupt; any other value is refused, counted and a
partner violation. Comes from R317, R318, R322, R332. The model's own choices in it: log 49, 51. -/
def Obligations.RingControl : Prop :=
  ∀ (s : State) (t : Nat) (n : Fin 9) (v : Word) (tlp : Tlp), s.Inv →
    let takes : Prop := s.mayReceive = true ∧ s.memSpace = true ∧ s.d3hot = false ∧ s.domainGood 2 = true
    let r := s.ringOf n
    let gap (a b : Nat) : Nat := (a + 4294967296 - b % 4294967296) % 4294967296
    let refused (u : State) : Prop := (u.ringOf n).lastError = 4 ∧ (u.ringOf n).descErrors = min (r.descErrors + 1) 0xFFFFFFFF
      ∧ (u.ringOf n).hostPtr = r.hostPtr ∧ (u.ringOf n).hostSeen = r.hostSeen
      ∧ u.par Ix.pflKindCount 5 = cntNext (s.par Ix.pflKindCount 5)
    let ptrOk : Prop := r.enable = true ∧ gap v.toNat r.devPtr ≤ 2 ^ r.sizeLog2 ∧ gap r.hostPtr r.devPtr ≤ gap v.toNat r.devPtr
    let seenOk : Prop := r.enable = true ∧ gap r.devPtr v.toNat ≤ 2 ^ r.sizeLog2
    (takes → 4 ≤ r.sizeLog2 → r.sizeLog2 ≤ 16 → Completes (.ringEnable t n tlp) s (fun u =>
      (u.ringOf n).enable = true ∧ (u.ringOf n).fault = (r.enable && r.fault) ∧ (u.ringOf n).devPtr = 0 ∧ (u.ringOf n).hostPtr = 0
        ∧ (u.ringOf n).hostSeen = 0 ∧ (u.ringOf n).base = r.base))
    ∧ (takes → (r.sizeLog2 < 4 ∨ 16 < r.sizeLog2) → Completes (.ringEnable t n tlp) s (fun u =>
      (u.ringOf n).enable = r.enable ∧ (u.ringOf n).rejected = min (r.rejected + 1) 0xFFFFFFFF))
    ∧ (takes → r.enable = true → Completes (.ringDisable t n tlp) s (fun u => (u.ringOf n).enable = false
      ∧ (u.ringOf n).frames = 0 ∧ (u.ringOf n).used = 0
      ∧ (u.ringOf n).devPtr = if r.frames ≠ 0 ∧ s.mayRequest = true then (r.devPtr + 1) % 2 ^ 32 else r.devPtr))
    ∧ (takes → ptrOk → Completes (.doorbellHostPtr t n v tlp) s (fun u => u.ringOf n = { r with hostPtr := v.toNat }))
    ∧ (takes → ¬ ptrOk → Completes (.doorbellHostPtr t n v tlp) s refused)
    ∧ (takes → seenOk → Completes (.doorbellHostSeen t n v tlp) s (fun u => u.ringOf n = { r with hostSeen := v.toNat }
      ∧ n.val ∉ u.host.disarmed))
    ∧ (takes → ¬ seenOk → Completes (.doorbellHostSeen t n v tlp) s refused)

/-- A ring reads ahead within its page, its size, Max_Read_Request_Size and 16 descriptors, under a free tag, or counts the wait.
A completion that fills its read gives the descriptors; one that fits no read is late or unexpected. A poisoned one and a
timeout fail the read: the tag is quarantined for twice the timeout, the third failure in a row is the ring's FAULT. A
quarantine ends. Comes from R325, R327 to R329. The model's own choices in it: log 51. -/
def Obligations.DescriptorReads : Prop :=
  ∀ (s : State) (t want tag g a code : Nat) (n : Fin 9) (q : ReadReq) (ws : List Word) (tlp : Tlp), s.Inv →
    let s1 := s.enter t
    let r := s.ringOf n
    let left := min 16 (diff32 r.hostPtr r.devPtr) - diff32 r.asked r.devPtr
    let at_ := r.base + 16 * (r.asked % 2 ^ r.sizeLog2)
    let k := min (min want left)
      (min (min (s.maxRead / 16) ((4096 - at_ % 4096) / 16)) (2 ^ r.sizeLog2 - r.asked % 2 ^ r.sizeLog2))
    let outstanding : Prop := s.host.perst = true ∧ tsorted s.host.reads = true ∧ tfind s.host.reads tag = some q
    let failed (u : State) : Prop := tfind u.host.quarantine tag = some (s1.now + 2 * s.cplTimeout)
      ∧ (q.live = true → 2 ≤ (s.ringOf q.ring).fails → (u.ringOf q.ring).fault = true ∧ (u.ringOf q.ring).lastError = 5)
    (s.ringActs n = true → r.again = [] → k ≠ 0 → s.freeTag = some g → Completes (.descriptorRead t n want) s (fun u =>
      u.out = [.hostRead g at_ (16 * k)] ∧ tfind u.host.reads g = some ⟨n, r.asked, k, s1.now, [], true⟩
        ∧ (u.ringOf n).asked = (r.asked + k) % 2 ^ 32))
    ∧ (s.ringActs n = true → r.again = [] → k ≠ 0 → s.freeTag = none → Completes (.descriptorRead t n want) s (fun u =>
      u.out = [] ∧ u.par Ix.hostTagWaits 0 = cntNext (s.par Ix.hostTagWaits 0) ∧ u.host = s.host))
    ∧ (outstanding → 4 * q.count ≤ q.got.length + ws.length → q.live = true → q.count = 1 →
      tfind (s.ringOf q.ring).descs (s.ringOf q.ring).devPtr = none →
      q.index ≠ (s.ringOf q.ring).devPtr ∨ descFault ((q.got ++ ws).take 4) = none →
      Completes (.completionRx t tag false ws tlp) s (fun u => tfind u.host.reads tag = none ∧ (u.ringOf q.ring).fails = 0
        ∧ u.out = [] ∧ tfind (u.ringOf q.ring).descs q.index = some ((q.got ++ ws).take 4)))
    ∧ (outstanding → 4 * q.count ≤ q.got.length + ws.length → q.live = true → q.count = 1 → s.ringActs q.ring = true →
      q.index = (s.ringOf q.ring).devPtr → q.index ≠ (s.ringOf q.ring).hostPtr → descFault ((q.got ++ ws).take 4) = some code →
      tfind (s.ringOf q.ring).descs ((q.index + 1) % 2 ^ 32) = none →
      Completes (.completionRx t tag false ws tlp) s (fun u => tfind u.host.reads tag = none
        ∧ (u.ringOf q.ring).lastError = code ∧ (u.ringOf q.ring).devPtr = (q.index + 1) % 2 ^ 32
        ∧ (u.ringOf q.ring).descErrors = min ((s.ringOf q.ring).descErrors + 1) 0xFFFFFFFF ∧ u.stream = s.stream
        ∧ u.out.flatMap (fun o => match o with
          | .hostWrite _ x _ => x
          | _ => []) = [w32 0xC0000000, 0, w32 ((q.index + 1) % 2 ^ 32)]))
    ∧ (outstanding → q.got.length + ws.length < 4 * q.count → Completes (.completionRx t tag false ws tlp) s (fun u =>
      tfind u.host.reads tag = some { q with got := q.got ++ ws }))
    ∧ (s.host.perst = true → tfind s.host.reads tag = none → tfind s.host.quarantine tag = some a →
      Completes (.completionRx t tag false ws tlp) s (fun u => u.par Ix.hostLateCpl 0 = cntNext (s.par Ix.hostLateCpl 0)
        ∧ u.host.reads = s.host.reads ∧ u.host.rings = s.host.rings))
    ∧ (s.host.perst = true → tfind s.host.reads tag = none → tfind s.host.quarantine tag = none →
      Completes (.completionRx t tag false ws tlp) s (fun u =>
        u.par Ix.hostUnexpectedCpl 0 = cntNext (s.par Ix.hostUnexpectedCpl 0)))
    ∧ (outstanding → s.par Ix.hostFreezeMask 0 = 0 → Completes (.completionRx t tag true ws tlp) s (fun u => failed u
      ∧ u.par Ix.hostPoisonedRx 0 = cntNext (s.par Ix.hostPoisonedRx 0)))
    ∧ (outstanding → s.par Ix.hostFreezeMask 0 = 0 → bit (s.cfgWord 0x98) 4 = false → q.issued + s.cplTimeout * 95 / 100 ≤ s1.now →
      Completes (.completionTimeout t tag) s (fun u => failed u
        ∧ u.par Ix.hostCplTimeouts 0 = cntNext (s.par Ix.hostCplTimeouts 0)))
    ∧ (s.host.quarantine = [(tag, a)] → Completes (.tagQuarantineEnd t tag) s (fun u =>
      u.host.quarantine = if a ≤ s1.now then [] else [(tag, a)]))

/-- The next frame of a ring is written whole at its place in the open descriptor's buffer; a descriptor at fault is completed
with ERROR and named. An idle ring closes its open descriptor: bytes and frames are told, DEV_PTR goes on, the frames leave
the tail. Comes from R319 to R321. The model's own choices in it: log 51. -/
def Obligations.FrameDelivery : Prop :=
  ∀ (s : State) (t code : Nat) (n : Fin 9) (d : List Word) (f : Frame) (fs : List Frame), s.Inv →
    let s1 := s.enter t
    let r := s.ringOf n
    let next := (r.devPtr + 1) % 2 ^ 32
    let acts : Prop := s.ringActs n = true ∧ r.owed = false
    let opened : Prop := acts ∧ r.devPtr ≠ r.hostPtr ∧ tfind r.descs r.devPtr = some d
    let unread : Prop := tfind r.descs next = none
    let plain : Prop := n.val < 8 ∨ (s.fetch.ending = false ∧ s.fetch.aborting = false)
    let buf := (d.getD 1 0).toNat * 2 ^ 32 + (d.getD 0 0).toNat
    let len := (d.getD 2 0).toNat % 2 ^ 24
    let written (u : State) : List Word := u.out.flatMap (fun o => match o with
      | .hostWrite _ ws _ => ws
      | _ => [])
    let first (u : State) : Option Nat := u.out.head?.map (fun o => match o with
      | .hostWrite at_ _ _ => at_
      | _ => 0)
    let closed (u : State) (flags : Nat) : Prop := (u.ringOf n).devPtr = next ∧ (u.ringOf n).used = 0 ∧ (u.ringOf n).frames = 0
      ∧ written u = [w32 (2 ^ 31 + flags * 2 ^ 28 + r.used), w32 r.frames, w32 next]
      ∧ u.par (Ix.ringBytes + n.val) 0 = (s.par (Ix.ringBytes + n.val) 0 + r.used) % 2 ^ 64
    (opened → plain → s.ringFrames n = f :: fs → descFault d = none → r.used + f.bytes ≤ len →
      Completes (.frameDeliver t n []) s (fun u => written u = f.words ∧ (u.ringOf n).used = r.used + f.bytes
        ∧ (u.ringOf n).frames = r.frames + 1 ∧ (u.ringOf n).lastAt = s1.now ∧ (u.ringOf n).devPtr = r.devPtr
        ∧ first u = some (buf + r.used)))
    ∧ (opened → unread → plain → s.ringFrames n = f :: fs → descFault d = none → len < r.used + f.bytes →
      Completes (.frameDeliver t n []) s (fun u => closed u 0))
    ∧ (opened → s.ringFrames n = f :: fs → descFault d = some code → Completes (.frameDeliver t n []) s (fun u =>
      (u.ringOf n).lastError = code ∧ (u.ringOf n).descErrors = min (r.descErrors + 1) 0xFFFFFFFF ∧ (u.ringOf n).devPtr = next
        ∧ written u = [w32 0xC0000000, 0, w32 next] ∧ u.stream = s.stream))
    ∧ (opened → unread → n = 8 → s.fetch.ending = true → s.ringFrames n = [] → descFault d = none →
      Completes (.frameDeliver t n []) s (fun u => closed u 1 ∧ u.fetch.ending = false))
    ∧ (acts → unread → r.frames ≠ 0 → r.idleClose ≠ 0 → r.lastAt + r.idleClose * 256000 ≤ s1.now → s.ringFrames n = [] → plain →
      Completes (.idleClose t n) s (fun u => closed u 2))

/-- Under MSI-X a pending, armed source whose interval is over sends its vector's message, is disarmed and counted; a masked one
is held. INTA is asserted while a source is pending. IRQ.ACK arms its source; a vector that is unmasked sends the message it
held. Comes from R330 to R333. The model's own choices in it: log 30, 52. -/
def Obligations.Interrupts : Prop :=
  ∀ (s : State) (t : Nat) (src : Fin 33) (i : Fin 17) (w : Word) (v : Fin 64) (tlp : Tlp), s.Inv →
    let s1 := s.enter t
    let x := s.par Ix.irqVector src % 64
    let told (u : State) (v : Nat) : Out := .interrupt (u.msixWord (4 * v + 1) * 2 ^ 32 + u.msixWord (4 * v)) (u.msixWord (4 * v + 2))
    (s.irqMode = 3 → s1.irqDue src = true → s.masked x = false → (src.val ≤ 8 ∨ 16 ≤ src.val) →
      Completes (.irqMessage t src) s (fun u => u.out = [told s x] ∧ src.val ∈ u.host.disarmed
        ∧ tfind u.host.lastMsg src = some s1.now ∧ u.par Ix.irqMessages x = cntNext (s.par Ix.irqMessages x)))
    ∧ (s.irqMode = 3 → s1.irqDue src = true → s.masked x = true → Completes (.irqMessage t src) s (fun u => u.out = []
      ∧ bit u.host.pba x = true ∧ u.host.disarmed = s.host.disarmed))
    ∧ (s.irqMode = 1 → s.mayRequest = true → irqSources.any s.irqPending = !s.host.inta →
      Completes (.irqMessage t src) s (fun u => u.out = [.intx (!s.host.inta)] ∧ u.host.inta = !s.host.inta))
    ∧ Completes (.irqAck t i w) s (fun u => u.par Ix.irqAck (16 + i.val) = w.toNat ∧ 16 + i.val ∉ u.host.disarmed)
    ∧ (s.mayReceive = true → s.memSpace = true → s.domainGood 2 = true → s.mayRequest = true → s.irqMode = 3 →
        bit (s.cfgWord 0xB0) 30 = false → bit s.host.pba v = true →
      Completes (.msixVectorUnmask t v tlp) s (fun u => told s v ∈ u.out ∧ bit u.host.pba v = false
        ∧ u.par Ix.irqMessages v = cntNext (s.par Ix.irqMessages v)))

/-- A write of 1 to WIN.ENABLE of a DISABLED window checks it against Table 9: with every rule kept the window is ENABLED;
otherwise WIN.ENABLE stays, WIN.REFUSED counts and WIN.LAST_REFUSED takes the first reason. Comes from R308. -/
def Obligations.WindowEnable : Prop :=
  ∀ (s : State) (t : Nat) (n : Fin 8), s.Inv →
    let z := s.par Ix.winSizeLog2 n
    let o := s.par (Ix.winOffset + n.val) 0
    let g := s.par (Ix.winTarget + n.val) 0
    let end_ := g + 2 ^ z
    let dram : Bool := decide (2 ^ 36 ≤ g) && decide (end_ ≤ 2 ^ 36 + s.par Ix.memSize 0 * 65536)
    let sram : Bool := decide (0x20000000 ≤ g) && decide (end_ ≤ 0x20000000 + 2 ^ 20)
    let laps : Bool := (List.range 8).any (fun m => decide (m ≠ n) && decide (s.par Ix.winState m ≠ 0)
      && decide (o < s.par (Ix.winOffset + m) 0 + 2 ^ s.par Ix.winSizeLog2 m) && decide (s.par (Ix.winOffset + m) 0 < o + 2 ^ z))
    let reason := if z < 12 ∨ 36 < z then 1 else if o % 2 ^ z ≠ 0 ∨ g % 4096 ≠ 0 then 2 else if !dram && !sram then 3
      else if laps then 4 else if 2 ^ 37 < o + 2 ^ z then 5 else 0
    (s.par Ix.winState n = 0 → s.par Ix.winEnable n = 0 → reason = 0 →
      Completes (.windowEnable t n) s (fun u => u.par Ix.winEnable n = 1 ∧ u.par Ix.winState n = 1
        ∧ u.par Ix.winRefused n = s.par Ix.winRefused n))
    ∧ (s.par Ix.winState n = 0 → s.par Ix.winEnable n = 0 → reason ≠ 0 →
      Completes (.windowEnable t n) s (fun u => u.par Ix.winEnable n = 0 ∧ u.par Ix.winState n = 0
        ∧ u.par Ix.winRefused n = cntNext (s.par Ix.winRefused n) ∧ u.par Ix.winLastRefused n = reason))

/-- A window is disabled at once, or drains while a request is outstanding. A read through an enabled window gives the words of
its target, a write changes the bytes it covers and no other; a request that reaches no window, and a write that a window or
an owner's region forbids, is counted and changes no byte. Comes from R307, R309 to R311. The model's own choices in it: log
33, 34, 53, 54, 80. -/
def Obligations.WindowAccess : Prop :=
  ∀ (s : State) (t a k : Nat) (n w : Fin 8) (outstanding : Bool) (ws : List Word) (tlp : Tlp) (y : Nat), s.Inv →
    let takes : Prop := s.mayReceive = true ∧ s.memSpace = true ∧ s.d3hot = false
    let x := s.par (Ix.winTarget + w.val) 0 + (a - s.par (Ix.winOffset + w.val) 0)
    let reaches : Prop := takes ∧ s.windowAt a = some w.val
    let inside : Bool := decide (x ≤ y) && decide (y < x + 4 * ws.length)
    (s.par Ix.winState n = 1 → Completes (.windowDisable t n outstanding) s (fun u => u.par Ix.winEnable n = 0
      ∧ u.par Ix.winState n = if outstanding then 2 else 0))
    ∧ (s.par Ix.winState n = 2 → Completes (.windowDrained t n) s (fun u => u.par Ix.winState n = 0))
    ∧ (reaches → s.portRunning = true → s.targetRuns x = true → s.dram.scratch = [] → Completes (.bar4Read t a k [] tlp) s (fun u =>
      u.out = [.completion .success (memWords s.mem x k) []] ∧ u.mem = s.mem))
    ∧ (takes → s.portRunning = true → s.windowAt a = none → Completes (.bar4Read t a k [] tlp) s (fun u =>
      .completion .unsupported [] [] ∈ u.out ∧ u.par Ix.winMissNp 0 = cntNext (s.par Ix.winMissNp 0)
        ∧ u.par Ix.winMissLast 0 = a ∧ u.mem = s.mem))
    ∧ (takes → s.windowAt a = none → Completes (.bar4Write t a ws 15 15 [] tlp) s (fun u => u.mem = s.mem
      ∧ u.par Ix.winMissP 0 = cntNext (s.par Ix.winMissP 0) ∧ u.par Ix.winMissLast 0 = a))
    ∧ (reaches → s.par Ix.winWrite w ≠ 0 → s.writeBlocked x (x + 4 * ws.length) = false → s.targetRuns x = true →
      Completes (.bar4Write t a ws 15 15 [] tlp) s (fun u =>
        memRead u.mem y = if inside then (bytesOfWords ws).getD (y - x) 0 else memRead s.mem y))
    ∧ (reaches → (s.par Ix.winWrite w = 0 ∨ s.writeBlocked x (x + 4 * ws.length) = true) →
      Completes (.bar4Write t a ws 15 15 [] tlp) s (fun u => u.mem = s.mem
        ∧ u.par Ix.winWriteBlocked 0 = cntNext (s.par Ix.winWriteBlocked 0) ∧ u.par Ix.winBlockedLast 0 = x))

/-- A frame that is too long or damaged is counted; one not for this device is forwarded, its FCS kept bad. An ESMC PDU gives its
port's level; the closer's own test frame closes the ring, its silence or a lost link opens it. A MARK_OUT for this chip
enters the Causeway once; one of another length is a partner violation. Comes from R44, R370 to R373, R386, R387. The model's
own choices in it: log 55, 73. -/
def Obligations.Ethernet : Prop :=
  ∀ (s : State) (t len dst level num w2 lo mid code origin peer : Nat) (port : Fin 2) (fcsOk : Bool) (body : EthBody), s.Inv →
    let s1 := s.enter t
    let live : Prop := s.portUp port = true ∧ s.domainGood 5 = true
    let opens (u : State) : Prop := u.par Ix.netRingState 0 = 2
      ∧ u.par Ix.netRingOpenings 0 = cntNext (s.par Ix.netRingOpenings 0)
    let ws : List Word := [w32 (code * 65536 + origin), w32 num, w32 w2, w32 lo, w32 mid]
    let small : Prop := code < 65536 ∧ origin < 65536 ∧ num < 2 ^ 32 ∧ w2 < 2 ^ 32 ∧ lo < 2 ^ 32 ∧ mid < 2 ^ 32
    let heard : Prop := s.portUp port = true ∧ 7 < s.par Ix.startStep 0
    let mine : Prop := small ∧ s.par Ix.netMarkRxEnable 0 = 1 ∧ (dst = 65535 ∨ dst = s.par Ix.idChipNum 0)
      ∧ origin ≠ s.par Ix.idChipNum 0
    (live → 576 < len → Completes (.ethFrameRx t port .group len fcsOk body) s (fun u => u.out = []
      ∧ u.par Ix.netOversize port = cntNext (s.par Ix.netOversize port)))
    ∧ (live → 64 ≤ len → len ≤ 576 → s.par Ix.netRingState 0 ≠ 1 → s.canSend (1 - port.val) = true →
      Completes (.ethFrameRx t port .other len fcsOk .other) s (fun u => u.out = [.forward (1 - port.val) (!fcsOk)]
        ∧ u.par Ix.netFcsErrors port = if fcsOk then s.par Ix.netFcsErrors port else cntNext (s.par Ix.netFcsErrors port)))
    ∧ (live → 64 ≤ len → len ≤ 576 → Completes (.ethFrameRx t port .group len true (.esmc level)) s (fun u =>
      u.par Ix.synceQlRx port = level % 256))
    ∧ (live → 64 ≤ len → len ≤ 576 → port = 1 → s.par Ix.netRingRole 0 = 1 →
      Completes (.ethFrameRx t port .group len true .ringTest) s (fun u => u.par Ix.netRingState 0 = 1 ∧ u.net.testSeen = s1.now))
    ∧ (s.par Ix.netRingRole 0 = 1 → s.canSend 0 = true → Completes (.ringTestSend t) s (fun u => u.out = [.ringTest]))
    ∧ (s.par Ix.netRingState 0 = 1 → s.net.testSeen + 768000000 ≤ s1.now → Completes (.ringTestTimeout t) s opens)
    ∧ (s.par Ix.netLink port = 1 → Completes (.ethLinkDown t port) s (fun u => u.par Ix.netLink port = 0
      ∧ u.sourceReady (4 + port.val) = false ∧ u.par Ix.ptpPortState port = 0 ∧ (s.par Ix.netRingState 0 = 1 → opens u)))
    ∧ (s.par Ix.netPortEnable port = 1 → s.domainGood 5 = true → Completes (.ethLinkUp t port) s (fun u =>
      u.par Ix.netLink port = 1))
    ∧ (heard → mine → s.tpll = true → 2 ≤ s.par Ix.pwrState 0 → (origin, num) ∉ s.net.marks → Completes (.markOutRx t port dst 40 ws peer) s (fun u =>
      u.net.marks = ((origin, num) :: s.net.marks).take 256
        ∧ u.cw.store = insertItem (.record (recMarkIn s1.now code origin num (w2 / 65536 % 256) (w2 / 256 % 256) (w2 % 256)
          (w2 / 2 ^ 24 * 2 ^ 64 + mid * 2 ^ 32 + lo)) none) s.cw.store))
    ∧ (heard → mine → (origin, num) ∈ s.net.marks → Completes (.markOutRx t port dst 40 ws peer) s (fun u =>
      u.par Ix.netMarkDuplicates 0 = cntNext (s.par Ix.netMarkDuplicates 0) ∧ u.cw = s.cw))
    ∧ (heard → len ≠ 40 → Completes (.markOutRx t port dst len ws peer) s (fun u =>
      u.par Ix.pflKindCount 16 = cntNext (s.par Ix.pflKindCount 16) ∧ u.cw = s.cw))

/-- IDENTIFY answers who the device is. SESSION_OPEN gives a number that no open session has, 16 sessions at most; SESSION_CLOSE
and an idle session's timeout end the session, with its ownership and its held responses. SESSION_AUTH keeps the key slot and
the transcript of its first request; a signature that verifies under the slot's key authenticates the session and restarts its
numbers, any other is AUTH_FAILED. A session takes a device that nobody owns, and an authenticated one takes it from one that
is not; otherwise the device stays with its owner. The owner's release leaves nobody. Comes from R377 to R379, R380. The
model's own choices in it: log 6, 64 to 66, 82. -/
def Obligations.SessionsAndOwnership : Prop :=
  (∀ (s : State) (t n : Nat) (h : CdpHdr) (body : List Word) (half : Nat × Nat), s.Inv →
      let s1 := s.enter t
      let open_ : Prop := body = [] ∧ h.session = 0 ∧ h.auth = false
      let x := s.sessionOf h.session
      let given (u : State) : Nat := (u.out.map (fun o => match o with
        | .cdp _ _ ws _ => (ws.getD 0 0).toNat
        | _ => 0)).getD 0 0
      let gone (u : State) (m : Nat) : Prop := tfind u.net.sessions m = none ∧ u.par Ix.netSessions 0 = s.net.sessions.length - 1
        ∧ (s.par Ix.netOwner 0 = m → u.par Ix.netOwner 0 = 0) ∧ u.net.held.any (fun y => decide (y.reply.session = m)) = false
      (s.hearsCdp h 1 body → open_ → Completes (.identify t h body) s (fun u => u.net = s.net ∧ s.answered u h 1 false
        [0x1EB70192, w32 (s.par Ix.idChipNum 0 * 65536 + s.par Ix.idSiliconRev 0 % 256 * 256 + s.par Ix.idOrderCode 0 % 256),
         w32 (s.par Ix.idSerial 0), w32 (s.par Ix.idSerial 0 / 2 ^ 32), w32 (s.par Ix.idFwVersion 0),
         w32 (s.par Ix.netAuthRequired 0 * 2 ^ 17 + (if s.par Ix.netOwner 0 = 0 then 0 else 2 ^ 16) + s.net.sessions.length)]))
      ∧ (s.hearsCdp h 2 body → open_ → s.net.sessions.length < 16 → Completes (.sessionOpen t h body) s (fun u =>
        s.answered u h 2 false [w32 (given u), w32 (s.par Ix.netSessionIdle 0)] ∧ 1 ≤ given u ∧ given u ≤ 0xFFFE
          ∧ tfind s.net.sessions (given u) = none ∧ (tfind u.net.sessions (given u)).map Session.auth = some false
          ∧ u.net.sessions.length = s.net.sessions.length + 1 ∧ u.par Ix.netSessions 0 = s.net.sessions.length + 1))
      ∧ (s.hearsCdp h 2 body → open_ → 16 ≤ s.net.sessions.length → Completes (.sessionOpen t h body) s (fun u =>
        s.answered u h 2 true [0x02000002, 0] ∧ u.net.sessions = s.net.sessions))
      ∧ (s.acceptsCdp h 3 body → body.length = 34 → Completes (.sessionAuthKeys t h body) s (fun u =>
        (u.sessionOf h.session).half.map Prod.fst = some ((body.getD 0 0).toNat % 256) ∧ (u.sessionOf h.session).auth = x.auth
          ∧ (u.sessionOf h.session).response.length = 62 ∧ u.nv = s.nv))
      ∧ (s.acceptsCdp h 3 body → body.length = 25 → x.half = some half → tget [] s.nv.masterKeys half.1 ≠ [] →
        Completes (.sessionAuthSign t h body) s (fun u =>
          if ecdsaVerifies (tget [] s.nv.masterKeys half.1) (bytesLE 48 half.2) (bytesOfWords (body.drop 1)) = true then
            s.answered u h 3 false [] ∧ (u.sessionOf h.session).auth = true ∧ (u.sessionOf h.session).q = 0
              ∧ (u.sessionOf h.session).evSeq = 0 ∧ (u.sessionOf h.session).unacked = []
          else s.answered u h 3 true [0x02000007, 0] ∧ (u.sessionOf h.session).auth = x.auth))
      ∧ (s.acceptsCdp h 3 body → body.length = 25 → x.half = none → Completes (.sessionAuthSign t h body) s (fun u =>
        s.answered u h 3 true [0x02000007, 0] ∧ (u.sessionOf h.session).auth = x.auth))
      ∧ (s.acceptsCdp h 4 body → body = [] → Completes (.sessionClose t h body) s (fun u => s.answered u h 4 false []
        ∧ gone u h.session))
      ∧ ((tfind s.net.sessions n).isSome = true → (s.sessionOf n).at_ + s.par Ix.netSessionIdle 0 * 256000000000 ≤ s1.now →
        Completes (.sessionIdleTimeout t n) s (fun u => gone u n))
      ∧ (s1.now < (s.sessionOf n).at_ + s.par Ix.netSessionIdle 0 * 256000000000 → Completes (.sessionIdleTimeout t n) s (fun u =>
        u.net = s.net ∧ u.dict = s.dict)))
  ∧ (∀ (s : State) (t : Nat) (h : CdpHdr) (w : Word), s.Inv →
      let owner := s.par Ix.netOwner 0
      let x := s.sessionOf h.session
      let may : Prop := s.par Ix.netAuthRequired 0 = 0 ∨ x.auth = true
      let free : Prop := owner = 0 ∨ owner = h.session
        ∨ (x.auth = true ∧ ∀ y, tfind s.net.sessions owner = some y → y.auth = false)
      (s.acceptsCdp h 5 [w] → may → free → Completes (.ownershipTake t h [w]) s (fun u => s.answered u h 5 false [w32 h.session]
        ∧ u.par Ix.netOwner 0 = h.session))
      ∧ (s.acceptsCdp h 5 [w] → may → ¬ free → Completes (.ownershipTake t h [w]) s (fun u => s.answered u h 5 true [0x02000009, 0]
        ∧ u.par Ix.netOwner 0 = owner))
      ∧ (s.acceptsCdp h 5 [w] → s.par Ix.netAuthRequired 0 = 1 → x.auth = false → Completes (.ownershipTake t h [w]) s (fun u =>
        s.answered u h 5 true [0x02000006, 0] ∧ u.par Ix.netOwner 0 = owner))
      ∧ (s.acceptsCdp h 5 [w] → owner = h.session → Completes (.ownershipRelease t h [w]) s (fun u => s.answered u h 5 false [0]
        ∧ u.par Ix.netOwner 0 = 0)))

/-- A READ gives the value of the slot, an index that no entry has is INDEX_UNKNOWN; READ_MULTI gives a status and the value for
each. A WRITE is answered at once with the time 0, and writes nothing where one of its values fails; one of an RWL parameter
waits in the queue, and its answer with it. ENABLE and DISABLE queue 1 and 0. A session that does not own the device is
answered NOT_OWNER. SNAPSHOT_COUNTERS names the snapshot's instant. Comes from R375, R376, R381, R385. The model's own choices
in it: log 65, 66, 84. -/
def Obligations.DictionaryOps : Prop :=
  ∀ (s : State) (t : Nat) (h : CdpHdr) (ix bad : Fin 65536) (sub : Fin 256) (p : Param) (w : Word) (k : HeldResponse), s.Inv →
    let s1 := s.enter t
    let e := (s1.now + 49151) / 16384 * 16384
    let a : Word := w32 (ix.val * 65536 + sub.val * 256 + 1)
    let b : Word := w32 (bad.val * 65536 + sub.val * 256 + 1)
    let unknown := 0x03000001 + bad.val / 256 * 65536
    let slot : Prop := paramOf ix = some p ∧ p.s0 ≤ sub.val ∧ sub.val ≤ p.s1 ∧ p.ty.words = 1 ∧ p.ty ≠ .string ∧ p.ty ≠ .domain
      ∧ p.dedicated = false ∧ p.danger = false
    let plain : Prop := slot ∧ p.acc = .rw ∧ s1.slowWrite p ix sub = false ∧ ix.val ≠ Ix.dictView
      ∧ (p.bcast = false ∨ sub.val ≠ 255)
    let direct : Prop := s1.staged = [] ∧ s1.ds.slow = [] ∧ s1.derivedA ix sub = none ∧ s1.derivedB ix sub = none
    let v := p.fit w.toNat
    let fails (z : Nat) : Prop := s1.writeFails p ix sub z h.busy ≠ none
    let queued (u : State) (z : Nat) : Prop := u.out = [] ∧ u.par ix sub = s.par ix sub
      ∧ u.cw.queue.getLast? = some ⟨e, ix, sub, z⟩ ∧ u.net.held.length = s.net.held.length + 1
    let sealed := if k.reply.auth then 1 else 0
    let header : List Word := [w32 (0xCD101101 + 8 * sealed), w32 (k.reply.session * 65536 + (20 + 4 * k.words.length + 16 * sealed)),
      w32 k.reply.seq, w32 (k.reply.dst * 65536 + s.par Ix.idChipNum 0 % 65536), 0]
    let waits : Prop := slot ∧ p.acc = .rwl ∧ ix.val ≠ Ix.calOffsetUser ∧ ix.val ≠ Ix.calGainUser ∧ sub.val ≠ 255
      ∧ atBoundary s.cw.queue e < 128
    (s.acceptsCdp h 0x10 [a] → plain → direct → Completes (.cdpRead t h [a]) s (fun u =>
      s.answered u h 0x10 false [w32 (s.par ix sub)] ∧ u.dict = s.dict))
    ∧ (s.acceptsCdp h 0x10 [b] → paramOf bad = none → Completes (.cdpRead t h [b]) s (fun u =>
      s.answered u h 0x10 true [w32 unknown, w32 (bad.val * 65536 + sub.val * 256)]))
    ∧ (s.acceptsCdp h 0x12 [2, a, b] → plain → direct → paramOf bad = none → Completes (.readMulti t h [2, a, b]) s (fun u =>
      s.answered u h 0x12 false [0, w32 (s.par ix sub), w32 unknown] ∧ u.dict = s.dict))
    ∧ (s.ownerCdp h 0x11 [a, w] → plain → ¬ fails v → s1.valueEffect ix sub v h.busy = none → Completes (.cdpWrite t h [a, w]) s (fun u =>
      s.answered u h 0x11 false [0, 0, 0] ∧ u.par ix sub = v))
    ∧ (s.ownerCdp h 0x11 [a, w] → waits → ¬ fails v → Completes (.cdpWrite t h [a, w]) s (fun u => queued u v))
    ∧ (s.acceptsCdp h 0x11 [a, w] → s.par Ix.netOwner 0 ≠ h.session → Completes (.cdpWrite t h [a, w]) s (fun u =>
      s.answered u h 0x11 true [0x02000008, 0] ∧ u.cw = s.cw ∧ (plain → u.par ix sub = s.par ix sub)))
    ∧ (s.ownerCdp h 0x13 [1, a, w] → plain → ¬ fails v → s1.valueEffect ix sub v h.busy = none →
      Completes (.writeMulti t h [1, a, w]) s (fun u => s.answered u h 0x13 false [0, 0, 0] ∧ u.par ix sub = v))
    ∧ (s.ownerCdp h 0x13 [2, a, w, b, w] → plain → paramOf bad = none → Completes (.writeMulti t h [2, a, w, b, w]) s (fun u =>
      s.answered u h 0x13 true [w32 unknown, w32 (bad.val * 65536 + sub.val * 256 + 1)] ∧ u.cw = s.cw
        ∧ u.par ix sub = s.par ix sub))
    ∧ (s.ownerCdp h 0x14 [1, a] → waits → isEnable ix = true → ¬ fails 1 → Completes (.cdpEnable t h [1, a]) s (fun u => queued u 1))
    ∧ (s.ownerCdp h 0x15 [1, a] → waits → isEnable ix = true → ¬ fails 0 → Completes (.cdpDisable t h [1, a]) s (fun u => queued u 0))
    ∧ (s.acceptsCdp h 0x16 [] → s.ds.snapAt = none → Completes (.snapshotCounters t h []) s (fun u =>
      u.ds.snapAt = some (if s.tpll = true then e else s1.now)
        ∧ s.answered u h 0x16 false (wordsOf 3 (if s.tpll = true then e else s1.now) ++ [w32 (s.par Ix.dictSnapSeq 0 + 1)])))
    ∧ (s.net.held = [k] → k.due ≤ s1.now → s.cw.queue = [] → k.conflict = none → s.canSend k.reply.port = true →
      k.reply.session < 65536 → k.reply.dst < 65536 → k.reply.op = 0x11 → Completes (.cdpResponseSend t) s (fun u =>
        u.net.held = [] ∧ u.dict = s.dict ∧ u.out = [.cdp k.reply.port header
          (if k.reply.auth then sealBody (s.sessionOf k.reply.session).keyOut 1 header k.words else k.words) k.reply.auth]))

/-- A subscription takes the lowest free number, answered; the next interval of a parameter subscription ends W1 milliseconds
later, and its reading goes out as the session's next EVENT unless nothing has changed under kind 1. A stream's frames go out
in segments of 448 bytes, an alert whole. An acknowledgement frees the EVENTs up to its number; after 20 ms without one they
are sent again. Comes from R382 to R384. The model's own choices in it: log 67, 82. -/
def Obligations.Subscriptions : Prop :=
  ∀ (s : State) (t ms g upTo : Nat) (h : CdpHdr) (ix : Fin 65536) (sub : Fin 256) (p : Param) (k : Fin 16) (n : Fin 8) (f : Frame)
    (x : Sub) (c d : Nat) (w0 : Word), s.Inv →
    let s1 := s.enter t
    let item : Word := w32 (ix.val * 65536 + sub.val * 256 + 1)
    let known : Prop := paramOf ix = some p ∧ p.s0 ≤ sub.val ∧ sub.val ≤ (if p.dedicated = true then p.s0 else p.s1) ∧ ms < 2 ^ 32
    let room : Prop := (List.range 16).find? (fun j => (tfind s.net.subs j).isNone) = some g
    let body := [w0, w32 ms, 1, item]
    let made (u : State) (kind : Nat) : Prop := (tfind u.net.subs g).map (fun y => (y.session, y.kind)) = some (h.session, kind)
      ∧ s.answered u h 0x30 false [w32 g]
    let timed (u : State) (kind : Nat) : Prop := made u kind ∧ (tfind u.net.subs g).map (fun y => (y.interval, y.due, y.items))
      = some (ms, s1.now + ms * 256000000, [item])
    let n3 := (h.session, [w0, 0, w32 n.val])
    let y := s.sessionOf x.session
    let runs (kind : Nat) : Prop := tfind s.net.subs k = some x ∧ x.kind = kind ∧ (tfind s.net.sessions x.session).isSome = true
      ∧ y.unacked.length < 64 ∧ s.runs 2 = true
    let next (u : State) : Option EventMsg := (u.sessionOf x.session).unacked.getLast?
    let bytes := bytesOfWords f.words
    (s.acceptsCdp h 0x30 body → known → room → 10 ≤ ms → ms ≤ 3600000 → Completes (.subscribePeriodic t h body) s (fun u => timed u 0))
    ∧ (s.acceptsCdp h 0x30 body → known → room → 10 ≤ ms → Completes (.subscribeOnChange t h body) s (fun u => timed u 1))
    ∧ (s.acceptsCdp h 0x30 body → ms < 10 → Completes (.subscribePeriodic t h body) s (fun u =>
      s.answered u h 0x30 true [0x04000001, 0] ∧ u.net.subs = s.net.subs))
    ∧ (s.acceptsCdp h 0x30 n3.2 → room → bit (s.par Ix.streamOutlets n) 1 = true →
        s.net.subs.all (fun z => decide (z.2.kind ≠ 2) || decide (z.2.stream ≠ n)) = true →
      Completes (.subscribeStream t h n3.2) s (fun u => made u 2 ∧ (tfind u.net.subs g).map Sub.stream = some n.val))
    ∧ (s.acceptsCdp h 0x30 [w0, 0] → room → Completes (.subscribeAlerts t h [w0, 0]) s (fun u => made u 3))
    ∧ (s.acceptsCdp h 0x30 [w0, 0] → (List.range 16).all (fun j => (tfind s.net.subs j).isSome) = true →
      Completes (.subscribeAlerts t h [w0, 0]) s (fun u => s.answered u h 0x30 true [0x05000002, 0] ∧ u.net.subs = s.net.subs))
    ∧ (s.acceptsCdp h 0x30 [w0, 0, w32 k.val] → tfind s.net.subs k = some x → x.session = h.session →
      Completes (.subscribeCancel t h [w0, 0, w32 k.val]) s (fun u => tfind u.net.subs k = none
        ∧ s.answered u h 0x30 false [w32 k.val]))
    ∧ (s.acceptsCdp h 0x30 [w0, 0, w32 upTo] → upTo < 2 ^ 32 →
        s.net.subs.all (fun z => decide (z.2.session ≠ h.session) || !z.2.waiting) = true →
      Completes (.eventAcknowledge t h [w0, 0, w32 upTo]) s (fun u => (u.sessionOf h.session).unacked
        = (s.sessionOf h.session).unacked.filter (fun q => decide (2 ^ 31 ≤ (upTo + 2 ^ 32 - q.seq % 2 ^ 32) % 2 ^ 32))))
    ∧ (runs 0 → x.due ≤ s1.now → Completes (.subscriptionTimer t k) s (fun u =>
      (tfind u.net.subs k).map Sub.due = some (x.due + x.interval * 256000000)
        ∧ (next u).map EventMsg.seq = some ((y.evSeq + 1) % 2 ^ 32)
        ∧ (next u).map (fun q => q.body.take 4) = some (w32 (k.val) :: wordsOf 3 s1.now)))
    ∧ (runs 1 → x.due ≤ s1.now → (s1.reading k x.items).drop 4 = x.last.drop 4 → Completes (.subscriptionTimer t k) s (fun u =>
      u.out = [] ∧ u.net.sessions = s.net.sessions ∧ (tfind u.net.subs k).map Sub.due = some (x.due + x.interval * 256000000)))
    ∧ (runs 2 → s.nextFrame x = some f → x.sent < bytes.length → tget 0 s.net.evStream x.stream ≤ s1.now → s.net.evAny ≤ s1.now →
      Completes (.eventSend t k []) s (fun u =>
      (next u).map (fun q => (q.seq, q.more)) = some ((y.evSeq + 1) % 2 ^ 32, decide (x.sent + 448 < bytes.length))
        ∧ (next u).map (fun q => q.body.drop 2) = some (wordsOfBytes ((bytes.drop x.sent).take 448))))
    ∧ (runs 3 → s.net.alerts = [(k.val, c, d)] → Completes (.eventSend t k []) s (fun u => u.net.alerts = []
      ∧ (next u).map (fun q => (q.seq, q.body)) = some ((y.evSeq + 1) % 2 ^ 32, [w32 (2 * 2 ^ 24 + k.val), w32 c, w32 d])))
    ∧ ((tfind s.net.sessions x.session).isSome = true → y.unacked ≠ [] → y.evAt + 5120000000 ≤ s1.now → s.canSend y.port = true → s.runs 2 = true →
      Completes (.eventResend t x.session) s (fun u => u.out.length = y.unacked.length
        ∧ (u.sessionOf x.session).unacked = y.unacked ∧ (u.sessionOf x.session).evAt = s1.now
        ∧ u.par Ix.netEventResends 0 = cntNext (s.par Ix.netEventResends 0)))

/-- A SAVE that may start writes the region without the current copy, SEQ one above it; one that may not is refused with its
reason. A slot that reads back well is the new current copy and its requester is answered; one that does not is retired. LOAD
applies the values of the copy chosen, or is refused. Comes from R417 to R424, R427. The model's own choices in it: log 60 to
62. -/
def Obligations.Store : Prop :=
  ∀ (s : State) (t : Nat) (h : CdpHdr) (w : Word) (j : SaveJob) (ix : Fin 65536) (sub : Fin 256) (p : Param) (v : Word) (c : Copy), s.Inv →
    let s1 := s.enter t
    let r := match s.currentRegion with
      | some q => 1 - q
      | none => 0
    let seq := match s.currentCopy with
      | some q => (q.seq + 1) % 2 ^ 32
      | none => 1
    let maySave : Prop := s.par Ix.storeState 0 = 0
      ∧ s.nv.lastCommit + s.par Ix.storeSaveInterval 0 * 256000000000 ≤ s1.now
      ∧ s.par Ix.storeRegionWrites r < 1600000 - 100000 * s.par Ix.storeSlotsRetired r
    let begins (u : State) (sign : Bool) (a : Option Reply) : Prop := u.par Ix.storeState 0 = 1
      ∧ u.nv.job.map (fun q => (q.region, q.retried, q.copy.seq, q.reply)) = some (r, false, seq, a)
      ∧ u.nv.job.map (fun q => q.copy.signed) = some (sign || s.nv.masterKeys.any (fun z => decide (z.2 ≠ [])))
      ∧ u.par Ix.storeRegionWrites r = s.par Ix.storeRegionWrites r + 1
    let tooSoon : Prop := s.par Ix.storeState 0 = 0 ∧ s1.now < s.nv.lastCommit + s.par Ix.storeSaveInterval 0 * 256000000000
    let idle : Prop := s.capturing = false ∧ (List.range 24).all (fun q => decide (s.par Ix.caiEnable q ≠ 1)) = true
      ∧ s.par Ix.fetchState 0 ≠ 1 ∧ s.par Ix.storeState 0 = 0
    let clean : Prop := s.latestTable.all (fun z => decide (z.2 = dfltOf z.1)
      || (!storable z.1 && !((paramOf (z.1 / 256)).map Param.danger).getD false)) = true
    let holds : Prop := c.body = [w32 (ix.val * 65536 + sub.val * 256 + 1), v]
    let slot : Prop := paramOf ix = some p ∧ p.s0 ≤ sub.val ∧ sub.val ≤ p.s1 ∧ p.ty.words = 1
      ∧ p.acc = .rw ∧ p.danger = false ∧ isEnable ix = false ∧ ix.val ≠ Ix.storeLastResult ∧ s1.slowWrite p ix sub = false
      ∧ s1.writeFails p ix sub (p.fit v.toNat) false = none ∧ s1.valueEffect ix sub (p.fit v.toNat) false = none
    let applies (u : State) : Prop := u.par Ix.storeLastResult 0 = 0
      ∧ (clean → holds → slot → u.par ix sub = p.fit v.toNat)
    let none_ (u : State) : Prop := u.par Ix.storeLastResult 0 = 0x06B00003 ∧ u.cw = s.cw
    (maySave → Completes (.storeSave t) s (fun u => begins u false none))
    ∧ (maySave → Completes (.storeSaveSigned t) s (fun u => begins u true none))
    ∧ (s.ownerCdp h 0x20 [w] → maySave → Completes (.cdpSave t h [w]) s (fun u => u.out = []
      ∧ begins u (bit w.toNat 0) (some ⟨h.port, h.session, 0x20, h.seq, h.auth, h.src⟩)))
    ∧ (s.ownerCdp h 0x20 [w] → tooSoon → Completes (.cdpSave t h [w]) s (fun u => s.answered u h 0x20 true [0x06B00001, 0]
      ∧ u.par Ix.storeLastResult 0 = 0x06B00001 ∧ u.nv = s.nv))
    ∧ (s.par Ix.storeState 0 ≠ 0 → Completes (.storeSave t) s (fun u => u.par Ix.storeLastResult 0 = 0x05B00003 ∧ u.nv = s.nv))
    ∧ (idle → s.currentCopy = some c → Completes (.storeLoadCurrent t) s applies)
    ∧ (idle → (s.copyOf 0).map Prod.snd = some c → Completes (.storeLoadA t) s applies)
    ∧ (idle → (s.copyOf 1).map Prod.snd = some c → Completes (.storeLoadB t) s applies)
    ∧ (idle → s.nv.copies = [] → Completes (.storeLoadCurrent t) s none_)
    ∧ (idle → s.nv.copies = [] → Completes (.storeLoadA t) s none_)
    ∧ (idle → s.nv.copies = [] → Completes (.storeLoadB t) s none_)
    ∧ (s.ownerCdp h 0x21 [w] → idle → s.currentCopy = some c → w.toNat % 4 = 0 → s.cw.queue = [] → clean → holds → slot →
      Completes (.cdpLoad t h [w]) s (fun u => s.answered u h 0x21 false [] ∧ applies u))
    ∧ (s.ownerCdp h 0x21 [w] → idle → s.nv.copies = [] → w.toNat % 4 ≠ 3 → Completes (.cdpLoad t h [w]) s (fun u =>
      s.answered u h 0x21 true [0x06B00003, 0] ∧ none_ u))
    ∧ (s.nv.job = some j → Completes (.saveComplete t true) s (fun u =>
      u.nv.copies = tset s.nv.copies (16 * j.region + j.slot) j.copy ∧ u.nv.job = none ∧ u.par Ix.storeState 0 = 0
        ∧ u.par Ix.storeLastResult 0 = 0 ∧ u.nv.lastCommit = s1.now))
    ∧ (s.nv.job = some j → s.nv.copies = [] → j.region < 2 → j.slot < 16 → s.copyValid j.copy = true →
      Completes (.saveComplete t true) s (fun u => u.par Ix.storeCopySeq j.region = j.copy.seq
        ∧ u.par Ix.storeCopySlot j.region = j.slot))
    ∧ (s.nv.job = some j → j.region < 2 → Completes (.saveComplete t false) s (fun u =>
      u.nv.retired = s.nv.retired ++ [16 * j.region + j.slot]
        ∧ u.par Ix.storeSlotsRetired j.region = s.par Ix.storeSlotsRetired j.region + 1
        ∧ (j.retried = true → u.nv.job = none ∧ u.par Ix.storeLastResult 0 = 0x06B00002 ∧ u.par Ix.storeState 0 = 0)))

/-- The segment at offset 0 erases the slot that is not active and begins its staging; the next one must go on where the last
ended. FW_ACTIVATE without a checked image of the version named is NO_IMAGE; with one that still passes its checks, the image
runs: its slot is the active one, unconfirmed, and every session has ended. ATTEST answers the report of the nonce and its
signature. Comes from R429, R430, R435. The model's own choices in it: log 62 to 64, 82. -/
def Obligations.Firmware : Prop :=
  ∀ (s : State) (t inFlight hanging off total nxt : Nat) (h : CdpHdr) (w : Word) (ws : List Word), s.Inv →
    let s1 := s.enter t
    let body := w32 0 :: w32 off :: w32 total :: ws
    let small : Prop := off < 2 ^ 32 ∧ total ≤ 4190208 ∧ ws.length ≤ 112
    let o := 1 - s.par Ix.fwActiveSlot 0
    let bytes := (bytesOfWords ws).take (total - off)
    let slotOf (u : State) (n : Nat) : FwSlot := tget {} u.nv.fw n
    (s.ownerCdp h 0x51 body → small → off = 0 → s.par Ix.storeState 0 = 0 → Completes (.fwStage t h body) s (fun u =>
      s.answered u h 0x51 false [] ∧ slotOf u o = { data := bytes } ∧ u.nv.stage = some (bytes.length, total)
        ∧ u.par Ix.storeState 0 = 3 ∧ u.par Ix.fwVersion o = 0))
    ∧ (s.ownerCdp h 0x51 body → small → off ≠ 0 → s.nv.stage = some (off, total) → off + bytes.length ≤ total →
      Completes (.fwStage t h body) s (fun u => s.answered u h 0x51 false []
        ∧ slotOf u o = { slotOf s o with data := (slotOf s o).data ++ bytes }
        ∧ u.nv.stage = some (off + bytes.length, total)))
    ∧ (s.ownerCdp h 0x51 body → small → off ≠ 0 → s.nv.stage = some (nxt, total) → off ≠ nxt →
      Completes (.fwStage t h body) s (fun u => s.answered u h 0x51 true [0x01B00005, 0] ∧ u.nv = s.nv))
    ∧ (s.ownerCdp h 0x52 [w] → s.par Ix.storeState 0 = 0 → (s.par Ix.fwState 0 ≠ 1 ∨ fwVersionOf (slotOf s o).data ≠ w.toNat) →
      Completes (.fwActivate t h [w] inFlight hanging) s (fun u => s.answered u h 0x52 true [0x07B00003, 0] ∧ u.nv = s.nv))
    ∧ (s.ownerCdp h 0x52 [w] → s.par Ix.storeState 0 = 0 → s.par Ix.fwState 0 = 1 → fwVersionOf (slotOf s o).data = w.toNat →
      Completes (.fwActivate t h [w] inFlight hanging) s (fun u =>
        if s1.imageFails (slotOf s o).data (slotOf s o).data.length = none then
          u.net.sessions = [] ∧ u.par Ix.fwActiveSlot 0 = o ∧ u.par Ix.fwState 0 = 2 ∧ u.par Ix.idFwVersion 0 = w.toNat
            ∧ (slotOf u o).confirm = false ∧ u.par Ix.storeBootCount 0 = s.par Ix.storeBootCount 0 + 1
            ∧ u.nv.running = true ∧ u.nv.fwSince = s1.now
        else u.par Ix.fwState 0 = 0 ∧ u.par Ix.fwActiveSlot 0 = s.par Ix.fwActiveSlot 0 ∧ u.nv.running = s.nv.running))
    ∧ (s.acceptsCdp h 0x50 ws → ws.length = 8 → Completes (.attest t h ws) s (fun u =>
      s.answered u h 0x50 false (s1.attestation ws) ∧ (s1.attestation ws).length = 92
        ∧ ((s1.attestation ws).drop 4).take 8 = ws
        ∧ ((s1.attestation ws).drop 12).take 2 = [w32 s1.now, w32 (s1.now / 2 ^ 32)] ∧ u.nv = s.nv))
end

