-- ==== Sys2Proof/Laws/Table.lean ====
section
/-! SUPPORT. Tables and memory: what is found after a write, and that every operation keeps the canonical form. -/
namespace Sys2Proof.Machine

variable {α : Type}

/-! ### Tables -/

/-- A table is in order when its first number is below all others and the rest is in order. -/
theorem tsorted_cons (j : Nat) (b : α) (t : Tbl α) :
    tsorted ((j, b) :: t) = true ↔ (∀ x ∈ t, j < x.1) ∧ tsorted t = true := by
  induction t generalizing j b with
  | nil => simp [tsorted]
  | cons y t ih =>
    obtain ⟨k, c⟩ := y
    have e : tsorted ((j, b) :: (k, c) :: t) = (decide (j < k) && tsorted ((k, c) :: t)) := rfl
    rw [e, Bool.and_eq_true, decide_eq_true_eq]
    constructor
    · rintro ⟨h1, h2⟩
      refine ⟨fun x hx => ?_, h2⟩
      rcases List.mem_cons.mp hx with rfl | hx
      · exact h1
      · exact Nat.lt_trans h1 (((ih k c).mp h2).1 x hx)
    · rintro ⟨h1, h2⟩
      exact ⟨h1 (k, c) (List.mem_cons_self ..), h2⟩

/-- What stands in a table after an entry is put in. -/
theorem mem_tset (t : Tbl α) (k : Nat) (a : α) : ∀ x ∈ tset t k a, x = (k, a) ∨ x ∈ t := by
  induction t with
  | nil => simp [tset]
  | cons y t ih =>
    intro x hx
    unfold tset at hx
    split at hx
    · rcases List.mem_cons.mp hx with h | h
      · exact .inl h
      · exact .inr (List.mem_cons_of_mem _ h)
    · split at hx
      · exact List.mem_cons.mp hx
      · rcases List.mem_cons.mp hx with h | h
        · exact .inr (h ▸ List.mem_cons_self ..)
        · exact (ih x h).imp id (List.mem_cons_of_mem _)

/-- What stands in a table after a number is struck stood in it before. -/
theorem mem_terase (t : Tbl α) (k : Nat) : ∀ x ∈ terase t k, x ∈ t := by
  induction t with
  | nil => simp [terase]
  | cons y t ih =>
    intro x hx
    unfold terase at hx
    split at hx
    · exact List.mem_cons_of_mem _ hx
    · split at hx
      · exact hx
      · rcases List.mem_cons.mp hx with h | h
        · exact h ▸ List.mem_cons_self ..
        · exact List.mem_cons_of_mem _ (ih x h)

/-- Putting an entry in keeps the order. -/
theorem tsorted_tset (t : Tbl α) (k : Nat) (a : α) (h : tsorted t = true) : tsorted (tset t k a) = true := by
  induction t with
  | nil => rfl
  | cons y t ih =>
    obtain ⟨j, b⟩ := y
    have hs := (tsorted_cons j b t).mp h
    unfold tset
    split
    · rename_i e
      exact (tsorted_cons k a t).mpr ⟨fun x hx => e ▸ hs.1 x hx, hs.2⟩
    · split
      · rename_i l
        refine (tsorted_cons k a _).mpr ⟨fun x hx => ?_, h⟩
        rcases List.mem_cons.mp hx with rfl | hx
        · exact l
        · exact Nat.lt_trans l (hs.1 x hx)
      · rename_i n l
        refine (tsorted_cons j b _).mpr ⟨fun x hx => ?_, ih hs.2⟩
        rcases mem_tset t k a x hx with rfl | hx
        · show j < k; omega
        · exact hs.1 x hx

/-- Striking a number keeps the order. -/
theorem tsorted_terase (t : Tbl α) (k : Nat) (h : tsorted t = true) : tsorted (terase t k) = true := by
  induction t with
  | nil => rfl
  | cons y t ih =>
    obtain ⟨j, b⟩ := y
    have hs := (tsorted_cons j b t).mp h
    unfold terase
    split
    · exact hs.2
    · split
      · exact h
      · exact (tsorted_cons j b _).mpr ⟨fun x hx => hs.1 x (mem_terase t k x hx), ih hs.2⟩

/-- A part of a table in order is in order. -/
theorem tsorted_filter (t : Tbl α) (p : Nat × α → Bool) (h : tsorted t = true) : tsorted (t.filter p) = true := by
  induction t with
  | nil => rfl
  | cons y t ih =>
    obtain ⟨j, b⟩ := y
    have hs := (tsorted_cons j b t).mp h
    by_cases q : p (j, b) = true
    · rw [List.filter_cons_of_pos q]
      exact (tsorted_cons j b _).mpr ⟨fun x hx => hs.1 x (List.mem_filter.mp hx).1, ih hs.2⟩
    · rw [List.filter_cons_of_neg q]
      exact ih hs.2

/-- A number below every other is not found. -/
theorem tfind_none (t : Tbl α) (k : Nat) (h : ∀ x ∈ t, k < x.1) : tfind t k = none := by
  cases t with
  | nil => rfl
  | cons y t =>
    have := h y (List.mem_cons_self ..)
    unfold tfind
    split
    · omega
    · rfl

/-- The entry put in is found, and every other is found as before. -/
theorem tfind_tset (t : Tbl α) (k n : Nat) (a : α) : tfind (tset t k a) n = if n = k then some a else tfind t n := by
  induction t with
  | nil =>
    simp only [tset, tfind]
    by_cases h : n = k
    · simp [h]
    · rw [if_neg (fun e => h e.symm), if_neg h]; split <;> rfl
  | cons y t ih =>
    obtain ⟨j, b⟩ := y
    simp only [tset]
    split
    · rename_i e
      subst e
      simp only [tfind]
      by_cases h : n = j
      · simp [h]
      · have hj : j ≠ n := fun e => h e.symm
        simp [hj, h]
    · split
      · rename_i l
        by_cases h : n = k
        · simp [tfind, h]
        · rw [if_neg h]
          conv => lhs; rw [tfind]
          rw [if_neg (fun e => h e.symm)]
          split
          · rename_i m
            have hj : j ≠ n := by omega
            have hl : n < j := by omega
            simp [tfind, hj, hl]
          · rfl
      · simp only [tfind]
        by_cases h : n = k
        · subst h
          rw [if_neg (by omega), if_neg (by omega), if_pos rfl, ih, if_pos rfl]
        · rw [if_neg h, ih, if_neg h]

/-- A number struck from a table in order is not found, and every other is found as before. -/
theorem tfind_terase (t : Tbl α) (k n : Nat) (h : tsorted t = true) :
    tfind (terase t k) n = if n = k then none else tfind t n := by
  induction t with
  | nil => simp [terase, tfind]
  | cons y t ih =>
    obtain ⟨j, b⟩ := y
    have hs := (tsorted_cons j b t).mp h
    simp only [terase]
    split
    · rename_i e
      subst e
      by_cases hn : n = j
      · subst hn; rw [if_pos rfl]; exact tfind_none t n hs.1
      · rw [if_neg hn]
        simp only [tfind]
        rw [if_neg (fun e => hn e.symm)]
        split
        · exact tfind_none t n (fun x hx => Nat.lt_trans (by assumption) (hs.1 x hx))
        · rfl
    · split
      · rename_i l
        by_cases hn : n = k
        · subst hn; rw [if_pos rfl]; simp only [tfind]; rw [if_neg (by omega), if_pos l]
        · rw [if_neg hn]
      · simp only [tfind]
        rw [ih hs.2]
        by_cases hn : n = k
        · subst hn; rw [if_pos rfl, if_pos rfl, if_neg (by omega), if_neg (by omega)]
        · rw [if_neg hn, if_neg hn]

/-! ### Memory -/

/-- Canonical memory from a lower bound is canonical from a smaller one. -/
theorem memWfFrom_le (lo hi : Nat) (m : List Host.Cell) (h : memWfFrom hi m = true) (hl : lo ≤ hi) : memWfFrom lo m = true := by
  cases m with
  | nil => rfl
  | cons y m =>
    simp only [memWfFrom, Bool.and_eq_true, decide_eq_true_eq] at h ⊢
    exact ⟨⟨Nat.le_trans hl h.1.1, h.1.2⟩, h.2⟩

/-- Writing a byte keeps memory canonical from a bound that the address respects. -/
theorem memWfFrom_memWrite (lo : Nat) (m : List Host.Cell) (k : Nat) (v : Byte) (h : memWfFrom lo m = true) (hk : lo ≤ k) :
    memWfFrom lo (memWrite m k v) = true := by
  induction m generalizing lo with
  | nil =>
    unfold memWrite
    split
    · rfl
    · simp only [memWfFrom, Bool.and_eq_true, decide_eq_true_eq]; exact ⟨⟨hk, by assumption⟩, trivial⟩
  | cons y m ih =>
    obtain ⟨a, b⟩ := y
    simp only [memWfFrom, Bool.and_eq_true, decide_eq_true_eq] at h
    unfold memWrite
    split
    · rename_i e
      subst e
      split
      · exact memWfFrom_le lo (a + 1) m h.2 (by omega)
      · simp only [memWfFrom, Bool.and_eq_true, decide_eq_true_eq]; exact ⟨⟨hk, by assumption⟩, h.2⟩
    · split
      · rename_i l
        split
        · simp only [memWfFrom, Bool.and_eq_true, decide_eq_true_eq]; exact h
        · simp only [memWfFrom, Bool.and_eq_true, decide_eq_true_eq]
          exact ⟨⟨hk, by assumption⟩, ⟨⟨l, h.1.2⟩, h.2⟩⟩
      · simp only [memWfFrom, Bool.and_eq_true, decide_eq_true_eq]
        exact ⟨h.1, ih (a + 1) h.2 (by omega)⟩

/-- Writing a byte keeps the canonical form. -/
theorem memWrite_wf (m : List Host.Cell) (k : Nat) (v : Byte) (h : Memory.wf m = true) : Memory.wf (memWrite m k v) = true :=
  memWfFrom_memWrite 0 m k v h (Nat.zero_le k)

/-- Writing bytes keeps the canonical form. -/
theorem memWriteBytes_wf (bs : List Byte) (m : List Host.Cell) (a : Nat) (h : Memory.wf m = true) :
    Memory.wf (memWriteBytes m a bs) = true := by
  induction bs generalizing m a with
  | nil => exact h
  | cons b bs ih => exact ih _ _ (memWrite_wf m a b h)

/-- Writing cells one after another keeps the canonical form. -/
theorem memWriteCells_wf (cells : List (Nat × Byte)) (m : List Host.Cell) (h : Memory.wf m = true) :
    Memory.wf (cells.foldl (fun m x => memWrite m x.1 x.2) m) = true := by
  induction cells generalizing m with
  | nil => exact h
  | cons c cs ih => exact ih _ (memWrite_wf m c.1 c.2 h)

/-- A part of canonical memory is canonical. -/
theorem memFilter_wf (lo : Nat) (m : List Host.Cell) (p : Host.Cell → Bool) (h : memWfFrom lo m = true) :
    memWfFrom lo (m.filter p) = true := by
  induction m generalizing lo with
  | nil => rfl
  | cons y m ih =>
    obtain ⟨a, b⟩ := y
    simp only [memWfFrom, Bool.and_eq_true, decide_eq_true_eq] at h
    by_cases q : p (a, b) = true
    · rw [List.filter_cons_of_pos q]
      simp only [memWfFrom, Bool.and_eq_true, decide_eq_true_eq]
      exact ⟨h.1, ih (a + 1) h.2⟩
    · rw [List.filter_cons_of_neg q]
      exact memWfFrom_le lo (a + 1) _ (ih (a + 1) h.2) (by omega)

/-- Clearing a stretch keeps the canonical form. -/
theorem memClear_wf (m : List Host.Cell) (a b : Nat) (h : Memory.wf m = true) : Memory.wf (memClear m a b) = true :=
  memFilter_wf 0 m _ h

/-- A byte below every listed one reads as zero. -/
theorem memRead_below (lo : Nat) (m : List Host.Cell) (n : Nat) (h : memWfFrom lo m = true) (hn : n < lo) : memRead m n = 0 := by
  cases m with
  | nil => rfl
  | cons y m =>
    obtain ⟨a, b⟩ := y
    simp only [memWfFrom, Bool.and_eq_true, decide_eq_true_eq] at h
    simp only [memRead]
    rw [if_neg (by omega), if_pos (by omega)]

/-- The byte written is read, and every other address reads as before. -/
theorem memRead_memWrite_from (lo : Nat) (m : List Host.Cell) (k n : Nat) (v : Byte) (h : memWfFrom lo m = true) :
    memRead (memWrite m k v) n = if n = k then v else memRead m n := by
  induction m generalizing lo with
  | nil =>
    simp only [memWrite]
    split
    · rename_i e; subst e; simp [memRead]
    · simp only [memRead]
      by_cases hn : n = k
      · simp [hn]
      · rw [if_neg (fun e => hn e.symm), if_neg hn]; split <;> rfl
  | cons y m ih =>
    obtain ⟨a, b⟩ := y
    have h' := h
    simp only [memWfFrom, Bool.and_eq_true, decide_eq_true_eq] at h
    simp only [memWrite]
    split
    · rename_i e
      subst e
      by_cases hn : n = a
      · subst hn
        rw [if_pos rfl]
        split
        · rename_i e; subst e; exact memRead_below (n + 1) m n h.2 (by omega)
        · simp [memRead]
      · rw [if_neg hn]
        split
        · simp only [memRead]
          rw [if_neg (fun e => hn e.symm)]
          split
          · exact memRead_below (a + 1) m n h.2 (by omega)
          · rfl
        · have ha : a ≠ n := fun e => hn e.symm
          simp [memRead, ha]
    · split
      · rename_i l
        by_cases hn : n = k
        · subst hn
          rw [if_pos rfl]
          split
          · rename_i e; subst e
            simp only [memRead]; rw [if_neg (by omega), if_pos (by omega)]
          · simp [memRead]
        · rw [if_neg hn]
          split
          · rfl
          · conv => lhs; rw [memRead]
            rw [if_neg (fun e => hn e.symm)]
            split
            · simp only [memRead]; rw [if_neg (by omega), if_pos (by omega)]
            · rfl
      · simp only [memRead]
        rw [ih (a + 1) h.2]
        by_cases hn : n = k
        · subst hn; rw [if_pos rfl, if_neg (by omega), if_neg (by omega), if_pos rfl]
        · rw [if_neg hn, if_neg hn]

/-- Read after write, in canonical memory. -/
theorem memRead_memWrite (m : List Host.Cell) (k n : Nat) (v : Byte) (h : Memory.wf m = true) :
    memRead (memWrite m k v) n = if n = k then v else memRead m n := memRead_memWrite_from 0 m k n v h

/-- An address outside the written cells reads as before. -/
theorem memRead_memWriteCells (cells : List (Nat × Byte)) (m : List Host.Cell) (n : Nat) (h : Memory.wf m = true)
    (hn : ∀ x ∈ cells, x.1 ≠ n) : memRead (cells.foldl (fun m x => memWrite m x.1 x.2) m) n = memRead m n := by
  induction cells generalizing m with
  | nil => rfl
  | cons c cs ih =>
    have hc : n ≠ c.1 := fun e => hn c (List.mem_cons_self ..) e.symm
    have := ih (memWrite m c.1 c.2) (memWrite_wf m c.1 c.2 h) (fun x hx => hn x (List.mem_cons_of_mem _ hx))
    rw [List.foldl_cons, this, memRead_memWrite m _ _ _ h, if_neg hc]

/-! ### The dictionary -/

/-- Setting a value keeps the dictionary canonical. -/
theorem dictWf_setVal (s : State) (k v : Nat) (h : Dict.wf s.dict) : Dict.wf (s.setVal k v).dict := by
  unfold State.setVal
  dsimp only
  split
  · exact ⟨tsorted_terase _ _ h.1, fun x hx => h.2 x (mem_terase _ _ x hx)⟩
  · rename_i hv
    refine ⟨tsorted_tset _ _ _ h.1, fun x hx => ?_⟩
    rcases mem_tset _ _ _ x hx with rfl | hx
    · exact hv
    · exact h.2 x hx

/-- A part of a canonical dictionary is canonical. -/
theorem dictWf_filter (d : Tbl Nat) (p : Nat × Nat → Bool) (h : Dict.wf d) : Dict.wf (d.filter p) :=
  ⟨tsorted_filter d p h.1, fun x hx => h.2 x (List.mem_filter.mp hx).1⟩

/-- The value set is read, and every other value as before. -/
theorem val_setVal (s : State) (k n v : Nat) (h : Dict.wf s.dict) :
    (s.setVal k v).val n = if n = k then v else s.val n := by
  unfold State.val State.setVal
  dsimp only
  by_cases hv : v = dfltOf k
  · rw [if_pos hv, tfind_terase _ _ _ h.1]
    by_cases hn : n = k
    · subst hn; rw [if_pos rfl, if_pos rfl]; exact hv.symm
    · rw [if_neg hn, if_neg hn]
  · rw [if_neg hv, tfind_tset]
    by_cases hn : n = k
    · subst hn; rw [if_pos rfl, if_pos rfl]
    · rw [if_neg hn, if_neg hn]

/-- The instance set is read, and every other key as before. -/
theorem par_setPar (s : State) (ix sub jx tub v : Nat) (h : Dict.wf s.dict) :
    (s.setPar ix sub v).par jx tub = if key jx tub = key ix sub then v else s.par jx tub := val_setVal s _ _ v h

/-- Setting a parameter keeps the dictionary canonical. -/
theorem dictWf_setPar (s : State) (ix sub v : Nat) (h : Dict.wf s.dict) : Dict.wf (s.setPar ix sub v).dict :=
  dictWf_setVal s _ v h

end Sys2Proof.Machine
end

