-- ==== Sys2Proof/Laws/Frame.lean ====
section
/-! SUPPORT. The frame of an operation: which parts of the state it may change. `Same m s t` says that `t` has the same
queue as `s`, that canonical memory and a canonical dictionary stay canonical, and that every part whose bit of `m` is
clear is the same in both. Bit i of a mask is the i-th field of State; bit 42 + r stands for the dictionary parameter with number
r. -/
namespace Sys2Proof.Machine

/-- A search tree over the dictionary's parameters: each leaf holds a parameter's first index, how many indices follow it with
the same layout, and its number. -/
inductive RegTree where
  | leaf (ix more no : Nat)
  | node (at_ : Nat) (lo hi : RegTree)

/-- The number of the parameter that an index belongs to; 0 where the tree has none. -/
def RegTree.find : RegTree → Nat → Nat
  | .leaf a more no, ix => bif Nat.ble a ix && Nat.ble ix (a + more) then no else 0
  | .node m lo hi, ix => bif Nat.ble m ix then hi.find ix else lo.find ix

/-- The leaves. -/
def RegTree.leaves : RegTree → List (Nat × Nat × Nat)
  | .leaf a more no => [(a, more, no)]
  | .node _ lo hi => lo.leaves ++ hi.leaves

/-- The parameters that operations write by name, numbered from 1. -/
def regTree : RegTree :=
  .node Ix.streamUnsettledDropped
  (.node Ix.ex1Polarity
   (.node Ix.timeRejectedWrites
    (.node Ix.clkPllLosses
     (.node Ix.clkPgoodLosses
      (.node Ix.pwrPierState
       (.node Ix.pwrState
        (.node Ix.netIp6Iid
         (.leaf Ix.idFwVersion 0 1)
         (.leaf Ix.netIp6Iid 0 2))
        (.node Ix.pwrWakeCause
         (.leaf Ix.pwrState 0 3)
         (.leaf Ix.pwrWakeCause 0 4)))
       (.node Ix.clkJasperPoint
        (.node Ix.pwrPierTarget
         (.leaf Ix.pwrPierState 0 5)
         (.leaf Ix.pwrPierTarget 0 6))
        (.node Ix.clkJasperNow
         (.leaf Ix.clkJasperPoint 0 7)
         (.node Ix.clkDvfsFails
          (.leaf Ix.clkJasperNow 0 8)
          (.leaf Ix.clkDvfsFails 0 9)))))
      (.node Ix.clkFailures
       (.node Ix.clkDomainGood
        (.node Ix.clkReady
         (.leaf Ix.clkPgoodLosses 0 10)
         (.leaf Ix.clkReady 0 11))
        (.node Ix.clkFallbackState
         (.leaf Ix.clkDomainGood 0 12)
         (.leaf Ix.clkFallbackState 0 13)))
       (.node Ix.clkFailureTime
        (.node Ix.clkLastFailure
         (.leaf Ix.clkFailures 0 14)
         (.leaf Ix.clkLastFailure 0 15))
        (.node Ix.clkPllState
         (.leaf Ix.clkFailureTime 0 16)
         (.node Ix.clkPllLockTime
          (.leaf Ix.clkPllState 0 17)
          (.leaf Ix.clkPllLockTime 0 18))))))
     (.node Ix.timeSteps
      (.node Ix.clkCrossingResets
       (.node Ix.clkLastRefused
        (.node Ix.clkRefused
         (.leaf Ix.clkPllLosses 0 19)
         (.leaf Ix.clkRefused 0 20))
        (.node Ix.clkGovRefused
         (.leaf Ix.clkLastRefused 0 21)
         (.leaf Ix.clkGovRefused 0 22)))
       (.node Ix.timeSyncState
        (.node Ix.clkXingDiscards
         (.leaf Ix.clkCrossingResets 0 23)
         (.leaf Ix.clkXingDiscards 0 24))
        (.node Ix.timeOffset
         (.leaf Ix.timeSyncState 0 25)
         (.node Ix.timeEpochNum
          (.leaf Ix.timeOffset 0 26)
          (.leaf Ix.timeEpochNum 0 27)))))
      (.node Ix.timeSlewTicks
       (.node Ix.timeDpLost
        (.node Ix.timeTdcDnlMax
         (.leaf Ix.timeSteps 0 28)
         (.leaf Ix.timeTdcDnlMax 0 29))
        (.node Ix.timeXbTrim
         (.leaf Ix.timeDpLost 0 30)
         (.node Ix.timeSroTrim
          (.leaf Ix.timeXbTrim 0 31)
          (.leaf Ix.timeSroTrim 0 32))))
       (.node Ix.timePpsInLast
        (.node Ix.timePpsInMode
         (.leaf Ix.timeSlewTicks 0 33)
         (.leaf Ix.timePpsInMode 0 34))
        (.node Ix.timeLoadState
         (.leaf Ix.timePpsInLast 0 35)
         (.node Ix.timeLoadCancelled
          (.leaf Ix.timeLoadState 0 36)
          (.leaf Ix.timeLoadCancelled 0 37)))))))
    (.node Ix.laneRotLastDiff
     (.node Ix.laneBufDrops
      (.node Ix.laneRoleGen
       (.node Ix.laneRole
        (.node Ix.timeLastRejected
         (.leaf Ix.timeRejectedWrites 0 38)
         (.leaf Ix.timeLastRejected 0 39))
        (.node Ix.laneEnable
         (.leaf Ix.laneRole 0 40)
         (.leaf Ix.laneEnable 0 41)))
       (.node Ix.laneRejectedWrites
        (.node Ix.laneState
         (.leaf Ix.laneRoleGen 0 42)
         (.leaf Ix.laneState 0 43))
        (.node Ix.laneLastRejected
         (.leaf Ix.laneRejectedWrites 0 44)
         (.node Ix.laneGlitches
          (.leaf Ix.laneLastRejected 0 45)
          (.leaf Ix.laneGlitches 0 46)))))
      (.node Ix.laneToneZ
       (.node Ix.laneFcZone
        (.node Ix.laneBufHwm
         (.leaf Ix.laneBufDrops 0 47)
         (.leaf Ix.laneBufHwm 0 48))
        (.node Ix.guardSafeEntries
         (.leaf Ix.laneFcZone 0 49)
         (.node Ix.guardReleaseRefused
          (.leaf Ix.guardSafeEntries 0 50)
          (.leaf Ix.guardReleaseRefused 0 51))))
       (.node Ix.laneSlice
        (.node Ix.laneWireOpenEvents
         (.leaf Ix.laneToneZ 0 52)
         (.leaf Ix.laneWireOpenEvents 0 53))
        (.node Ix.laneCalMismatch
         (.leaf Ix.laneSlice 0 54)
         (.node Ix.laneRotAborts
          (.leaf Ix.laneCalMismatch 0 55)
          (.leaf Ix.laneRotAborts 0 56))))))
     (.node Ix.pierLastRejected
      (.node Ix.pierClampActive
       (.node Ix.pierRouteRefused
        (.node Ix.laneSuppressed
         (.leaf Ix.laneRotLastDiff 0 57)
         (.leaf Ix.laneSuppressed 0 58))
        (.node Ix.pierRouteLast
         (.leaf Ix.pierRouteRefused 0 59)
         (.leaf Ix.pierRouteLast 0 60)))
       (.node Ix.pierClampLast
        (.node Ix.pierClampEvents
         (.leaf Ix.pierClampActive 0 61)
         (.leaf Ix.pierClampEvents 0 62))
        (.node Ix.exReleaseRefused
         (.leaf Ix.pierClampLast 0 63)
         (.node Ix.pierRejectedWrites
          (.leaf Ix.exReleaseRefused 0 64)
          (.leaf Ix.pierRejectedWrites 0 65)))))
      (.node Ix.exOpen
       (.node Ix.exLevel
        (.node Ix.exEnable
         (.leaf Ix.pierLastRejected 0 66)
         (.leaf Ix.exEnable 0 67))
        (.node Ix.exPolarity
         (.leaf Ix.exLevel 0 68)
         (.node Ix.exState
          (.leaf Ix.exPolarity 0 69)
          (.leaf Ix.exState 0 70))))
       (.node Ix.exOpenEvents
        (.node Ix.exCompliance
         (.leaf Ix.exOpen 0 71)
         (.leaf Ix.exCompliance 0 72))
        (.node Ix.ex1Enable
         (.leaf Ix.exOpenEvents 0 73)
         (.node Ix.ex1Level
          (.leaf Ix.ex1Enable 0 74)
          (.leaf Ix.ex1Level 0 75))))))))
   (.node Ix.actSlotsHwm
    (.node Ix.keyEnable
     (.node Ix.toneEnable
      (.node Ix.ex1OpenEvents
       (.node Ix.ex1Open
        (.node Ix.ex1State
         (.leaf Ix.ex1Polarity 0 76)
         (.leaf Ix.ex1State 0 77))
        (.node Ix.ex1Compliance
         (.leaf Ix.ex1Open 0 78)
         (.leaf Ix.ex1Compliance 0 79)))
       (.node Ix.biasOverload
        (.node Ix.biasEnable
         (.leaf Ix.ex1OpenEvents 0 80)
         (.leaf Ix.biasEnable 0 81))
        (.node Ix.caResets
         (.leaf Ix.biasOverload 0 82)
         (.node Ix.ca1Resets
          (.leaf Ix.caResets 0 83)
          (.leaf Ix.ca1Resets 0 84)))))
      (.node Ix.pierSliceFaulty
       (.node Ix.pierRotNextLane
        (.node Ix.toneSkipped
         (.leaf Ix.toneEnable 0 85)
         (.leaf Ix.toneSkipped 0 86))
        (.node Ix.pierSpare
         (.leaf Ix.pierRotNextLane 0 87)
         (.leaf Ix.pierSpare 0 88)))
       (.node Ix.pierRotPostponed
        (.node Ix.pierHandovers
         (.leaf Ix.pierSliceFaulty 0 89)
         (.leaf Ix.pierHandovers 0 90))
        (.node Ix.pierSliceOffset
         (.leaf Ix.pierRotPostponed 0 91)
         (.node Ix.pierSliceGain
          (.leaf Ix.pierSliceOffset 0 92)
          (.leaf Ix.pierSliceGain 0 93))))))
     (.node Ix.keyRelaySuppressed
      (.node Ix.keyTransitions
       (.node Ix.keyStage
        (.node Ix.keyArmed
         (.leaf Ix.keyEnable 0 94)
         (.leaf Ix.keyArmed 0 95))
        (.node Ix.keyMarkNum
         (.leaf Ix.keyStage 0 96)
         (.leaf Ix.keyMarkNum 0 97)))
       (.node Ix.keyRefuseLast
        (.node Ix.keyRefused
         (.leaf Ix.keyTransitions 0 98)
         (.leaf Ix.keyRefused 0 99))
        (.node Ix.keyArmIgnored
         (.leaf Ix.keyRefuseLast 0 100)
         (.node Ix.keyCascadeLimit
          (.leaf Ix.keyArmIgnored 0 101)
          (.leaf Ix.keyCascadeLimit 0 102)))))
      (.node Ix.keyCuEnable
       (.node Ix.keyLastRejected
        (.node Ix.keyRejectedWrites
         (.leaf Ix.keyRelaySuppressed 0 103)
         (.leaf Ix.keyRejectedWrites 0 104))
        (.node Ix.keyStageEntries
         (.leaf Ix.keyLastRejected 0 105)
         (.node Ix.keyBrFired
          (.leaf Ix.keyStageEntries 0 106)
          (.leaf Ix.keyBrFired 0 107))))
       (.node Ix.keyCuGenA
        (.node Ix.keyCuState
         (.leaf Ix.keyCuEnable 0 108)
         (.leaf Ix.keyCuState 0 109))
        (.node Ix.keyCuGenB
         (.leaf Ix.keyCuGenA 0 110)
         (.node Ix.keyCuOccurrences
          (.leaf Ix.keyCuGenB 0 111)
          (.leaf Ix.keyCuOccurrences 0 112)))))))
    (.node Ix.cwAdmitWaits
     (.node Ix.actIrqCount
      (.node Ix.actLate
       (.node Ix.actLastRefused
        (.node Ix.actRefused
         (.leaf Ix.actSlotsHwm 0 113)
         (.leaf Ix.actRefused 0 114))
        (.node Ix.actExecuted
         (.leaf Ix.actLastRefused 0 115)
         (.leaf Ix.actExecuted 0 116)))
       (.node Ix.actRejectedWrites
        (.node Ix.actPreempted
         (.leaf Ix.actLate 0 117)
         (.leaf Ix.actPreempted 0 118))
        (.node Ix.actLastRejected
         (.leaf Ix.actRejectedWrites 0 119)
         (.node Ix.actUserCount
          (.leaf Ix.actLastRejected 0 120)
          (.leaf Ix.actUserCount 0 121)))))
      (.node Ix.vdReleaseRefused
       (.node Ix.actMarkoutRefused
        (.node Ix.actMarkoutSent
         (.leaf Ix.actIrqCount 0 122)
         (.leaf Ix.actMarkoutSent 0 123))
        (.node Ix.vdInEnable
         (.leaf Ix.actMarkoutRefused 0 124)
         (.node Ix.vdSafeEntries
          (.leaf Ix.vdInEnable 0 125)
          (.leaf Ix.vdSafeEntries 0 126))))
       (.node Ix.vdLastRejected
        (.node Ix.vdRejectedWrites
         (.leaf Ix.vdReleaseRefused 0 127)
         (.leaf Ix.vdRejectedWrites 0 128))
        (.node Ix.cwOccupancyHwm
         (.leaf Ix.vdLastRejected 0 129)
         (.node Ix.cwReleaseLagMax
          (.leaf Ix.cwOccupancyHwm 0 130)
          (.leaf Ix.cwReleaseLagMax 0 131))))))
     (.node Ix.streamEnable
      (.node Ix.cwLoadDiscards
       (.node Ix.cwLostEvents
        (.node Ix.cwGapRecords
         (.leaf Ix.cwAdmitWaits 0 132)
         (.leaf Ix.cwGapRecords 0 133))
        (.node Ix.cwRwlDeferred
         (.leaf Ix.cwLostEvents 0 134)
         (.leaf Ix.cwRwlDeferred 0 135)))
       (.node Ix.cwRejectedWrites
        (.node Ix.cwLate
         (.leaf Ix.cwLoadDiscards 0 136)
         (.leaf Ix.cwLate 0 137))
        (.node Ix.cwLastRejected
         (.leaf Ix.cwRejectedWrites 0 138)
         (.node Ix.cwSourceGaps
          (.leaf Ix.cwLastRejected 0 139)
          (.leaf Ix.cwSourceGaps 0 140)))))
      (.node Ix.streamLastRejected
       (.node Ix.streamFlushes
        (.node Ix.streamState
         (.leaf Ix.streamEnable 0 141)
         (.leaf Ix.streamState 0 142))
        (.node Ix.streamFlushEmpty
         (.leaf Ix.streamFlushes 0 143)
         (.node Ix.streamRejectedWrites
          (.leaf Ix.streamFlushEmpty 0 144)
          (.leaf Ix.streamRejectedWrites 0 145))))
       (.node Ix.streamSeqNext
        (.node Ix.streamLastClose
         (.leaf Ix.streamLastRejected 0 146)
         (.leaf Ix.streamLastClose 0 147))
        (.node Ix.streamFrames
         (.leaf Ix.streamSeqNext 7 148)
         (.node Ix.streamRecords
          (.leaf Ix.streamFrames 7 149)
          (.leaf Ix.streamRecords 7 150)))))))))
  (.node Ix.hostFreezes
   (.node Ix.memState
    (.node Ix.caiDeclinedBusy
     (.node Ix.spanGapFrames
      (.node Ix.berylInWords
       (.node Ix.berylQueueRefused
        (.node Ix.berylQueueHwm
         (.leaf Ix.streamUnsettledDropped 7 151)
         (.leaf Ix.berylQueueHwm 0 152))
        (.node Ix.berylRawFrames
         (.leaf Ix.berylQueueRefused 0 153)
         (.leaf Ix.berylRawFrames 7 154)))
       (.node Ix.spanState
        (.node Ix.berylOutWords
         (.leaf Ix.berylInWords 7 155)
         (.leaf Ix.berylOutWords 7 156))
        (.node Ix.spanFill
         (.leaf Ix.spanState 0 157)
         (.node Ix.spanFillHwm
          (.leaf Ix.spanFill 0 158)
          (.leaf Ix.spanFillHwm 0 159)))))
      (.node Ix.spanRegionRefused
       (.node Ix.spanRefusedFrames
        (.node Ix.spanOverflows
         (.leaf Ix.spanGapFrames 0 160)
         (.leaf Ix.spanOverflows 0 161))
        (.node Ix.spanLostRecords
         (.leaf Ix.spanRefusedFrames 7 162)
         (.leaf Ix.spanLostRecords 7 163)))
       (.node Ix.caiEnable
        (.node Ix.spanRegionLast
         (.leaf Ix.spanRegionRefused 0 164)
         (.leaf Ix.spanRegionLast 0 165))
        (.node Ix.caiState
         (.leaf Ix.caiEnable 0 166)
         (.node Ix.caiBlocks
          (.leaf Ix.caiState 0 167)
          (.leaf Ix.caiBlocks 0 168))))))
     (.node Ix.fetchState
      (.node Ix.caiDeclinedInvalid
       (.node Ix.caiMissingWords
        (.node Ix.caiShortPre
         (.leaf Ix.caiDeclinedBusy 0 169)
         (.leaf Ix.caiShortPre 0 170))
        (.node Ix.caiDiscarded
         (.leaf Ix.caiMissingWords 0 171)
         (.leaf Ix.caiDiscarded 0 172)))
       (.node Ix.caiLastRejected
        (.node Ix.caiRejectedWrites
         (.leaf Ix.caiDeclinedInvalid 0 173)
         (.leaf Ix.caiRejectedWrites 0 174))
        (.node Ix.histOldestSeq
         (.leaf Ix.caiLastRejected 0 175)
         (.node Ix.histNewestSeq
          (.leaf Ix.histOldestSeq 7 176)
          (.leaf Ix.histNewestSeq 7 177)))))
      (.node Ix.fetchLastFault
       (.node Ix.fetchLastSeq
        (.node Ix.fetchFirstSeq
         (.leaf Ix.fetchState 0 178)
         (.leaf Ix.fetchFirstSeq 0 179))
        (.node Ix.fetchFaults
         (.leaf Ix.fetchLastSeq 0 180)
         (.node Ix.fetchSkipped
          (.leaf Ix.fetchFaults 0 181)
          (.leaf Ix.fetchSkipped 0 182))))
       (.node Ix.fetchRejectedWrites
        (.node Ix.fetchLastFaultSeq
         (.leaf Ix.fetchLastFault 0 183)
         (.leaf Ix.fetchLastFaultSeq 0 184))
        (.node Ix.fetchLastRejected
         (.leaf Ix.fetchRejectedWrites 0 185)
         (.node Ix.memSize
          (.leaf Ix.fetchLastRejected 0 186)
          (.leaf Ix.memSize 0 187)))))))
    (.node Ix.hostLinkWidth
     (.node Ix.memUeLastSeq
      (.node Ix.memCeDevice
       (.node Ix.memCeTotal
        (.node Ix.memDramHot
         (.leaf Ix.memState 0 188)
         (.leaf Ix.memDramHot 0 189))
        (.node Ix.memUeTotal
         (.leaf Ix.memCeTotal 0 190)
         (.leaf Ix.memUeTotal 0 191)))
       (.node Ix.memLastCeInfo
        (.node Ix.memLastCeAddr
         (.leaf Ix.memCeDevice 0 192)
         (.leaf Ix.memLastCeAddr 0 193))
        (.node Ix.memLastUeAddr
         (.leaf Ix.memLastCeInfo 0 194)
         (.node Ix.memLastUeInfo
          (.leaf Ix.memLastUeAddr 0 195)
          (.leaf Ix.memLastUeInfo 0 196)))))
      (.node Ix.memScrubPos
       (.node Ix.memSubstituteFrames
        (.node Ix.memDeviceSuspect
         (.leaf Ix.memUeLastSeq 0 197)
         (.leaf Ix.memDeviceSuspect 0 198))
        (.node Ix.memScrubPasses
         (.leaf Ix.memSubstituteFrames 0 199)
         (.node Ix.memScrubPassTime
          (.leaf Ix.memScrubPasses 0 200)
          (.leaf Ix.memScrubPassTime 0 201))))
       (.node Ix.sramUeTotal
        (.node Ix.sramCeTotal
         (.leaf Ix.memScrubPos 0 202)
         (.leaf Ix.sramCeTotal 0 203))
        (.node Ix.sramLastInfo
         (.leaf Ix.sramUeTotal 0 204)
         (.node Ix.hostLinkSpeed
          (.leaf Ix.sramLastInfo 0 205)
          (.leaf Ix.hostLinkSpeed 0 206))))))
     (.node Ix.winState
      (.node Ix.hostHotResets
       (.node Ix.hostLinkDowns
        (.node Ix.hostLinkState
         (.leaf Ix.hostLinkWidth 0 207)
         (.leaf Ix.hostLinkState 0 208))
        (.node Ix.hostPerstCount
         (.leaf Ix.hostLinkDowns 0 209)
         (.leaf Ix.hostPerstCount 0 210)))
       (.node Ix.hostRejectedWrites
        (.node Ix.hostBar0Ignored
         (.leaf Ix.hostHotResets 0 211)
         (.leaf Ix.hostBar0Ignored 0 212))
        (.node Ix.hostLastRejected
         (.leaf Ix.hostRejectedWrites 0 213)
         (.node Ix.winEnable
          (.leaf Ix.hostLastRejected 0 214)
          (.leaf Ix.winEnable 0 215)))))
      (.node Ix.winMissLast
       (.node Ix.winLastRefused
        (.node Ix.winRefused
         (.leaf Ix.winState 0 216)
         (.leaf Ix.winRefused 0 217))
        (.node Ix.winMissNp
         (.leaf Ix.winLastRefused 0 218)
         (.node Ix.winMissP
          (.leaf Ix.winMissNp 0 219)
          (.leaf Ix.winMissP 0 220))))
       (.node Ix.winBlockedLast
        (.node Ix.winWriteBlocked
         (.leaf Ix.winMissLast 0 221)
         (.leaf Ix.winWriteBlocked 0 222))
        (.node Ix.hostPortState
         (.leaf Ix.winBlockedLast 0 223)
         (.node Ix.hostFreezeTime
          (.leaf Ix.hostPortState 0 224)
          (.leaf Ix.hostFreezeTime 0 225))))))))
   (.node Ix.storeBootSource
    (.node Ix.netRingOpenings
     (.node Ix.irqMessages
      (.node Ix.hostCplTimeouts
       (.node Ix.hostFrozenCa
        (.node Ix.hostReleaseRefused
         (.leaf Ix.hostFreezes 0 226)
         (.leaf Ix.hostReleaseRefused 0 227))
        (.node Ix.hostTagWaits
         (.leaf Ix.hostFrozenCa 0 228)
         (.leaf Ix.hostTagWaits 0 229)))
       (.node Ix.hostLateCpl
        (.node Ix.hostPoisonedRx
         (.leaf Ix.hostCplTimeouts 0 230)
         (.leaf Ix.hostPoisonedRx 0 231))
        (.node Ix.hostUnexpectedCpl
         (.leaf Ix.hostLateCpl 0 232)
         (.node Ix.irqAck
          (.leaf Ix.hostUnexpectedCpl 0 233)
          (.leaf Ix.irqAck 0 234)))))
      (.node Ix.netRingState
       (.node Ix.netPortEnable
        (.node Ix.ringBytes
         (.leaf Ix.irqMessages 0 235)
         (.leaf Ix.ringBytes 8 236))
        (.node Ix.netLink
         (.leaf Ix.netPortEnable 0 237)
         (.leaf Ix.netLink 0 238)))
       (.node Ix.netOwner
        (.node Ix.netSessions
         (.leaf Ix.netRingState 0 239)
         (.leaf Ix.netSessions 0 240))
        (.node Ix.netOversize
         (.leaf Ix.netOwner 0 241)
         (.node Ix.netFcsErrors
          (.leaf Ix.netOversize 0 242)
          (.leaf Ix.netFcsErrors 0 243))))))
     (.node Ix.storeState
      (.node Ix.netPtpMalformed
       (.node Ix.netEventResends
        (.node Ix.netMarkDuplicates
         (.leaf Ix.netRingOpenings 0 244)
         (.leaf Ix.netMarkDuplicates 0 245))
        (.node Ix.netAbortsSent
         (.leaf Ix.netEventResends 0 246)
         (.leaf Ix.netAbortsSent 0 247)))
       (.node Ix.synceQlRx
        (.node Ix.ptpPortState
         (.leaf Ix.netPtpMalformed 0 248)
         (.leaf Ix.ptpPortState 0 249))
        (.node Ix.curveRejectedWrites
         (.leaf Ix.synceQlRx 0 250)
         (.node Ix.curveLastRejected
          (.leaf Ix.curveRejectedWrites 0 251)
          (.leaf Ix.curveLastRejected 0 252)))))
      (.node Ix.storeSlotsRetired
       (.node Ix.storeCopySeq
        (.node Ix.storeLastResult
         (.leaf Ix.storeState 0 253)
         (.leaf Ix.storeLastResult 0 254))
        (.node Ix.storeCopySlot
         (.leaf Ix.storeCopySeq 0 255)
         (.node Ix.storeRegionWrites
          (.leaf Ix.storeCopySlot 0 256)
          (.leaf Ix.storeRegionWrites 0 257))))
       (.node Ix.storeBootCount
        (.node Ix.storeAge
         (.leaf Ix.storeSlotsRetired 0 258)
         (.leaf Ix.storeAge 0 259))
        (.node Ix.storeRefreshes
         (.leaf Ix.storeBootCount 0 260)
         (.node Ix.storeLoadSkipped
          (.leaf Ix.storeRefreshes 0 261)
          (.leaf Ix.storeLoadSkipped 0 262)))))))
    (.node Ix.startStep
     (.node Ix.dictSatCount
      (.node Ix.fwFuseCount
       (.node Ix.fwVersion
        (.node Ix.fwActiveSlot
         (.leaf Ix.storeBootSource 0 263)
         (.leaf Ix.fwActiveSlot 0 264))
        (.node Ix.fwSecVersion
         (.leaf Ix.fwVersion 0 265)
         (.leaf Ix.fwSecVersion 0 266)))
       (.node Ix.fwReverts
        (.node Ix.fwState
         (.leaf Ix.fwFuseCount 0 267)
         (.leaf Ix.fwState 0 268))
        (.node Ix.dictSnapSeq
         (.leaf Ix.fwReverts 0 269)
         (.node Ix.dictSnapTime
          (.leaf Ix.dictSnapSeq 0 270)
          (.leaf Ix.dictSnapTime 0 271)))))
      (.node Ix.dictWideRefused
       (.node Ix.dictDangerWrites
        (.node Ix.dictSatLast
         (.leaf Ix.dictSatCount 0 272)
         (.leaf Ix.dictSatLast 0 273))
        (.node Ix.dictDangerLast
         (.leaf Ix.dictDangerWrites 0 274)
         (.node Ix.dictDangerTime
          (.leaf Ix.dictDangerLast 0 275)
          (.leaf Ix.dictDangerTime 0 276))))
       (.node Ix.dictBroadcastRefused
        (.node Ix.dictUnlatched
         (.leaf Ix.dictWideRefused 0 277)
         (.leaf Ix.dictUnlatched 0 278))
        (.node Ix.dictRejectedWrites
         (.leaf Ix.dictBroadcastRefused 0 279)
         (.node Ix.dictLastRejected
          (.leaf Ix.dictRejectedWrites 0 280)
          (.leaf Ix.dictLastRejected 0 281))))))
     (.node Ix.diagTjMax
      (.node Ix.startXaRetries
       (.node Ix.startResult
        (.node Ix.startStepEnd
         (.leaf Ix.startStep 0 282)
         (.leaf Ix.startStepEnd 8 283))
        (.node Ix.startStraps
         (.leaf Ix.startResult 0 284)
         (.leaf Ix.startStraps 0 285)))
       (.node Ix.startResetCause
        (.node Ix.startOtpFaults
         (.leaf Ix.startXaRetries 0 286)
         (.leaf Ix.startOtpFaults 0 287))
        (.node Ix.startMode
         (.leaf Ix.startResetCause 0 288)
         (.node Ix.diagTj
          (.leaf Ix.startMode 0 289)
          (.leaf Ix.diagTj 0 290)))))
      (.node Ix.diagRailEvents
       (.node Ix.diagTjHours
        (.node Ix.diagTjOver
         (.leaf Ix.diagTjMax 0 291)
         (.leaf Ix.diagTjOver 0 292))
        (.node Ix.diagLifeUsed
         (.leaf Ix.diagTjHours 0 293)
         (.node Ix.diagRailLow
          (.leaf Ix.diagLifeUsed 0 294)
          (.leaf Ix.diagRailLow 0 295))))
       (.node Ix.pflWritten
        (.node Ix.pflEntry
         (.leaf Ix.diagRailEvents 0 296)
         (.leaf Ix.pflEntry 63 297))
        (.node Ix.pflSuppressed
         (.leaf Ix.pflWritten 0 298)
         (.node Ix.pflKindCount
          (.leaf Ix.pflSuppressed 0 299)
          (.leaf Ix.pflKindCount 0 300)))))))))

/-- The number of an index's parameter; 0 for those that no operation writes by name. -/
def regNo (ix : Nat) : Nat := regTree.find ix

theorem RegTree.find_mem (t : RegTree) (ix : Nat) :
    t.find ix = 0 ∨ ∃ x ∈ t.leaves, x.1 ≤ ix ∧ ix ≤ x.1 + x.2.1 ∧ t.find ix = x.2.2 := by
  induction t with
  | leaf a more no =>
    simp only [RegTree.find, RegTree.leaves]
    cases h : (Nat.ble a ix && Nat.ble ix (a + more)) with
    | false => exact .inl rfl
    | true =>
      rw [Bool.and_eq_true, Nat.ble_eq, Nat.ble_eq] at h
      exact .inr ⟨_, List.mem_singleton_self _, h.1, h.2, rfl⟩
  | node m lo hi ihl ihh =>
    simp only [RegTree.find, RegTree.leaves]
    cases Nat.ble m ix with
    | true => exact ihh.imp id (fun ⟨x, hx, h⟩ => ⟨x, List.mem_append_right _ hx, h⟩)
    | false => exact ihl.imp id (fun ⟨x, hx, h⟩ => ⟨x, List.mem_append_left _ hx, h⟩)

set_option maxRecDepth 20000 in
theorem regTree_le : regTree.leaves.all (fun x => Nat.ble x.2.2 300) = true := by decide

theorem regNo_le (ix : Nat) : regNo ix ≤ 300 := by
  rcases RegTree.find_mem regTree ix with h | ⟨x, hx, _, _, h⟩
  · rw [regNo, h]; exact Nat.zero_le _
  · rw [regNo, h]
    exact Nat.le_of_ble_eq_true (List.all_eq_true.mp regTree_le x hx)

/-- The dictionary and every number in a mask. -/
abbrev allRegs : Nat := 0x7ffffffffffffffffffffffffffffffffffffffffffffffffffffffffffffffffffffffffffc0000000020

/-- A mask holds the dictionary and an index's parameter. -/
def inM (m ix : Nat) : Bool := m.testBit 5 && m.testBit (42 + regNo ix)
/-- Besides, what a counter's step into saturation writes (R357). -/
def cntIn (m ix : Nat) : Bool := inM m ix && inM m Ix.dictSatCount && inM m Ix.dictSatLast
def rejectIn (m c l : Nat) : Bool := cntIn m c && inM m l
def setAtIn (m ix : Nat) : Bool := inM m ix && Nat.beq (0x2000000 ||| m) m

theorem cntIn_of {m ix : Nat} (h : inM m ix = true) (hs : (inM m Ix.dictSatCount && inM m Ix.dictSatLast) = true) :
    cntIn m ix = true := by
  rw [Bool.and_eq_true] at hs
  simp [cntIn, h, hs.1, hs.2]

theorem setAtIn_of {m ix : Nat} (h : inM m ix = true) (hs : Nat.beq (0x2000000 ||| m) m = true) : setAtIn m ix = true := by
  rw [setAtIn, h, hs]; rfl

set_option maxRecDepth 20000 in
theorem allRegs_bit : ∀ r < 301, allRegs.testBit (42 + r) = true := by decide

theorem bit_of_sub {k m i : Nat} (h : Nat.beq (k ||| m) m = true) (hi : k.testBit i = true) : m.testBit i = true := by
  have e := Nat.eq_of_beq_eq_true h
  rw [← e, Nat.testBit_or, hi]; rfl

theorem inM_all {m : Nat} (ix : Nat) (h : Nat.beq (allRegs ||| m) m = true) : inM m ix = true := by
  rw [inM, bit_of_sub h (by decide), bit_of_sub h (allRegs_bit _ (Nat.lt_succ_of_le (regNo_le ix)))]; rfl

theorem inM_nth {m base count : Nat} (n : Nat)
    (h : (Nat.ble 1 count && (List.range count).all (fun i => inM m (base + i))) = true) : inM m (nth base count n) = true := by
  rw [Bool.and_eq_true] at h
  have hc := Nat.le_of_ble_eq_true h.1
  exact List.all_eq_true.mp h.2 (n % count) (List.mem_range.mpr (Nat.mod_lt _ hc))

theorem inM_exIx {m c : Nat} (k : Nat) (h : (inM m c && inM m (c + 16)) = true) : inM m (exIx c k) = true := by
  rw [Bool.and_eq_true] at h
  rcases Nat.mod_two_eq_zero_or_one k with e | e <;> simp only [exIx, e]
  · exact h.1
  · exact h.2

theorem inM_outPar {m a b : Nat} (k : SafeKind) (h : (inM m a && inM m b) = true) : inM m (outPar k a b) = true := by
  rw [Bool.and_eq_true] at h
  cases k
  · exact h.1
  · exact h.2
  · exact h.2

/-- `t` comes from `s` by changes of the parts in `m` alone. -/
structure Same (m : Nat) (s t : State) : Prop where
  pending : t.pending = s.pending
  memWf : Memory.wf s.mem = true → Memory.wf t.mem = true
  dictWf : Dict.wf s.dict → Dict.wf t.dict
  pars : Dict.wf s.dict → ∀ ix sub, m.testBit (42 + regNo ix) = false → t.par ix sub = s.par ix sub
  out : m.testBit 1 = false → t.out = s.out
  fresh : m.testBit 2 = false → t.fresh = s.fresh
  resetHeld : m.testBit 3 = false → t.resetHeld = s.resetHeld
  now : m.testBit 4 = false → t.now = s.now
  dict : m.testBit 5 = false → t.dict = s.dict
  time : m.testBit 6 = false → t.time = s.time
  edge : m.testBit 7 = false → t.edge = s.edge
  run : m.testBit 8 = false → t.run = s.run
  guard : m.testBit 9 = false → t.guard = s.guard
  line : m.testBit 10 = false → t.line = s.line
  clockCause : m.testBit 11 = false → t.clockCause = s.clockCause
  brownCause : m.testBit 12 = false → t.brownCause = s.brownCause
  ex : m.testBit 13 = false → t.ex = s.ex
  ca : m.testBit 14 = false → t.ca = s.ca
  tone : m.testBit 15 = false → t.tone = s.tone
  clamp : m.testBit 16 = false → t.clamp = s.clamp
  conv : m.testBit 17 = false → t.conv = s.conv
  slice : m.testBit 18 = false → t.slice = s.slice
  overlap : m.testBit 19 = false → t.overlap = s.overlap
  staged : m.testBit 20 = false → t.staged = s.staged
  slots : m.testBit 21 = false → t.slots = s.slots
  markOut : m.testBit 22 = false → t.markOut = s.markOut
  markOutNum : m.testBit 23 = false → t.markOutNum = s.markOutNum
  driven : m.testBit 24 = false → t.driven = s.driven
  cw : m.testBit 25 = false → t.cw = s.cw
  src : m.testBit 26 = false → t.src = s.src
  units : m.testBit 27 = false → t.units = s.units
  seqs : m.testBit 28 = false → t.seqs = s.seqs
  stream : m.testBit 29 = false → t.stream = s.stream
  cai : m.testBit 30 = false → t.cai = s.cai
  mem : m.testBit 31 = false → t.mem = s.mem
  dram : m.testBit 32 = false → t.dram = s.dram
  fetch : m.testBit 33 = false → t.fetch = s.fetch
  host : m.testBit 34 = false → t.host = s.host
  net : m.testBit 35 = false → t.net = s.net
  clk : m.testBit 36 = false → t.clk = s.clk
  nv : m.testBit 37 = false → t.nv = s.nv
  pflLast : m.testBit 38 = false → t.pflLast = s.pflLast
  ds : m.testBit 39 = false → t.ds = s.ds
  hostPath : m.testBit 40 = false → t.hostPath = s.hostPath
  mgmtPath : m.testBit 41 = false → t.mgmtPath = s.mgmtPath

/-- A bit that is clear in a mask is clear in a part of it. -/
theorem Same.clear {k m i : Nat} (h : k ||| m = m) (hi : m.testBit i = false) : k.testBit i = false := by
  have := congrArg (fun x => Nat.testBit x i) h
  simp only [Nat.testBit_or, hi, Bool.or_false] at this
  exact this

theorem Same.refl (m : Nat) (s : State) : Same m s s :=
  ⟨rfl, id, id, fun _ _ _ _ => rfl, fun _ => rfl, fun _ => rfl, fun _ => rfl, fun _ => rfl, fun _ => rfl, fun _ => rfl, fun _ => rfl, fun _ => rfl, fun _ => rfl, fun _ => rfl, fun _ => rfl, fun _ => rfl, fun _ => rfl, fun _ => rfl, fun _ => rfl, fun _ => rfl, fun _ => rfl, fun _ => rfl, fun _ => rfl, fun _ => rfl, fun _ => rfl, fun _ => rfl, fun _ => rfl, fun _ => rfl, fun _ => rfl, fun _ => rfl, fun _ => rfl, fun _ => rfl, fun _ => rfl, fun _ => rfl, fun _ => rfl, fun _ => rfl, fun _ => rfl, fun _ => rfl, fun _ => rfl, fun _ => rfl, fun _ => rfl, fun _ => rfl, fun _ => rfl, fun _ => rfl, fun _ => rfl⟩

/-- One operation after another. -/
theorem Same.then {m k : Nat} {s u t : State} (h : Same m s u) (g : Same k u t) (hk : k ||| m = m) : Same m s t where
  pending := g.pending.trans h.pending
  memWf := fun w => g.memWf (h.memWf w)
  dictWf := fun w => g.dictWf (h.dictWf w)
  pars := fun w ix sub b => (g.pars (h.dictWf w) ix sub (Same.clear hk b)).trans (h.pars w ix sub b)
  out := fun b => (g.out (Same.clear hk b)).trans (h.out b)
  fresh := fun b => (g.fresh (Same.clear hk b)).trans (h.fresh b)
  resetHeld := fun b => (g.resetHeld (Same.clear hk b)).trans (h.resetHeld b)
  now := fun b => (g.now (Same.clear hk b)).trans (h.now b)
  dict := fun b => (g.dict (Same.clear hk b)).trans (h.dict b)
  time := fun b => (g.time (Same.clear hk b)).trans (h.time b)
  edge := fun b => (g.edge (Same.clear hk b)).trans (h.edge b)
  run := fun b => (g.run (Same.clear hk b)).trans (h.run b)
  guard := fun b => (g.guard (Same.clear hk b)).trans (h.guard b)
  line := fun b => (g.line (Same.clear hk b)).trans (h.line b)
  clockCause := fun b => (g.clockCause (Same.clear hk b)).trans (h.clockCause b)
  brownCause := fun b => (g.brownCause (Same.clear hk b)).trans (h.brownCause b)
  ex := fun b => (g.ex (Same.clear hk b)).trans (h.ex b)
  ca := fun b => (g.ca (Same.clear hk b)).trans (h.ca b)
  tone := fun b => (g.tone (Same.clear hk b)).trans (h.tone b)
  clamp := fun b => (g.clamp (Same.clear hk b)).trans (h.clamp b)
  conv := fun b => (g.conv (Same.clear hk b)).trans (h.conv b)
  slice := fun b => (g.slice (Same.clear hk b)).trans (h.slice b)
  overlap := fun b => (g.overlap (Same.clear hk b)).trans (h.overlap b)
  staged := fun b => (g.staged (Same.clear hk b)).trans (h.staged b)
  slots := fun b => (g.slots (Same.clear hk b)).trans (h.slots b)
  markOut := fun b => (g.markOut (Same.clear hk b)).trans (h.markOut b)
  markOutNum := fun b => (g.markOutNum (Same.clear hk b)).trans (h.markOutNum b)
  driven := fun b => (g.driven (Same.clear hk b)).trans (h.driven b)
  cw := fun b => (g.cw (Same.clear hk b)).trans (h.cw b)
  src := fun b => (g.src (Same.clear hk b)).trans (h.src b)
  units := fun b => (g.units (Same.clear hk b)).trans (h.units b)
  seqs := fun b => (g.seqs (Same.clear hk b)).trans (h.seqs b)
  stream := fun b => (g.stream (Same.clear hk b)).trans (h.stream b)
  cai := fun b => (g.cai (Same.clear hk b)).trans (h.cai b)
  mem := fun b => (g.mem (Same.clear hk b)).trans (h.mem b)
  dram := fun b => (g.dram (Same.clear hk b)).trans (h.dram b)
  fetch := fun b => (g.fetch (Same.clear hk b)).trans (h.fetch b)
  host := fun b => (g.host (Same.clear hk b)).trans (h.host b)
  net := fun b => (g.net (Same.clear hk b)).trans (h.net b)
  clk := fun b => (g.clk (Same.clear hk b)).trans (h.clk b)
  nv := fun b => (g.nv (Same.clear hk b)).trans (h.nv b)
  pflLast := fun b => (g.pflLast (Same.clear hk b)).trans (h.pflLast b)
  ds := fun b => (g.ds (Same.clear hk b)).trans (h.ds b)
  hostPath := fun b => (g.hostPath (Same.clear hk b)).trans (h.hostPath b)
  mgmtPath := fun b => (g.mgmtPath (Same.clear hk b)).trans (h.mgmtPath b)

/-- One operation after another, both within the mask. -/
theorem Same.next {m : Nat} {s u t : State} (h : Same m s u) (g : Same m u t) : Same m s t := h.then g (Nat.or_self m)

/-- A larger mask says less. -/
theorem Same.mono {k m : Nat} {s t : State} (h : Same k s t) (hk : k ||| m = m) : Same m s t :=
  (Same.refl m s).then h hk

/-- An operation repeated over a list. -/
theorem Same.foldl {α : Type} {m : Nat} {f : State → α → State} (l : List α) {s u : State} (h : Same m s u)
    (hf : ∀ v a, Same m v (f v a)) : Same m s (l.foldl f u) := by
  induction l generalizing u with
  | nil => exact h
  | cons a l ih => exact ih (h.then (hf u a) (Nat.or_self m))

/-- Either of two states. -/
theorem Same.ite {m : Nat} {s a b : State} {c : Prop} [Decidable c] (ha : Same m s a) (hb : Same m s b) :
    Same m s (if c then a else b) := by
  split <;> assumption

/-- `foldl` where a state is carried beside something else. -/
theorem Same.foldlP {α β : Type} {m : Nat} {f : State × β → α → State × β} (l : List α) {s : State} {u : State × β}
    (h : Same m s u.1) (hf : ∀ v a, Same m v.1 (f v a).1) : Same m s (l.foldl f u).1 := by
  induction l generalizing u with
  | nil => exact h
  | cons a l ih => exact ih (h.then (hf u a) (Nat.or_self m))

/-- `ite` where a state is carried beside something else. -/
theorem Same.iteP {β : Type} {m : Nat} {s : State} {a b : State × β} {c : Prop} [Decidable c] (ha : Same m s a.1)
    (hb : Same m s b.1) : Same m s (if c then a else b).1 := by
  split <;> assumption

theorem Same.set_out {m : Nat} {s u : State} (x) (h : Same m s u) (hk : 0x2 ||| m = m) :
    Same m s { u with out := x } :=
  h.then (k := 0x2) ⟨rfl, id, id, fun _ _ _ _ => rfl, fun b => absurd b (by decide), fun _ => rfl, fun _ => rfl, fun _ => rfl, fun _ => rfl, fun _ => rfl, fun _ => rfl, fun _ => rfl, fun _ => rfl, fun _ => rfl, fun _ => rfl, fun _ => rfl, fun _ => rfl, fun _ => rfl, fun _ => rfl, fun _ => rfl, fun _ => rfl, fun _ => rfl, fun _ => rfl, fun _ => rfl, fun _ => rfl, fun _ => rfl, fun _ => rfl, fun _ => rfl, fun _ => rfl, fun _ => rfl, fun _ => rfl, fun _ => rfl, fun _ => rfl, fun _ => rfl, fun _ => rfl, fun _ => rfl, fun _ => rfl, fun _ => rfl, fun _ => rfl, fun _ => rfl, fun _ => rfl, fun _ => rfl, fun _ => rfl, fun _ => rfl, fun _ => rfl⟩ hk

theorem Same.set_fresh {m : Nat} {s u : State} (x) (h : Same m s u) (hk : 0x4 ||| m = m) :
    Same m s { u with fresh := x } :=
  h.then (k := 0x4) ⟨rfl, id, id, fun _ _ _ _ => rfl, fun _ => rfl, fun b => absurd b (by decide), fun _ => rfl, fun _ => rfl, fun _ => rfl, fun _ => rfl, fun _ => rfl, fun _ => rfl, fun _ => rfl, fun _ => rfl, fun _ => rfl, fun _ => rfl, fun _ => rfl, fun _ => rfl, fun _ => rfl, fun _ => rfl, fun _ => rfl, fun _ => rfl, fun _ => rfl, fun _ => rfl, fun _ => rfl, fun _ => rfl, fun _ => rfl, fun _ => rfl, fun _ => rfl, fun _ => rfl, fun _ => rfl, fun _ => rfl, fun _ => rfl, fun _ => rfl, fun _ => rfl, fun _ => rfl, fun _ => rfl, fun _ => rfl, fun _ => rfl, fun _ => rfl, fun _ => rfl, fun _ => rfl, fun _ => rfl, fun _ => rfl, fun _ => rfl⟩ hk

theorem Same.set_resetHeld {m : Nat} {s u : State} (x) (h : Same m s u) (hk : 0x8 ||| m = m) :
    Same m s { u with resetHeld := x } :=
  h.then (k := 0x8) ⟨rfl, id, id, fun _ _ _ _ => rfl, fun _ => rfl, fun _ => rfl, fun b => absurd b (by decide), fun _ => rfl, fun _ => rfl, fun _ => rfl, fun _ => rfl, fun _ => rfl, fun _ => rfl, fun _ => rfl, fun _ => rfl, fun _ => rfl, fun _ => rfl, fun _ => rfl, fun _ => rfl, fun _ => rfl, fun _ => rfl, fun _ => rfl, fun _ => rfl, fun _ => rfl, fun _ => rfl, fun _ => rfl, fun _ => rfl, fun _ => rfl, fun _ => rfl, fun _ => rfl, fun _ => rfl, fun _ => rfl, fun _ => rfl, fun _ => rfl, fun _ => rfl, fun _ => rfl, fun _ => rfl, fun _ => rfl, fun _ => rfl, fun _ => rfl, fun _ => rfl, fun _ => rfl, fun _ => rfl, fun _ => rfl, fun _ => rfl⟩ hk

theorem Same.set_now {m : Nat} {s u : State} (x) (h : Same m s u) (hk : 0x10 ||| m = m) :
    Same m s { u with now := x } :=
  h.then (k := 0x10) ⟨rfl, id, id, fun _ _ _ _ => rfl, fun _ => rfl, fun _ => rfl, fun _ => rfl, fun b => absurd b (by decide), fun _ => rfl, fun _ => rfl, fun _ => rfl, fun _ => rfl, fun _ => rfl, fun _ => rfl, fun _ => rfl, fun _ => rfl, fun _ => rfl, fun _ => rfl, fun _ => rfl, fun _ => rfl, fun _ => rfl, fun _ => rfl, fun _ => rfl, fun _ => rfl, fun _ => rfl, fun _ => rfl, fun _ => rfl, fun _ => rfl, fun _ => rfl, fun _ => rfl, fun _ => rfl, fun _ => rfl, fun _ => rfl, fun _ => rfl, fun _ => rfl, fun _ => rfl, fun _ => rfl, fun _ => rfl, fun _ => rfl, fun _ => rfl, fun _ => rfl, fun _ => rfl, fun _ => rfl, fun _ => rfl, fun _ => rfl⟩ hk

theorem Same.set_time {m : Nat} {s u : State} (x) (h : Same m s u) (hk : 0x40 ||| m = m) :
    Same m s { u with time := x } :=
  h.then (k := 0x40) ⟨rfl, id, id, fun _ _ _ _ => rfl, fun _ => rfl, fun _ => rfl, fun _ => rfl, fun _ => rfl, fun _ => rfl, fun b => absurd b (by decide), fun _ => rfl, fun _ => rfl, fun _ => rfl, fun _ => rfl, fun _ => rfl, fun _ => rfl, fun _ => rfl, fun _ => rfl, fun _ => rfl, fun _ => rfl, fun _ => rfl, fun _ => rfl, fun _ => rfl, fun _ => rfl, fun _ => rfl, fun _ => rfl, fun _ => rfl, fun _ => rfl, fun _ => rfl, fun _ => rfl, fun _ => rfl, fun _ => rfl, fun _ => rfl, fun _ => rfl, fun _ => rfl, fun _ => rfl, fun _ => rfl, fun _ => rfl, fun _ => rfl, fun _ => rfl, fun _ => rfl, fun _ => rfl, fun _ => rfl, fun _ => rfl, fun _ => rfl⟩ hk

theorem Same.set_edge {m : Nat} {s u : State} (x) (h : Same m s u) (hk : 0x80 ||| m = m) :
    Same m s { u with edge := x } :=
  h.then (k := 0x80) ⟨rfl, id, id, fun _ _ _ _ => rfl, fun _ => rfl, fun _ => rfl, fun _ => rfl, fun _ => rfl, fun _ => rfl, fun _ => rfl, fun b => absurd b (by decide), fun _ => rfl, fun _ => rfl, fun _ => rfl, fun _ => rfl, fun _ => rfl, fun _ => rfl, fun _ => rfl, fun _ => rfl, fun _ => rfl, fun _ => rfl, fun _ => rfl, fun _ => rfl, fun _ => rfl, fun _ => rfl, fun _ => rfl, fun _ => rfl, fun _ => rfl, fun _ => rfl, fun _ => rfl, fun _ => rfl, fun _ => rfl, fun _ => rfl, fun _ => rfl, fun _ => rfl, fun _ => rfl, fun _ => rfl, fun _ => rfl, fun _ => rfl, fun _ => rfl, fun _ => rfl, fun _ => rfl, fun _ => rfl, fun _ => rfl, fun _ => rfl⟩ hk

theorem Same.set_run {m : Nat} {s u : State} (x) (h : Same m s u) (hk : 0x100 ||| m = m) :
    Same m s { u with run := x } :=
  h.then (k := 0x100) ⟨rfl, id, id, fun _ _ _ _ => rfl, fun _ => rfl, fun _ => rfl, fun _ => rfl, fun _ => rfl, fun _ => rfl, fun _ => rfl, fun _ => rfl, fun b => absurd b (by decide), fun _ => rfl, fun _ => rfl, fun _ => rfl, fun _ => rfl, fun _ => rfl, fun _ => rfl, fun _ => rfl, fun _ => rfl, fun _ => rfl, fun _ => rfl, fun _ => rfl, fun _ => rfl, fun _ => rfl, fun _ => rfl, fun _ => rfl, fun _ => rfl, fun _ => rfl, fun _ => rfl, fun _ => rfl, fun _ => rfl, fun _ => rfl, fun _ => rfl, fun _ => rfl, fun _ => rfl, fun _ => rfl, fun _ => rfl, fun _ => rfl, fun _ => rfl, fun _ => rfl, fun _ => rfl, fun _ => rfl, fun _ => rfl, fun _ => rfl⟩ hk

theorem Same.set_guard {m : Nat} {s u : State} (x) (h : Same m s u) (hk : 0x200 ||| m = m) :
    Same m s { u with guard := x } :=
  h.then (k := 0x200) ⟨rfl, id, id, fun _ _ _ _ => rfl, fun _ => rfl, fun _ => rfl, fun _ => rfl, fun _ => rfl, fun _ => rfl, fun _ => rfl, fun _ => rfl, fun _ => rfl, fun b => absurd b (by decide), fun _ => rfl, fun _ => rfl, fun _ => rfl, fun _ => rfl, fun _ => rfl, fun _ => rfl, fun _ => rfl, fun _ => rfl, fun _ => rfl, fun _ => rfl, fun _ => rfl, fun _ => rfl, fun _ => rfl, fun _ => rfl, fun _ => rfl, fun _ => rfl, fun _ => rfl, fun _ => rfl, fun _ => rfl, fun _ => rfl, fun _ => rfl, fun _ => rfl, fun _ => rfl, fun _ => rfl, fun _ => rfl, fun _ => rfl, fun _ => rfl, fun _ => rfl, fun _ => rfl, fun _ => rfl, fun _ => rfl, fun _ => rfl⟩ hk

theorem Same.set_line {m : Nat} {s u : State} (x) (h : Same m s u) (hk : 0x400 ||| m = m) :
    Same m s { u with line := x } :=
  h.then (k := 0x400) ⟨rfl, id, id, fun _ _ _ _ => rfl, fun _ => rfl, fun _ => rfl, fun _ => rfl, fun _ => rfl, fun _ => rfl, fun _ => rfl, fun _ => rfl, fun _ => rfl, fun _ => rfl, fun b => absurd b (by decide), fun _ => rfl, fun _ => rfl, fun _ => rfl, fun _ => rfl, fun _ => rfl, fun _ => rfl, fun _ => rfl, fun _ => rfl, fun _ => rfl, fun _ => rfl, fun _ => rfl, fun _ => rfl, fun _ => rfl, fun _ => rfl, fun _ => rfl, fun _ => rfl, fun _ => rfl, fun _ => rfl, fun _ => rfl, fun _ => rfl, fun _ => rfl, fun _ => rfl, fun _ => rfl, fun _ => rfl, fun _ => rfl, fun _ => rfl, fun _ => rfl, fun _ => rfl, fun _ => rfl, fun _ => rfl, fun _ => rfl⟩ hk

theorem Same.set_clockCause {m : Nat} {s u : State} (x) (h : Same m s u) (hk : 0x800 ||| m = m) :
    Same m s { u with clockCause := x } :=
  h.then (k := 0x800) ⟨rfl, id, id, fun _ _ _ _ => rfl, fun _ => rfl, fun _ => rfl, fun _ => rfl, fun _ => rfl, fun _ => rfl, fun _ => rfl, fun _ => rfl, fun _ => rfl, fun _ => rfl, fun _ => rfl, fun b => absurd b (by decide), fun _ => rfl, fun _ => rfl, fun _ => rfl, fun _ => rfl, fun _ => rfl, fun _ => rfl, fun _ => rfl, fun _ => rfl, fun _ => rfl, fun _ => rfl, fun _ => rfl, fun _ => rfl, fun _ => rfl, fun _ => rfl, fun _ => rfl, fun _ => rfl, fun _ => rfl, fun _ => rfl, fun _ => rfl, fun _ => rfl, fun _ => rfl, fun _ => rfl, fun _ => rfl, fun _ => rfl, fun _ => rfl, fun _ => rfl, fun _ => rfl, fun _ => rfl, fun _ => rfl, fun _ => rfl⟩ hk

theorem Same.set_brownCause {m : Nat} {s u : State} (x) (h : Same m s u) (hk : 0x1000 ||| m = m) :
    Same m s { u with brownCause := x } :=
  h.then (k := 0x1000) ⟨rfl, id, id, fun _ _ _ _ => rfl, fun _ => rfl, fun _ => rfl, fun _ => rfl, fun _ => rfl, fun _ => rfl, fun _ => rfl, fun _ => rfl, fun _ => rfl, fun _ => rfl, fun _ => rfl, fun _ => rfl, fun b => absurd b (by decide), fun _ => rfl, fun _ => rfl, fun _ => rfl, fun _ => rfl, fun _ => rfl, fun _ => rfl, fun _ => rfl, fun _ => rfl, fun _ => rfl, fun _ => rfl, fun _ => rfl, fun _ => rfl, fun _ => rfl, fun _ => rfl, fun _ => rfl, fun _ => rfl, fun _ => rfl, fun _ => rfl, fun _ => rfl, fun _ => rfl, fun _ => rfl, fun _ => rfl, fun _ => rfl, fun _ => rfl, fun _ => rfl, fun _ => rfl, fun _ => rfl, fun _ => rfl, fun _ => rfl⟩ hk

theorem Same.set_ex {m : Nat} {s u : State} (x) (h : Same m s u) (hk : 0x2000 ||| m = m) :
    Same m s { u with ex := x } :=
  h.then (k := 0x2000) ⟨rfl, id, id, fun _ _ _ _ => rfl, fun _ => rfl, fun _ => rfl, fun _ => rfl, fun _ => rfl, fun _ => rfl, fun _ => rfl, fun _ => rfl, fun _ => rfl, fun _ => rfl, fun _ => rfl, fun _ => rfl, fun _ => rfl, fun b => absurd b (by decide), fun _ => rfl, fun _ => rfl, fun _ => rfl, fun _ => rfl, fun _ => rfl, fun _ => rfl, fun _ => rfl, fun _ => rfl, fun _ => rfl, fun _ => rfl, fun _ => rfl, fun _ => rfl, fun _ => rfl, fun _ => rfl, fun _ => rfl, fun _ => rfl, fun _ => rfl, fun _ => rfl, fun _ => rfl, fun _ => rfl, fun _ => rfl, fun _ => rfl, fun _ => rfl, fun _ => rfl, fun _ => rfl, fun _ => rfl, fun _ => rfl, fun _ => rfl⟩ hk

theorem Same.set_ca {m : Nat} {s u : State} (x) (h : Same m s u) (hk : 0x4000 ||| m = m) :
    Same m s { u with ca := x } :=
  h.then (k := 0x4000) ⟨rfl, id, id, fun _ _ _ _ => rfl, fun _ => rfl, fun _ => rfl, fun _ => rfl, fun _ => rfl, fun _ => rfl, fun _ => rfl, fun _ => rfl, fun _ => rfl, fun _ => rfl, fun _ => rfl, fun _ => rfl, fun _ => rfl, fun _ => rfl, fun b => absurd b (by decide), fun _ => rfl, fun _ => rfl, fun _ => rfl, fun _ => rfl, fun _ => rfl, fun _ => rfl, fun _ => rfl, fun _ => rfl, fun _ => rfl, fun _ => rfl, fun _ => rfl, fun _ => rfl, fun _ => rfl, fun _ => rfl, fun _ => rfl, fun _ => rfl, fun _ => rfl, fun _ => rfl, fun _ => rfl, fun _ => rfl, fun _ => rfl, fun _ => rfl, fun _ => rfl, fun _ => rfl, fun _ => rfl, fun _ => rfl, fun _ => rfl⟩ hk

theorem Same.set_tone {m : Nat} {s u : State} (x) (h : Same m s u) (hk : 0x8000 ||| m = m) :
    Same m s { u with tone := x } :=
  h.then (k := 0x8000) ⟨rfl, id, id, fun _ _ _ _ => rfl, fun _ => rfl, fun _ => rfl, fun _ => rfl, fun _ => rfl, fun _ => rfl, fun _ => rfl, fun _ => rfl, fun _ => rfl, fun _ => rfl, fun _ => rfl, fun _ => rfl, fun _ => rfl, fun _ => rfl, fun _ => rfl, fun b => absurd b (by decide), fun _ => rfl, fun _ => rfl, fun _ => rfl, fun _ => rfl, fun _ => rfl, fun _ => rfl, fun _ => rfl, fun _ => rfl, fun _ => rfl, fun _ => rfl, fun _ => rfl, fun _ => rfl, fun _ => rfl, fun _ => rfl, fun _ => rfl, fun _ => rfl, fun _ => rfl, fun _ => rfl, fun _ => rfl, fun _ => rfl, fun _ => rfl, fun _ => rfl, fun _ => rfl, fun _ => rfl, fun _ => rfl, fun _ => rfl⟩ hk

theorem Same.set_clamp {m : Nat} {s u : State} (x) (h : Same m s u) (hk : 0x10000 ||| m = m) :
    Same m s { u with clamp := x } :=
  h.then (k := 0x10000) ⟨rfl, id, id, fun _ _ _ _ => rfl, fun _ => rfl, fun _ => rfl, fun _ => rfl, fun _ => rfl, fun _ => rfl, fun _ => rfl, fun _ => rfl, fun _ => rfl, fun _ => rfl, fun _ => rfl, fun _ => rfl, fun _ => rfl, fun _ => rfl, fun _ => rfl, fun _ => rfl, fun b => absurd b (by decide), fun _ => rfl, fun _ => rfl, fun _ => rfl, fun _ => rfl, fun _ => rfl, fun _ => rfl, fun _ => rfl, fun _ => rfl, fun _ => rfl, fun _ => rfl, fun _ => rfl, fun _ => rfl, fun _ => rfl, fun _ => rfl, fun _ => rfl, fun _ => rfl, fun _ => rfl, fun _ => rfl, fun _ => rfl, fun _ => rfl, fun _ => rfl, fun _ => rfl, fun _ => rfl, fun _ => rfl, fun _ => rfl⟩ hk

theorem Same.set_conv {m : Nat} {s u : State} (x) (h : Same m s u) (hk : 0x20000 ||| m = m) :
    Same m s { u with conv := x } :=
  h.then (k := 0x20000) ⟨rfl, id, id, fun _ _ _ _ => rfl, fun _ => rfl, fun _ => rfl, fun _ => rfl, fun _ => rfl, fun _ => rfl, fun _ => rfl, fun _ => rfl, fun _ => rfl, fun _ => rfl, fun _ => rfl, fun _ => rfl, fun _ => rfl, fun _ => rfl, fun _ => rfl, fun _ => rfl, fun _ => rfl, fun b => absurd b (by decide), fun _ => rfl, fun _ => rfl, fun _ => rfl, fun _ => rfl, fun _ => rfl, fun _ => rfl, fun _ => rfl, fun _ => rfl, fun _ => rfl, fun _ => rfl, fun _ => rfl, fun _ => rfl, fun _ => rfl, fun _ => rfl, fun _ => rfl, fun _ => rfl, fun _ => rfl, fun _ => rfl, fun _ => rfl, fun _ => rfl, fun _ => rfl, fun _ => rfl, fun _ => rfl, fun _ => rfl⟩ hk

theorem Same.set_slice {m : Nat} {s u : State} (x) (h : Same m s u) (hk : 0x40000 ||| m = m) :
    Same m s { u with slice := x } :=
  h.then (k := 0x40000) ⟨rfl, id, id, fun _ _ _ _ => rfl, fun _ => rfl, fun _ => rfl, fun _ => rfl, fun _ => rfl, fun _ => rfl, fun _ => rfl, fun _ => rfl, fun _ => rfl, fun _ => rfl, fun _ => rfl, fun _ => rfl, fun _ => rfl, fun _ => rfl, fun _ => rfl, fun _ => rfl, fun _ => rfl, fun _ => rfl, fun b => absurd b (by decide), fun _ => rfl, fun _ => rfl, fun _ => rfl, fun _ => rfl, fun _ => rfl, fun _ => rfl, fun _ => rfl, fun _ => rfl, fun _ => rfl, fun _ => rfl, fun _ => rfl, fun _ => rfl, fun _ => rfl, fun _ => rfl, fun _ => rfl, fun _ => rfl, fun _ => rfl, fun _ => rfl, fun _ => rfl, fun _ => rfl, fun _ => rfl, fun _ => rfl, fun _ => rfl⟩ hk

theorem Same.set_overlap {m : Nat} {s u : State} (x) (h : Same m s u) (hk : 0x80000 ||| m = m) :
    Same m s { u with overlap := x } :=
  h.then (k := 0x80000) ⟨rfl, id, id, fun _ _ _ _ => rfl, fun _ => rfl, fun _ => rfl, fun _ => rfl, fun _ => rfl, fun _ => rfl, fun _ => rfl, fun _ => rfl, fun _ => rfl, fun _ => rfl, fun _ => rfl, fun _ => rfl, fun _ => rfl, fun _ => rfl, fun _ => rfl, fun _ => rfl, fun _ => rfl, fun _ => rfl, fun _ => rfl, fun b => absurd b (by decide), fun _ => rfl, fun _ => rfl, fun _ => rfl, fun _ => rfl, fun _ => rfl, fun _ => rfl, fun _ => rfl, fun _ => rfl, fun _ => rfl, fun _ => rfl, fun _ => rfl, fun _ => rfl, fun _ => rfl, fun _ => rfl, fun _ => rfl, fun _ => rfl, fun _ => rfl, fun _ => rfl, fun _ => rfl, fun _ => rfl, fun _ => rfl, fun _ => rfl⟩ hk

theorem Same.set_staged {m : Nat} {s u : State} (x) (h : Same m s u) (hk : 0x100000 ||| m = m) :
    Same m s { u with staged := x } :=
  h.then (k := 0x100000) ⟨rfl, id, id, fun _ _ _ _ => rfl, fun _ => rfl, fun _ => rfl, fun _ => rfl, fun _ => rfl, fun _ => rfl, fun _ => rfl, fun _ => rfl, fun _ => rfl, fun _ => rfl, fun _ => rfl, fun _ => rfl, fun _ => rfl, fun _ => rfl, fun _ => rfl, fun _ => rfl, fun _ => rfl, fun _ => rfl, fun _ => rfl, fun _ => rfl, fun b => absurd b (by decide), fun _ => rfl, fun _ => rfl, fun _ => rfl, fun _ => rfl, fun _ => rfl, fun _ => rfl, fun _ => rfl, fun _ => rfl, fun _ => rfl, fun _ => rfl, fun _ => rfl, fun _ => rfl, fun _ => rfl, fun _ => rfl, fun _ => rfl, fun _ => rfl, fun _ => rfl, fun _ => rfl, fun _ => rfl, fun _ => rfl, fun _ => rfl⟩ hk

theorem Same.set_slots {m : Nat} {s u : State} (x) (h : Same m s u) (hk : 0x200000 ||| m = m) :
    Same m s { u with slots := x } :=
  h.then (k := 0x200000) ⟨rfl, id, id, fun _ _ _ _ => rfl, fun _ => rfl, fun _ => rfl, fun _ => rfl, fun _ => rfl, fun _ => rfl, fun _ => rfl, fun _ => rfl, fun _ => rfl, fun _ => rfl, fun _ => rfl, fun _ => rfl, fun _ => rfl, fun _ => rfl, fun _ => rfl, fun _ => rfl, fun _ => rfl, fun _ => rfl, fun _ => rfl, fun _ => rfl, fun _ => rfl, fun b => absurd b (by decide), fun _ => rfl, fun _ => rfl, fun _ => rfl, fun _ => rfl, fun _ => rfl, fun _ => rfl, fun _ => rfl, fun _ => rfl, fun _ => rfl, fun _ => rfl, fun _ => rfl, fun _ => rfl, fun _ => rfl, fun _ => rfl, fun _ => rfl, fun _ => rfl, fun _ => rfl, fun _ => rfl, fun _ => rfl, fun _ => rfl⟩ hk

theorem Same.set_markOut {m : Nat} {s u : State} (x) (h : Same m s u) (hk : 0x400000 ||| m = m) :
    Same m s { u with markOut := x } :=
  h.then (k := 0x400000) ⟨rfl, id, id, fun _ _ _ _ => rfl, fun _ => rfl, fun _ => rfl, fun _ => rfl, fun _ => rfl, fun _ => rfl, fun _ => rfl, fun _ => rfl, fun _ => rfl, fun _ => rfl, fun _ => rfl, fun _ => rfl, fun _ => rfl, fun _ => rfl, fun _ => rfl, fun _ => rfl, fun _ => rfl, fun _ => rfl, fun _ => rfl, fun _ => rfl, fun _ => rfl, fun _ => rfl, fun b => absurd b (by decide), fun _ => rfl, fun _ => rfl, fun _ => rfl, fun _ => rfl, fun _ => rfl, fun _ => rfl, fun _ => rfl, fun _ => rfl, fun _ => rfl, fun _ => rfl, fun _ => rfl, fun _ => rfl, fun _ => rfl, fun _ => rfl, fun _ => rfl, fun _ => rfl, fun _ => rfl, fun _ => rfl, fun _ => rfl⟩ hk

theorem Same.set_markOutNum {m : Nat} {s u : State} (x) (h : Same m s u) (hk : 0x800000 ||| m = m) :
    Same m s { u with markOutNum := x } :=
  h.then (k := 0x800000) ⟨rfl, id, id, fun _ _ _ _ => rfl, fun _ => rfl, fun _ => rfl, fun _ => rfl, fun _ => rfl, fun _ => rfl, fun _ => rfl, fun _ => rfl, fun _ => rfl, fun _ => rfl, fun _ => rfl, fun _ => rfl, fun _ => rfl, fun _ => rfl, fun _ => rfl, fun _ => rfl, fun _ => rfl, fun _ => rfl, fun _ => rfl, fun _ => rfl, fun _ => rfl, fun _ => rfl, fun _ => rfl, fun b => absurd b (by decide), fun _ => rfl, fun _ => rfl, fun _ => rfl, fun _ => rfl, fun _ => rfl, fun _ => rfl, fun _ => rfl, fun _ => rfl, fun _ => rfl, fun _ => rfl, fun _ => rfl, fun _ => rfl, fun _ => rfl, fun _ => rfl, fun _ => rfl, fun _ => rfl, fun _ => rfl, fun _ => rfl⟩ hk

theorem Same.set_driven {m : Nat} {s u : State} (x) (h : Same m s u) (hk : 0x1000000 ||| m = m) :
    Same m s { u with driven := x } :=
  h.then (k := 0x1000000) ⟨rfl, id, id, fun _ _ _ _ => rfl, fun _ => rfl, fun _ => rfl, fun _ => rfl, fun _ => rfl, fun _ => rfl, fun _ => rfl, fun _ => rfl, fun _ => rfl, fun _ => rfl, fun _ => rfl, fun _ => rfl, fun _ => rfl, fun _ => rfl, fun _ => rfl, fun _ => rfl, fun _ => rfl, fun _ => rfl, fun _ => rfl, fun _ => rfl, fun _ => rfl, fun _ => rfl, fun _ => rfl, fun _ => rfl, fun b => absurd b (by decide), fun _ => rfl, fun _ => rfl, fun _ => rfl, fun _ => rfl, fun _ => rfl, fun _ => rfl, fun _ => rfl, fun _ => rfl, fun _ => rfl, fun _ => rfl, fun _ => rfl, fun _ => rfl, fun _ => rfl, fun _ => rfl, fun _ => rfl, fun _ => rfl, fun _ => rfl⟩ hk

theorem Same.set_cw {m : Nat} {s u : State} (x) (h : Same m s u) (hk : 0x2000000 ||| m = m) :
    Same m s { u with cw := x } :=
  h.then (k := 0x2000000) ⟨rfl, id, id, fun _ _ _ _ => rfl, fun _ => rfl, fun _ => rfl, fun _ => rfl, fun _ => rfl, fun _ => rfl, fun _ => rfl, fun _ => rfl, fun _ => rfl, fun _ => rfl, fun _ => rfl, fun _ => rfl, fun _ => rfl, fun _ => rfl, fun _ => rfl, fun _ => rfl, fun _ => rfl, fun _ => rfl, fun _ => rfl, fun _ => rfl, fun _ => rfl, fun _ => rfl, fun _ => rfl, fun _ => rfl, fun _ => rfl, fun b => absurd b (by decide), fun _ => rfl, fun _ => rfl, fun _ => rfl, fun _ => rfl, fun _ => rfl, fun _ => rfl, fun _ => rfl, fun _ => rfl, fun _ => rfl, fun _ => rfl, fun _ => rfl, fun _ => rfl, fun _ => rfl, fun _ => rfl, fun _ => rfl, fun _ => rfl⟩ hk

theorem Same.set_src {m : Nat} {s u : State} (x) (h : Same m s u) (hk : 0x4000000 ||| m = m) :
    Same m s { u with src := x } :=
  h.then (k := 0x4000000) ⟨rfl, id, id, fun _ _ _ _ => rfl, fun _ => rfl, fun _ => rfl, fun _ => rfl, fun _ => rfl, fun _ => rfl, fun _ => rfl, fun _ => rfl, fun _ => rfl, fun _ => rfl, fun _ => rfl, fun _ => rfl, fun _ => rfl, fun _ => rfl, fun _ => rfl, fun _ => rfl, fun _ => rfl, fun _ => rfl, fun _ => rfl, fun _ => rfl, fun _ => rfl, fun _ => rfl, fun _ => rfl, fun _ => rfl, fun _ => rfl, fun _ => rfl, fun b => absurd b (by decide), fun _ => rfl, fun _ => rfl, fun _ => rfl, fun _ => rfl, fun _ => rfl, fun _ => rfl, fun _ => rfl, fun _ => rfl, fun _ => rfl, fun _ => rfl, fun _ => rfl, fun _ => rfl, fun _ => rfl, fun _ => rfl, fun _ => rfl⟩ hk

theorem Same.set_units {m : Nat} {s u : State} (x) (h : Same m s u) (hk : 0x8000000 ||| m = m) :
    Same m s { u with units := x } :=
  h.then (k := 0x8000000) ⟨rfl, id, id, fun _ _ _ _ => rfl, fun _ => rfl, fun _ => rfl, fun _ => rfl, fun _ => rfl, fun _ => rfl, fun _ => rfl, fun _ => rfl, fun _ => rfl, fun _ => rfl, fun _ => rfl, fun _ => rfl, fun _ => rfl, fun _ => rfl, fun _ => rfl, fun _ => rfl, fun _ => rfl, fun _ => rfl, fun _ => rfl, fun _ => rfl, fun _ => rfl, fun _ => rfl, fun _ => rfl, fun _ => rfl, fun _ => rfl, fun _ => rfl, fun _ => rfl, fun b => absurd b (by decide), fun _ => rfl, fun _ => rfl, fun _ => rfl, fun _ => rfl, fun _ => rfl, fun _ => rfl, fun _ => rfl, fun _ => rfl, fun _ => rfl, fun _ => rfl, fun _ => rfl, fun _ => rfl, fun _ => rfl, fun _ => rfl⟩ hk

theorem Same.set_seqs {m : Nat} {s u : State} (x) (h : Same m s u) (hk : 0x10000000 ||| m = m) :
    Same m s { u with seqs := x } :=
  h.then (k := 0x10000000) ⟨rfl, id, id, fun _ _ _ _ => rfl, fun _ => rfl, fun _ => rfl, fun _ => rfl, fun _ => rfl, fun _ => rfl, fun _ => rfl, fun _ => rfl, fun _ => rfl, fun _ => rfl, fun _ => rfl, fun _ => rfl, fun _ => rfl, fun _ => rfl, fun _ => rfl, fun _ => rfl, fun _ => rfl, fun _ => rfl, fun _ => rfl, fun _ => rfl, fun _ => rfl, fun _ => rfl, fun _ => rfl, fun _ => rfl, fun _ => rfl, fun _ => rfl, fun _ => rfl, fun _ => rfl, fun b => absurd b (by decide), fun _ => rfl, fun _ => rfl, fun _ => rfl, fun _ => rfl, fun _ => rfl, fun _ => rfl, fun _ => rfl, fun _ => rfl, fun _ => rfl, fun _ => rfl, fun _ => rfl, fun _ => rfl, fun _ => rfl⟩ hk

theorem Same.set_stream {m : Nat} {s u : State} (x) (h : Same m s u) (hk : 0x20000000 ||| m = m) :
    Same m s { u with stream := x } :=
  h.then (k := 0x20000000) ⟨rfl, id, id, fun _ _ _ _ => rfl, fun _ => rfl, fun _ => rfl, fun _ => rfl, fun _ => rfl, fun _ => rfl, fun _ => rfl, fun _ => rfl, fun _ => rfl, fun _ => rfl, fun _ => rfl, fun _ => rfl, fun _ => rfl, fun _ => rfl, fun _ => rfl, fun _ => rfl, fun _ => rfl, fun _ => rfl, fun _ => rfl, fun _ => rfl, fun _ => rfl, fun _ => rfl, fun _ => rfl, fun _ => rfl, fun _ => rfl, fun _ => rfl, fun _ => rfl, fun _ => rfl, fun _ => rfl, fun b => absurd b (by decide), fun _ => rfl, fun _ => rfl, fun _ => rfl, fun _ => rfl, fun _ => rfl, fun _ => rfl, fun _ => rfl, fun _ => rfl, fun _ => rfl, fun _ => rfl, fun _ => rfl, fun _ => rfl⟩ hk

theorem Same.set_cai {m : Nat} {s u : State} (x) (h : Same m s u) (hk : 0x40000000 ||| m = m) :
    Same m s { u with cai := x } :=
  h.then (k := 0x40000000) ⟨rfl, id, id, fun _ _ _ _ => rfl, fun _ => rfl, fun _ => rfl, fun _ => rfl, fun _ => rfl, fun _ => rfl, fun _ => rfl, fun _ => rfl, fun _ => rfl, fun _ => rfl, fun _ => rfl, fun _ => rfl, fun _ => rfl, fun _ => rfl, fun _ => rfl, fun _ => rfl, fun _ => rfl, fun _ => rfl, fun _ => rfl, fun _ => rfl, fun _ => rfl, fun _ => rfl, fun _ => rfl, fun _ => rfl, fun _ => rfl, fun _ => rfl, fun _ => rfl, fun _ => rfl, fun _ => rfl, fun _ => rfl, fun b => absurd b (by decide), fun _ => rfl, fun _ => rfl, fun _ => rfl, fun _ => rfl, fun _ => rfl, fun _ => rfl, fun _ => rfl, fun _ => rfl, fun _ => rfl, fun _ => rfl, fun _ => rfl⟩ hk

theorem Same.set_dram {m : Nat} {s u : State} (x) (h : Same m s u) (hk : 0x100000000 ||| m = m) :
    Same m s { u with dram := x } :=
  h.then (k := 0x100000000) ⟨rfl, id, id, fun _ _ _ _ => rfl, fun _ => rfl, fun _ => rfl, fun _ => rfl, fun _ => rfl, fun _ => rfl, fun _ => rfl, fun _ => rfl, fun _ => rfl, fun _ => rfl, fun _ => rfl, fun _ => rfl, fun _ => rfl, fun _ => rfl, fun _ => rfl, fun _ => rfl, fun _ => rfl, fun _ => rfl, fun _ => rfl, fun _ => rfl, fun _ => rfl, fun _ => rfl, fun _ => rfl, fun _ => rfl, fun _ => rfl, fun _ => rfl, fun _ => rfl, fun _ => rfl, fun _ => rfl, fun _ => rfl, fun _ => rfl, fun _ => rfl, fun b => absurd b (by decide), fun _ => rfl, fun _ => rfl, fun _ => rfl, fun _ => rfl, fun _ => rfl, fun _ => rfl, fun _ => rfl, fun _ => rfl, fun _ => rfl⟩ hk

theorem Same.set_fetch {m : Nat} {s u : State} (x) (h : Same m s u) (hk : 0x200000000 ||| m = m) :
    Same m s { u with fetch := x } :=
  h.then (k := 0x200000000) ⟨rfl, id, id, fun _ _ _ _ => rfl, fun _ => rfl, fun _ => rfl, fun _ => rfl, fun _ => rfl, fun _ => rfl, fun _ => rfl, fun _ => rfl, fun _ => rfl, fun _ => rfl, fun _ => rfl, fun _ => rfl, fun _ => rfl, fun _ => rfl, fun _ => rfl, fun _ => rfl, fun _ => rfl, fun _ => rfl, fun _ => rfl, fun _ => rfl, fun _ => rfl, fun _ => rfl, fun _ => rfl, fun _ => rfl, fun _ => rfl, fun _ => rfl, fun _ => rfl, fun _ => rfl, fun _ => rfl, fun _ => rfl, fun _ => rfl, fun _ => rfl, fun _ => rfl, fun b => absurd b (by decide), fun _ => rfl, fun _ => rfl, fun _ => rfl, fun _ => rfl, fun _ => rfl, fun _ => rfl, fun _ => rfl, fun _ => rfl⟩ hk

theorem Same.set_host {m : Nat} {s u : State} (x) (h : Same m s u) (hk : 0x400000000 ||| m = m) :
    Same m s { u with host := x } :=
  h.then (k := 0x400000000) ⟨rfl, id, id, fun _ _ _ _ => rfl, fun _ => rfl, fun _ => rfl, fun _ => rfl, fun _ => rfl, fun _ => rfl, fun _ => rfl, fun _ => rfl, fun _ => rfl, fun _ => rfl, fun _ => rfl, fun _ => rfl, fun _ => rfl, fun _ => rfl, fun _ => rfl, fun _ => rfl, fun _ => rfl, fun _ => rfl, fun _ => rfl, fun _ => rfl, fun _ => rfl, fun _ => rfl, fun _ => rfl, fun _ => rfl, fun _ => rfl, fun _ => rfl, fun _ => rfl, fun _ => rfl, fun _ => rfl, fun _ => rfl, fun _ => rfl, fun _ => rfl, fun _ => rfl, fun _ => rfl, fun b => absurd b (by decide), fun _ => rfl, fun _ => rfl, fun _ => rfl, fun _ => rfl, fun _ => rfl, fun _ => rfl, fun _ => rfl⟩ hk

theorem Same.set_net {m : Nat} {s u : State} (x) (h : Same m s u) (hk : 0x800000000 ||| m = m) :
    Same m s { u with net := x } :=
  h.then (k := 0x800000000) ⟨rfl, id, id, fun _ _ _ _ => rfl, fun _ => rfl, fun _ => rfl, fun _ => rfl, fun _ => rfl, fun _ => rfl, fun _ => rfl, fun _ => rfl, fun _ => rfl, fun _ => rfl, fun _ => rfl, fun _ => rfl, fun _ => rfl, fun _ => rfl, fun _ => rfl, fun _ => rfl, fun _ => rfl, fun _ => rfl, fun _ => rfl, fun _ => rfl, fun _ => rfl, fun _ => rfl, fun _ => rfl, fun _ => rfl, fun _ => rfl, fun _ => rfl, fun _ => rfl, fun _ => rfl, fun _ => rfl, fun _ => rfl, fun _ => rfl, fun _ => rfl, fun _ => rfl, fun _ => rfl, fun _ => rfl, fun b => absurd b (by decide), fun _ => rfl, fun _ => rfl, fun _ => rfl, fun _ => rfl, fun _ => rfl, fun _ => rfl⟩ hk

theorem Same.set_clk {m : Nat} {s u : State} (x) (h : Same m s u) (hk : 0x1000000000 ||| m = m) :
    Same m s { u with clk := x } :=
  h.then (k := 0x1000000000) ⟨rfl, id, id, fun _ _ _ _ => rfl, fun _ => rfl, fun _ => rfl, fun _ => rfl, fun _ => rfl, fun _ => rfl, fun _ => rfl, fun _ => rfl, fun _ => rfl, fun _ => rfl, fun _ => rfl, fun _ => rfl, fun _ => rfl, fun _ => rfl, fun _ => rfl, fun _ => rfl, fun _ => rfl, fun _ => rfl, fun _ => rfl, fun _ => rfl, fun _ => rfl, fun _ => rfl, fun _ => rfl, fun _ => rfl, fun _ => rfl, fun _ => rfl, fun _ => rfl, fun _ => rfl, fun _ => rfl, fun _ => rfl, fun _ => rfl, fun _ => rfl, fun _ => rfl, fun _ => rfl, fun _ => rfl, fun _ => rfl, fun b => absurd b (by decide), fun _ => rfl, fun _ => rfl, fun _ => rfl, fun _ => rfl, fun _ => rfl⟩ hk

theorem Same.set_nv {m : Nat} {s u : State} (x) (h : Same m s u) (hk : 0x2000000000 ||| m = m) :
    Same m s { u with nv := x } :=
  h.then (k := 0x2000000000) ⟨rfl, id, id, fun _ _ _ _ => rfl, fun _ => rfl, fun _ => rfl, fun _ => rfl, fun _ => rfl, fun _ => rfl, fun _ => rfl, fun _ => rfl, fun _ => rfl, fun _ => rfl, fun _ => rfl, fun _ => rfl, fun _ => rfl, fun _ => rfl, fun _ => rfl, fun _ => rfl, fun _ => rfl, fun _ => rfl, fun _ => rfl, fun _ => rfl, fun _ => rfl, fun _ => rfl, fun _ => rfl, fun _ => rfl, fun _ => rfl, fun _ => rfl, fun _ => rfl, fun _ => rfl, fun _ => rfl, fun _ => rfl, fun _ => rfl, fun _ => rfl, fun _ => rfl, fun _ => rfl, fun _ => rfl, fun _ => rfl, fun _ => rfl, fun b => absurd b (by decide), fun _ => rfl, fun _ => rfl, fun _ => rfl, fun _ => rfl⟩ hk

theorem Same.set_pflLast {m : Nat} {s u : State} (x) (h : Same m s u) (hk : 0x4000000000 ||| m = m) :
    Same m s { u with pflLast := x } :=
  h.then (k := 0x4000000000) ⟨rfl, id, id, fun _ _ _ _ => rfl, fun _ => rfl, fun _ => rfl, fun _ => rfl, fun _ => rfl, fun _ => rfl, fun _ => rfl, fun _ => rfl, fun _ => rfl, fun _ => rfl, fun _ => rfl, fun _ => rfl, fun _ => rfl, fun _ => rfl, fun _ => rfl, fun _ => rfl, fun _ => rfl, fun _ => rfl, fun _ => rfl, fun _ => rfl, fun _ => rfl, fun _ => rfl, fun _ => rfl, fun _ => rfl, fun _ => rfl, fun _ => rfl, fun _ => rfl, fun _ => rfl, fun _ => rfl, fun _ => rfl, fun _ => rfl, fun _ => rfl, fun _ => rfl, fun _ => rfl, fun _ => rfl, fun _ => rfl, fun _ => rfl, fun _ => rfl, fun b => absurd b (by decide), fun _ => rfl, fun _ => rfl, fun _ => rfl⟩ hk

theorem Same.set_ds {m : Nat} {s u : State} (x) (h : Same m s u) (hk : 0x8000000000 ||| m = m) :
    Same m s { u with ds := x } :=
  h.then (k := 0x8000000000) ⟨rfl, id, id, fun _ _ _ _ => rfl, fun _ => rfl, fun _ => rfl, fun _ => rfl, fun _ => rfl, fun _ => rfl, fun _ => rfl, fun _ => rfl, fun _ => rfl, fun _ => rfl, fun _ => rfl, fun _ => rfl, fun _ => rfl, fun _ => rfl, fun _ => rfl, fun _ => rfl, fun _ => rfl, fun _ => rfl, fun _ => rfl, fun _ => rfl, fun _ => rfl, fun _ => rfl, fun _ => rfl, fun _ => rfl, fun _ => rfl, fun _ => rfl, fun _ => rfl, fun _ => rfl, fun _ => rfl, fun _ => rfl, fun _ => rfl, fun _ => rfl, fun _ => rfl, fun _ => rfl, fun _ => rfl, fun _ => rfl, fun _ => rfl, fun _ => rfl, fun _ => rfl, fun b => absurd b (by decide), fun _ => rfl, fun _ => rfl⟩ hk

theorem Same.set_hostPath {m : Nat} {s u : State} (x) (h : Same m s u) (hk : 0x10000000000 ||| m = m) :
    Same m s { u with hostPath := x } :=
  h.then (k := 0x10000000000) ⟨rfl, id, id, fun _ _ _ _ => rfl, fun _ => rfl, fun _ => rfl, fun _ => rfl, fun _ => rfl, fun _ => rfl, fun _ => rfl, fun _ => rfl, fun _ => rfl, fun _ => rfl, fun _ => rfl, fun _ => rfl, fun _ => rfl, fun _ => rfl, fun _ => rfl, fun _ => rfl, fun _ => rfl, fun _ => rfl, fun _ => rfl, fun _ => rfl, fun _ => rfl, fun _ => rfl, fun _ => rfl, fun _ => rfl, fun _ => rfl, fun _ => rfl, fun _ => rfl, fun _ => rfl, fun _ => rfl, fun _ => rfl, fun _ => rfl, fun _ => rfl, fun _ => rfl, fun _ => rfl, fun _ => rfl, fun _ => rfl, fun _ => rfl, fun _ => rfl, fun _ => rfl, fun _ => rfl, fun b => absurd b (by decide), fun _ => rfl⟩ hk

theorem Same.set_mgmtPath {m : Nat} {s u : State} (x) (h : Same m s u) (hk : 0x20000000000 ||| m = m) :
    Same m s { u with mgmtPath := x } :=
  h.then (k := 0x20000000000) ⟨rfl, id, id, fun _ _ _ _ => rfl, fun _ => rfl, fun _ => rfl, fun _ => rfl, fun _ => rfl, fun _ => rfl, fun _ => rfl, fun _ => rfl, fun _ => rfl, fun _ => rfl, fun _ => rfl, fun _ => rfl, fun _ => rfl, fun _ => rfl, fun _ => rfl, fun _ => rfl, fun _ => rfl, fun _ => rfl, fun _ => rfl, fun _ => rfl, fun _ => rfl, fun _ => rfl, fun _ => rfl, fun _ => rfl, fun _ => rfl, fun _ => rfl, fun _ => rfl, fun _ => rfl, fun _ => rfl, fun _ => rfl, fun _ => rfl, fun _ => rfl, fun _ => rfl, fun _ => rfl, fun _ => rfl, fun _ => rfl, fun _ => rfl, fun _ => rfl, fun _ => rfl, fun _ => rfl, fun _ => rfl, fun b => absurd b (by decide)⟩ hk

theorem Same.set_out_now {m : Nat} {s u : State} (x0 x1) (h : Same m s u) (hk : 0x12 ||| m = m) :
    Same m s { u with out := x0, now := x1 } :=
  h.then (k := 0x12) ⟨rfl, id, id, fun _ _ _ _ => rfl, fun b => absurd b (by decide), fun _ => rfl, fun _ => rfl, fun b => absurd b (by decide), fun _ => rfl, fun _ => rfl, fun _ => rfl, fun _ => rfl, fun _ => rfl, fun _ => rfl, fun _ => rfl, fun _ => rfl, fun _ => rfl, fun _ => rfl, fun _ => rfl, fun _ => rfl, fun _ => rfl, fun _ => rfl, fun _ => rfl, fun _ => rfl, fun _ => rfl, fun _ => rfl, fun _ => rfl, fun _ => rfl, fun _ => rfl, fun _ => rfl, fun _ => rfl, fun _ => rfl, fun _ => rfl, fun _ => rfl, fun _ => rfl, fun _ => rfl, fun _ => rfl, fun _ => rfl, fun _ => rfl, fun _ => rfl, fun _ => rfl, fun _ => rfl, fun _ => rfl, fun _ => rfl, fun _ => rfl⟩ hk

theorem Same.set_now_time {m : Nat} {s u : State} (x0 x1) (h : Same m s u) (hk : 0x50 ||| m = m) :
    Same m s { u with now := x0, time := x1 } :=
  h.then (k := 0x50) ⟨rfl, id, id, fun _ _ _ _ => rfl, fun _ => rfl, fun _ => rfl, fun _ => rfl, fun b => absurd b (by decide), fun _ => rfl, fun b => absurd b (by decide), fun _ => rfl, fun _ => rfl, fun _ => rfl, fun _ => rfl, fun _ => rfl, fun _ => rfl, fun _ => rfl, fun _ => rfl, fun _ => rfl, fun _ => rfl, fun _ => rfl, fun _ => rfl, fun _ => rfl, fun _ => rfl, fun _ => rfl, fun _ => rfl, fun _ => rfl, fun _ => rfl, fun _ => rfl, fun _ => rfl, fun _ => rfl, fun _ => rfl, fun _ => rfl, fun _ => rfl, fun _ => rfl, fun _ => rfl, fun _ => rfl, fun _ => rfl, fun _ => rfl, fun _ => rfl, fun _ => rfl, fun _ => rfl, fun _ => rfl, fun _ => rfl, fun _ => rfl⟩ hk

theorem Same.set_time_cw {m : Nat} {s u : State} (x0 x1) (h : Same m s u) (hk : 0x2000040 ||| m = m) :
    Same m s { u with time := x0, cw := x1 } :=
  h.then (k := 0x2000040) ⟨rfl, id, id, fun _ _ _ _ => rfl, fun _ => rfl, fun _ => rfl, fun _ => rfl, fun _ => rfl, fun _ => rfl, fun b => absurd b (by decide), fun _ => rfl, fun _ => rfl, fun _ => rfl, fun _ => rfl, fun _ => rfl, fun _ => rfl, fun _ => rfl, fun _ => rfl, fun _ => rfl, fun _ => rfl, fun _ => rfl, fun _ => rfl, fun _ => rfl, fun _ => rfl, fun _ => rfl, fun _ => rfl, fun _ => rfl, fun _ => rfl, fun b => absurd b (by decide), fun _ => rfl, fun _ => rfl, fun _ => rfl, fun _ => rfl, fun _ => rfl, fun _ => rfl, fun _ => rfl, fun _ => rfl, fun _ => rfl, fun _ => rfl, fun _ => rfl, fun _ => rfl, fun _ => rfl, fun _ => rfl, fun _ => rfl, fun _ => rfl⟩ hk

theorem Same.set_edge_cw {m : Nat} {s u : State} (x0 x1) (h : Same m s u) (hk : 0x2000080 ||| m = m) :
    Same m s { u with edge := x0, cw := x1 } :=
  h.then (k := 0x2000080) ⟨rfl, id, id, fun _ _ _ _ => rfl, fun _ => rfl, fun _ => rfl, fun _ => rfl, fun _ => rfl, fun _ => rfl, fun _ => rfl, fun b => absurd b (by decide), fun _ => rfl, fun _ => rfl, fun _ => rfl, fun _ => rfl, fun _ => rfl, fun _ => rfl, fun _ => rfl, fun _ => rfl, fun _ => rfl, fun _ => rfl, fun _ => rfl, fun _ => rfl, fun _ => rfl, fun _ => rfl, fun _ => rfl, fun _ => rfl, fun _ => rfl, fun b => absurd b (by decide), fun _ => rfl, fun _ => rfl, fun _ => rfl, fun _ => rfl, fun _ => rfl, fun _ => rfl, fun _ => rfl, fun _ => rfl, fun _ => rfl, fun _ => rfl, fun _ => rfl, fun _ => rfl, fun _ => rfl, fun _ => rfl, fun _ => rfl, fun _ => rfl⟩ hk

theorem Same.set_guard_line_ex_clk_ds {m : Nat} {s u : State} (x0 x1 x2 x3 x4) (h : Same m s u) (hk : 0x9000002600 ||| m = m) :
    Same m s { u with guard := x0, line := x1, ex := x2, clk := x3, ds := x4 } :=
  h.then (k := 0x9000002600) ⟨rfl, id, id, fun _ _ _ _ => rfl, fun _ => rfl, fun _ => rfl, fun _ => rfl, fun _ => rfl, fun _ => rfl, fun _ => rfl, fun _ => rfl, fun _ => rfl, fun b => absurd b (by decide), fun b => absurd b (by decide), fun _ => rfl, fun _ => rfl, fun b => absurd b (by decide), fun _ => rfl, fun _ => rfl, fun _ => rfl, fun _ => rfl, fun _ => rfl, fun _ => rfl, fun _ => rfl, fun _ => rfl, fun _ => rfl, fun _ => rfl, fun _ => rfl, fun _ => rfl, fun _ => rfl, fun _ => rfl, fun _ => rfl, fun _ => rfl, fun _ => rfl, fun _ => rfl, fun _ => rfl, fun _ => rfl, fun _ => rfl, fun _ => rfl, fun b => absurd b (by decide), fun _ => rfl, fun _ => rfl, fun b => absurd b (by decide), fun _ => rfl, fun _ => rfl⟩ hk

theorem Same.set_markOut_markOutNum {m : Nat} {s u : State} (x0 x1) (h : Same m s u) (hk : 0xc00000 ||| m = m) :
    Same m s { u with markOut := x0, markOutNum := x1 } :=
  h.then (k := 0xc00000) ⟨rfl, id, id, fun _ _ _ _ => rfl, fun _ => rfl, fun _ => rfl, fun _ => rfl, fun _ => rfl, fun _ => rfl, fun _ => rfl, fun _ => rfl, fun _ => rfl, fun _ => rfl, fun _ => rfl, fun _ => rfl, fun _ => rfl, fun _ => rfl, fun _ => rfl, fun _ => rfl, fun _ => rfl, fun _ => rfl, fun _ => rfl, fun _ => rfl, fun _ => rfl, fun _ => rfl, fun b => absurd b (by decide), fun b => absurd b (by decide), fun _ => rfl, fun _ => rfl, fun _ => rfl, fun _ => rfl, fun _ => rfl, fun _ => rfl, fun _ => rfl, fun _ => rfl, fun _ => rfl, fun _ => rfl, fun _ => rfl, fun _ => rfl, fun _ => rfl, fun _ => rfl, fun _ => rfl, fun _ => rfl, fun _ => rfl, fun _ => rfl⟩ hk

/-- Memory changed by an operation that keeps its canonical form. -/
theorem Same.set_mem {m : Nat} {s u : State} (x0) (h : Same m s u)
    (hw : Memory.wf u.mem = true → Memory.wf x0 = true) (hk : 0x80000000 ||| m = m) : Same m s { u with mem := x0 } :=
  h.then (k := 0x80000000) ⟨rfl, hw, id, fun _ _ _ _ => rfl, fun _ => rfl, fun _ => rfl, fun _ => rfl, fun _ => rfl, fun _ => rfl, fun _ => rfl, fun _ => rfl, fun _ => rfl, fun _ => rfl, fun _ => rfl, fun _ => rfl, fun _ => rfl, fun _ => rfl, fun _ => rfl, fun _ => rfl, fun _ => rfl, fun _ => rfl, fun _ => rfl, fun _ => rfl, fun _ => rfl, fun _ => rfl, fun _ => rfl, fun _ => rfl, fun _ => rfl, fun _ => rfl, fun _ => rfl, fun _ => rfl, fun _ => rfl, fun _ => rfl, fun _ => rfl, fun b => absurd b (by decide), fun _ => rfl, fun _ => rfl, fun _ => rfl, fun _ => rfl, fun _ => rfl, fun _ => rfl, fun _ => rfl, fun _ => rfl, fun _ => rfl, fun _ => rfl⟩ hk

/-- Memory and the record beside it changed. -/
theorem Same.set_mem_dram {m : Nat} {s u : State} (x0 x1) (h : Same m s u)
    (hw : Memory.wf u.mem = true → Memory.wf x0 = true) (hk : 0x180000000 ||| m = m) : Same m s { u with mem := x0, dram := x1 } :=
  h.then (k := 0x180000000) ⟨rfl, hw, id, fun _ _ _ _ => rfl, fun _ => rfl, fun _ => rfl, fun _ => rfl, fun _ => rfl, fun _ => rfl, fun _ => rfl, fun _ => rfl, fun _ => rfl, fun _ => rfl, fun _ => rfl, fun _ => rfl, fun _ => rfl, fun _ => rfl, fun _ => rfl, fun _ => rfl, fun _ => rfl, fun _ => rfl, fun _ => rfl, fun _ => rfl, fun _ => rfl, fun _ => rfl, fun _ => rfl, fun _ => rfl, fun _ => rfl, fun _ => rfl, fun _ => rfl, fun _ => rfl, fun _ => rfl, fun _ => rfl, fun _ => rfl, fun b => absurd b (by decide), fun b => absurd b (by decide), fun _ => rfl, fun _ => rfl, fun _ => rfl, fun _ => rfl, fun _ => rfl, fun _ => rfl, fun _ => rfl, fun _ => rfl, fun _ => rfl⟩ hk

/-- An operation repeated over a list from its end. -/
theorem Same.foldr {α : Type} {m : Nat} {f : α → State → State} (l : List α) {s u : State} (h : Same m s u)
    (hf : ∀ v a, Same m v (f a v)) : Same m s (l.foldr f u) := by
  induction l with
  | nil => exact h
  | cons a l ih => exact ih.then (hf _ a) (Nat.or_self m)

theorem Same.set_host_net_clk_nv_ds {m : Nat} {s u : State} (x0 x1 x2 x3 x4) (h : Same m s u) (hk : 0xbc00000000 ||| m = m) :
    Same m s { u with host := x0, net := x1, clk := x2, nv := x3, ds := x4 } :=
  h.then (k := 0xbc00000000) ⟨rfl, id, id, fun _ _ _ _ => rfl, fun _ => rfl, fun _ => rfl, fun _ => rfl, fun _ => rfl, fun _ => rfl, fun _ => rfl, fun _ => rfl, fun _ => rfl, fun _ => rfl, fun _ => rfl, fun _ => rfl, fun _ => rfl, fun _ => rfl, fun _ => rfl, fun _ => rfl, fun _ => rfl, fun _ => rfl, fun _ => rfl, fun _ => rfl, fun _ => rfl, fun _ => rfl, fun _ => rfl, fun _ => rfl, fun _ => rfl, fun _ => rfl, fun _ => rfl, fun _ => rfl, fun _ => rfl, fun _ => rfl, fun _ => rfl, fun _ => rfl, fun _ => rfl, fun _ => rfl, fun b => absurd b (by decide), fun b => absurd b (by decide), fun b => absurd b (by decide), fun b => absurd b (by decide), fun _ => rfl, fun b => absurd b (by decide), fun _ => rfl, fun _ => rfl⟩ hk

theorem Same.set_now_clk {m : Nat} {s u : State} (x0 x1) (h : Same m s u) (hk : 0x1000000010 ||| m = m) :
    Same m s { u with now := x0, clk := x1 } :=
  h.then (k := 0x1000000010) ⟨rfl, id, id, fun _ _ _ _ => rfl, fun _ => rfl, fun _ => rfl, fun _ => rfl, fun b => absurd b (by decide), fun _ => rfl, fun _ => rfl, fun _ => rfl, fun _ => rfl, fun _ => rfl, fun _ => rfl, fun _ => rfl, fun _ => rfl, fun _ => rfl, fun _ => rfl, fun _ => rfl, fun _ => rfl, fun _ => rfl, fun _ => rfl, fun _ => rfl, fun _ => rfl, fun _ => rfl, fun _ => rfl, fun _ => rfl, fun _ => rfl, fun _ => rfl, fun _ => rfl, fun _ => rfl, fun _ => rfl, fun _ => rfl, fun _ => rfl, fun _ => rfl, fun _ => rfl, fun _ => rfl, fun _ => rfl, fun _ => rfl, fun b => absurd b (by decide), fun _ => rfl, fun _ => rfl, fun _ => rfl, fun _ => rfl, fun _ => rfl⟩ hk

theorem Same.set_now_time_edge_run_ex_ca_tone_clamp_conv_slice_overlap_driven_cw_stream_dram_pflLast {m : Nat} {s u : State} (x0 x1 x2 x3 x4 x5 x6 x7 x8 x9 x10 x11 x12 x13 x14 x15) (h : Same m s u) (hk : 0x41230fe1d0 ||| m = m) :
    Same m s { u with now := x0, time := x1, edge := x2, run := x3, ex := x4, ca := x5, tone := x6, clamp := x7, conv := x8, slice := x9, overlap := x10, driven := x11, cw := x12, stream := x13, dram := x14, pflLast := x15 } :=
  h.then (k := 0x41230fe1d0) ⟨rfl, id, id, fun _ _ _ _ => rfl, fun _ => rfl, fun _ => rfl, fun _ => rfl, fun b => absurd b (by decide), fun _ => rfl, fun b => absurd b (by decide), fun b => absurd b (by decide), fun b => absurd b (by decide), fun _ => rfl, fun _ => rfl, fun _ => rfl, fun _ => rfl, fun b => absurd b (by decide), fun b => absurd b (by decide), fun b => absurd b (by decide), fun b => absurd b (by decide), fun b => absurd b (by decide), fun b => absurd b (by decide), fun b => absurd b (by decide), fun _ => rfl, fun _ => rfl, fun _ => rfl, fun _ => rfl, fun b => absurd b (by decide), fun b => absurd b (by decide), fun _ => rfl, fun _ => rfl, fun _ => rfl, fun b => absurd b (by decide), fun _ => rfl, fun _ => rfl, fun b => absurd b (by decide), fun _ => rfl, fun _ => rfl, fun _ => rfl, fun _ => rfl, fun _ => rfl, fun b => absurd b (by decide), fun _ => rfl, fun _ => rfl, fun _ => rfl⟩ hk

theorem Same.set_slots_cw {m : Nat} {s u : State} (x0 x1) (h : Same m s u) (hk : 0x2200000 ||| m = m) :
    Same m s { u with slots := x0, cw := x1 } :=
  h.then (k := 0x2200000) ⟨rfl, id, id, fun _ _ _ _ => rfl, fun _ => rfl, fun _ => rfl, fun _ => rfl, fun _ => rfl, fun _ => rfl, fun _ => rfl, fun _ => rfl, fun _ => rfl, fun _ => rfl, fun _ => rfl, fun _ => rfl, fun _ => rfl, fun _ => rfl, fun _ => rfl, fun _ => rfl, fun _ => rfl, fun _ => rfl, fun _ => rfl, fun _ => rfl, fun _ => rfl, fun b => absurd b (by decide), fun _ => rfl, fun _ => rfl, fun _ => rfl, fun b => absurd b (by decide), fun _ => rfl, fun _ => rfl, fun _ => rfl, fun _ => rfl, fun _ => rfl, fun _ => rfl, fun _ => rfl, fun _ => rfl, fun _ => rfl, fun _ => rfl, fun _ => rfl, fun _ => rfl, fun _ => rfl, fun _ => rfl, fun _ => rfl, fun _ => rfl⟩ hk

theorem Same.set_time_edge_guard_line_ex_slots_cw_cai_clk_ds {m : Nat} {s u : State} (x0 x1 x2 x3 x4 x5 x6 x7 x8 x9) (h : Same m s u) (hk : 0x90422026c0 ||| m = m) :
    Same m s { u with time := x0, edge := x1, guard := x2, line := x3, ex := x4, slots := x5, cw := x6, cai := x7, clk := x8, ds := x9 } :=
  h.then (k := 0x90422026c0) ⟨rfl, id, id, fun _ _ _ _ => rfl, fun _ => rfl, fun _ => rfl, fun _ => rfl, fun _ => rfl, fun _ => rfl, fun b => absurd b (by decide), fun b => absurd b (by decide), fun _ => rfl, fun b => absurd b (by decide), fun b => absurd b (by decide), fun _ => rfl, fun _ => rfl, fun b => absurd b (by decide), fun _ => rfl, fun _ => rfl, fun _ => rfl, fun _ => rfl, fun _ => rfl, fun _ => rfl, fun _ => rfl, fun b => absurd b (by decide), fun _ => rfl, fun _ => rfl, fun _ => rfl, fun b => absurd b (by decide), fun _ => rfl, fun _ => rfl, fun _ => rfl, fun _ => rfl, fun b => absurd b (by decide), fun _ => rfl, fun _ => rfl, fun _ => rfl, fun _ => rfl, fun _ => rfl, fun b => absurd b (by decide), fun _ => rfl, fun _ => rfl, fun b => absurd b (by decide), fun _ => rfl, fun _ => rfl⟩ hk

end Sys2Proof.Machine
end

