-- ==== Sys2Proof/Laws/Masks.lean ====
section
/-! SUPPORT. Masks of the operations' frames: bit i is the i-th field of State, bit 42 + r the dictionary parameter with number r
(Frame.lean). -/
namespace Sys2Proof.Machine

abbrev mask1 : Nat := 0x7800000c00000000001ce00000000000000000000000000000000000000000000000000000004c00000026
abbrev mask2 : Nat := 0xc0000000000000000ed7f0000000000000000000000000000000000000000000000000100000020
abbrev mask3 : Nat := 0xc0000000000000000000000000000000000000000000000000000000000000600a0001000000020
abbrev mask4 : Nat := 0xc000000000000000000000000000000000200000000000000000000000000000000000002000020
abbrev mask5 : Nat := 0xc0000000000000000000000000000000000000000000000038700008600000000000000020a20a0
abbrev mask6 : Nat := 0xe0c00006000000001800000180300000018300c06000c00000000180000c30000c000000000000024
abbrev mask7 : Nat := 0x7800000c00000000005c000000000000000000000000000000000000000000000000010000004c00000026
abbrev mask8 : Nat := 0xc000010000000000000000000000000000810000000000000000000000000000000001002000020
abbrev mask9 : Nat := 0x7fffffffffffffffffffffffffffffffffffffffffffffffffffffffffffffffffffffffffffbe221ea6e4
abbrev mask10 : Nat := 0xc0000000000000000000000000200000000100000000000000000000620000000000000420001a0
abbrev mask11 : Nat := 0x7800000c000000000000000000000000000000000000000000000000000000000000000000004c00000020
abbrev mask12 : Nat := 0x7ffffffffffffffffffffffffffffffffffffffffffffffffffffffffffffffffffffffffffc09420ea7e0
abbrev mask13 : Nat := 0xc000000000000000000000680000000000000000000000000000000000000000000000200000024
abbrev mask14 : Nat := 0x7800000c000982000000000000000000000000000000000000000000000000000000000000006800000026
abbrev mask15 : Nat := 0x7800000c000002000000000000000000000000000000000000000000000000000000000000004800000022
abbrev mask16 : Nat := 0x1000000000000000000000000000000000000000000000000000000000000400000020
abbrev mask17 : Nat := 0xc000000002000000000000000000000000000000000000000000000000000000000000400000022
abbrev mask18 : Nat := 0xc000000000000000000000000000000000000000480000000000000000000000000000008000020
abbrev mask19 : Nat := 0xc40000000000000000000000000000000000000000000000000000000000000000082000000020
abbrev mask20 : Nat := 0x7800000c000002000000000000000000000000000000000000000000000000000000000000034800000022
abbrev mask21 : Nat := 0x40000000000000000000000000000000000000000000000000000000000000000082000000020
abbrev mask22 : Nat := 0xc000000000000000000000000000000000810000000000000000000000000000000000002000020
abbrev mask23 : Nat := 0xc00000000000000000000000000c000000000000000000000000000000000000000000000000020
abbrev mask24 : Nat := 0xc00000000000000000000000000000000081000f000000003f7e0608600000000000000020a20a0
abbrev mask25 : Nat := 0xc0000000000000000000040000000000008110000000000038700009600000608e00018020aaef4
abbrev mask26 : Nat := 0x7ffffffffffffffffffffffffffffffffffffffffffffffffffffffffffffffffffffffffffc00021a40e4
abbrev mask27 : Nat := 0x7800000c000002000000000000000000000000000000000000000000000000000000000000004820000022
abbrev mask28 : Nat := 0xc0000000000000000000000009e00000008105838331e0000000000000000000000000052e00020
abbrev mask29 : Nat := 0x4000000000000000000000000000000000000000000000000000000000c00000020
abbrev mask30 : Nat := 0xc0000000000000000000000000000000000000000000000000000000600000000000000020000a0
abbrev mask31 : Nat := 0x7fffffffffffffffffffffffffffffffffffffffffffffffffffffffffffffffffffffffffff1c221a06e0
abbrev mask32 : Nat := 0x7fffffffffffffffffffffffffffffffffffffffffffffffffffffffffffffffffffffffffff3c221a06e4
abbrev mask33 : Nat := 0xc00000000000000000000000cde38af610e10583fb39e00000000000000e128000000fd7fefe7f4
abbrev mask34 : Nat := 0xc000000000000000000000000000000000000000000000c000000000600000000000000020c00a0
abbrev mask35 : Nat := 0xc0000000000000000000000000000000000000000000000600000000600000000000000020a40a0
abbrev mask36 : Nat := 0xc0000000000000000e2ff000c000490e000000000000000000000000000000000000001a0000020
abbrev mask37 : Nat := 0x20000000000000000000000000000000000000000000000000000000000000000000020
abbrev mask38 : Nat := 0xc0000000000000000000000000000000008100000000000000000000000000008800018020a0074
abbrev mask39 : Nat := 0x20000000000000000000000000000000000000000000040000020
abbrev mask40 : Nat := 0x38000000000000000000000000000000c000020
abbrev mask41 : Nat := 0x7ffffffffffffffffffffffffffffffffffffffffffffffffffffffffffffffffffffffffffc0002100020
abbrev mask42 : Nat := 0x20000000000000000000000000000000000000000000000000000000000020
abbrev mask43 : Nat := 0x80000000000000000000000000000008000020
abbrev mask44 : Nat := 0xc0000000000000000000000000038ad210000000000000000000000000000000000000822000020
abbrev mask45 : Nat := 0xc000000000000000000000000000000000000000000000000000000000300000000000000000020
abbrev mask46 : Nat := 0xc0000000000000000e07f0000000000000000000000000000000000000000000000000000000020
abbrev mask47 : Nat := 0x1000c000000000000000000000000000000000000000000000000000000000000000720001000000020
abbrev mask48 : Nat := 0x7ffffffffffffffffffffffffffffffffffffffffffffffffffffffffffffffffffffffffffffe221ea6e6
abbrev mask49 : Nat := 0xc000000000000000000000000020000000010000000000c000000020620000000000000420c01a0
abbrev mask50 : Nat := 0x870005e4600000000000000000000000000000000000000000000000000000000000000082000000020
abbrev mask51 : Nat := 0xc000000000000000000000000000080010810000000000000000000000000000000000002000060
abbrev mask52 : Nat := 0xc0000084f001c000f000000000000000008100000000000000000000000000808e0201c220a0060
abbrev mask53 : Nat := 0xc000000000000000000000100000000000000000000000000000000000000000000000200000020
abbrev mask54 : Nat := 0xc000000800000000000000000000000000810000000000000000000000000000000000802000020
abbrev mask55 : Nat := 0xc000000000000000000000000000000000810000000000000000000000000080000000002000020
abbrev mask56 : Nat := 0x800000000000000000000000000000000000000000000000000000000000000002000000020
abbrev mask57 : Nat := 0x7fffffffffffffffffffffffffffffffffffffffffffffffffffffffffffffffffffffffffff1c221a06e4
abbrev mask58 : Nat := 0xc0000000000000000e07f07f0000000000000000000000000000000000000000000000200000024
abbrev mask59 : Nat := 0x80000000000000000000000000000000000000000000000000000000000000002000000020
abbrev mask60 : Nat := 0xc000000000080000000000000000000000000000000000000000000000000000000000400000022
abbrev mask61 : Nat := 0x1000000000000000000000000000000000000000000000000000000000020
abbrev mask62 : Nat := 0xc0000000000000000000000000000000000000000000000600000000600000000000000020a40a4
abbrev mask63 : Nat := 0xc000000000000000000000000000000000000000000000000000000000000000000000000000020
abbrev mask64 : Nat := 0xc0000084f001c000f00004000020000000810000000000c138703808620000808e4a01c620fa1e0
abbrev mask65 : Nat := 0xc000000000000000000000680000000000000000000000000000000000000000000000000000024
abbrev mask66 : Nat := 0xc0000000000000000000000009e0000000000000000000000000000000000000000000040000020
abbrev mask67 : Nat := 0x4000000000000000000000000000000000000000000000000000000000000420000022
abbrev mask68 : Nat := 0xc000000000000000000004000020000000810000000000c13870380862000000064a010420fa1a0
abbrev mask69 : Nat := 0xc0000000000000000e07f0000000000000000000000000000000000000000000000000180000020
abbrev mask70 : Nat := 0xc0000000000000000007f0000000000000000000000000000000000000000000000000000000020
abbrev mask71 : Nat := 0xc0000000000000000000000000000000000000000000000000000000003c0000000000000000060
abbrev mask72 : Nat := 0xc0000000000000000000000009e0000000810583822080000000000000000000000000052e00020
abbrev mask73 : Nat := 0xc000000000000000000000000000000000010000000820000000000000000000000000002000020
abbrev mask74 : Nat := 0x4000000000000000000000000000000000000000000000000000000000000620000022
abbrev mask75 : Nat := 0xc0000000000000000e2800000000010000000000000000000000000000000000000000000000020
abbrev mask76 : Nat := 0xc000000000000004000000000000000000000000000000000000000000000000000000000000020
abbrev mask77 : Nat := 0xc4441800c0000000000000000000000000000000000000000000000000000060000082820000020
abbrev mask78 : Nat := 0xc000002000000000000000000000000000000000000000000000000000000000000000800000022
abbrev mask79 : Nat := 0xc0000000000000000000000000000000000000000000001000000000000000000000000000a8020
abbrev mask80 : Nat := 0xc0000000000000000e00000000000000049d00000000000000000000000000000000000020000a0
abbrev mask81 : Nat := 0x1000000000000000000000000000000000000000020000020
abbrev mask82 : Nat := 0xc000000000000000000000000000000000000000000000000000000000000000014001000000020
abbrev mask83 : Nat := 0xc0000000000000004e00040000000000049b001f000000003f7e0608600000000e02018032a2ef0
abbrev mask84 : Nat := 0xc000000000000000000000000020000000810000000000c138703808620000000008000420fa1a0
abbrev mask85 : Nat := 0x40000000000020
abbrev mask86 : Nat := 0xc00000000000000000000000c9e38af610810583fb39e000000000000000000000000087ee00020
abbrev mask87 : Nat := 0xc0000000000000000000000000000000000000000000000000000000000010000000000000000a0
abbrev mask88 : Nat := 0xc000000000000000000000000000000000810000002000000000000000000000000000012000020
abbrev mask89 : Nat := 0xc0000000000000000000000000000000000000000000000000000000000c0000000000000000060
abbrev mask90 : Nat := 0x7ffffffffffffffffffffffffffffffffffffffffffffffffffffffffffffffffffffffffffc1c220a06e0
abbrev mask91 : Nat := 0x4000000000000000000000000000000000000000000000000000000000000000000000000020
abbrev mask92 : Nat := 0x7000000000000000000000000000000000000000000000000000000000000000000880001000000020
abbrev mask93 : Nat := 0xc0000000000000000000000000000000000000000000000000000000000000820000020
abbrev mask94 : Nat := 0xc0000000000000000e2800000000010000000000000000000000000000000000000000020000020
abbrev mask95 : Nat := 0xc0000000000000000000000000000000000000000000000000000100600000000000000000200a0
abbrev mask96 : Nat := 0xc0000084f001c000f00004000020000000810000000000c138703808620000808e5a01c620fa1e0
abbrev mask97 : Nat := 0x9f80000000000000000000000000000000000000000000000000000000000000002000000020
abbrev mask98 : Nat := 0xc000000000000000000000000000000000811000000000000000000100000000000000002000620
abbrev mask99 : Nat := 0x10000000000000000000000000000000000000000000000200000020
abbrev mask100 : Nat := 0xc0000000000000000000000000038af210000000000000000000000000000000000000822000020
abbrev mask101 : Nat := 0x7800000c00000000005c000000000000000000000000000000000000000000000000000000004c00000026
abbrev mask102 : Nat := 0xc0000000000000000000000000000000000000000000000000000008600000000000000020000a0
abbrev mask103 : Nat := 0x580180000000000000000000000000000000000000000000000000000000000000002000000020
abbrev mask104 : Nat := 0x700000000000000000000000000000000000000000000000000000000000020
abbrev mask105 : Nat := 0xc0000000000000000000000000000000008100000000000000000000000000000000008020a0060
abbrev mask106 : Nat := 0xc0000000000000000000000000000000000000000000000000000000e00000000000000000000a0
abbrev mask107 : Nat := 0x4001000000020
abbrev mask108 : Nat := 0x800001000000020
abbrev mask109 : Nat := 0xc000000000000000000000000000000000810003800000000000000000000000000000002200020
abbrev mask110 : Nat := 0xc000000000000018000000000000000000000000000000000000000000000000000000000000020
abbrev mask111 : Nat := 0xc00000000000000000000000000000000000000000000000000000000000060000000fd230fe1f0
abbrev mask112 : Nat := 0x7800000c000002000000000000000000000000000000000000000000000000000000000000004800000026
abbrev mask113 : Nat := 0x7800000c000002000000000000000000000000000000000000000000000000000000000000006800000022
abbrev mask114 : Nat := 0x980000000000000000000000000000000000000000000000000000000000000002000000024
abbrev mask115 : Nat := 0x1000000000000000000000000000000000000000000000000000000000000000002000000020
abbrev mask116 : Nat := 0xc0000000000000000000000000000000000000000000000000000000e00000000000000000000a4
abbrev mask117 : Nat := 0x7800000c00000000001c000000000000000000000000000000000000000000000000000000004c00000020
abbrev mask118 : Nat := 0x30000000000000000000000000000000000000000000142000020
abbrev mask119 : Nat := 0xc0000000000000000000000000000000008100000000000000000000700000000000000020000a0
abbrev mask120 : Nat := 0xc0000000000000000000000009e38af2108105838b39e000000000000000000000000087ae00020
abbrev mask121 : Nat := 0xc0000000000000000000000000000000000000000000000000000000614000000000000020000a0
abbrev mask122 : Nat := 0x2000000000000000000000000000000000000000000020000020
abbrev mask123 : Nat := 0xc000008430000000000000000000000000810000000000000000000000000080020000002000060
abbrev mask124 : Nat := 0xc000000000000000002000000000010000000000000000000000000000000000000000000000020
abbrev mask125 : Nat := 0xc0c00006000000001800000181300f8ac3f3a1f06000c000c03871c00b6c3c0000000000a220ea6e0
abbrev mask126 : Nat := 0x4000000000000010000000000000000000000000000000000000000000000620000022
abbrev mask127 : Nat := 0xc000000000000000000000000000000000000000000000000000000c600000000000000020200a0
abbrev mask128 : Nat := 0xc000000004000004000000000000000000000000000000000000000000000000000000620000022
abbrev mask129 : Nat := 0x7800000c000012020000000000000000000000000810000000000000000000000000000000005802000022
abbrev mask130 : Nat := 0x7000000000000000000000006000000000000000000000000000000000000000000000000100000020
abbrev mask131 : Nat := 0xc000000000000000000000000000000000000000000000000000060000000000000000000000020
abbrev mask132 : Nat := 0x8780000000000000000000000000000000000000000000000000000000000000002000000020
abbrev mask133 : Nat := 0xc000000000000000000000000000000000000000000600000000000000000000000000000000020
abbrev mask134 : Nat := 0x10000000000000000000000000000000000002000020
abbrev mask135 : Nat := 0xc0000000000000000000040000000000008100000000000000000000000000008400018020a0060
abbrev mask136 : Nat := 0xc0000000000000000000000000000000008100000000000038700008600000000000000020a20a0
abbrev mask137 : Nat := 0xc0000000000000000001d0000000000000000000000000000000000000000000000000000000020
abbrev mask138 : Nat := 0xc00000000000000000000000000000000081001f000000003f7e0608600000000000000032a26a0
abbrev mask139 : Nat := 0xc00000000000000000000000000000000000000000000000000000000000000c001001000000024
abbrev mask140 : Nat := 0xc0000000000000000000000000000000000000000000000100000000600000000000000020a00a0
abbrev mask141 : Nat := 0xc0000000000000000e2ff0000000310000000000000000000000000000000000000000020000024
abbrev mask142 : Nat := 0xc000000000000000000000000000000000200000000000000000000000000000000000802000020
abbrev mask143 : Nat := 0xc00000000000000000000000000000000081001c000000000000000000000000000000003200620
abbrev mask144 : Nat := 0x7ffffffffffffffffffffffffffffffffffffffffffffffffffffffffffffffffffffffffffc09421ee7e4
abbrev mask145 : Nat := 0x18000000000000000000000000000000000000000000000000000000000000000000000000004800000020
abbrev mask146 : Nat := 0xc0000000000000000e0000000000000004180000000000000000000000000000000000000000020
abbrev mask147 : Nat := 0xc000000000000000000000000000000000000400000000000000000000000000000000000c00020
abbrev mask148 : Nat := 0xc000000000000000000000000000000000000000000000000000000000000000700000000000020
abbrev mask149 : Nat := 0xc000000000000000000000000000000000000000000000000000000000000002800001000000020
abbrev mask150 : Nat := 0xc0000000000000004e00040000000000049b001f000000003f7e0608600000008e02018032a2ef0
abbrev mask151 : Nat := 0xc000000000000000000000000000000004990000000000000000000000000000000000002000020
abbrev mask152 : Nat := 0xc0000000000000000000000000038ac010000000000000000000000000000000000000822000020
abbrev mask153 : Nat := 0xc0000000000000000e07f06e0000000000000000000000000000000000000000000000200000024
abbrev mask154 : Nat := 0xc00000000000000000000000cde38af610e10583fb39e000000000000004028000000fd7fefe7f0
abbrev mask155 : Nat := 0x3000000000000000000000000000000000000000000020000020
abbrev mask156 : Nat := 0xc000000000000000000000000000000000810008000000000000000000000000000000002200020
abbrev mask157 : Nat := 0xc0000000000000000007f00006038ad210000000000000000000000000000000000000862000020
abbrev mask158 : Nat := 0xc000000000000000000000000000000000810000000000000000000000000000000001002000020
abbrev mask159 : Nat := 0xc0000000000000000000000000000000000000000000000000000000200000000000000000000a0
abbrev mask160 : Nat := 0xc000000000000000000000000000000000810000000000000000000000000000000000002000620
abbrev mask161 : Nat := 0xc0000000000000000000000000000000000000000000000030600008600000000000000020a00a0
abbrev mask162 : Nat := 0xc0000000000000000000000009e00000008105838331c0000000000000000000000000052e00020
abbrev mask163 : Nat := 0xc00000000000000000000000cde38af610e10583fb39e00000000000000c028000000fd7fefe7f0
abbrev mask164 : Nat := 0xc000000000000000000000000000000000810008000000000000000000000000000000002000020
abbrev mask165 : Nat := 0x7800000c4441820c0000000000000000000000000000000000000000000000000000060000086820000022
abbrev mask166 : Nat := 0xc0000000000000000e2ff000c003c90e100000000000000000000000000000000000009a0000020
abbrev mask167 : Nat := 0xc0000000000000000000006e0000000000000000000000000000000000000000000000200000024
abbrev mask168 : Nat := 0xc00000000000000000000000000000020
abbrev mask169 : Nat := 0xc000000000000000000000000000000000810000000000000000000000000000000000002000060
abbrev mask170 : Nat := 0x7000000000000000000400000000000000000000000000000000000000000000000060201000000020
abbrev mask171 : Nat := 0xc0000000000000000e2ff000c000490c000000000000000000000000000000000000001a0000020
abbrev mask172 : Nat := 0xc0000000000000000000000009e38af210810583cb39e000000000000000000000000087ee00020
abbrev mask173 : Nat := 0x7800000c000002080000000000000000000000000000000000000000000000000000000000004800000022
abbrev mask174 : Nat := 0xc000000000024000000000000000000000000000000000000000000000000000000000c00000022
abbrev mask175 : Nat := 0xc00000000000000000000000000000000000000000000000000000000000000c000000000000020
abbrev mask176 : Nat := 0xc000000000000000000000000000000000000000480000000000000000000000000000000000020
abbrev mask177 : Nat := 0xc0000000000000000000000000000000000000000000000000000000600000000000000000000a0
abbrev mask178 : Nat := 0xc0000000000000000000000000000000000000000000000000000000620000000000000020000a0
abbrev mask179 : Nat := 0x20001000000020
abbrev mask180 : Nat := 0xc000000000000000000000000000000000810000000000c000000000600000800000000020e26e0
abbrev mask181 : Nat := 0x7ffffffffffffffffffffffffffffffffffffffffffffffffffffffffffffffffffffffffffc08020a0020
abbrev mask182 : Nat := 0xc000000000000000000000000420000000000000000000000000000000000000000000040000020
abbrev mask183 : Nat := 0xc000000000000000000000000000000000810000000000000000000000000080000000002000060
abbrev mask184 : Nat := 0xc0000000000000000000000000000000000100000006300000000000000c0000000000002000060
abbrev mask185 : Nat := 0xc00000000001c000000000000000000000000000000000000000000000000000000000c00000020
abbrev mask186 : Nat := 0x10c000000000000000000000000000000000000000000000000000000000000000000030000000020
abbrev mask187 : Nat := 0xc0000000000000000000000000000000008100000000000000000000000000000a00018020a0060
abbrev mask188 : Nat := 0xc000008000000000000000000000000000810000000000000000000000000180000000002000064
abbrev mask189 : Nat := 0x60000000000000000000000000000000000000000000000200000020
abbrev mask190 : Nat := 0x7ffffffffffffffffffffffffffffffffffffffffffffffffffffffffffffffffffffffffffc1000000020
abbrev mask191 : Nat := 0xc000008430000000000004000020000000811000000000c138703809620000e2fe08018420faff4
abbrev mask192 : Nat := 0xc0000800c0000000000000000000000000000000000000000000000000000060000002820000020
abbrev mask193 : Nat := 0xc000000000000000000000000000000000810000000000000000000000000180000000002000060
abbrev mask194 : Nat := 0xc000000000000000000000000000000000000000000003e0000000f0600000000000000020c00a0
abbrev mask195 : Nat := 0xc0c00006000000001800000180300000018320c06000c00000000180000c300000000000002000020
abbrev mask196 : Nat := 0xc000008000000000000000000000000000810000000000000000000000000080000000002000064
abbrev mask197 : Nat := 0x10000000000000000000000000000000000000000000000600000022
abbrev mask198 : Nat := 0xc0000000000000000000000009e0000000810583800080000000000000000000000000042e00020
abbrev mask199 : Nat := 0x20000000000000000000000000000000000002000020
abbrev mask200 : Nat := 0xe0000000000000000000000000000000000000000000000000000000000020
abbrev mask201 : Nat := 0x7fffffffffffffffffffffffffffffffffffffffffffffffffffffffffffffffffffffffffff7c221a06e6
abbrev mask202 : Nat := 0xc000000000000000000000000002880010000000000000000000000000000000000000820000020
abbrev mask203 : Nat := 0xc000000000000000000000000000000000000000000800000000000000000000000000000000020
abbrev mask204 : Nat := 0xc000000000000000000000000003880010000000000000000000000000000000000000820000020
abbrev mask205 : Nat := 0x7ffffffffffffffffffffffffffffffffffffffffffffffffffffffffffffffffffffffffffc1c620e07e0
abbrev mask206 : Nat := 0x7ffffffffffffffffffffffffffffffffffffffffffffffffffffffffffffffffffffffffffffffffffffa
abbrev mask207 : Nat := 0x400180000000000000000000000000000000000000000000000000000000000000002000000020
abbrev mask208 : Nat := 0xc000000000000000000000000000000000810000000000000000000000000000000000002200020
abbrev mask209 : Nat := 0x6000000000000000060
abbrev mask210 : Nat := 0x7fffffffffffffffffffffffffffffffffffffffffffffffffffffffffffffffffffffffffff3c621fa7e4
abbrev mask211 : Nat := 0xc0000000000000004e00040000200000049b001f000000c13f7e3e08620000608e0a018432faff0
abbrev mask212 : Nat := 0x3000000000000000000000000000000000000000000000000020
abbrev mask213 : Nat := 0xc0000000000000000e2ff000c000410c000000000000000000000000000000000000001a0000020
abbrev mask214 : Nat := 0x300000000000000000000000000000000000020
abbrev mask215 : Nat := 0xc0000000000000000007f0000000000000000000000000000000000000000000000000040000020
abbrev mask216 : Nat := 0xc000000000000000000000000000000000002000000000000000000200000000000000000000620
abbrev mask217 : Nat := 0x20000000000000000000000000010000020
abbrev mask218 : Nat := 0x620000000000000000000000000000000000000000000000000000000020
abbrev mask219 : Nat := 0x7fffffffffffffffffffffffffffffffffffffffffffffffffffffffffffffffffffffffffffbc221a06e4
abbrev mask220 : Nat := 0xc0000000000000000e00000000000000041a0000000000000000000000000000000000002000020
abbrev mask221 : Nat := 0xc00000000000000000000001000c000000000000000000000000000000000000000000200000020
abbrev mask222 : Nat := 0x4000000000000000000000000000000000000000000000000000000000c00000022
abbrev mask223 : Nat := 0x7800000c000000000000000000000000000000000000000000000000000000000000000000004800000020
abbrev mask224 : Nat := 0x880000000000000000000000000000000000000000000000000000000000000002000000024
abbrev mask225 : Nat := 0xc000000000000000000000000000000000010000040600000000000000000000000000002000020
abbrev mask226 : Nat := 0xc000000000000000000000000000000000000000000000000000400000000000000000000002020
abbrev mask227 : Nat := 0xc0000000000000000000000000000000000000000000000000000000000020
abbrev mask228 : Nat := 0xc0000000000000000000000000038ac210000000000000000000000000000000000000822000020
abbrev mask229 : Nat := 0x7fffffffffffffffffffffffffffffffffffffffffffffffffffffffffffffffffffffffffff3c221a06e0
abbrev mask230 : Nat := 0x20000000000000000000000000000000000000000000000000000000000000800000020
abbrev mask231 : Nat := 0xc0000000000001f8000000000000000000000000000000000000000000000000000000000000020
abbrev mask232 : Nat := 0x7fffffffffffffffffffffffffffffffffffffffffffffffffffffffffffffffffffffffffffbe221ea6e6
abbrev mask233 : Nat := 0x10800000000000000000000000000000000002000120
abbrev mask234 : Nat := 0x7800000c580182000000000000000000000000000000000000000000000000000000000000006800000022
abbrev mask235 : Nat := 0xc000008438000000000000000000000000810000000000000000000000000080020000002000060
abbrev mask236 : Nat := 0xc000000000000000000000000000000000810000000000000000000000000000800001002000020
abbrev mask237 : Nat := 0xc000000420000000000000000000000000000000000000000000000000000000000000000000020
abbrev mask238 : Nat := 0x300000000000000000000000000000000000000000000000020
abbrev mask239 : Nat := 0xc00000000000000000000000000000000000000048000000000000000000000000000000c000020
abbrev mask240 : Nat := 0xc00000000000000000000000c9e38af610c10583fb39e000000000000000000000000087ee000a0
abbrev mask241 : Nat := 0xc0c00006000000001800000180300000018300c06000c00000000180000c30000c000000000000024
abbrev mask242 : Nat := 0xc0000000000000000e0ff0000000300000000000000000000000000000000000000000020000024
abbrev mask243 : Nat := 0x10000000000000000000000010000000000002000020
abbrev mask244 : Nat := 0x7800000c000000006024004000000000000000000000000000000000000000000000000000004e20000022
abbrev mask245 : Nat := 0xc0000000000000000e07f000c0000000000000000000000000000000000000000000001a0000020
abbrev mask246 : Nat := 0xc0000000000000000000000000200000000100000000000000000000620000000000000420201a0
abbrev mask247 : Nat := 0xc0000000000000000000000000000000008100000000000000000000000000008000018020a0060
abbrev mask248 : Nat := 0xc000000000000000000000000000000000000000010140000000000000000000000000010000020
abbrev mask249 : Nat := 0xc000000000000000000000000020000000810000000000c138703808620000028408010420fa1a0
abbrev mask250 : Nat := 0xc00000000000000000000000c0038ad610000000000000000000000000000000000000822000020
abbrev mask251 : Nat := 0x7800010c00000000005c000000000000000000000000000000000000000000000000010000034c00000026
abbrev mask252 : Nat := 0xc0620000000000000000000000000000000000000000000000000000000020
abbrev mask253 : Nat := 0xc0000000000000000e07f0000000000000000000000000000000000000000000000000100000026
abbrev mask254 : Nat := 0x1c8000000000000000000000000000000000000000000000000000000000000000002000000020
abbrev mask255 : Nat := 0xc0000000000000000e2ff000c003490e000000000000000000000000000000000000001a0000020
abbrev mask256 : Nat := 0x7c000000000000000000000000000000000000000000000000000000000000000000000000000020
abbrev mask257 : Nat := 0xc0000000000000000000000000000000000000000000000000003800600000000000000020100a0
abbrev mask258 : Nat := 0x10200000000000000000000000000000000000000020000020
abbrev mask259 : Nat := 0xc000000000000000000004000000000000000000000000000000000000000002840001000000020
abbrev mask260 : Nat := 0xc000000000000000000000000000000000000000400000000000000000000000000000000000020
abbrev mask261 : Nat := 0x7000000000000000000000000000000000000000000000000000000000000000000000000000000020
abbrev mask262 : Nat := 0xc00000000000000000000000000000000000000000000000000000000000000c000001000000024
abbrev mask263 : Nat := 0xc00000000000000000000000000c0800188100000000000000000000000c0000000000002000060
abbrev mask264 : Nat := 0x180000000000000000000000000000000000000000000000000000000000000000000000000020
abbrev mask265 : Nat := 0x100000000000000000000000000000000000000000000000000000000000000000000000020
abbrev mask266 : Nat := 0xc00000000001c000f00000000000000000000000000000000000000000000000000000c00000020
abbrev mask267 : Nat := 0x7ffffffffffffffffffffffffffffffffffffffffffffffffffffffffffffffffffffffffffc08020a20a0
abbrev mask268 : Nat := 0xc0000000000000000000000000000000008110000000000038700009600000000000000020aaea0
abbrev mask269 : Nat := 0x380000000000000000000000000000008000020
abbrev mask270 : Nat := 0x60000000000000000000000000000000000000000000000000000000000000020
abbrev mask271 : Nat := 0xc0000000000000000000000000000000000000000000000138703808600000000000000020ba0a0
abbrev mask272 : Nat := 0x200000000000000000000000000000000000400022
abbrev mask273 : Nat := 0xc000000000000000000000000000000000810008000000000000000000000000000000003200620
abbrev mask274 : Nat := 0x7ffffffffffffffffffffffffffffffffffffffffffffffffffffffffffffffffffffffffffc08420e01a0
abbrev mask275 : Nat := 0xc0000000000000000201d0000000000000000000000000000000000000000000000000000000020
abbrev mask276 : Nat := 0x7ffffffffffffffffffffffffffffffffffffffffffffffffffffffffffffffffffffffffffc0802000020
abbrev mask277 : Nat := 0x7800000c000002040000000000000000000000000000000000000000000000000000000000004800000026
abbrev mask278 : Nat := 0x10000000000000000000000000000000000000000000000020
abbrev mask279 : Nat := 0xc00000000000000000000000042000000000000038000000000000000000000000000004c000020
abbrev mask280 : Nat := 0x8000000000000000000000000000000000000000000000000000000000000000000000000000000020
abbrev mask281 : Nat := 0xc000000000000000000000000020000000010000000000c00000002063c000000000000420c01a0
abbrev mask282 : Nat := 0xc0c00006000000001800000180300000018300c06000c00000000180000c300000000000000000020
abbrev mask283 : Nat := 0x200000000002000020
abbrev mask284 : Nat := 0x7800000c00000c000000000000000000000000000810000000000000000000000000180000004802000064
abbrev mask285 : Nat := 0xc000000000000000000000000000000000000000000000000000000000000010000000000000020
abbrev mask286 : Nat := 0xc00000000000000000000000002000000081000000000000000000007000060000000bc422a26f0
abbrev mask287 : Nat := 0x7ffffffffffffffffffffffffffffffffffffffffffffffffffffffffffffffffffffffffffc0802008020
abbrev mask288 : Nat := 0xc0000000000000000000000000000800188100000000000000000000000c0000000000002000060
abbrev mask289 : Nat := 0x7800000c00000000001c000000000000000000000000000000000000000000000000000000004c00000026
abbrev mask290 : Nat := 0xc0000000000000000e2ff00000003100000000000000000000000000000000000000001a0000020
abbrev mask291 : Nat := 0x600000000000000000000000000000000000000000000000000000000000000000000000020
abbrev mask292 : Nat := 0xc0000000000000000000000000038ac270000000000000000000000000000000000000822000020
abbrev mask293 : Nat := 0x200003000000000000000000000000000204000030000800000000000000040000000000008000000020
abbrev mask294 : Nat := 0x200000000000000000000000000000000204000030000800000000000000040000000000000000000020
abbrev mask295 : Nat := 0xc000000000000000000000000000000000000003000000003f7e0608600000000000000020a20a0
abbrev mask296 : Nat := 0xc000000000000000000000000000000000810000000000000000000000000000820001002000060
abbrev mask297 : Nat := 0x20000000000020
abbrev mask298 : Nat := 0xc0000000000000000000000000000000000000000000000000000000700000000000000000000a0
abbrev mask299 : Nat := 0x7ffffffffffffffffffffffffffffffffffffffffffffffffffffffffffffffffffffffffffc0000000020
abbrev mask300 : Nat := 0xc00000000000000000000000003c000000000000000000000000000000000000000000142000020
abbrev mask301 : Nat := 0xc000000000000000000000000000000000000000000000000000000000000060000000000000020
abbrev mask302 : Nat := 0xc00000000000000000000000000040020
abbrev mask303 : Nat := 0x400000000000000000000000000000000000000000000000040201000000020
abbrev mask304 : Nat := 0x7000000000000000000000000000000000000000000000000000000000000000000000002000000020
abbrev mask305 : Nat := 0xc0000000000000000000000000000000008110000000000038700009600000000000000020aa6a0

end Sys2Proof.Machine
end

