-- ==== Sys2Proof/Laws/OpsFrames.lean ====
section
/-! SUPPORT. Which parts of the state the operations of Machine/Ops.lean may change. -/
namespace Sys2Proof.Machine

theorem State.setVal_same : ∀ (s : State) (k v : Nat) {m : Nat}, inM m (k / 256) = true → Same m s (State.setVal s k v) := by
  intro s k v m h
  rw [inM, Bool.and_eq_true] at h
  exact { Same.refl m s with
    dictWf := dictWf_setVal s k v
    dict := fun b => absurd (h.1.symm.trans b) (by decide)
    pars := fun w ix sub b => by
      rw [State.par, val_setVal s k _ v w, if_neg]
      · rfl
      · intro e
        have e' : ix = k / 256 := by rw [← e, key]; omega
        rw [e', h.2] at b
        exact absurd b (by decide) }

theorem State.setPar_same : ∀ (s : State) (ix sub v : Nat) {m : Nat}, inM m ix = true → Same m s (State.setPar s ix sub v) := by
  intro s ix sub v m h
  refine State.setVal_same s _ v ?_
  have e : key ix sub / 256 = ix := by rw [key]; omega
  rw [e]; exact h

theorem State.cnt_same : ∀ (s : State) (ix sub : Nat) {m : Nat}, cntIn m ix = true → Same m s (State.cnt s ix sub) := by
  intro s ix sub m h
  rw [cntIn, Bool.and_eq_true, Bool.and_eq_true] at h
  unfold State.cnt
  extract_lets v s1 c
  have h1 : Same m s s1 := State.setPar_same _ _ _ _ h.1.1
  exact Same.ite (Same.refl _ _) (Same.ite
    (Same.next (Same.next h1 (State.setPar_same _ _ _ _ h.1.2)) (State.setPar_same _ _ _ _ h.2)) h1)

theorem State.cntN_same : ∀ (s : State) (ix sub n : Nat) {m : Nat}, cntIn m ix = true → Same m s (State.cntN s ix sub n) := by
  intro s ix sub n m h
  have hi : inM m ix = true := by
    rw [cntIn, Bool.and_eq_true, Bool.and_eq_true] at h
    exact h.1.1
  unfold State.cntN
  extract_lets v
  exact Same.ite (Same.refl _ _) (Same.next (State.setPar_same _ _ _ _ hi) (State.cnt_same _ _ _ h))

theorem State.cntW_same : ∀ (s : State) (ix sub n : Nat) {m : Nat}, inM m ix = true → Same m s (State.cntW s ix sub n) := by
  intro s ix sub n m h
  exact State.setPar_same _ _ _ _ h

theorem State.mark_same : ∀ (s : State) (ix sub v : Nat) {m : Nat}, inM m ix = true → Same m s (State.mark s ix sub v) := by
  intro s ix sub v m h
  exact Same.ite (State.setPar_same _ _ _ _ h) (Same.refl _ _)

theorem State.reject_same : ∀ (s : State) (c l n ix sub : Nat) {m : Nat}, rejectIn m c l = true →
    Same m s (State.reject s c l n ix sub) := by
  intro s c l n ix sub m h
  rw [rejectIn, Bool.and_eq_true] at h
  exact Same.next (State.cnt_same _ _ _ h.1) (State.setPar_same _ _ _ _ h.2)

theorem State.draw_same : ∀ (s : State), Same 0x4 s (State.draw s) := by
  intro s
  unfold State.draw
  exact (Same.set_fresh _ (Same.refl _ _) rfl)

theorem State.enter_same : ∀ (s : State) a, Same 0x12 s (State.enter s a) := by
  intro s a
  unfold State.enter
  exact (Same.set_out_now _ _ (Same.refl _ _) rfl)

theorem State.send_same : ∀ (s : State) a, Same 0x2 s (State.send s a) := by
  intro s a
  unfold State.send
  exact (Same.set_out _ (Same.refl _ _) rfl)

theorem State.alert_same : ∀ (s : State) a b, Same 0x800000000 s (State.alert s a b) := by
  intro s a b
  unfold State.alert
  exact (by
    extract_lets +onlyGivenNames -merge x0
    exact (Same.set_net _ (Same.refl _ _) rfl))

theorem State.store_same : ∀ (s : State) a, Same mask134 s (State.store s a) := by
  intro s a
  unfold State.store
  exact (by
    extract_lets +onlyGivenNames -merge x0 x1
    have h1 : Same mask134 s x1 := (Same.set_cw _ (Same.refl _ _) rfl)
    exact (Same.next h1 (State.mark_same _ _ _ _ rfl)))

theorem State.admitItem_same : ∀ (s : State) a, Same mask22 s (State.admitItem s a) := by
  intro s a
  unfold State.admitItem
  exact (by
    extract_lets +onlyGivenNames -merge x0
    have h0 : Same mask22 s x0 := (Same.mono (State.store_same ..) rfl)
    exact (Same.ite (Same.next h0 (State.cnt_same _ _ _ rfl)) h0))

theorem State.admitRec_same : ∀ (s : State) a, Same mask22 s (State.admitRec s a) := by
  intro s a
  unfold State.admitRec
  exact (Same.mono (State.admitItem_same ..) rfl)

theorem State.emitItem_same : ∀ (s : State) a, Same mask22 s (State.emitItem s a) := by
  intro s a
  unfold State.emitItem
  exact (Same.ite (Same.mono (State.admitItem_same ..) rfl) (Same.set_cw _ (Same.refl _ _) rfl))

theorem State.emit_same : ∀ (s : State) a, Same mask22 s (State.emit s a) := by
  intro s a
  unfold State.emit
  exact (Same.mono (State.emitItem_same ..) rfl)

theorem State.setEdge_same : ∀ (s : State) a b, Same 0x80 s (State.setEdge s a b) := by
  intro s a b
  unfold State.setEdge
  exact (Same.set_edge _ (Same.refl _ _) rfl)

theorem State.setRun_same : ∀ (s : State) a b, Same 0x100 s (State.setRun s a b) := by
  intro s a b
  unfold State.setRun
  exact (Same.set_run _ (Same.refl _ _) rfl)

theorem State.loseEvent_same : ∀ (s : State) a b, Same mask159 s (State.loseEvent s a b) := by
  intro s a b
  unfold State.loseEvent
  exact (by
    extract_lets +onlyGivenNames -merge x0 x1
    have h1 : Same mask159 s x1 := (Same.mono (State.setEdge_same ..) rfl)
    exact (Same.ite (Same.next h1 (State.cnt_same _ _ _ rfl)) h1))

theorem State.buffer_same : ∀ (s : State) a, Same mask177 s (State.buffer s a) := by
  intro s a
  unfold State.buffer
  exact (by
    extract_lets +onlyGivenNames -merge x0
    exact (Same.ite (Same.mono (State.loseEvent_same ..) rfl) (by
      extract_lets +onlyGivenNames -merge x0 x1
      have h1 : Same mask177 s x1 := (Same.mono (State.setEdge_same ..) rfl)
      exact (Same.ite (Same.next h1 (State.mark_same _ _ _ _ rfl)) h1))))

end Sys2Proof.Machine
end

