-- ==== Sys2Proof/Laws/GuardFrames.lean ====
section
/-! SUPPORT. Which parts of the state the operations of Machine/Guard.lean may change. -/
namespace Sys2Proof.Machine

theorem State.setOut_same : ∀ (s : State) a b c, Same 0x600 s (State.setOut s a b c) := by
  intro s a b c
  unfold State.setOut
  exact (by
    split
    · exact (Same.set_guard _ (Same.refl _ _) rfl)
    · exact (Same.set_line _ (Same.refl _ _) rfl))

theorem State.holdBegins_same : ∀ (s : State) a b, Same 0x600 s (State.holdBegins s a b) := by
  intro s a b
  unfold State.holdBegins
  exact (by
    extract_lets +onlyGivenNames -merge x0
    exact (by
      split
      · exact (Same.mono (State.setOut_same ..) rfl)
      · exact (Same.refl _ _)))

theorem State.safeEnter_same : ∀ (s : State) a b c d, Same mask98 s (State.safeEnter a b c s d) := by
  intro s a b c d
  unfold State.safeEnter
  exact (Same.ite (Same.refl _ _) (by
    extract_lets +onlyGivenNames -merge x0 x1
    exact (Same.ite (Same.mono (State.setOut_same ..) rfl) (by
      extract_lets +onlyGivenNames -merge x0 x1
      have h0 : Same mask98 s x0 := (Same.then (Same.mono (State.setOut_same ..) rfl) (State.holdBegins_same ..) rfl)
      have h1 : Same mask98 s x1 := (Same.next h0 (State.cnt_same _ _ _ (cntIn_of (inM_outPar _ rfl) rfl)))
      exact (Same.then h1 (State.emit_same ..) rfl)))))

theorem State.safeEnterAll_same : ∀ (s : State) a b, Same mask98 s (State.safeEnterAll s a b) := by
  intro s a b
  unfold State.safeEnterAll
  exact (by
    extract_lets +onlyGivenNames -merge x0
    have h0 : Same mask98 s x0 := (Same.foldl _ (Same.refl _ _) (fun _ _ => Same.mono (State.safeEnter_same ..) rfl))
    exact (Same.foldl _ h0 (fun _ _ => Same.mono (State.safeEnter_same ..) rfl)))

theorem State.releaseRequest_same : ∀ (s : State) a b, Same mask216 s (State.releaseRequest s a b) := by
  intro s a b
  unfold State.releaseRequest
  exact (by
    extract_lets +onlyGivenNames -merge x0 x1 x2
    have h2 : Same mask216 s x2 := (Same.mono (State.setOut_same ..) rfl)
    exact (Same.ite h2 (Same.ite (Same.next h2 (State.cnt_same _ _ _ (cntIn_of (inM_outPar _ rfl) rfl))) (Same.then h2 (State.setOut_same ..) rfl))))

theorem State.follow_same : ∀ (s : State) a b, Same 0x600 s (State.follow a s b) := by
  intro s a b
  unfold State.follow
  exact (by
    extract_lets +onlyGivenNames -merge x0
    exact (Same.ite (Same.mono (State.setOut_same ..) rfl) (Same.refl _ _)))

theorem State.causesClear_same : ∀ (s : State), Same 0x600 s (State.causesClear s) := by
  intro s
  unfold State.causesClear
  exact (Same.ite (Same.refl _ _) (by
    extract_lets +onlyGivenNames -merge x0
    have h0 : Same 0x600 s x0 := (Same.foldl _ (Same.refl _ _) (fun _ _ => Same.mono (State.follow_same ..) rfl))
    exact (Same.foldl _ h0 (fun _ _ => Same.mono (State.follow_same ..) rfl))))

theorem State.releaseEffect_same : ∀ (s : State) a b, Same mask160 s (State.releaseEffect s a b) := by
  intro s a b
  unfold State.releaseEffect
  exact (by
    extract_lets +onlyGivenNames -merge x0
    exact (by
      split
      · exact (Same.ite (by
        extract_lets +onlyGivenNames -merge x0
        have h0 : Same mask160 s x0 := (Same.mono (State.setOut_same ..) rfl)
        exact (Same.then h0 (State.emit_same ..) rfl)) (Same.refl _ _))
      · exact (Same.refl _ _)))

theorem State.outEnableEffect_same : ∀ (s : State) a b c d, Same 0x600 s (State.outEnableEffect s a b c d) := by
  intro s a b c d
  unfold State.outEnableEffect
  exact (Same.ite (Same.mono (State.setOut_same ..) rfl) (Same.ite (Same.mono (State.holdBegins_same ..) rfl) (Same.refl _ _)))

theorem State.overrideEffect_same : ∀ (s : State) a, Same 0x600 s (State.overrideEffect s a) := by
  intro s a
  unfold State.overrideEffect
  exact (Same.ite (Same.mono (State.setOut_same ..) rfl) (Same.refl _ _))

end Sys2Proof.Machine
end

