-- ==== Sys2Proof/Laws/FrontEndFrames.lean ====
section
/-! SUPPORT. Which parts of the state the operations of Machine/FrontEnd.lean may change. -/
namespace Sys2Proof.Machine

theorem State.laneRecord_same : ∀ (s : State) a, Same mask30 s (State.laneRecord s a) := by
  intro s a
  unfold State.laneRecord
  exact (Same.ite (Same.mono (State.buffer_same ..) rfl) (Same.set_cw _ (Same.refl _ _) rfl))

theorem State.laneStatus_same : ∀ (s : State) a b c d e, Same mask30 s (State.laneStatus s a b c d e) := by
  intro s a b c d e
  unfold State.laneStatus
  exact (Same.ite (Same.mono (State.laneRecord_same ..) rfl) (Same.refl _ _))

theorem State.setConv_same : ∀ (s : State) a b, Same 0x20000 s (State.setConv s a b) := by
  intro s a b
  unfold State.setConv
  exact (Same.set_conv _ (Same.refl _ _) rfl)

theorem State.unsettle_same : ∀ (s : State) a b, Same 0x20000 s (State.unsettle s a b) := by
  intro s a b
  unfold State.unsettle
  exact (by
    extract_lets +onlyGivenNames -merge x0 x1 x2 x3
    exact (Same.mono (State.setConv_same ..) rfl))

theorem State.checkSkips_same : ∀ (s : State) a b c, Same 0x80000 s (State.checkSkips s a b c) := by
  intro s a b c
  unfold State.checkSkips
  exact (by
    split
    · exact (Same.ite (Same.set_overlap _ (Same.refl _ _) rfl) (Same.refl _ _))
    · exact (Same.refl _ _))

theorem State.settleCause_same : ∀ (s : State) a b, Same 0xa0000 s (State.settleCause s a b) := by
  intro s a b
  unfold State.settleCause
  exact (Same.ite (by
    extract_lets +onlyGivenNames -merge x0
    have h0 : Same 0xa0000 s x0 := (Same.mono (State.unsettle_same ..) rfl)
    exact (Same.then (Same.then h0 (State.setConv_same ..) rfl) (State.checkSkips_same ..) rfl)) (Same.refl _ _))

theorem State.checkCondition_same : ∀ (s : State) a b c d e, Same 0x80000 s (State.checkCondition s a b c d e) := by
  intro s a b c d e
  unfold State.checkCondition
  exact (by
    split
    · exact (Same.ite (Same.refl _ _) (by
      extract_lets +onlyGivenNames -merge x0
      exact (Same.set_overlap _ (Same.refl _ _) rfl)))
    · exact (Same.refl _ _))

theorem State.settleStart_same : ∀ (s : State) a b, Same 0x20000 s (State.settleStart s a b) := by
  intro s a b
  unfold State.settleStart
  exact (Same.ite (by
    extract_lets +onlyGivenNames -merge x0
    have h0 : Same 0x20000 s x0 := (Same.mono (State.unsettle_same ..) rfl)
    exact (Same.then h0 (State.setConv_same ..) rfl)) (Same.refl _ _))

theorem State.settleLanes_same : ∀ (s : State) a b, Same 0xa0000 s (State.settleLanes s a b) := by
  intro s a b
  unfold State.settleLanes
  exact (Same.foldl _ (Same.refl _ _) (fun sv _ => (Same.mono (State.settleCause_same ..) rfl)))

theorem State.overlapUnsettled_same : ∀ (s : State) a b c, Same 0x20000 s (State.overlapUnsettled s a b c) := by
  intro s a b c
  unfold State.overlapUnsettled
  exact (by
    extract_lets +onlyGivenNames -merge x0 x1 x2 x3
    exact (Same.ite (Same.mono (State.setConv_same ..) rfl) (Same.refl _ _)))

theorem State.routeRefused_same : ∀ (s : State) a b, Same mask131 s (State.routeRefused s a b) := by
  intro s a b
  unfold State.routeRefused
  exact (Same.next (State.cnt_same _ _ _ rfl) (State.setPar_same _ _ _ _ rfl))

theorem State.setEx_same : ∀ (s : State) a b, Same 0x2000 s (State.setEx s a b) := by
  intro s a b
  unfold State.setEx
  exact (Same.set_ex _ (Same.refl _ _) rfl)

theorem State.exNote_same : ∀ (s : State) a b, Same 0x2000 s (State.exNote s a b) := by
  intro s a b
  unfold State.exNote
  exact (by
    extract_lets +onlyGivenNames -merge x0 x1 x2
    exact (Same.mono (State.setEx_same ..) rfl))

theorem State.exFlagLane_same : ∀ (s : State) a b c d e, Same mask102 s (State.exFlagLane a b c d s e) := by
  intro s a b c d e
  unfold State.exFlagLane
  exact (Same.ite (by
    extract_lets +onlyGivenNames -merge x0
    have h0 : Same mask102 s x0 := (Same.ite (State.cnt_same _ _ _ rfl) (Same.refl _ _))
    exact (Same.then h0 (State.laneStatus_same ..) rfl)) (Same.mono (State.laneStatus_same ..) rfl))

theorem State.exClear_same : ∀ (s : State) a b c, Same mask161 s (State.exClear s a b c) := by
  intro s a b c
  unfold State.exClear
  exact (by
    extract_lets +onlyGivenNames -merge x0
    exact (Same.ite (Same.refl _ _) (by
      extract_lets +onlyGivenNames -merge x0 x1
      have h1 : Same mask161 s x1 := (Same.then (State.setPar_same _ _ _ _ (inM_exIx _ (by split <;> rfl))) (State.checkCondition_same ..) rfl)
      exact (Same.then (Same.foldl _ h1 (fun _ _ => Same.mono (State.exFlagLane_same ..) rfl)) (State.settleLanes_same ..) rfl))))

theorem State.exEnter_same : ∀ (s : State) a b c, Same mask5 s (State.exEnter s a b c) := by
  intro s a b c
  unfold State.exEnter
  exact (by
    extract_lets +onlyGivenNames -merge x0
    have h0 : Same mask5 s x0 := (Same.ite (Same.refl _ _) (Same.then (Same.mono (State.exClear_same ..) rfl) (State.exClear_same ..) rfl))
    exact (Same.then (Same.next h0 (State.setPar_same _ _ _ _ (inM_exIx _ rfl))) (State.exNote_same ..) rfl))

theorem State.exSafeEnter_same : ∀ (s : State) a b c, Same mask5 s (State.exSafeEnter a b s c) := by
  intro s a b c
  unfold State.exSafeEnter
  exact (by
    extract_lets +onlyGivenNames -merge x0 x1
    have h1 : Same mask5 s x1 := (Same.mono (State.setEx_same ..) rfl)
    exact (Same.ite (by
      extract_lets +onlyGivenNames -merge x0
      have h0 : Same mask5 s x0 := (Same.then h1 (State.exEnter_same ..) rfl)
      exact (Same.foldl _ h0 (fun sv _ => (Same.ite (Same.mono (State.laneRecord_same ..) rfl) (Same.refl _ _))))) h1))

theorem State.safeEverything_same : ∀ (s : State) a b, Same mask305 s (State.safeEverything s a b) := by
  intro s a b
  unfold State.safeEverything
  exact (by
    extract_lets +onlyGivenNames -merge x0 x1
    have h0 : Same mask305 s x0 := (Same.mono (State.safeEnterAll_same ..) rfl)
    have h1 : Same mask305 s x1 := (Same.foldl _ h0 (fun _ _ => Same.mono (State.exSafeEnter_same ..) rfl))
    exact (Same.set_tone _ h1 rfl))

theorem State.exRelease_same : ∀ (s : State) a, Same mask226 s (State.exRelease s a) := by
  intro s a
  unfold State.exRelease
  exact (by
    extract_lets +onlyGivenNames -merge x0 x1 x2
    have h2 : Same mask226 s x2 := (Same.mono (State.setEx_same ..) rfl)
    exact (Same.ite h2 (Same.ite (Same.next h2 (State.cnt_same _ _ _ rfl)) (Same.then h2 (State.setEx_same ..) rfl))))

theorem State.exReleaseEffect_same : ∀ (s : State) a, Same mask136 s (State.exReleaseEffect s a) := by
  intro s a
  unfold State.exReleaseEffect
  exact (by
    extract_lets +onlyGivenNames -merge x0
    exact (by
      split
      · exact (Same.ite (by
        extract_lets +onlyGivenNames -merge x0 x1
        have h0 : Same mask136 s x0 := (Same.mono (State.setEx_same ..) rfl)
        have h1 : Same mask136 s x1 := (Same.ite (Same.then (Same.then h0 (State.exEnter_same ..) rfl) (State.settleLanes_same ..) rfl) (Same.then h0 (State.exEnter_same ..) rfl))
        exact (Same.then h1 (State.emit_same ..) rfl)) (Same.refl _ _))
      · exact (Same.refl _ _)))

theorem State.exEnableEffect_same : ∀ (s : State) a b c, Same mask5 s (State.exEnableEffect s a b c) := by
  intro s a b c
  unfold State.exEnableEffect
  exact (Same.ite (Same.ite (Same.mono (State.settleLanes_same ..) rfl) (by
    extract_lets +onlyGivenNames -merge x0
    exact (Same.then (Same.mono (State.exEnter_same ..) rfl) (State.settleLanes_same ..) rfl))) (by
    extract_lets +onlyGivenNames -merge x0 x1
    have h1 : Same mask5 s x1 := (Same.mono (State.setEx_same ..) rfl)
    exact (Same.then (Same.ite h1 (Same.then h1 (State.exEnter_same ..) rfl)) (State.settleLanes_same ..) rfl)))

theorem State.exChange_same : ∀ (s : State) a b, Same 0xa2000 s (State.exChange s a b) := by
  intro s a b
  unfold State.exChange
  exact (Same.then (Same.mono (State.exNote_same ..) rfl) (State.settleLanes_same ..) rfl)

theorem State.biasFlag_same : ∀ (s : State) a b c, Same mask140 s (State.biasFlag s a b c) := by
  intro s a b c
  unfold State.biasFlag
  exact (Same.ite (Same.refl _ _) (by
    extract_lets +onlyGivenNames -merge x0
    have h0 : Same mask140 s x0 := (Same.then (State.setPar_same _ _ _ _ rfl) (State.checkCondition_same ..) rfl)
    exact (Same.foldl _ h0 (fun sv _ => (by
      extract_lets +onlyGivenNames -merge x0
      have h0 : Same mask140 sv x0 := (Same.mono (State.laneStatus_same ..) rfl)
      exact (Same.ite h0 (Same.then h0 (State.settleCause_same ..) rfl)))))))

theorem State.caReset_same : ∀ (s : State) a b c d e, Same mask35 s (State.caReset s a b c d e) := by
  intro s a b c d e
  unfold State.caReset
  exact (by
    extract_lets +onlyGivenNames -merge x0
    exact (Same.ite (Same.refl _ _) (Same.ite (by
      split
      · exact (Same.ite (by
        extract_lets +onlyGivenNames -merge x0
        have h0 : Same mask35 s x0 := (Same.set_ca _ (Same.refl _ _) rfl)
        exact (by
          split
          · exact (by
            extract_lets +onlyGivenNames -merge x0 x1
            have h1 : Same mask35 s x1 := (Same.then h0 (State.setEdge_same ..) rfl)
            exact (Same.set_cw _ h1 rfl))
          · exact h0)) (Same.refl _ _))
      · exact (Same.refl _ _)) (by
      extract_lets +onlyGivenNames -merge x0
      have h0 : Same mask35 s x0 := (Same.next (Same.set_ca _ (Same.refl _ _) rfl) (State.cntW_same _ _ _ _ (inM_exIx _ rfl)))
      exact (by
        split
        · exact (by
          extract_lets +onlyGivenNames -merge x0
          have h0 : Same mask35 s x0 := (Same.then h0 (State.laneRecord_same ..) rfl)
          exact (Same.then (Same.then (Same.then h0 (State.overlapUnsettled_same ..) rfl) (State.checkSkips_same ..) rfl) (State.settleCause_same ..) rfl))
        · exact h0)))))

theorem State.fcReport_same : ∀ (s : State) a b c, Same mask106 s (State.fcReport s a b c) := by
  intro s a b c
  unfold State.fcReport
  exact (by
    extract_lets +onlyGivenNames -merge x0 x1 x2 x3 x4
    have h4 : Same mask106 s x4 := (Same.next (Same.mono (State.setEdge_same ..) rfl) (State.setPar_same _ _ _ _ rfl))
    exact (Same.ite h4 (Same.then h4 (State.buffer_same ..) rfl)))

theorem State.fcSee_same : ∀ (s : State) a b c, Same mask116 s (State.fcSee s a b c) := by
  intro s a b c
  unfold State.fcSee
  exact (by
    extract_lets +onlyGivenNames -merge x0 x1 x2 x3
    have h3 : Same mask116 s x3 := (Same.ite (Same.refl _ _) (Same.mono (State.draw_same ..) rfl))
    exact (Same.ite h3 (Same.then h3 (State.fcReport_same ..) rfl)))

theorem State.clampFlag_same : ∀ (s : State) a b c d, Same mask257 s (State.clampFlag s a b c d) := by
  intro s a b c d
  unfold State.clampFlag
  exact (by
    extract_lets +onlyGivenNames -merge x0
    exact (Same.ite (Same.refl _ _) (by
      extract_lets +onlyGivenNames -merge x0 x1 x2 x3 x4 x5
      have h3 : Same mask257 s x3 := (State.setPar_same _ _ _ _ rfl)
      have h4 : Same mask257 s x4 := (Same.set_clamp _ h3 rfl)
      have h5 : Same mask257 s x5 := (Same.ite (Same.next (Same.next h4 (State.cnt_same _ _ _ rfl)) (State.setPar_same _ _ _ _ rfl)) h4)
      exact (Same.then h5 (State.laneStatus_same ..) rfl))))

theorem State.toneBurst_same : ∀ (s : State) a b, Same mask79 s (State.toneBurst s a b) := by
  intro s a b
  unfold State.toneBurst
  exact (by
    extract_lets +onlyGivenNames -merge x0 x1 x2 x3 x4 x5
    have h4 : Same mask79 s x4 := (State.cntN_same _ _ _ _ rfl)
    have h5 : Same mask79 s x5 := (Same.set_tone _ h4 rfl)
    exact (Same.foldl _ h5 (fun sv _ => (Same.ite (Same.then (Same.mono (State.overlapUnsettled_same ..) rfl) (State.settleCause_same ..) rfl) (Same.refl _ _)))))

theorem State.toneResult_same : ∀ (s : State) a b c, Same mask127 s (State.toneResult s a b c) := by
  intro s a b c
  unfold State.toneResult
  exact (by
    extract_lets +onlyGivenNames -merge x0 x1 x2 x3
    have h1 : Same mask127 s x1 := (State.setPar_same _ _ _ _ rfl)
    exact (Same.ite (Same.then (Same.next (Same.then h1 (State.setConv_same ..) rfl) (State.cnt_same _ _ _ rfl)) (State.laneStatus_same ..) rfl) (Same.ite (Same.then (Same.then h1 (State.setConv_same ..) rfl) (State.laneStatus_same ..) rfl) h1)))

theorem State.conditionsOf_same : ∀ (s : State) a b, Same mask30 s (State.conditionsOf s a b) := by
  intro s a b
  unfold State.conditionsOf
  extract_lets +onlyGivenNames -merge p one s1 s2 s3
  have ho : ∀ u v c k l w, Same mask30 u v → Same mask30 u (one v c k l w) := fun u v c k l w h =>
    Same.ite (Same.then h (State.laneStatus_same ..) rfl) h
  have h1 : Same mask30 s s1 := Same.foldl _ (Same.refl _ _) (fun _ _ => ho _ _ _ _ _ _ (ho _ _ _ _ _ _ (Same.refl _ _)))
  exact Same.foldl _ (ho _ _ _ _ _ _ (ho _ _ _ _ _ _ h1)) (fun _ _ => ho _ _ _ _ _ _ (Same.refl _ _))

end Sys2Proof.Machine
end

