-- ==== Sys2Proof/Laws/ActionsFrames.lean ====
section
/-! SUPPORT. Which parts of the state the operations of Machine/Actions.lean may change. -/
namespace Sys2Proof.Machine

theorem State.loadAction_same : ∀ (s : State) a b, Same mask109 s (State.loadAction s a b) := by
  intro s a b
  unfold State.loadAction
  exact (by
    extract_lets +onlyGivenNames -merge x0 x1 x2 x3
    exact (Same.ite (by
      extract_lets +onlyGivenNames -merge x0
      exact (Same.then (Same.next (Same.set_slots _ (Same.refl _ _) rfl) (State.mark_same _ _ _ _ rfl)) (State.emit_same ..) rfl)) (by
      extract_lets +onlyGivenNames -merge x0
      have h0 : Same mask109 s x0 := (Same.next (Same.next (Same.set_slots _ (Same.refl _ _) rfl) (State.cnt_same _ _ _ rfl)) (State.setPar_same _ _ _ _ rfl))
      exact (Same.then h0 (State.emit_same ..) rfl))))

theorem State.queueMarkOut_same : ∀ (s : State) a b, Same mask147 s (State.queueMarkOut s a b) := by
  intro s a b
  unfold State.queueMarkOut
  exact (Same.ite (State.cnt_same _ _ _ rfl) (by
    extract_lets +onlyGivenNames -merge x0
    exact (Same.set_markOut_markOutNum _ _ (Same.refl _ _) rfl)))

theorem State.noteDriven_same : ∀ (s : State) a b, Same 0x1000000 s (State.noteDriven s a b) := by
  intro s a b
  unfold State.noteDriven
  exact (by
    extract_lets +onlyGivenNames -merge x0
    exact (Same.set_driven _ (Same.refl _ _) rfl))

theorem State.guardRecord_same : ∀ (s : State) a b c, Same mask164 s (State.guardRecord s a b c) := by
  intro s a b c
  unfold State.guardRecord
  exact (by
    extract_lets +onlyGivenNames -merge x0
    have h0 : Same mask164 s x0 := (Same.ite (State.cnt_same _ _ _ rfl) (Same.refl _ _))
    exact (by
      split
      · exact (Same.ite (Same.set_cw _ h0 rfl) (Same.then h0 (State.emit_same ..) rfl))
      · exact (Same.then h0 (State.emit_same ..) rfl)))

theorem State.pulseEndRecord_same : ∀ (s : State) a b c d e, Same mask156 s (State.pulseEndRecord s a b c d e) := by
  intro s a b c d e
  unfold State.pulseEndRecord
  exact (by
    extract_lets +onlyGivenNames -merge x0 x1
    have h1 : Same mask156 s x1 := (Same.set_slots _ (Same.refl _ _) rfl)
    exact (Same.then h1 (State.guardRecord_same ..) rfl))

theorem State.endPulse_same : ∀ (s : State) a b c d, Same mask273 s (State.endPulse s a b c d) := by
  intro s a b c d
  unfold State.endPulse
  exact (by
    extract_lets +onlyGivenNames -merge x0
    exact (by
      split
      · exact (Same.ite (Same.refl _ _) (by
        extract_lets +onlyGivenNames -merge x0 x1 x2
        have h1 : Same mask273 s x1 := (Same.mono (State.setOut_same ..) rfl)
        have h2 : Same mask273 s x2 := (Same.ite (Same.then h1 (State.noteDriven_same ..) rfl) h1)
        exact (Same.then h2 (State.pulseEndRecord_same ..) rfl)))
      · exact (Same.refl _ _)))

theorem State.applyOut_same : ∀ (s : State) k n d l, Same 0x600 s (State.applyOut s k n d l) := by
  intro s k n d l
  induction l generalizing s with
  | nil => exact Same.refl _ _
  | cons x l ih =>
    unfold State.applyOut
    extract_lets o s1
    exact Same.then (Same.ite (Same.mono (State.setOut_same ..) rfl) (Same.mono (State.setOut_same ..) rfl)) (ih _) rfl

theorem State.outRecords_same : ∀ (s : State) a b c d e f, Same mask164 s (State.outRecords a b c d e s f) := by
  intro s a b c d e f
  unfold State.outRecords
  exact (by
    extract_lets +onlyGivenNames -merge x0 x1
    exact (Same.mono (State.guardRecord_same ..) rfl))

theorem State.performOut_same : ∀ (s : State) a b c d e, Same mask143 s (State.performOut s a b c d e) := by
  intro s a b c d e
  unfold State.performOut
  extract_lets +onlyGivenNames -merge x0 x1 x2 x3 x4 x5 x6 x7 x8
  have h4 : Same mask143 s x4 := Same.mono (State.applyOut_same ..) rfl
  have h5 : Same mask143 s x5 := Same.ite (Same.then h4 (State.noteDriven_same ..) rfl) h4
  have h6 : Same mask143 s x6 := Same.ite (Same.next h5 (State.cnt_same _ _ _ rfl)) h5
  have h7 : Same mask143 s x7 := by
    unfold x7
    generalize x1 = o
    cases o with
    | some p => exact Same.then h6 (State.pulseEndRecord_same ..) rfl
    | none => exact h6
  exact Same.next (Same.foldl _ h7 (fun _ _ => Same.mono (State.outRecords_same ..) rfl)) (State.cntW_same _ _ _ _ rfl)

theorem State.excite_same : ∀ (s : State) a b, Same mask295 s (State.excite s a b).1 := by
  intro s a b
  have hp : ∀ i j v, inM mask295 i = true → Same mask295 s (s.setPar i j v) := fun _ _ _ h => State.setPar_same _ _ _ _ h
  have he : ∀ i j v k o t, inM mask295 i = true → Same mask295 s ((s.setPar i j v).exEnableEffect k o t) :=
    fun i j v _ _ _ h => Same.then (hp i j v h) (State.exEnableEffect_same ..) rfl
  have hx : ∀ i j v k t, inM mask295 i = true → Same mask295 s ((s.setPar i j v).exChange k t) :=
    fun i j v _ _ h => Same.then (hp i j v h) (State.exChange_same ..) rfl
  unfold State.excite
  extract_lets k v
  split
  · exact hx _ _ _ _ _ (inM_exIx _ rfl)
  · exact hx _ _ _ _ _ (inM_exIx _ rfl)
  · refine Same.iteP ?_ (he _ _ _ _ _ _ (inM_exIx _ rfl))
    generalize State.routeCheck _ _ _ = o
    cases o with
    | some f =>
      exact Same.next (Same.next (Same.mono (State.routeRefused_same ..) rfl) (State.cnt_same _ _ _ rfl)) (State.setPar_same _ _ _ _ rfl)
    | none => dsimp only; exact he _ _ _ _ _ _ (inM_exIx _ rfl)

theorem State.performExcite_same : ∀ (s : State) a b c, Same mask24 s (State.performExcite a b s c) := by
  intro s a b c
  unfold State.performExcite
  exact (by
    extract_lets +onlyGivenNames -merge x0 x1 x2
    have h0 : Same mask24 s x0.1 := (Same.mono (State.excite_same ..) rfl)
    have h2 : Same mask24 s x2 := (Same.then h0 (State.guardRecord_same ..) rfl)
    exact (Same.ite h2 (Same.next h2 (State.cntW_same _ _ _ _ rfl))))

theorem State.performTarget_same : ∀ (s : State) a b c d, Same mask138 s (State.performTarget a b c s d) := by
  intro s a b c d
  unfold State.performTarget
  exact (by
    extract_lets +onlyGivenNames -merge x0
    exact (by
      split
      · exact (Same.mono (State.performOut_same ..) rfl)
      · exact (Same.mono (State.performOut_same ..) rfl)
      · exact (Same.foldl _ (Same.refl _ _) (fun sv _ => (Same.mono (State.performExcite_same ..) rfl)))))

theorem State.performTick_same : ∀ (s : State) a b, Same mask138 s (State.performTick s a b) := by
  intro s a b
  unfold State.performTick
  exact (by
    extract_lets +onlyGivenNames -merge x0 x1
    have h1 : Same mask138 s x1 := (Same.set_slots _ (Same.refl _ _) rfl)
    exact (Same.foldl _ h1 (fun _ _ => Same.mono (State.performTarget_same ..) rfl)))

theorem State.enterEnd_same : ∀ (s : State) a b, Same mask208 s (State.enterEnd a s b) := by
  intro s a b
  unfold State.enterEnd
  exact (Same.ite (by
    extract_lets +onlyGivenNames -merge x0
    exact (Same.then (Same.set_slots _ (Same.refl _ _) rfl) (State.emit_same ..) rfl)) (Same.refl _ _))

theorem State.enterEnds_same : ∀ (s : State) a, Same mask208 s (State.enterEnds s a) := by
  intro s a
  unfold State.enterEnds
  exact (Same.foldl _ (Same.refl _ _) (fun _ _ => Same.mono (State.enterEnd_same ..) rfl))

theorem State.withdraw_same : ∀ (s : State), Same 0x2200000 s (State.withdraw s) := by
  intro s
  unfold State.withdraw
  exact (by
    extract_lets +onlyGivenNames -merge x0
    exact (Same.set_slots_cw _ _ (Same.refl _ _) rfl))

theorem State.performLate_same : ∀ (s : State) n, Same mask138 s (State.performLate n s) := by
  intro s n
  induction n generalizing s with
  | zero => exact Same.refl _ _
  | succ n ih =>
    have he : ∀ a b c d, Same mask138 s (State.performLate n (s.endPulse a b c d)) :=
      fun _ _ _ _ => Same.then (Same.mono (State.endPulse_same ..) rfl) (ih _) rfl
    have ht : ∀ a b, Same mask138 s (State.performLate n (s.performTick a b)) :=
      fun _ _ => Same.then (Same.mono (State.performTick_same ..) rfl) (ih _) rfl
    unfold State.performLate
    generalize s.nextDue = od
    generalize s.nextEnd = oe
    cases od with
    | none => cases oe with
      | none => exact Same.refl _ _
      | some e => exact Same.ite (he ..) (Same.refl _ _)
    | some d => cases oe with
      | none => exact Same.ite (ht ..) (Same.refl _ _)
      | some e => exact Same.ite (he ..) (Same.ite (ht ..) (Same.refl _ _))

end Sys2Proof.Machine
end

