-- ==== Sys2Proof/Laws/IntegrityFrames.lean ====
section
/-! SUPPORT. Which parts of the state the operations of Machine/Integrity.lean may change. -/
namespace Sys2Proof.Machine

theorem State.dramFixed_same : ∀ (s : State) a b, Same mask137 s (State.dramFixed s a b) := by
  intro s a b
  unfold State.dramFixed
  exact (by
    split
    · exact (Same.refl _ _)
    · exact (by
      extract_lets +onlyGivenNames -merge x0 x1 x2
      have h1 : Same mask137 s x1 := (Same.foldl _ (State.cntW_same _ _ _ _ rfl) (fun sv _ => (State.cnt_same _ _ _ rfl)))
      exact (Same.next (Same.next h1 (State.setPar_same _ _ _ _ rfl)) (State.setPar_same _ _ _ _ rfl))))

theorem State.dramBad_same : ∀ (s : State) a b c, Same mask218 s (State.dramBad s a b c) := by
  intro s a b c
  unfold State.dramBad
  exact (Same.next (Same.next (State.cntW_same _ _ _ _ rfl) (State.setPar_same _ _ _ _ rfl)) (State.setPar_same _ _ _ _ rfl))

theorem State.sramFixed_same : ∀ (s : State), Same mask42 s (State.sramFixed s) := by
  intro s
  unfold State.sramFixed
  exact (State.cntW_same _ _ _ _ rfl)

theorem State.sramBad_same : ∀ (s : State) a b, Same mask227 s (State.sramBad s a b) := by
  intro s a b
  unfold State.sramBad
  exact (Same.next (State.cntW_same _ _ _ _ rfl) (State.setPar_same _ _ _ _ rfl))

theorem State.countFixes_same : ∀ (s : State) a b, Same mask137 s (State.countFixes a s b) := by
  intro s a b
  unfold State.countFixes
  exact (by
    split
    · exact (Same.mono (State.dramFixed_same ..) rfl)
    · exact (Same.refl _ _))

theorem State.strike_same : ∀ (s : State) a, Same 0x100000000 s (State.strike s a) := by
  intro s a
  unfold State.strike
  exact (Same.set_dram _ (Same.refl _ _) rfl)

theorem State.cwFixed_same : ∀ (s : State) a b, Same mask275 s (State.cwFixed s a b) := by
  intro s a b
  unfold State.cwFixed
  exact (Same.ite (Same.refl _ _) (Same.ite (Same.mono (State.sramFixed_same ..) rfl) (Same.mono (State.dramFixed_same ..) rfl)))

theorem State.cwBad_same : ∀ (s : State) a b c, Same mask252 s (State.cwBad s a b c) := by
  intro s a b c
  unfold State.cwBad
  exact (Same.ite (Same.mono (State.sramBad_same ..) rfl) (Same.mono (State.dramBad_same ..) rfl))

theorem State.countRead_same : ∀ (s : State) a b c, Same mask46 s (State.countRead a b s c) := by
  intro s a b c
  unfold State.countRead
  exact (by
    split
    · exact (Same.mono (State.cwFixed_same ..) rfl)
    · exact (Same.mono (State.cwBad_same ..) rfl))

theorem State.countReads_same : ∀ (s : State) a b c d, Same mask46 s (State.countReads s a b c d) := by
  intro s a b c d
  unfold State.countReads
  exact (Same.foldl _ (Same.refl _ _) (fun _ _ => Same.mono (State.countRead_same ..) rfl))

theorem State.writeMem_same : ∀ (s : State) a l c n, Same mask69 s (State.writeMem s a l c n) := by
  intro s a l c n
  unfold State.writeMem
  extract_lets +onlyGivenNames -merge b part stuck m s1
  have hw : Memory.wf s1.mem = true → Memory.wf m = true := by
    have h1 : Same _ s s1 := Same.foldl _ (Same.refl _ _) (fun v r => State.countRead_same v c n r)
    intro h
    have h0 : Memory.wf s.mem = true := by rwa [h1.mem rfl] at h
    unfold m
    generalize stuck = l
    have g : ∀ (l : List Nat) (x : List Host.Cell), Memory.wf x = true →
        Memory.wf (l.foldl (fun m c => memWriteBytes m c (memBytes s.mem c 16)) x) = true := by
      intro l
      induction l with
      | nil => exact fun _ hx => hx
      | cons c l ih => exact fun x hx => ih _ (memWriteBytes_wf _ _ _ hx)
    exact g _ _ (memWriteBytes_wf _ _ _ h0)
  exact Same.set_mem_dram _ _ (Same.foldl _ (Same.refl _ _) (fun _ _ => Same.mono (State.countRead_same ..) rfl)) hw rfl

theorem State.countSramFixes_same : ∀ (s : State) a b, Same mask42 s (State.countSramFixes a s b) := by
  intro s a b
  unfold State.countSramFixes
  exact (by
    split
    · exact (Same.mono (State.sramFixed_same ..) rfl)
    · exact (Same.refl _ _))

theorem State.markSuspects_same : ∀ (s : State), Same mask61 s (State.markSuspects s) := by
  intro s
  unfold State.markSuspects
  exact (Same.foldl _ (Same.refl _ _) (fun sv _ => (State.setPar_same _ _ _ _ rfl)))

theorem State.passSymbol_same : ∀ (s : State) a b, Same 0x100000000 s (State.passSymbol a s b) := by
  intro s a b
  unfold State.passSymbol
  exact (by
    extract_lets +onlyGivenNames -merge x0
    exact (Same.set_dram _ (Same.refl _ _) rfl))

theorem State.scrubOne_same : ∀ (s : State), Same mask2 s (State.scrubOne s) := by
  intro s
  unfold State.scrubOne
  exact (by
    extract_lets +onlyGivenNames -merge x0 x1
    have h1 : Same mask2 s x1 := (Same.foldl _ (Same.refl _ _) (fun sv _ => (by
        extract_lets +onlyGivenNames -merge x0
        have h0 : Same mask2 sv x0 := (Same.foldl _ (Same.mono (State.countRead_same ..) rfl) (fun _ _ => Same.mono (State.passSymbol_same ..) rfl))
        exact (Same.ite (Same.set_dram _ h0 rfl) h0))))
    exact (Same.ite (Same.set_dram _ h1 rfl) (by
      extract_lets +onlyGivenNames -merge x0
      have h0 : Same mask2 s x0 := (Same.next (Same.next (Same.then h1 (State.markSuspects_same ..) rfl) (State.cntW_same _ _ _ _ rfl)) (State.setPar_same _ _ _ _ rfl))
      exact (Same.set_dram _ h0 rfl))))

theorem State.scrubMany_same : ∀ (s : State) n, Same mask2 s (State.scrubMany n s) := by
  intro s n
  induction n generalizing s with
  | zero => exact Same.refl _ _
  | succ n ih =>
    unfold State.scrubMany
    exact Same.then (Same.mono (State.scrubOne_same ..) rfl) (ih _) rfl

end Sys2Proof.Machine
end

