-- ==== Sys2Proof/Laws/EdgesFrames.lean ====
section
/-! SUPPORT. Which parts of the state the operations of Machine/Edges.lean may change. -/
namespace Sys2Proof.Machine

theorem State.resample_same : ∀ (s : State) a b, Same 0x80 s (State.resample s a b) := by
  intro s a b
  unfold State.resample
  exact (by
    extract_lets +onlyGivenNames -merge x0
    exact (Same.ite (Same.mono (State.setEdge_same ..) rfl) (by
      extract_lets +onlyGivenNames -merge x0
      exact (Same.mono (State.setEdge_same ..) rfl))))

theorem State.crossing_same : ∀ (s : State) a b c, Same mask87 s (State.crossing s a b c) := by
  intro s a b c
  unfold State.crossing
  exact (by
    extract_lets +onlyGivenNames -merge x0
    exact (by
      split
      · exact (Same.ite (Same.next (Same.mono (State.setEdge_same ..) rfl) (State.cnt_same _ _ _ rfl)) (by
        extract_lets +onlyGivenNames -merge x0 x1
        have h0 : Same mask87 s x0 := (Same.ite (Same.mono (State.resample_same ..) rfl) (Same.refl _ _))
        exact (Same.then h0 (State.setEdge_same ..) rfl)))
      · exact (by
        extract_lets +onlyGivenNames -merge x0
        exact (Same.mono (State.setEdge_same ..) rfl))))

theorem State.ppsFall_same : ∀ (s : State) a, Same mask87 s (State.ppsFall s a) := by
  intro s a
  unfold State.ppsFall
  exact (by
    extract_lets +onlyGivenNames -merge x0
    exact (by
      split
      · exact (Same.ite (Same.next (Same.mono (State.setEdge_same ..) rfl) (State.cnt_same _ _ _ rfl)) (by
        extract_lets +onlyGivenNames -merge x0 x1
        have h0 : Same mask87 s x0 := (Same.ite (Same.mono (State.resample_same ..) rfl) (Same.refl _ _))
        exact (Same.then h0 (State.setEdge_same ..) rfl)))
      · exact (Same.mono (State.setEdge_same ..) rfl)))

theorem State.acceptEdge_same : ∀ (s : State) a b, Same mask177 s (State.acceptEdge s a b) := by
  intro s a b
  unfold State.acceptEdge
  exact (by
    extract_lets +onlyGivenNames -merge x0 x1 x2 x3
    have h3 : Same mask177 s x3 := (Same.mono (State.setEdge_same ..) rfl)
    exact (Same.ite (Same.then h3 (State.buffer_same ..) rfl) h3))

theorem State.judge_same : ∀ (s : State) a, Same mask298 s (State.judge s a) := by
  intro s a
  unfold State.judge
  exact (by
    extract_lets +onlyGivenNames -merge x0
    exact (by
      split
      · exact (Same.refl _ _)
      · exact (Same.ite (Same.refl _ _) (by
        split
        · exact (Same.ite (by
          extract_lets +onlyGivenNames -merge x0
          have h0 : Same mask298 s x0 := (Same.mono (State.setEdge_same ..) rfl)
          exact (Same.ite (Same.next h0 (State.cnt_same _ _ _ rfl)) h0)) (Same.then (Same.mono (State.setEdge_same ..) rfl) (State.acceptEdge_same ..) rfl))
        · exact (Same.then (Same.mono (State.setEdge_same ..) rfl) (State.acceptEdge_same ..) rfl)))))

theorem State.digitalSample_same : ∀ (s : State) a b, Same mask177 s (State.digitalSample s a b) := by
  intro s a b
  unfold State.digitalSample
  exact (by
    extract_lets +onlyGivenNames -merge x0 x1 x2 x3 x4
    have h4 : Same mask177 s x4 := (Same.mono (State.setEdge_same ..) rfl)
    exact (Same.then h4 (State.buffer_same ..) rfl))

theorem State.readEntry_same : ∀ (s : State) a b c, Same mask146 s (State.readEntry a s b c).1 := by
  intro s a b c
  unfold State.readEntry
  exact (by
    extract_lets +onlyGivenNames -merge x0 x1 x2 x3 x4
    have h3 : Same mask146 s x3 := (Same.foldl _ (Same.refl _ _) (fun _ _ => Same.mono (State.countSramFixes_same ..) rfl))
    exact (Same.iteP (by
      extract_lets +onlyGivenNames -merge x0
      exact h3) (by
      extract_lets +onlyGivenNames -merge x0 x1
      have h0 : Same mask146 s x0 := (Same.foldl _ h3 (fun sv _ => (Same.mono (State.sramBad_same ..) rfl)))
      have h1 : Same mask146 s x1 := (Same.next (Same.next h0 (State.cntW_same _ _ _ _ rfl)) (State.cntW_same _ _ _ _ rfl))
      exact (Same.ite (Same.next h1 (State.cnt_same _ _ _ rfl)) h1))))

theorem State.portOffer_same : ∀ (s : State) a b, Same mask80 s (State.portOffer s a b) := by
  intro s a b
  unfold State.portOffer
  extract_lets +onlyGivenNames -merge e c
  split
  · exact Same.refl _ _
  · extract_lets +onlyGivenNames -merge p q
    split
    · exact Same.then (Same.then (Same.set_cw _ (Same.mono (State.setEdge_same ..) rfl) rfl : Same mask80 s _)
        (State.readEntry_same ..) rfl) (State.admitRec_same ..) rfl
    · exact Same.next (Same.set_cw _ (Same.refl _ _) rfl) (State.cnt_same _ _ _ rfl)

theorem State.dropHead_same : ∀ (s : State) a, Same mask159 s (State.dropHead s a) := by
  intro s a
  unfold State.dropHead
  exact (by
    extract_lets +onlyGivenNames -merge x0
    exact (by
      split
      · exact (Same.refl _ _)
      · exact (Same.then (Same.mono (State.setEdge_same ..) rfl) (State.loseEvent_same ..) rfl)))

theorem State.closeAccount_same : ∀ (s : State) a b, Same mask151 s (State.closeAccount s a b) := by
  intro s a b
  unfold State.closeAccount
  exact (by
    extract_lets +onlyGivenNames -merge x0
    have h0 : Same mask151 s x0 := (Same.mono (State.admitRec_same ..) rfl)
    exact (Same.next (Same.next (Same.next h0 (State.cntW_same _ _ _ _ rfl)) (State.cntW_same _ _ _ _ rfl)) (State.cnt_same _ _ _ rfl)))

end Sys2Proof.Machine
end

