-- ==== Sys2Proof/Laws/StreamsFrames.lean ====
section
/-! SUPPORT. Which parts of the state the operations of Machine/Streams.lean may change. -/
namespace Sys2Proof.Machine

theorem State.setStream_same : ∀ (s : State) a b, Same 0x20000000 s (State.setStream s a b) := by
  intro s a b
  unfold State.setStream
  exact (Same.set_stream _ (Same.refl _ _) rfl)

theorem State.discardRecs_same : ∀ (s : State) a b c, Same mask122 s (State.discardRecs s a b c) := by
  intro s a b c
  unfold State.discardRecs
  exact (by
    extract_lets +onlyGivenNames -merge x0 x1
    have h1 : Same mask122 s x1 := (State.cntW_same _ _ _ _ (inM_nth _ rfl))
    exact (Same.ite (Same.then h1 (State.setStream_same ..) rfl) h1))

theorem State.stopStream_same : ∀ (s : State) a b, Same mask202 s (State.stopStream s a b) := by
  intro s a b
  unfold State.stopStream
  exact (by
    extract_lets +onlyGivenNames -merge x0 x1 x2 x3
    have h1 : Same mask202 s x1 := (Same.mono (State.setStream_same ..) rfl)
    have h2 : Same mask202 s x2 := (Same.then (Same.next (Same.next (Same.next h1 (State.setPar_same _ _ _ _ rfl)) (State.setPar_same _ _ _ _ rfl)) (State.cnt_same _ _ _ rfl)) (State.alert_same ..) rfl)
    have h3 : Same mask202 s x3 := (by
      unfold x3
      exact (by
        split
        · exact (Same.then h2 (State.discardRecs_same ..) rfl)
        · exact h2))
    exact (Same.foldl _ h3 (fun sv _ => (Same.mono (State.discardRecs_same ..) rfl))))

theorem State.refusedCounts_same : ∀ (s : State) a b, Same mask212 s (State.refusedCounts s a b) := by
  intro s a b
  unfold State.refusedCounts
  exact (Same.next (State.cntW_same _ _ _ _ (inM_nth _ rfl)) (State.cntW_same _ _ _ _ (inM_nth _ rfl)))

theorem State.refuseFrame_same : ∀ (s : State) a b, Same mask204 s (State.refuseFrame s a b) := by
  intro s a b
  unfold State.refuseFrame
  exact (by
    extract_lets +onlyGivenNames -merge x0 x1
    have h1 : Same mask204 s x1 := (Same.then (Same.mono (State.refusedCounts_same ..) rfl) (State.setStream_same ..) rfl)
    exact (Same.ite h1 (by
      extract_lets +onlyGivenNames -merge x0
      have h0 : Same mask204 s x0 := (Same.next h1 (State.setPar_same _ _ _ _ rfl))
      exact (Same.ite h0 (by
        split
        · exact (Same.then h0 (State.stopStream_same ..) rfl)
        · exact (Same.ite (Same.then h0 (State.stopStream_same ..) rfl) h0)
        · exact h0)))))

theorem State.refuseOld_same : ∀ (s : State) a b c d, Same mask155 s (State.refuseOld s a b c d) := by
  intro s a b c d
  unfold State.refuseOld
  exact (by
    extract_lets +onlyGivenNames -merge x0 x1
    exact (Same.then (Same.mono (State.refusedCounts_same ..) rfl) (State.setStream_same ..) rfl))

theorem State.noteClose_same : ∀ (s : State), Same 0x2000000 s (State.noteClose s) := by
  intro s
  unfold State.noteClose
  exact (Same.set_cw _ (Same.refl _ _) rfl)

theorem State.intoBeryl_same : ∀ (s : State) a b, Same mask152 s (State.intoBeryl s a b) := by
  intro s a b
  unfold State.intoBeryl
  exact (by
    extract_lets +onlyGivenNames -merge x0 x1
    have h0 : Same mask152 s x0 := (Same.mono (State.noteClose_same ..) rfl)
    exact (Same.ite (Same.next (Same.then h0 (State.setStream_same ..) rfl) (State.cntW_same _ _ _ _ (inM_nth _ rfl))) (Same.ite (Same.then (Same.next h0 (State.cnt_same _ _ _ rfl)) (State.refuseFrame_same ..) rfl) (by
      extract_lets +onlyGivenNames -merge x0
      have h0 : Same mask152 s x0 := (Same.then h0 (State.setStream_same ..) rfl)
      exact (Same.next (Same.next h0 (State.cntW_same _ _ _ _ (inM_nth _ rfl))) (State.mark_same _ _ _ _ rfl))))))

theorem State.closeFrame_same : ∀ (s : State) a b c, Same mask228 s (State.closeFrame s a b c) := by
  intro s a b c
  unfold State.closeFrame
  exact (by
    extract_lets +onlyGivenNames -merge x0
    exact (by
      split
      · exact (Same.refl _ _)
      · exact (by
        extract_lets +onlyGivenNames -merge x0 x1
        have h1 : Same mask228 s x1 := (Same.next (Same.mono (State.setStream_same ..) rfl) (State.setPar_same _ _ _ _ rfl))
        exact (Same.then h1 (State.intoBeryl_same ..) rfl))))

theorem State.placeRec_same : ∀ (s : State) a b, Same mask81 s (State.placeRec s a b) := by
  intro s a b
  unfold State.placeRec
  exact (by
    extract_lets +onlyGivenNames -merge x0 x1 x2
    exact (Same.next (Same.mono (State.setStream_same ..) rfl) (State.cntW_same _ _ _ _ (inM_nth _ rfl))))

theorem State.appendRec_same : ∀ (s : State) a b, Same mask44 s (State.appendRec a s b) := by
  intro s a b
  unfold State.appendRec
  exact (by
    extract_lets +onlyGivenNames -merge x0
    exact (Same.ite (Same.refl _ _) (Same.ite (Same.mono (State.discardRecs_same ..) rfl) (by
      split
      · exact (Same.mono (State.placeRec_same ..) rfl)
      · exact (by
        extract_lets +onlyGivenNames -merge x0
        exact (Same.ite (Same.mono (State.placeRec_same ..) rfl) (by
          extract_lets +onlyGivenNames -merge x0
          have h0 : Same mask44 s x0 := (Same.mono (State.closeFrame_same ..) rfl)
          exact (Same.ite (Same.then h0 (State.discardRecs_same ..) rfl) (Same.then h0 (State.placeRec_same ..) rfl)))))))))

theorem State.feed_same : ∀ (s : State) a b, Same mask44 s (State.feed a s b) := by
  intro s a b
  unfold State.feed
  exact (by
    extract_lets +onlyGivenNames -merge x0
    exact (Same.ite (Same.mono (State.setStream_same ..) rfl) (Same.mono (State.appendRec_same ..) rfl)))

theorem State.feedHeld_same : ∀ (s : State) a b, Same mask44 s (State.feedHeld a s b) := by
  intro s a b
  unfold State.feedHeld
  exact (by
    split
    · exact (Same.mono (State.appendRec_same ..) rfl)
    · exact (Same.mono (State.closeFrame_same ..) rfl))

theorem State.unhold_same : ∀ (s : State) a, Same mask44 s (State.unhold a s) := by
  intro s a
  unfold State.unhold
  exact (by
    extract_lets +onlyGivenNames -merge x0 x1
    exact (Same.foldl _ (Same.mono (State.setStream_same ..) rfl) (fun _ _ => Same.mono (State.feedHeld_same ..) rfl)))

theorem State.stepClose_same : ∀ (s : State) a b, Same mask228 s (State.stepClose a s b) := by
  intro s a b
  unfold State.stepClose
  exact (by
    extract_lets +onlyGivenNames -merge x0
    exact (Same.ite (Same.mono (State.setStream_same ..) rfl) (Same.mono (State.closeFrame_same ..) rfl)))

theorem State.take_same : ∀ (s : State) a b, Same mask100 s (State.take a s b) := by
  intro s a b
  unfold State.take
  exact (Same.ite (State.cntW_same _ _ _ _ (inM_nth _ rfl)) (Same.mono (State.feed_same ..) rfl))

theorem State.deliver_same : ∀ (s : State) a b, Same mask100 s (State.deliver s a b) := by
  intro s a b
  unfold State.deliver
  exact (Same.foldl _ (Same.refl _ _) (fun _ _ => Same.mono (State.take_same ..) rfl))

theorem State.countRaw_same : ∀ (s : State) a b, Same mask278 s (State.countRaw a s b) := by
  intro s a b
  unfold State.countRaw
  exact (Same.ite (State.cntW_same _ _ _ _ (inM_nth _ rfl)) (Same.refl _ _))

theorem State.reportLoss_same : ∀ (s : State) a b c, Same mask258 s (State.reportLoss s a b c) := by
  intro s a b c
  unfold State.reportLoss
  exact (by
    extract_lets +onlyGivenNames -merge x0 x1 x2
    have h2 : Same mask258 s x2 := (Same.foldl _ (Same.mono (State.setStream_same ..) rfl) (fun _ _ => Same.mono (State.countRaw_same ..) rfl))
    exact (by
      split
      · exact (Same.next h2 (State.setPar_same _ _ _ _ rfl))
      · exact h2))

theorem State.settleLoss_same : ∀ (s : State) a, Same mask258 s (State.settleLoss s a) := by
  intro s a
  unfold State.settleLoss
  exact (by
    extract_lets +onlyGivenNames -merge x0
    exact (by
      split
      · exact (Same.then (Same.mono (State.setStream_same ..) rfl) (State.reportLoss_same ..) rfl)
      · exact (Same.refl _ _)))

theorem State.streamBegin_same : ∀ (s : State) a b c, Same mask250 s (State.streamBegin s a b c) := by
  intro s a b c
  unfold State.streamBegin
  exact (by
    extract_lets +onlyGivenNames -merge x0 x1 x2
    exact (Same.ite (Same.foldl _ (Same.mono (State.setStream_same ..) rfl) (fun _ _ => Same.mono (State.appendRec_same ..) rfl)) (by
      extract_lets +onlyGivenNames -merge x0 x1
      have h1 : Same mask250 s x1 := (Same.foldl _ (Same.mono (State.setStream_same ..) rfl) (fun _ _ => Same.mono (State.appendRec_same ..) rfl))
      exact (Same.next (Same.next (Same.next h1 (State.setPar_same _ _ _ _ (inM_nth _ rfl))) (State.setPar_same _ _ _ _ (inM_nth _ rfl))) (State.setPar_same _ _ _ _ (inM_nth _ rfl))))))

theorem State.streamEnd_same : ∀ (s : State) a, Same mask44 s (State.streamEnd s a) := by
  intro s a
  unfold State.streamEnd
  exact (by
    extract_lets +onlyGivenNames -merge x0 x1 x2
    have h1 : Same mask44 s x1 := (Same.foldl _ (Same.mono (State.setStream_same ..) rfl) (fun _ _ => Same.mono (State.feedHeld_same ..) rfl))
    have h2 : Same mask44 s x2 := (Same.then h1 (State.closeFrame_same ..) rfl)
    exact (Same.then h2 (State.setStream_same ..) rfl))

theorem State.streamFlush_same : ∀ (s : State) a, Same mask292 s (State.streamFlush s a) := by
  intro s a
  unfold State.streamFlush
  exact (by
    split
    · exact (Same.then (State.cnt_same _ _ _ rfl) (State.closeFrame_same ..) rfl)
    · exact (State.cnt_same _ _ _ rfl))

theorem State.queueRead_same : ∀ (s : State) a b, Same mask200 s (State.queueRead s a b).1 := by
  intro s a b
  unfold State.queueRead
  exact (by
    extract_lets +onlyGivenNames -merge x0 x1 x2
    have h2 : Same mask200 s x2 := (Same.foldl _ (Same.foldl _ (Same.refl _ _) (fun _ _ => Same.mono (State.countSramFixes_same ..) rfl)) (fun sv _ => (Same.mono (State.sramBad_same ..) rfl)))
    exact h2)

end Sys2Proof.Machine
end

