-- ==== Sys2Proof/Laws/CaissonFrames.lean ====
section
/-! SUPPORT. Which parts of the state the operations of Machine/Caisson.lean may change. -/
namespace Sys2Proof.Machine

theorem State.setCai_same : ∀ (s : State) a b, Same 0x40000000 s (State.setCai s a b) := by
  intro s a b
  unfold State.setCai
  exact (Same.set_cai _ (Same.refl _ _) rfl)

theorem State.caiTouch_same : ∀ (s : State) a b, Same mask39 s (State.caiTouch a s b) := by
  intro s a b
  unfold State.caiTouch
  exact (by
    extract_lets +onlyGivenNames -merge x0 x1
    exact (Same.ite (by
      extract_lets +onlyGivenNames -merge x0 x1
      have h1 : Same mask39 s x1 := (Same.mono (State.setCai_same ..) rfl)
      exact (Same.ite (Same.next h1 (State.setPar_same _ _ _ _ rfl)) h1)) (by
      split
      · exact (Same.ite (Same.mono (State.setCai_same ..) rfl) (Same.refl _ _))
      · exact (Same.refl _ _))))

theorem State.caiTouchPier_same : ∀ (s : State) a b, Same mask39 s (State.caiTouchPier a s b) := by
  intro s a b
  unfold State.caiTouchPier
  exact (Same.foldl _ (Same.refl _ _) (fun _ _ => Same.mono (State.caiTouch_same ..) rfl))

theorem State.caiEnableEffect_same : ∀ (s : State) a b c, Same mask39 s (State.caiEnableEffect s a b c) := by
  intro s a b c
  unfold State.caiEnableEffect
  exact (by
    extract_lets +onlyGivenNames -merge x0
    exact (Same.ite (Same.ite (Same.then (Same.next (Same.mono (State.setCai_same ..) rfl) (State.setPar_same _ _ _ _ rfl)) (State.caiTouchPier_same ..) rfl) (Same.refl _ _)) (Same.ite (State.setPar_same _ _ _ _ rfl) (Same.ite (Same.then (State.setPar_same _ _ _ _ rfl) (State.caiTouchPier_same ..) rfl) (Same.refl _ _)))))

theorem State.caiLoad_same : ∀ (s : State) a b, Same mask182 s (State.caiLoad a s b) := by
  intro s a b
  unfold State.caiLoad
  exact (Same.ite (Same.refl _ _) (by
    extract_lets +onlyGivenNames -merge x0
    have h0 : Same mask182 s x0 := (by
      unfold x0
      exact (by
        split
        · exact (Same.ite (Same.refl _ _) (State.cnt_same _ _ _ rfl))
        · exact (Same.refl _ _)))
    exact (Same.then (Same.next (Same.then h0 (State.setCai_same ..) rfl) (State.setPar_same _ _ _ _ rfl)) (State.caiTouchPier_same ..) rfl)))

theorem State.snapshotRequest_same : ∀ (s : State) a b c d e, Same mask66 s (State.snapshotRequest s a b c d e).1 := by
  intro s a b c d e
  unfold State.snapshotRequest
  exact (by
    extract_lets +onlyGivenNames -merge x0 x1 x2 x3 x4 x5 x6 x7 x8
    exact (Same.iteP (State.cnt_same _ _ _ rfl) (Same.iteP (State.cnt_same _ _ _ rfl) (by
      extract_lets +onlyGivenNames -merge x0 x1 x2 x3 x4 x5 x6 x7 x8 x9
      have h8 : Same mask66 s x8 := (Same.mono (State.setCai_same ..) rfl)
      have h9 : Same mask66 s x9 := (Same.next (Same.next h8 (State.cnt_same _ _ _ rfl)) (State.setPar_same _ _ _ _ rfl))
      exact (Same.ite (Same.next h9 (State.cnt_same _ _ _ rfl)) h9)))))

theorem State.readWords_same : ∀ (s : State) a b c, Same mask70 s (State.readWords s a b c).1 := by
  intro s a b c
  unfold State.readWords
  exact (by
    extract_lets +onlyGivenNames -merge x0 x1 x2 x3
    have h1 : Same mask70 s x1 := (Same.foldl _ (Same.refl _ _) (fun _ _ => Same.mono (State.countFixes_same ..) rfl))
    have h3 : Same mask70 s x3 := (Same.foldl _ h1 (fun sv _ => (Same.mono (State.dramBad_same ..) rfl)))
    exact h3)

theorem State.copyBlock_same : ∀ (s : State) a b, Same mask44 s (State.copyBlock s a b) := by
  intro s a b
  unfold State.copyBlock
  exact (by
    extract_lets +onlyGivenNames -merge x0
    exact (Same.ite (Same.foldl _ (Same.refl _ _) (fun _ _ => Same.mono (State.appendRec_same ..) rfl)) (Same.mono (State.setStream_same ..) rfl)))

theorem State.frameBlock_same : ∀ (s : State) a b c, Same mask157 s (State.frameBlock s a b c) := by
  intro s a b c
  unfold State.frameBlock
  exact (by
    extract_lets +onlyGivenNames -merge x0 x1 x2 x3 x4 x5 x6 x7
    have h1 : Same mask157 s x1.1 := (Same.mono (State.readWords_same ..) rfl)
    have h2 : Same mask157 s x2 := (Same.next h1 (State.cntN_same _ _ _ _ rfl))
    have h4 : Same mask157 s x4 := (Same.foldl _ h2 (fun sv _ => (Same.mono (State.copyBlock_same ..) rfl)))
    have h5 : Same mask157 s x5 := (Same.ite (Same.next h4 (State.cnt_same _ _ _ rfl)) h4)
    have h7 : Same mask157 s x7 := (Same.then h5 (State.setCai_same ..) rfl)
    exact (Same.foldl _ h7 (fun sv _ => (Same.mono (State.unhold_same ..) rfl))))

theorem State.caiWord_same : ∀ (s : State) a b c, Same 0x40000000 s (State.caiWord a b s c) := by
  intro s a b c
  unfold State.caiWord
  exact (by
    extract_lets +onlyGivenNames -merge x0
    exact (Same.ite (by
      extract_lets +onlyGivenNames -merge x0 x1 x2 x3 x4
      exact (Same.ite (Same.refl _ _) (by
        extract_lets +onlyGivenNames -merge x0 x1
        exact (Same.mono (State.setCai_same ..) rfl)))) (Same.refl _ _)))

theorem State.caiErr_same : ∀ (s : State) a b, Same mask215 s (State.caiErr a s b) := by
  intro s a b
  unfold State.caiErr
  exact (by
    extract_lets +onlyGivenNames -merge x0
    exact (by
      split
      · exact (by
        extract_lets +onlyGivenNames -merge x0 x1 x2 x3
        have h1 : Same mask215 s x1.1 := (Same.mono (State.readWords_same ..) rfl)
        exact (Same.then h1 (State.setCai_same ..) rfl))
      · exact (Same.refl _ _)))

end Sys2Proof.Machine
end

