-- ==== Sys2Proof/Laws/UnitsFrames.lean ====
section
/-! SUPPORT. Which parts of the state the operations of Machine/Units.lean may change. -/
namespace Sys2Proof.Machine

theorem State.setSrc_same : ∀ (s : State) a b, Same 0x4000000 s (State.setSrc s a b) := by
  intro s a b
  unfold State.setSrc
  exact (Same.set_src _ (Same.refl _ _) rfl)

theorem State.tableStep_same : ∀ (s : State) a, Same 0x4000000 s (State.tableStep s a) := by
  intro s a
  unfold State.tableStep
  exact (Same.ite (Same.refl _ _) (by
    extract_lets +onlyGivenNames -merge x0
    exact (by
      split
      · exact (Same.mono (State.setSrc_same ..) rfl)
      · exact (by
        extract_lets +onlyGivenNames -merge x0
        exact (Same.mono (State.setSrc_same ..) rfl))
      · exact (Same.mono (State.setSrc_same ..) rfl)
      · exact (Same.refl _ _))))

theorem takeValue_same : ∀ p a b, Same mask176 (Prod.fst p) (takeValue p a b).1 := by
  intro p a b
  unfold takeValue
  exact (Same.iteP (Same.refl _ _) (by
    extract_lets +onlyGivenNames -merge x0
    have h0 : Same mask176 p.1 x0 := (State.setPar_same _ _ _ _ rfl)
    exact (Same.ite (Same.next h0 (State.cnt_same _ _ _ rfl)) h0)))

theorem occurs_same : ∀ p a, Same mask260 (Prod.fst p) (occurs p a).1 := by
  intro p a
  unfold occurs
  exact (State.cnt_same _ _ _ rfl)

theorem setUnit_same : ∀ p a b, Same 0x8000000 (Prod.fst p) (setUnit p a b).1 := by
  intro p a b
  unfold setUnit
  exact (by
    extract_lets +onlyGivenNames -merge x0
    have h0 : Same 0x8000000 p.1 x0 := (Same.refl _ _)
    exact (Same.set_units _ h0 rfl))

theorem State.unitGens_same : ∀ (s : State) a b, Same mask214 s (State.unitGens s a b) := by
  intro s a b
  unfold State.unitGens
  exact (by
    extract_lets +onlyGivenNames -merge x0 x1
    exact (Same.next (State.setPar_same _ _ _ _ rfl) (State.setPar_same _ _ _ _ rfl)))

theorem State.unitStart_same : ∀ (s : State) a b, Same mask269 s (State.unitStart s a b) := by
  intro s a b
  unfold State.unitStart
  exact (by
    extract_lets +onlyGivenNames -merge x0 x1 x2 x3
    have h2 : Same mask269 s x2 := (Same.set_units _ (Same.refl _ _) rfl)
    exact (Same.then (Same.next h2 (State.setPar_same _ _ _ _ rfl)) (State.unitGens_same ..) rfl))

theorem State.unitStop_same : ∀ (s : State) a, Same mask43 s (State.unitStop s a) := by
  intro s a
  unfold State.unitStop
  exact (Same.next (Same.set_units _ (Same.refl _ _) rfl) (State.setPar_same _ _ _ _ rfl))

theorem State.unitsLoad_same : ∀ (s : State) a, Same mask40 s (State.unitsLoad s a) := by
  intro s a
  unfold State.unitsLoad
  exact (by
    extract_lets +onlyGivenNames -merge x0
    have h0 : Same mask40 s x0 := (Same.set_src _ (Same.refl _ _) rfl)
    exact (Same.foldl _ h0 (fun sv _ => (by
      extract_lets +onlyGivenNames -merge x0 x1 x2
      have h2 : Same mask40 sv x2 := (Same.then (Same.set_units _ (Same.refl _ _) rfl) (State.unitGens_same ..) rfl)
      exact (Same.ite h2 (Same.next h2 (State.setPar_same _ _ _ _ rfl)))))))

theorem State.unitsFollow_same : ∀ (s : State) a b, Same mask176 s (State.unitsFollow s a b) := by
  intro s a b
  unfold State.unitsFollow
  exact Same.foldl _ (Same.refl _ _) (fun sv _ => by
    extract_lets +onlyGivenNames -merge x0
    exact Same.ite (takeValue_same (sv, _) _ _) (Same.refl _ _))

theorem unitRecord_same : ∀ a p b c d, Same mask18 (Prod.fst p) (unitRecord a p b c d).1 := by
  intro a p b c d
  unfold unitRecord
  exact (by
    extract_lets +onlyGivenNames -merge x0 x1 x2
    exact (by
      split
      · exact (Same.iteP (Same.mono (occurs_same ..) rfl) (Same.refl _ _))
      · exact (Same.iteP (Same.mono (takeValue_same ..) rfl) (Same.refl _ _))
      · exact (Same.iteP (Same.refl _ _) (Same.iteP (Same.mono (takeValue_same ..) rfl) (Same.iteP (Same.mono (takeValue_same ..) rfl) (Same.refl _ _))))
      · exact (by
        extract_lets +onlyGivenNames -merge x0
        exact (Same.iteP (Same.refl _ _) (by
          extract_lets +onlyGivenNames -merge x0
          exact (Same.then (Same.mono (setUnit_same ..) rfl) (takeValue_same ..) rfl))))
      · exact (Same.iteP (Same.refl _ _) (Same.iteP (Same.mono (setUnit_same ..) rfl) (Same.iteP (Same.refl _ _) (Same.iteP (Same.mono (setUnit_same ..) rfl) (by
        extract_lets +onlyGivenNames -merge x0
        have h0 : Same mask18 p.1 x0.1 := (Same.mono (setUnit_same ..) rfl)
        exact (by
          split
          · exact (Same.iteP (Same.then h0 (occurs_same ..) rfl) h0)
          · exact h0))))))
      · exact (Same.iteP (Same.mono (setUnit_same ..) rfl) (Same.iteP (Same.mono (setUnit_same ..) rfl) (Same.iteP (by
        split
        · exact (by
          extract_lets +onlyGivenNames -merge x0
          have h0 : Same mask18 p.1 x0.1 := (Same.mono (setUnit_same ..) rfl)
          exact (Same.iteP (Same.then h0 (occurs_same ..) rfl) h0))
        · exact (Same.refl _ _)) (Same.refl _ _))))
      · exact (Same.iteP (Same.refl _ _) (Same.iteP (Same.mono (takeValue_same ..) rfl) (Same.iteP (Same.mono (occurs_same ..) rfl) (Same.refl _ _))))
      · exact (Same.iteP (Same.iteP (Same.mono (occurs_same ..) rfl) (Same.refl _ _)) (by
        extract_lets +onlyGivenNames -merge x0
        exact (Same.iteP (Same.mono (occurs_same ..) rfl) (Same.refl _ _))))
      · exact (Same.refl _ _)))

theorem staleStep_same : ∀ a p b c d, Same mask18 (Prod.fst p) (staleStep a p b c d).1 := by
  intro a p b c d
  unfold staleStep
  exact (by
    split
    · exact (Same.refl _ _)
    · exact (by
      extract_lets +onlyGivenNames -merge x0 x1
      exact (Same.iteP (Same.then (Same.mono (setUnit_same ..) rfl) (takeValue_same ..) rfl) (Same.refl _ _))))

theorem State.unitsRecord_same : ∀ (s : State) a, Same mask239 s (State.unitsRecord s a).1 := by
  intro s a
  unfold State.unitsRecord
  exact (by
    extract_lets +onlyGivenNames -merge x0
    have h0 : Same mask239 s x0 := (Same.mono (State.tableStep_same ..) rfl)
    exact (Same.foldlP _ h0 (fun sv _ => (Same.iteP (Same.refl _ _) (by
      extract_lets +onlyGivenNames -merge x0 x1
      have h1 : Same mask239 sv.1 x1.1 := (Same.mono (unitRecord_same ..) rfl)
      exact (Same.then h1 (staleStep_same ..) rfl))))))

theorem unitDeadline_same : ∀ a p b c d, Same mask18 (Prod.fst p) (unitDeadline a p b c d).1 := by
  intro a p b c d
  unfold unitDeadline
  exact (by
    split
    · exact (by
      extract_lets +onlyGivenNames -merge x0
      exact (Same.iteP (Same.refl _ _) (Same.then (Same.mono (setUnit_same ..) rfl) (takeValue_same ..) rfl)))
    · exact (Same.iteP (Same.iteP (Same.then (Same.mono (setUnit_same ..) rfl) (occurs_same ..) rfl) (Same.then (Same.mono (setUnit_same ..) rfl) (takeValue_same ..) rfl)) (Same.refl _ _))
    · exact (Same.refl _ _))

theorem State.unitsDeadline_same : ∀ (s : State) a, Same mask18 s (State.unitsDeadline s a).1 := by
  intro s a
  unfold State.unitsDeadline
  exact (Same.foldlP _ (Same.refl _ _) (fun sv _ => (Same.iteP (Same.refl _ _) (Same.mono (unitDeadline_same ..) rfl))))

end Sys2Proof.Machine
end

