-- ==== Sys2Proof/Laws/KeystoneFrames.lean ====
section
/-! SUPPORT. Which parts of the state the operations of Machine/Keystone.lean may change. -/
namespace Sys2Proof.Machine

theorem State.setSeq_same : ∀ (s : State) a b, Same 0x10000000 s (State.setSeq s a b) := by
  intro s a b
  unfold State.setSeq
  exact (Same.set_seqs _ (Same.refl _ _) rfl)

theorem State.keyRefused_same : ∀ (s : State) a b c d e, Same mask133 s (State.keyRefused s a b c d e) := by
  intro s a b c d e
  unfold State.keyRefused
  exact (Same.next (State.cnt_same _ _ _ rfl) (State.setPar_same _ _ _ _ rfl))

theorem doAction_same : ∀ (o : Origin) (r : ListRun) a, Same mask198 r.s (doAction o r a).s := by
  intro o r a
  unfold doAction
  extract_lets +onlyGivenNames -merge n q m
  split
  · exact State.setPar_same _ _ _ _ rfl
  · exact Same.mono (State.snapshotRequest_same ..) rfl
  · exact Same.mono (State.loadAction_same ..) rfl
  · exact Same.mono (State.loadAction_same ..) rfl
  · exact Same.mono (State.loadAction_same ..) rfl
  · exact State.cntW_same _ _ _ _ rfl
  · exact State.cntW_same _ _ _ _ rfl
  · exact Same.refl _ _
  · exact Same.refl _ _
  · exact Same.mono (State.queueMarkOut_same ..) rfl
  · exact Same.refl _ _

theorem State.relay_same : ∀ (s : State) a, Same mask88 s (State.relay s a) := by
  intro s a
  unfold State.relay
  exact (by
    extract_lets +onlyGivenNames -merge x0 x1
    exact (Same.ite (State.cnt_same _ _ _ rfl) (Same.then (Same.mono (State.setSeq_same ..) rfl) (State.emit_same ..) rfl)))

theorem Run.runList_same : ∀ (r : Run) e k g f, Same mask72 r.s (Run.runList r e k g f).s := by
  intro r e k g f
  have hl : ∀ (l : List ActEntry) (o : Origin) (u : ListRun), Same mask72 r.s u.s → Same mask72 r.s (l.foldl (doAction o) u).s := by
    intro l o
    induction l with
    | nil => exact fun u h => h
    | cons a l ih => exact fun u h => ih _ (Same.then h (doAction_same ..) rfl)
  unfold Run.runList
  extract_lets +onlyGivenNames -merge o p l s1 src recs
  have h1 : Same mask72 r.s l.s := hl _ _ _ (Same.refl _ _)
  have h2 : Same mask72 r.s s1 := Same.ite h1 (Same.then h1 (State.relay_same ..) rfl)
  exact Same.ite (Same.next h2 (State.cnt_same _ _ _ rfl)) h2

theorem Run.enterStage_same : ∀ (r : Run) e k n, Same mask248 r.s (Run.enterStage r e k n).s := by
  intro r e k n
  unfold Run.enterStage
  extract_lets +onlyGivenNames -merge q d s1
  exact Same.then (Same.next (Same.next (State.setPar_same _ _ _ _ rfl) (State.cntW_same _ _ _ _ rfl)) (State.cnt_same _ _ _ rfl))
    (State.setSeq_same ..) rfl

theorem Run.evalStage_same : ∀ (r : Run) e n k, Same 0x10000000 r.s (Run.evalStage r e n k).1.s := by
  intro r e n k
  exact Same.mono (State.setSeq_same ..) rfl

theorem Run.stay_same : ∀ (r : Run) e k g f, Same 0x10000000 r.s (Run.stay r e k g f).s := by
  intro r e k g f
  unfold Run.stay
  extract_lets q
  split
  · exact Same.mono (State.setSeq_same ..) rfl
  · exact Same.mono (State.setSeq_same ..) rfl

theorem Run.fire_same : ∀ n (r : Run) e k i f, Same mask162 r.s (Run.fire n r e k i f).s := by
  intro n
  induction n with
  | zero => exact fun r _ _ _ _ => Same.refl _ _
  | succ n ih =>
    intro r e k i f
    unfold Run.fire
    extract_lets +onlyGivenNames -merge stage next r1 v
    have h1 : Same mask162 r.s r1.s := Same.mono (Run.runList_same ..) rfl
    have hv : Same mask162 r.s v.1.s := Same.then (Same.then h1 (Run.enterStage_same ..) rfl) (Run.evalStage_same ..) rfl
    clear_value v next
    split
    · exact h1
    · split
      · exact h1
      · split
        · exact Same.then h1 (Run.stay_same ..) rfl
        · split
          · have hs : ∀ (u : Run), Same mask162 r.s u.s → Same mask162 r.s (u.stay e k stage f).s :=
              fun u h => Same.then h (Run.stay_same ..) rfl
            exact hs _ (Same.next h1 (State.cnt_same _ _ _ rfl))
          · cases v.2 with
            | some g => exact Same.then hv (ih _ _ _ _ _) rfl
            | none => exact hv

theorem Run.evalSeq_same : ∀ e (r : Run) k, Same mask162 r.s (Run.evalSeq e r k).s := by
  intro e r k
  unfold Run.evalSeq
  split
  · exact Same.refl _ _
  · extract_lets +onlyGivenNames -merge due v q y r1
    have hv : Same mask162 r.s v.1.s := Same.mono (Run.evalStage_same ..) rfl
    have h1 : Same mask162 r.s r1.s := by
      unfold r1
      split
      · exact Same.then hv (State.setSeq_same ..) rfl
      · exact hv
    have hf : ∀ f, Same mask162 r.s (Run.fire 5 r1 e k 0 f).s := fun f => Same.then h1 (Run.fire_same ..) rfl
    generalize v.2 = o
    cases o with
    | some f => exact hf _
    | none =>
      dsimp only
      split
      · exact hf _
      · exact h1

theorem State.timersReset_same : ∀ (s : State) a b, Same mask43 s (State.timersReset s a b) := by
  intro s a b
  unfold State.timersReset
  exact (Same.foldl _ (Same.refl _ _) (fun sv _ => (by
    extract_lets +onlyGivenNames -merge x0
    exact (Same.ite (by
      extract_lets +onlyGivenNames -merge x0 x1
      exact (Same.next (Same.set_units _ (Same.refl _ _) rfl) (State.setPar_same _ _ _ _ rfl))) (Same.refl _ _)))))

theorem Run.arm_same : ∀ (r : Run) e k, Same mask28 r.s (Run.arm r e k).s := by
  intro r e k
  unfold Run.arm
  extract_lets +onlyGivenNames -merge q s1 v
  have h1 : Same mask28 r.s s1 := Same.next (Same.mono (State.setSeq_same ..) rfl) (State.setPar_same _ _ _ _ rfl)
  have hv : Same mask28 r.s v.1.s :=
    Same.then (Same.then h1 (Run.enterStage_same { r with s := s1 } ..) rfl) (Run.evalStage_same ..) rfl
  clear_value v
  cases v.2 with
  | some f => exact Same.then hv (Run.fire_same ..) rfl
  | none => exact hv

theorem State.disarm_same : ∀ (s : State) a, Same mask217 s (State.disarm s a) := by
  intro s a
  unfold State.disarm
  exact (by
    extract_lets +onlyGivenNames -merge x0
    exact (Same.next (Same.mono (State.setSeq_same ..) rfl) (State.setPar_same _ _ _ _ rfl)))

theorem Run.applyOp_same : ∀ e a (r : Run) o, Same mask28 r.s (Run.applyOp e a r o).s := by
  intro e a r o
  unfold Run.applyOp
  extract_lets +onlyGivenNames -merge k
  split
  · exact Same.refl _ _
  · split
    · split
      · exact Same.mono (State.disarm_same ..) rfl
      · exact Same.refl _ _
    · split
      · exact Same.refl _ _
      · exact Same.mono (Run.arm_same ..) rfl

theorem Run.step3_same : ∀ n e d (r : Run), Same mask28 r.s (Run.step3 n e d r).s := by
  intro n
  induction n with
  | zero => exact fun _ _ r => Same.refl _ _
  | succ n ih =>
    intro e d r
    have hf : ∀ (a : List (Nat × Bool)) (l : List (Nat × Bool)) (u : Run), Same mask28 r.s u.s →
        Same mask28 r.s (l.foldl (Run.applyOp e a) u).s := by
      intro a l
      induction l with
      | nil => exact fun u h => h
      | cons x l ih => exact fun u h => ih _ (Same.then h (Run.applyOp_same ..) rfl)
    unfold Run.step3
    split
    · exact Same.refl _ _
    · exact Same.then (hf _ _ _ (Same.refl _ _)) (ih _ _ _) rfl

theorem Run.countOp_same : ∀ a b (r : Run) o, Same mask203 r.s (Run.countOp a b r o).s := by
  intro a b r o
  unfold Run.countOp
  split
  · exact State.cnt_same _ _ _ rfl
  · exact Same.refl _ _

theorem Run.timers_same : ∀ l (r : Run) k, Same mask43 r.s (Run.timers l r k).s := by
  intro l r k
  unfold Run.timers
  split
  · exact Same.mono (State.timersReset_same ..) rfl
  · split
    · exact Same.mono (State.timersReset_same ..) rfl
    · exact Same.refl _ _

theorem Run.finish_same : ∀ (r : Run) e l d, Same mask120 r.s (Run.finish r e l d) := by
  intro r e b d
  have hf : ∀ (l : List Nat) (u : Run), Same mask120 r.s u.s → Same mask120 r.s (l.foldl (Run.timers b) u).s := by
    intro l
    induction l with
    | nil => exact fun u h => h
    | cons x l ih => exact fun u h => ih _ (Same.then h (Run.timers_same ..) rfl)
  have hc : ∀ (a l : List (Nat × Bool)) (u : Run), Same mask120 r.s u.s → Same mask120 r.s (l.foldl (Run.countOp b a) u).s := by
    intro a l
    induction l with
    | nil => exact fun u h => h
    | cons x l ih => exact fun u h => ih _ (Same.then h (Run.countOp_same ..) rfl)
  unfold Run.finish
  extract_lets +onlyGivenNames -merge r0 r1 r2 o
  have h1 : Same mask120 r.s r1.s := hc _ _ _ (Same.mono (Run.step3_same ..) rfl)
  have h2 : Same mask120 r.s r2.s := hf _ _ h1
  exact Same.foldl _ h2 (fun _ _ => Same.mono (State.deliver_same ..) rfl)

theorem State.sequence_same : ∀ (s : State) e, Same mask120 s (State.sequence s e) := by
  intro s e
  have hf : ∀ (l : List Nat) (u : Run), Same mask120 s u.s → Same mask120 s (l.foldl (Run.evalSeq e) u).s := by
    intro l
    induction l with
    | nil => exact fun u h => h
    | cons x l ih => exact fun u h => ih _ (Same.then h (Run.evalSeq_same ..) rfl)
  exact Same.then (hf _ _ (Same.refl _ _)) (Run.finish_same ..) rfl

theorem State.control_same : ∀ (s : State) t c, Same mask86 s (State.control s t c) := by
  intro s t c
  cases c with
  | unit u on => exact Same.ite (Same.mono (State.unitStart_same ..) rfl) (Same.mono (State.unitStop_same ..) rfl)
  | seq k on =>
    refine Same.ite (Same.mono (State.setSeq_same ..) rfl) ?_
    have h : Same mask86 s (if s.armed k then s.disarm k else s) := Same.ite (Same.mono (State.disarm_same ..) rfl) (Same.refl _ _)
    exact Same.then (Same.set_seqs _ h rfl) (State.timersReset_same ..) rfl
  | arm k on =>
    refine Same.ite (Same.refl _ _) (Same.ite (Same.ite (Same.refl _ _) ?_)
      (Same.ite (Same.then (Same.mono (State.disarm_same ..) rfl) (State.timersReset_same ..) rfl) (Same.refl _ _)))
    have hr : ∀ (r : Run) e l, Same mask86 s r.s → Same mask86 s (r.finish e l 0) := fun r e l h => Same.then h (Run.finish_same r ..) rfl
    have ha : ∀ e, Same mask86 s (Run.arm { s := s } e k).s := fun e => Same.mono (Run.arm_same { s := s } ..) rfl
    exact hr _ _ _ (Same.then (ha _) (State.timersReset_same ..) rfl)
  | streamOn n r => exact Same.mono (State.streamBegin_same ..) rfl
  | streamOff n => exact Same.mono (State.streamEnd_same ..) rfl
  | closeFrames => exact Same.foldl _ (Same.refl _ _) (fun v k => Same.mono (State.stepClose_same v t k) rfl)
  | src n l z => exact Same.then (Same.mono (State.setSrc_same ..) rfl) (State.unitsFollow_same ..) rfl

theorem State.settle_same : ∀ (s : State) n, Same mask86 s (State.settle n s) := by
  intro s n
  induction n generalizing s with
  | zero => exact Same.refl _ _
  | succ n ih =>
    unfold State.settle
    generalize hi : s.cw.intake = l
    cases l with
    | nil => exact Same.refl _ _
    | cons x l =>
      cases x with
      | record r o => exact Same.refl _ _
      | ctl t c =>
        exact Same.ite (Same.refl _ _)
          (Same.then (Same.then (Same.set_cw _ (Same.refl _ _) rfl) (State.control_same ..) rfl) (ih _) rfl)

theorem State.settleCtl_same : ∀ (s : State), Same mask86 s (State.settleCtl s) := by
  intro s
  unfold State.settleCtl
  exact (Same.mono (State.settle_same ..) rfl)

theorem State.itemDone_same : ∀ (s : State), Same mask86 s (State.itemDone s) := by
  intro s
  unfold State.itemDone
  exact (by
    extract_lets +onlyGivenNames -merge x0
    have h0 : Same mask86 s x0 := (Same.mono (State.settleCtl_same ..) rfl)
    exact (Same.then h0 (State.enterEnds_same ..) rfl))

theorem State.takeRecord_same : ∀ (s : State) a b, Same mask172 s (State.takeRecord s a b) := by
  intro s a b
  unfold State.takeRecord
  exact (by
    extract_lets +onlyGivenNames -merge x0
    have h0 : Same mask172 s x0.1 := (Same.then (Same.mono (State.deliver_same ..) rfl) (State.unitsRecord_same ..) rfl)
    exact (Same.then h0 (State.sequence_same ..) rfl))

end Sys2Proof.Machine
end

