-- ==== Sys2Proof/Laws/CausewayFrames.lean ====
section
/-! SUPPORT. Which parts of the state the operations of Machine/Causeway.lean may change. -/
namespace Sys2Proof.Machine

theorem State.readItems_same : ∀ l (s : State) e i d, Same mask146 s (State.readItems e i d l s).1 := by
  intro l
  induction l with
  | nil => exact fun s _ _ _ => Same.refl _ _
  | cons x l ih =>
    intro s e i d
    cases x with
    | ctl t c => exact ih _ _ _ _
    | record r o => exact Same.then (Same.mono (State.readEntry_same ..) rfl) (ih _ _ _ _) rfl

theorem State.releaseItem_same : ∀ (s : State) a, Same mask199 s (State.releaseItem s a) := by
  intro s a
  unfold State.releaseItem
  exact (by
    extract_lets +onlyGivenNames -merge x0
    have h0 : Same mask199 s x0 := (Same.ite (State.mark_same _ _ _ _ rfl) (Same.refl _ _))
    exact (Same.set_cw _ h0 rfl))

theorem State.releaseDue_same : ∀ (s : State) a, Same mask220 s (State.releaseDue s a) := by
  intro s a
  unfold State.releaseDue
  exact (by
    extract_lets +onlyGivenNames -merge x0 x1 x2 x3 x4 x5 x6 x7 x8 x9 x10
    have h9 : Same mask220 s x9 := (Same.set_cw _ (Same.refl _ _) rfl)
    have h10 : Same mask220 s x10.1 := (Same.then h9 (State.readItems_same ..) rfl)
    exact (Same.foldl _ h10 (fun _ _ => Same.mono (State.releaseItem_same ..) rfl)))

theorem State.admitLate_same : ∀ (s : State), Same mask22 s (State.admitLate s) := by
  intro s
  unfold State.admitLate
  exact (Same.foldl _ (Same.set_cw _ (Same.refl _ _) rfl) (fun _ _ => Same.mono (State.admitItem_same ..) rfl))

theorem State.discardEvents_same : ∀ (s : State), Same mask240 s (State.discardEvents s) := by
  intro s
  unfold State.discardEvents
  exact (by
    extract_lets +onlyGivenNames -merge x0 x1 x2 x3 x4 x5
    have h3 : Same mask240 s x3 := (State.cntN_same _ _ _ _ rfl)
    have h5 : Same mask240 s x5 := (Same.set_edge_cw _ _ h3 rfl)
    exact (Same.then h5 (State.settleCtl_same ..) rfl))

end Sys2Proof.Machine
end

