-- ==== Sys2Proof/Laws/HostCfgFrames.lean ====
section
/-! SUPPORT. Which parts of the state the operations of Machine/HostCfg.lean may change. -/
namespace Sys2Proof.Machine

theorem State.setCfg_same : ∀ (s : State) a b, Same 0x400000000 s (State.setCfg s a b) := by
  intro s a b
  unfold State.setCfg
  exact (Same.set_host _ (Same.refl _ _) rfl)

theorem State.cfgLoad_same : ∀ (s : State), Same 0x400000000 s (State.cfgLoad s) := by
  intro s
  unfold State.cfgLoad
  exact (Same.set_host _ (Same.refl _ _) rfl)

theorem State.cfgReset_same : ∀ (s : State), Same 0x400000000 s (State.cfgReset s) := by
  intro s
  unfold State.cfgReset
  exact (Same.set_host _ (Same.refl _ _) rfl)

theorem State.portReset_same : ∀ (s : State), Same 0x400000000 s (State.portReset s) := by
  intro s
  unfold State.portReset
  exact (by
    extract_lets +onlyGivenNames -merge x0
    have h0 : Same 0x400000000 s x0 := (Same.then (Same.mono (State.cfgLoad_same ..) rfl) (State.cfgReset_same ..) rfl)
    exact (Same.set_host _ h0 rfl))

end Sys2Proof.Machine
end

