-- ==== Sys2Proof/Laws/PartnerLogFrames.lean ====
section
/-! SUPPORT. Which parts of the state the operations of Machine/PartnerLog.lean may change. -/
namespace Sys2Proof.Machine

theorem State.pflEntry_same : ∀ (s : State) a b c d, Same mask145 s (State.pflEntry s a b c d) := by
  intro s a b c d
  unfold State.pflEntry
  extract_lets +onlyGivenNames -merge w ix put s1 s2
  have hp : ∀ u i v, Same mask145 s u → Same mask145 s (put u i v) := fun u i v h => Same.next h (State.setPar_same _ _ _ _ (inM_nth _ rfl))
  have h2 : Same mask145 s s2 := hp _ _ _ (hp _ _ _ (hp _ _ _ (hp _ _ _ (hp _ _ _ (hp _ _ _ (Same.refl _ _))))))
  exact Same.then (Same.set_pflLast _ (Same.next h2 (State.cntW_same _ _ _ _ rfl)) rfl) (State.alert_same ..) rfl

theorem State.partnerFault_same : ∀ (s : State) a b c d, Same mask223 s (State.partnerFault s a b c d) := by
  intro s a b c d
  unfold State.partnerFault
  exact (by
    extract_lets +onlyGivenNames -merge x0
    have h0 : Same mask223 s x0 := (State.cnt_same _ _ _ rfl)
    exact (by
      split
      · exact (Same.ite (Same.next h0 (State.cnt_same _ _ _ rfl)) (Same.then h0 (State.pflEntry_same ..) rfl))
      · exact (Same.then h0 (State.pflEntry_same ..) rfl)))

end Sys2Proof.Machine
end

