-- ==== Sys2Proof/Laws/HostPortFrames.lean ====
section
/-! SUPPORT. Which parts of the state the operations of Machine/HostPort.lean may change. -/
namespace Sys2Proof.Machine

theorem State.setRing_same : ∀ (s : State) a b, Same 0x400000000 s (State.setRing s a b) := by
  intro s a b
  unfold State.setRing
  exact (Same.set_host _ (Same.refl _ _) rfl)

theorem State.abandonReads_same : ∀ (s : State), Same 0x400000000 s (State.abandonReads s) := by
  intro s
  unfold State.abandonReads
  exact (by
    extract_lets +onlyGivenNames -merge x0
    exact (Same.set_host _ (Same.refl _ _) rfl))

theorem State.freeze_same : ∀ (s : State) a, Same mask185 s (State.freeze s a) := by
  intro s a
  unfold State.freeze
  exact (by
    extract_lets +onlyGivenNames -merge x0
    exact (Same.ite (by
      extract_lets +onlyGivenNames -merge x0
      have h0 : Same mask185 s x0 := (Same.then (Same.next (State.setPar_same _ _ _ _ rfl) (State.cnt_same _ _ _ rfl)) (State.abandonReads_same ..) rfl)
      exact (Same.then (Same.next (Same.set_host _ h0 rfl) (State.setPar_same _ _ _ _ rfl)) (State.alert_same ..) rfl)) (by
      extract_lets +onlyGivenNames -merge x0 x1
      have h1 : Same mask185 s x1 := (Same.set_host _ (Same.refl _ _) rfl)
      exact (Same.ite (Same.next h1 (State.setPar_same _ _ _ _ rfl)) h1))))

theorem State.linkOff_same : ∀ (s : State) a, Same mask104 s (State.linkOff s a) := by
  intro s a
  unfold State.linkOff
  exact (Same.next (Same.next (State.setPar_same _ _ _ _ rfl) (State.setPar_same _ _ _ _ rfl)) (State.setPar_same _ _ _ _ rfl))

theorem State.hostLinkDown_same : ∀ (s : State), Same mask266 s (State.hostLinkDown s) := by
  intro s
  unfold State.hostLinkDown
  exact (Same.ite (Same.refl _ _) (Same.then (Same.then (State.cnt_same _ _ _ rfl) (State.linkOff_same ..) rfl) (State.freeze_same ..) rfl))

theorem State.errorMessage_same : ∀ (s : State) a b, Same 0x2 s (State.errorMessage s a b) := by
  intro s a b
  unfold State.errorMessage
  exact (by
    extract_lets +onlyGivenNames -merge x0 x1
    exact (Same.ite (Same.mono (State.send_same ..) rfl) (Same.refl _ _)))

theorem State.deviceStatus_same : ∀ (s : State) a b, Same 0x400000000 s (State.deviceStatus s a b) := by
  intro s a b
  unfold State.deviceStatus
  exact (by
    extract_lets +onlyGivenNames -merge x0
    exact (Same.mono (State.setCfg_same ..) rfl))

theorem State.headerLog_same : ∀ (s : State) a b, Same 0x400000004 s (State.headerLog s a b) := by
  intro s a b
  unfold State.headerLog
  exact (Same.ite (Same.refl _ _) (by
    extract_lets +onlyGivenNames -merge x0 x1
    have h1 : Same 0x400000004 s x1 := (Same.then (Same.set_fresh _ (Same.refl _ _) rfl) (State.setCfg_same ..) rfl)
    exact (Same.foldl _ h1 (fun sv _ => (Same.mono (State.setCfg_same ..) rfl)))))

theorem State.correctableError_same : ∀ (s : State) a, Same 0x400000002 s (State.correctableError s a) := by
  intro s a
  unfold State.correctableError
  exact (by
    extract_lets +onlyGivenNames -merge x0
    have h0 : Same 0x400000002 s x0 := (Same.then (Same.mono (State.setCfg_same ..) rfl) (State.deviceStatus_same ..) rfl)
    exact (Same.ite h0 (Same.then h0 (State.errorMessage_same ..) rfl)))

theorem State.uncorrectableError_same : ∀ (s : State) a b c, Same 0x400000006 s (State.uncorrectableError s a b c) := by
  intro s a b c
  unfold State.uncorrectableError
  exact (by
    extract_lets +onlyGivenNames -merge x0 x1 x2
    have h2 : Same 0x400000006 s x2 := (Same.then (Same.ite (Same.mono (State.setCfg_same ..) rfl) (Same.refl _ _)) (State.deviceStatus_same ..) rfl)
    exact (Same.ite h2 (by
      extract_lets +onlyGivenNames -merge x0 x1
      have h0 : Same 0x400000006 s x0 := (Same.then h2 (State.headerLog_same ..) rfl)
      have h1 : Same 0x400000006 s x1 := (Same.then h0 (State.setCfg_same ..) rfl)
      exact (Same.ite h1 (Same.then h1 (State.errorMessage_same ..) rfl)))))

theorem State.contain_same : ∀ (s : State) a b c, Same mask117 s (State.contain s a b c) := by
  intro s a b c
  unfold State.contain
  exact (by
    extract_lets +onlyGivenNames -merge x0
    have h0 : Same mask117 s x0 := (Same.ite (Same.refl _ _) (Same.mono (State.partnerFault_same ..) rfl))
    exact (Same.ite (Same.then h0 (State.freeze_same ..) rfl) h0))

theorem State.portError_same : ∀ (s : State) a b c, Same mask289 s (State.portError s a b c) := by
  intro s a b c
  unfold State.portError
  exact (by
    extract_lets +onlyGivenNames -merge x0 x1 x2 x3
    have h2 : Same mask289 s x2 := (Same.ite (Same.mono (State.correctableError_same ..) rfl) (Same.mono (State.uncorrectableError_same ..) rfl))
    have h3 : Same mask289 s x3 := (Same.then h2 (State.contain_same ..) rfl)
    exact (Same.ite (Same.then (Same.then h3 (State.correctableError_same ..) rfl) (State.contain_same ..) rfl) h3))

theorem State.completerAbort_same : ∀ (s : State) a, Same mask101 s (State.completerAbort s a) := by
  intro s a
  unfold State.completerAbort
  exact (Same.ite (Same.then (Same.mono (State.send_same ..) rfl) (State.portError_same ..) rfl) (Same.then (State.cnt_same _ _ _ rfl) (State.send_same ..) rfl))

theorem State.governed_same : ∀ (s : State), Same mask285 s (State.governed s) := by
  intro s
  unfold State.governed
  exact (State.cnt_same _ _ _ rfl)

theorem State.memRequest_same : ∀ (s : State) a b c, Same mask101 s (State.memRequest s a b c).1 := by
  intro s a b c
  unfold State.memRequest
  exact (Same.iteP (Same.refl _ _) (Same.iteP (Same.then (Same.ite (Same.refl _ _) (Same.mono (State.send_same ..) rfl)) (State.portError_same ..) rfl) (Same.iteP (Same.mono (State.completerAbort_same ..) rfl) (Same.refl _ _))))

theorem State.postedWrite_same (m : Nat) (hm : mask7 ||| m = m) : ∀ (s : State) p f, (∀ u, Same m u (f u)) →
    Same m s (State.postedWrite s p f) := by
  intro s p f h
  unfold State.postedWrite
  extract_lets r
  have hr : Same m s r.1 := Same.mono (Same.mono (State.memRequest_same ..) rfl : Same mask7 _ _) hm
  exact Same.ite hr (Same.ite (Same.then hr (h _) (Nat.or_self m))
    (Same.then hr (Same.mono (Same.mono (State.governed_same ..) rfl : Same mask7 _ _) hm) (Nat.or_self m)))

theorem State.crossingReset_same : ∀ (s : State) a b, Same mask301 s (State.crossingReset s a b) := by
  intro s a b
  unfold State.crossingReset
  exact (Same.next (State.cntN_same _ _ _ _ rfl) (State.cntN_same _ _ _ _ rfl))

end Sys2Proof.Machine
end

