-- ==== Sys2Proof/Laws/ConversionFrames.lean ====
section
/-! SUPPORT. Which parts of the state the operations of Machine/Conversion.lean may change. -/
namespace Sys2Proof.Machine

theorem State.sampleAt_same : ∀ (s : State) a b c d e, Same mask95 s (State.sampleAt s a b c d e) := by
  intro s a b c d e
  unfold State.sampleAt
  exact (by
    extract_lets +onlyGivenNames -merge x0 x1 x2 x3 x4 x5 x6 x7 x8 x9 x10
    have h9 : Same mask95 s x9 := (Same.mono (State.setConv_same ..) rfl)
    have h10 : Same mask95 s x10 := (Same.ite h9 (Same.next h9 (State.cntW_same _ _ _ _ rfl)))
    exact (Same.then h10 (State.buffer_same ..) rfl))

theorem State.caCause_same : ∀ (s : State) a b c d e, Same mask35 s (State.caCause s a b c d e) := by
  intro s a b c d e
  unfold State.caCause
  exact (by
    extract_lets +onlyGivenNames -merge x0
    exact (Same.mono (State.caReset_same ..) rfl))

theorem State.setSlice_same : ∀ (s : State) a b c, Same 0x40000 s (State.setSlice s a b c) := by
  intro s a b c
  unfold State.setSlice
  exact (Same.set_slice _ (Same.refl _ _) rfl)

theorem State.sliceReport_same : ∀ (s : State) a, Same mask168 s (State.sliceReport s a) := by
  intro s a
  unfold State.sliceReport
  exact (by
    extract_lets +onlyGivenNames -merge x0
    exact (Same.next (State.setPar_same _ _ _ _ rfl) (State.setPar_same _ _ _ _ rfl)))

theorem State.overlapCancel_same : ∀ (s : State) a b, Same mask34 s (State.overlapCancel s a b) := by
  intro s a b
  unfold State.overlapCancel
  exact (by
    split
    · exact (Same.refl _ _)
    · exact (by
      extract_lets +onlyGivenNames -merge x0 x1 x2 x3
      have h1 : Same mask34 s x1 := (Same.set_overlap _ (Same.refl _ _) rfl)
      have h3 : Same mask34 s x3 := (Same.then h1 (State.setSlice_same ..) rfl)
      exact (Same.then (Same.then h3 (State.laneRecord_same ..) rfl) (State.sliceReport_same ..) rfl)))

theorem State.rotationDecide_same : ∀ (s : State) a b, Same mask194 s (State.rotationDecide s a b) := by
  intro s a b
  unfold State.rotationDecide
  exact (by
    extract_lets +onlyGivenNames -merge x0 x1 x2 x3 x4 x5 x6
    have h5 : Same mask194 s x5 := (Same.set_overlap _ (Same.refl _ _) rfl)
    exact (Same.ite (by
      extract_lets +onlyGivenNames -merge x0 x1
      have h1 : Same mask194 s x1 := (Same.next (Same.then h5 (State.setSlice_same ..) rfl) (State.cnt_same _ _ _ rfl))
      exact (Same.then (Same.then h1 (State.laneRecord_same ..) rfl) (State.sliceReport_same ..) rfl)) (Same.ite (by
      extract_lets +onlyGivenNames -merge x0 x1 x2 x3
      have h1 : Same mask194 s x1 := (Same.then (Same.then h5 (State.setSlice_same ..) rfl) (State.setSlice_same ..) rfl)
      have h2 : Same mask194 s x2 := (Same.next (Same.next (Same.next h1 (State.setPar_same _ _ _ _ rfl)) (State.setPar_same _ _ _ _ rfl)) (State.setPar_same _ _ _ _ rfl))
      have h3 : Same mask194 s x3 := (Same.next (Same.next h2 (State.setPar_same _ _ _ _ rfl)) (State.cntW_same _ _ _ _ rfl))
      exact (Same.then (Same.then h3 (State.laneRecord_same ..) rfl) (State.sliceReport_same ..) rfl)) (by
      extract_lets +onlyGivenNames -merge x0 x1 x2 x3 x4 x5
      have h1 : Same mask194 s x1 := (Same.next (Same.next h5 (State.setPar_same _ _ _ _ rfl)) (State.setPar_same _ _ _ _ rfl))
      have h2 : Same mask194 s x2 := (Same.next (Same.next h1 (State.cnt_same _ _ _ rfl)) (State.setPar_same _ _ _ _ rfl))
      have h3 : Same mask194 s x3 := (Same.then h2 (State.laneRecord_same ..) rfl)
      have h4 : Same mask194 s x4 := (Same.then h3 (State.setSlice_same ..) rfl)
      have h5 : Same mask194 s x5 := (Same.ite (Same.then h4 (State.laneRecord_same ..) rfl) h4)
      exact (Same.then h5 (State.sliceReport_same ..) rfl)))))

theorem State.sliceRetest_same : ∀ (s : State) a, Same mask302 s (State.sliceRetest s a) := by
  intro s a
  unfold State.sliceRetest
  exact (Same.ite (Same.then (Same.foldl _ (Same.refl _ _) (fun sv _ => (Same.ite (Same.mono (State.setSlice_same ..) rfl) (Same.refl _ _)))) (State.sliceReport_same ..) rfl) (Same.refl _ _))

end Sys2Proof.Machine
end

