-- ==== Sys2Proof/Laws/LaneRunFrames.lean ====
section
/-! SUPPORT. Which parts of the state the operations of Machine/LaneRun.lean may change. -/
namespace Sys2Proof.Machine

theorem State.laneStateRecord_same : ∀ (s : State) a b, Same mask178 s (State.laneStateRecord s a b) := by
  intro s a b
  unfold State.laneStateRecord
  exact (by
    extract_lets +onlyGivenNames -merge x0
    exact (Same.then (State.setPar_same _ _ _ _ rfl) (State.laneRecord_same ..) rfl))

theorem State.laneStart_same : ∀ (s : State) a b, Same mask10 s (State.laneStart s a b) := by
  intro s a b
  unfold State.laneStart
  exact (by
    extract_lets +onlyGivenNames -merge x0 x1 x2 x3
    have h1 : Same mask10 s x1 := (Same.then (Same.mono (State.setEdge_same ..) rfl) (State.setRun_same ..) rfl)
    have h3 : Same mask10 s x3 := (Same.then (Same.then h1 (State.laneStateRecord_same ..) rfl) (State.store_same ..) rfl)
    exact (Same.then h3 (State.caiTouch_same ..) rfl))

theorem State.convStart_same : ∀ (s : State) a b, Same 0x20000 s (State.convStart a s b) := by
  intro s a b
  unfold State.convStart
  exact (Same.then (Same.mono (State.setConv_same ..) rfl) (State.settleStart_same ..) rfl)

theorem State.laneStop_same : ∀ (s : State) a b, Same mask10 s (State.laneStop s a b) := by
  intro s a b
  unfold State.laneStop
  exact (by
    extract_lets +onlyGivenNames -merge x0 x1
    have h0 : Same mask10 s x0 := (Same.mono (State.setRun_same ..) rfl)
    have h1 : Same mask10 s x1 := (Same.then (Same.then h0 (State.laneStateRecord_same ..) rfl) (State.store_same ..) rfl)
    exact (Same.then h1 (State.caiTouch_same ..) rfl))

theorem State.overlapOf_same : ∀ (s : State) a b, Same mask34 s (State.overlapOf s a b) := by
  intro s a b
  unfold State.overlapOf
  exact (by
    split
    · exact (Same.ite (Same.mono (State.overlapCancel_same ..) rfl) (Same.refl _ _))
    · exact (Same.refl _ _))

theorem State.laneEnable_same : ∀ (s : State) a b, Same mask246 s (State.laneEnable s a b) := by
  intro s a b
  unfold State.laneEnable
  exact (Same.ite (by
    extract_lets +onlyGivenNames -merge x0
    have h0 : Same mask246 s x0 := (Same.then (Same.mono (State.laneStart_same ..) rfl) (State.conditionsOf_same ..) rfl)
    exact (Same.ite (Same.then h0 (State.convStart_same ..) rfl) h0)) (Same.mono (State.laneStateRecord_same ..) rfl))

theorem State.laneDisable_same : ∀ (s : State) a b, Same mask49 s (State.laneDisable s a b) := by
  intro s a b
  unfold State.laneDisable
  exact (by
    extract_lets +onlyGivenNames -merge x0 x1
    have h0 : Same mask49 s x0 := (Same.mono (State.overlapOf_same ..) rfl)
    have h1 : Same mask49 s x1 := (Same.next h0 (State.setPar_same _ _ _ _ rfl))
    exact (Same.ite (Same.then h1 (State.laneStop_same ..) rfl) (Same.then h1 (State.laneStateRecord_same ..) rfl)))

theorem State.frontPause_same : ∀ (s : State) a b, Same mask271 s (State.frontPause s a b) := by
  intro s a b
  unfold State.frontPause
  exact (by
    extract_lets +onlyGivenNames -merge x0 x1 x2
    have h0 : Same mask271 s x0 := (Same.foldl _ (Same.refl _ _) (fun sv _ => (Same.ite (Same.mono (State.exEnter_same ..) rfl) (Same.refl _ _))))
    have h1 : Same mask271 s x1 := (Same.then h0 (State.biasFlag_same ..) rfl)
    have h2 : Same mask271 s x2 := (Same.foldl _ h1 (fun sv _ => (Same.mono (State.clampFlag_same ..) rfl)))
    exact (Same.set_tone _ h2 rfl))

theorem State.frontResume_same : ∀ (s : State) a b, Same mask5 s (State.frontResume s a b) := by
  intro s a b
  unfold State.frontResume
  exact (Same.foldl _ (Same.refl _ _) (fun sv _ => (Same.ite (Same.then (Same.mono (State.exEnter_same ..) rfl) (State.settleLanes_same ..) rfl) (Same.refl _ _))))

theorem State.pierLanes_same : ∀ (s : State) a b c, Same mask10 s (State.pierLanes s a b c) := by
  intro s a b c
  unfold State.pierLanes
  exact (Same.foldl _ (Same.refl _ _) (fun sv _ => (Same.ite (Same.mono (State.laneStart_same ..) rfl) (Same.mono (State.laneStop_same ..) rfl))))

theorem State.pierMeasures_same : ∀ (s : State) a b, Same 0x60000 s (State.pierMeasures s a b) := by
  intro s a b
  unfold State.pierMeasures
  exact (by
    extract_lets +onlyGivenNames -merge x0
    have h0 : Same 0x60000 s x0 := (Same.foldl _ (Same.refl _ _) (fun sv _ => (by
        extract_lets +onlyGivenNames -merge x0
        exact (Same.ite (Same.mono (State.setSlice_same ..) rfl) (Same.refl _ _)))))
    exact (Same.foldl _ h0 (fun _ _ => Same.mono (State.convStart_same ..) rfl)))

theorem State.pierTo_same : ∀ (s : State) a b c, Same mask84 s (State.pierTo a b s c) := by
  intro s a b c
  unfold State.pierTo
  exact (by
    extract_lets +onlyGivenNames -merge x0
    exact (Same.ite (Same.refl _ _) (by
      extract_lets +onlyGivenNames -merge x0 x1 x2 x3 x4
      have h0 : Same mask84 s x0 := (Same.ite (Same.mono (State.frontPause_same ..) rfl) (Same.refl _ _))
      have h1 : Same mask84 s x1 := (Same.ite (Same.then h0 (State.overlapCancel_same ..) rfl) h0)
      have h2 : Same mask84 s x2 := (Same.then (Same.next h1 (State.setPar_same _ _ _ _ rfl)) (State.emit_same ..) rfl)
      have h3 : Same mask84 s x3 := (Same.ite (Same.then h2 (State.pierLanes_same ..) rfl) (Same.ite (Same.then (Same.then h2 (State.frontResume_same ..) rfl) (State.pierLanes_same ..) rfl) h2))
      have h4 : Same mask84 s x4 := (Same.ite (Same.then h3 (State.pierMeasures_same ..) rfl) h3)
      exact (Same.ite (Same.then h4 (State.caiTouchPier_same ..) rfl) h4))))

end Sys2Proof.Machine
end

