-- ==== Sys2Proof/Laws/SpanFrames.lean ====
section
/-! SUPPORT. Which parts of the state the operations of Machine/Span.lean may change. -/
namespace Sys2Proof.Machine

theorem State.regionRefused_same : ∀ (s : State) a b c, Same mask23 s (State.regionRefused s a b c) := by
  intro s a b c
  unfold State.regionRefused
  exact (Same.next (State.cnt_same _ _ _ rfl) (State.setPar_same _ _ _ _ rfl))

theorem State.regionVerdict_same : ∀ (s : State) a b c, Same mask23 s (State.regionVerdict s a b c).1 := by
  intro s a b c
  unfold State.regionVerdict
  exact (by
    split
    · exact (Same.mono (State.regionRefused_same ..) rfl)
    · exact (Same.refl _ _))

theorem State.streamRegions_same : ∀ (s : State) a, Same mask23 s (State.streamRegions s a).1 := by
  intro s a
  generalize hr : s.streamRegions a = r
  unfold State.streamRegions at hr
  extract_lets +onlyGivenNames -merge o sp hi x y z at hr
  have hz : Same mask23 s z.1 := Same.mono (State.regionVerdict_same ..) rfl
  clear_value z
  split at hr
  · exact hr ▸ Same.mono (State.regionVerdict_same ..) rfl
  · exact hr ▸ hz

theorem State.caiRegions_same : ∀ (s : State) a, Same mask23 s (State.caiRegions s a).1 := by
  intro s a
  unfold State.caiRegions
  exact (Same.mono (State.regionVerdict_same ..) rfl)

theorem State.hostRegions_same : ∀ (s : State), Same mask23 s (State.hostRegions s).1 := by
  intro s
  unfold State.hostRegions
  exact (Same.mono (State.regionVerdict_same ..) rfl)

theorem State.spanWrite_same : ∀ (s : State) a b c d e, Same mask69 s (State.spanWrite s a b c d e) := by
  intro s a b c d e
  unfold State.spanWrite
  exact (by
    extract_lets +onlyGivenNames -merge x0
    exact (Same.foldl _ (Same.refl _ _) (fun sv _ => (Same.mono (State.writeMem_same ..) rfl))))

theorem State.spanReport_same : ∀ (s : State) a, Same mask238 s (State.spanReport s a) := by
  intro s a
  unfold State.spanReport
  exact (by
    extract_lets +onlyGivenNames -merge x0
    exact (Same.next (State.setPar_same _ _ _ _ rfl) (State.mark_same _ _ _ _ rfl)))

theorem State.histWrite_same : ∀ (s : State) a b, Same mask245 s (State.histWrite s a b) := by
  intro s a b
  unfold State.histWrite
  exact (by
    extract_lets +onlyGivenNames -merge x0 x1 x2 x3 x4 x5 x6 x7 x8 x9 x10 x11
    have h4 : Same mask245 s x4 := (Same.ite (Same.mono (State.writeMem_same ..) rfl) (Same.refl _ _))
    have h10 : Same mask245 s x10 := (Same.then h4 (State.writeMem_same ..) rfl)
    have h11 : Same mask245 s x11 := (Same.then h10 (State.setStream_same ..) rfl)
    exact (Same.next (Same.next h11 (State.setPar_same _ _ _ _ (inM_nth _ rfl))) (State.setPar_same _ _ _ _ (inM_nth _ rfl))))

theorem State.countSubstitute_same : ∀ (s : State) a b, Same mask124 s (State.countSubstitute a s b) := by
  intro s a b
  unfold State.countSubstitute
  exact (Same.then (State.cnt_same _ _ _ rfl) (State.countRaw_same ..) rfl)

theorem State.sramFrame_same : ∀ (s : State) a b c, Same mask75 s (State.sramFrame s a b c).1 := by
  intro s a b c
  unfold State.sramFrame
  exact (by
    extract_lets +onlyGivenNames -merge x0 x1 x2
    have h1 : Same mask75 s x1 := (Same.foldl _ (Same.refl _ _) (fun _ _ => Same.mono (State.countSramFixes_same ..) rfl))
    exact (Same.iteP h1 (Same.iteP (by
      extract_lets +onlyGivenNames -merge x0 x1
      have h0 : Same mask75 s x0 := (Same.foldl _ h1 (fun sv _ => (Same.mono (State.sramBad_same ..) rfl)))
      exact (Same.then h0 (State.countSubstitute_same ..) rfl)) (by
      extract_lets +onlyGivenNames -merge x0
      have h0 : Same mask75 s x0 := (Same.next (Same.foldl _ h1 (fun sv _ => (Same.mono (State.sramBad_same ..) rfl))) (State.setPar_same _ _ _ _ rfl))
      exact h0))))

theorem State.accept_same : ∀ (s : State) a b c d, Same mask213 s (State.accept a b c s d) := by
  intro s a b c d
  unfold State.accept
  exact (by
    extract_lets +onlyGivenNames -merge x0 x1 x2 x3 x4 x5 x6
    have h2 : Same mask213 s x2 := (Same.next (State.setPar_same _ _ _ _ (inM_nth _ rfl)) (State.cntW_same _ _ _ _ (inM_nth _ rfl)))
    have h3 : Same mask213 s x3 := (Same.ite (Same.next h2 (State.cnt_same _ _ _ rfl)) h2)
    have h4 : Same mask213 s x4.1 := (Same.then h3 (State.sramFrame_same ..) rfl)
    have h6 : Same mask213 s x6 := (Same.then h4 (State.setStream_same ..) rfl)
    exact (Same.ite (Same.then h6 (State.histWrite_same ..) rfl) h6))

theorem State.acceptOwed_same : ∀ (s : State) a, Same mask171 s (State.acceptOwed s a) := by
  intro s a
  unfold State.acceptOwed
  exact (by
    extract_lets +onlyGivenNames -merge x0
    exact (Same.ite (Same.refl _ _) (by
      extract_lets +onlyGivenNames -merge x0 x1
      have h0 : Same mask171 s x0 := (Same.mono (State.setStream_same ..) rfl)
      have h1 : Same mask171 s x1 := (Same.foldl _ h0 (fun sv _ => (Same.mono (State.accept_same ..) rfl)))
      exact (Same.ite (Same.next h1 (State.setPar_same _ _ _ _ rfl)) h1))))

theorem State.acceptNext_same : ∀ (s : State) a b c, Same mask171 s (State.acceptNext s a b c) := by
  intro s a b c
  unfold State.acceptNext
  exact (by
    extract_lets +onlyGivenNames -merge x0 x1
    have h0 : Same mask171 s x0 := (Same.mono (State.acceptOwed_same ..) rfl)
    have h1 : Same mask171 s x1 := (Same.ite (Same.next h0 (State.setPar_same _ _ _ _ rfl)) h0)
    exact (Same.then h1 (State.accept_same ..) rfl))

theorem State.meetOld_same : ∀ (s : State) a b c d e, Same mask255 s (State.meetOld s a b c d e) := by
  intro s a b c d e
  unfold State.meetOld
  exact (by
    extract_lets +onlyGivenNames -merge x0 x1
    exact (Same.ite (Same.mono (State.refuseOld_same ..) rfl) (by
      split
      · exact (Same.then (Same.then (Same.mono (State.setStream_same ..) rfl) (State.reportLoss_same ..) rfl) (State.acceptNext_same ..) rfl)
      · exact (Same.then (Same.mono (State.setStream_same ..) rfl) (State.acceptNext_same ..) rfl))))

theorem State.meetHead_same : ∀ (s : State) a b c, Same mask166 s (State.meetHead s a b c) := by
  intro s a b c
  unfold State.meetHead
  exact (by
    extract_lets +onlyGivenNames -merge x0
    exact (by
      split
      · exact (Same.mono (State.meetOld_same ..) rfl)
      · exact (Same.ite (Same.mono (State.refuseFrame_same ..) rfl) (Same.then (Same.ite (Same.mono (State.settleLoss_same ..) rfl) (Same.refl _ _)) (State.acceptNext_same ..) rfl))))

theorem State.drainTail_same : ∀ (s : State) a, Same 0x20000000 s (State.drainTail s a) := by
  intro s a
  unfold State.drainTail
  exact (by
    extract_lets +onlyGivenNames -merge x0 x1 x2 x3 x4
    exact (Same.mono (State.setStream_same ..) rfl))

theorem State.intoTail_same : ∀ (s : State) a b, Same 0x20000000 s (State.intoTail a s b) := by
  intro s a b
  unfold State.intoTail
  exact (by
    extract_lets +onlyGivenNames -merge x0
    exact (Same.then (Same.mono (State.setStream_same ..) rfl) (State.drainTail_same ..) rfl))

theorem State.moveHead_same : ∀ (s : State) a b, Same mask290 s (State.moveHead s a b) := by
  intro s a b
  unfold State.moveHead
  exact (by
    extract_lets +onlyGivenNames -merge x0
    exact (by
      split
      · exact (Same.refl _ _)
      · exact (Same.ite (by
        extract_lets +onlyGivenNames -merge x0
        have h0 : Same mask290 s x0.1 := (Same.then (Same.mono (State.setStream_same ..) rfl) (State.sramFrame_same ..) rfl)
        exact (Same.then h0 (State.intoTail_same ..) rfl)) (Same.ite (by
        extract_lets +onlyGivenNames -merge x0 x1 x2 x3
        have h0 : Same mask290 s x0.1 := (Same.then (Same.mono (State.setStream_same ..) rfl) (State.sramFrame_same ..) rfl)
        exact (Same.then (Same.then (Same.then h0 (State.setStream_same ..) rfl) (State.spanWrite_same ..) rfl) (State.spanReport_same ..) rfl)) (Same.refl _ _)))))

theorem State.countSpan_same : ∀ (s : State) a b c d e f, Same mask46 s (State.countSpan s a b c d e f) := by
  intro s a b c d e f
  unfold State.countSpan
  exact (Same.foldl _ (Same.refl _ _) (fun sv _ => (Same.foldl _ (Same.refl _ _) (fun svv _ => (Same.mono (State.countRead_same ..) rfl)))))

theorem State.leaveSpan_same : ∀ (s : State) a b c d e, Same mask242 s (State.leaveSpan s a b c d e) := by
  intro s a b c d e
  unfold State.leaveSpan
  exact (by
    extract_lets +onlyGivenNames -merge x0 x1 x2 x3 x4
    have h4 : Same mask242 s x4 := (Same.mono (State.countSpan_same ..) rfl)
    exact (Same.ite (by
      extract_lets +onlyGivenNames -merge x0 x1 x2
      have h2 : Same mask242 s x2 := (Same.ite h4 (Same.then (Same.then (Same.then h4 (State.draw_same ..) rfl) (State.draw_same ..) rfl) (State.draw_same ..) rfl))
      exact (Same.then (Same.then h2 (State.setStream_same ..) rfl) (State.spanReport_same ..) rfl)) (by
      extract_lets +onlyGivenNames -merge x0 x1 x2 x3
      have h2 : Same mask242 s x2 := (Same.ite (Same.next h4 (State.setPar_same _ _ _ _ rfl)) h4)
      have h3 : Same mask242 s x3 := (Same.then (Same.then h2 (State.setStream_same ..) rfl) (State.spanReport_same ..) rfl)
      exact (Same.then h3 (State.intoTail_same ..) rfl))))

theorem State.moveSpan_same : ∀ (s : State) a, Same mask141 s (State.moveSpan s a) := by
  intro s a
  unfold State.moveSpan
  exact (by
    extract_lets +onlyGivenNames -merge x0
    exact (by
      split
      · exact (by
        extract_lets +onlyGivenNames -merge x0
        exact (Same.ite (Same.refl _ _) (by
          extract_lets +onlyGivenNames -merge x0
          exact (Same.then (Same.then (Same.mono (State.setStream_same ..) rfl) (State.countSubstitute_same ..) rfl) (State.intoTail_same ..) rfl))))
      · exact (Same.ite (Same.refl _ _) (Same.mono (State.leaveSpan_same ..) rfl))
      · exact (Same.refl _ _)))

theorem State.endReport_same : ∀ (s : State) a b c, Same mask36 s (State.endReport s a b c) := by
  intro s a b c
  unfold State.endReport
  exact (by
    split
    · exact (Same.then (Same.mono (State.reportLoss_same ..) rfl) (State.acceptOwed_same ..) rfl)
    · exact (Same.mono (State.acceptOwed_same ..) rfl))

end Sys2Proof.Machine
end

