-- ==== Sys2Proof/Laws/QueueFrames.lean ====
section
/-! SUPPORT. Which parts of the state the operations of Machine/Queue.lean may change. -/
namespace Sys2Proof.Machine

theorem State.enqueueAt_same : ∀ (s : State) a b c d, Same mask4 s (State.enqueueAt s a b c d) := by
  intro s a b c d
  unfold State.enqueueAt
  exact (by
    extract_lets +onlyGivenNames -merge x0 x1 x2 x3 x4
    have h4 : Same mask4 s x4 := (Same.set_cw _ (Same.refl _ _) rfl)
    exact (Same.ite h4 (Same.next h4 (State.cnt_same _ _ _ rfl))))

theorem State.enqueue_same : ∀ (s : State) a b c, Same mask4 s (State.enqueue s a b c) := by
  intro s a b c
  unfold State.enqueue
  exact (Same.mono (State.enqueueAt_same ..) rfl)

theorem State.noteHost_same : ∀ (s : State) a b, Same 0x8000000000 s (State.noteHost s a b) := by
  intro s a b
  unfold State.noteHost
  exact (Same.set_ds _ (Same.refl _ _) rfl)

theorem State.tellConfig_same : ∀ (s : State) a b c d, Same mask22 s (State.tellConfig s a b c d) := by
  intro s a b c d
  unfold State.tellConfig
  exact (by
    extract_lets +onlyGivenNames -merge x0
    exact (Same.mono (State.emit_same ..) rfl))

theorem State.requeue_same : ∀ (s : State), Same mask142 s (State.requeue s) := by
  intro s
  unfold State.requeue
  exact (by
    extract_lets +onlyGivenNames -merge x0 x1 x2
    have h2 : Same mask142 s x2 := (Same.foldl _ (Same.set_cw _ (Same.refl _ _) rfl) (fun sv _ => (Same.mono (State.enqueueAt_same ..) rfl)))
    exact (Same.set_net _ h2 rfl))

theorem State.noteChange_same : ∀ (s : State) a b, Same 0x2000000 s (State.noteChange s a b) := by
  intro s a b
  unfold State.noteChange
  exact (Same.set_cw _ (Same.refl _ _) rfl)

theorem State.setAt_same : ∀ (s : State) (t ix sub v : Nat) {m : Nat}, setAtIn m ix = true → Same m s (State.setAt s t ix sub v) := by
  intro s t ix sub v m h
  rw [setAtIn, Bool.and_eq_true] at h
  exact Same.next (Same.set_cw _ (Same.refl _ _) (Nat.eq_of_beq_eq_true h.2)) (State.setPar_same _ _ _ _ h.1)

end Sys2Proof.Machine
end

