-- ==== Sys2Proof/Laws/TimersFrames.lean ====
section
/-! SUPPORT. Which parts of the state the operations of Machine/Timers.lean may change. -/
namespace Sys2Proof.Machine

theorem State.shiftTimers_same : ∀ (s : State) a b, Same 0xbc00000000 s (State.shiftTimers s a b) := by
  intro s a b
  unfold State.shiftTimers
  exact (Same.set_host_net_clk_nv_ds _ _ _ _ _ (Same.refl _ _) rfl)

end Sys2Proof.Machine
end

