-- ==== Sys2Proof/Laws/TimeFrames.lean ====
section
/-! SUPPORT. Which parts of the state the operations of Machine/Time.lean may change. -/
namespace Sys2Proof.Machine

theorem State.emitEpoch_same : ∀ (s : State) a b, Same mask22 s (State.emitEpoch s a b) := by
  intro s a b
  unfold State.emitEpoch
  exact (by
    extract_lets +onlyGivenNames -merge x0 x1 x2 x3 x4 x5
    have h5 : Same mask22 s x5 := (Same.set_cw _ (Same.refl _ _) rfl)
    exact (Same.ite h5 (Same.ite (Same.then h5 (State.emit_same ..) rfl) (Same.foldl _ h5 (fun sv _ => (Same.mono (State.emitItem_same ..) rfl))))))

theorem State.emitStart_same : ∀ (s : State) a b, Same mask169 s (State.emitStart s a b) := by
  intro s a b
  unfold State.emitStart
  extract_lets +onlyGivenNames -merge owed common q e mine y s1
  have h1 : Same mask169 s s1 := Same.set_time _ (Same.refl _ _) rfl
  have hs : ∀ u i, Same mask169 s u → Same mask169 s (u.emitItem i) := fun u i h => Same.then h (State.emitItem_same ..) rfl
  clear_value common
  cases common with
  | none => exact hs _ _ h1
  | some i =>
    cases i with
    | ctl t c => exact hs _ _ h1
    | record r o =>
      cases o with
      | some n => exact hs _ _ h1
      | none =>
        dsimp only
        exact hs _ _ (Same.foldl _ (Same.set_cw _ h1 rfl) (fun _ _ => Same.mono (State.emitItem_same ..) rfl))

theorem State.settleAll_same : ∀ (s : State) a, Same 0xa0000 s (State.settleAll s a) := by
  intro s a
  unfold State.settleAll
  exact (Same.mono (State.settleLanes_same ..) rfl)

theorem State.setQuality_same : ∀ (s : State) a b, Same mask105 s (State.setQuality s a b) := by
  intro s a b
  unfold State.setQuality
  exact (Same.ite (Same.refl _ _) (by
    extract_lets +onlyGivenNames -merge x0 x1 x2 x3 x4
    have h4 : Same mask105 s x4 := (Same.set_time_cw _ _ (Same.refl _ _) rfl)
    exact (Same.then (Same.then (Same.then (Same.then h4 (State.emit_same ..) rfl) (State.emitEpoch_same ..) rfl) (State.settleAll_same ..) rfl) (State.alert_same ..) rfl)))

theorem State.syncTo_same : ∀ (s : State) a, Same mask55 s (State.syncTo s a) := by
  intro s a
  unfold State.syncTo
  exact (by
    extract_lets +onlyGivenNames -merge x0
    exact (Same.ite (Same.refl _ _) (Same.then (State.setPar_same _ _ _ _ rfl) (State.emit_same ..) rfl)))

theorem State.decideStep_same : ∀ (s : State) a, Same 0x40 s (State.decideStep s a) := by
  intro s a
  unfold State.decideStep
  exact (by
    extract_lets +onlyGivenNames -merge x0
    exact (Same.ite (Same.refl _ _) (Same.ite (Same.ite (Same.set_time _ (Same.refl _ _) rfl) (Same.refl _ _)) (Same.ite (Same.set_time _ (Same.refl _ _) rfl) (Same.refl _ _)))))

theorem State.servo_same : ∀ (s : State) a, Same mask193 s (State.servo s a) := by
  intro s a
  unfold State.servo
  exact (by
    extract_lets +onlyGivenNames -merge x0 x1 x2 x3
    have h0 : Same mask193 s x0 := (State.setPar_same _ _ _ _ rfl)
    have h3 : Same mask193 s x3 := (Same.set_time _ h0 rfl)
    exact (Same.then (Same.then h3 (State.syncTo_same ..) rfl) (State.decideStep_same ..) rfl))

theorem State.setMaster_same : ∀ (s : State) a b, Same mask183 s (State.setMaster s a b) := by
  intro s a b
  unfold State.setMaster
  exact (Same.ite (Same.refl _ _) (by
    extract_lets +onlyGivenNames -merge x0 x1
    have h1 : Same mask183 s x1 := (Same.set_time _ (Same.refl _ _) rfl)
    exact (Same.ite h1 (Same.then h1 (State.syncTo_same ..) rfl))))

theorem State.servoEffect_same : ∀ (s : State) a, Same mask183 s (State.servoEffect s a) := by
  intro s a
  unfold State.servoEffect
  exact (by
    extract_lets +onlyGivenNames -merge x0 x1
    have h1 : Same mask183 s x1 := (Same.set_time _ (Same.refl _ _) rfl)
    exact (Same.then h1 (State.syncTo_same ..) rfl))

theorem State.rebase_same : ∀ (s : State) a, Same 0xfd230fe1d0 s (State.rebase s a) := by
  intro s a
  unfold State.rebase
  exact (Same.then (Same.set_now_time_edge_run_ex_ca_tone_clamp_conv_slice_overlap_driven_cw_stream_dram_pflLast _ _ _ _ _ _ _ _ _ _ _ _ _ _ _ _ (Same.refl _ _) rfl) (State.shiftTimers_same ..) rfl)

theorem State.newEpoch_same : ∀ (s : State) a, Same mask283 s (State.newEpoch s a) := by
  intro s a
  unfold State.newEpoch
  exact (State.setAt_same _ _ _ _ _ rfl)

theorem State.cancelLoad_same : ∀ (s : State), Same mask89 s (State.cancelLoad s) := by
  intro s
  unfold State.cancelLoad
  exact (by
    extract_lets +onlyGivenNames -merge x0 x1
    have h1 : Same mask89 s x1 := (Same.set_time _ (Same.refl _ _) rfl)
    exact (Same.next (Same.next h1 (State.setPar_same _ _ _ _ rfl)) (State.cnt_same _ _ _ rfl)))

theorem State.timeReject_same : ∀ (s : State) a b, Same mask45 s (State.timeReject s a b) := by
  intro s a b
  unfold State.timeReject
  exact (State.reject_same _ _ _ _ _ _ rfl)

theorem State.loadCmd_same : ∀ (s : State), Same mask71 s (State.loadCmd s) := by
  intro s
  unfold State.loadCmd
  exact (Same.ite (Same.mono (State.timeReject_same ..) rfl) (by
    extract_lets +onlyGivenNames -merge x0
    exact (Same.ite (Same.mono (State.cancelLoad_same ..) rfl) (Same.next (Same.set_time _ (Same.refl _ _) rfl) (State.setPar_same _ _ _ _ rfl)))))

theorem State.restartAt_same : ∀ (s : State) a, Same mask279 s (State.restartAt s a) := by
  intro s a
  unfold State.restartAt
  exact (Same.then (Same.foldl _ (Same.refl _ _) (fun _ _ => Same.mono (State.caiLoad_same ..) rfl)) (State.unitsLoad_same ..) rfl)

theorem State.rebaseReleases_same : ∀ (s : State) a, Same 0x9000002600 s (State.rebaseReleases s a) := by
  intro s a
  unfold State.rebaseReleases
  exact (Same.set_guard_line_ex_clk_ds _ _ _ _ _ (Same.refl _ _) rfl)

theorem State.servoReset_same : ∀ (s : State), Same mask55 s (State.servoReset s) := by
  intro s
  unfold State.servoReset
  exact (Same.ite (Same.refl _ _) (Same.mono (State.syncTo_same ..) rfl))

theorem State.loadTime_same : ∀ (s : State) a, Same mask154 s (State.loadTime s a) := by
  intro s a
  unfold State.loadTime
  exact (by
    extract_lets +onlyGivenNames -merge x0 x1 x2
    have h0 : Same mask154 s x0 := (Same.then (Same.mono (State.discardEvents_same ..) rfl) (State.rebase_same ..) rfl)
    have h1 : Same mask154 s x1 := (Same.then (Same.set_time _ h0 rfl) (State.rebaseReleases_same ..) rfl)
    have h2 : Same mask154 s x2 := (Same.next h1 (State.setPar_same _ _ _ _ rfl))
    exact (Same.then (Same.then (Same.then (Same.then (Same.next h2 (State.setPar_same _ _ _ _ rfl)) (State.requeue_same ..) rfl) (State.restartAt_same ..) rfl) (State.settleAll_same ..) rfl) (State.servoReset_same ..) rfl))

theorem State.loadEffect_same : ∀ (s : State) a b, Same mask163 s (State.loadEffect s a b) := by
  intro s a b
  unfold State.loadEffect
  exact (Same.ite (Same.mono (State.cancelLoad_same ..) rfl) (Same.mono (State.loadTime_same ..) rfl))

theorem State.placeAll_same : ∀ (s : State), Same 0x90422026c0 s (State.placeAll s) := by
  intro s
  unfold State.placeAll
  exact (Same.set_time_edge_guard_line_ex_slots_cw_cai_clk_ds _ _ _ _ _ _ _ _ _ _ (Same.refl _ _) rfl)

theorem State.flushSource_same : ∀ (s : State) a, Same mask119 s (State.flushSource s a) := by
  intro s a
  unfold State.flushSource
  exact (by
    extract_lets +onlyGivenNames -merge x0 x1
    have h0 : Same mask119 s x0 := (Same.foldl _ (Same.refl _ _) (fun sv _ => (Same.mono (State.judge_same ..) rfl)))
    exact (Same.foldl _ (Same.then h0 (State.setEdge_same ..) rfl) (fun _ _ => Same.mono (State.admitRec_same ..) rfl)))

theorem State.forwardStep_same : ∀ (s : State) a b, Same mask286 s (State.forwardStep s a b) := by
  intro s a b
  unfold State.forwardStep
  exact (by
    extract_lets +onlyGivenNames -merge x0 x1 x2 x3 x4 x5 x6
    have h2 : Same mask286 s x2 := (Same.set_now_time _ _ (Same.refl _ _) rfl)
    have h3 : Same mask286 s x3 := (Same.foldl _ (Same.then (Same.then h2 (State.shiftTimers_same ..) rfl) (State.placeAll_same ..) rfl) (fun _ _ => Same.mono (State.flushSource_same ..) rfl))
    have h5 : Same mask286 s x5 := (Same.then (Same.then (Same.set_cw _ h3 rfl) (State.store_same ..) rfl) (State.newEpoch_same ..) rfl)
    have h6 : Same mask286 s x6 := (Same.set_conv _ h5 rfl)
    exact (Same.foldl _ (Same.then (Same.then (Same.next h6 (State.cnt_same _ _ _ rfl)) (State.emitEpoch_same ..) rfl) (State.settleAll_same ..) rfl) (fun _ _ => Same.mono (State.caiTouchPier_same ..) rfl)))

theorem State.backwardStep_same : ∀ (s : State) a, Same mask111 s (State.backwardStep s a) := by
  intro s a
  unfold State.backwardStep
  exact (by
    extract_lets +onlyGivenNames -merge x0 x1
    have h1 : Same mask111 s x1 := (Same.next (Same.mono (State.rebase_same ..) rfl) (State.setPar_same _ _ _ _ rfl))
    exact (Same.then (Same.next (Same.set_time _ h1 rfl) (State.cnt_same _ _ _ rfl)) (State.settleAll_same ..) rfl))

theorem State.ppsEnable_same : ∀ (s : State) a, Same 0x40 s (State.ppsEnable s a) := by
  intro s a
  unfold State.ppsEnable
  exact (Same.ite (Same.refl _ _) (by
    extract_lets +onlyGivenNames -merge x0 x1
    exact (Same.set_time _ (Same.refl _ _) rfl)))

theorem State.ppsEdge_same : ∀ (s : State) a, Same 0x40 s (State.ppsEdge s a) := by
  intro s a
  unfold State.ppsEdge
  exact (by
    extract_lets +onlyGivenNames -merge x0
    exact (by
      split
      · exact (Same.ite (Same.set_time _ (Same.refl _ _) rfl) (Same.refl _ _))
      · exact (Same.ite (Same.refl _ _) (by
        extract_lets +onlyGivenNames -merge x0 x1 x2
        exact (Same.set_time _ (Same.refl _ _) rfl)))))

theorem State.ppsRise_same : ∀ (s : State) a, Same mask33 s (State.ppsRise s a) := by
  intro s a
  unfold State.ppsRise
  extract_lets +onlyGivenNames -merge lost s1
  have h1 : Same mask33 s s1 := Same.mono (State.crossing_same ..) rfl
  refine Same.ite h1 ?_
  extract_lets +onlyGivenNames -merge s2 s3
  have h2 : Same mask33 s s2 := Same.next h1 (State.setPar_same _ _ _ _ rfl)
  have h3 : Same mask33 s s3 :=
    Same.ite (Same.then (Same.then h2 (State.draw_same ..) rfl) (State.decideStep_same ..) rfl) h2
  clear_value s3
  generalize s3.time.load = o
  cases o with
  | none => exact h3
  | some l => exact Same.ite (Same.then h3 (State.loadEffect_same ..) rfl) h3

theorem State.bestMaster_same : ∀ (s : State) a b, Same mask196 s (State.bestMaster s a b) := by
  intro s a b
  unfold State.bestMaster
  exact (Same.ite (Same.refl _ _) (by
    extract_lets +onlyGivenNames -merge x0 x1 x2 x3
    have h3 : Same mask196 s x3 := (Same.next (Same.then (Same.then (Same.mono (State.draw_same ..) rfl) (State.draw_same ..) rfl) (State.draw_same ..) rfl) (State.setPar_same _ _ _ _ rfl))
    exact (Same.then h3 (State.setMaster_same ..) rfl)))

theorem State.ptpTake_same : ∀ (s : State) a b c, Same mask188 s (State.ptpTake s a b c) := by
  intro s a b c
  unfold State.ptpTake
  exact (Same.ite (Same.mono (State.bestMaster_same ..) rfl) (by
    extract_lets +onlyGivenNames -merge x0 x1
    have h1 : Same mask188 s x1 := (Same.ite (Same.set_time _ (Same.refl _ _) rfl) (Same.refl _ _))
    exact (Same.ite (Same.then (Same.then h1 (State.draw_same ..) rfl) (State.servo_same ..) rfl) h1)))

theorem State.ptpReceive_same : ∀ (s : State) a b c, Same mask284 s (State.ptpReceive s a b c) := by
  intro s a b c
  unfold State.ptpReceive
  exact (by
    split
    · exact (Same.then (State.cnt_same _ _ _ rfl) (State.partnerFault_same ..) rfl)
    · exact (Same.ite (Same.mono (State.ptpTake_same ..) rfl) (Same.refl _ _)))

theorem State.ptpOut_same : ∀ (s : State) a b c, Same 0x2 s (State.ptpOut s a b c) := by
  intro s a b c
  unfold State.ptpOut
  exact (Same.mono (State.send_same ..) rfl)

theorem State.ptpSend_same : ∀ (s : State) a b c, Same 0x42 s (State.ptpSend s a b c) := by
  intro s a b c
  unfold State.ptpSend
  exact (Same.ite (Same.refl _ _) (Same.ite (Same.mono (State.ptpOut_same ..) rfl) (by
    extract_lets +onlyGivenNames -merge x0 x1 x2
    have h2 : Same 0x42 s x2 := (Same.set_time _ (Same.refl _ _) rfl)
    exact (Same.ite (Same.then h2 (State.ptpOut_same ..) rfl) (Same.ite (Same.then (Same.then h2 (State.ptpOut_same ..) rfl) (State.ptpOut_same ..) rfl) (Same.then h2 (State.ptpOut_same ..) rfl))))))

theorem State.tableUpdate_same : ∀ (s : State), Same 0x40 s (State.tableUpdate s) := by
  intro s
  unfold State.tableUpdate
  exact (Same.foldl _ (Same.refl _ _) (fun sv _ => (Same.ite (Same.refl _ _) (by
    extract_lets +onlyGivenNames -merge x0 x1
    exact (Same.set_time _ (Same.refl _ _) rfl)))))

theorem State.levelOnly_same : ∀ (s : State) a b, Same 0x80 s (State.levelOnly s a b) := by
  intro s a b
  unfold State.levelOnly
  exact (by
    extract_lets +onlyGivenNames -merge x0
    exact (Same.ite (Same.mono (State.setEdge_same ..) rfl) (Same.mono (State.setEdge_same ..) rfl)))

theorem State.edgeIn_same : ∀ (s : State) a b c d, Same mask33 s (State.edgeIn s a b c d) := by
  intro s a b c d
  unfold State.edgeIn
  exact (Same.ite (Same.refl _ _) (Same.ite (Same.mono (State.levelOnly_same ..) rfl) (by
    extract_lets +onlyGivenNames -merge x0
    exact (Same.ite (Same.ite (Same.mono (State.ppsRise_same ..) rfl) (Same.mono (State.ppsFall_same ..) rfl)) (Same.mono (State.crossing_same ..) rfl)))))

theorem State.inputMoved_same : ∀ (s : State) a b c, Same 0x80 s (State.inputMoved s a b c) := by
  intro s a b c
  unfold State.inputMoved
  exact (by
    extract_lets +onlyGivenNames -merge x0
    exact (Same.ite (Same.refl _ _) (Same.mono (State.setEdge_same ..) rfl)))

theorem State.setTrim_same : ∀ (s : State) a b, Same mask209 s (State.setTrim s a b) := by
  intro s a b
  unfold State.setTrim
  exact (by
    extract_lets +onlyGivenNames -merge x0
    have h0 : Same mask209 s x0 := (State.setPar_same _ _ _ _ (by split <;> rfl))
    exact (Same.set_time _ h0 rfl))

theorem State.measured_same : ∀ (s : State) a b c, Same mask209 s (State.measured s a b c) := by
  intro s a b c
  unfold State.measured
  exact (by
    extract_lets +onlyGivenNames -merge x0 x1 x2
    have h2 : Same mask209 s x2 := (Same.set_time _ (Same.refl _ _) rfl)
    exact (Same.ite (by
      extract_lets +onlyGivenNames -merge x0 x1 x2
      have h1 : Same mask209 s x1 := (Same.ite (Same.set_time _ h2 rfl) h2)
      have h2 : Same mask209 s x2 := (Same.ite (Same.then h1 (State.setTrim_same ..) rfl) h1)
      exact (Same.then h2 (State.setTrim_same ..) rfl)) (Same.ite (Same.then h2 (State.setTrim_same ..) rfl) (Same.refl _ _))))

end Sys2Proof.Machine
end

