-- ==== Sys2Proof/Laws/NetworkFrames.lean ====
section
/-! SUPPORT. Which parts of the state the operations of Machine/Network.lean may change. -/
namespace Sys2Proof.Machine

theorem State.endSub_same : ∀ (s : State) a, Same 0x820000000 s (State.endSub s a) := by
  intro s a
  unfold State.endSub
  exact (by
    extract_lets +onlyGivenNames -merge x0 x1 x2
    have h2 : Same 0x820000000 s x2 := (Same.set_net _ (Same.refl _ _) rfl)
    exact (Same.ite (Same.then h2 (State.drainTail_same ..) rfl) h2))

theorem State.endSession_same : ∀ (s : State) a, Same mask93 s (State.endSession s a) := by
  intro s a
  unfold State.endSession
  exact (by
    split
    · exact (Same.refl _ _)
    · exact (by
      extract_lets +onlyGivenNames -merge x0 x1 x2 x3 x4
      have h1 : Same mask93 s x1 := (Same.foldl _ (Same.refl _ _) (fun _ _ => Same.mono (State.endSub_same ..) rfl))
      have h3 : Same mask93 s x3 := (Same.set_net _ h1 rfl)
      have h4 : Same mask93 s x4 := (Same.next h3 (State.setPar_same _ _ _ _ rfl))
      exact (Same.ite (Same.next h4 (State.setPar_same _ _ _ _ rfl)) h4)))

theorem State.endSessions_same : ∀ (s : State), Same mask93 s (State.endSessions s) := by
  intro s
  unfold State.endSessions
  exact (Same.foldl _ (Same.refl _ _) (fun _ _ => Same.mono (State.endSession_same ..) rfl))

theorem State.ringOpen_same : ∀ (s : State), Same mask237 s (State.ringOpen s) := by
  intro s
  unfold State.ringOpen
  exact (Same.ite (Same.next (State.setPar_same _ _ _ _ rfl) (State.cnt_same _ _ _ rfl)) (Same.refl _ _))

theorem State.ringRole_same : ∀ (s : State), Same mask37 s (State.ringRole s) := by
  intro s
  unfold State.ringRole
  exact (Same.ite (Same.ite (State.setPar_same _ _ _ _ rfl) (Same.refl _ _)) (State.setPar_same _ _ _ _ rfl))

theorem State.ethDown_same : ∀ (s : State) a, Same mask123 s (State.ethDown s a) := by
  intro s a
  unfold State.ethDown
  exact (Same.ite (Same.refl _ _) (by
    extract_lets +onlyGivenNames -merge x0 x1 x2
    have h0 : Same mask123 s x0 := (State.setPar_same _ _ _ _ rfl)
    have h1 : Same mask123 s x1 := (Same.next h0 (State.setPar_same _ _ _ _ rfl))
    have h2 : Same mask123 s x2 := (Same.next h1 (State.setPar_same _ _ _ _ rfl))
    exact (Same.then (Same.then h2 (State.setMaster_same ..) rfl) (State.ringOpen_same ..) rfl)))

theorem State.sendMark_same : ∀ (s : State), Same mask272 s (State.sendMark s) := by
  intro s
  unfold State.sendMark
  exact (by
    split
    · exact (Same.refl _ _)
    · exact (by
      extract_lets +onlyGivenNames -merge x0 x1 x2 x3
      have h3 : Same mask272 s x3 := (Same.ite (State.cntW_same _ _ _ _ rfl) (Same.refl _ _))
      exact (Same.foldl _ (Same.set_markOut _ h3 rfl) (fun sv _ => (Same.ite (Same.mono (State.send_same ..) rfl) (Same.refl _ _))))))

theorem State.takeMark_same : ∀ (s : State) a b c d e f g, Same mask54 s (State.takeMark s a b c d e f g) := by
  intro s a b c d e f g
  unfold State.takeMark
  exact (Same.ite (State.cnt_same _ _ _ rfl) (by
    extract_lets +onlyGivenNames -merge x0 x1
    have h1 : Same mask54 s x1 := (Same.set_net _ (Same.refl _ _) rfl)
    exact (Same.then h1 (State.emit_same ..) rfl)))

end Sys2Proof.Machine
end

