-- ==== Sys2Proof/Laws/ClocksFrames.lean ====
section
/-! SUPPORT. Which parts of the state the operations of Machine/Clocks.lean may change. -/
namespace Sys2Proof.Machine

theorem State.setReady_same : ∀ (s : State) a b, Same mask297 s (State.setReady s a b) := by
  intro s a b
  unfold State.setReady
  exact (State.setPar_same _ _ _ _ rfl)

theorem State.setGood_same : ∀ (s : State) a b, Same mask85 s (State.setGood s a b) := by
  intro s a b
  unfold State.setGood
  exact (State.setPar_same _ _ _ _ rfl)

theorem State.changeRef_same : ∀ (s : State) a, Same mask158 s (State.changeRef s a) := by
  intro s a
  unfold State.changeRef
  exact (by
    split
    · exact (Same.ite (Same.refl _ _) (Same.then (Same.set_clk _ (Same.refl _ _) rfl) (State.emit_same ..) rfl))
    · exact (Same.set_clk _ (Same.refl _ _) rfl))

theorem State.autoRef_same : ∀ (s : State), Same mask158 s (State.autoRef s) := by
  intro s
  unfold State.autoRef
  exact (Same.ite (by
    split
    · exact (Same.mono (State.changeRef_same ..) rfl)
    · exact (Same.refl _ _)) (Same.refl _ _))

theorem State.startSource_same : ∀ (s : State) a, Same mask179 s (State.startSource s a) := by
  intro s a
  unfold State.startSource
  exact (by
    extract_lets +onlyGivenNames -merge x0
    have h0 : Same mask179 s x0 := (Same.mono (State.setReady_same ..) rfl)
    exact (Same.set_clk _ h0 rfl))

theorem State.stopSource_same : ∀ (s : State) a, Same mask179 s (State.stopSource s a) := by
  intro s a
  unfold State.stopSource
  exact (by
    extract_lets +onlyGivenNames -merge x0
    have h0 : Same mask179 s x0 := (Same.mono (State.setReady_same ..) rfl)
    exact (Same.set_clk _ h0 rfl))

theorem State.froFollow_same : ∀ (s : State), Same mask179 s (State.froFollow s) := by
  intro s
  unfold State.froFollow
  exact (Same.ite (Same.ite (Same.mono (State.startSource_same ..) rfl) (Same.refl _ _)) (Same.ite (Same.mono (State.stopSource_same ..) rfl) (Same.refl _ _)))

theorem State.startLoop_same : ∀ (s : State) a, Same mask108 s (State.startLoop s a) := by
  intro s a
  unfold State.startLoop
  exact (by
    extract_lets +onlyGivenNames -merge x0
    have h0 : Same mask108 s x0 := (State.setPar_same _ _ _ _ rfl)
    exact (Same.set_clk _ h0 rfl))

theorem State.lockTo_same : ∀ (s : State) a, Same mask108 s (State.lockTo s a) := by
  intro s a
  unfold State.lockTo
  exact (Same.then (Same.set_clk _ (Same.refl _ _) rfl) (State.startLoop_same ..) rfl)

theorem State.seekRef_same : ∀ (s : State) a, Same mask108 s (State.seekRef s a) := by
  intro s a
  unfold State.seekRef
  exact (by
    split
    · exact (Same.ite (Same.refl _ _) (Same.mono (State.lockTo_same ..) rfl))
    · exact (Same.refl _ _))

theorem State.domainsOn_same : ∀ (s : State), Same mask85 s (State.domainsOn s) := by
  intro s
  unfold State.domainsOn
  exact (by
    extract_lets +onlyGivenNames -merge x0 x1
    exact (Same.then (Same.then (Same.then (Same.then (Same.mono (State.setGood_same ..) rfl) (State.setGood_same ..) rfl) (State.setGood_same ..) rfl) (State.setGood_same ..) rfl) (State.setGood_same ..) rfl))

theorem State.domainsOff_same : ∀ (s : State), Same mask85 s (State.domainsOff s) := by
  intro s
  unfold State.domainsOff
  exact (Same.then (Same.then (Same.then (Same.then (Same.mono (State.setGood_same ..) rfl) (State.setGood_same ..) rfl) (State.setGood_same ..) rfl) (State.setGood_same ..) rfl) (State.setGood_same ..) rfl)

theorem State.clockSafe_same : ∀ (s : State) a, Same mask268 s (State.clockSafe s a) := by
  intro s a
  unfold State.clockSafe
  exact (Same.then (Same.set_clockCause _ (Same.refl _ _) rfl) (State.safeEverything_same ..) rfl)

theorem State.clockClear_same : ∀ (s : State), Same 0xe00 s (State.clockClear s) := by
  intro s
  unfold State.clockClear
  exact (Same.ite (Same.then (Same.set_clockCause _ (Same.refl _ _) rfl) (State.causesClear_same ..) rfl) (Same.refl _ _))

theorem State.driveBy_same : ∀ (s : State) a b c, Same 0x40 s (State.driveBy s a b c) := by
  intro s a b c
  unfold State.driveBy
  exact (by
    extract_lets +onlyGivenNames -merge x0 x1 x2 x3 x4
    have h3 : Same 0x40 s x3 := (Same.set_time _ (Same.refl _ _) rfl)
    exact (Same.set_time _ h3 rfl))

theorem State.driveCoarse_same : ∀ (s : State) a b, Same 0x40 s (State.driveCoarse s a b) := by
  intro s a b
  unfold State.driveCoarse
  exact (Same.mono (State.driveBy_same ..) rfl)

theorem State.redrive_same : ∀ (s : State) a b, Same 0x40 s (State.redrive s a b) := by
  intro s a b
  unfold State.redrive
  exact (Same.ite (Same.refl _ _) (Same.mono (State.driveCoarse_same ..) rfl))

theorem State.hold_same : ∀ (s : State) a b, Same mask135 s (State.hold s a b) := by
  intro s a b
  unfold State.hold
  exact (by
    extract_lets +onlyGivenNames -merge x0 x1 x2 x3
    have h0 : Same mask135 s x0 := (Same.ite (State.setPar_same _ _ _ _ rfl) (Same.refl _ _))
    have h1 : Same mask135 s x1 := (Same.next (Same.then h0 (State.domainsOff_same ..) rfl) (State.setPar_same _ _ _ _ rfl))
    have h3 : Same mask135 s x3 := (Same.set_clk _ h1 rfl)
    exact (Same.then (Same.then h3 (State.driveCoarse_same ..) rfl) (State.setQuality_same ..) rfl))

theorem State.safeHold_same : ∀ (s : State) a b, Same mask3 s (State.safeHold s a b) := by
  intro s a b
  unfold State.safeHold
  exact (by
    extract_lets +onlyGivenNames -merge x0
    have h0 : Same mask3 s x0 := (Same.then (State.setPar_same _ _ _ _ rfl) (State.crossingReset_same ..) rfl)
    exact (Same.then (Same.set_clk _ h0 rfl) (State.froFollow_same ..) rfl))

theorem State.noteFailure_same : ∀ (s : State) a, Same mask148 s (State.noteFailure s a) := by
  intro s a
  unfold State.noteFailure
  exact (Same.next (Same.next (State.cnt_same _ _ _ rfl) (State.setPar_same _ _ _ _ rfl)) (State.setPar_same _ _ _ _ rfl))

theorem State.toFro_same : ∀ (s : State), Same mask38 s (State.toFro s) := by
  intro s
  have h0 : Same mask38 s s.draw := Same.mono (State.draw_same ..) rfl
  exact Same.then (Same.then (Same.next (Same.set_now _ h0 rfl) (State.setPar_same _ _ _ _ rfl)) (State.lockTo_same ..) rfl)
    (State.setQuality_same ..) rfl

theorem State.fallback_same : ∀ (s : State) a b c d e, Same mask25 s (State.fallback s a b c d e) := by
  intro s a b c d e
  unfold State.fallback
  exact (Same.ite (Same.then (Same.then (Same.then (Same.mono (State.hold_same ..) rfl) (State.clockSafe_same ..) rfl) (State.safeHold_same ..) rfl) (State.seekRef_same ..) rfl) (Same.ite (Same.then (Same.mono (State.clockSafe_same ..) rfl) (State.toFro_same ..) rfl) (Same.then (Same.next (Same.then (Same.mono (State.hold_same ..) rfl) (State.clockSafe_same ..) rfl) (State.setPar_same _ _ _ _ rfl)) (State.froFollow_same ..) rfl)))

theorem State.refLost_same : ∀ (s : State) a b c d e, Same mask25 s (State.refLost s a b c d e) := by
  intro s a b c d e
  unfold State.refLost
  exact (Same.ite (Same.refl _ _) (Same.ite (Same.mono (State.fallback_same ..) rfl) (by
    split
    · exact (Same.mono (State.changeRef_same ..) rfl)
    · exact (Same.mono (State.fallback_same ..) rfl))))

theorem State.opalFollow_same : ∀ (s : State), Same 0x1000000000 s (State.opalFollow s) := by
  intro s
  unfold State.opalFollow
  exact (by
    extract_lets +onlyGivenNames -merge x0
    exact (Same.set_clk _ (Same.refl _ _) rfl))

theorem State.forcedFollow_same : ∀ (s : State), Same 0x1000000000 s (State.forcedFollow s) := by
  intro s
  unfold State.forcedFollow
  exact (by
    extract_lets +onlyGivenNames -merge x0 x1 x2
    exact (Same.set_clk _ (Same.refl _ _) rfl))

theorem State.setStopped_same : ∀ (s : State) a b, Same 0x1000000000 s (State.setStopped s a b) := by
  intro s a b
  unfold State.setStopped
  exact (by
    extract_lets +onlyGivenNames -merge x0
    exact (Same.set_clk _ (Same.refl _ _) rfl))

theorem State.sourceFails_same : ∀ (s : State) a b c d e f, Same mask25 s (State.sourceFails s a b c d e f) := by
  intro s a b c d e f
  unfold State.sourceFails
  exact (by
    extract_lets +onlyGivenNames -merge x0 x1 x2 x3
    have h0 : Same mask25 s x0 := (Same.mono (State.setReady_same ..) rfl)
    have h1 : Same mask25 s x1 := (Same.ite (Same.ite (Same.then h0 (State.stopSource_same ..) rfl) (Same.then h0 (State.startSource_same ..) rfl)) h0)
    have h2 : Same mask25 s x2 := (Same.then (Same.then (Same.then h1 (State.opalFollow_same ..) rfl) (State.forcedFollow_same ..) rfl) (State.redrive_same ..) rfl)
    exact (Same.ite (Same.then h2 (State.refLost_same ..) rfl) (Same.ite (Same.then (Same.set_clk _ h2 rfl) (State.seekRef_same ..) rfl) h2)))

theorem State.loopLost_same : ∀ (s : State) a, Same mask149 s (State.loopLost s a) := by
  intro s a
  unfold State.loopLost
  exact (Same.next (Same.mono (State.startLoop_same ..) rfl) (State.cnt_same _ _ _ rfl))

theorem State.apllFails_same : ∀ (s : State) a, Same mask249 s (State.apllFails s a) := by
  intro s a
  unfold State.apllFails
  exact (by
    extract_lets +onlyGivenNames -merge x0 x1 x2
    have h0 : Same mask249 s x0 := (Same.then (Same.mono (State.loopLost_same ..) rfl) (State.setGood_same ..) rfl)
    have h2 : Same mask249 s x2 := (Same.set_clk _ h0 rfl)
    exact (Same.foldl _ h2 (fun sv _ => (Same.ite (Same.mono (State.pierTo_same ..) rfl) (Same.refl _ _)))))

theorem State.mpllFails_same : ∀ (s : State), Same mask259 s (State.mpllFails s) := by
  intro s
  unfold State.mpllFails
  exact (by
    extract_lets +onlyGivenNames -merge x0
    have h0 : Same mask259 s x0 := (Same.then (Same.mono (State.loopLost_same ..) rfl) (State.setGood_same ..) rfl)
    exact (Same.ite (Same.next h0 (State.setPar_same _ _ _ _ rfl)) h0))

theorem State.failure_same : ∀ (s : State) a b c d e f g, Same mask191 s (State.failure s a b c d e f g) := by
  intro s a b c d e f g
  unfold State.failure
  exact (by
    extract_lets +onlyGivenNames -merge x0
    have h0 : Same mask191 s x0 := (Same.then (Same.ite (Same.mono (State.setStopped_same ..) rfl) (Same.refl _ _)) (State.noteFailure_same ..) rfl)
    exact (by
      split
      · exact (Same.then (Same.then h0 (State.setStopped_same ..) rfl) (State.sourceFails_same ..) rfl)
      · exact (by
        split
        · exact (by
          extract_lets +onlyGivenNames -merge x0
          have h0 : Same mask191 s x0 := (Same.then h0 (State.loopLost_same ..) rfl)
          exact (Same.ite h0 (Same.then h0 (State.fallback_same ..) rfl)))
        · exact (by
          extract_lets +onlyGivenNames -merge x0
          have h0 : Same mask191 s x0 := (Same.then (Same.then h0 (State.loopLost_same ..) rfl) (State.setGood_same ..) rfl)
          exact (Same.then (Same.set_clk _ h0 rfl) (State.clockSafe_same ..) rfl))
        · exact (Same.then h0 (State.mpllFails_same ..) rfl)
        · exact (Same.then h0 (State.apllFails_same ..) rfl)
        · exact (Same.then (Same.then (Same.then (Same.then h0 (State.loopLost_same ..) rfl) (State.setGood_same ..) rfl) (State.ethDown_same ..) rfl) (State.ethDown_same ..) rfl)
        · exact (Same.then h0 (State.forcedFollow_same ..) rfl))))

theorem State.wakeDone_same : ∀ (s : State), Same mask303 s (State.wakeDone s) := by
  intro s
  unfold State.wakeDone
  exact (Same.ite (by
    extract_lets +onlyGivenNames -merge x0 x1 x2 x3
    have h1 : Same mask303 s x1 := (Same.then (Same.next (Same.set_clk _ (Same.refl _ _) rfl) (State.setPar_same _ _ _ _ rfl)) (State.domainsOn_same ..) rfl)
    have h2 : Same mask303 s x2 := (Same.ite (Same.then (Same.next h1 (State.setPar_same _ _ _ _ rfl)) (State.setGood_same ..) rfl) h1)
    exact (Same.ite h2 (Same.set_clk _ h2 rfl))) (Same.refl _ _))

theorem State.release_same : ∀ (s : State) a, Same mask83 s (State.release s a) := by
  intro s a
  unfold State.release
  exact (by
    extract_lets +onlyGivenNames -merge x0 x1 x2 x3 x4 x5 x6 x7
    have h1 : Same mask83 s x1 := (Same.set_now_clk _ _ (Same.refl _ _) rfl)
    have h2 : Same mask83 s x2 := (Same.then h1 (State.domainsOn_same ..) rfl)
    have h3 : Same mask83 s x3 := (Same.ite (Same.next h2 (State.setPar_same _ _ _ _ rfl)) h2)
    have h4 : Same mask83 s x4 := (Same.next h3 (State.setPar_same _ _ _ _ rfl))
    have h5 : Same mask83 s x5 := (Same.then h4 (State.setQuality_same ..) rfl)
    have h6 : Same mask83 s x6 := (Same.ite (Same.then (Same.then h5 (State.withdraw_same ..) rfl) (State.releaseDue_same ..) rfl) (Same.then h5 (State.withdraw_same ..) rfl))
    have h7 : Same mask83 s x7 := (Same.then h6 (State.performLate_same ..) rfl)
    exact (Same.then (Same.then (Same.then (Same.then (Same.ite (Same.then h7 (State.admitLate_same ..) rfl) h7) (State.opalFollow_same ..) rfl) (State.froFollow_same ..) rfl) (State.clockClear_same ..) rfl) (State.wakeDone_same ..) rfl))

theorem State.returnRef_same : ∀ (s : State) a, Same mask187 s (State.returnRef s a) := by
  intro s a
  unfold State.returnRef
  exact (by
    split
    · exact (Same.ite (Same.refl _ _) (Same.then (Same.then (Same.then (Same.next (Same.mono (State.changeRef_same ..) rfl) (State.setPar_same _ _ _ _ rfl)) (State.setQuality_same ..) rfl) (State.opalFollow_same ..) rfl) (State.froFollow_same ..) rfl))
    · exact (Same.refl _ _))

theorem State.clkReturn_same : ∀ (s : State), Same mask187 s (State.clkReturn s) := by
  intro s
  unfold State.clkReturn
  exact (Same.ite (Same.mono (State.returnRef_same ..) rfl) (Same.refl _ _))

theorem State.clkRefuse_same : ∀ (s : State) a b c, Same mask175 s (State.clkRefuse s a b c) := by
  intro s a b c
  unfold State.clkRefuse
  exact (Same.next (State.cnt_same _ _ _ rfl) (State.setPar_same _ _ _ _ rfl))

theorem State.refSelected_same : ∀ (s : State), Same mask236 s (State.refSelected s) := by
  intro s
  unfold State.refSelected
  exact (Same.ite (by
    split
    · exact (Same.mono (State.changeRef_same ..) rfl)
    · exact (Same.refl _ _)) (Same.ite (Same.refl _ _) (Same.mono (State.seekRef_same ..) rfl)))

theorem State.refForced_same : ∀ (s : State), Same mask247 s (State.refForced s) := by
  intro s
  unfold State.refForced
  exact (by
    split
    · exact (Same.ite (Same.ite (Same.refl _ _) (Same.mono (State.seekRef_same ..) rfl)) (by
      split
      · exact (Same.then (Same.mono (State.changeRef_same ..) rfl) (State.setQuality_same ..) rfl)
      · exact (Same.refl _ _)))
    · exact (Same.ite (by
      extract_lets +onlyGivenNames -merge x0
      exact (Same.then (Same.mono (State.changeRef_same ..) rfl) (State.setQuality_same ..) rfl)) (Same.mono (State.lockTo_same ..) rfl)))

theorem State.forceEffect_same : ∀ (s : State) a, Same mask247 s (State.forceEffect s a) := by
  intro s a
  unfold State.forceEffect
  exact (Same.then (Same.ite (Same.mono (State.opalFollow_same ..) rfl) (Same.mono (State.refForced_same ..) rfl)) (State.forcedFollow_same ..) rfl)

theorem State.becomesReady_same : ∀ (s : State) a b c, Same mask296 s (State.becomesReady s a b c) := by
  intro s a b c
  unfold State.becomesReady
  exact (by
    extract_lets +onlyGivenNames -merge x0 x1 x2
    have h0 : Same mask296 s x0 := (Same.then (Same.mono (State.setStopped_same ..) rfl) (State.setReady_same ..) rfl)
    have h2 : Same mask296 s x2 := (Same.then (Same.set_clk _ h0 rfl) (State.forcedFollow_same ..) rfl)
    exact (Same.ite (Same.then (Same.then h2 (State.opalFollow_same ..) rfl) (State.redrive_same ..) rfl) (Same.ite (Same.then h2 (State.seekRef_same ..) rfl) (Same.ite (Same.then h2 (State.seekRef_same ..) rfl) (Same.then h2 (State.autoRef_same ..) rfl)))))

theorem State.startFails_same : ∀ (s : State) a, Same mask47 s (State.startFails s a) := by
  intro s a
  unfold State.startFails
  exact (by
    extract_lets +onlyGivenNames -merge x0
    have h0 : Same mask47 s x0 := (Same.then (Same.mono (State.noteFailure_same ..) rfl) (State.startSource_same ..) rfl)
    exact (Same.ite (Same.next h0 (State.cnt_same _ _ _ rfl)) h0))

end Sys2Proof.Machine
end

