-- ==== Sys2Proof/Laws/CopiesFrames.lean ====
section
/-! SUPPORT. Which parts of the state the operations of Machine/Copies.lean may change. -/
namespace Sys2Proof.Machine

theorem State.pointCopies_same : ∀ (s : State), Same mask291 s (State.pointCopies s) := by
  intro s
  unfold State.pointCopies
  exact (Same.foldl _ (Same.refl _ _) (fun sv _ => (by
    split
    · exact (Same.next (State.setPar_same _ _ _ _ rfl) (State.setPar_same _ _ _ _ rfl))
    · exact (Same.next (State.setPar_same _ _ _ _ rfl) (State.setPar_same _ _ _ _ rfl)))))

end Sys2Proof.Machine
end

