-- ==== Sys2Proof/Laws/RingsFrames.lean ====
section
/-! SUPPORT. Which parts of the state the operations of Machine/Rings.lean may change. -/
namespace Sys2Proof.Machine

theorem State.hostWrites_same : ∀ (s : State) a b c, Same 0x2 s (State.hostWrites s a b c) := by
  intro s a b c
  unfold State.hostWrites
  exact (Same.foldl _ (Same.refl _ _) (fun sv _ => (Same.mono (State.send_same ..) rfl)))

theorem State.ringTake_same : ∀ (s : State) a, Same 0x20000000 s (State.ringTake s a) := by
  intro s a
  unfold State.ringTake
  exact (Same.ite (Same.refl _ _) (by
    extract_lets +onlyGivenNames -merge x0
    exact (Same.then (Same.mono (State.setStream_same ..) rfl) (State.drainTail_same ..) rfl)))

theorem State.completeDesc_same : ∀ (s : State) a b, Same mask67 s (State.completeDesc s a b) := by
  intro s a b
  unfold State.completeDesc
  exact (by
    extract_lets +onlyGivenNames -merge x0 x1 x2 x3 x4 x5 x6 x7 x8
    have h5 : Same mask67 s x5 := (Same.mono (State.hostWrites_same ..) rfl)
    have h6 : Same mask67 s x6 := (Same.then h5 (State.hostWrites_same ..) rfl)
    have h7 : Same mask67 s x7 := (Same.ite h6 (Same.then h6 (State.ringTake_same ..) rfl))
    exact (Same.next (Same.then h7 (State.setRing_same ..) rfl) (State.cntW_same _ _ _ _ (inM_nth _ rfl))))

theorem State.errorDesc_same : ∀ (s : State) a b, Same mask67 s (State.errorDesc s a b) := by
  intro s a b
  unfold State.errorDesc
  exact (by
    extract_lets +onlyGivenNames -merge x0 x1
    have h0 : Same mask67 s x0 := (Same.mono (State.completeDesc_same ..) rfl)
    exact (Same.then h0 (State.setRing_same ..) rfl))

theorem State.payBack_same : ∀ (s : State) a, Same 0x400000002 s (State.payBack s a) := by
  intro s a
  unfold State.payBack
  exact (by
    extract_lets +onlyGivenNames -merge x0
    exact (Same.ite (Same.then (Same.mono (State.hostWrites_same ..) rfl) (State.setRing_same ..) rfl) (Same.refl _ _)))

theorem State.dropFaulty_same : ∀ (s : State) a n, Same mask67 s (State.dropFaulty a n s) := by
  intro s a n
  induction n generalizing s with
  | zero => exact Same.refl _ _
  | succ n ih =>
    unfold State.dropFaulty
    split
    · exact Same.ite (Same.then (Same.mono (State.errorDesc_same ..) rfl) (ih _) rfl) (Same.refl _ _)
    · exact Same.refl _ _

theorem State.closeDesc_same : ∀ (s : State) a b, Same mask74 s (State.closeDesc s a b) := by
  intro s a b
  unfold State.closeDesc
  exact (by
    extract_lets +onlyGivenNames -merge x0 x1
    have h1 : Same mask74 s x1 := (Same.mono (State.completeDesc_same ..) rfl)
    exact (Same.then (Same.ite (Same.set_fetch _ h1 rfl) h1) (State.dropFaulty_same ..) rfl))

theorem State.fetchTaken_same : ∀ (s : State), Same mask99 s (State.fetchTaken s) := by
  intro s
  unfold State.fetchTaken
  exact (Same.ite (Same.next (Same.set_fetch _ (Same.refl _ _) rfl) (State.setPar_same _ _ _ _ rfl)) (Same.set_fetch _ (Same.refl _ _) rfl))

theorem State.putFrame_same : ∀ (s : State) a b c, Same mask197 s (State.putFrame s a b c) := by
  intro s a b c
  unfold State.putFrame
  exact (by
    extract_lets +onlyGivenNames -merge x0 x1 x2 x3
    have h2 : Same mask197 s x2 := (Same.mono (State.hostWrites_same ..) rfl)
    exact (Same.ite (by
      extract_lets +onlyGivenNames -merge x0
      have h0 : Same mask197 s x0 := (Same.ite (Same.then h2 (State.fetchTaken_same ..) rfl) h2)
      exact (Same.then h0 (State.setRing_same ..) rfl)) (Same.then h2 (State.setRing_same ..) rfl)))

theorem State.deliverInto_same : ∀ (s : State) a b c d e, Same mask126 s (State.deliverInto s a b c d e).1 := by
  intro s a b c d e
  unfold State.deliverInto
  exact (by
    split
    · exact (Same.mono (State.errorDesc_same ..) rfl)
    · exact (Same.iteP (by
      extract_lets +onlyGivenNames -merge x0
      have h0 : Same mask126 s x0 := (Same.mono (State.putFrame_same ..) rfl)
      exact (Same.ite (Same.then h0 (State.closeDesc_same ..) rfl) h0)) (Same.mono (State.closeDesc_same ..) rfl)))

theorem State.deliverEnd_same : ∀ (s : State) a b, Same mask74 s (State.deliverEnd s a b) := by
  intro s a b
  unfold State.deliverEnd
  exact (by
    split
    · exact (Same.mono (State.errorDesc_same ..) rfl)
    · exact (Same.mono (State.closeDesc_same ..) rfl))

theorem State.deliverOne_same : ∀ (s : State) a b c, Same mask126 s (State.deliverOne s a b c).1 := by
  intro s a b c
  unfold State.deliverOne
  exact (by
    split
    · exact (Same.mono (State.deliverInto_same ..) rfl)
    · exact (Same.ite (Same.mono (State.deliverEnd_same ..) rfl) (Same.refl _ _))
    · exact (Same.refl _ _))

theorem State.deliverFrame_same : ∀ (s : State) fs k n, Same mask126 s (State.deliverFrame fs k n s) := by
  intro s fs k n
  induction k generalizing s with
  | zero => exact Same.refl _ _
  | succ k ih =>
    unfold State.deliverFrame
    extract_lets r
    have h : Same mask126 s r.1 := Same.mono (State.deliverOne_same ..) rfl
    exact Same.ite (Same.then h (ih _) rfl) h

theorem State.tailRead_same : ∀ (s : State) a b, Same mask75 s (State.tailRead s a b).1 := by
  intro s a b
  unfold State.tailRead
  exact (by
    split
    · exact (Same.iteP (Same.refl _ _) (by
      extract_lets +onlyGivenNames -merge x0
      have h0 : Same mask75 s x0.1 := (Same.mono (State.sramFrame_same ..) rfl)
      exact h0))
    · exact (Same.refl _ _))

theorem State.dropReads_same : ∀ (s : State) a, Same 0x400000000 s (State.dropReads s a) := by
  intro s a
  unfold State.dropReads
  exact (Same.set_host _ (Same.refl _ _) rfl)

theorem State.ringEnable_same : ∀ (s : State) a, Same 0x400000000 s (State.ringEnable s a) := by
  intro s a
  unfold State.ringEnable
  exact (by
    extract_lets +onlyGivenNames -merge x0
    exact (Same.ite (Same.mono (State.setRing_same ..) rfl) (by
      extract_lets +onlyGivenNames -merge x0
      exact (Same.then (Same.mono (State.dropReads_same ..) rfl) (State.setRing_same ..) rfl))))

theorem State.ringOff_same : ∀ (s : State) a, Same 0x400000000 s (State.ringOff s a) := by
  intro s a
  unfold State.ringOff
  exact (by
    extract_lets +onlyGivenNames -merge x0
    exact (Same.then (Same.mono (State.dropReads_same ..) rfl) (State.setRing_same ..) rfl))

theorem State.ringDisable_same : ∀ (s : State) a, Same mask74 s (State.ringDisable s a) := by
  intro s a
  unfold State.ringDisable
  exact (by
    extract_lets +onlyGivenNames -merge x0
    exact (Same.ite (Same.refl _ _) (Same.ite (Same.then (Same.mono (State.closeDesc_same ..) rfl) (State.ringOff_same ..) rfl) (Same.mono (State.ringOff_same ..) rfl))))

theorem State.doorbellRefused_same : ∀ (s : State) a b, Same mask11 s (State.doorbellRefused s a b) := by
  intro s a b
  unfold State.doorbellRefused
  exact (by
    extract_lets +onlyGivenNames -merge x0
    exact (Same.then (Same.mono (State.setRing_same ..) rfl) (State.partnerFault_same ..) rfl))

theorem State.bellHostPtr_same : ∀ (s : State) a b c, Same mask11 s (State.bellHostPtr s a b c) := by
  intro s a b c
  unfold State.bellHostPtr
  exact (by
    extract_lets +onlyGivenNames -merge x0
    exact (Same.ite (Same.mono (State.doorbellRefused_same ..) rfl) (Same.mono (State.setRing_same ..) rfl)))

theorem State.arm_same : ∀ (s : State) a, Same 0x400000000 s (State.arm s a) := by
  intro s a
  unfold State.arm
  exact (Same.set_host _ (Same.refl _ _) rfl)

theorem State.bellHostSeen_same : ∀ (s : State) a b c, Same mask11 s (State.bellHostSeen s a b c) := by
  intro s a b c
  unfold State.bellHostSeen
  exact (by
    extract_lets +onlyGivenNames -merge x0
    exact (Same.ite (Same.mono (State.doorbellRefused_same ..) rfl) (Same.then (Same.mono (State.setRing_same ..) rfl) (State.arm_same ..) rfl)))

theorem State.issueRead_same : ∀ (s u : State) n i c, s.issueRead n i c = some u → Same 0x400000002 s u := by
  intro s u n i c h
  unfold State.issueRead at h
  generalize s.freeTag = o at h
  cases o with
  | none => cases h
  | some g =>
    injection h with h
    subst h
    exact Same.then (Same.set_host _ (Same.refl _ _) rfl) (State.send_same ..) rfl

theorem State.readAhead_same : ∀ (s : State) n w, Same mask60 s (State.readAhead s n w) := by
  intro s n w
  have hc : Same mask60 s (s.cnt Ix.hostTagWaits 0) := State.cnt_same _ _ _ rfl
  unfold State.readAhead
  extract_lets +onlyGivenNames -merge r
  generalize r.again = l
  cases l with
  | cons x l =>
    dsimp only
    generalize ho : s.issueRead n x.1 x.2 = o
    cases o with
    | none => exact hc
    | some u => exact Same.then (Same.mono (State.issueRead_same _ _ _ _ _ ho) rfl) (State.setRing_same ..) rfl
  | nil =>
    dsimp only
    refine Same.ite (Same.refl _ _) ?_
    generalize ho : s.issueRead _ _ _ = o
    cases o with
    | none => exact hc
    | some u => exact Same.then (Same.mono (State.issueRead_same _ _ _ _ _ ho) rfl) (State.setRing_same ..) rfl

theorem State.readFailed_same : ∀ (s : State) g q, Same mask60 s (State.readFailed s g q) := by
  intro s g q
  unfold State.readFailed
  extract_lets +onlyGivenNames -merge y s1
  have h1 : Same mask60 s s1 := Same.set_host _ (Same.refl _ _) rfl
  clear_value s1
  refine Same.ite h1 ?_
  extract_lets +onlyGivenNames -merge r
  refine Same.ite (Same.then h1 (State.setRing_same ..) rfl) ?_
  extract_lets +onlyGivenNames -merge s2 later
  have h2 : Same mask60 s s2 := Same.then h1 (State.setRing_same ..) rfl
  have hl : ∀ u, Same mask60 s u → Same mask60 s (later u) := fun u h => Same.then h (State.setRing_same ..) rfl
  clear_value s2 later
  refine Same.ite ?_ (hl _ h2)
  generalize ho : s2.issueRead _ _ _ = o
  cases o with
  | none => exact hl _ (Same.next h2 (State.cnt_same _ _ _ rfl))
  | some u =>
    dsimp only
    exact Same.then h2 (State.issueRead_same _ _ _ _ _ ho) rfl

theorem State.readGot_same : ∀ (s : State) a b c, Same mask67 s (State.readGot s a b c) := by
  intro s a b c
  unfold State.readGot
  exact (by
    extract_lets +onlyGivenNames -merge x0
    exact (Same.ite (Same.set_host _ (Same.refl _ _) rfl) (by
      extract_lets +onlyGivenNames -merge x0 x1
      have h1 : Same mask67 s x1 := (Same.set_host _ (Same.refl _ _) rfl)
      exact (Same.ite h1 (by
        extract_lets +onlyGivenNames -merge x0
        exact (Same.then (Same.then h1 (State.setRing_same ..) rfl) (State.dropFaulty_same ..) rfl))))))

theorem State.released_same : ∀ (s : State) a, Same mask29 s (State.released s a) := by
  intro s a
  unfold State.released
  exact (Same.then (Same.next (Same.set_host _ (Same.refl _ _) rfl) (State.setPar_same _ _ _ _ rfl)) (State.alert_same ..) rfl)

theorem State.portResume_same : ∀ (s : State), Same mask222 s (State.portResume s) := by
  intro s
  unfold State.portResume
  exact (Same.ite (Same.foldl _ (Same.mono (State.released_same ..) rfl) (fun sv _ => (by
    extract_lets +onlyGivenNames -merge x0
    exact (Same.ite (Same.then (Same.mono (State.setRing_same ..) rfl) (State.payBack_same ..) rfl) (Same.refl _ _))))) (Same.refl _ _))

theorem State.portRestart_same : ∀ (s : State), Same mask29 s (State.portRestart s) := by
  intro s
  unfold State.portRestart
  exact (Same.ite (Same.foldl _ (Same.mono (State.released_same ..) rfl) (fun sv _ => (Same.ite (Same.mono (State.ringOff_same ..) rfl) (Same.refl _ _)))) (Same.refl _ _))

end Sys2Proof.Machine
end

