-- ==== Sys2Proof/Laws/InterruptsFrames.lean ====
section
/-! SUPPORT. Which parts of the state the operations of Machine/Interrupts.lean may change. -/
namespace Sys2Proof.Machine

theorem State.sendVector_same : ∀ (s : State) a, Same mask17 s (State.sendVector s a) := by
  intro s a
  unfold State.sendVector
  exact (by
    extract_lets +onlyGivenNames -merge x0 x1 x2
    have h2 : Same mask17 s x2 := (Same.set_host _ (Same.refl _ _) rfl)
    exact (Same.next (Same.then h2 (State.send_same ..) rfl) (State.cnt_same _ _ _ rfl)))

theorem State.intaFollow_same : ∀ (s : State), Same 0x400000002 s (State.intaFollow s) := by
  intro s
  unfold State.intaFollow
  exact (by
    extract_lets +onlyGivenNames -merge x0
    exact (Same.ite (Same.refl _ _) (Same.then (Same.set_host _ (Same.refl _ _) rfl) (State.send_same ..) rfl)))

theorem State.irqSend_same : ∀ (s : State) a, Same mask17 s (State.irqSend s a) := by
  intro s a
  unfold State.irqSend
  exact (Same.ite (Same.ite (Same.mono (State.intaFollow_same ..) rfl) (Same.refl _ _)) (Same.ite (Same.refl _ _) (by
    extract_lets +onlyGivenNames -merge x0
    exact (Same.ite (Same.set_host _ (Same.refl _ _) rfl) (Same.mono (State.sendVector_same ..) rfl)))))

theorem State.sendHeld_same : ∀ (s : State), Same mask17 s (State.sendHeld s) := by
  intro s
  unfold State.sendHeld
  exact (Same.ite (Same.refl _ _) (Same.foldl _ (Same.refl _ _) (fun sv _ => (Same.ite (Same.mono (State.sendVector_same ..) rfl) (Same.refl _ _)))))

theorem State.msixWrite_same : ∀ (s : State) a b, Same mask17 s (State.msixWrite s a b) := by
  intro s a b
  unfold State.msixWrite
  exact (Same.then (Same.set_host _ (Same.refl _ _) rfl) (State.sendHeld_same ..) rfl)

theorem State.irqAckWrite_same : ∀ (s : State) a b, Same mask16 s (State.irqAckWrite s a b) := by
  intro s a b
  unfold State.irqAckWrite
  exact (Same.then (State.setPar_same _ _ _ _ rfl) (State.arm_same ..) rfl)

theorem State.cfgWrite_same : ∀ (s : State) a b c, Same mask17 s (State.cfgWrite s a b c) := by
  intro s a b c
  unfold State.cfgWrite
  exact (by
    extract_lets +onlyGivenNames -merge x0
    exact (Same.ite (Same.refl _ _) (Same.ite (Same.refl _ _) (Same.then (Same.mono (State.setCfg_same ..) rfl) (State.sendHeld_same ..) rfl))))

end Sys2Proof.Machine
end

