-- ==== Sys2Proof/Laws/OwnersFrames.lean ====
section
/-! SUPPORT. Which parts of the state the operations of Machine/Owners.lean may change. -/
namespace Sys2Proof.Machine

theorem State.ownerReject_same : ∀ (s : State) a b, Same mask282 s (State.ownerReject s a b) := by
  intro s a b
  unfold State.ownerReject
  extract_lets r
  unfold r
  generalize ownerOf a b = o
  cases o <;> dsimp only [rejectIx] <;> exact State.reject_same _ _ _ _ _ _ rfl

theorem State.refuseWrite_same : ∀ (s : State) a b c, Same mask241 s (State.refuseWrite s a b c) := by
  intro s a b c
  unfold State.refuseWrite
  exact (by
    split
    · exact (Same.then (Same.mono (State.draw_same ..) rfl) (State.clkRefuse_same ..) rfl)
    · exact (Same.mono (State.ownerReject_same ..) rfl))

end Sys2Proof.Machine
end

