-- ==== Sys2Proof/Laws/PowerFrames.lean ====
section
/-! SUPPORT. Which parts of the state the operations of Machine/Power.lean may change. -/
namespace Sys2Proof.Machine

theorem State.setDvfs_same : ∀ (s : State) a b, Same 0x1000000000 s (State.setDvfs s a b) := by
  intro s a b
  unfold State.setDvfs
  exact (Same.set_clk _ (Same.refl _ _) rfl)

theorem State.jasperChange_same : ∀ (s : State), Same mask107 s (State.jasperChange s) := by
  intro s
  unfold State.jasperChange
  exact (by
    split
    · exact (by
      extract_lets +onlyGivenNames -merge x0 x1 x2 x3
      exact (Same.ite (Same.refl _ _) (Same.ite (Same.mono (State.setDvfs_same ..) rfl) (Same.then (State.setPar_same _ _ _ _ rfl) (State.setDvfs_same ..) rfl))))
    · exact (Same.set_clk _ (Same.refl _ _) rfl))

theorem State.jasperEnd_same : ∀ (s : State), Same mask107 s (State.jasperEnd s) := by
  intro s
  unfold State.jasperEnd
  exact (by
    extract_lets +onlyGivenNames -merge x0
    have h0 : Same mask107 s x0 := (Same.mono (State.setDvfs_same ..) rfl)
    exact (Same.ite (Same.then (Same.set_clk _ h0 rfl) (State.jasperChange_same ..) rfl) h0))

theorem State.jasperDrop_same : ∀ (s : State), Same mask82 s (State.jasperDrop s) := by
  intro s
  unfold State.jasperDrop
  exact (Same.next (Same.next (Same.set_clk _ (Same.refl _ _) rfl) (State.setPar_same _ _ _ _ rfl)) (State.cnt_same _ _ _ rfl))

theorem State.jasperReach_same : ∀ (s : State) a, Same mask107 s (State.jasperReach s a) := by
  intro s a
  unfold State.jasperReach
  exact (Same.then (Same.next (Same.set_clk _ (Same.refl _ _) rfl) (State.setPar_same _ _ _ _ rfl)) (State.jasperEnd_same ..) rfl)

theorem State.piersFollow_same : ∀ (s : State) a, Same mask84 s (State.piersFollow s a) := by
  intro s a
  unfold State.piersFollow
  exact (Same.foldl _ (Same.refl _ _) (fun sv _ => (Same.mono (State.pierTo_same ..) rfl)))

theorem State.toIdle_same : ∀ (s : State) a, Same mask68 s (State.toIdle s a) := by
  intro s a
  unfold State.toIdle
  exact (by
    extract_lets +onlyGivenNames -merge x0 x1
    have h0 : Same mask68 s x0 := (Same.then (Same.then (Same.then (State.setPar_same _ _ _ _ rfl) (State.piersFollow_same ..) rfl) (State.setGood_same ..) rfl) (State.setGood_same ..) rfl)
    have h1 : Same mask68 s x1 := (Same.ite (Same.next h0 (State.setPar_same _ _ _ _ rfl)) h0)
    exact (Same.then (Same.then h1 (State.froFollow_same ..) rfl) (State.jasperChange_same ..) rfl))

theorem State.toDormant_same : ∀ (s : State) a b, Same mask52 s (State.toDormant s a b) := by
  intro s a b
  unfold State.toDormant
  exact (by
    extract_lets +onlyGivenNames -merge x0 x1 x2 x3 x4 x5
    have h0 : Same mask52 s x0 := (Same.then (Same.then (Same.then (Same.mono (State.hostLinkDown_same ..) rfl) (State.ethDown_same ..) rfl) (State.ethDown_same ..) rfl) (State.endSessions_same ..) rfl)
    have h1 : Same mask52 s x1 := (Same.foldl _ h0 (fun sv _ => (State.setPar_same _ _ _ _ rfl)))
    have h2 : Same mask52 s x2 := (Same.next (Same.next (Same.next h1 (State.setPar_same _ _ _ _ rfl)) (State.setPar_same _ _ _ _ rfl)) (State.setPar_same _ _ _ _ rfl))
    have h4 : Same mask52 s x4 := (Same.set_clk _ h2 rfl)
    have h5 : Same mask52 s x5 := (Same.then (Same.then (Same.then h4 (State.stopSource_same ..) rfl) (State.froFollow_same ..) rfl) (State.opalFollow_same ..) rfl)
    exact (Same.ite (Same.then (Same.then h5 (State.driveCoarse_same ..) rfl) (State.setQuality_same ..) rfl) h5))

theorem State.deviceTo_same : ∀ (s : State) a b c d, Same mask64 s (State.deviceTo s a b c d) := by
  intro s a b c d
  unfold State.deviceTo
  exact (by
    extract_lets +onlyGivenNames -merge x0
    exact (Same.ite (Same.refl _ _) (Same.ite (by
      extract_lets +onlyGivenNames -merge x0 x1 x2
      have h0 : Same mask64 s x0 := (State.setPar_same _ _ _ _ rfl)
      have h1 : Same mask64 s x1 := (Same.ite (Same.then h0 (State.domainsOn_same ..) rfl) h0)
      have h2 : Same mask64 s x2 := (Same.then (Same.then (Same.then h1 (State.froFollow_same ..) rfl) (State.jasperChange_same ..) rfl) (State.piersFollow_same ..) rfl)
      exact (Same.ite (Same.then h2 (State.admitLate_same ..) rfl) h2)) (by
      extract_lets +onlyGivenNames -merge x0
      have h0 : Same mask64 s x0 := (Same.ite (Same.mono (State.toIdle_same ..) rfl) (Same.refl _ _))
      exact (Same.ite (Same.then h0 (State.toDormant_same ..) rfl) h0)))))

theorem State.applyPwr_same : ∀ (s : State) a b c d, Same mask64 s (State.applyPwr a b c s d) := by
  intro s a b c d
  unfold State.applyPwr
  exact (by
    split
    · exact (Same.mono (State.deviceTo_same ..) rfl)
    · exact (Same.mono (State.pierTo_same ..) rfl))

theorem State.queuePwr_same : ∀ (s : State) a b, Same 0x1000000000 s (State.queuePwr s a b) := by
  intro s a b
  unfold State.queuePwr
  exact (Same.set_clk _ (Same.refl _ _) rfl)

theorem State.pwrCmd_same : ∀ (s : State) a b, Same mask262 s (State.pwrCmd s a b) := by
  intro s a b
  unfold State.pwrCmd
  exact (Same.ite (Same.refl _ _) (by
    split
    · exact (Same.then (Same.mono (State.draw_same ..) rfl) (State.clkRefuse_same ..) rfl)
    · exact (Same.mono (State.queuePwr_same ..) rfl)))

theorem State.pierCmd_same : ∀ (s : State) a b c, Same mask139 s (State.pierCmd s a b c) := by
  intro s a b c
  unfold State.pierCmd
  exact (Same.ite (by
    extract_lets +onlyGivenNames -merge x0
    exact (Same.then (Same.mono (State.draw_same ..) rfl) (State.clkRefuse_same ..) rfl)) (Same.then (State.setPar_same _ _ _ _ rfl) (State.queuePwr_same ..) rfl))

theorem State.startLoops_same : ∀ (s : State), Same mask108 s (State.startLoops s) := by
  intro s
  unfold State.startLoops
  exact (Same.foldl _ (Same.refl _ _) (fun sv _ => (Same.ite (Same.mono (State.startLoop_same ..) rfl) (Same.refl _ _))))

theorem State.tpllLocked_same : ∀ (s : State), Same mask150 s (State.tpllLocked s) := by
  intro s
  unfold State.tpllLocked
  exact (by
    split
    · exact (Same.refl _ _)
    · exact (Same.ite (Same.mono (State.clockClear_same ..) rfl) (Same.ite (Same.then (Same.mono (State.startLoops_same ..) rfl) (State.release_same ..) rfl) (by
      extract_lets +onlyGivenNames -merge x0
      have h0 : Same mask150 s x0 := (Same.mono (State.startLoops_same ..) rfl)
      exact (Same.set_clk _ h0 rfl)))))

theorem State.loopLocked_same : ∀ (s : State) a b c d, Same mask211 s (State.loopLocked s a b c d) := by
  intro s a b c d
  unfold State.loopLocked
  exact (by
    extract_lets +onlyGivenNames -merge x0
    exact (by
      split
      · exact (Same.mono (State.tpllLocked_same ..) rfl)
      · exact (Same.then (Same.then (Same.set_clk _ (Same.refl _ _) rfl) (State.setGood_same ..) rfl) (State.clockClear_same ..) rfl)
      · exact (by
        extract_lets +onlyGivenNames -merge x0
        have h0 : Same mask211 s x0 := (Same.mono (State.setGood_same ..) rfl)
        exact (Same.ite (Same.next h0 (State.setPar_same _ _ _ _ rfl)) h0))
      · exact (Same.then (Same.then (Same.set_clk _ (Same.refl _ _) rfl) (State.setGood_same ..) rfl) (State.piersFollow_same ..) rfl)
      · exact (Same.then (Same.mono (State.setGood_same ..) rfl) (State.crossingReset_same ..) rfl)))

theorem State.brown_same : ∀ (s : State) a b, Same 0x1000000000 s (State.brown s a b) := by
  intro s a b
  unfold State.brown
  exact (Same.ite (Same.set_clk _ (Same.refl _ _) rfl) (Same.set_clk _ (Same.refl _ _) rfl))

end Sys2Proof.Machine
end

