-- ==== Sys2Proof/Laws/WindowsFrames.lean ====
section
/-! SUPPORT. Which parts of the state the operations of Machine/Windows.lean may change. -/
namespace Sys2Proof.Machine

theorem State.windowReject_same : ∀ (s : State) a b, Same mask110 s (State.windowReject s a b) := by
  intro s a b
  unfold State.windowReject
  exact (State.reject_same _ _ _ _ _ _ rfl)

theorem State.windowEnable_same : ∀ (s : State) a, Same mask231 s (State.windowEnable s a) := by
  intro s a
  unfold State.windowEnable
  exact (Same.ite (Same.mono (State.windowReject_same ..) rfl) (Same.ite (Same.refl _ _) (by
    split
    · exact (Same.next (State.cnt_same _ _ _ rfl) (State.setPar_same _ _ _ _ rfl))
    · exact (Same.next (State.setPar_same _ _ _ _ rfl) (State.setPar_same _ _ _ _ rfl)))))

theorem State.windowDisable_same : ∀ (s : State) a b, Same mask270 s (State.windowDisable s a b) := by
  intro s a b
  unfold State.windowDisable
  exact (Same.ite (Same.next (State.setPar_same _ _ _ _ rfl) (State.setPar_same _ _ _ _ rfl)) (Same.refl _ _))

theorem State.windowMiss_same : ∀ (s : State) a b c, Same mask1 s (State.windowMiss s a b c) := by
  intro s a b c
  unfold State.windowMiss
  exact (by
    extract_lets +onlyGivenNames -merge x0 x1
    have h0 : Same mask1 s x0 := (Same.next (State.cnt_same _ _ _ (cntIn_of (by split <;> rfl) rfl)) (State.setPar_same _ _ _ _ rfl))
    have h1 : Same mask1 s x1 := (Same.then h0 (State.partnerFault_same ..) rfl)
    exact (Same.then (Same.ite h1 (Same.then h1 (State.send_same ..) rfl)) (State.portError_same ..) rfl))

theorem State.windowRead_same : ∀ (s : State) a b c, Same mask253 s (State.windowRead s a b c) := by
  intro s a b c
  unfold State.windowRead
  exact (by
    extract_lets +onlyGivenNames -merge x0 x1 x2 x3 x4
    have h0 : Same mask253 s x0 := (Same.mono (State.strike_same ..) rfl)
    have h2 : Same mask253 s x2 := (Same.then h0 (State.countReads_same ..) rfl)
    exact (Same.then (Same.set_fresh _ h2 rfl) (State.send_same ..) rfl))

theorem State.windowWrite_same : ∀ (s : State) a b, Same mask69 s (State.windowWrite s a b) := by
  intro s a b
  unfold State.windowWrite
  extract_lets +onlyGivenNames -merge s0 whole hit part stuck keep s1
  have h0 : Same mask69 s s0 := Same.mono (State.strike_same ..) rfl
  have h1 : Same mask69 s s1 := Same.foldl _ h0 (fun _ _ => Same.mono (State.countRead_same ..) rfl)
  exact Same.set_mem_dram _ _ h1 (memWriteCells_wf _ _) rfl

end Sys2Proof.Machine
end

