-- ==== Sys2Proof/Laws/AccessFrames.lean ====
section
/-! SUPPORT. Which parts of the state the operations of Machine/Access.lean may change. -/
namespace Sys2Proof.Machine

theorem State.setPath_same : ∀ (s : State) a b, Same 0x30000000000 s (State.setPath s a b) := by
  intro s a b
  unfold State.setPath
  exact (Same.ite (Same.set_mgmtPath _ (Same.refl _ _) rfl) (Same.set_hostPath _ (Same.refl _ _) rfl))

theorem State.refreshSlots_same : ∀ (s : State), Same 0x8000000000 s (State.refreshSlots s) := by
  intro s
  unfold State.refreshSlots
  exact (by
    extract_lets +onlyGivenNames -merge x0
    exact (Same.set_ds _ (Same.refl _ _) rfl))

theorem State.dangerTrace_same : ∀ (s : State) a b, Same mask256 s (State.dangerTrace s a b) := by
  intro s a b
  unfold State.dangerTrace
  exact (Same.next (Same.next (State.cnt_same _ _ _ rfl) (State.setPar_same _ _ _ _ rfl)) (State.setPar_same _ _ _ _ rfl))

theorem State.requestSnapshot_same : ∀ (s : State), Same 0x8000000000 s (State.requestSnapshot s) := by
  intro s
  unfold State.requestSnapshot
  exact (by
    split
    · exact (Same.refl _ _)
    · exact (Same.set_ds _ (Same.refl _ _) rfl))

theorem State.restartMarks_same : ∀ (s : State), Same mask294 s (State.restartMarks s) := by
  intro s
  have hp : ∀ u v i j x, inM mask294 i = true → Same mask294 u v → Same mask294 u (v.setPar i j x) := fun u v i j x b h => Same.next h (State.setPar_same _ _ _ _ b)
  unfold State.restartMarks
  extract_lets +onlyGivenNames -merge lane stream s1
  have h1 : Same mask294 s s1 := Same.foldl _ (Same.foldl _ (Same.refl _ _) (fun _ _ => hp _ _ _ _ _ rfl (Same.refl _ _)))
    (fun _ _ => hp _ _ _ _ _ rfl (hp _ _ _ _ _ rfl (Same.refl _ _)))
  exact hp _ _ _ _ _ rfl (hp _ _ _ _ _ rfl (hp _ _ _ _ _ rfl (hp _ _ _ _ _ rfl h1)))

theorem State.takeSnapshot_same : ∀ (s : State) a, Same mask293 s (State.takeSnapshot s a) := by
  intro s a
  unfold State.takeSnapshot
  exact (by
    extract_lets +onlyGivenNames -merge x0 x1 x2
    have h2 : Same mask293 s x2 := (Same.then (Same.set_ds _ (Same.refl _ _) rfl) (State.restartMarks_same ..) rfl)
    exact (Same.next (Same.next h2 (State.setPar_same _ _ _ _ rfl)) (State.setPar_same _ _ _ _ rfl)))

theorem State.roleSet_same : ∀ (s : State) a b, Same mask121 s (State.roleSet s a b) := by
  intro s a b
  unfold State.roleSet
  exact (by
    extract_lets +onlyGivenNames -merge x0 x1 x2
    have h2 : Same mask121 s x2 := (Same.next (State.setAt_same _ _ _ _ _ rfl) (State.setAt_same _ _ _ _ _ rfl))
    exact (Same.then h2 (State.laneRecord_same ..) rfl))

theorem State.roleChange_same : ∀ (s : State) a b, Same mask121 s (State.roleChange s a b) := by
  intro s a b
  unfold State.roleChange
  exact (Same.ite (Same.refl _ _) (Same.mono (State.roleSet_same ..) rfl))

theorem State.ppsInMode_same : ∀ (s : State) a, Same mask243 s (State.ppsInMode s a) := by
  intro s a
  unfold State.ppsInMode
  exact (by
    extract_lets +onlyGivenNames -merge x0
    have h0 : Same mask243 s x0 := (State.setPar_same _ _ _ _ rfl)
    exact (Same.then h0 (State.store_same ..) rfl))

theorem State.portEnable_same : ∀ (s : State) a b, Same mask235 s (State.portEnable s a b) := by
  intro s a b
  unfold State.portEnable
  exact (by
    extract_lets +onlyGivenNames -merge x0
    have h0 : Same mask235 s x0 := (State.setPar_same _ _ _ _ rfl)
    exact (Same.ite (Same.then h0 (State.ethDown_same ..) rfl) h0))

theorem State.valueEffect_same : ∀ (s u : State) ix sub v b, s.valueEffect ix sub v b = some u → Same mask90 s u := by
  intro s u ix sub v b
  have hp : Same mask90 s (s.setPar ix sub v) := State.setPar_same _ _ _ _ (inM_all _ rfl)
  have no : ∀ w, (none : Option State) = some w → Same mask90 s w := fun _ h => nomatch h
  have ye : ∀ x w, Same mask90 s x → some x = some w → Same mask90 s w := fun _ _ h e => by injection e with e; exact e ▸ h
  have it : ∀ (c : Prop) [Decidable c] (x y : Option State), (∀ w, x = some w → Same mask90 s w) → (∀ w, y = some w → Same mask90 s w) →
      ∀ w, (if c then x else y) = some w → Same mask90 s w := fun c _ x y hx hy w h => by
    split at h
    · exact hx w h
    · exact hy w h
  unfold State.valueEffect
  extract_lets q
  have hq : Same mask90 s q := hp
  clear_value q
  refine it _ _ _ (fun w => ye _ _ (Same.mono (State.roleChange_same ..) rfl)) (it _ _ _ (fun w => ye _ _ (Same.mono (State.ppsInMode_same ..) rfl))
    (it _ _ _ (fun w => ye _ _ (Same.then hq (State.ppsEnable_same ..) rfl)) (it _ _ _ (fun w => ye _ _ (Same.then hq (State.overrideEffect_same ..) rfl))
    (it _ _ _ (fun w => ye _ _ (Same.ite hq (Same.then hq (State.holdBegins_same ..) rfl)))
    (it _ _ _ (fun w => ye _ _ (Same.then hq (State.jasperChange_same ..) rfl)) (it _ _ _ (fun w => ye _ _ (Same.then hq (State.froFollow_same ..) rfl))
    (it _ _ _ (fun w => ye _ _ (Same.then hq (State.opalFollow_same ..) rfl)) (it _ _ _ (fun w => ye _ _ (Same.then hq (State.refSelected_same ..) rfl))
    (it _ _ _ (fun w => ye _ _ (Same.then hq (State.autoRef_same ..) rfl)) (it _ _ _ (fun w => ye _ _ (Same.then hq (State.forceEffect_same ..) rfl)) (it _ _ _ (fun w => ye _ _ (Same.mono (State.portEnable_same ..) rfl))
    (it _ _ _ (fun w => ye _ _ (Same.then hq (State.ringRole_same ..) rfl)) (it _ _ _ (fun w => ye _ _ (Same.ite hq (Same.then hq (State.endSessions_same ..) rfl)))
    (it _ _ _ (fun w => ye _ _ (Same.mono (State.irqAckWrite_same ..) rfl))
    (it _ _ _ (fun w => ye _ _ (Same.ite (Same.mono (State.windowEnable_same ..) rfl) (Same.mono (State.windowDisable_same ..) rfl)))
    (it _ _ _ (fun w => ye _ _ (Same.then hq (State.drainTail_same ..) rfl)) (it _ _ _ (fun w => ye _ _ (Same.then hq (State.pointCopies_same ..) rfl)) no))))))))))))))))) u

theorem State.takeValue_same : ∀ (s : State) a b c d e f, Same mask31 s (State.takeValue s a b c d e f) := by
  intro s a b c d e f
  unfold State.takeValue
  exact (Same.ite (Same.mono (State.setPath_same ..) rfl) (Same.ite (Same.set_staged _ (Same.refl _ _) rfl) (Same.ite (Same.mono (State.enqueue_same ..) rfl) (by
    split
    · exact (Same.mono (State.valueEffect_same _ _ _ _ _ _ (by assumption)) rfl)
    · exact (State.setPar_same _ _ _ _ (inM_all _ rfl))))))

theorem State.acceptValue_same : ∀ (s : State) m p i j v b, Same mask31 s (State.acceptValue s m p i j v b) := by
  intro s m p i j v b
  unfold State.acceptValue
  extract_lets +onlyGivenNames -merge s1
  have h1 : Same mask31 s s1 :=
    Same.then (Same.ite (Same.mono (State.dangerTrace_same ..) rfl) (Same.refl _ _) : Same mask31 s _) (State.takeValue_same ..) rfl
  clear_value s1
  exact Same.ite (Same.then h1 (State.tellConfig_same ..) rfl) h1

theorem State.refuseBroadcast_same : ∀ (s : State) a b c, Same mask6 s (State.refuseBroadcast s a b c) := by
  intro s a b c
  unfold State.refuseBroadcast
  exact (by
    extract_lets +onlyGivenNames -merge x0
    have h0 : Same mask6 s x0 := (Same.ite (State.cnt_same _ _ _ rfl) (Same.refl _ _))
    exact (Same.then h0 (State.refuseWrite_same ..) rfl))

end Sys2Proof.Machine
end

