-- ==== Sys2Proof/Laws/FetchFrames.lean ====
section
/-! SUPPORT. Which parts of the state the operations of Machine/Fetch.lean may change. -/
namespace Sys2Proof.Machine

theorem State.fetchEnds_same : ∀ (s : State) a, Same mask99 s (State.fetchEnds s a) := by
  intro s a
  unfold State.fetchEnds
  exact (Same.next (Same.set_fetch _ (Same.refl _ _) rfl) (State.setPar_same _ _ _ _ rfl))

theorem State.fetchDone_same : ∀ (s : State), Same mask99 s (State.fetchDone s) := by
  intro s
  unfold State.fetchDone
  exact (Same.mono (State.fetchEnds_same ..) rfl)

theorem State.fetchFault_same : ∀ (s : State) a b c, Same mask65 s (State.fetchFault s a b c) := by
  intro s a b c
  unfold State.fetchFault
  exact (by
    extract_lets +onlyGivenNames -merge x0 x1
    have h1 : Same mask65 s x1 := (Same.ite (Same.refl _ _) (Same.mono (State.draw_same ..) rfl))
    exact (Same.next (Same.next (Same.next h1 (State.cnt_same _ _ _ rfl)) (State.setPar_same _ _ _ _ rfl)) (State.setPar_same _ _ _ _ rfl)))

theorem State.fetchSkip_same : ∀ (s : State), Same mask53 s (State.fetchSkip s) := by
  intro s
  unfold State.fetchSkip
  exact (Same.next (Same.set_fetch _ (Same.refl _ _) rfl) (State.cnt_same _ _ _ rfl))

theorem State.fetchSeen_same : ∀ (s : State) a, Same mask189 s (State.fetchSeen s a) := by
  intro s a
  unfold State.fetchSeen
  exact (by
    extract_lets +onlyGivenNames -merge x0
    have h0 : Same mask189 s x0 := (Same.ite (Same.refl _ _) (State.setPar_same _ _ _ _ rfl))
    exact (Same.next (Same.set_fetch _ h0 rfl) (State.setPar_same _ _ _ _ rfl)))

theorem State.fetchTake_same : ∀ (s : State) a b, Same mask13 s (State.fetchTake s a b) := by
  intro s a b
  unfold State.fetchTake
  exact (by
    split
    · exact (Same.mono (State.fetchFault_same ..) rfl)
    · exact (Same.set_fetch _ (Same.refl _ _) rfl))

theorem State.headerFault_same : ∀ (s : State) a b, Same mask13 s (State.headerFault s a b) := by
  intro s a b
  unfold State.headerFault
  exact (by
    extract_lets +onlyGivenNames -merge x0 x1
    have h1 : Same mask13 s x1 := (Same.mono (State.fetchFault_same ..) rfl)
    exact (Same.ite (by
      extract_lets +onlyGivenNames -merge x0 x1 x2
      exact (Same.set_fetch _ h1 rfl)) h1))

theorem State.fetchHeader_same : ∀ (s : State) a b c d, Same mask167 s (State.fetchHeader s a b c d) := by
  intro s a b c d
  unfold State.fetchHeader
  exact (by
    split
    · exact (Same.mono (State.headerFault_same ..) rfl)
    · exact (Same.ite (Same.mono (State.headerFault_same ..) rfl) (Same.then (Same.mono (State.fetchSeen_same ..) rfl) (State.fetchTake_same ..) rfl)))

theorem State.fetchRead_same : ∀ (s : State) a, Same mask153 s (State.fetchRead s a) := by
  intro s a
  unfold State.fetchRead
  exact (by
    extract_lets +onlyGivenNames -merge x0 x1 x2
    exact (Same.then (Same.mono (State.countReads_same ..) rfl) (State.fetchHeader_same ..) rfl))

theorem State.fetchStep_same : ∀ (s : State), Same mask58 s (State.fetchStep s) := by
  intro s
  have hk : ∀ u, Same mask58 s u → Same mask58 s u.fetchSkip := fun u h => Same.then h (State.fetchSkip_same ..) rfl
  have hd : ∀ u, Same mask58 s u → Same mask58 s u.fetchDone := fun u h => Same.then h (State.fetchDone_same ..) rfl
  unfold State.fetchStep
  extract_lets +onlyGivenNames -merge u y s1 oldest
  have h0 : Same mask58 s u := Same.ite (hk _ (Same.refl _ _)) (Same.refl _ _)
  have h1 : Same mask58 s s1 := Same.ite (Same.refl _ _) (Same.set_fetch _ h0 rfl)
  clear_value s1 oldest
  refine Same.ite (Same.set_fetch _ (hk _ h1) rfl) ?_
  generalize s1.fetchNext = o
  cases o with
  | none => exact hd _ h1
  | some e => exact Same.ite (hd _ h1) (Same.then (Same.set_fetch _ h1 rfl) (State.fetchRead_same ..) rfl)

theorem State.fetchStart_same : ∀ (s : State), Same mask221 s (State.fetchStart s) := by
  intro s
  unfold State.fetchStart
  exact (Same.ite (Same.refl _ _) (by
    extract_lets +onlyGivenNames -merge x0
    have h0 : Same mask221 s x0.1 := (Same.iteP (Same.mono (State.hostRegions_same ..) rfl) (Same.refl _ _))
    exact (Same.ite (Same.next (by
      extract_lets +onlyGivenNames -merge x0
      have h0 : Same mask221 s x0 := h0
      exact (Same.set_fetch _ h0 rfl)) (State.setPar_same _ _ _ _ rfl)) (Same.then h0 (State.fetchEnds_same ..) rfl))))

theorem State.fetchAbort_same : ∀ (s : State), Same mask99 s (State.fetchAbort s) := by
  intro s
  unfold State.fetchAbort
  exact (Same.ite (Same.refl _ _) (Same.ite (Same.set_fetch _ (Same.refl _ _) rfl) (Same.mono (State.fetchEnds_same ..) rfl)))

end Sys2Proof.Machine
end

