-- ==== Sys2Proof/Laws/StoreFrames.lean ====
section
/-! SUPPORT. Which parts of the state the operations of Machine/Store.lean may change. -/
namespace Sys2Proof.Machine

theorem State.writeSlot_same : ∀ (s : State) a, Same mask56 s (State.writeSlot s a) := by
  intro s a
  unfold State.writeSlot
  exact (Same.next (Same.set_nv _ (Same.refl _ _) rfl) (State.setPar_same _ _ _ _ rfl))

theorem State.result_same : ∀ (s : State) a, Same mask265 s (State.result s a) := by
  intro s a
  unfold State.result
  exact (State.setPar_same _ _ _ _ rfl)

theorem State.save_same : ∀ (s : State) a b, Same mask114 s (State.save s a b).1 := by
  intro s a b
  unfold State.save
  exact (by
    split
    · exact (Same.mono (State.result_same ..) rfl)
    · exact (by
      extract_lets +onlyGivenNames -merge x0
      exact (Same.next (Same.then (Same.mono (State.draw_same ..) rfl) (State.writeSlot_same ..) rfl) (State.setPar_same _ _ _ _ rfl))))

theorem State.saveEnds_same : ∀ (s : State), Same mask59 s (State.saveEnds s) := by
  intro s
  unfold State.saveEnds
  exact (Same.next (Same.set_nv _ (Same.refl _ _) rfl) (State.setPar_same _ _ _ _ rfl))

theorem State.commit_same : ∀ (s : State) a, Same mask132 s (State.commit s a) := by
  intro s a
  unfold State.commit
  exact (by
    extract_lets +onlyGivenNames -merge x0 x1 x2
    have h1 : Same mask132 s x1 := (Same.set_nv _ (Same.refl _ _) rfl)
    have h2 : Same mask132 s x2 := (Same.ite (Same.next h1 (State.setPar_same _ _ _ _ rfl)) h1)
    exact (Same.then (Same.then (Same.then h2 (State.saveEnds_same ..) rfl) (State.result_same ..) rfl) (State.pointCopies_same ..) rfl))

theorem State.retire_same : ∀ (s : State) a, Same mask115 s (State.retire s a) := by
  intro s a
  unfold State.retire
  exact (Same.next (Same.set_nv _ (Same.refl _ _) rfl) (State.setPar_same _ _ _ _ rfl))

theorem State.saveDone_same : ∀ (s : State) a b, Same mask97 s (State.saveDone s a b).1 := by
  intro s a b
  unfold State.saveDone
  exact (Same.iteP (Same.mono (State.commit_same ..) rfl) (by
    extract_lets +onlyGivenNames -merge x0
    have h0 : Same mask97 s x0 := (Same.mono (State.retire_same ..) rfl)
    exact (Same.iteP (Same.then (Same.then h0 (State.saveEnds_same ..) rfl) (State.result_same ..) rfl) (Same.then h0 (State.writeSlot_same ..) rfl))))

theorem State.loadValue_same : ∀ (s : State) a b c, Same mask57 s (State.loadValue s a b c) := by
  intro s a b c
  unfold State.loadValue
  exact (by
    split
    · exact (by
      extract_lets +onlyGivenNames -merge x0
      exact (by
        split
        · exact (Same.mono (State.refuseWrite_same ..) rfl)
        · exact (Same.mono (State.acceptValue_same ..) rfl)))
    · exact (Same.refl _ _))

theorem State.loadVals_same : ∀ (s : State) ix sub l, Same mask57 s (State.loadVals s ix sub l) := by
  intro s ix sub l
  induction l generalizing s sub with
  | nil => exact Same.refl _ _
  | cons v l ih => exact Same.then (Same.mono (State.loadValue_same ..) rfl) (ih _ _) rfl

theorem State.loadRecord_same : ∀ (s : State) a b, Same mask32 s (State.loadRecord a s b) := by
  intro s a b
  unfold State.loadRecord
  exact (Same.ite (State.cnt_same _ _ _ rfl) (by
    split
    · exact (Same.ite (Same.set_nv _ (Same.refl _ _) rfl) (Same.refl _ _))
    · exact (Same.mono (State.loadVals_same ..) rfl)))

theorem State.toDefault_same : ∀ (s : State) a, Same mask31 s (State.toDefault s a) := by
  intro s a
  unfold State.toDefault
  exact (by
    split
    · exact (Same.mono (State.acceptValue_same ..) rfl)
    · exact (Same.refl _ _))

theorem State.loadDefaults_same : ∀ (s : State) a, Same mask229 s (State.loadDefaults s a) := by
  intro s a
  unfold State.loadDefaults
  exact (by
    extract_lets +onlyGivenNames -merge x0 x1 x2
    exact (Same.foldl _ (Same.set_nv _ (Same.refl _ _) rfl) (fun _ _ => Same.mono (State.toDefault_same ..) rfl)))

theorem State.loadBody_same : ∀ (s : State) a, Same mask32 s (State.loadBody s a) := by
  intro s a
  unfold State.loadBody
  exact (by
    extract_lets +onlyGivenNames -merge x0
    exact (Same.foldl _ (Same.mono (State.loadDefaults_same ..) rfl) (fun _ _ => Same.mono (State.loadRecord_same ..) rfl)))

theorem State.loadEnables_same : ∀ (s : State) a, Same mask32 s (State.loadEnables s a) := by
  intro s a
  unfold State.loadEnables
  exact (Same.foldl _ (Same.refl _ _) (fun _ _ => Same.mono (State.loadRecord_same ..) rfl))

theorem State.load_same : ∀ (s : State) a, Same mask32 s (State.load s a).1 := by
  intro s a
  unfold State.load
  exact (by
    split
    · exact (Same.mono (State.result_same ..) rfl)
    · exact (Same.then (Same.then (Same.mono (State.loadBody_same ..) rfl) (State.loadEnables_same ..) rfl) (State.result_same ..) rfl))

theorem State.refreshCopy_same : ∀ (s : State), Same mask224 s (State.refreshCopy s) := by
  intro s
  unfold State.refreshCopy
  exact (by
    split
    · exact (Same.ite (Same.refl _ _) (by
      extract_lets +onlyGivenNames -merge x0 x1
      exact (Same.next (Same.then (Same.mono (State.draw_same ..) rfl) (State.writeSlot_same ..) rfl) (State.setPar_same _ _ _ _ rfl))))
    · exact (Same.refl _ _))

theorem State.saveCmd_same : ∀ (s : State) a, Same mask114 s (State.saveCmd s a) := by
  intro s a
  unfold State.saveCmd
  exact (Same.mono (State.save_same ..) rfl)

end Sys2Proof.Machine
end

