-- ==== Sys2Proof/Laws/WritesFrames.lean ====
section
/-! SUPPORT. Which parts of the state the operations of Machine/Writes.lean may change. -/
namespace Sys2Proof.Machine

theorem State.restartRequest_same : ∀ (s : State) a, Same mask195 s (State.restartRequest s a) := by
  intro s a
  unfold State.restartRequest
  exact (Same.ite (Same.mono (State.enqueue_same ..) rfl) (Same.mono (State.ownerReject_same ..) rfl))

theorem State.commandA_same : ∀ (s u : State) ix sub v, s.commandA ix sub v = some u → Same mask125 s u := by
  intro s u ix sub v
  have no : ∀ w, (none : Option State) = some w → Same mask125 s w := fun _ h => nomatch h
  have ye : ∀ x w, Same mask125 s x → some x = some w → Same mask125 s w := fun _ _ h e => by injection e with e; exact e ▸ h
  have it : ∀ (c : Prop) [Decidable c] (x y : Option State), (∀ w, x = some w → Same mask125 s w) → (∀ w, y = some w → Same mask125 s w) →
      ∀ w, (if c then x else y) = some w → Same mask125 s w := fun c _ x y hx hy w h => by
    split at h
    · exact hx w h
    · exact hy w h
  unfold State.commandA
  exact it _ _ _ (fun w => ye _ _ (Same.mono (State.restartRequest_same ..) rfl)) (it _ _ _ (fun w => ye _ _ (Same.mono (State.enqueue_same ..) rfl))
    (it _ _ _ (fun w => ye _ _ (Same.mono (State.loadCmd_same ..) rfl)) (it _ _ _ (fun w => ye _ _ (Same.mono (State.releaseRequest_same ..) rfl))
    (it _ _ _ (fun w => ye _ _ (Same.mono (State.safeEverything_same ..) rfl)) (it _ _ _ (fun w => ye _ _ (Same.mono (State.exRelease_same ..) rfl))
    (it _ _ _ (fun w => ye _ _ (Same.mono (State.exRelease_same ..) rfl)) (it _ _ _ (fun w => ye _ _ (Same.mono (State.sliceRetest_same ..) rfl))
    (it _ _ _ (fun w => ye _ _ (Same.mono (State.releaseRequest_same ..) rfl)) (it _ _ _ (fun w => ye _ _ (Same.mono (State.streamFlush_same ..) rfl))
    (it _ _ _ (fun w => ye _ _ (Same.ite (Same.mono (State.fetchStart_same ..) rfl) (Same.mono (State.fetchAbort_same ..) rfl))) no)))))))))) u

theorem State.commandB_same : ∀ (s : State) a b c d, Same mask219 s (State.commandB s a b c d) := by
  intro s a b c d
  unfold State.commandB
  exact (Same.ite (Same.mono (State.requestSnapshot_same ..) rfl) (Same.ite (Same.mono (State.pwrCmd_same ..) rfl) (Same.ite (Same.mono (State.pierCmd_same ..) rfl) (Same.ite (Same.mono (State.clkReturn_same ..) rfl) (Same.ite (Same.mono (State.saveCmd_same ..) rfl) (Same.ite (Same.mono (State.load_same ..) rfl) (Same.refl _ _)))))))

theorem State.command_same : ∀ (s : State) i j v b, Same mask9 s (State.command s i j v b) := by
  intro s i j v b
  unfold State.command
  generalize ho : s.commandA _ _ _ = o
  cases o with
  | none => exact Same.mono (State.commandB_same ..) rfl
  | some u => exact Same.mono (State.commandA_same _ _ _ _ _ ho) rfl

theorem State.applyWrite_same : ∀ (s : State) a b c d e f, Same mask9 s (State.applyWrite s a b c d e f) := by
  intro s a b c d e f
  unfold State.applyWrite
  exact (Same.ite (Same.mono (State.command_same ..) rfl) (Same.mono (State.acceptValue_same ..) rfl))

theorem State.tryWrite_same : ∀ (s : State) a b c d e f, Same mask9 s (State.tryWrite s a b c d e f) := by
  intro s a b c d e f
  unfold State.tryWrite
  exact (by
    split
    · exact (Same.mono (State.refuseWrite_same ..) rfl)
    · exact (Same.mono (State.applyWrite_same ..) rfl))

theorem State.holdWrite_same : ∀ (s : State) a b c, Same 0x8000000000 s (State.holdWrite s a b c) := by
  intro s a b c
  unfold State.holdWrite
  exact (by
    extract_lets +onlyGivenNames -merge x0
    exact (Same.set_ds _ (Same.refl _ _) rfl))

theorem State.putWrite_same : ∀ (s : State) a b c d e, Same mask9 s (State.putWrite s a b c d e) := by
  intro s a b c d e
  unfold State.putWrite
  exact (Same.ite (Same.then (Same.mono (State.holdWrite_same ..) rfl) (State.noteHost_same ..) rfl) (by
    split
    · exact (Same.mono (State.refuseWrite_same ..) rfl)
    · exact (Same.then (Same.mono (State.applyWrite_same ..) rfl) (State.noteHost_same ..) rfl)))

theorem State.takeWrite_same : ∀ (s : State) a b c d e, Same mask9 s (State.takeWrite s a b c d e) := by
  intro s a b c d e
  unfold State.takeWrite
  exact (Same.ite (Same.ite (Same.mono (State.dangerTrace_same ..) rfl) (Same.refl _ _)) (Same.ite (Same.mono (State.holdWrite_same ..) rfl) (Same.mono (State.applyWrite_same ..) rfl)))

theorem State.applyHeld_same : ∀ (s : State) a b, Same mask9 s (State.applyHeld a s b) := by
  intro s a b
  unfold State.applyHeld
  exact (by
    split
    · exact (Same.mono (State.tryWrite_same ..) rfl)
    · exact (Same.refl _ _))

theorem State.spread_same : ∀ (s : State) a b c d e, Same mask9 s (State.spread a b c d s e) := by
  intro s a b c d e
  unfold State.spread
  exact (Same.ite (Same.refl _ _) (Same.ite (Same.mono (State.holdWrite_same ..) rfl) (Same.ite (Same.mono (State.command_same ..) rfl) (Same.mono (State.takeValue_same ..) rfl))))

theorem State.enqueueAll_same : ∀ (s : State) a b c, Same mask4 s (State.enqueueAll s a b c) := by
  intro s a b c
  unfold State.enqueueAll
  exact (by
    extract_lets +onlyGivenNames -merge x0
    exact (Same.foldl _ (Same.mono (State.enqueue_same ..) rfl) (fun sv _ => (Same.mono (State.enqueue_same ..) rfl))))

theorem State.acceptBroadcast_same : ∀ (s : State) a b c d, Same mask9 s (State.acceptBroadcast s a b c d) := by
  intro s a b c d
  unfold State.acceptBroadcast
  exact (by
    extract_lets +onlyGivenNames -merge x0 x1
    have h1 : Same mask9 s x1 := (Same.ite (Same.mono (State.dangerTrace_same ..) rfl) (Same.refl _ _))
    exact (Same.ite (Same.then h1 (State.enqueueAll_same ..) rfl) (by
      extract_lets +onlyGivenNames -merge x0
      have h0 : Same mask9 s x0 := (Same.foldl _ h1 (fun _ _ => Same.mono (State.spread_same ..) rfl))
      exact (Same.ite (Same.then h0 (State.tellConfig_same ..) rfl) h0))))

theorem State.roleLost_same : ∀ (s : State) a, Same mask281 s (State.roleLost s a) := by
  intro s a
  unfold State.roleLost
  exact (by
    extract_lets +onlyGivenNames -merge x0 x1 x2
    have h0 : Same mask281 s x0 := (Same.mono (State.roleSet_same ..) rfl)
    have h2 : Same mask281 s x2 := (Same.next h0 (State.setAt_same _ _ _ _ _ rfl))
    exact (Same.ite (Same.then h2 (State.laneDisable_same ..) rfl) (Same.then h2 (State.laneStateRecord_same ..) rfl)))

theorem State.setField_same : ∀ (s : State) p i j v, Same mask90 s (State.setField s p i j v) := by
  intro s p i j v
  have ha : ∀ ix, Same mask90 s (s.setAt s.now ix j v) := fun ix => State.setAt_same _ _ _ _ _ (setAtIn_of (inM_all _ rfl) rfl)
  unfold State.setField
  extract_lets +onlyGivenNames -merge on was
  refine Same.ite (Same.then (ha _) (State.outEnableEffect_same ..) rfl) (Same.ite (Same.then (ha _) (State.outEnableEffect_same ..) rfl) ?_)
  generalize ho : s.valueEffect _ _ _ _ = o
  cases o with
  | none => exact Same.ite (ha _) (State.setPar_same _ _ _ _ (inM_all _ rfl))
  | some u => exact Same.mono (State.valueEffect_same _ _ _ _ _ _ ho) rfl

theorem State.fieldLost_same : ∀ (s : State) p i j, Same mask205 s (State.fieldLost s p i j) := by
  intro s p i j
  unfold State.fieldLost
  extract_lets +onlyGivenNames -merge s1
  have h1 : Same mask205 s s1 := Same.next (State.cnt_same _ _ _ rfl) (State.setPar_same _ _ _ _ (inM_all _ rfl))
  clear_value s1
  exact Same.ite (Same.then h1 (State.roleLost_same ..) rfl) (Same.then h1 (State.setField_same ..) rfl)

theorem State.vote_same : ∀ (s : State) a b c d e f, Same mask205 s (State.vote s a b c d e f) := by
  intro s a b c d e f
  unfold State.vote
  exact (Same.ite (Same.mono (State.fieldLost_same ..) rfl) (by
    extract_lets +onlyGivenNames -merge x0 x1
    have h1 : Same mask205 s x1 := (Same.ite (Same.refl _ _) (Same.mono (State.setField_same ..) rfl))
    exact (Same.ite h1 (Same.next (Same.next h1 (State.cntW_same _ _ _ _ rfl)) (State.setPar_same _ _ _ _ rfl)))))

end Sys2Proof.Machine
end

