-- ==== Sys2Proof/Laws/RegistersFrames.lean ====
section
/-! SUPPORT. Which parts of the state the operations of Machine/Registers.lean may change. -/
namespace Sys2Proof.Machine

theorem State.ignored_same : ∀ (s : State), Same mask76 s (State.ignored s) := by
  intro s
  unfold State.ignored
  exact (State.cnt_same _ _ _ rfl)

theorem State.loadLatch_same : ∀ (s : State) a b c, Same 0x30000000000 s (State.loadLatch s a b c) := by
  intro s a b c
  unfold State.loadLatch
  exact (Same.mono (State.setPath_same ..) rfl)

theorem State.readSlot_same : ∀ (s : State) a b c, Same mask186 s (State.readSlot s a b c).1 := by
  intro s a b c
  unfold State.readSlot
  exact (by
    split
    · exact (Same.refl _ _)
    · exact (Same.iteP (by
      extract_lets +onlyGivenNames -merge x0
      exact (Same.mono (State.loadLatch_same ..) rfl)) (Same.iteP (by
      extract_lets +onlyGivenNames -merge x0 x1
      exact (Same.iteP (Same.mono (State.loadLatch_same ..) rfl) (Same.iteP (Same.refl _ _) (State.cnt_same _ _ _ rfl)))) (Same.refl _ _))))

theorem State.writeWide_same : ∀ (s : State) a b c d e f, Same mask9 s (State.writeWide s a b c d e f) := by
  intro s a b c d e f
  unfold State.writeWide
  exact (by
    extract_lets +onlyGivenNames -merge x0 x1 x2 x3 x4 x5
    exact (Same.ite (by
      extract_lets +onlyGivenNames -merge x0
      exact (Same.set_hostPath _ (Same.refl _ _) rfl)) (Same.ite (by
      extract_lets +onlyGivenNames -merge x0 x1 x2
      have h2 : Same mask9 s x2 := (Same.set_hostPath _ (Same.refl _ _) rfl)
      exact (Same.then h2 (State.putWrite_same ..) rfl)) (State.cnt_same _ _ _ rfl))))

theorem State.writeSlotWord_same : ∀ (s : State) a b c d e f, Same mask9 s (State.writeSlotWord s a b c d e f) := by
  intro s a b c d e f
  unfold State.writeSlotWord
  exact (Same.ite (Same.refl _ _) (by
    split
    · exact (Same.mono (State.ignored_same ..) rfl)
    · exact (by
      extract_lets +onlyGivenNames -merge x0 x1
      exact (Same.ite (Same.mono (State.ignored_same ..) rfl) (Same.ite (Same.mono (State.writeWide_same ..) rfl) (Same.ite (Same.mono (State.ownerReject_same ..) rfl) (Same.mono (State.putWrite_same ..) rfl)))))))

theorem State.readBar0_same : ∀ (s : State) a, Same mask186 s (State.readBar0 s a).1 := by
  intro s a
  unfold State.readBar0
  exact (by
    extract_lets +onlyGivenNames -merge x0
    exact (Same.iteP (Same.refl _ _) (Same.iteP (Same.refl _ _) (Same.mono (State.readSlot_same ..) rfl))))

theorem State.writeBar0_same : ∀ (s : State) a b c d, Same mask9 s (State.writeBar0 s a b c d) := by
  intro s a b c d
  unfold State.writeBar0
  exact (by
    extract_lets +onlyGivenNames -merge x0
    exact (Same.ite (Same.refl _ _) (Same.ite (Same.mono (State.ignored_same ..) rfl) (Same.mono (State.writeSlotWord_same ..) rfl))))

theorem State.writeRing_same : ∀ (s : State) a b c d, Same mask128 s (State.writeRing s a b c d) := by
  intro s a b c d
  unfold State.writeRing
  exact (by
    extract_lets +onlyGivenNames -merge x0 x1
    exact (Same.ite (Same.ite (Same.mono (State.ringEnable_same ..) rfl) (Same.mono (State.ringDisable_same ..) rfl)) (Same.ite (Same.ite (Same.mono (State.setRing_same ..) rfl) (Same.mono (State.setRing_same ..) rfl)) (Same.mono (State.ignored_same ..) rfl))))

theorem State.writeRelease_same : ∀ (s : State) a, Same mask174 s (State.writeRelease s a) := by
  intro s a
  unfold State.writeRelease
  exact (Same.ite (Same.mono (State.portResume_same ..) rfl) (Same.ite (Same.mono (State.portRestart_same ..) rfl) (State.cnt_same _ _ _ rfl)))

theorem State.writeBar2_same : ∀ (s : State) a b c d, Same mask244 s (State.writeBar2 s a b c d) := by
  intro s a b c d
  unfold State.writeBar2
  exact (Same.ite (Same.refl _ _) (by
    split
    · exact (Same.mono (State.writeRing_same ..) rfl)
    · exact (Same.ite (Same.mono (State.bellHostPtr_same ..) rfl) (Same.ite (Same.mono (State.bellHostSeen_same ..) rfl) (Same.mono (State.ignored_same ..) rfl)))
    · exact (Same.ite (Same.mono (State.writeRelease_same ..) rfl) (Same.ite (Same.mono (State.msixWrite_same ..) rfl) (Same.mono (State.ignored_same ..) rfl)))))

theorem State.writeDws_same : ∀ (s : State) a b c d e f g, Same mask48 s (State.writeDws s a b c d e f g) := by
  intro s a b c d e f g
  unfold State.writeDws
  exact (Same.foldl _ (Same.refl _ _) (fun sv _ => (by
    extract_lets +onlyGivenNames -merge x0
    exact (Same.ite (Same.mono (State.writeBar0_same ..) rfl) (Same.mono (State.writeBar2_same ..) rfl)))))

theorem State.hostWrite_same : ∀ (s : State) a b l c d e f, Same mask48 s (State.hostWrite s a b l c d e f) := by
  intro s a b l c d e f
  unfold State.hostWrite
  extract_lets o r
  refine Same.ite (State.postedWrite_same _ rfl _ _ _ (fun u => Same.mono (State.writeDws_same ..) rfl)) ?_
  have h : Same mask48 s r.1 := Same.mono (State.memRequest_same ..) rfl
  exact Same.ite (Same.then h (State.partnerFault_same ..) rfl) h

theorem State.readDws_same : ∀ (s : State) bar o a b n k acc, Same mask186 s (State.readDws s bar o a b n k acc).1 := by
  intro s bar o a b n k acc
  induction k generalizing s acc with
  | zero => exact Same.refl _ _
  | succ k ih =>
    unfold State.readDws
    extract_lets i r
    exact Same.iteP (ih _ _) (Same.iteP (Same.then (Same.mono (State.readBar0_same ..) rfl) (ih _ _) rfl) (ih _ _))

theorem State.hostRead_same : ∀ (s : State) a b c d e f, Same mask251 s (State.hostRead s a b c d e f) := by
  intro s a b c d e f
  unfold State.hostRead
  exact (by
    extract_lets +onlyGivenNames -merge x0 x1 x2
    have h2 : Same mask251 s x2.1 := (Same.mono (State.memRequest_same ..) rfl)
    exact (Same.ite h2 (Same.ite (Same.then h2 (State.completerAbort_same ..) rfl) (Same.ite (Same.then (Same.then h2 (State.governed_same ..) rfl) (State.send_same ..) rfl) (by
      extract_lets +onlyGivenNames -merge x0
      have h0 : Same mask251 s x0.1 := (Same.then h2 (State.readDws_same ..) rfl)
      exact (Same.then h0 (State.send_same ..) rfl))))))

end Sys2Proof.Machine
end

