-- ==== Sys2Proof/Laws/CdpFrames.lean ====
section
/-! SUPPORT. Which parts of the state the operations of Machine/Cdp.lean may change. -/
namespace Sys2Proof.Machine

theorem State.cdpOut_same : ∀ (s : State) a b c, Same 0x2 s (State.cdpOut s a b c) := by
  intro s a b c
  unfold State.cdpOut
  exact (by
    extract_lets +onlyGivenNames -merge x0 x1 x2 x3
    exact (Same.ite (Same.mono (State.send_same ..) rfl) (Same.refl _ _)))

theorem State.reply_same : ∀ (s : State) a b c, Same 0x2 s (State.reply s a b c) := by
  intro s a b c
  unfold State.reply
  exact (Same.mono (State.cdpOut_same ..) rfl)

theorem State.respond_same : ∀ (s : State) r a l, Same 0x800000002 s (State.respond s r a l) := by
  intro s r a l
  unfold State.respond
  extract_lets +onlyGivenNames -merge ws y s1
  have h1 : Same 0x800000002 s s1 := by
    unfold s1
    generalize tfind _ _ = o
    cases o with
    | none => exact Same.refl _ _
    | some x => exact Same.ite (Same.set_net _ (Same.refl _ _) rfl) (Same.refl _ _)
  exact Same.then h1 (State.cdpOut_same ..) rfl

theorem State.respondFit_same : ∀ (s : State) a b, Same mask78 s (State.respondFit s a b) := by
  intro s a b
  unfold State.respondFit
  exact (Same.ite (Same.then (State.cnt_same _ _ _ rfl) (State.respond_same ..) rfl) (Same.mono (State.respond_same ..) rfl))

theorem State.abort_same : ∀ (s : State) a b c, Same mask15 s (State.abort s a b c) := by
  intro s a b c
  unfold State.abort
  exact (by
    extract_lets +onlyGivenNames -merge x0 x1
    have h0 : Same mask15 s x0 := (State.cnt_same _ _ _ rfl)
    have h1 : Same mask15 s x1 := (Same.ite (Same.then h0 (State.partnerFault_same ..) rfl) h0)
    exact (Same.then h1 (State.respond_same ..) rfl))

theorem State.abortEarly_same : ∀ (s : State) a b c, Same mask15 s (State.abortEarly s a b c) := by
  intro s a b c
  unfold State.abortEarly
  exact (by
    extract_lets +onlyGivenNames -merge x0 x1
    have h0 : Same mask15 s x0 := (State.cnt_same _ _ _ rfl)
    have h1 : Same mask15 s x1 := (Same.ite (Same.then h0 (State.partnerFault_same ..) rfl) h0)
    exact (Same.then h1 (State.reply_same ..) rfl))

theorem State.acceptSeq_same : ∀ (s : State) a b c, Same 0x800000000 s (State.acceptSeq s a b c) := by
  intro s a b c
  unfold State.acceptSeq
  exact (by
    extract_lets +onlyGivenNames -merge x0
    exact (Same.set_net _ (Same.refl _ _) rfl))

theorem State.sessionAdmit_same : ∀ (s : State) a b c d e, Same mask15 s (State.sessionAdmit s a b c d e).1 := by
  intro s a b c d e
  unfold State.sessionAdmit
  exact (by
    extract_lets +onlyGivenNames -merge x0
    exact (Same.iteP (Same.mono (State.abortEarly_same ..) rfl) (Same.iteP (Same.mono (State.partnerFault_same ..) rfl) (by
      split
      · exact (Same.iteP (Same.ite (Same.refl _ _) (Same.mono (State.cdpOut_same ..) rfl)) (Same.mono (State.abortEarly_same ..) rfl))
      · exact (Same.mono (State.abortEarly_same ..) rfl)
      · exact (Same.mono (State.abortEarly_same ..) rfl)
      · exact (Same.iteP (Same.mono (State.abortEarly_same ..) rfl) (by
        extract_lets +onlyGivenNames -merge x0
        have h0 : Same mask15 s x0 := (Same.mono (State.acceptSeq_same ..) rfl)
        exact (by
          split
          · exact (Same.then h0 (State.abort_same ..) rfl)
          · exact h0)))))))

theorem State.admitCdp_same : ∀ (s : State) h op k n l, Same mask15 s (State.admitCdp s h op k n l).1 := by
  intro s h op k n l
  have ha : ∀ r a, Same mask15 s (s.abortEarly h r a) := fun _ _ => Same.mono (State.abortEarly_same ..) rfl
  unfold State.admitCdp
  refine Same.iteP (Same.refl _ _) ?_
  extract_lets sess r
  generalize s.headerFails _ _ _ _ = o
  cases o with
  | some a => exact ha _ _
  | none =>
    dsimp only
    refine Same.iteP (Same.iteP (ha _ _) (Same.iteP (ha _ _) ?_)) ?_
    · generalize s.cdpFails _ _ _ _ = o
      cases o with
      | some a => exact ha _ _
      | none => exact Same.refl _ _
    · clear_value sess
      cases sess with
      | none => exact ha _ _
      | some x => exact Same.mono (State.sessionAdmit_same ..) rfl

theorem State.badLength_same : ∀ (s : State) a b, Same mask15 s (State.badLength s a b) := by
  intro s a b
  unfold State.badLength
  exact (Same.mono (State.abort_same ..) rfl)

theorem State.openSession_same : ∀ (s : State) a b, Same mask277 s (State.openSession s a b) := by
  intro s a b
  unfold State.openSession
  exact (Same.ite (Same.mono (State.abort_same ..) rfl) (by
    extract_lets +onlyGivenNames -merge x0 x1 x2 x3 x4
    have h1 : Same mask277 s x1 := (Same.mono (State.draw_same ..) rfl)
    have h4 : Same mask277 s x4 := (Same.set_net _ h1 rfl)
    exact (Same.then (Same.next h4 (State.setPar_same _ _ _ _ rfl)) (State.respond_same ..) rfl)))

theorem State.authKeys_same : ∀ (s : State) h r l, Same mask112 s (State.authKeys s h r l) := by
  intro s h r l
  unfold State.authKeys
  refine Same.ite (Same.mono (State.badLength_same ..) rfl) ?_
  extract_lets +onlyGivenNames -merge given d qd nd z keys t sig s1 y s2
  have h1 : Same mask112 s s1 :=
    Same.then (Same.then (Same.then (Same.mono (State.draw_same ..) rfl) (State.draw_same ..) rfl) (State.draw_same ..) rfl)
      (State.draw_same ..) rfl
  have h2 : Same mask112 s s2 := by
    unfold s2
    generalize tfind _ _ = o
    cases o with
    | none => exact h1
    | some x => exact Same.set_net _ h1 rfl
  exact Same.then h2 (State.respond_same ..) rfl

theorem State.rekey_same : ∀ (s : State) a b, Same 0x800000000 s (State.rekey s a b) := by
  intro s a b
  unfold State.rekey
  exact (by
    extract_lets +onlyGivenNames -merge x0
    exact (Same.set_net _ (Same.refl _ _) rfl))

theorem State.authSign_same : ∀ (s : State) a b c, Same mask15 s (State.authSign s a b c) := by
  intro s a b c
  unfold State.authSign
  exact (Same.ite (Same.mono (State.badLength_same ..) rfl) (by
    split
    · exact (by
      extract_lets +onlyGivenNames -merge x0 x1 x2 x3
      have h1 : Same mask15 s x1 := (Same.set_net _ (Same.refl _ _) rfl)
      exact (Same.ite (Same.then (Same.then h1 (State.respond_same ..) rfl) (State.rekey_same ..) rfl) (Same.then h1 (State.abort_same ..) rfl)))
    · exact (Same.refl _ _)))

theorem State.ownership_same : ∀ (s : State) a b c d, Same mask173 s (State.ownership s a b c d) := by
  intro s a b c d
  unfold State.ownership
  exact (by
    extract_lets +onlyGivenNames -merge x0 x1
    exact (Same.ite (Same.mono (State.badLength_same ..) rfl) (Same.ite (Same.ite (Same.mono (State.abort_same ..) rfl) (Same.ite (Same.then (State.setPar_same _ _ _ _ rfl) (State.respond_same ..) rfl) (Same.mono (State.abort_same ..) rfl))) (by
      extract_lets +onlyGivenNames -merge x0
      exact (Same.then (State.setPar_same _ _ _ _ rfl) (State.respond_same ..) rfl)))))

theorem State.readItem_same : ∀ (s : State) a b c, Same 0x30000000000 s (State.readItem s a b c).1 := by
  intro s a b c
  unfold State.readItem
  exact (Same.foldlP _ (Same.refl _ _) (fun sv _ => (by
    extract_lets +onlyGivenNames -merge x0
    exact (Same.ite (Same.mono (State.loadLatch_same ..) rfl) (Same.refl _ _)))))

theorem State.readDomain_same : ∀ (s : State) a b c d, Same mask15 s (State.readDomain s a b c d) := by
  intro s a b c d
  unfold State.readDomain
  exact (Same.ite (Same.mono (State.badLength_same ..) rfl) (Same.ite (Same.mono (State.abort_same ..) rfl) (by
    extract_lets +onlyGivenNames -merge x0
    exact (Same.mono (State.respondFit_same ..) rfl))))

theorem State.cdpRead_same : ∀ (s : State) a b c, Same mask20 s (State.cdpRead s a b c) := by
  intro s a b c
  unfold State.cdpRead
  exact (by
    split
    · exact (Same.mono (State.badLength_same ..) rfl)
    · exact (by
      extract_lets +onlyGivenNames -merge x0
      exact (by
        split
        · exact (Same.mono (State.abort_same ..) rfl)
        · exact (Same.ite (Same.mono (State.readDomain_same ..) rfl) (Same.ite (Same.mono (State.badLength_same ..) rfl) (by
          extract_lets +onlyGivenNames -merge x0
          have h0 : Same mask20 s x0.1 := (Same.mono (State.readItem_same ..) rfl)
          exact (Same.then h0 (State.respondFit_same ..) rfl)))))))

theorem readMultiItem_same : ∀ p a, Same 0x30000000000 (Prod.fst p) (readMultiItem p a).1 := by
  intro p a
  unfold readMultiItem
  exact (by
    split
    · exact (Same.refl _ _)
    · exact (by
      extract_lets +onlyGivenNames -merge x0
      have h0 : Same 0x30000000000 p.1 x0.1 := (Same.mono (State.readItem_same ..) rfl)
      exact h0))

theorem State.readMulti_same : ∀ (s : State) a b c, Same mask20 s (State.readMulti s a b c) := by
  intro s a b c
  unfold State.readMulti
  exact (by
    extract_lets +onlyGivenNames -merge x0
    exact (Same.ite (Same.mono (State.badLength_same ..) rfl) (Same.ite (Same.mono (State.abort_same ..) rfl) (by
      extract_lets +onlyGivenNames -merge x0
      have h0 : Same mask20 s x0.1 := (Same.foldlP _ (Same.refl _ _) (fun _ _ => Same.mono (readMultiItem_same ..) rfl))
      exact (Same.then h0 (State.respondFit_same ..) rfl)))))

end Sys2Proof.Machine
end

