-- ==== Sys2Proof/Laws/FirmwareFrames.lean ====
section
/-! SUPPORT. Which parts of the state the operations of Machine/Firmware.lean may change. -/
namespace Sys2Proof.Machine

theorem State.setFw_same : ∀ (s : State) a b, Same 0x2000000000 s (State.setFw s a b) := by
  intro s a b
  unfold State.setFw
  exact (Same.set_nv _ (Same.refl _ _) rfl)

theorem State.fwReport_same : ∀ (s : State), Same mask264 s (State.fwReport s) := by
  intro s
  unfold State.fwReport
  exact (Same.foldl _ (Same.refl _ _) (fun sv _ => (by
    extract_lets +onlyGivenNames -merge x0
    exact (Same.next (State.setPar_same _ _ _ _ rfl) (State.setPar_same _ _ _ _ rfl)))))

theorem State.bootCounted_same : ∀ (s : State), Same mask91 s (State.bootCounted s) := by
  intro s
  unfold State.bootCounted
  exact (State.setPar_same _ _ _ _ rfl)

theorem State.runImage_same : ∀ (s : State) a, Same mask21 s (State.runImage s a) := by
  intro s a
  unfold State.runImage
  exact (by
    extract_lets +onlyGivenNames -merge x0 x1
    have h1 : Same mask21 s x1 := (Same.set_nv _ (Same.refl _ _) rfl)
    exact (Same.next (Same.next h1 (State.setPar_same _ _ _ _ rfl)) (State.setPar_same _ _ _ _ rfl)))

theorem State.mpRestart_same : ∀ (s : State) a b, Same mask192 s (State.mpRestart s a b) := by
  intro s a b
  unfold State.mpRestart
  exact (by
    extract_lets +onlyGivenNames -merge x0
    have h0 : Same mask192 s x0 := (Same.then (Same.mono (State.endSessions_same ..) rfl) (State.crossingReset_same ..) rfl)
    exact (Same.next (Same.set_nv _ h0 rfl) (State.setPar_same _ _ _ _ rfl)))

theorem State.fwFails_same : ∀ (s : State) a, Same mask207 s (State.fwFails s a).1 := by
  intro s a
  unfold State.fwFails
  exact (Same.then (Same.next (Same.next (Same.set_nv _ (Same.refl _ _) rfl) (State.setPar_same _ _ _ _ rfl)) (State.setPar_same _ _ _ _ rfl)) (State.result_same ..) rfl)

theorem State.stageEnd_same : ∀ (s : State) a, Same mask103 s (State.stageEnd s a).1 := by
  intro s a
  unfold State.stageEnd
  exact (by
    extract_lets +onlyGivenNames -merge x0 x1
    exact (by
      split
      · exact (Same.mono (State.fwFails_same ..) rfl)
      · exact (by
        extract_lets +onlyGivenNames -merge x0 x1 x2
        have h0 : Same mask103 s x0 := (Same.mono (State.setFw_same ..) rfl)
        have h2 : Same mask103 s x2 := (Same.set_nv _ h0 rfl)
        exact (Same.then (Same.next (Same.next (Same.then h2 (State.fwReport_same ..) rfl) (State.setPar_same _ _ _ _ rfl)) (State.setPar_same _ _ _ _ rfl)) (State.result_same ..) rfl))))

theorem State.stageSegment_same : ∀ (s : State) a b c d, Same mask103 s (State.stageSegment s a b c d).1 := by
  intro s a b c d
  unfold State.stageSegment
  exact (Same.iteP (Same.mono (State.result_same ..) rfl) (Same.iteP (Same.iteP (Same.mono (State.result_same ..) rfl) (by
    extract_lets +onlyGivenNames -merge x0 x1 x2
    have h0 : Same mask103 s x0 := (Same.next (Same.next (Same.then (Same.mono (State.setFw_same ..) rfl) (State.fwReport_same ..) rfl) (State.setPar_same _ _ _ _ rfl)) (State.setPar_same _ _ _ _ rfl))
    have h2 : Same mask103 s x2 := (Same.set_nv _ h0 rfl)
    exact (Same.iteP (Same.then h2 (State.stageEnd_same ..) rfl) h2))) (by
    split
    · exact (Same.iteP (Same.mono (State.result_same ..) rfl) (by
      extract_lets +onlyGivenNames -merge x0 x1 x2 x3
      have h1 : Same mask103 s x1 := (Same.mono (State.setFw_same ..) rfl)
      have h3 : Same mask103 s x3 := (Same.set_nv _ h1 rfl)
      exact (Same.iteP (Same.then h3 (State.stageEnd_same ..) rfl) h3)))
    · exact (Same.mono (State.result_same ..) rfl))))

theorem State.activate_same : ∀ (s : State) a b, Same mask77 s (State.activate s a b) := by
  intro s a b
  unfold State.activate
  exact (by
    extract_lets +onlyGivenNames -merge x0 x1
    exact (by
      split
      · exact (Same.next (Same.mono (State.result_same ..) rfl) (State.setPar_same _ _ _ _ rfl))
      · exact (by
        extract_lets +onlyGivenNames -merge x0
        have h0 : Same mask77 s x0 := (Same.then (Same.then (Same.mono (State.setFw_same ..) rfl) (State.mpRestart_same ..) rfl) (State.runImage_same ..) rfl)
        exact (Same.then (Same.next (Same.then h0 (State.bootCounted_same ..) rfl) (State.setPar_same _ _ _ _ rfl)) (State.result_same ..) rfl))))

theorem State.revert_same : ∀ (s : State), Same mask19 s (State.revert s) := by
  intro s
  unfold State.revert
  exact (by
    extract_lets +onlyGivenNames -merge x0 x1 x2
    have h2 : Same mask19 s x2 := (Same.then (Same.mono (State.setFw_same ..) rfl) (State.runImage_same ..) rfl)
    exact (Same.next (Same.next h2 (State.setPar_same _ _ _ _ rfl)) (State.setPar_same _ _ _ _ rfl)))

theorem State.refreshFw_same : ∀ (s : State), Same mask254 s (State.refreshFw s) := by
  intro s
  unfold State.refreshFw
  exact (by
    extract_lets +onlyGivenNames -merge x0 x1
    exact (Same.ite (by
      extract_lets +onlyGivenNames -merge x0 x1
      have h1 : Same mask254 s x1 := (Same.mono (State.setFw_same ..) rfl)
      exact (Same.next (Same.then (Same.next h1 (State.setPar_same _ _ _ _ rfl)) (State.fwReport_same ..) rfl) (State.setPar_same _ _ _ _ rfl))) (Same.refl _ _)))

end Sys2Proof.Machine
end

