-- ==== Sys2Proof/Laws/CdpWriteFrames.lean ====
section
/-! SUPPORT. Which parts of the state the operations of Machine/CdpWrite.lean may change. -/
namespace Sys2Proof.Machine

theorem State.putFails_same : ∀ (s : State) m b x r, s.putFails m b x = some r → Same mask6 s r.2 := by
  intro s m b x r h
  unfold State.putFails at h
  split at h
  · injection h with h; exact h ▸ Same.refl _ _
  · split at h
    · injection h with h; exact h ▸ Same.refl _ _
    · split at h
      · obtain ⟨e, _, h⟩ := Option.map_eq_some_iff.mp h
        exact h ▸ Same.mono (State.refuseBroadcast_same ..) rfl
      · obtain ⟨e, _, h⟩ := Option.map_eq_some_iff.mp h
        exact h ▸ Same.mono (State.refuseWrite_same ..) rfl

theorem State.putsFail_same : ∀ (s : State) m b l r, s.putsFail m b l = some r → Same mask6 s r.2 := by
  intro s m b l r h
  obtain ⟨x, _, hx⟩ := List.exists_of_findSome?_eq_some h
  exact State.putFails_same _ _ _ _ _ hx

theorem State.put_same : ∀ (s : State) a b, Same mask9 s (State.put a s b) := by
  intro s a b
  unfold State.put
  exact (Same.ite (Same.mono (State.acceptBroadcast_same ..) rfl) (Same.mono (State.takeWrite_same ..) rfl))

theorem State.putAll_same : ∀ (s : State) a b c, Same mask232 s (State.putAll s a b c) := by
  intro s a b c
  unfold State.putAll
  exact (by
    extract_lets +onlyGivenNames -merge x0 x1
    have h0 : Same mask232 s x0 := (Same.foldl _ (Same.refl _ _) (fun _ _ => Same.mono (State.put_same ..) rfl))
    exact (Same.ite (Same.then h0 (State.respond_same ..) rfl) (by
      extract_lets +onlyGivenNames -merge x0 x1
      exact (Same.set_net _ h0 rfl))))

theorem State.putOrAbort_same : ∀ (s : State) h r l, Same mask48 s (State.putOrAbort s h r l) := by
  intro s h r l
  unfold State.putOrAbort
  cases l with
  | inr a => exact Same.mono (State.abort_same ..) rfl
  | inl m =>
    dsimp only
    generalize ho : s.putsFail _ _ _ = o
    cases o with
    | none => exact Same.mono (State.putAll_same ..) rfl
    | some f => exact Same.then (Same.mono (State.putsFail_same _ _ _ _ _ ho) rfl) (State.abort_same ..) rfl

theorem State.writeKey_same : ∀ (s : State) a b c d, Same mask113 s (State.writeKey s a b c d) := by
  intro s a b c d
  unfold State.writeKey
  exact (by
    extract_lets +onlyGivenNames -merge x0 x1 x2
    exact (Same.ite (Same.mono (State.abort_same ..) rfl) (Same.ite (Same.mono (State.abort_same ..) rfl) (Same.ite (Same.mono (State.abort_same ..) rfl) (Same.ite (Same.mono (State.abort_same ..) rfl) (Same.ite (Same.mono (State.abort_same ..) rfl) (Same.ite (Same.mono (State.abort_same ..) rfl) (by
      extract_lets +onlyGivenNames -merge x0
      exact (Same.then (Same.set_nv _ (Same.refl _ _) rfl) (State.respond_same ..) rfl)))))))))

theorem State.cdpWrite_same : ∀ (s : State) a b c, Same mask48 s (State.cdpWrite s a b c) := by
  intro s a b c
  unfold State.cdpWrite
  exact (by
    split
    · exact (Same.mono (State.badLength_same ..) rfl)
    · exact (by
      extract_lets +onlyGivenNames -merge x0
      exact (by
        split
        · exact (Same.mono (State.abort_same ..) rfl)
        · exact (Same.ite (Same.mono (State.writeKey_same ..) rfl) (Same.mono (State.putOrAbort_same ..) rfl)))))

theorem State.writeMulti_same : ∀ (s : State) a b c, Same mask48 s (State.writeMulti s a b c) := by
  intro s a b c
  unfold State.writeMulti
  exact (by
    split
    · exact (Same.mono (State.badLength_same ..) rfl)
    · exact (Same.mono (State.putOrAbort_same ..) rfl))

theorem State.cdpEnable_same : ∀ (s : State) a b c d, Same mask48 s (State.cdpEnable s a b c d) := by
  intro s a b c d
  unfold State.cdpEnable
  exact (Same.ite (Same.mono (State.badLength_same ..) rfl) (Same.mono (State.putOrAbort_same ..) rfl))

theorem State.answerHeld_same : ∀ (s : State) a, Same mask78 s (State.answerHeld s a) := by
  intro s a
  unfold State.answerHeld
  exact (by
    split
    · exact (Same.mono (State.respond_same ..) rfl)
    · exact (by
      extract_lets +onlyGivenNames -merge x0
      exact (Same.then (State.cnt_same _ _ _ rfl) (State.respond_same ..) rfl)))

theorem State.cdpSave_same : ∀ (s : State) a b c, Same mask14 s (State.cdpSave s a b c) := by
  intro s a b c
  unfold State.cdpSave
  exact (Same.ite (Same.mono (State.badLength_same ..) rfl) (by
    extract_lets +onlyGivenNames -merge x0
    have h0 : Same mask14 s x0.1 := (Same.mono (State.save_same ..) rfl)
    exact (by
      split
      · exact (Same.then h0 (State.abort_same ..) rfl)
      · exact h0)))

theorem State.cdpLoad_same : ∀ (s : State) a b c, Same mask201 s (State.cdpLoad s a b c) := by
  intro s a b c
  unfold State.cdpLoad
  exact (by
    extract_lets +onlyGivenNames -merge x0
    exact (Same.ite (Same.mono (State.badLength_same ..) rfl) (Same.ite (Same.mono (State.abort_same ..) rfl) (by
      extract_lets +onlyGivenNames -merge x0
      have h0 : Same mask201 s x0.1 := (Same.mono (State.load_same ..) rfl)
      exact (by
        split
        · exact (Same.then h0 (State.abort_same ..) rfl)
        · exact (Same.ite (Same.then h0 (State.respond_same ..) rfl) (by
          extract_lets +onlyGivenNames -merge x0 x1
          have h1 : Same mask201 s x1 := h0
          exact (Same.set_net _ h1 rfl))))))))

theorem State.cdpStage_same : ∀ (s : State) a b c, Same mask234 s (State.cdpStage s a b c) := by
  intro s a b c
  unfold State.cdpStage
  exact (by
    extract_lets +onlyGivenNames -merge x0 x1 x2
    exact (Same.ite (Same.mono (State.badLength_same ..) rfl) (by
      extract_lets +onlyGivenNames -merge x0
      have h0 : Same mask234 s x0.1 := (Same.mono (State.stageSegment_same ..) rfl)
      exact (by
        split
        · exact (Same.then h0 (State.abort_same ..) rfl)
        · exact (Same.then h0 (State.respond_same ..) rfl)))))

theorem State.cdpActivate_same : ∀ (s : State) a b c d e, Same mask165 s (State.cdpActivate s a b c d e) := by
  intro s a b c d e
  unfold State.cdpActivate
  exact (Same.ite (Same.mono (State.badLength_same ..) rfl) (by
    split
    · exact (Same.then (Same.mono (State.result_same ..) rfl) (State.abort_same ..) rfl)
    · exact (Same.then (Same.mono (State.respond_same ..) rfl) (State.activate_same ..) rfl)))

theorem State.answerSave_same : ∀ (s : State) a b, Same mask78 s (State.answerSave s a b) := by
  intro s a b
  unfold State.answerSave
  exact (by
    split
    · exact (Same.mono (State.respond_same ..) rfl)
    · exact (Same.then (State.cnt_same _ _ _ rfl) (State.respond_same ..) rfl)
    · exact (Same.refl _ _))

end Sys2Proof.Machine
end

