-- ==== Sys2Proof/Laws/ConfigEffectFrames.lean ====
section
/-! SUPPORT. Which parts of the state the operations of Machine/ConfigEffect.lean may change. -/
namespace Sys2Proof.Machine

theorem State.routeConflict_same : ∀ (s : State) a b c, Same 0x800000000 s (State.routeConflict s a b c) := by
  intro s a b c
  unfold State.routeConflict
  exact (by
    extract_lets +onlyGivenNames -merge x0
    exact (Same.set_net _ (Same.refl _ _) rfl))

theorem State.routed_same (m : Nat) (hm : mask276 ||| m = m) : ∀ (s : State) e ix sub slot p on act,
    (∀ u, Same m u (act u)) → Same m s (State.routed s e ix sub slot p on act).1 := by
  intro s e ix sub slot p on act h
  unfold State.routed
  generalize s.routeCheck _ _ = o
  cases o with
  | some f =>
    dsimp only
    exact Same.mono (Same.then (Same.mono (State.routeRefused_same ..) rfl : Same mask276 _ _) (State.routeConflict_same ..) rfl) hm
  | none => exact Same.then (Same.mono (State.setAt_same _ _ _ _ _ (setAtIn_of (inM_all _ rfl) rfl) : Same mask276 _ _) hm) (h _) (Nat.or_self m)

theorem State.laneSwitch_same : ∀ (s : State) e l k v, Same mask274 s (State.laneSwitch s e l k v).1 := by
  intro s e l k v
  refine Same.iteP (Same.then (State.setAt_same _ _ _ _ _ rfl) (State.laneDisable_same ..) rfl) ?_
  exact State.routed_same _ rfl _ _ _ _ _ _ _ _ (fun u => Same.mono (State.laneEnable_same ..) rfl)

theorem State.exSwitch_same : ∀ (s : State) e k v, Same mask267 s (State.exSwitch s e k v).1 := by
  intro s e k v
  have h0 : ∀ i j w o, setAtIn mask267 i = true → Same mask267 s ((s.setAt e i j w).exEnableEffect k o e) :=
    fun _ _ _ _ h => Same.then (State.setAt_same _ _ _ _ _ h) (State.exEnableEffect_same ..) rfl
  refine Same.iteP ?_ ?_
  · dsimp only
    exact h0 _ _ _ _ (setAtIn_of (inM_exIx _ rfl) rfl)
  exact State.routed_same _ rfl _ _ _ _ _ _ _ _ (fun u => Same.mono (State.exEnableEffect_same ..) rfl)

theorem State.biasSwitch_same : ∀ (s : State) e p v, Same mask181 s (State.biasSwitch s e p v).1 := by
  intro s e p v
  refine Same.iteP (Same.then (State.setAt_same _ _ _ _ _ rfl) (State.settleLanes_same ..) rfl) ?_
  exact State.routed_same _ rfl _ _ _ _ _ _ _ _ (fun u => Same.mono (State.settleLanes_same ..) rfl)

theorem State.toneSwitch_same : ∀ (s : State) e p v, Same mask287 s (State.toneSwitch s e p v).1 := by
  intro s e p v
  refine Same.iteP (Same.set_tone _ (State.setAt_same _ _ _ _ _ rfl) rfl) ?_
  exact State.routed_same _ rfl _ _ _ _ _ _ _ _ (fun u => Same.refl _ u)

theorem State.stopLoad_same : ∀ (s : State), Same mask89 s (State.stopLoad s) := by
  intro s
  unfold State.stopLoad
  exact (Same.ite (Same.mono (State.cancelLoad_same ..) rfl) (Same.refl _ _))

theorem State.unitSwitch_same : ∀ (s : State) a b c, Same mask225 s (State.unitSwitch s a b c).1 := by
  intro s a b c
  unfold State.unitSwitch
  exact (Same.iteP (Same.then (State.setAt_same _ _ _ _ _ rfl) (State.store_same ..) rfl) (by
    split
    · exact (Same.mono (State.keyRefused_same ..) rfl)
    · exact (Same.then (State.setAt_same _ _ _ _ _ rfl) (State.store_same ..) rfl)))

theorem State.seqSwitch_same : ∀ (s : State) a b c, Same mask184 s (State.seqSwitch s a b c).1 := by
  intro s a b c
  unfold State.seqSwitch
  exact (Same.iteP (Same.then (Same.next (State.setAt_same _ _ _ _ _ rfl) (State.setPar_same _ _ _ _ rfl)) (State.store_same ..) rfl) (by
    split
    · exact (Same.mono (State.keyRefused_same ..) rfl)
    · exact (Same.then (Same.next (Same.mono (State.stopLoad_same ..) rfl) (State.setAt_same _ _ _ _ _ rfl)) (State.store_same ..) rfl)))

theorem State.armSwitch_same : ∀ (s : State) a b c, Same mask73 s (State.armSwitch s a b c).1 := by
  intro s a b c
  unfold State.armSwitch
  exact (by
    extract_lets +onlyGivenNames -merge x0
    exact (Same.iteP (Same.ite (State.cnt_same _ _ _ rfl) (Same.refl _ _)) (Same.then (State.setAt_same _ _ _ _ _ rfl) (State.store_same ..) rfl)))

theorem State.scribble_same : ∀ (s : State) a, Same 0x100000000 s (State.scribble s a) := by
  intro s a
  unfold State.scribble
  exact (Same.ite (Same.refl _ _) (Same.set_dram _ (Same.refl _ _) rfl))

theorem State.tellStream_same : ∀ (s : State) a b c, Same mask22 s (State.tellStream a b c s) := by
  intro s a b c
  unfold State.tellStream
  exact (by
    extract_lets +onlyGivenNames -merge x0
    exact (Same.mono (State.emitItem_same ..) rfl))

theorem State.streamStarts_same : ∀ (s : State) a b c, Same mask51 s (State.streamStarts s a b c) := by
  intro s a b c
  unfold State.streamStarts
  exact (by
    extract_lets +onlyGivenNames -merge x0 x1
    have h0 : Same mask51 s x0 := (Same.then (Same.next (State.setPar_same _ _ _ _ rfl) (State.setPar_same _ _ _ _ rfl)) (State.store_same ..) rfl)
    have h1 : Same mask51 s x1 := (Same.then (Same.then (Same.then h0 (State.emitStart_same ..) rfl) (State.tellStream_same ..) rfl) (State.tellStream_same ..) rfl)
    exact (Same.ite (Same.then h1 (State.emitItem_same ..) rfl) h1))

theorem streamRuns_same : ∀ (m : Nat) (s : State) e n (r : State × Bool), mask288 ||| m = m → Same m s r.1 →
    Same m s (streamRuns e n r).1 := by
  intro m s e n r hm h
  have hc : ∀ v o, Same m s v → Same m s (v.streamStarts e n o) :=
    fun v o h => Same.then h (Same.mono (State.streamStarts_same v e n o) rfl : Same mask288 _ _) hm
  refine Same.iteP ?_ h
  dsimp only
  exact hc _ _ (Same.then h (Same.next (Same.mono (State.stopLoad_same ..) rfl) (State.setAt_same _ _ _ _ _ rfl) : Same mask288 _ _) hm)

theorem State.streamSwitch_same : ∀ (s : State) e n v, Same mask263 s (State.streamSwitch s e n v).1 := by
  intro s e n v
  unfold State.streamSwitch
  exact Same.iteP (Same.then (Same.next (State.setAt_same _ _ _ _ _ rfl) (State.setPar_same _ _ _ _ rfl)) (State.store_same ..) rfl)
    (streamRuns_same _ _ _ _ _ rfl (Same.mono (State.streamRegions_same ..) rfl))

theorem State.caiStarts_same : ∀ (m : Nat) (s u : State) e n (r : State × Bool), mask118 ||| m = m → Same m s r.1 →
    Same m s (State.caiStarts u e n r).1 := by
  intro m s u e n r hm h
  have hc : ∀ v o, Same m s v → Same m s (v.caiEnableEffect n o e) :=
    fun v o h => Same.then h (Same.mono (State.caiEnableEffect_same v n o e) rfl : Same mask118 _ _) hm
  refine Same.iteP ?_ h
  dsimp only
  exact hc _ _ (Same.then h (Same.then (State.setAt_same _ _ _ _ _ rfl) (State.scribble_same ..) rfl : Same mask118 _ _) hm)

theorem State.caiSwitch_same : ∀ (s : State) e n v, Same mask300 s (State.caiSwitch s e n v).1 := by
  intro s e n v
  have hc : ∀ u o, Same mask300 s u → Same mask300 s (u.caiEnableEffect n o e) := fun _ _ h => Same.then h (State.caiEnableEffect_same ..) rfl
  unfold State.caiSwitch
  refine Same.iteP ?_ (State.caiStarts_same _ _ _ _ _ _ rfl (Same.mono (State.caiRegions_same ..) rfl))
  dsimp only
  exact hc _ _ (State.setAt_same _ _ _ _ _ rfl)

theorem State.lineInSwitch_same : ∀ (s : State) a b c, Same mask233 s (State.lineInSwitch s a b c).1 := by
  intro s a b c
  unfold State.lineInSwitch
  exact (by
    extract_lets +onlyGivenNames -merge x0 x1
    have h1 : Same mask233 s x1 := (State.setAt_same _ _ _ _ _ rfl)
    exact (Same.iteP (Same.then (Same.then h1 (State.setRun_same ..) rfl) (State.store_same ..) rfl) (Same.then (Same.then h1 (State.setRun_same ..) rfl) (State.store_same ..) rfl)))

theorem State.plainEffect_same : ∀ (s : State) a b c d e, Same mask180 s (State.plainEffect s a b c d e) := by
  intro s a b c d e
  unfold State.plainEffect
  exact (Same.ite (Same.mono (State.outEnableEffect_same ..) rfl) (Same.ite (Same.mono (State.outEnableEffect_same ..) rfl) (Same.ite (Same.mono (State.exChange_same ..) rfl) (Same.ite (Same.mono (State.exChange_same ..) rfl) (Same.ite (Same.mono (State.overlapCancel_same ..) rfl) (Same.ite (Same.mono (State.servoEffect_same ..) rfl) (Same.refl _ _)))))))

theorem State.takeChange_same : ∀ (s : State) a b c d e, Same mask12 s (State.takeChange s a b c d e).1 := by
  intro s a b c d e
  unfold State.takeChange
  exact (by
    extract_lets +onlyGivenNames -merge x0
    exact (Same.iteP (Same.mono (State.armSwitch_same ..) rfl) (Same.iteP (Same.refl _ _) (Same.iteP (Same.mono (State.laneSwitch_same ..) rfl) (Same.iteP (Same.mono (State.exSwitch_same ..) rfl) (Same.iteP (Same.mono (State.exSwitch_same ..) rfl) (Same.iteP (Same.mono (State.biasSwitch_same ..) rfl) (Same.iteP (Same.mono (State.toneSwitch_same ..) rfl) (Same.iteP (Same.mono (State.unitSwitch_same ..) rfl) (Same.iteP (Same.mono (State.seqSwitch_same ..) rfl) (Same.iteP (Same.mono (State.streamSwitch_same ..) rfl) (Same.iteP (Same.mono (State.caiSwitch_same ..) rfl) (Same.iteP (Same.mono (State.lineInSwitch_same ..) rfl) (Same.then (State.setAt_same _ _ _ _ _ (setAtIn_of (inM_all _ rfl) rfl)) (State.plainEffect_same ..) rfl))))))))))))))

theorem State.rwlChange_same : ∀ (s : State) a b, Same mask12 s (State.rwlChange s a b) := by
  intro s a b
  unfold State.rwlChange
  exact (Same.ite (by
    extract_lets +onlyGivenNames -merge x0
    have h0 : Same mask12 s x0.1 := (Same.foldlP _ (Same.refl _ _) (fun sv _ => (by
        extract_lets +onlyGivenNames -merge x0
        have h0 : Same mask12 sv.1 x0.1 := (Same.mono (State.takeChange_same ..) rfl)
        exact h0)))
    exact (Same.ite (Same.then h0 (State.tellConfig_same ..) rfl) h0)) (Same.ite (by
    extract_lets +onlyGivenNames -merge x0
    have h0 : Same mask12 s x0.1 := (Same.mono (State.takeChange_same ..) rfl)
    exact (Same.ite (Same.then h0 (State.tellConfig_same ..) rfl) h0)) (Same.refl _ _)))

theorem State.commitValue_same : ∀ (s : State) a b c, Same mask41 s (State.commitValue a b s c) := by
  intro s a b c
  unfold State.commitValue
  exact (by
    split
    · exact (by
      extract_lets +onlyGivenNames -merge x0
      have h0 : Same mask41 s x0 := (Same.set_staged _ (Same.refl _ _) rfl)
      exact (Same.ite h0 (Same.then (Same.next h0 (State.setAt_same _ _ _ _ _ (setAtIn_of (inM_all _ rfl) rfl))) (State.tellConfig_same ..) rfl)))
    · exact (Same.refl _ _))

theorem State.calCommit_same : ∀ (s : State) a b, Same mask41 s (State.calCommit a s b) := by
  intro s a b
  unfold State.calCommit
  exact (Same.foldl _ (Same.refl _ _) (fun _ _ => Same.mono (State.commitValue_same ..) rfl))

theorem State.commandReset_same : ∀ (s : State) a b c, Same mask62 s (State.commandReset s a b c) := by
  intro s a b c
  unfold State.commandReset
  exact (by
    split
    · exact (Same.mono (State.caCause_same ..) rfl)
    · exact (Same.then (Same.then (Same.mono (State.draw_same ..) rfl) (State.draw_same ..) rfl) (State.caCause_same ..) rfl))

theorem State.restartStream_same : ∀ (s : State) a b, Same mask51 s (State.restartStream s a b) := by
  intro s a b
  unfold State.restartStream
  exact (Same.ite (Same.mono (State.streamStarts_same ..) rfl) (Same.refl _ _))

theorem State.boundaryEffect_same : ∀ (s : State) a b, Same mask26 s (State.boundaryEffect s a b) := by
  intro s a b
  unfold State.boundaryEffect
  exact (Same.ite (Same.mono (State.commandReset_same ..) rfl) (Same.ite (Same.mono (State.commandReset_same ..) rfl) (Same.ite (Same.ite (Same.foldl _ (Same.refl _ _) (fun _ _ => Same.mono (State.calCommit_same ..) rfl)) (Same.mono (State.calCommit_same ..) rfl)) (Same.ite (Same.mono (State.restartStream_same ..) rfl) (Same.refl _ _)))))

theorem State.changeEffect_same : ∀ (s : State) a b, Same mask144 s (State.changeEffect a s b) := by
  intro s a b
  unfold State.changeEffect
  exact (Same.ite (Same.mono (State.boundaryEffect_same ..) rfl) (Same.mono (State.rwlChange_same ..) rfl))

theorem State.boundary_same : ∀ (s : State) a b, Same mask144 s (State.boundary a s b) := by
  intro s a b
  unfold State.boundary
  exact (by
    extract_lets +onlyGivenNames -merge x0 x1 x2 x3
    have h2 : Same mask144 s x2 := (Same.set_cw _ (Same.refl _ _) rfl)
    exact (Same.foldl _ h2 (fun _ _ => Same.mono (State.changeEffect_same ..) rfl)))

end Sys2Proof.Machine
end

