-- ==== Sys2Proof/Laws/EthernetFrames.lean ====
section
/-! SUPPORT. Which parts of the state the operations of Machine/Ethernet.lean may change. -/
namespace Sys2Proof.Machine

theorem State.forwardFrame_same : ∀ (s : State) a b, Same 0x2 s (State.forwardFrame s a b) := by
  intro s a b
  unfold State.forwardFrame
  exact (Same.ite (Same.mono (State.send_same ..) rfl) (Same.refl _ _))

theorem State.testFrame_same : ∀ (s : State) a, Same mask230 s (State.testFrame s a) := by
  intro s a
  unfold State.testFrame
  exact (Same.ite (by
    extract_lets +onlyGivenNames -merge x0
    have h0 : Same mask230 s x0 := (State.setPar_same _ _ _ _ rfl)
    exact (Same.set_net _ h0 rfl)) (Same.refl _ _))

theorem State.esmcLevel_same : ∀ (s : State) a b, Same mask8 s (State.esmcLevel s a b) := by
  intro s a b
  unfold State.esmcLevel
  exact (by
    extract_lets +onlyGivenNames -merge x0
    have h0 : Same mask8 s x0 := (State.setPar_same _ _ _ _ rfl)
    exact (Same.ite (Same.then h0 (State.autoRef_same ..) rfl) h0))

theorem State.answerFrame_same : ∀ (s : State) a b, Same 0x2 s (State.answerFrame s a b) := by
  intro s a b
  unfold State.answerFrame
  exact (by
    extract_lets +onlyGivenNames -merge x0
    exact (Same.ite (Same.refl _ _) (Same.ite (Same.mono (State.send_same ..) rfl) (Same.refl _ _))))

theorem State.cdpStray_same : ∀ (s : State) a b c, Same mask15 s (State.cdpStray s a b c) := by
  intro s a b c
  unfold State.cdpStray
  exact (by
    extract_lets +onlyGivenNames -merge x0 x1
    have h1 : Same mask15 s x1.1 := (Same.mono (State.admitCdp_same ..) rfl)
    exact (by
      split
      · exact (Same.then h1 (State.abort_same ..) rfl)
      · exact h1))

theorem State.takeFrame_same : ∀ (s : State) a b, Same mask129 s (State.takeFrame s a b) := by
  intro s a b
  unfold State.takeFrame
  exact (by
    extract_lets +onlyGivenNames -merge x0
    exact (by
      split
      · exact (Same.refl _ _)
      · exact (Same.mono (State.testFrame_same ..) rfl)
      · exact (Same.mono (State.esmcLevel_same ..) rfl)
      · exact (Same.ite (Same.mono (State.answerFrame_same ..) rfl) (Same.refl _ _))
      · exact (Same.ite (Same.mono (State.partnerFault_same ..) rfl) (Same.refl _ _))
      · exact (Same.mono (State.cdpStray_same ..) rfl)
      · exact (Same.refl _ _)
      · exact (Same.refl _ _)))

end Sys2Proof.Machine
end

