-- ==== Sys2Proof/Laws/EventsFrames.lean ====
section
/-! SUPPORT. Which parts of the state the operations of Machine/Events.lean may change. -/
namespace Sys2Proof.Machine

theorem State.eventOut_same : ∀ (s : State) a b c, Same 0x2 s (State.eventOut s a b c) := by
  intro s a b c
  unfold State.eventOut
  exact (Same.mono (State.cdpOut_same ..) rfl)

theorem State.event_same : ∀ (s : State) a b c d e, Same 0x800000002 s (State.event s a b c d e) := by
  intro s a b c d e
  unfold State.event
  exact (by
    extract_lets +onlyGivenNames -merge x0 x1
    exact (Same.then (Same.set_net _ (Same.refl _ _) rfl) (State.eventOut_same ..) rfl))

theorem State.setSub_same : ∀ (s : State) a b, Same 0x800000000 s (State.setSub s a b) := by
  intro s a b
  unfold State.setSub
  exact (Same.set_net _ (Same.refl _ _) rfl)

theorem State.offer_same : ∀ (s : State) a b, Same 0x800000002 s (State.offer s a b) := by
  intro s a b
  unfold State.offer
  exact (by
    split
    · exact (Same.ite (Same.then (Same.mono (State.setSub_same ..) rfl) (State.event_same ..) rfl) (Same.mono (State.setSub_same ..) rfl))
    · exact (Same.refl _ _))

theorem State.offerWaiting_same : ∀ (s : State) a, Same 0x800000002 s (State.offerWaiting s a) := by
  intro s a
  unfold State.offerWaiting
  exact (by
    extract_lets +onlyGivenNames -merge x0
    exact (Same.foldl _ (Same.refl _ _) (fun sv _ => (Same.mono (State.offer_same ..) rfl))))

theorem State.outletCarries_same : ∀ (s : State) a b, Same 0x800000000 s (State.outletCarries s a b) := by
  intro s a b
  unfold State.outletCarries
  exact (Same.set_net _ (Same.refl _ _) rfl)

theorem State.outletRead_same : ∀ (s : State) a b c, Same mask94 s (State.outletRead s a b c).1 := by
  intro s a b c
  unfold State.outletRead
  exact (Same.iteP (Same.refl _ _) (by
    extract_lets +onlyGivenNames -merge x0 x1
    have h0 : Same mask94 s x0.1 := (Same.mono (State.sramFrame_same ..) rfl)
    exact (Same.then h0 (State.setStream_same ..) rfl)))

theorem State.sendSegment_same : ∀ (s : State) a b c d, Same 0x800000002 s (State.sendSegment s a b c d) := by
  intro s a b c d
  unfold State.sendSegment
  exact (by
    extract_lets +onlyGivenNames -merge x0 x1 x2 x3 x4
    exact (Same.then (Same.then (Same.mono (State.outletCarries_same ..) rfl) (State.setSub_same ..) rfl) (State.event_same ..) rfl))

theorem State.sendAlert_same : ∀ (s : State) a b c, Same 0x800000002 s (State.sendAlert s a b c) := by
  intro s a b c
  unfold State.sendAlert
  exact (by
    split
    · exact (Same.then (Same.set_net _ (Same.refl _ _) rfl) (State.event_same ..) rfl)
    · exact (Same.refl _ _))

theorem State.frameTaken_same : ∀ (s : State) a, Same 0x820000000 s (State.frameTaken s a) := by
  intro s a
  unfold State.frameTaken
  exact (by
    extract_lets +onlyGivenNames -merge x0 x1
    exact (Same.then (Same.then (Same.set_net _ (Same.refl _ _) rfl) (State.setStream_same ..) rfl) (State.drainTail_same ..) rfl))

theorem State.ackEvents_same : ∀ (s : State) a b, Same 0x820000002 s (State.ackEvents s a b) := by
  intro s a b
  unfold State.ackEvents
  exact (by
    split
    · exact (by
      extract_lets +onlyGivenNames -merge x0
      exact (Same.ite (Same.refl _ _) (by
        extract_lets +onlyGivenNames -merge x0 x1 x2
        have h2 : Same 0x820000002 s x2 := (Same.set_net _ (Same.refl _ _) rfl)
        exact (Same.then (Same.foldl _ h2 (fun _ _ => Same.mono (State.frameTaken_same ..) rfl)) (State.offerWaiting_same ..) rfl))))
    · exact (Same.refl _ _))

theorem State.subscribe_same : ∀ (s : State) a b c, Same mask15 s (State.subscribe s a b c) := by
  intro s a b c
  unfold State.subscribe
  exact (by
    split
    · exact (Same.mono (State.abort_same ..) rfl)
    · exact (Same.then (Same.mono (State.setSub_same ..) rfl) (State.respond_same ..) rfl))

theorem State.subscribeParams_same : ∀ (s : State) a b c d, Same mask15 s (State.subscribeParams s a b c d) := by
  intro s a b c d
  unfold State.subscribeParams
  exact (by
    extract_lets +onlyGivenNames -merge x0 x1 x2
    exact (Same.ite (Same.mono (State.badLength_same ..) rfl) (Same.ite (Same.mono (State.abort_same ..) rfl) (by
      split
      · exact (Same.mono (State.abort_same ..) rfl)
      · exact (Same.ite (Same.mono (State.abort_same ..) rfl) (Same.mono (State.subscribe_same ..) rfl))))))

theorem State.subscribeStream_same : ∀ (s : State) a b c, Same mask27 s (State.subscribeStream s a b c) := by
  intro s a b c
  unfold State.subscribeStream
  exact (by
    extract_lets +onlyGivenNames -merge x0
    exact (Same.ite (Same.mono (State.badLength_same ..) rfl) (Same.ite (Same.mono (State.abort_same ..) rfl) (Same.ite (Same.mono (State.abort_same ..) rfl) (by
      extract_lets +onlyGivenNames -merge x0
      exact (Same.then (Same.mono (State.setStream_same ..) rfl) (State.subscribe_same ..) rfl))))))

theorem State.cancelSub_same : ∀ (s : State) a b c, Same mask27 s (State.cancelSub s a b c) := by
  intro s a b c
  unfold State.cancelSub
  exact (by
    extract_lets +onlyGivenNames -merge x0
    exact (Same.ite (Same.mono (State.badLength_same ..) rfl) (by
      split
      · exact (Same.ite (Same.then (Same.mono (State.endSub_same ..) rfl) (State.respond_same ..) rfl) (Same.mono (State.abort_same ..) rfl))
      · exact (Same.mono (State.abort_same ..) rfl))))

end Sys2Proof.Machine
end

