-- ==== Sys2Proof/Laws/StartupFrames.lean ====
section
/-! SUPPORT. Which parts of the state the operations of Machine/Startup.lean may change. -/
namespace Sys2Proof.Machine

theorem State.deviceReset_same : ∀ (s : State) c, Same mask206 s (State.deviceReset s c) := by
  intro s c
  unfold State.deviceReset
  extract_lets +onlyGivenNames -merge keep r
  have h : Same mask206 s r :=
    ⟨rfl, fun _ => rfl, dictWf_filter _ _, fun _ ix _ b => by
      have h := inM_all (m := mask206) ix rfl
      rw [inM, Bool.and_eq_true] at h
      exact absurd (h.2.symm.trans b) (by decide),
      fun b => absurd b (by decide), fun _ => rfl, fun b => absurd b (by decide), fun b => absurd b (by decide), fun b => absurd b (by decide), fun b => absurd b (by decide), fun b => absurd b (by decide), fun b => absurd b (by decide), fun b => absurd b (by decide), fun b => absurd b (by decide), fun b => absurd b (by decide), fun b => absurd b (by decide), fun b => absurd b (by decide), fun b => absurd b (by decide), fun b => absurd b (by decide), fun b => absurd b (by decide), fun b => absurd b (by decide), fun b => absurd b (by decide), fun b => absurd b (by decide), fun b => absurd b (by decide), fun b => absurd b (by decide), fun b => absurd b (by decide), fun b => absurd b (by decide), fun b => absurd b (by decide), fun b => absurd b (by decide), fun b => absurd b (by decide), fun b => absurd b (by decide), fun b => absurd b (by decide), fun b => absurd b (by decide), fun b => absurd b (by decide), fun b => absurd b (by decide), fun b => absurd b (by decide), fun b => absurd b (by decide), fun b => absurd b (by decide), fun b => absurd b (by decide), fun b => absurd b (by decide), fun b => absurd b (by decide), fun b => absurd b (by decide), fun b => absurd b (by decide), fun b => absurd b (by decide), fun b => absurd b (by decide)⟩
  exact Same.next h (State.setPar_same _ _ _ _ rfl)

theorem State.sampleStraps_same : ∀ (s : State) a, Same mask280 s (State.sampleStraps s a) := by
  intro s a
  unfold State.sampleStraps
  exact (State.setPar_same _ _ _ _ rfl)

theorem State.stepEnds_same : ∀ (s : State) a b, Same mask261 s (State.stepEnds s a b) := by
  intro s a b
  unfold State.stepEnds
  exact (Same.next (Same.next (State.setPar_same _ _ _ _ (inM_nth _ rfl)) (State.setPar_same _ _ _ _ rfl)) (State.setPar_same _ _ _ _ rfl))

theorem State.otpFails_same : ∀ (s : State) a, Same mask299 s (State.otpFails s a) := by
  intro s a
  unfold State.otpFails
  exact (by
    extract_lets +onlyGivenNames -merge x0
    have h0 : Same mask299 s x0 := (Same.foldl _ (Same.refl _ _) (fun sv _ => (Same.foldl _ (Same.refl _ _) (fun svv _ => (State.setPar_same _ _ _ _ (inM_all _ rfl))))))
    exact (Same.ite (Same.next h0 (State.setPar_same _ _ _ _ rfl)) h0))

theorem State.endStep2_same : ∀ (s : State) a, Same mask190 s (State.endStep2 s a) := by
  intro s a
  unfold State.endStep2
  exact (by
    extract_lets +onlyGivenNames -merge x0
    have h0 : Same mask190 s x0 := (Same.foldl _ (State.setPar_same _ _ _ _ rfl) (fun _ _ => Same.mono (State.otpFails_same ..) rfl))
    exact (Same.then (Same.then (Same.then h0 (State.stepEnds_same ..) rfl) (State.startSource_same ..) rfl) (State.startSource_same ..) rfl))

theorem State.endStep3_same : ∀ (s : State), Same mask92 s (State.endStep3 s) := by
  intro s
  unfold State.endStep3
  exact (by
    extract_lets +onlyGivenNames -merge x0 x1 x2 x3
    have h1 : Same mask92 s x1 := (Same.mono (State.stepEnds_same ..) rfl)
    have h3 : Same mask92 s x3 := (Same.set_clk _ h1 rfl)
    exact (Same.ite (Same.then h3 (State.lockTo_same ..) rfl) (Same.then (Same.next h3 (State.setPar_same _ _ _ _ rfl)) (State.lockTo_same ..) rfl)))

theorem State.endStep4_same : ∀ (s : State), Same mask170 s (State.endStep4 s) := by
  intro s
  unfold State.endStep4
  exact (by
    extract_lets +onlyGivenNames -merge x0
    have h0 : Same mask170 s x0 := (Same.then (Same.next (Same.mono (State.stepEnds_same ..) rfl) (State.setPar_same _ _ _ _ rfl)) (State.froFollow_same ..) rfl)
    exact (Same.ite (Same.then (Same.next h0 (State.setPar_same _ _ _ _ rfl)) (State.setGood_same ..) rfl) h0))

theorem State.endStep5_same : ∀ (s : State), Same mask50 s (State.endStep5 s) := by
  intro s
  unfold State.endStep5
  exact (by
    extract_lets +onlyGivenNames -merge x0 x1
    have h0 : Same mask50 s x0 := (Same.then (Same.then (Same.mono (State.pointCopies_same ..) rfl) (State.fwReport_same ..) rfl) (State.bootCounted_same ..) rfl)
    have h1 : Same mask50 s x1 := (by
      unfold x1
      exact (by
        split
        · exact (Same.next (Same.then h0 (State.runImage_same ..) rfl) (State.setPar_same _ _ _ _ rfl))
        · exact (Same.next h0 (State.setPar_same _ _ _ _ rfl))))
    exact (by
      split
      · exact (Same.then (Same.next h1 (State.setPar_same _ _ _ _ rfl)) (State.stepEnds_same ..) rfl)
      · exact (Same.then (Same.next h1 (State.setPar_same _ _ _ _ rfl)) (State.stepEnds_same ..) rfl)))

theorem State.endStep6_same : ∀ (s : State) a b, Same mask130 s (State.endStep6 s a b) := by
  intro s a b
  unfold State.endStep6
  exact (by
    extract_lets +onlyGivenNames -merge x0 x1 x2 x3 x4 x5
    exact (Same.ite (Same.then (Same.next (State.setPar_same _ _ _ _ rfl) (State.setPar_same _ _ _ _ rfl)) (State.stepEnds_same ..) rfl) (by
      extract_lets +onlyGivenNames -merge x0 x1
      have h1 : Same mask130 s x1 := (Same.set_dram _ (Same.refl _ _) rfl)
      exact (Same.then (Same.next (Same.next h1 (State.setPar_same _ _ _ _ rfl)) (State.setPar_same _ _ _ _ rfl)) (State.stepEnds_same ..) rfl))))

theorem State.bootPower_same : ∀ (s : State) a b c, Same mask96 s (State.bootPower s a b c) := by
  intro s a b c
  unfold State.bootPower
  extract_lets +onlyGivenNames -merge n target s1 s2
  have h1 : Same mask96 s s1 := Same.foldl _ (Same.refl _ _) (fun _ _ => State.setPar_same _ _ _ _ rfl)
  have h2 : Same mask96 s s2 := Same.then h1 (State.deviceTo_same ..) rfl
  exact Same.ite (Same.next h2 (State.setPar_same _ _ _ _ rfl)) h2

theorem State.endStep7_same : ∀ (s : State) a b c, Same mask210 s (State.endStep7 s a b c) := by
  intro s a b c
  unfold State.endStep7
  exact (by
    extract_lets +onlyGivenNames -merge x0
    have h0 : Same mask210 s x0 := (by
      unfold x0
      exact (by
        split
        · exact (Same.mono (State.loadBody_same ..) rfl)
        · exact (Same.refl _ _)))
    exact (Same.then (Same.then (Same.then h0 (State.cfgLoad_same ..) rfl) (State.stepEnds_same ..) rfl) (State.bootPower_same ..) rfl))

theorem State.requeueBoot_same : ∀ (s : State), Same mask4 s (State.requeueBoot s) := by
  intro s
  unfold State.requeueBoot
  exact (by
    extract_lets +onlyGivenNames -merge x0
    exact (Same.foldl _ (Same.set_cw _ (Same.refl _ _) rfl) (fun sv _ => (Same.mono (State.enqueue_same ..) rfl))))

theorem State.endStep8_same : ∀ (s : State), Same mask32 s (State.endStep8 s) := by
  intro s
  unfold State.endStep8
  exact (by
    extract_lets +onlyGivenNames -merge x0
    have h0 : Same mask32 s x0 := (Same.mono (State.requeueBoot_same ..) rfl)
    exact (Same.then (by
      split
      · exact (Same.then h0 (State.loadEnables_same ..) rfl)
      · exact h0) (State.stepEnds_same ..) rfl))

theorem State.endStep9_same : ∀ (s : State), Same mask304 s (State.endStep9 s) := by
  intro s
  unfold State.endStep9
  exact (by
    extract_lets +onlyGivenNames -merge x0
    have h0 : Same mask304 s x0 := (Same.mono (State.stepEnds_same ..) rfl)
    exact (Same.set_nv _ h0 rfl))

end Sys2Proof.Machine
end

