-- ==== Sys2Proof/Laws/CommandFrames.lean ====
section
/-! SUPPORT. For each command: it answers a next state, and which parts of the state and which parameters it may change after time
has passed to the command's own (State.enter). -/
namespace Sys2Proof.Machine

/-- A meaning answers a next state that differs in the parts of a mask alone. -/
def Only (m : Nat) (s : State) (o : Host.Outcome State Fault Refusal) : Prop := ∃ t, o = .next t ∧ Same m s t

/-- Time that passes to the command changes the count and the list of outputs alone. -/
theorem Only.entered {m t : Nat} {s : State} {o : Host.Outcome State Fault Refusal} (h : Only m (s.enter t) o) : Only (0x12 ||| m) s o := by
  obtain ⟨u, e, g⟩ := h
  refine ⟨u, e, Same.then (Same.mono (State.enter_same s t) ?_) g ?_⟩
  · rw [← Nat.or_assoc, Nat.or_self]
  · rw [Nat.or_comm 0x12 m, ← Nat.or_assoc, Nat.or_self]

theorem Only.mk {m : Nat} {s t : State} (h : Same m s t) : Only m s (.next t) := ⟨t, rfl, h⟩
theorem Only.ite {m : Nat} {s : State} {a b : Host.Outcome State Fault Refusal} {c : Prop} [Decidable c] (ha : Only m s a) (hb : Only m s b) :
    Only m s (if c then a else b) := by split <;> assumption
theorem Only.cdp (m : Nat) : ∀ (u s : State) h op n b act, Same m u s → mask15 ||| m = m → (∀ v r, Same m v (act v r)) → Only m u (s.cdp h op n b act) := by
  intro u s h op n b act hu hm ha
  unfold State.cdp
  extract_lets a
  have h1 : Same m s a.1 := Same.mono (Same.mono (State.admitCdp_same ..) rfl : Same mask15 _ _) hm
  generalize a.2 = o
  cases o with
  | none => exact ⟨_, rfl, Same.then hu h1 (Nat.or_self m)⟩
  | some r => exact ⟨_, rfl, Same.then hu (Same.then h1 (ha _ _) (Nat.or_self m)) (Nat.or_self m)⟩

abbrev mask306 : Nat := 0x7800000c000012320000000000000000000000000810000000000000000000000000000000005802000022
abbrev mask307 : Nat := 0x8000000000000000000000000000000000000000000000000100000020
abbrev mask308 : Nat := 0xc0000000000000004e00040000200000049b001f000000c13f7e3e08620000618e0a018432faff0
abbrev mask309 : Nat := 0x10000000000000000000000000000000000000000020000020
abbrev mask310 : Nat := 0xc009f82000000000000000000000000000000000000000000000000000000000000002800000022
abbrev mask311 : Nat := 0xc0000000000000000000000000000000008100000000000038700008600000000000000020a26a0
abbrev mask312 : Nat := 0xc0000000000000000000000000000000000000000000000070e00008600000000000000020800a0
abbrev mask313 : Nat := 0xc000000000000000000000000000000000000000000000000000000c600000000000000020280a0
abbrev mask314 : Nat := 0x7800000c00000000019c000000000000000000000000000000000000000000000000000000004c00000026
abbrev mask315 : Nat := 0xe0000000000000000000000000000000000000000000000000000020000020
abbrev mask316 : Nat := 0xc00000000001c001700000000000000000000000000000000000000000000060040000c00000020
abbrev mask317 : Nat := 0x7800000c000002000000000000000000000000000000000000000000000000000000000000004820000026
abbrev mask318 : Nat := 0xcc440800c0000000000000000000000000000000000000000000000000000060000082820000020
abbrev mask319 : Nat := 0xc0000000000000000000000000000000008110000000000038700009600000000000010020ab6a0
abbrev mask320 : Nat := 0xc00000000000000000000000000000000000000000000000000000000000000000c001000000020
abbrev mask321 : Nat := 0xc0000000000000000e2800000000010000000000000000000000000000000000000000820000022
abbrev mask322 : Nat := 0xc0000000000000000e2ff00000003100000000000000000000000000000000000000001a0000024
abbrev mask323 : Nat := 0xc0000000000000000000000000000000049900000000000000000000000000000000000020000a0
abbrev mask324 : Nat := 0x600000000000000000000000000000000000000000000000000000000000000000002000000020
abbrev mask325 : Nat := 0x6001000000020
abbrev mask326 : Nat := 0xc0000000040000000e2800010000010000000000000000000000000000000000000000620000022
abbrev mask327 : Nat := 0xc0000000000000000e07f07f0000000000000000000000000000000000000000000000300000024
abbrev mask328 : Nat := 0x400000000000000000000000000000000000000000000000040000400000020
abbrev mask329 : Nat := 0x8000000000000000060
abbrev mask330 : Nat := 0x1000001600
abbrev mask331 : Nat := 0x4000000000000000000000000000000000000000000020001000000020
abbrev mask332 : Nat := 0x7800000c00000000205c000000000000000000000000000000000000000000000000010000004c00000026
abbrev mask333 : Nat := 0x18000001ca880000000000000000000000000000000000000000000000000000000000000002000000024
abbrev mask334 : Nat := 0x7800000c00000200000000000000000000000000000000000000000000000000000000000000c800000022
abbrev mask335 : Nat := 0x1000c000000000000000000000000000000000810000000000000000000000000000f20001002000060
abbrev mask336 : Nat := 0x4000700000000000000000000000000000000000000000000000000000000000020
abbrev mask337 : Nat := 0xc000001000000000000000000000000000000000000000000000000000000000000000800000022
abbrev mask338 : Nat := 0x7800000c00000000005ce000e07f0000000000000000000000000000000000000000010000004d00000026
abbrev mask339 : Nat := 0x20401000000020
abbrev mask340 : Nat := 0x7800000c0000020c0000000000000000000000000000000000000000000000000000000000004820000022
abbrev mask341 : Nat := 0xc000000000000000000000000000c0020
abbrev mask342 : Nat := 0x7800000c00000000405c000000000000000000000000000000000000000000000000010000004e20000026
abbrev mask343 : Nat := 0xc00000000000000000000000000000000000000000000cc000000000600000000000000020400a0
abbrev mask344 : Nat := 0x7800000c000000004e9c000000000000000000000000000000000000000000000000000000004c20000026
abbrev mask345 : Nat := 0x800000000000000060
abbrev mask346 : Nat := 0x600000c000000000000000000000000000000000000000000000000000000000000000000000000000020
abbrev mask347 : Nat := 0x700000000000000000000000000000000000000000000000000000000000000000000000000000000020
abbrev mask348 : Nat := 0x7fffffffffffffffffffffffffffffffffffffffffffffffffffffffffffffffffffffffffff3d621fa7e4
abbrev mask349 : Nat := 0x7800000c000000800000000000000000000000000810000000000000000000000000000000004802000020
abbrev mask350 : Nat := 0xc00000000001c002700000000000000000000000000000000000000000000000000000c00000020
abbrev mask351 : Nat := 0xc0000000000000000fd7f0000000000000000000000000000000000000000000000000100000020
abbrev mask352 : Nat := 0xc0000000000000000007f0000020000000000000000000000000000000000000000000040000020
abbrev mask353 : Nat := 0x7800000c00000000005fe000e07f0000000000000000000000000000000000000000010000004d80000026
abbrev mask354 : Nat := 0xc0000000000000000e2ff000c003cd0e100000000000000000000000000000000000009a0000020
abbrev mask355 : Nat := 0xc0000000000000000e000000c9e38af6149b0583fb39e000000000000000000000000087ee00020

theorem execExSafeRelease_only : ∀ (s : State) a b, Only mask226 (s.enter a) (execExSafeRelease a b s) := by
  intro s a b
  unfold execExSafeRelease
  exact (Only.mk (Same.then (Same.refl _ _) (State.exRelease_same ..) rfl))

theorem execGuardSafeRelease_only : ∀ (s : State) a b, Only mask216 (s.enter a) (execGuardSafeRelease a b s) := by
  intro s a b
  unfold execGuardSafeRelease
  exact (Only.mk (Same.then (Same.refl _ _) (State.releaseRequest_same ..) rfl))

theorem execStreamFlush_only : ∀ (s : State) a b, Only mask292 (s.enter a) (execStreamFlush a b s) := by
  intro s a b
  unfold execStreamFlush
  exact (Only.mk (Same.then (Same.refl _ _) (State.streamFlush_same ..) rfl))

theorem execReadMulti_only : ∀ (s : State) a b c, Only mask20 (s.enter a) (execReadMulti a b c s) := by
  intro s a b c
  unfold execReadMulti
  exact (Only.cdp _ _ _ _ _ _ _ _ (Same.refl _ _) rfl (fun v r => (Same.mono (State.readMulti_same ..) rfl)))

theorem execEthFrameRx_only : ∀ (s : State) a b c d e f, Only mask306 (s.enter a) (execEthFrameRx a b c d e f s) := by
  intro s a b c d e f
  unfold execEthFrameRx
  exact (by
    extract_lets +onlyGivenNames -merge x0
    have h0 : Same mask306 (s.enter a) x0 := (Same.refl _ _)
    exact (Only.ite (Only.mk h0) (Only.ite (Only.mk (Same.next h0 (State.cnt_same _ _ _ rfl))) (by
      extract_lets +onlyGivenNames -merge x0 x1
      have h0 : Same mask306 (s.enter a) x0 := (Same.ite h0 (Same.next h0 (State.cnt_same _ _ _ rfl)))
      have h1 : Same mask306 (s.enter a) x1 := (Same.ite (Same.then h0 (State.forwardFrame_same ..) rfl) h0)
      exact (Only.ite (Only.mk (Same.then h1 (State.takeFrame_same ..) rfl)) (Only.mk h1))))))

theorem execPpsInEdge_only : ∀ (s : State) a b c, Only mask33 (s.enter a) (execPpsInEdge a b c s) := by
  intro s a b c
  unfold execPpsInEdge
  exact (by
    extract_lets +onlyGivenNames -merge x0
    have h0 : Same mask33 (s.enter a) x0 := (Same.refl _ _)
    exact (Only.mk (Same.then (Same.then h0 (State.edgeIn_same ..) rfl) (State.inputMoved_same ..) rfl)))

theorem execExFlagClear_only : ∀ (s : State) a b c d, Only mask161 (s.enter a) (execExFlagClear a b c d s) := by
  intro s a b c d
  unfold execExFlagClear
  exact (by
    extract_lets +onlyGivenNames -merge x0
    have h0 : Same mask161 (s.enter a) x0 := (Same.refl _ _)
    exact (Only.ite (Only.mk h0) (Only.mk (Same.then h0 (State.exClear_same ..) rfl))))

theorem execLinkDown_only : ∀ (s : State) a, Only mask266 (s.enter a) (execLinkDown a s) := by
  intro s a
  unfold execLinkDown
  exact (Only.mk (Same.then (Same.refl _ _) (State.hostLinkDown_same ..) rfl))

theorem execRefreshSlot_only : ∀ (s : State) a b, Only mask307 (s.enter a) (execRefreshSlot a b s) := by
  intro s a b
  unfold execRefreshSlot
  exact (by
    extract_lets +onlyGivenNames -merge x0
    have h0 : Same mask307 (s.enter a) x0 := (Same.refl _ _)
    exact (Only.ite (by
      extract_lets +onlyGivenNames -merge x0
      exact (Only.mk (Same.next (Same.set_dram _ h0 rfl) (State.setPar_same _ _ _ _ rfl)))) (Only.mk h0)))

theorem execPllLock_only : ∀ (s : State) a b c d, Only mask308 (s.enter a) (execPllLock a b c d s) := by
  intro s a b c d
  unfold execPllLock
  exact (by
    extract_lets +onlyGivenNames -merge x0
    have h0 : Same mask308 (s.enter a) x0 := (Same.refl _ _)
    exact (Only.ite (by
      extract_lets +onlyGivenNames -merge x0 x1
      have h1 : Same mask308 (s.enter a) x1 := (Same.next (Same.next h0 (State.setPar_same _ _ _ _ rfl)) (State.setPar_same _ _ _ _ rfl))
      exact (Only.mk (Same.then (Same.then h1 (State.loopLocked_same ..) rfl) (State.wakeDone_same ..) rfl))) (Only.mk h0)))

theorem execBerylComplete_only : ∀ (s : State) a b, Only mask309 (s.enter a) (execBerylComplete a b s) := by
  intro s a b
  unfold execBerylComplete
  exact (by
    extract_lets +onlyGivenNames -merge x0 x1
    have h0 : Same mask309 (s.enter a) x0 := (Same.refl _ _)
    exact (by
      split
      · exact (by
        extract_lets +onlyGivenNames -merge x0 x1 x2
        have h2 : Same mask309 (s.enter a) x2 := (Same.then h0 (State.setStream_same ..) rfl)
        exact (Only.mk (Same.ite (Same.next h2 (State.cntW_same _ _ _ _ (inM_nth _ rfl))) h2)))
      · exact (Only.mk h0)))

theorem execCdpResponseSend_only : ∀ (s : State) a, Only mask78 (s.enter a) (execCdpResponseSend a s) := by
  intro s a
  unfold execCdpResponseSend
  exact (by
    extract_lets +onlyGivenNames -merge x0
    have h0 : Same mask78 (s.enter a) x0 := (Same.refl _ _)
    exact (by
      split
      · exact (Only.mk (Same.then (Same.set_net _ h0 rfl) (State.answerHeld_same ..) rfl))
      · exact (Only.mk h0)))

theorem execFetchAbort_only : ∀ (s : State) a, Only mask99 (s.enter a) (execFetchAbort a s) := by
  intro s a
  unfold execFetchAbort
  exact (Only.mk (Same.then (Same.refl _ _) (State.fetchAbort_same ..) rfl))

theorem execBufDrop_only : ∀ (s : State) a b, Only mask159 (s.enter a) (execBufDrop a b s) := by
  intro s a b
  unfold execBufDrop
  exact (by
    extract_lets +onlyGivenNames -merge x0
    have h0 : Same mask159 (s.enter a) x0 := (Same.refl _ _)
    exact (by
      split
      · exact (Only.mk h0)
      · exact (Only.ite (Only.mk (Same.then h0 (State.dropHead_same ..) rfl)) (Only.mk h0))))

theorem execMarkOutSend_only : ∀ (s : State) a, Only mask272 (s.enter a) (execMarkOutSend a s) := by
  intro s a
  unfold execMarkOutSend
  exact (Only.mk (Same.then (Same.refl _ _) (State.sendMark_same ..) rfl))

theorem execTimedActionExec_only : ∀ (s : State) a, Only mask138 (s.enter a) (execTimedActionExec a s) := by
  intro s a
  unfold execTimedActionExec
  exact (by
    extract_lets +onlyGivenNames -merge x0
    have h0 : Same mask138 (s.enter a) x0 := (Same.refl _ _)
    exact (by
      split
      · exact (Only.ite (Only.mk (Same.then h0 (State.performTick_same ..) rfl)) (Only.mk h0))
      · exact (Only.mk h0)))

theorem execPowerOn_only : ∀ (s : State) a b c, Only mask206 s (execPowerOn a b c s) := by
  intro s a b c
  unfold execPowerOn
  exact (by
    extract_lets +onlyGivenNames -merge x0
    have h0 : Same mask206 s x0 := (Same.mono (State.deviceReset_same ..) rfl)
    exact (Only.mk (Same.ite (Same.then h0 (State.sampleStraps_same ..) rfl) (Same.set_resetHeld _ h0 rfl))))

theorem execStoreSave_only : ∀ (s : State) a, Only mask114 (s.enter a) (execStoreSave a s) := by
  intro s a
  unfold execStoreSave
  exact (Only.mk (Same.then (Same.refl _ _) (State.saveCmd_same ..) rfl))

theorem execSaveComplete_only : ∀ (s : State) a b, Only mask310 (s.enter a) (execSaveComplete a b s) := by
  intro s a b
  unfold execSaveComplete
  exact (by
    extract_lets +onlyGivenNames -merge x0
    have h0 : Same mask310 (s.enter a) x0 := (Same.refl _ _)
    exact (by
      split
      · exact (Only.ite (Only.mk h0) (by
        extract_lets +onlyGivenNames -merge x0
        have h0 : Same mask310 (s.enter a) x0.1 := (Same.then h0 (State.saveDone_same ..) rfl)
        exact (Only.mk (Same.then h0 (State.answerSave_same ..) rfl))))
      · exact (Only.mk h0)))

theorem execSubscribeStream_only : ∀ (s : State) a b c, Only mask27 (s.enter a) (execSubscribeStream a b c s) := by
  intro s a b c
  unfold execSubscribeStream
  exact (Only.cdp _ _ _ _ _ _ _ _ (Same.refl _ _) rfl (fun v r => (Same.mono (State.subscribeStream_same ..) rfl)))

theorem execSafeReleaseEffect_only : ∀ (s : State) a b, Only mask311 (s.enter a) (execSafeReleaseEffect a b s) := by
  intro s a b
  unfold execSafeReleaseEffect
  exact (by
    extract_lets +onlyGivenNames -merge x0
    have h0 : Same mask311 (s.enter a) x0 := (Same.refl _ _)
    exact (by
      split
      · exact (Only.mk (Same.then h0 (State.releaseEffect_same ..) rfl))
      · exact (Only.mk (Same.then h0 (State.releaseEffect_same ..) rfl))
      · exact (Only.mk (Same.then h0 (State.exReleaseEffect_same ..) rfl))))

theorem execOwnershipRelease_only : ∀ (s : State) a b c, Only mask173 (s.enter a) (execOwnershipRelease a b c s) := by
  intro s a b c
  unfold execOwnershipRelease
  exact (Only.cdp _ _ _ _ _ _ _ _ (Same.refl _ _) rfl (fun v r => (Same.mono (State.ownership_same ..) rfl)))

theorem execStoreLoadCurrent_only : ∀ (s : State) a, Only mask32 (s.enter a) (execStoreLoadCurrent a s) := by
  intro s a
  unfold execStoreLoadCurrent
  exact (Only.mk (Same.then (Same.refl _ _) (State.load_same ..) rfl))

theorem execIrqAck_only : ∀ (s : State) a b c, Only mask16 (s.enter a) (execIrqAck a b c s) := by
  intro s a b c
  unfold execIrqAck
  exact (Only.mk (Same.then (Same.refl _ _) (State.irqAckWrite_same ..) rfl))

theorem execWideWordWrite_only : ∀ (s : State) a b c d e f, Only mask48 (s.enter a) (execWideWordWrite a b c d e f s) := by
  intro s a b c d e f
  unfold execWideWordWrite
  exact (by
    extract_lets +onlyGivenNames -merge x0
    have h0 : Same mask48 (s.enter a) x0 := (Same.refl _ _)
    exact (by
      split
      · exact (Only.ite (Only.mk (Same.then h0 (State.hostWrite_same ..) rfl)) (Only.mk h0))
      · exact (Only.mk h0)))

theorem execPpsOutEdge_only : ∀ (s : State) a, Only 0x40 (s.enter a) (execPpsOutEdge a s) := by
  intro s a
  unfold execPpsOutEdge
  exact (by
    extract_lets +onlyGivenNames -merge x0
    have h0 : Same 0x40 (s.enter a) x0 := (Same.refl _ _)
    exact (Only.ite (Only.mk (Same.then h0 (State.ppsEdge_same ..) rfl)) (Only.mk h0)))

theorem execExFlagSet_only : ∀ (s : State) a b c d, Only mask312 (s.enter a) (execExFlagSet a b c d s) := by
  intro s a b c d
  unfold execExFlagSet
  exact (by
    extract_lets +onlyGivenNames -merge x0 x1
    have h0 : Same mask312 (s.enter a) x0 := (Same.refl _ _)
    exact (Only.ite (by
      extract_lets +onlyGivenNames -merge x0 x1
      have h0 : Same mask312 (s.enter a) x0 := (Same.next (Same.next h0 (State.setPar_same _ _ _ _ (inM_exIx _ (by split <;> rfl)))) (State.cnt_same _ _ _ (cntIn_of (inM_exIx _ rfl) rfl)))
      have h1 : Same mask312 (s.enter a) x1 := (Same.then h0 (State.checkCondition_same ..) rfl)
      exact (Only.mk (Same.foldl _ h1 (fun _ _ => Same.mono (State.exFlagLane_same ..) rfl)))) (Only.mk h0)))

theorem execSampleOutput_only : ∀ (s : State) a b c d e, Only mask95 (s.enter a) (execSampleOutput a b c d e s) := by
  intro s a b c d e
  unfold execSampleOutput
  exact (by
    extract_lets +onlyGivenNames -merge x0
    have h0 : Same mask95 (s.enter a) x0 := (Same.refl _ _)
    exact (Only.ite (Only.mk (Same.then h0 (State.sampleAt_same ..) rfl)) (Only.mk h0)))

theorem execToneResult_only : ∀ (s : State) a b c, Only mask313 (s.enter a) (execToneResult a b c s) := by
  intro s a b c
  unfold execToneResult
  exact (by
    extract_lets +onlyGivenNames -merge x0 x1
    have h0 : Same mask313 (s.enter a) x0 := (Same.refl _ _)
    exact (Only.ite (by
      extract_lets +onlyGivenNames -merge x0
      have h0 : Same mask313 (s.enter a) x0 := (Same.set_tone _ h0 rfl)
      exact (Only.mk (Same.then h0 (State.toneResult_same ..) rfl))) (Only.mk h0)))

theorem execStoreSaveSigned_only : ∀ (s : State) a, Only mask114 (s.enter a) (execStoreSaveSigned a s) := by
  intro s a
  unfold execStoreSaveSigned
  exact (Only.mk (Same.then (Same.refl _ _) (State.saveCmd_same ..) rfl))

theorem execSubscribeOnChange_only : ∀ (s : State) a b c, Only mask15 (s.enter a) (execSubscribeOnChange a b c s) := by
  intro s a b c
  unfold execSubscribeOnChange
  exact (Only.cdp _ _ _ _ _ _ _ _ (Same.refl _ _) rfl (fun v r => (Same.mono (State.subscribeParams_same ..) rfl)))

theorem execDoorbellHostPtr_only : ∀ (s : State) a b c d, Only mask7 (s.enter a) (execDoorbellHostPtr a b c d s) := by
  intro s a b c d
  unfold execDoorbellHostPtr
  exact (Only.mk (Same.next (Same.refl _ _) (State.postedWrite_same _ rfl _ _ _ (fun v => (Same.mono (State.bellHostPtr_same ..) rfl)))))

theorem execDvfsDwellEnd_only : ∀ (s : State) a, Only mask82 (s.enter a) (execDvfsDwellEnd a s) := by
  intro s a
  unfold execDvfsDwellEnd
  exact (by
    extract_lets +onlyGivenNames -merge x0
    have h0 : Same mask82 (s.enter a) x0 := (Same.refl _ _)
    exact (by
      split
      · exact (Only.ite (Only.mk h0) (Only.ite (Only.mk (Same.then h0 (State.jasperReach_same ..) rfl)) (Only.mk (Same.then h0 (State.setDvfs_same ..) rfl))))
      · exact (Only.ite (Only.mk h0) (Only.ite (Only.mk (Same.then h0 (State.jasperEnd_same ..) rfl)) (Only.mk (Same.then (Same.then h0 (State.jasperEnd_same ..) rfl) (State.jasperDrop_same ..) rfl))))
      · exact (Only.mk h0)))

theorem execToneBurst_only : ∀ (s : State) a b, Only mask79 (s.enter a) (execToneBurst a b s) := by
  intro s a b
  unfold execToneBurst
  exact (by
    extract_lets +onlyGivenNames -merge x0 x1
    have h0 : Same mask79 (s.enter a) x0 := (Same.refl _ _)
    exact (Only.ite (Only.mk (Same.then h0 (State.toneBurst_same ..) rfl)) (Only.mk h0)))

theorem execWindowDrained_only : ∀ (s : State) a b, Only 0x40000000000000000000000000000000000000000000000000000000000000020 (s.enter a) (execWindowDrained a b s) := by
  intro s a b
  unfold execWindowDrained
  exact (by
    extract_lets +onlyGivenNames -merge x0
    have h0 : Same 0x40000000000000000000000000000000000000000000000000000000000000020 (s.enter a) x0 := (Same.refl _ _)
    exact (Only.mk (Same.ite (Same.next h0 (State.setPar_same _ _ _ _ rfl)) h0)))

theorem execInboundTlpError_only : ∀ (s : State) a b c d e, Only mask289 (s.enter a) (execInboundTlpError a b c d e s) := by
  intro s a b c d e
  unfold execInboundTlpError
  exact (by
    extract_lets +onlyGivenNames -merge x0
    have h0 : Same mask289 (s.enter a) x0 := (Same.refl _ _)
    exact (Only.ite (by
      extract_lets +onlyGivenNames -merge x0
      have h0 : Same mask289 (s.enter a) x0 := (Same.ite (Same.then h0 (State.send_same ..) rfl) h0)
      exact (Only.mk (Same.then h0 (State.portError_same ..) rfl))) (Only.mk h0)))

theorem execKeystoneItem_only : ∀ (s : State) a, Only mask86 (s.enter a) (execKeystoneItem a s) := by
  intro s a
  unfold execKeystoneItem
  exact (by
    extract_lets +onlyGivenNames -merge x0
    have h0 : Same mask86 (s.enter a) x0 := (Same.refl _ _)
    exact (Only.ite (Only.mk h0) (by
      extract_lets +onlyGivenNames -merge x0
      have h0 : Same mask86 (s.enter a) x0 := (Same.then h0 (State.settleCtl_same ..) rfl)
      exact (by
        split
        · exact (Only.ite (Only.mk h0) (Only.mk (Same.then (Same.then (Same.set_cw _ h0 rfl) (State.takeRecord_same ..) rfl) (State.itemDone_same ..) rfl)))
        · exact (Only.mk h0)))))

theorem execSubscribeAlerts_only : ∀ (s : State) a b c, Only mask15 (s.enter a) (execSubscribeAlerts a b c s) := by
  intro s a b c
  unfold execSubscribeAlerts
  exact (Only.cdp _ _ _ _ _ _ _ _ (Same.refl _ _) rfl (fun v r => (Same.ite (Same.mono (State.subscribe_same ..) rfl) (Same.mono (State.badLength_same ..) rfl))))

theorem execForceSrcWrite_only : ∀ (s : State) a b c, Only mask9 (s.enter a) (execForceSrcWrite a b c s) := by
  intro s a b c
  unfold execForceSrcWrite
  exact (by
    extract_lets +onlyGivenNames -merge x0
    have h0 : Same mask9 (s.enter a) x0 := (Same.refl _ _)
    exact (by
      split
      · exact (Only.mk (Same.then h0 (State.tryWrite_same ..) rfl))
      · exact (Only.mk h0)))

theorem execDigitalSample_only : ∀ (s : State) a b c, Only mask177 (s.enter a) (execDigitalSample a b c s) := by
  intro s a b c
  unfold execDigitalSample
  exact (by
    extract_lets +onlyGivenNames -merge x0
    have h0 : Same mask177 (s.enter a) x0 := (Same.refl _ _)
    exact (Only.ite (Only.mk (Same.then h0 (State.digitalSample_same ..) rfl)) (Only.mk h0)))

theorem execPgoodRise_only : ∀ (s : State) a, Only mask107 (s.enter a) (execPgoodRise a s) := by
  intro s a
  unfold execPgoodRise
  exact (by
    extract_lets +onlyGivenNames -merge x0 x1 x2
    have h0 : Same mask107 (s.enter a) x0 := (Same.refl _ _)
    have h2 : Same mask107 (s.enter a) x2 := (Same.set_clk _ h0 rfl)
    exact (by
      split
      · exact (Only.mk (Same.then h2 (State.jasperReach_same ..) rfl))
      · exact (Only.ite (Only.mk (Same.then (Same.set_clk _ h2 rfl) (State.jasperChange_same ..) rfl)) (Only.mk h2))
      · exact (Only.mk h2)))

theorem execEthLinkUp_only : ∀ (s : State) a b, Only 0x10000000000000000000000000000000000000000000000000000000000000000000020 (s.enter a) (execEthLinkUp a b s) := by
  intro s a b
  unfold execEthLinkUp
  exact (by
    extract_lets +onlyGivenNames -merge x0
    have h0 : Same 0x10000000000000000000000000000000000000000000000000000000000000000000020 (s.enter a) x0 := (Same.refl _ _)
    exact (Only.ite (Only.mk (Same.next h0 (State.setPar_same _ _ _ _ rfl))) (Only.mk h0)))

theorem execCompletionTimeout_only : ∀ (s : State) a b, Only mask314 (s.enter a) (execCompletionTimeout a b s) := by
  intro s a b
  unfold execCompletionTimeout
  exact (by
    extract_lets +onlyGivenNames -merge x0
    have h0 : Same mask314 (s.enter a) x0 := (Same.refl _ _)
    exact (by
      split
      · exact (Only.ite (Only.mk h0) (Only.mk (Same.then (Same.then (Same.next h0 (State.cnt_same _ _ _ rfl)) (State.readFailed_same ..) rfl) (State.portError_same ..) rfl)))
      · exact (Only.mk h0)))

theorem execTmrScrub_only : ∀ (s : State) a b c d e f, Only mask205 (s.enter a) (execTmrScrub a b c d e f s) := by
  intro s a b c d e f
  unfold execTmrScrub
  exact (by
    extract_lets +onlyGivenNames -merge x0
    have h0 : Same mask205 (s.enter a) x0 := (Same.refl _ _)
    exact (by
      split
      · exact (Only.ite (Only.mk (Same.then h0 (State.vote_same ..) rfl)) (Only.mk h0))
      · exact (Only.mk h0)))

theorem execVdSafeRelease_only : ∀ (s : State) a b, Only mask216 (s.enter a) (execVdSafeRelease a b s) := by
  intro s a b
  unfold execVdSafeRelease
  exact (Only.mk (Same.then (Same.refl _ _) (State.releaseRequest_same ..) rfl))

theorem execAttest_only : ∀ (s : State) a b c, Only mask112 (s.enter a) (execAttest a b c s) := by
  intro s a b c
  unfold execAttest
  exact (Only.cdp _ _ _ _ _ _ _ _ (Same.refl _ _) rfl (fun v r => (Same.ite (Same.then (Same.mono (State.draw_same ..) rfl) (State.respond_same ..) rfl) (Same.mono (State.badLength_same ..) rfl))))

theorem execFrameAgeClose_only : ∀ (s : State) a b, Only mask228 (s.enter a) (execFrameAgeClose a b s) := by
  intro s a b
  unfold execFrameAgeClose
  exact (by
    extract_lets +onlyGivenNames -merge x0
    have h0 : Same mask228 (s.enter a) x0 := (Same.refl _ _)
    exact (by
      split
      · exact (by
        extract_lets +onlyGivenNames -merge x0
        exact (Only.ite (Only.mk (Same.then h0 (State.closeFrame_same ..) rfl)) (Only.mk h0)))
      · exact (Only.mk h0)))

theorem execBerylEngineTake_only : ∀ (s : State) a b c, Only mask315 (s.enter a) (execBerylEngineTake a b c s) := by
  intro s a b c
  unfold execBerylEngineTake
  exact (by
    extract_lets +onlyGivenNames -merge x0 x1
    have h0 : Same mask315 (s.enter a) x0 := (Same.refl _ _)
    exact (Only.ite (Only.mk h0) (by
      split
      · exact (by
        extract_lets +onlyGivenNames -merge x0
        exact (by
          split
          · exact (by
            extract_lets +onlyGivenNames -merge x0 x1
            have h0 : Same mask315 (s.enter a) x0.1 := (Same.then h0 (State.queueRead_same ..) rfl)
            exact (Only.mk (Same.then h0 (State.setStream_same ..) rfl)))
          · exact (Only.mk h0)))
      · exact (Only.mk h0))))

theorem execResetNRelease_only : ∀ (s : State) a b, Only mask206 s (execResetNRelease a b s) := by
  intro s a b
  unfold execResetNRelease
  exact (Only.ite (Only.mk (Same.then (Same.mono (State.deviceReset_same ..) rfl) (State.sampleStraps_same ..) rfl)) (Only.mk (Same.set_out _ (Same.refl _ _) rfl)))

theorem execPerstNFall_only : ∀ (s : State) a b c, Only mask316 (s.enter a) (execPerstNFall a b c s) := by
  intro s a b c
  unfold execPerstNFall
  exact (by
    extract_lets +onlyGivenNames -merge x0
    have h0 : Same mask316 (s.enter a) x0 := (Same.refl _ _)
    exact (Only.ite (by
      extract_lets +onlyGivenNames -merge x0 x1 x2
      have h0 : Same mask316 (s.enter a) x0 := (Same.then (Same.then (Same.next h0 (State.cnt_same _ _ _ rfl)) (State.portReset_same ..) rfl) (State.linkOff_same ..) rfl)
      have h2 : Same mask316 (s.enter a) x2 := (Same.then (Same.then (Same.set_host _ h0 rfl) (State.crossingReset_same ..) rfl) (State.freeze_same ..) rfl)
      exact (Only.mk (Same.next h2 (State.setPar_same _ _ _ _ rfl)))) (Only.mk h0)))

theorem execBiasOverload_only : ∀ (s : State) a b c, Only mask140 (s.enter a) (execBiasOverload a b c s) := by
  intro s a b c
  unfold execBiasOverload
  exact (by
    extract_lets +onlyGivenNames -merge x0
    have h0 : Same mask140 (s.enter a) x0 := (Same.refl _ _)
    exact (Only.ite (Only.mk (Same.then h0 (State.biasFlag_same ..) rfl)) (Only.mk h0)))

theorem execTimeLoadEffect_only : ∀ (s : State) a, Only mask163 (s.enter a) (execTimeLoadEffect a s) := by
  intro s a
  unfold execTimeLoadEffect
  exact (by
    extract_lets +onlyGivenNames -merge x0
    have h0 : Same mask163 (s.enter a) x0 := (Same.refl _ _)
    exact (by
      split
      · exact (by
        split
        · exact (Only.ite (Only.mk (Same.then h0 (State.loadEffect_same ..) rfl)) (Only.mk h0))
        · exact (Only.mk h0))
      · exact (Only.mk h0)))

theorem execRotationDecision_only : ∀ (s : State) a b, Only mask194 (s.enter a) (execRotationDecision a b s) := by
  intro s a b
  unfold execRotationDecision
  exact (by
    extract_lets +onlyGivenNames -merge x0
    have h0 : Same mask194 (s.enter a) x0 := (Same.refl _ _)
    exact (by
      split
      · exact (Only.ite (Only.mk (Same.then h0 (State.rotationDecide_same ..) rfl)) (Only.mk h0))
      · exact (Only.mk h0)))

theorem execTdcResample_only : ∀ (s : State) a b, Only 0x80 (s.enter a) (execTdcResample a b s) := by
  intro s a b
  unfold execTdcResample
  exact (by
    extract_lets +onlyGivenNames -merge x0
    have h0 : Same 0x80 (s.enter a) x0 := (Same.refl _ _)
    exact (by
      split
      · exact (Only.ite (Only.mk (Same.then h0 (State.resample_same ..) rfl)) (Only.mk h0))
      · exact (Only.mk h0)))

theorem execSnapshotTake_only : ∀ (s : State) a, Only mask293 (s.enter a) (execSnapshotTake a s) := by
  intro s a
  unfold execSnapshotTake
  exact (by
    extract_lets +onlyGivenNames -merge x0
    have h0 : Same mask293 (s.enter a) x0 := (Same.refl _ _)
    exact (by
      split
      · exact (Only.ite (Only.mk (Same.then h0 (State.takeSnapshot_same ..) rfl)) (Only.mk h0))
      · exact (Only.mk h0)))

theorem execRailLowClear_only : ∀ (s : State) a b, Only 0x2000000000000000000000000000000000000000000000000000000000000000000000000000000000020 (s.enter a) (execRailLowClear a b s) := by
  intro s a b
  unfold execRailLowClear
  exact (by
    extract_lets +onlyGivenNames -merge x0
    have h0 : Same 0x2000000000000000000000000000000000000000000000000000000000000000000000000000000000020 (s.enter a) x0 := (Same.refl _ _)
    exact (Only.mk (Same.next h0 (State.setPar_same _ _ _ _ rfl))))

theorem execConfigEffect_only : ∀ (s : State) a b, Only mask144 (s.enter a) (execConfigEffect a b s) := by
  intro s a b
  unfold execConfigEffect
  exact (by
    extract_lets +onlyGivenNames -merge x0
    have h0 : Same mask144 (s.enter a) x0 := (Same.refl _ _)
    exact (Only.ite (Only.mk h0) (Only.mk (Same.foldl _ h0 (fun _ _ => Same.mono (State.boundary_same ..) rfl)))))

theorem execCaResetEnd_only : ∀ (s : State) a b c d, Only mask116 (s.enter a) (execCaResetEnd a b c d s) := by
  intro s a b c d
  unfold execCaResetEnd
  exact (by
    extract_lets +onlyGivenNames -merge x0
    have h0 : Same mask116 (s.enter a) x0 := (Same.refl _ _)
    exact (by
      split
      · exact (Only.ite (Only.mk (Same.then h0 (State.fcSee_same ..) rfl)) (Only.mk h0))
      · exact (Only.mk h0)))

theorem execPowerStateEffect_only : ∀ (s : State) a b c, Only mask64 (s.enter a) (execPowerStateEffect a b c s) := by
  intro s a b c
  unfold execPowerStateEffect
  exact (by
    extract_lets +onlyGivenNames -merge x0 x1 x2 x3
    have h0 : Same mask64 (s.enter a) x0 := (Same.refl _ _)
    have h3 : Same mask64 (s.enter a) x3 := (Same.set_clk _ h0 rfl)
    exact (Only.mk (Same.foldl _ h3 (fun _ _ => Same.mono (State.applyPwr_same ..) rfl))))

theorem execCdpEnable_only : ∀ (s : State) a b c, Only mask48 (s.enter a) (execCdpEnable a b c s) := by
  intro s a b c
  unfold execCdpEnable
  exact (Only.cdp _ _ _ _ _ _ _ _ (Same.refl _ _) rfl (fun v r => (Same.mono (State.cdpEnable_same ..) rfl)))

theorem execTagQuarantineEnd_only : ∀ (s : State) a b, Only 0x400000000 (s.enter a) (execTagQuarantineEnd a b s) := by
  intro s a b
  unfold execTagQuarantineEnd
  exact (by
    extract_lets +onlyGivenNames -merge x0
    have h0 : Same 0x400000000 (s.enter a) x0 := (Same.refl _ _)
    exact (by
      split
      · exact (Only.ite (Only.mk (Same.set_host _ h0 rfl)) (Only.mk h0))
      · exact (Only.mk h0)))

theorem execEventAcknowledge_only : ∀ (s : State) a b c, Only mask317 (s.enter a) (execEventAcknowledge a b c s) := by
  intro s a b c
  unfold execEventAcknowledge
  exact (Only.cdp _ _ _ _ _ _ _ _ (Same.refl _ _) rfl (fun v r => (Same.ite (Same.then (Same.then (Same.mono (State.draw_same ..) rfl) (State.ackEvents_same ..) rfl) (State.respond_same ..) rfl) (Same.mono (State.badLength_same ..) rfl))))

theorem execWindowEnable_only : ∀ (s : State) a b, Only mask231 (s.enter a) (execWindowEnable a b s) := by
  intro s a b
  unfold execWindowEnable
  exact (Only.mk (Same.then (Same.refl _ _) (State.windowEnable_same ..) rfl))

theorem execWatchdogExpiry_only : ∀ (s : State) a b c, Only mask318 (s.enter a) (execWatchdogExpiry a b c s) := by
  intro s a b c
  unfold execWatchdogExpiry
  exact (by
    extract_lets +onlyGivenNames -merge x0
    have h0 : Same mask318 (s.enter a) x0 := (Same.refl _ _)
    exact (Only.ite (Only.mk h0) (by
      extract_lets +onlyGivenNames -merge x0
      have h0 : Same mask318 (s.enter a) x0 := (Same.then (Same.then h0 (State.mpRestart_same ..) rfl) (State.bootCounted_same ..) rfl)
      exact (Only.ite (by
        extract_lets +onlyGivenNames -merge x0 x1
        exact (Only.ite (Only.mk (Same.then h0 (State.revert_same ..) rfl)) (Only.mk (Same.set_nv _ h0 rfl)))) (Only.mk h0)))))

theorem execBackwardStep_only : ∀ (s : State) a, Only mask111 (s.enter a) (execBackwardStep a s) := by
  intro s a
  unfold execBackwardStep
  exact (by
    extract_lets +onlyGivenNames -merge x0
    have h0 : Same mask111 (s.enter a) x0 := (Same.refl _ _)
    exact (by
      split
      · exact (Only.ite (Only.mk (Same.then h0 (State.backwardStep_same ..) rfl)) (Only.mk (Same.set_time _ h0 rfl)))
      · exact (Only.mk h0)))

theorem execPwrPierCmd_only : ∀ (s : State) a b c d, Only mask139 (s.enter a) (execPwrPierCmd a b c d s) := by
  intro s a b c d
  unfold execPwrPierCmd
  exact (Only.mk (Same.then (Same.refl _ _) (State.pierCmd_same ..) rfl))

theorem execBrownOut_only : ∀ (s : State) a b, Only mask319 (s.enter a) (execBrownOut a b s) := by
  intro s a b
  unfold execBrownOut
  exact (by
    extract_lets +onlyGivenNames -merge x0
    have h0 : Same mask319 (s.enter a) x0 := (Same.then (Same.refl _ _) (State.brown_same ..) rfl)
    exact (Only.mk (Same.then (Same.set_brownCause _ h0 rfl) (State.safeEverything_same ..) rfl)))

theorem execPgoodTimeout_only : ∀ (s : State) a, Only mask320 (s.enter a) (execPgoodTimeout a s) := by
  intro s a
  unfold execPgoodTimeout
  exact (by
    extract_lets +onlyGivenNames -merge x0
    have h0 : Same mask320 (s.enter a) x0 := (Same.refl _ _)
    exact (by
      split
      · exact (Only.ite (Only.mk h0) (Only.mk (Same.then (Same.next (Same.then h0 (State.setDvfs_same ..) rfl) (State.cnt_same _ _ _ rfl)) (State.jasperEnd_same ..) rfl)))
      · exact (Only.mk h0)))

theorem execWideLowRead_only : ∀ (s : State) a b c d e f g, Only mask251 (s.enter a) (execWideLowRead a b c d e f g s) := by
  intro s a b c d e f g
  unfold execWideLowRead
  exact (Only.mk (Same.then (Same.refl _ _) (State.hostRead_same ..) rfl))

theorem execEventSend_only : ∀ (s : State) a b c, Only mask321 (s.enter a) (execEventSend a b c s) := by
  intro s a b c
  unfold execEventSend
  exact (by
    extract_lets +onlyGivenNames -merge x0
    have h0 : Same mask321 (s.enter a) x0 := (Same.refl _ _)
    exact (by
      split
      · exact (by
        split
        · exact (Only.ite (Only.mk h0) (Only.ite (Only.mk (Same.then h0 (State.sendAlert_same ..) rfl)) (Only.ite (by
          split
          · exact (Only.ite (by
            extract_lets +onlyGivenNames -merge x0
            have h0 : Same mask321 (s.enter a) x0.1 := (Same.then h0 (State.outletRead_same ..) rfl)
            exact (Only.mk (Same.then h0 (State.sendSegment_same ..) rfl))) (Only.mk h0))
          · exact (Only.mk h0)) (Only.mk h0))))
        · exact (Only.mk h0))
      · exact (Only.mk h0)))

theorem execStoreLoadB_only : ∀ (s : State) a, Only mask32 (s.enter a) (execStoreLoadB a s) := by
  intro s a
  unfold execStoreLoadB
  exact (Only.mk (Same.then (Same.refl _ _) (State.load_same ..) rfl))

theorem execCdpDisable_only : ∀ (s : State) a b c, Only mask48 (s.enter a) (execCdpDisable a b c s) := by
  intro s a b c
  unfold execCdpDisable
  exact (Only.cdp _ _ _ _ _ _ _ _ (Same.refl _ _) rfl (fun v r => (Same.mono (State.cdpEnable_same ..) rfl)))

theorem execTimeLoadCmd_only : ∀ (s : State) a, Only mask71 (s.enter a) (execTimeLoadCmd a s) := by
  intro s a
  unfold execTimeLoadCmd
  exact (Only.mk (Same.then (Same.refl _ _) (State.loadCmd_same ..) rfl))

theorem execDescriptorRead_only : ∀ (s : State) a b c, Only mask60 (s.enter a) (execDescriptorRead a b c s) := by
  intro s a b c
  unfold execDescriptorRead
  exact (by
    extract_lets +onlyGivenNames -merge x0
    have h0 : Same mask60 (s.enter a) x0 := (Same.then (Same.refl _ _) (State.payBack_same ..) rfl)
    exact (Only.ite (Only.mk (Same.then h0 (State.readAhead_same ..) rfl)) (Only.mk h0)))

theorem execSpanMove_only : ∀ (s : State) a b c d, Only mask322 (s.enter a) (execSpanMove a b c d s) := by
  intro s a b c d
  unfold execSpanMove
  exact (by
    extract_lets +onlyGivenNames -merge x0
    have h0 : Same mask322 (s.enter a) x0 := (Same.refl _ _)
    exact (Only.ite (Only.mk h0) (Only.mk (Same.ite (Same.then (Same.then h0 (State.strike_same ..) rfl) (State.moveSpan_same ..) rfl) (Same.then h0 (State.moveHead_same ..) rfl)))))

theorem execGuardSafeAll_only : ∀ (s : State) a, Only mask305 (s.enter a) (execGuardSafeAll a s) := by
  intro s a
  unfold execGuardSafeAll
  exact (by
    extract_lets +onlyGivenNames -merge x0
    have h0 : Same mask305 (s.enter a) x0 := (Same.refl _ _)
    exact (Only.mk (Same.then h0 (State.safeEverything_same ..) rfl)))

theorem execSessionOpen_only : ∀ (s : State) a b c, Only mask277 (s.enter a) (execSessionOpen a b c s) := by
  intro s a b c
  unfold execSessionOpen
  exact (Only.cdp _ _ _ _ _ _ _ _ (Same.refl _ _) rfl (fun v r => (Same.ite (Same.mono (State.openSession_same ..) rfl) (Same.mono (State.badLength_same ..) rfl))))

theorem execLossAccountClose_only : ∀ (s : State) a b, Only mask323 (s.enter a) (execLossAccountClose a b s) := by
  intro s a b
  unfold execLossAccountClose
  exact (by
    extract_lets +onlyGivenNames -merge x0 x1
    have h0 : Same mask323 (s.enter a) x0 := (Same.refl _ _)
    exact (by
      split
      · exact (Only.ite (Only.mk (Same.then (Same.then h0 (State.setEdge_same ..) rfl) (State.closeAccount_same ..) rfl)) (Only.mk h0))
      · exact (Only.mk h0)))

theorem execRingTestSend_only : ∀ (s : State) a, Only 0x2 (s.enter a) (execRingTestSend a s) := by
  intro s a
  unfold execRingTestSend
  exact (by
    extract_lets +onlyGivenNames -merge x0
    have h0 : Same 0x2 (s.enter a) x0 := (Same.refl _ _)
    exact (Only.ite (Only.mk (Same.then h0 (State.send_same ..) rfl)) (Only.mk h0)))

theorem execDeglitchEnd_only : ∀ (s : State) a b, Only mask298 (s.enter a) (execDeglitchEnd a b s) := by
  intro s a b
  unfold execDeglitchEnd
  exact (Only.mk (Same.then (Same.refl _ _) (State.judge_same ..) rfl))

theorem execFwConfirm_only : ∀ (s : State) a, Only mask324 (s.enter a) (execFwConfirm a s) := by
  intro s a
  unfold execFwConfirm
  exact (by
    extract_lets +onlyGivenNames -merge x0
    have h0 : Same mask324 (s.enter a) x0 := (Same.refl _ _)
    exact (Only.ite (by
      extract_lets +onlyGivenNames -merge x0 x1 x2
      have h2 : Same mask324 (s.enter a) x2 := (Same.next (Same.then h0 (State.setFw_same ..) rfl) (State.setPar_same _ _ _ _ rfl))
      exact (Only.mk (Same.next h2 (State.setPar_same _ _ _ _ rfl)))) (Only.mk h0)))

theorem execCdpLoad_only : ∀ (s : State) a b c, Only mask201 (s.enter a) (execCdpLoad a b c s) := by
  intro s a b c
  unfold execCdpLoad
  exact (Only.cdp _ _ _ _ _ _ _ _ (Same.refl _ _) rfl (fun v r => (Same.mono (State.cdpLoad_same ..) rfl)))

theorem execDeadlineItem_only : ∀ (s : State) a, Only mask86 (s.enter a) (execDeadlineItem a s) := by
  intro s a
  unfold execDeadlineItem
  exact (by
    extract_lets +onlyGivenNames -merge x0
    have h0 : Same mask86 (s.enter a) x0 := (Same.refl _ _)
    exact (Only.ite (Only.mk h0) (by
      extract_lets +onlyGivenNames -merge x0
      have h0 : Same mask86 (s.enter a) x0 := (Same.then h0 (State.settleCtl_same ..) rfl)
      exact (by
        split
        · exact (Only.ite (by
          extract_lets +onlyGivenNames -merge x0
          have h0 : Same mask86 (s.enter a) x0.1 := (Same.then h0 (State.unitsDeadline_same ..) rfl)
          exact (Only.mk (Same.then (Same.then h0 (State.sequence_same ..) rfl) (State.itemDone_same ..) rfl))) (Only.mk h0))
        · exact (Only.mk h0)))))

theorem execStoreLoadA_only : ∀ (s : State) a, Only mask32 (s.enter a) (execStoreLoadA a s) := by
  intro s a
  unfold execStoreLoadA
  exact (Only.mk (Same.then (Same.refl _ _) (State.load_same ..) rfl))

theorem execWriteMulti_only : ∀ (s : State) a b c, Only mask48 (s.enter a) (execWriteMulti a b c s) := by
  intro s a b c
  unfold execWriteMulti
  exact (Only.cdp _ _ _ _ _ _ _ _ (Same.refl _ _) rfl (fun v r => (Same.mono (State.writeMulti_same ..) rfl)))

theorem execFetchStart_only : ∀ (s : State) a, Only mask221 (s.enter a) (execFetchStart a s) := by
  intro s a
  unfold execFetchStart
  exact (Only.mk (Same.then (Same.refl _ _) (State.fetchStart_same ..) rfl))

theorem execJasperPointWrite_only : ∀ (s : State) a b, Only mask325 (s.enter a) (execJasperPointWrite a b s) := by
  intro s a b
  unfold execJasperPointWrite
  exact (by
    extract_lets +onlyGivenNames -merge x0
    have h0 : Same mask325 (s.enter a) x0 := (Same.refl _ _)
    exact (Only.mk (Same.then (Same.next h0 (State.setPar_same _ _ _ _ rfl)) (State.jasperChange_same ..) rfl)))

theorem execExSwap_only : ∀ (s : State) a b, Only 0xa0000 (s.enter a) (execExSwap a b s) := by
  intro s a b
  unfold execExSwap
  exact (by
    extract_lets +onlyGivenNames -merge x0
    have h0 : Same 0xa0000 (s.enter a) x0 := (Same.refl _ _)
    exact (Only.ite (Only.mk (Same.then h0 (State.settleLanes_same ..) rfl)) (Only.mk h0)))

theorem execRingTestTimeout_only : ∀ (s : State) a, Only mask237 (s.enter a) (execRingTestTimeout a s) := by
  intro s a
  unfold execRingTestTimeout
  exact (by
    extract_lets +onlyGivenNames -merge x0
    have h0 : Same mask237 (s.enter a) x0 := (Same.refl _ _)
    exact (Only.ite (Only.mk (Same.then h0 (State.ringOpen_same ..) rfl)) (Only.mk h0)))

theorem execSourceSelectWrite_only : ∀ (s : State) a b c, Only mask9 (s.enter a) (execSourceSelectWrite a b c s) := by
  intro s a b c
  unfold execSourceSelectWrite
  exact (by
    extract_lets +onlyGivenNames -merge x0 x1
    have h0 : Same mask9 (s.enter a) x0 := (Same.refl _ _)
    exact (by
      split
      · exact (Only.mk (Same.then h0 (State.tryWrite_same ..) rfl))
      · exact (Only.mk h0)))

theorem execSafeHoldRetry_only : ∀ (s : State) a b, Only mask179 (s.enter a) (execSafeHoldRetry a b s) := by
  intro s a b
  unfold execSafeHoldRetry
  exact (by
    extract_lets +onlyGivenNames -merge x0 x1
    have h0 : Same mask179 (s.enter a) x0 := (Same.refl _ _)
    exact (Only.ite (Only.mk (Same.then h0 (State.startSource_same ..) rfl)) (Only.mk h0)))

theorem execCaResetCmd_only : ∀ (s : State) a b, Only mask4 (s.enter a) (execCaResetCmd a b s) := by
  intro s a b
  unfold execCaResetCmd
  exact (Only.mk (Same.then (Same.refl _ _) (State.enqueue_same ..) rfl))

theorem execPulseEnd_only : ∀ (s : State) a b, Only mask273 (s.enter a) (execPulseEnd a b s) := by
  intro s a b
  unfold execPulseEnd
  extract_lets s1 go
  have h1 : Same mask273 (s.enter a) s1 := Same.refl _ _
  have hg : ∀ k n, Same mask273 (s.enter a) (go k n) := fun k n => by
    unfold go
    split
    · exact Same.ite (Same.then h1 (State.endPulse_same ..) rfl) h1
    · exact h1
  split
  · exact Only.mk (hg _ _)
  · exact Only.mk (hg _ _)
  · exact Only.mk h1

theorem execCalUserCommit_only : ∀ (s : State) a b, Only mask9 (s.enter a) (execCalUserCommit a b s) := by
  intro s a b
  unfold execCalUserCommit
  exact (by
    extract_lets +onlyGivenNames -merge x0
    have h0 : Same mask9 (s.enter a) x0 := (Same.refl _ _)
    exact (by
      split
      · exact (Only.mk (Same.then h0 (State.tryWrite_same ..) rfl))
      · exact (Only.mk h0)))

theorem execSubscribePeriodic_only : ∀ (s : State) a b c, Only mask15 (s.enter a) (execSubscribePeriodic a b c s) := by
  intro s a b c
  unfold execSubscribePeriodic
  exact (Only.cdp _ _ _ _ _ _ _ _ (Same.refl _ _) rfl (fun v r => (Same.mono (State.subscribeParams_same ..) rfl)))

theorem execFrameDeliver_only : ∀ (s : State) a b c, Only mask326 (s.enter a) (execFrameDeliver a b c s) := by
  intro s a b c
  unfold execFrameDeliver
  exact (by
    extract_lets +onlyGivenNames -merge x0
    have h0 : Same mask326 (s.enter a) x0 := (Same.then (Same.refl _ _) (State.payBack_same ..) rfl)
    exact (Only.ite (by
      extract_lets +onlyGivenNames -merge x0
      have h0 : Same mask326 (s.enter a) x0.1 := (Same.then h0 (State.tailRead_same ..) rfl)
      exact (Only.mk (Same.then h0 (State.deliverFrame_same ..) rfl))) (Only.mk h0)))

theorem execFetchFrame_only : ∀ (s : State) a b, Only mask327 (s.enter a) (execFetchFrame a b s) := by
  intro s a b
  unfold execFetchFrame
  exact (by
    extract_lets +onlyGivenNames -merge x0
    have h0 : Same mask327 (s.enter a) x0 := (Same.refl _ _)
    exact (Only.ite (Only.mk (Same.then (Same.then h0 (State.strike_same ..) rfl) (State.fetchStep_same ..) rfl)) (Only.mk h0)))

theorem execEventDelivery_only : ∀ (s : State) a b c, Only mask80 (s.enter a) (execEventDelivery a b c s) := by
  intro s a b c
  unfold execEventDelivery
  exact (by
    extract_lets +onlyGivenNames -merge x0 x1
    have h0 : Same mask80 (s.enter a) x0 := (Same.refl _ _)
    exact (Only.ite (Only.mk (Same.then h0 (State.portOffer_same ..) rfl)) (Only.mk h0)))

theorem execOwnershipTake_only : ∀ (s : State) a b c, Only mask173 (s.enter a) (execOwnershipTake a b c s) := by
  intro s a b c
  unfold execOwnershipTake
  exact (Only.cdp _ _ _ _ _ _ _ _ (Same.refl _ _) rfl (fun v r => (Same.mono (State.ownership_same ..) rfl)))

theorem execCdpWrite_only : ∀ (s : State) a b c, Only mask48 (s.enter a) (execCdpWrite a b c s) := by
  intro s a b c
  unfold execCdpWrite
  exact (Only.cdp _ _ _ _ _ _ _ _ (Same.refl _ _) rfl (fun v r => (Same.mono (State.cdpWrite_same ..) rfl)))

theorem execPerstNRise_only : ∀ (s : State) a, Only mask328 (s.enter a) (execPerstNRise a s) := by
  intro s a
  unfold execPerstNRise
  exact (by
    extract_lets +onlyGivenNames -merge x0
    have h0 : Same mask328 (s.enter a) x0 := (Same.refl _ _)
    exact (Only.ite (Only.mk h0) (by
      extract_lets +onlyGivenNames -merge x0 x1 x2
      have h0 : Same mask328 (s.enter a) x0 := (Same.then h0 (State.portReset_same ..) rfl)
      have h2 : Same mask328 (s.enter a) x2 := (Same.set_host _ h0 rfl)
      exact (Only.ite (Only.mk h2) (Only.mk (Same.next (Same.next h2 (State.setPar_same _ _ _ _ rfl)) (State.setPar_same _ _ _ _ rfl)))))))

theorem execServoSlewTick_only : ∀ (s : State) a b, Only mask329 (s.enter a) (execServoSlewTick a b s) := by
  intro s a b
  unfold execServoSlewTick
  exact (by
    extract_lets +onlyGivenNames -merge x0
    have h0 : Same mask329 (s.enter a) x0 := (Same.refl _ _)
    exact (Only.ite (Only.mk (Same.next (Same.set_time _ h0 rfl) (State.cntW_same _ _ _ _ rfl))) (Only.mk h0)))

theorem execSessionAuthSign_only : ∀ (s : State) a b c, Only mask15 (s.enter a) (execSessionAuthSign a b c s) := by
  intro s a b c
  unfold execSessionAuthSign
  exact (Only.cdp _ _ _ _ _ _ _ _ (Same.refl _ _) rfl (fun v r => (Same.mono (State.authSign_same ..) rfl)))

theorem execEthLinkDown_only : ∀ (s : State) a b, Only mask123 (s.enter a) (execEthLinkDown a b s) := by
  intro s a b
  unfold execEthLinkDown
  exact (Only.mk (Same.then (Same.refl _ _) (State.ethDown_same ..) rfl))

theorem execDomainRelease_only : ∀ (s : State) a, Only mask83 (s.enter a) (execDomainRelease a s) := by
  intro s a
  unfold execDomainRelease
  exact (by
    extract_lets +onlyGivenNames -merge x0
    have h0 : Same mask83 (s.enter a) x0 := (Same.refl _ _)
    exact (by
      split
      · exact (Only.ite (Only.mk h0) (Only.mk (Same.then h0 (State.release_same ..) rfl)))
      · exact (Only.mk h0)))

theorem execBrownOutClear_only : ∀ (s : State) a b, Only mask330 (s.enter a) (execBrownOutClear a b s) := by
  intro s a b
  unfold execBrownOutClear
  exact (by
    extract_lets +onlyGivenNames -merge x0
    have h0 : Same mask330 (s.enter a) x0 := (Same.then (Same.refl _ _) (State.brown_same ..) rfl)
    exact (Only.ite (Only.mk h0) (Only.mk (Same.then (Same.set_brownCause _ h0 rfl) (State.causesClear_same ..) rfl))))

theorem execRegisterWrite_only : ∀ (s : State) a b c d e f g h, Only mask48 (s.enter a) (execRegisterWrite a b c d e f g h s) := by
  intro s a b c d e f g h
  unfold execRegisterWrite
  exact (Only.mk (Same.then (Same.refl _ _) (State.hostWrite_same ..) rfl))

theorem execUnitWake_only : ∀ (s : State) a b, Only mask331 (s.enter a) (execUnitWake a b s) := by
  intro s a b
  unfold execUnitWake
  exact (by
    extract_lets +onlyGivenNames -merge x0
    have h0 : Same mask331 (s.enter a) x0 := (Same.refl _ _)
    exact (by
      split
      · exact (Only.ite (Only.mk (Same.next h0 (State.setPar_same _ _ _ _ rfl))) (Only.mk h0))
      · exact (Only.mk (Same.then h0 (State.froFollow_same ..) rfl))
      · exact (Only.mk h0)
      · exact (Only.mk h0)
      · exact (Only.mk h0)
      · exact (Only.mk h0)))

theorem execMsixVectorUnmask_only : ∀ (s : State) a b c, Only mask332 (s.enter a) (execMsixVectorUnmask a b c s) := by
  intro s a b c
  unfold execMsixVectorUnmask
  exact (Only.mk (Same.next (Same.refl _ _) (State.postedWrite_same _ rfl _ _ _ (fun v => (Same.mono (State.msixWrite_same ..) rfl)))))

theorem execCaAutoTrip_only : ∀ (s : State) a b c d, Only mask35 (s.enter a) (execCaAutoTrip a b c d s) := by
  intro s a b c d
  unfold execCaAutoTrip
  exact (by
    extract_lets +onlyGivenNames -merge x0 x1
    have h0 : Same mask35 (s.enter a) x0 := (Same.refl _ _)
    exact (Only.ite (Only.mk (Same.then h0 (State.caCause_same ..) rfl)) (Only.mk h0)))

theorem execPierSliceRetest_only : ∀ (s : State) a b, Only mask302 (s.enter a) (execPierSliceRetest a b s) := by
  intro s a b
  unfold execPierSliceRetest
  exact (Only.mk (Same.then (Same.refl _ _) (State.sliceRetest_same ..) rfl))

theorem execTdcTableUpdate_only : ∀ (s : State) a, Only 0x40 (s.enter a) (execTdcTableUpdate a s) := by
  intro s a
  unfold execTdcTableUpdate
  exact (by
    extract_lets +onlyGivenNames -merge x0
    have h0 : Same 0x40 (s.enter a) x0 := (Same.refl _ _)
    exact (Only.ite (Only.mk (by
      extract_lets +onlyGivenNames -merge x0
      have h0 : Same 0x40 (s.enter a) x0 := (Same.then h0 (State.tableUpdate_same ..) rfl)
      exact (Same.set_time _ h0 rfl))) (Only.mk h0)))

theorem execConfigRequest_only : ∀ (s : State) a b c d e, Only mask17 (s.enter a) (execConfigRequest a b c d e s) := by
  intro s a b c d e
  unfold execConfigRequest
  exact (by
    extract_lets +onlyGivenNames -merge x0 x1
    have h0 : Same mask17 (s.enter a) x0 := (Same.refl _ _)
    exact (Only.ite (Only.mk h0) (Only.ite (Only.mk (Same.then h0 (State.send_same ..) rfl)) (Only.ite (Only.mk (Same.then (Same.then h0 (State.cfgWrite_same ..) rfl) (State.send_same ..) rfl)) (Only.mk (Same.then h0 (State.send_same ..) rfl))))))

theorem execSlowWriteApply_only : ∀ (s : State) a b, Only mask9 (s.enter a) (execSlowWriteApply a b s) := by
  intro s a b
  unfold execSlowWriteApply
  exact (by
    extract_lets +onlyGivenNames -merge x0 x1
    have h0 : Same mask9 (s.enter a) x0 := (Same.refl _ _)
    have h1 : Same mask9 (s.enter a) x1 := (Same.then h0 (State.refreshSlots_same ..) rfl)
    exact (Only.ite (Only.mk h0) (Only.mk (Same.foldl _ (Same.set_ds _ h1 rfl) (fun _ _ => Same.mono (State.applyHeld_same ..) rfl)))))

theorem execAgeHour_only : ∀ (s : State) a b, Only mask333 (s.enter a) (execAgeHour a b s) := by
  intro s a b
  unfold execAgeHour
  exact (by
    extract_lets +onlyGivenNames -merge x0 x1 x2 x3 x4
    have h0 : Same mask333 (s.enter a) x0 := (Same.refl _ _)
    have h2 : Same mask333 (s.enter a) x2 := (Same.next h0 (State.setPar_same _ _ _ _ rfl))
    have h3 : Same mask333 (s.enter a) x3 := (Same.next h2 (State.setPar_same _ _ _ _ rfl))
    have h4 : Same mask333 (s.enter a) x4 := (Same.next h3 (State.setPar_same _ _ _ _ rfl))
    exact (Only.mk (Same.then (Same.then h4 (State.refreshCopy_same ..) rfl) (State.refreshFw_same ..) rfl)))

theorem execClampSet_only : ∀ (s : State) a b c, Only mask257 (s.enter a) (execClampSet a b c s) := by
  intro s a b c
  unfold execClampSet
  exact (by
    extract_lets +onlyGivenNames -merge x0
    have h0 : Same mask257 (s.enter a) x0 := (Same.refl _ _)
    exact (Only.ite (Only.mk (Same.then h0 (State.clampFlag_same ..) rfl)) (Only.mk h0)))

theorem execSnapshotCounters_only : ∀ (s : State) a b c, Only mask334 (s.enter a) (execSnapshotCounters a b c s) := by
  intro s a b c
  unfold execSnapshotCounters
  exact (Only.cdp _ _ _ _ _ _ _ _ (Same.refl _ _) rfl (fun v r => (Same.ite (by
    extract_lets +onlyGivenNames -merge x0
    have h0 : Same mask334 v x0 := (Same.mono (State.requestSnapshot_same ..) rfl)
    exact (Same.then h0 (State.respond_same ..) rfl)) (Same.mono (State.badLength_same ..) rfl))))

theorem execEsmcPduSend_only : ∀ (s : State) a b, Only 0x6 (s.enter a) (execEsmcPduSend a b s) := by
  intro s a b
  unfold execEsmcPduSend
  exact (by
    extract_lets +onlyGivenNames -merge x0
    have h0 : Same 0x6 (s.enter a) x0 := (Same.refl _ _)
    exact (Only.ite (by
      split
      · exact (Only.mk (Same.then h0 (State.send_same ..) rfl))
      · exact (Only.mk (Same.then h0 (State.send_same ..) rfl))
      · exact (Only.mk (Same.then h0 (State.send_same ..) rfl))
      · exact (Only.mk (Same.then (Same.then h0 (State.draw_same ..) rfl) (State.send_same ..) rfl))
      · exact (Only.mk (Same.then (Same.then h0 (State.draw_same ..) rfl) (State.send_same ..) rfl))) (Only.mk h0)))

theorem execClkReturn_only : ∀ (s : State) a, Only mask187 (s.enter a) (execClkReturn a s) := by
  intro s a
  unfold execClkReturn
  exact (Only.mk (Same.then (Same.refl _ _) (State.clkReturn_same ..) rfl))

theorem execRingEnable_only : ∀ (s : State) a b c, Only mask7 (s.enter a) (execRingEnable a b c s) := by
  intro s a b c
  unfold execRingEnable
  exact (Only.mk (Same.next (Same.refl _ _) (State.postedWrite_same _ rfl _ _ _ (fun v => (Same.mono (State.ringEnable_same ..) rfl)))))

theorem execPortResume_only : ∀ (s : State) a b, Only mask7 (s.enter a) (execPortResume a b s) := by
  intro s a b
  unfold execPortResume
  exact (Only.mk (Same.next (Same.refl _ _) (State.postedWrite_same _ rfl _ _ _ (fun v => Same.mono (State.portResume_same ..) rfl))))

theorem execSafeHoldEntry_only : ∀ (s : State) a b c, Only mask3 (s.enter a) (execSafeHoldEntry a b c s) := by
  intro s a b c
  unfold execSafeHoldEntry
  exact (by
    extract_lets +onlyGivenNames -merge x0
    have h0 : Same mask3 (s.enter a) x0 := (Same.refl _ _)
    exact (Only.ite (Only.mk (Same.then h0 (State.safeHold_same ..) rfl)) (Only.mk h0)))

theorem execSourceReady_only : ∀ (s : State) a b c d e, Only mask335 (s.enter a) (execSourceReady a b c d e s) := by
  intro s a b c d e
  unfold execSourceReady
  exact (by
    extract_lets +onlyGivenNames -merge x0
    have h0 : Same mask335 (s.enter a) x0 := (Same.refl _ _)
    exact (Only.ite (Only.mk (Same.ite (Same.then h0 (State.becomesReady_same ..) rfl) (Same.then h0 (State.startFails_same ..) rfl))) (Only.ite (Only.mk (Same.then h0 (State.becomesReady_same ..) rfl)) (Only.mk h0))))

theorem execLinkUp_only : ∀ (s : State) a b c, Only mask336 (s.enter a) (execLinkUp a b c s) := by
  intro s a b c
  unfold execLinkUp
  exact (by
    extract_lets +onlyGivenNames -merge x0
    have h0 : Same mask336 (s.enter a) x0 := (Same.refl _ _)
    exact (Only.ite (by
      extract_lets +onlyGivenNames -merge x0
      have h0 : Same mask336 (s.enter a) x0 := (Same.next (Same.next (Same.next h0 (State.setPar_same _ _ _ _ rfl)) (State.setPar_same _ _ _ _ rfl)) (State.setPar_same _ _ _ _ rfl))
      exact (Only.mk (Same.ite (Same.next h0 (State.setPar_same _ _ _ _ rfl)) h0))) (Only.mk h0)))

theorem execEventResend_only : ∀ (s : State) a b, Only mask337 (s.enter a) (execEventResend a b s) := by
  intro s a b
  unfold execEventResend
  exact (by
    extract_lets +onlyGivenNames -merge x0
    have h0 : Same mask337 (s.enter a) x0 := (Same.refl _ _)
    exact (by
      split
      · exact (Only.ite (Only.mk h0) (by
        extract_lets +onlyGivenNames -merge x0 x1 x2
        have h2 : Same mask337 (s.enter a) x2 := (Same.next (Same.set_net _ h0 rfl) (State.cnt_same _ _ _ rfl))
        exact (Only.mk (Same.foldl _ h2 (fun sv _ => (Same.mono (State.eventOut_same ..) rfl))))))
      · exact (Only.mk h0)))

theorem execBar4Read_only : ∀ (s : State) a b c d e, Only mask338 (s.enter a) (execBar4Read a b c d e s) := by
  intro s a b c d e
  unfold execBar4Read
  exact (by
    extract_lets +onlyGivenNames -merge x0
    have h0 : Same mask338 (s.enter a) x0.1 := (Same.then (Same.refl _ _) (State.memRequest_same ..) rfl)
    exact (Only.ite (Only.mk h0) (by
      split
      · exact (Only.mk (Same.then h0 (State.windowMiss_same ..) rfl))
      · exact (by
        extract_lets +onlyGivenNames -merge x0
        exact (Only.ite (Only.mk (Same.then h0 (State.windowRead_same ..) rfl)) (Only.mk (Same.then (Same.then h0 (State.governed_same ..) rfl) (State.send_same ..) rfl)))))))

theorem execIdleClose_only : ∀ (s : State) a b, Only mask74 (s.enter a) (execIdleClose a b s) := by
  intro s a b
  unfold execIdleClose
  exact (by
    extract_lets +onlyGivenNames -merge x0 x1
    have h0 : Same mask74 (s.enter a) x0 := (Same.then (Same.refl _ _) (State.payBack_same ..) rfl)
    exact (Only.ite (Only.mk (Same.then h0 (State.closeDesc_same ..) rfl)) (Only.mk h0)))

theorem execCaissonRearm_only : ∀ (s : State) a b, Only mask39 (s.enter a) (execCaissonRearm a b s) := by
  intro s a b
  unfold execCaissonRearm
  exact (by
    extract_lets +onlyGivenNames -merge x0
    have h0 : Same mask39 (s.enter a) x0 := (Same.refl _ _)
    exact (by
      split
      · exact (Only.ite (Only.ite (Only.mk (Same.next h0 (State.setPar_same _ _ _ _ rfl))) (Only.ite (Only.mk (Same.then (Same.next h0 (State.setPar_same _ _ _ _ rfl)) (State.caiTouchPier_same ..) rfl)) (Only.mk h0))) (Only.mk h0))
      · exact (Only.mk h0)))

theorem execThresholdEdge_only : ∀ (s : State) a b c d e, Only mask33 (s.enter a) (execThresholdEdge a b c d e s) := by
  intro s a b c d e
  unfold execThresholdEdge
  exact (by
    extract_lets +onlyGivenNames -merge x0 x1 x2
    have h0 : Same mask33 (s.enter a) x0 := (Same.refl _ _)
    exact (Only.mk (Same.then (Same.then (Same.ite (Same.then h0 (State.draw_same ..) rfl) h0) (State.edgeIn_same ..) rfl) (State.inputMoved_same ..) rfl)))

theorem execWakeEvent_only : ∀ (s : State) a b c, Only mask339 (s.enter a) (execWakeEvent a b c s) := by
  intro s a b c
  unfold execWakeEvent
  exact (by
    extract_lets +onlyGivenNames -merge x0
    have h0 : Same mask339 (s.enter a) x0 := (Same.refl _ _)
    exact (Only.ite (by
      extract_lets +onlyGivenNames -merge x0
      have h0 : Same mask339 (s.enter a) x0 := (Same.then (Same.next h0 (State.setPar_same _ _ _ _ rfl)) (State.startSource_same ..) rfl)
      exact (Only.mk (Same.set_clk _ h0 rfl))) (Only.mk h0)))

theorem execSessionClose_only : ∀ (s : State) a b c, Only mask340 (s.enter a) (execSessionClose a b c s) := by
  intro s a b c
  unfold execSessionClose
  exact (Only.cdp _ _ _ _ _ _ _ _ (Same.refl _ _) rfl (fun v r => (Same.ite (Same.then (Same.mono (State.respond_same ..) rfl) (State.endSession_same ..) rfl) (Same.mono (State.badLength_same ..) rfl))))

theorem execClampClear_only : ∀ (s : State) a b c, Only mask257 (s.enter a) (execClampClear a b c s) := by
  intro s a b c
  unfold execClampClear
  exact (by
    extract_lets +onlyGivenNames -merge x0
    have h0 : Same mask257 (s.enter a) x0 := (Same.refl _ _)
    exact (Only.ite (Only.mk (Same.then h0 (State.clampFlag_same ..) rfl)) (Only.mk h0)))

theorem execFwActivate_only : ∀ (s : State) a b c d e, Only mask165 (s.enter a) (execFwActivate a b c d e s) := by
  intro s a b c d e
  unfold execFwActivate
  exact (Only.cdp _ _ _ _ _ _ _ _ (Same.refl _ _) rfl (fun v r => (Same.mono (State.cdpActivate_same ..) rfl)))

theorem execSessionAuthKeys_only : ∀ (s : State) a b c, Only mask112 (s.enter a) (execSessionAuthKeys a b c s) := by
  intro s a b c
  unfold execSessionAuthKeys
  exact (Only.cdp _ _ _ _ _ _ _ _ (Same.refl _ _) rfl (fun v r => (Same.mono (State.authKeys_same ..) rfl)))

theorem execPtpMessageRx_only : ∀ (s : State) a b c, Only mask284 (s.enter a) (execPtpMessageRx a b c s) := by
  intro s a b c
  unfold execPtpMessageRx
  exact (by
    extract_lets +onlyGivenNames -merge x0
    have h0 : Same mask284 (s.enter a) x0 := (Same.refl _ _)
    exact (Only.ite (Only.mk (Same.then h0 (State.ptpReceive_same ..) rfl)) (Only.mk h0)))

theorem execRotationSlot_only : ∀ (s : State) a b c, Only mask341 (s.enter a) (execRotationSlot a b c s) := by
  intro s a b c
  unfold execRotationSlot
  extract_lets +onlyGivenNames -merge s1 fi ta sp
  have h1 : Same mask341 (s.enter a) s1 := Same.refl _ _
  refine Only.ite ?_ (Only.mk h1)
  clear_value ta sp
  cases ta <;> cases sp
  · exact Only.mk h1
  · exact Only.mk h1
  · exact Only.mk h1
  · exact Only.mk (Same.then (Same.set_overlap _ (Same.then h1 (State.setSlice_same ..) rfl) rfl) (State.sliceReport_same ..) rfl)

theorem execRingDisable_only : ∀ (s : State) a b c, Only mask342 (s.enter a) (execRingDisable a b c s) := by
  intro s a b c
  unfold execRingDisable
  exact (Only.mk (Same.next (Same.refl _ _) (State.postedWrite_same _ rfl _ _ _ (fun v => (Same.mono (State.ringDisable_same ..) rfl)))))

theorem execReferenceCycleEnd_only : ∀ (s : State) a b c d e f g, Only mask343 (s.enter a) (execReferenceCycleEnd a b c d e f g s) := by
  intro s a b c d e f g
  unfold execReferenceCycleEnd
  exact (by
    extract_lets +onlyGivenNames -merge x0 x1
    have h0 : Same mask343 (s.enter a) x0 := (Same.refl _ _)
    exact (Only.ite (Only.ite (by
      extract_lets +onlyGivenNames -merge x0 x1
      have h0 : Same mask343 (s.enter a) x0 := (Same.then h0 (State.setSlice_same ..) rfl)
      have h1 : Same mask343 (s.enter a) x1 := (Same.next (Same.next h0 (State.setPar_same _ _ _ _ rfl)) (State.setPar_same _ _ _ _ rfl))
      exact (Only.mk (Same.then h1 (State.sliceReport_same ..) rfl))) (by
      extract_lets +onlyGivenNames -merge x0
      have h0 : Same mask343 (s.enter a) x0 := (Same.then h0 (State.setSlice_same ..) rfl)
      exact (Only.mk (Same.then (Same.then h0 (State.laneRecord_same ..) rfl) (State.sliceReport_same ..) rfl)))) (Only.mk h0)))

theorem execClockFailure_only : ∀ (s : State) a b c d e f g, Only mask191 (s.enter a) (execClockFailure a b c d e f g s) := by
  intro s a b c d e f g
  unfold execClockFailure
  exact (by
    extract_lets +onlyGivenNames -merge x0
    have h0 : Same mask191 (s.enter a) x0 := (Same.refl _ _)
    exact (Only.ite (Only.mk h0) (Only.mk (Same.then h0 (State.failure_same ..) rfl))))

theorem execFroMeasurement_only : ∀ (s : State) a b c d, Only mask209 (s.enter a) (execFroMeasurement a b c d s) := by
  intro s a b c d
  unfold execFroMeasurement
  exact (by
    extract_lets +onlyGivenNames -merge x0
    have h0 : Same mask209 (s.enter a) x0 := (Same.refl _ _)
    exact (Only.ite (Only.mk (Same.then h0 (State.measured_same ..) rfl)) (Only.mk h0)))

theorem execPgoodFall_only : ∀ (s : State) a, Only mask82 (s.enter a) (execPgoodFall a s) := by
  intro s a
  unfold execPgoodFall
  exact (by
    extract_lets +onlyGivenNames -merge x0 x1 x2
    have h0 : Same mask82 (s.enter a) x0 := (Same.refl _ _)
    have h2 : Same mask82 (s.enter a) x2 := (Same.set_clk _ h0 rfl)
    exact (Only.ite (Only.mk (Same.then h2 (State.jasperDrop_same ..) rfl)) (Only.mk h2)))

theorem execCaPeriodicReset_only : ∀ (s : State) a b c d, Only mask35 (s.enter a) (execCaPeriodicReset a b c d s) := by
  intro s a b c d
  unfold execCaPeriodicReset
  exact (by
    extract_lets +onlyGivenNames -merge x0 x1
    have h0 : Same mask35 (s.enter a) x0 := (Same.refl _ _)
    exact (Only.ite (Only.mk (Same.then h0 (State.caCause_same ..) rfl)) (Only.mk h0)))

theorem execCompletionRx_only : ∀ (s : State) a b c d e, Only mask344 (s.enter a) (execCompletionRx a b c d e s) := by
  intro s a b c d e
  unfold execCompletionRx
  exact (by
    extract_lets +onlyGivenNames -merge x0
    have h0 : Same mask344 (s.enter a) x0 := (Same.refl _ _)
    exact (Only.ite (Only.mk h0) (by
      split
      · exact (Only.ite (Only.mk (Same.then (Same.then (Same.next h0 (State.cnt_same _ _ _ rfl)) (State.readFailed_same ..) rfl) (State.portError_same ..) rfl)) (Only.mk (Same.then h0 (State.readGot_same ..) rfl)))
      · exact (Only.ite (Only.mk (Same.then (Same.next h0 (State.cnt_same _ _ _ rfl)) (State.partnerFault_same ..) rfl)) (Only.mk (Same.then (Same.next h0 (State.cnt_same _ _ _ rfl)) (State.portError_same ..) rfl))))))

theorem execTdcCalWindowEnd_only : ∀ (s : State) a b c, Only mask345 (s.enter a) (execTdcCalWindowEnd a b c s) := by
  intro s a b c
  unfold execTdcCalWindowEnd
  exact (by
    extract_lets +onlyGivenNames -merge x0
    have h0 : Same mask345 (s.enter a) x0 := (Same.refl _ _)
    exact (Only.ite (Only.mk (Same.next (Same.set_time _ h0 rfl) (State.setPar_same _ _ _ _ rfl))) (Only.mk h0)))

theorem execPtpMessageSend_only : ∀ (s : State) a b c, Only 0x42 (s.enter a) (execPtpMessageSend a b c s) := by
  intro s a b c
  unfold execPtpMessageSend
  exact (by
    extract_lets +onlyGivenNames -merge x0
    have h0 : Same 0x42 (s.enter a) x0 := (Same.refl _ _)
    exact (Only.ite (Only.mk (Same.then h0 (State.ptpSend_same ..) rfl)) (Only.mk h0)))

theorem execAutoReturn_only : ∀ (s : State) a, Only mask187 (s.enter a) (execAutoReturn a s) := by
  intro s a
  unfold execAutoReturn
  exact (by
    extract_lets +onlyGivenNames -merge x0 x1
    have h0 : Same mask187 (s.enter a) x0 := (Same.refl _ _)
    exact (Only.ite (Only.mk (Same.then h0 (State.returnRef_same ..) rfl)) (Only.mk h0)))

theorem execFwStage_only : ∀ (s : State) a b c, Only mask234 (s.enter a) (execFwStage a b c s) := by
  intro s a b c
  unfold execFwStage
  exact (Only.cdp _ _ _ _ _ _ _ _ (Same.refl _ _) rfl (fun v r => (Same.mono (State.cdpStage_same ..) rfl)))

theorem execDoorbellHostSeen_only : ∀ (s : State) a b c d, Only mask7 (s.enter a) (execDoorbellHostSeen a b c d s) := by
  intro s a b c d
  unfold execDoorbellHostSeen
  exact (Only.mk (Same.next (Same.refl _ _) (State.postedWrite_same _ rfl _ _ _ (fun v => (Same.mono (State.bellHostSeen_same ..) rfl)))))

theorem execRailLow_only : ∀ (s : State) a b, Only mask346 (s.enter a) (execRailLow a b s) := by
  intro s a b
  unfold execRailLow
  exact (by
    extract_lets +onlyGivenNames -merge x0 x1
    have h0 : Same mask346 (s.enter a) x0 := (Same.refl _ _)
    exact (Only.ite (Only.mk h0) (Only.mk (Same.next (Same.next h0 (State.setPar_same _ _ _ _ rfl)) (State.cnt_same _ _ _ rfl)))))

theorem execTjSample_only : ∀ (s : State) a b, Only mask347 (s.enter a) (execTjSample a b s) := by
  intro s a b
  unfold execTjSample
  exact (by
    extract_lets +onlyGivenNames -merge x0 x1
    have h0 : Same mask347 (s.enter a) x0 := (Same.next (Same.refl _ _) (State.setPar_same _ _ _ _ rfl))
    have h1 : Same mask347 (s.enter a) x1 := (Same.next h0 (State.setPar_same _ _ _ _ rfl))
    exact (Only.ite (Only.mk (Same.next h1 (State.setPar_same _ _ _ _ rfl))) (Only.mk h1)))

theorem execStartUpStepEnd_only : ∀ (s : State) a b c d e f, Only mask348 (s.enter a) (execStartUpStepEnd a b c d e f s) := by
  intro s a b c d e f
  unfold execStartUpStepEnd
  exact (by
    extract_lets +onlyGivenNames -merge x0
    have h0 : Same mask348 (s.enter a) x0 := (Same.refl _ _)
    exact (Only.ite (Only.mk h0) (by
      split
      · exact (Only.mk (Same.then (Same.then (Same.then h0 (State.setReady_same ..) rfl) (State.setGood_same ..) rfl) (State.stepEnds_same ..) rfl))
      · exact (Only.mk (Same.then h0 (State.endStep2_same ..) rfl))
      · exact (Only.mk (Same.ite (Same.then h0 (State.endStep3_same ..) rfl) h0))
      · exact (Only.mk (Same.ite (Same.then h0 (State.endStep4_same ..) rfl) h0))
      · exact (Only.mk (Same.then h0 (State.endStep5_same ..) rfl))
      · exact (Only.mk (Same.then h0 (State.endStep6_same ..) rfl))
      · exact (Only.mk (Same.then h0 (State.endStep7_same ..) rfl))
      · exact (Only.mk (Same.ite (Same.then h0 (State.endStep8_same ..) rfl) h0))
      · exact (Only.mk (Same.ite (Same.then h0 (State.endStep9_same ..) rfl) h0))
      · exact (Only.mk h0))))

theorem execSubscriptionTimer_only : ∀ (s : State) a b, Only 0x800000002 (s.enter a) (execSubscriptionTimer a b s) := by
  intro s a b
  unfold execSubscriptionTimer
  exact (by
    extract_lets +onlyGivenNames -merge x0
    have h0 : Same 0x800000002 (s.enter a) x0 := (Same.refl _ _)
    exact (by
      split
      · exact (Only.ite (by
        extract_lets +onlyGivenNames -merge x0 x1
        exact (Only.ite (Only.mk (Same.then h0 (State.setSub_same ..) rfl)) (Only.mk (Same.then h0 (State.offer_same ..) rfl)))) (Only.mk h0))
      · exact (Only.mk h0)))

theorem execMarkOutRx_only : ∀ (s : State) a b c d e f, Only mask349 (s.enter a) (execMarkOutRx a b c d e f s) := by
  intro s a b c d e f
  unfold execMarkOutRx
  exact (by
    extract_lets +onlyGivenNames -merge x0 x1
    have h0 : Same mask349 (s.enter a) x0 := (Same.refl _ _)
    exact (Only.ite (Only.mk h0) (Only.ite (Only.mk (Same.then h0 (State.partnerFault_same ..) rfl)) (by
      split
      · exact (Only.ite (Only.mk (Same.then h0 (State.takeMark_same ..) rfl)) (Only.mk h0))
      · exact (Only.mk (Same.then h0 (State.partnerFault_same ..) rfl))))))

theorem execCdpSave_only : ∀ (s : State) a b c, Only mask14 (s.enter a) (execCdpSave a b c s) := by
  intro s a b c
  unfold execCdpSave
  exact (Only.cdp _ _ _ _ _ _ _ _ (Same.refl _ _) rfl (fun v r => (Same.mono (State.cdpSave_same ..) rfl)))

theorem execCdpRead_only : ∀ (s : State) a b c, Only mask20 (s.enter a) (execCdpRead a b c s) := by
  intro s a b c
  unfold execCdpRead
  exact (Only.cdp _ _ _ _ _ _ _ _ (Same.refl _ _) rfl (fun v r => (Same.mono (State.cdpRead_same ..) rfl)))

theorem execHotReset_only : ∀ (s : State) a, Only mask350 (s.enter a) (execHotReset a s) := by
  intro s a
  unfold execHotReset
  exact (by
    extract_lets +onlyGivenNames -merge x0
    have h0 : Same mask350 (s.enter a) x0 := (Same.refl _ _)
    exact (Only.ite (Only.mk (Same.then (Same.then (Same.then (Same.next h0 (State.cnt_same _ _ _ rfl)) (State.cfgReset_same ..) rfl) (State.linkOff_same ..) rfl) (State.freeze_same ..) rfl)) (Only.mk h0)))

theorem execSessionIdleTimeout_only : ∀ (s : State) a b, Only mask93 (s.enter a) (execSessionIdleTimeout a b s) := by
  intro s a b
  unfold execSessionIdleTimeout
  exact (by
    extract_lets +onlyGivenNames -merge x0
    have h0 : Same mask93 (s.enter a) x0 := (Same.refl _ _)
    exact (by
      split
      · exact (Only.ite (Only.mk (Same.then h0 (State.endSession_same ..) rfl)) (Only.mk h0))
      · exact (Only.mk h0)))

theorem execSpanRestart_only : ∀ (s : State) a b, Only mask195 (s.enter a) (execSpanRestart a b s) := by
  intro s a b
  unfold execSpanRestart
  exact (Only.mk (Same.then (Same.refl _ _) (State.restartRequest_same ..) rfl))

theorem execResetNAssert_only : ∀ (s : State) a, Only mask206 s (execResetNAssert a s) := by
  intro s a
  unfold execResetNAssert
  exact (Only.mk (by
    extract_lets +onlyGivenNames -merge x0
    have h0 : Same mask206 s x0 := (Same.mono (State.deviceReset_same ..) rfl)
    exact (Same.set_resetHeld _ h0 rfl)))

theorem execScrubSlot_only : ∀ (s : State) a b c, Only mask351 (s.enter a) (execScrubSlot a b c s) := by
  intro s a b c
  unfold execScrubSlot
  exact (by
    extract_lets +onlyGivenNames -merge x0
    have h0 : Same mask351 (s.enter a) x0 := (Same.refl _ _)
    exact (Only.ite (by
      extract_lets +onlyGivenNames -merge x0
      have h0 : Same mask351 (s.enter a) x0 := (Same.then (Same.then h0 (State.strike_same ..) rfl) (State.scrubMany_same ..) rfl)
      exact (Only.mk (Same.next h0 (State.setPar_same _ _ _ _ rfl)))) (Only.mk h0)))

theorem execIrqMessage_only : ∀ (s : State) a b, Only mask17 (s.enter a) (execIrqMessage a b s) := by
  intro s a b
  unfold execIrqMessage
  exact (Only.mk (Same.then (Same.refl _ _) (State.irqSend_same ..) rfl))

theorem execPwrCmd_only : ∀ (s : State) a b c, Only mask262 (s.enter a) (execPwrCmd a b c s) := by
  intro s a b c
  unfold execPwrCmd
  exact (Only.mk (Same.then (Same.refl _ _) (State.pwrCmd_same ..) rfl))

theorem execWindowDisable_only : ∀ (s : State) a b c, Only mask270 (s.enter a) (execWindowDisable a b c s) := by
  intro s a b c
  unfold execWindowDisable
  exact (Only.mk (Same.then (Same.refl _ _) (State.windowDisable_same ..) rfl))

theorem execFcZoneChange_only : ∀ (s : State) a b c d, Only mask116 (s.enter a) (execFcZoneChange a b c d s) := by
  intro s a b c d
  unfold execFcZoneChange
  exact (by
    extract_lets +onlyGivenNames -merge x0
    have h0 : Same mask116 (s.enter a) x0 := (Same.refl _ _)
    exact (Only.ite (Only.mk (Same.then h0 (State.fcSee_same ..) rfl)) (Only.mk h0)))

theorem execSubscribeCancel_only : ∀ (s : State) a b c, Only mask27 (s.enter a) (execSubscribeCancel a b c s) := by
  intro s a b c
  unfold execSubscribeCancel
  exact (Only.cdp _ _ _ _ _ _ _ _ (Same.refl _ _) rfl (fun v r => (Same.mono (State.cancelSub_same ..) rfl)))

theorem execCaissonRecord_only : ∀ (s : State) a b c d, Only mask352 (s.enter a) (execCaissonRecord a b c d s) := by
  intro s a b c d
  unfold execCaissonRecord
  exact (by
    extract_lets +onlyGivenNames -merge x0
    have h0 : Same mask352 (s.enter a) x0 := (Same.refl _ _)
    exact (Only.ite (by
      extract_lets +onlyGivenNames -merge x0
      have h0 : Same mask352 (s.enter a) x0 := (Same.foldl _ (Same.foldl _ h0 (fun _ _ => Same.mono (State.caiWord_same ..) rfl)) (fun _ _ => Same.mono (State.caiErr_same ..) rfl))
      exact (Only.mk (Same.ite (Same.next h0 (State.setPar_same _ _ _ _ rfl)) h0))) (Only.mk h0)))

theorem execIdentify_only : ∀ (s : State) a b c, Only mask15 (s.enter a) (execIdentify a b c s) := by
  intro s a b c
  unfold execIdentify
  exact (Only.cdp _ _ _ _ _ _ _ _ (Same.refl _ _) rfl (fun v r => (Same.ite (Same.mono (State.respond_same ..) rfl) (Same.mono (State.badLength_same ..) rfl))))

theorem execBar4Write_only : ∀ (s : State) a b c d e f g, Only mask353 (s.enter a) (execBar4Write a b c d e f g s) := by
  intro s a b c d e f g
  unfold execBar4Write
  exact (by
    extract_lets +onlyGivenNames -merge x0
    have h0 : Same mask353 (s.enter a) x0.1 := (Same.then (Same.refl _ _) (State.memRequest_same ..) rfl)
    exact (Only.ite (Only.mk h0) (by
      split
      · exact (Only.mk (Same.then h0 (State.windowMiss_same ..) rfl))
      · exact (by
        extract_lets +onlyGivenNames -merge x0
        exact (Only.ite (Only.mk (Same.then (Same.next (Same.next h0 (State.cnt_same _ _ _ rfl)) (State.setPar_same _ _ _ _ rfl)) (State.partnerFault_same ..) rfl)) (Only.ite (Only.mk (Same.then h0 (State.windowWrite_same ..) rfl)) (Only.mk (Same.then h0 (State.governed_same ..) rfl))))))))

theorem execForwardStep_only : ∀ (s : State) a, Only mask286 (s.enter a) (execForwardStep a s) := by
  intro s a
  unfold execForwardStep
  exact (by
    extract_lets +onlyGivenNames -merge x0
    have h0 : Same mask286 (s.enter a) x0 := (Same.refl _ _)
    exact (by
      split
      · exact (Only.ite (Only.ite (Only.mk (Same.then h0 (State.forwardStep_same ..) rfl)) (Only.mk (Same.set_time _ h0 rfl))) (Only.mk h0))
      · exact (Only.mk h0)))

theorem execSnapshotFraming_only : ∀ (s : State) a b c, Only mask157 (s.enter a) (execSnapshotFraming a b c s) := by
  intro s a b c
  unfold execSnapshotFraming
  exact (by
    extract_lets +onlyGivenNames -merge x0
    have h0 : Same mask157 (s.enter a) x0 := (Same.refl _ _)
    exact (by
      split
      · exact (by
        extract_lets +onlyGivenNames -merge x0
        exact (Only.ite (Only.mk (Same.then h0 (State.frameBlock_same ..) rfl)) (Only.mk h0)))
      · exact (Only.mk h0)))

theorem execAnnounceTimeout_only : ∀ (s : State) a b, Only mask196 (s.enter a) (execAnnounceTimeout a b s) := by
  intro s a b
  unfold execAnnounceTimeout
  exact (by
    extract_lets +onlyGivenNames -merge x0
    have h0 : Same mask196 (s.enter a) x0 := (Same.refl _ _)
    exact (Only.mk (Same.then (Same.next (Same.then h0 (State.draw_same ..) rfl) (State.setPar_same _ _ _ _ rfl)) (State.setMaster_same ..) rfl)))

theorem execFrameToHead_only : ∀ (s : State) a b c, Only mask354 (s.enter a) (execFrameToHead a b c s) := by
  intro s a b c
  unfold execFrameToHead
  exact (by
    extract_lets +onlyGivenNames -merge x0 x1
    have h0 : Same mask354 (s.enter a) x0 := (Same.refl _ _)
    exact (Only.ite (Only.mk h0) (by
      split
      · exact (Only.mk (Same.then (Same.then h0 (State.setStream_same ..) rfl) (State.endReport_same ..) rfl))
      · exact (Only.ite (by
        extract_lets +onlyGivenNames -merge x0
        have h0 : Same mask354 (s.enter a) x0 := (Same.next (Same.then h0 (State.setStream_same ..) rfl) (State.cntW_same _ _ _ _ (inM_nth _ rfl)))
        exact (Only.mk (Same.then h0 (State.meetHead_same ..) rfl))) (Only.mk (Same.then h0 (State.acceptOwed_same ..) rfl)))
      · exact (by
        extract_lets +onlyGivenNames -merge x0
        have h0 : Same mask354 (s.enter a) x0 := (Same.ite (Same.then h0 (State.settleLoss_same ..) rfl) h0)
        exact (Only.mk (Same.then h0 (State.acceptOwed_same ..) rfl))))))

theorem execPortRestart_only : ∀ (s : State) a b, Only mask7 (s.enter a) (execPortRestart a b s) := by
  intro s a b
  unfold execPortRestart
  exact (Only.mk (Same.next (Same.refl _ _) (State.postedWrite_same _ rfl _ _ _ (fun v => Same.mono (State.portRestart_same ..) rfl))))

theorem execCausewayRelease_only : ∀ (s : State) a b, Only mask355 (s.enter a) (execCausewayRelease a b s) := by
  intro s a b
  unfold execCausewayRelease
  exact (by
    extract_lets +onlyGivenNames -merge x0
    have h0 : Same mask355 (s.enter a) x0 := (Same.refl _ _)
    exact (Only.ite (Only.mk (Same.then (Same.then h0 (State.releaseDue_same ..) rfl) (State.itemDone_same ..) rfl)) (Only.mk h0)))

theorem execDictSnapshot_only : ∀ (s : State) a, Only 0x8000000000 (s.enter a) (execDictSnapshot a s) := by
  intro s a
  unfold execDictSnapshot
  exact (Only.mk (Same.then (Same.refl _ _) (State.requestSnapshot_same ..) rfl))

end Sys2Proof.Machine
end

