-- ==== Sys2Proof/Laws/Keeps.lean ====
section
/-! SUPPORT. From masks to parts and parameter names. -/
namespace Sys2Proof.Machine

theorem leaves_name :
    regTree.leaves.all (fun x => (List.range (x.2.1 + 1)).all (fun i => decide (paramName (x.1 + i) = some x.1))) = true := by
  decide +kernel

/-- A numbered index belongs to the parameter whose leaf has its number. -/
theorem regNo_name (ix : Nat) : regNo ix = 0 ∨ ∃ x ∈ regTree.leaves, paramName ix = some x.1 ∧ regNo ix = x.2.2 := by
  rcases RegTree.find_mem regTree ix with h | ⟨x, hx, h1, h2, h3⟩
  · exact .inl h
  · refine .inr ⟨x, hx, ?_, h3⟩
    have h := List.all_eq_true.mp (List.all_eq_true.mp leaves_name x hx) (ix - x.1) (List.mem_range.mpr (by omega))
    rw [decide_eq_true_eq] at h
    rw [← h]; congr 1; omega

/-- Parameters outside the names that a mask stands for keep their values. -/
theorem Same.keepsOthers {m : Nat} {s t : State} (h : Same m s t) (w : Dict.wf s.dict) (names : List Nat)
    (h0 : m.testBit 42 = false)
    (hn : regTree.leaves.all (fun x => !m.testBit (42 + x.2.2) || names.contains x.1) = true) : s.keepsOthers t names := by
  intro ix sub hx
  refine h.pars w ix sub ?_
  rcases regNo_name ix with e | ⟨x, hm, hp, e⟩
  · rw [e]; exact h0
  · rw [e]
    have := List.all_eq_true.mp hn x hm
    cases hb : m.testBit (42 + x.2.2) with
    | false => rfl
    | true =>
      rw [hb] at this
      exact absurd (List.contains_iff_mem.mp (by simpa using this)) (hx _ hp)

/-- The bit of a part. -/
def Part.bit : Part → Nat
  | .fresh => 2
  | .resetHeld => 3
  | .time => 6
  | .edge => 7
  | .run => 8
  | .guard => 9
  | .line => 10
  | .clockCause => 11
  | .brownCause => 12
  | .ex => 13
  | .ca => 14
  | .tone => 15
  | .clamp => 16
  | .conv => 17
  | .slice => 18
  | .overlap => 19
  | .staged => 20
  | .slots => 21
  | .markOut => 22
  | .markOutNum => 23
  | .driven => 24
  | .cw => 25
  | .src => 26
  | .units => 27
  | .seqs => 28
  | .stream => 29
  | .cai => 30
  | .mem => 31
  | .dram => 32
  | .fetch => 33
  | .host => 34
  | .net => 35
  | .clk => 36
  | .nv => 37
  | .pflLast => 38
  | .ds => 39
  | .hostPath => 40
  | .mgmtPath => 41

/-- A part whose bit is clear is the same. -/
theorem Same.part {m : Nat} {s t : State} (h : Same m s t) (p : Part) (hb : m.testBit p.bit = false) : p.same s t := by
  cases p
  · exact h.fresh hb
  · exact h.resetHeld hb
  · exact h.time hb
  · exact h.edge hb
  · exact h.run hb
  · exact h.guard hb
  · exact h.line hb
  · exact h.clockCause hb
  · exact h.brownCause hb
  · exact h.ex hb
  · exact h.ca hb
  · exact h.tone hb
  · exact h.clamp hb
  · exact h.conv hb
  · exact h.slice hb
  · exact h.overlap hb
  · exact h.staged hb
  · exact h.slots hb
  · exact h.markOut hb
  · exact h.markOutNum hb
  · exact h.driven hb
  · exact h.cw hb
  · exact h.src hb
  · exact h.units hb
  · exact h.seqs hb
  · exact h.stream hb
  · exact h.cai hb
  · exact h.mem hb
  · exact h.dram hb
  · exact h.fetch hb
  · exact h.host hb
  · exact h.net hb
  · exact h.clk hb
  · exact h.nv hb
  · exact h.pflLast hb
  · exact h.ds hb
  · exact h.hostPath hb
  · exact h.mgmtPath hb

end Sys2Proof.Machine
end

