-- ==== Sys2Proof/Laws/State.lean ====
section
/-! SUPPORT. What each plain update of the state leaves in each of its fields, so that no proof unfolds a record update. -/
namespace Sys2Proof.Machine

/-! `setCai` -/

@[simp] theorem State.setCai_pending (s : State) (p : Nat) (c : CaiSt) : (s.setCai p c).pending = s.pending := rfl
@[simp] theorem State.setCai_out (s : State) (p : Nat) (c : CaiSt) : (s.setCai p c).out = s.out := rfl
@[simp] theorem State.setCai_fresh (s : State) (p : Nat) (c : CaiSt) : (s.setCai p c).fresh = s.fresh := rfl
@[simp] theorem State.setCai_resetHeld (s : State) (p : Nat) (c : CaiSt) : (s.setCai p c).resetHeld = s.resetHeld := rfl
@[simp] theorem State.setCai_now (s : State) (p : Nat) (c : CaiSt) : (s.setCai p c).now = s.now := rfl
@[simp] theorem State.setCai_dict (s : State) (p : Nat) (c : CaiSt) : (s.setCai p c).dict = s.dict := rfl
@[simp] theorem State.setCai_time (s : State) (p : Nat) (c : CaiSt) : (s.setCai p c).time = s.time := rfl
@[simp] theorem State.setCai_edge (s : State) (p : Nat) (c : CaiSt) : (s.setCai p c).edge = s.edge := rfl
@[simp] theorem State.setCai_run (s : State) (p : Nat) (c : CaiSt) : (s.setCai p c).run = s.run := rfl
@[simp] theorem State.setCai_guard (s : State) (p : Nat) (c : CaiSt) : (s.setCai p c).guard = s.guard := rfl
@[simp] theorem State.setCai_line (s : State) (p : Nat) (c : CaiSt) : (s.setCai p c).line = s.line := rfl
@[simp] theorem State.setCai_clockCause (s : State) (p : Nat) (c : CaiSt) : (s.setCai p c).clockCause = s.clockCause := rfl
@[simp] theorem State.setCai_brownCause (s : State) (p : Nat) (c : CaiSt) : (s.setCai p c).brownCause = s.brownCause := rfl
@[simp] theorem State.setCai_ex (s : State) (p : Nat) (c : CaiSt) : (s.setCai p c).ex = s.ex := rfl
@[simp] theorem State.setCai_ca (s : State) (p : Nat) (c : CaiSt) : (s.setCai p c).ca = s.ca := rfl
@[simp] theorem State.setCai_tone (s : State) (p : Nat) (c : CaiSt) : (s.setCai p c).tone = s.tone := rfl
@[simp] theorem State.setCai_clamp (s : State) (p : Nat) (c : CaiSt) : (s.setCai p c).clamp = s.clamp := rfl
@[simp] theorem State.setCai_conv (s : State) (p : Nat) (c : CaiSt) : (s.setCai p c).conv = s.conv := rfl
@[simp] theorem State.setCai_slice (s : State) (p : Nat) (c : CaiSt) : (s.setCai p c).slice = s.slice := rfl
@[simp] theorem State.setCai_overlap (s : State) (p : Nat) (c : CaiSt) : (s.setCai p c).overlap = s.overlap := rfl
@[simp] theorem State.setCai_staged (s : State) (p : Nat) (c : CaiSt) : (s.setCai p c).staged = s.staged := rfl
@[simp] theorem State.setCai_slots (s : State) (p : Nat) (c : CaiSt) : (s.setCai p c).slots = s.slots := rfl
@[simp] theorem State.setCai_markOut (s : State) (p : Nat) (c : CaiSt) : (s.setCai p c).markOut = s.markOut := rfl
@[simp] theorem State.setCai_markOutNum (s : State) (p : Nat) (c : CaiSt) : (s.setCai p c).markOutNum = s.markOutNum := rfl
@[simp] theorem State.setCai_driven (s : State) (p : Nat) (c : CaiSt) : (s.setCai p c).driven = s.driven := rfl
@[simp] theorem State.setCai_cw (s : State) (p : Nat) (c : CaiSt) : (s.setCai p c).cw = s.cw := rfl
@[simp] theorem State.setCai_src (s : State) (p : Nat) (c : CaiSt) : (s.setCai p c).src = s.src := rfl
@[simp] theorem State.setCai_units (s : State) (p : Nat) (c : CaiSt) : (s.setCai p c).units = s.units := rfl
@[simp] theorem State.setCai_seqs (s : State) (p : Nat) (c : CaiSt) : (s.setCai p c).seqs = s.seqs := rfl
@[simp] theorem State.setCai_stream (s : State) (p : Nat) (c : CaiSt) : (s.setCai p c).stream = s.stream := rfl
@[simp] theorem State.setCai_cai (s : State) (p : Nat) (c : CaiSt) : (s.setCai p c).cai = tset s.cai p c := rfl
@[simp] theorem State.setCai_mem (s : State) (p : Nat) (c : CaiSt) : (s.setCai p c).mem = s.mem := rfl
@[simp] theorem State.setCai_dram (s : State) (p : Nat) (c : CaiSt) : (s.setCai p c).dram = s.dram := rfl
@[simp] theorem State.setCai_fetch (s : State) (p : Nat) (c : CaiSt) : (s.setCai p c).fetch = s.fetch := rfl
@[simp] theorem State.setCai_host (s : State) (p : Nat) (c : CaiSt) : (s.setCai p c).host = s.host := rfl
@[simp] theorem State.setCai_net (s : State) (p : Nat) (c : CaiSt) : (s.setCai p c).net = s.net := rfl
@[simp] theorem State.setCai_clk (s : State) (p : Nat) (c : CaiSt) : (s.setCai p c).clk = s.clk := rfl
@[simp] theorem State.setCai_nv (s : State) (p : Nat) (c : CaiSt) : (s.setCai p c).nv = s.nv := rfl
@[simp] theorem State.setCai_pflLast (s : State) (p : Nat) (c : CaiSt) : (s.setCai p c).pflLast = s.pflLast := rfl
@[simp] theorem State.setCai_ds (s : State) (p : Nat) (c : CaiSt) : (s.setCai p c).ds = s.ds := rfl
@[simp] theorem State.setCai_hostPath (s : State) (p : Nat) (c : CaiSt) : (s.setCai p c).hostPath = s.hostPath := rfl
@[simp] theorem State.setCai_mgmtPath (s : State) (p : Nat) (c : CaiSt) : (s.setCai p c).mgmtPath = s.mgmtPath := rfl
@[simp] theorem State.setCai_val (s : State) (p : Nat) (c : CaiSt) (k_ : Nat) : (s.setCai p c).val k_ = s.val k_ := rfl
@[simp] theorem State.setCai_par (s : State) (p : Nat) (c : CaiSt) (ix_ sub_ : Nat) : (s.setCai p c).par ix_ sub_ = s.par ix_ sub_ := rfl

/-! `setSlice` -/

@[simp] theorem State.setSlice_pending (s : State) (pier i : Nat) (x : SliceSt) : (s.setSlice pier i x).pending = s.pending := rfl
@[simp] theorem State.setSlice_out (s : State) (pier i : Nat) (x : SliceSt) : (s.setSlice pier i x).out = s.out := rfl
@[simp] theorem State.setSlice_fresh (s : State) (pier i : Nat) (x : SliceSt) : (s.setSlice pier i x).fresh = s.fresh := rfl
@[simp] theorem State.setSlice_resetHeld (s : State) (pier i : Nat) (x : SliceSt) : (s.setSlice pier i x).resetHeld = s.resetHeld := rfl
@[simp] theorem State.setSlice_now (s : State) (pier i : Nat) (x : SliceSt) : (s.setSlice pier i x).now = s.now := rfl
@[simp] theorem State.setSlice_dict (s : State) (pier i : Nat) (x : SliceSt) : (s.setSlice pier i x).dict = s.dict := rfl
@[simp] theorem State.setSlice_time (s : State) (pier i : Nat) (x : SliceSt) : (s.setSlice pier i x).time = s.time := rfl
@[simp] theorem State.setSlice_edge (s : State) (pier i : Nat) (x : SliceSt) : (s.setSlice pier i x).edge = s.edge := rfl
@[simp] theorem State.setSlice_run (s : State) (pier i : Nat) (x : SliceSt) : (s.setSlice pier i x).run = s.run := rfl
@[simp] theorem State.setSlice_guard (s : State) (pier i : Nat) (x : SliceSt) : (s.setSlice pier i x).guard = s.guard := rfl
@[simp] theorem State.setSlice_line (s : State) (pier i : Nat) (x : SliceSt) : (s.setSlice pier i x).line = s.line := rfl
@[simp] theorem State.setSlice_clockCause (s : State) (pier i : Nat) (x : SliceSt) : (s.setSlice pier i x).clockCause = s.clockCause := rfl
@[simp] theorem State.setSlice_brownCause (s : State) (pier i : Nat) (x : SliceSt) : (s.setSlice pier i x).brownCause = s.brownCause := rfl
@[simp] theorem State.setSlice_ex (s : State) (pier i : Nat) (x : SliceSt) : (s.setSlice pier i x).ex = s.ex := rfl
@[simp] theorem State.setSlice_ca (s : State) (pier i : Nat) (x : SliceSt) : (s.setSlice pier i x).ca = s.ca := rfl
@[simp] theorem State.setSlice_tone (s : State) (pier i : Nat) (x : SliceSt) : (s.setSlice pier i x).tone = s.tone := rfl
@[simp] theorem State.setSlice_clamp (s : State) (pier i : Nat) (x : SliceSt) : (s.setSlice pier i x).clamp = s.clamp := rfl
@[simp] theorem State.setSlice_conv (s : State) (pier i : Nat) (x : SliceSt) : (s.setSlice pier i x).conv = s.conv := rfl
@[simp] theorem State.setSlice_slice (s : State) (pier i : Nat) (x : SliceSt) : (s.setSlice pier i x).slice = tset s.slice (9 * pier + i) x := rfl
@[simp] theorem State.setSlice_overlap (s : State) (pier i : Nat) (x : SliceSt) : (s.setSlice pier i x).overlap = s.overlap := rfl
@[simp] theorem State.setSlice_staged (s : State) (pier i : Nat) (x : SliceSt) : (s.setSlice pier i x).staged = s.staged := rfl
@[simp] theorem State.setSlice_slots (s : State) (pier i : Nat) (x : SliceSt) : (s.setSlice pier i x).slots = s.slots := rfl
@[simp] theorem State.setSlice_markOut (s : State) (pier i : Nat) (x : SliceSt) : (s.setSlice pier i x).markOut = s.markOut := rfl
@[simp] theorem State.setSlice_markOutNum (s : State) (pier i : Nat) (x : SliceSt) : (s.setSlice pier i x).markOutNum = s.markOutNum := rfl
@[simp] theorem State.setSlice_driven (s : State) (pier i : Nat) (x : SliceSt) : (s.setSlice pier i x).driven = s.driven := rfl
@[simp] theorem State.setSlice_cw (s : State) (pier i : Nat) (x : SliceSt) : (s.setSlice pier i x).cw = s.cw := rfl
@[simp] theorem State.setSlice_src (s : State) (pier i : Nat) (x : SliceSt) : (s.setSlice pier i x).src = s.src := rfl
@[simp] theorem State.setSlice_units (s : State) (pier i : Nat) (x : SliceSt) : (s.setSlice pier i x).units = s.units := rfl
@[simp] theorem State.setSlice_seqs (s : State) (pier i : Nat) (x : SliceSt) : (s.setSlice pier i x).seqs = s.seqs := rfl
@[simp] theorem State.setSlice_stream (s : State) (pier i : Nat) (x : SliceSt) : (s.setSlice pier i x).stream = s.stream := rfl
@[simp] theorem State.setSlice_cai (s : State) (pier i : Nat) (x : SliceSt) : (s.setSlice pier i x).cai = s.cai := rfl
@[simp] theorem State.setSlice_mem (s : State) (pier i : Nat) (x : SliceSt) : (s.setSlice pier i x).mem = s.mem := rfl
@[simp] theorem State.setSlice_dram (s : State) (pier i : Nat) (x : SliceSt) : (s.setSlice pier i x).dram = s.dram := rfl
@[simp] theorem State.setSlice_fetch (s : State) (pier i : Nat) (x : SliceSt) : (s.setSlice pier i x).fetch = s.fetch := rfl
@[simp] theorem State.setSlice_host (s : State) (pier i : Nat) (x : SliceSt) : (s.setSlice pier i x).host = s.host := rfl
@[simp] theorem State.setSlice_net (s : State) (pier i : Nat) (x : SliceSt) : (s.setSlice pier i x).net = s.net := rfl
@[simp] theorem State.setSlice_clk (s : State) (pier i : Nat) (x : SliceSt) : (s.setSlice pier i x).clk = s.clk := rfl
@[simp] theorem State.setSlice_nv (s : State) (pier i : Nat) (x : SliceSt) : (s.setSlice pier i x).nv = s.nv := rfl
@[simp] theorem State.setSlice_pflLast (s : State) (pier i : Nat) (x : SliceSt) : (s.setSlice pier i x).pflLast = s.pflLast := rfl
@[simp] theorem State.setSlice_ds (s : State) (pier i : Nat) (x : SliceSt) : (s.setSlice pier i x).ds = s.ds := rfl
@[simp] theorem State.setSlice_hostPath (s : State) (pier i : Nat) (x : SliceSt) : (s.setSlice pier i x).hostPath = s.hostPath := rfl
@[simp] theorem State.setSlice_mgmtPath (s : State) (pier i : Nat) (x : SliceSt) : (s.setSlice pier i x).mgmtPath = s.mgmtPath := rfl
@[simp] theorem State.setSlice_val (s : State) (pier i : Nat) (x : SliceSt) (k_ : Nat) : (s.setSlice pier i x).val k_ = s.val k_ := rfl
@[simp] theorem State.setSlice_par (s : State) (pier i : Nat) (x : SliceSt) (ix_ sub_ : Nat) : (s.setSlice pier i x).par ix_ sub_ = s.par ix_ sub_ := rfl

/-! `setSub` -/

@[simp] theorem State.setSub_pending (s : State) (k : Nat) (x : Sub) : (s.setSub k x).pending = s.pending := rfl
@[simp] theorem State.setSub_out (s : State) (k : Nat) (x : Sub) : (s.setSub k x).out = s.out := rfl
@[simp] theorem State.setSub_fresh (s : State) (k : Nat) (x : Sub) : (s.setSub k x).fresh = s.fresh := rfl
@[simp] theorem State.setSub_resetHeld (s : State) (k : Nat) (x : Sub) : (s.setSub k x).resetHeld = s.resetHeld := rfl
@[simp] theorem State.setSub_now (s : State) (k : Nat) (x : Sub) : (s.setSub k x).now = s.now := rfl
@[simp] theorem State.setSub_dict (s : State) (k : Nat) (x : Sub) : (s.setSub k x).dict = s.dict := rfl
@[simp] theorem State.setSub_time (s : State) (k : Nat) (x : Sub) : (s.setSub k x).time = s.time := rfl
@[simp] theorem State.setSub_edge (s : State) (k : Nat) (x : Sub) : (s.setSub k x).edge = s.edge := rfl
@[simp] theorem State.setSub_run (s : State) (k : Nat) (x : Sub) : (s.setSub k x).run = s.run := rfl
@[simp] theorem State.setSub_guard (s : State) (k : Nat) (x : Sub) : (s.setSub k x).guard = s.guard := rfl
@[simp] theorem State.setSub_line (s : State) (k : Nat) (x : Sub) : (s.setSub k x).line = s.line := rfl
@[simp] theorem State.setSub_clockCause (s : State) (k : Nat) (x : Sub) : (s.setSub k x).clockCause = s.clockCause := rfl
@[simp] theorem State.setSub_brownCause (s : State) (k : Nat) (x : Sub) : (s.setSub k x).brownCause = s.brownCause := rfl
@[simp] theorem State.setSub_ex (s : State) (k : Nat) (x : Sub) : (s.setSub k x).ex = s.ex := rfl
@[simp] theorem State.setSub_ca (s : State) (k : Nat) (x : Sub) : (s.setSub k x).ca = s.ca := rfl
@[simp] theorem State.setSub_tone (s : State) (k : Nat) (x : Sub) : (s.setSub k x).tone = s.tone := rfl
@[simp] theorem State.setSub_clamp (s : State) (k : Nat) (x : Sub) : (s.setSub k x).clamp = s.clamp := rfl
@[simp] theorem State.setSub_conv (s : State) (k : Nat) (x : Sub) : (s.setSub k x).conv = s.conv := rfl
@[simp] theorem State.setSub_slice (s : State) (k : Nat) (x : Sub) : (s.setSub k x).slice = s.slice := rfl
@[simp] theorem State.setSub_overlap (s : State) (k : Nat) (x : Sub) : (s.setSub k x).overlap = s.overlap := rfl
@[simp] theorem State.setSub_staged (s : State) (k : Nat) (x : Sub) : (s.setSub k x).staged = s.staged := rfl
@[simp] theorem State.setSub_slots (s : State) (k : Nat) (x : Sub) : (s.setSub k x).slots = s.slots := rfl
@[simp] theorem State.setSub_markOut (s : State) (k : Nat) (x : Sub) : (s.setSub k x).markOut = s.markOut := rfl
@[simp] theorem State.setSub_markOutNum (s : State) (k : Nat) (x : Sub) : (s.setSub k x).markOutNum = s.markOutNum := rfl
@[simp] theorem State.setSub_driven (s : State) (k : Nat) (x : Sub) : (s.setSub k x).driven = s.driven := rfl
@[simp] theorem State.setSub_cw (s : State) (k : Nat) (x : Sub) : (s.setSub k x).cw = s.cw := rfl
@[simp] theorem State.setSub_src (s : State) (k : Nat) (x : Sub) : (s.setSub k x).src = s.src := rfl
@[simp] theorem State.setSub_units (s : State) (k : Nat) (x : Sub) : (s.setSub k x).units = s.units := rfl
@[simp] theorem State.setSub_seqs (s : State) (k : Nat) (x : Sub) : (s.setSub k x).seqs = s.seqs := rfl
@[simp] theorem State.setSub_stream (s : State) (k : Nat) (x : Sub) : (s.setSub k x).stream = s.stream := rfl
@[simp] theorem State.setSub_cai (s : State) (k : Nat) (x : Sub) : (s.setSub k x).cai = s.cai := rfl
@[simp] theorem State.setSub_mem (s : State) (k : Nat) (x : Sub) : (s.setSub k x).mem = s.mem := rfl
@[simp] theorem State.setSub_dram (s : State) (k : Nat) (x : Sub) : (s.setSub k x).dram = s.dram := rfl
@[simp] theorem State.setSub_fetch (s : State) (k : Nat) (x : Sub) : (s.setSub k x).fetch = s.fetch := rfl
@[simp] theorem State.setSub_host (s : State) (k : Nat) (x : Sub) : (s.setSub k x).host = s.host := rfl
@[simp] theorem State.setSub_net (s : State) (k : Nat) (x : Sub) : (s.setSub k x).net = { s.net with subs := tset s.net.subs k x } := rfl
@[simp] theorem State.setSub_clk (s : State) (k : Nat) (x : Sub) : (s.setSub k x).clk = s.clk := rfl
@[simp] theorem State.setSub_nv (s : State) (k : Nat) (x : Sub) : (s.setSub k x).nv = s.nv := rfl
@[simp] theorem State.setSub_pflLast (s : State) (k : Nat) (x : Sub) : (s.setSub k x).pflLast = s.pflLast := rfl
@[simp] theorem State.setSub_ds (s : State) (k : Nat) (x : Sub) : (s.setSub k x).ds = s.ds := rfl
@[simp] theorem State.setSub_hostPath (s : State) (k : Nat) (x : Sub) : (s.setSub k x).hostPath = s.hostPath := rfl
@[simp] theorem State.setSub_mgmtPath (s : State) (k : Nat) (x : Sub) : (s.setSub k x).mgmtPath = s.mgmtPath := rfl
@[simp] theorem State.setSub_val (s : State) (k : Nat) (x : Sub) (k_ : Nat) : (s.setSub k x).val k_ = s.val k_ := rfl
@[simp] theorem State.setSub_par (s : State) (k : Nat) (x : Sub) (ix_ sub_ : Nat) : (s.setSub k x).par ix_ sub_ = s.par ix_ sub_ := rfl

/-! `outletCarries` -/

@[simp] theorem State.outletCarries_pending (s : State) (n b : Nat) : (s.outletCarries n b).pending = s.pending := rfl
@[simp] theorem State.outletCarries_out (s : State) (n b : Nat) : (s.outletCarries n b).out = s.out := rfl
@[simp] theorem State.outletCarries_fresh (s : State) (n b : Nat) : (s.outletCarries n b).fresh = s.fresh := rfl
@[simp] theorem State.outletCarries_resetHeld (s : State) (n b : Nat) : (s.outletCarries n b).resetHeld = s.resetHeld := rfl
@[simp] theorem State.outletCarries_now (s : State) (n b : Nat) : (s.outletCarries n b).now = s.now := rfl
@[simp] theorem State.outletCarries_dict (s : State) (n b : Nat) : (s.outletCarries n b).dict = s.dict := rfl
@[simp] theorem State.outletCarries_time (s : State) (n b : Nat) : (s.outletCarries n b).time = s.time := rfl
@[simp] theorem State.outletCarries_edge (s : State) (n b : Nat) : (s.outletCarries n b).edge = s.edge := rfl
@[simp] theorem State.outletCarries_run (s : State) (n b : Nat) : (s.outletCarries n b).run = s.run := rfl
@[simp] theorem State.outletCarries_guard (s : State) (n b : Nat) : (s.outletCarries n b).guard = s.guard := rfl
@[simp] theorem State.outletCarries_line (s : State) (n b : Nat) : (s.outletCarries n b).line = s.line := rfl
@[simp] theorem State.outletCarries_clockCause (s : State) (n b : Nat) : (s.outletCarries n b).clockCause = s.clockCause := rfl
@[simp] theorem State.outletCarries_brownCause (s : State) (n b : Nat) : (s.outletCarries n b).brownCause = s.brownCause := rfl
@[simp] theorem State.outletCarries_ex (s : State) (n b : Nat) : (s.outletCarries n b).ex = s.ex := rfl
@[simp] theorem State.outletCarries_ca (s : State) (n b : Nat) : (s.outletCarries n b).ca = s.ca := rfl
@[simp] theorem State.outletCarries_tone (s : State) (n b : Nat) : (s.outletCarries n b).tone = s.tone := rfl
@[simp] theorem State.outletCarries_clamp (s : State) (n b : Nat) : (s.outletCarries n b).clamp = s.clamp := rfl
@[simp] theorem State.outletCarries_conv (s : State) (n b : Nat) : (s.outletCarries n b).conv = s.conv := rfl
@[simp] theorem State.outletCarries_slice (s : State) (n b : Nat) : (s.outletCarries n b).slice = s.slice := rfl
@[simp] theorem State.outletCarries_overlap (s : State) (n b : Nat) : (s.outletCarries n b).overlap = s.overlap := rfl
@[simp] theorem State.outletCarries_staged (s : State) (n b : Nat) : (s.outletCarries n b).staged = s.staged := rfl
@[simp] theorem State.outletCarries_slots (s : State) (n b : Nat) : (s.outletCarries n b).slots = s.slots := rfl
@[simp] theorem State.outletCarries_markOut (s : State) (n b : Nat) : (s.outletCarries n b).markOut = s.markOut := rfl
@[simp] theorem State.outletCarries_markOutNum (s : State) (n b : Nat) : (s.outletCarries n b).markOutNum = s.markOutNum := rfl
@[simp] theorem State.outletCarries_driven (s : State) (n b : Nat) : (s.outletCarries n b).driven = s.driven := rfl
@[simp] theorem State.outletCarries_cw (s : State) (n b : Nat) : (s.outletCarries n b).cw = s.cw := rfl
@[simp] theorem State.outletCarries_src (s : State) (n b : Nat) : (s.outletCarries n b).src = s.src := rfl
@[simp] theorem State.outletCarries_units (s : State) (n b : Nat) : (s.outletCarries n b).units = s.units := rfl
@[simp] theorem State.outletCarries_seqs (s : State) (n b : Nat) : (s.outletCarries n b).seqs = s.seqs := rfl
@[simp] theorem State.outletCarries_stream (s : State) (n b : Nat) : (s.outletCarries n b).stream = s.stream := rfl
@[simp] theorem State.outletCarries_cai (s : State) (n b : Nat) : (s.outletCarries n b).cai = s.cai := rfl
@[simp] theorem State.outletCarries_mem (s : State) (n b : Nat) : (s.outletCarries n b).mem = s.mem := rfl
@[simp] theorem State.outletCarries_dram (s : State) (n b : Nat) : (s.outletCarries n b).dram = s.dram := rfl
@[simp] theorem State.outletCarries_fetch (s : State) (n b : Nat) : (s.outletCarries n b).fetch = s.fetch := rfl
@[simp] theorem State.outletCarries_host (s : State) (n b : Nat) : (s.outletCarries n b).host = s.host := rfl
@[simp] theorem State.outletCarries_net (s : State) (n b : Nat) : (s.outletCarries n b).net = { s.net with evStream := tset s.net.evStream n (s.now + 128000 * b), evAny := s.now + 32000 * b } := rfl
@[simp] theorem State.outletCarries_clk (s : State) (n b : Nat) : (s.outletCarries n b).clk = s.clk := rfl
@[simp] theorem State.outletCarries_nv (s : State) (n b : Nat) : (s.outletCarries n b).nv = s.nv := rfl
@[simp] theorem State.outletCarries_pflLast (s : State) (n b : Nat) : (s.outletCarries n b).pflLast = s.pflLast := rfl
@[simp] theorem State.outletCarries_ds (s : State) (n b : Nat) : (s.outletCarries n b).ds = s.ds := rfl
@[simp] theorem State.outletCarries_hostPath (s : State) (n b : Nat) : (s.outletCarries n b).hostPath = s.hostPath := rfl
@[simp] theorem State.outletCarries_mgmtPath (s : State) (n b : Nat) : (s.outletCarries n b).mgmtPath = s.mgmtPath := rfl
@[simp] theorem State.outletCarries_val (s : State) (n b : Nat) (k_ : Nat) : (s.outletCarries n b).val k_ = s.val k_ := rfl
@[simp] theorem State.outletCarries_par (s : State) (n b : Nat) (ix_ sub_ : Nat) : (s.outletCarries n b).par ix_ sub_ = s.par ix_ sub_ := rfl

/-! `setFw` -/

@[simp] theorem State.setFw_pending (s : State) (n : Nat) (f : FwSlot) : (s.setFw n f).pending = s.pending := rfl
@[simp] theorem State.setFw_out (s : State) (n : Nat) (f : FwSlot) : (s.setFw n f).out = s.out := rfl
@[simp] theorem State.setFw_fresh (s : State) (n : Nat) (f : FwSlot) : (s.setFw n f).fresh = s.fresh := rfl
@[simp] theorem State.setFw_resetHeld (s : State) (n : Nat) (f : FwSlot) : (s.setFw n f).resetHeld = s.resetHeld := rfl
@[simp] theorem State.setFw_now (s : State) (n : Nat) (f : FwSlot) : (s.setFw n f).now = s.now := rfl
@[simp] theorem State.setFw_dict (s : State) (n : Nat) (f : FwSlot) : (s.setFw n f).dict = s.dict := rfl
@[simp] theorem State.setFw_time (s : State) (n : Nat) (f : FwSlot) : (s.setFw n f).time = s.time := rfl
@[simp] theorem State.setFw_edge (s : State) (n : Nat) (f : FwSlot) : (s.setFw n f).edge = s.edge := rfl
@[simp] theorem State.setFw_run (s : State) (n : Nat) (f : FwSlot) : (s.setFw n f).run = s.run := rfl
@[simp] theorem State.setFw_guard (s : State) (n : Nat) (f : FwSlot) : (s.setFw n f).guard = s.guard := rfl
@[simp] theorem State.setFw_line (s : State) (n : Nat) (f : FwSlot) : (s.setFw n f).line = s.line := rfl
@[simp] theorem State.setFw_clockCause (s : State) (n : Nat) (f : FwSlot) : (s.setFw n f).clockCause = s.clockCause := rfl
@[simp] theorem State.setFw_brownCause (s : State) (n : Nat) (f : FwSlot) : (s.setFw n f).brownCause = s.brownCause := rfl
@[simp] theorem State.setFw_ex (s : State) (n : Nat) (f : FwSlot) : (s.setFw n f).ex = s.ex := rfl
@[simp] theorem State.setFw_ca (s : State) (n : Nat) (f : FwSlot) : (s.setFw n f).ca = s.ca := rfl
@[simp] theorem State.setFw_tone (s : State) (n : Nat) (f : FwSlot) : (s.setFw n f).tone = s.tone := rfl
@[simp] theorem State.setFw_clamp (s : State) (n : Nat) (f : FwSlot) : (s.setFw n f).clamp = s.clamp := rfl
@[simp] theorem State.setFw_conv (s : State) (n : Nat) (f : FwSlot) : (s.setFw n f).conv = s.conv := rfl
@[simp] theorem State.setFw_slice (s : State) (n : Nat) (f : FwSlot) : (s.setFw n f).slice = s.slice := rfl
@[simp] theorem State.setFw_overlap (s : State) (n : Nat) (f : FwSlot) : (s.setFw n f).overlap = s.overlap := rfl
@[simp] theorem State.setFw_staged (s : State) (n : Nat) (f : FwSlot) : (s.setFw n f).staged = s.staged := rfl
@[simp] theorem State.setFw_slots (s : State) (n : Nat) (f : FwSlot) : (s.setFw n f).slots = s.slots := rfl
@[simp] theorem State.setFw_markOut (s : State) (n : Nat) (f : FwSlot) : (s.setFw n f).markOut = s.markOut := rfl
@[simp] theorem State.setFw_markOutNum (s : State) (n : Nat) (f : FwSlot) : (s.setFw n f).markOutNum = s.markOutNum := rfl
@[simp] theorem State.setFw_driven (s : State) (n : Nat) (f : FwSlot) : (s.setFw n f).driven = s.driven := rfl
@[simp] theorem State.setFw_cw (s : State) (n : Nat) (f : FwSlot) : (s.setFw n f).cw = s.cw := rfl
@[simp] theorem State.setFw_src (s : State) (n : Nat) (f : FwSlot) : (s.setFw n f).src = s.src := rfl
@[simp] theorem State.setFw_units (s : State) (n : Nat) (f : FwSlot) : (s.setFw n f).units = s.units := rfl
@[simp] theorem State.setFw_seqs (s : State) (n : Nat) (f : FwSlot) : (s.setFw n f).seqs = s.seqs := rfl
@[simp] theorem State.setFw_stream (s : State) (n : Nat) (f : FwSlot) : (s.setFw n f).stream = s.stream := rfl
@[simp] theorem State.setFw_cai (s : State) (n : Nat) (f : FwSlot) : (s.setFw n f).cai = s.cai := rfl
@[simp] theorem State.setFw_mem (s : State) (n : Nat) (f : FwSlot) : (s.setFw n f).mem = s.mem := rfl
@[simp] theorem State.setFw_dram (s : State) (n : Nat) (f : FwSlot) : (s.setFw n f).dram = s.dram := rfl
@[simp] theorem State.setFw_fetch (s : State) (n : Nat) (f : FwSlot) : (s.setFw n f).fetch = s.fetch := rfl
@[simp] theorem State.setFw_host (s : State) (n : Nat) (f : FwSlot) : (s.setFw n f).host = s.host := rfl
@[simp] theorem State.setFw_net (s : State) (n : Nat) (f : FwSlot) : (s.setFw n f).net = s.net := rfl
@[simp] theorem State.setFw_clk (s : State) (n : Nat) (f : FwSlot) : (s.setFw n f).clk = s.clk := rfl
@[simp] theorem State.setFw_nv (s : State) (n : Nat) (f : FwSlot) : (s.setFw n f).nv = { s.nv with fw := tset s.nv.fw n f } := rfl
@[simp] theorem State.setFw_pflLast (s : State) (n : Nat) (f : FwSlot) : (s.setFw n f).pflLast = s.pflLast := rfl
@[simp] theorem State.setFw_ds (s : State) (n : Nat) (f : FwSlot) : (s.setFw n f).ds = s.ds := rfl
@[simp] theorem State.setFw_hostPath (s : State) (n : Nat) (f : FwSlot) : (s.setFw n f).hostPath = s.hostPath := rfl
@[simp] theorem State.setFw_mgmtPath (s : State) (n : Nat) (f : FwSlot) : (s.setFw n f).mgmtPath = s.mgmtPath := rfl
@[simp] theorem State.setFw_val (s : State) (n : Nat) (f : FwSlot) (k_ : Nat) : (s.setFw n f).val k_ = s.val k_ := rfl
@[simp] theorem State.setFw_par (s : State) (n : Nat) (f : FwSlot) (ix_ sub_ : Nat) : (s.setFw n f).par ix_ sub_ = s.par ix_ sub_ := rfl

/-! `setConv` -/

@[simp] theorem State.setConv_pending (s : State) (lane : Nat) (c : ConvSt) : (s.setConv lane c).pending = s.pending := rfl
@[simp] theorem State.setConv_out (s : State) (lane : Nat) (c : ConvSt) : (s.setConv lane c).out = s.out := rfl
@[simp] theorem State.setConv_fresh (s : State) (lane : Nat) (c : ConvSt) : (s.setConv lane c).fresh = s.fresh := rfl
@[simp] theorem State.setConv_resetHeld (s : State) (lane : Nat) (c : ConvSt) : (s.setConv lane c).resetHeld = s.resetHeld := rfl
@[simp] theorem State.setConv_now (s : State) (lane : Nat) (c : ConvSt) : (s.setConv lane c).now = s.now := rfl
@[simp] theorem State.setConv_dict (s : State) (lane : Nat) (c : ConvSt) : (s.setConv lane c).dict = s.dict := rfl
@[simp] theorem State.setConv_time (s : State) (lane : Nat) (c : ConvSt) : (s.setConv lane c).time = s.time := rfl
@[simp] theorem State.setConv_edge (s : State) (lane : Nat) (c : ConvSt) : (s.setConv lane c).edge = s.edge := rfl
@[simp] theorem State.setConv_run (s : State) (lane : Nat) (c : ConvSt) : (s.setConv lane c).run = s.run := rfl
@[simp] theorem State.setConv_guard (s : State) (lane : Nat) (c : ConvSt) : (s.setConv lane c).guard = s.guard := rfl
@[simp] theorem State.setConv_line (s : State) (lane : Nat) (c : ConvSt) : (s.setConv lane c).line = s.line := rfl
@[simp] theorem State.setConv_clockCause (s : State) (lane : Nat) (c : ConvSt) : (s.setConv lane c).clockCause = s.clockCause := rfl
@[simp] theorem State.setConv_brownCause (s : State) (lane : Nat) (c : ConvSt) : (s.setConv lane c).brownCause = s.brownCause := rfl
@[simp] theorem State.setConv_ex (s : State) (lane : Nat) (c : ConvSt) : (s.setConv lane c).ex = s.ex := rfl
@[simp] theorem State.setConv_ca (s : State) (lane : Nat) (c : ConvSt) : (s.setConv lane c).ca = s.ca := rfl
@[simp] theorem State.setConv_tone (s : State) (lane : Nat) (c : ConvSt) : (s.setConv lane c).tone = s.tone := rfl
@[simp] theorem State.setConv_clamp (s : State) (lane : Nat) (c : ConvSt) : (s.setConv lane c).clamp = s.clamp := rfl
@[simp] theorem State.setConv_conv (s : State) (lane : Nat) (c : ConvSt) : (s.setConv lane c).conv = tset s.conv lane c := rfl
@[simp] theorem State.setConv_slice (s : State) (lane : Nat) (c : ConvSt) : (s.setConv lane c).slice = s.slice := rfl
@[simp] theorem State.setConv_overlap (s : State) (lane : Nat) (c : ConvSt) : (s.setConv lane c).overlap = s.overlap := rfl
@[simp] theorem State.setConv_staged (s : State) (lane : Nat) (c : ConvSt) : (s.setConv lane c).staged = s.staged := rfl
@[simp] theorem State.setConv_slots (s : State) (lane : Nat) (c : ConvSt) : (s.setConv lane c).slots = s.slots := rfl
@[simp] theorem State.setConv_markOut (s : State) (lane : Nat) (c : ConvSt) : (s.setConv lane c).markOut = s.markOut := rfl
@[simp] theorem State.setConv_markOutNum (s : State) (lane : Nat) (c : ConvSt) : (s.setConv lane c).markOutNum = s.markOutNum := rfl
@[simp] theorem State.setConv_driven (s : State) (lane : Nat) (c : ConvSt) : (s.setConv lane c).driven = s.driven := rfl
@[simp] theorem State.setConv_cw (s : State) (lane : Nat) (c : ConvSt) : (s.setConv lane c).cw = s.cw := rfl
@[simp] theorem State.setConv_src (s : State) (lane : Nat) (c : ConvSt) : (s.setConv lane c).src = s.src := rfl
@[simp] theorem State.setConv_units (s : State) (lane : Nat) (c : ConvSt) : (s.setConv lane c).units = s.units := rfl
@[simp] theorem State.setConv_seqs (s : State) (lane : Nat) (c : ConvSt) : (s.setConv lane c).seqs = s.seqs := rfl
@[simp] theorem State.setConv_stream (s : State) (lane : Nat) (c : ConvSt) : (s.setConv lane c).stream = s.stream := rfl
@[simp] theorem State.setConv_cai (s : State) (lane : Nat) (c : ConvSt) : (s.setConv lane c).cai = s.cai := rfl
@[simp] theorem State.setConv_mem (s : State) (lane : Nat) (c : ConvSt) : (s.setConv lane c).mem = s.mem := rfl
@[simp] theorem State.setConv_dram (s : State) (lane : Nat) (c : ConvSt) : (s.setConv lane c).dram = s.dram := rfl
@[simp] theorem State.setConv_fetch (s : State) (lane : Nat) (c : ConvSt) : (s.setConv lane c).fetch = s.fetch := rfl
@[simp] theorem State.setConv_host (s : State) (lane : Nat) (c : ConvSt) : (s.setConv lane c).host = s.host := rfl
@[simp] theorem State.setConv_net (s : State) (lane : Nat) (c : ConvSt) : (s.setConv lane c).net = s.net := rfl
@[simp] theorem State.setConv_clk (s : State) (lane : Nat) (c : ConvSt) : (s.setConv lane c).clk = s.clk := rfl
@[simp] theorem State.setConv_nv (s : State) (lane : Nat) (c : ConvSt) : (s.setConv lane c).nv = s.nv := rfl
@[simp] theorem State.setConv_pflLast (s : State) (lane : Nat) (c : ConvSt) : (s.setConv lane c).pflLast = s.pflLast := rfl
@[simp] theorem State.setConv_ds (s : State) (lane : Nat) (c : ConvSt) : (s.setConv lane c).ds = s.ds := rfl
@[simp] theorem State.setConv_hostPath (s : State) (lane : Nat) (c : ConvSt) : (s.setConv lane c).hostPath = s.hostPath := rfl
@[simp] theorem State.setConv_mgmtPath (s : State) (lane : Nat) (c : ConvSt) : (s.setConv lane c).mgmtPath = s.mgmtPath := rfl
@[simp] theorem State.setConv_val (s : State) (lane : Nat) (c : ConvSt) (k_ : Nat) : (s.setConv lane c).val k_ = s.val k_ := rfl
@[simp] theorem State.setConv_par (s : State) (lane : Nat) (c : ConvSt) (ix_ sub_ : Nat) : (s.setConv lane c).par ix_ sub_ = s.par ix_ sub_ := rfl

/-! `setEx` -/

@[simp] theorem State.setEx_pending (s : State) (k : Nat) (e : ExSt) : (s.setEx k e).pending = s.pending := rfl
@[simp] theorem State.setEx_out (s : State) (k : Nat) (e : ExSt) : (s.setEx k e).out = s.out := rfl
@[simp] theorem State.setEx_fresh (s : State) (k : Nat) (e : ExSt) : (s.setEx k e).fresh = s.fresh := rfl
@[simp] theorem State.setEx_resetHeld (s : State) (k : Nat) (e : ExSt) : (s.setEx k e).resetHeld = s.resetHeld := rfl
@[simp] theorem State.setEx_now (s : State) (k : Nat) (e : ExSt) : (s.setEx k e).now = s.now := rfl
@[simp] theorem State.setEx_dict (s : State) (k : Nat) (e : ExSt) : (s.setEx k e).dict = s.dict := rfl
@[simp] theorem State.setEx_time (s : State) (k : Nat) (e : ExSt) : (s.setEx k e).time = s.time := rfl
@[simp] theorem State.setEx_edge (s : State) (k : Nat) (e : ExSt) : (s.setEx k e).edge = s.edge := rfl
@[simp] theorem State.setEx_run (s : State) (k : Nat) (e : ExSt) : (s.setEx k e).run = s.run := rfl
@[simp] theorem State.setEx_guard (s : State) (k : Nat) (e : ExSt) : (s.setEx k e).guard = s.guard := rfl
@[simp] theorem State.setEx_line (s : State) (k : Nat) (e : ExSt) : (s.setEx k e).line = s.line := rfl
@[simp] theorem State.setEx_clockCause (s : State) (k : Nat) (e : ExSt) : (s.setEx k e).clockCause = s.clockCause := rfl
@[simp] theorem State.setEx_brownCause (s : State) (k : Nat) (e : ExSt) : (s.setEx k e).brownCause = s.brownCause := rfl
@[simp] theorem State.setEx_ex (s : State) (k : Nat) (e : ExSt) : (s.setEx k e).ex = tset s.ex k e := rfl
@[simp] theorem State.setEx_ca (s : State) (k : Nat) (e : ExSt) : (s.setEx k e).ca = s.ca := rfl
@[simp] theorem State.setEx_tone (s : State) (k : Nat) (e : ExSt) : (s.setEx k e).tone = s.tone := rfl
@[simp] theorem State.setEx_clamp (s : State) (k : Nat) (e : ExSt) : (s.setEx k e).clamp = s.clamp := rfl
@[simp] theorem State.setEx_conv (s : State) (k : Nat) (e : ExSt) : (s.setEx k e).conv = s.conv := rfl
@[simp] theorem State.setEx_slice (s : State) (k : Nat) (e : ExSt) : (s.setEx k e).slice = s.slice := rfl
@[simp] theorem State.setEx_overlap (s : State) (k : Nat) (e : ExSt) : (s.setEx k e).overlap = s.overlap := rfl
@[simp] theorem State.setEx_staged (s : State) (k : Nat) (e : ExSt) : (s.setEx k e).staged = s.staged := rfl
@[simp] theorem State.setEx_slots (s : State) (k : Nat) (e : ExSt) : (s.setEx k e).slots = s.slots := rfl
@[simp] theorem State.setEx_markOut (s : State) (k : Nat) (e : ExSt) : (s.setEx k e).markOut = s.markOut := rfl
@[simp] theorem State.setEx_markOutNum (s : State) (k : Nat) (e : ExSt) : (s.setEx k e).markOutNum = s.markOutNum := rfl
@[simp] theorem State.setEx_driven (s : State) (k : Nat) (e : ExSt) : (s.setEx k e).driven = s.driven := rfl
@[simp] theorem State.setEx_cw (s : State) (k : Nat) (e : ExSt) : (s.setEx k e).cw = s.cw := rfl
@[simp] theorem State.setEx_src (s : State) (k : Nat) (e : ExSt) : (s.setEx k e).src = s.src := rfl
@[simp] theorem State.setEx_units (s : State) (k : Nat) (e : ExSt) : (s.setEx k e).units = s.units := rfl
@[simp] theorem State.setEx_seqs (s : State) (k : Nat) (e : ExSt) : (s.setEx k e).seqs = s.seqs := rfl
@[simp] theorem State.setEx_stream (s : State) (k : Nat) (e : ExSt) : (s.setEx k e).stream = s.stream := rfl
@[simp] theorem State.setEx_cai (s : State) (k : Nat) (e : ExSt) : (s.setEx k e).cai = s.cai := rfl
@[simp] theorem State.setEx_mem (s : State) (k : Nat) (e : ExSt) : (s.setEx k e).mem = s.mem := rfl
@[simp] theorem State.setEx_dram (s : State) (k : Nat) (e : ExSt) : (s.setEx k e).dram = s.dram := rfl
@[simp] theorem State.setEx_fetch (s : State) (k : Nat) (e : ExSt) : (s.setEx k e).fetch = s.fetch := rfl
@[simp] theorem State.setEx_host (s : State) (k : Nat) (e : ExSt) : (s.setEx k e).host = s.host := rfl
@[simp] theorem State.setEx_net (s : State) (k : Nat) (e : ExSt) : (s.setEx k e).net = s.net := rfl
@[simp] theorem State.setEx_clk (s : State) (k : Nat) (e : ExSt) : (s.setEx k e).clk = s.clk := rfl
@[simp] theorem State.setEx_nv (s : State) (k : Nat) (e : ExSt) : (s.setEx k e).nv = s.nv := rfl
@[simp] theorem State.setEx_pflLast (s : State) (k : Nat) (e : ExSt) : (s.setEx k e).pflLast = s.pflLast := rfl
@[simp] theorem State.setEx_ds (s : State) (k : Nat) (e : ExSt) : (s.setEx k e).ds = s.ds := rfl
@[simp] theorem State.setEx_hostPath (s : State) (k : Nat) (e : ExSt) : (s.setEx k e).hostPath = s.hostPath := rfl
@[simp] theorem State.setEx_mgmtPath (s : State) (k : Nat) (e : ExSt) : (s.setEx k e).mgmtPath = s.mgmtPath := rfl
@[simp] theorem State.setEx_val (s : State) (k : Nat) (e : ExSt) (k_ : Nat) : (s.setEx k e).val k_ = s.val k_ := rfl
@[simp] theorem State.setEx_par (s : State) (k : Nat) (e : ExSt) (ix_ sub_ : Nat) : (s.setEx k e).par ix_ sub_ = s.par ix_ sub_ := rfl

/-! `setCfg` -/

@[simp] theorem State.setCfg_pending (s : State) (off v : Nat) : (s.setCfg off v).pending = s.pending := rfl
@[simp] theorem State.setCfg_out (s : State) (off v : Nat) : (s.setCfg off v).out = s.out := rfl
@[simp] theorem State.setCfg_fresh (s : State) (off v : Nat) : (s.setCfg off v).fresh = s.fresh := rfl
@[simp] theorem State.setCfg_resetHeld (s : State) (off v : Nat) : (s.setCfg off v).resetHeld = s.resetHeld := rfl
@[simp] theorem State.setCfg_now (s : State) (off v : Nat) : (s.setCfg off v).now = s.now := rfl
@[simp] theorem State.setCfg_dict (s : State) (off v : Nat) : (s.setCfg off v).dict = s.dict := rfl
@[simp] theorem State.setCfg_time (s : State) (off v : Nat) : (s.setCfg off v).time = s.time := rfl
@[simp] theorem State.setCfg_edge (s : State) (off v : Nat) : (s.setCfg off v).edge = s.edge := rfl
@[simp] theorem State.setCfg_run (s : State) (off v : Nat) : (s.setCfg off v).run = s.run := rfl
@[simp] theorem State.setCfg_guard (s : State) (off v : Nat) : (s.setCfg off v).guard = s.guard := rfl
@[simp] theorem State.setCfg_line (s : State) (off v : Nat) : (s.setCfg off v).line = s.line := rfl
@[simp] theorem State.setCfg_clockCause (s : State) (off v : Nat) : (s.setCfg off v).clockCause = s.clockCause := rfl
@[simp] theorem State.setCfg_brownCause (s : State) (off v : Nat) : (s.setCfg off v).brownCause = s.brownCause := rfl
@[simp] theorem State.setCfg_ex (s : State) (off v : Nat) : (s.setCfg off v).ex = s.ex := rfl
@[simp] theorem State.setCfg_ca (s : State) (off v : Nat) : (s.setCfg off v).ca = s.ca := rfl
@[simp] theorem State.setCfg_tone (s : State) (off v : Nat) : (s.setCfg off v).tone = s.tone := rfl
@[simp] theorem State.setCfg_clamp (s : State) (off v : Nat) : (s.setCfg off v).clamp = s.clamp := rfl
@[simp] theorem State.setCfg_conv (s : State) (off v : Nat) : (s.setCfg off v).conv = s.conv := rfl
@[simp] theorem State.setCfg_slice (s : State) (off v : Nat) : (s.setCfg off v).slice = s.slice := rfl
@[simp] theorem State.setCfg_overlap (s : State) (off v : Nat) : (s.setCfg off v).overlap = s.overlap := rfl
@[simp] theorem State.setCfg_staged (s : State) (off v : Nat) : (s.setCfg off v).staged = s.staged := rfl
@[simp] theorem State.setCfg_slots (s : State) (off v : Nat) : (s.setCfg off v).slots = s.slots := rfl
@[simp] theorem State.setCfg_markOut (s : State) (off v : Nat) : (s.setCfg off v).markOut = s.markOut := rfl
@[simp] theorem State.setCfg_markOutNum (s : State) (off v : Nat) : (s.setCfg off v).markOutNum = s.markOutNum := rfl
@[simp] theorem State.setCfg_driven (s : State) (off v : Nat) : (s.setCfg off v).driven = s.driven := rfl
@[simp] theorem State.setCfg_cw (s : State) (off v : Nat) : (s.setCfg off v).cw = s.cw := rfl
@[simp] theorem State.setCfg_src (s : State) (off v : Nat) : (s.setCfg off v).src = s.src := rfl
@[simp] theorem State.setCfg_units (s : State) (off v : Nat) : (s.setCfg off v).units = s.units := rfl
@[simp] theorem State.setCfg_seqs (s : State) (off v : Nat) : (s.setCfg off v).seqs = s.seqs := rfl
@[simp] theorem State.setCfg_stream (s : State) (off v : Nat) : (s.setCfg off v).stream = s.stream := rfl
@[simp] theorem State.setCfg_cai (s : State) (off v : Nat) : (s.setCfg off v).cai = s.cai := rfl
@[simp] theorem State.setCfg_mem (s : State) (off v : Nat) : (s.setCfg off v).mem = s.mem := rfl
@[simp] theorem State.setCfg_dram (s : State) (off v : Nat) : (s.setCfg off v).dram = s.dram := rfl
@[simp] theorem State.setCfg_fetch (s : State) (off v : Nat) : (s.setCfg off v).fetch = s.fetch := rfl
@[simp] theorem State.setCfg_host (s : State) (off v : Nat) : (s.setCfg off v).host = { s.host with cfg := tset s.host.cfg off v } := rfl
@[simp] theorem State.setCfg_net (s : State) (off v : Nat) : (s.setCfg off v).net = s.net := rfl
@[simp] theorem State.setCfg_clk (s : State) (off v : Nat) : (s.setCfg off v).clk = s.clk := rfl
@[simp] theorem State.setCfg_nv (s : State) (off v : Nat) : (s.setCfg off v).nv = s.nv := rfl
@[simp] theorem State.setCfg_pflLast (s : State) (off v : Nat) : (s.setCfg off v).pflLast = s.pflLast := rfl
@[simp] theorem State.setCfg_ds (s : State) (off v : Nat) : (s.setCfg off v).ds = s.ds := rfl
@[simp] theorem State.setCfg_hostPath (s : State) (off v : Nat) : (s.setCfg off v).hostPath = s.hostPath := rfl
@[simp] theorem State.setCfg_mgmtPath (s : State) (off v : Nat) : (s.setCfg off v).mgmtPath = s.mgmtPath := rfl
@[simp] theorem State.setCfg_val (s : State) (off v : Nat) (k_ : Nat) : (s.setCfg off v).val k_ = s.val k_ := rfl
@[simp] theorem State.setCfg_par (s : State) (off v : Nat) (ix_ sub_ : Nat) : (s.setCfg off v).par ix_ sub_ = s.par ix_ sub_ := rfl

/-! `cfgLoad` -/

@[simp] theorem State.cfgLoad_pending (s : State) : (s.cfgLoad).pending = s.pending := rfl
@[simp] theorem State.cfgLoad_out (s : State) : (s.cfgLoad).out = s.out := rfl
@[simp] theorem State.cfgLoad_fresh (s : State) : (s.cfgLoad).fresh = s.fresh := rfl
@[simp] theorem State.cfgLoad_resetHeld (s : State) : (s.cfgLoad).resetHeld = s.resetHeld := rfl
@[simp] theorem State.cfgLoad_now (s : State) : (s.cfgLoad).now = s.now := rfl
@[simp] theorem State.cfgLoad_dict (s : State) : (s.cfgLoad).dict = s.dict := rfl
@[simp] theorem State.cfgLoad_time (s : State) : (s.cfgLoad).time = s.time := rfl
@[simp] theorem State.cfgLoad_edge (s : State) : (s.cfgLoad).edge = s.edge := rfl
@[simp] theorem State.cfgLoad_run (s : State) : (s.cfgLoad).run = s.run := rfl
@[simp] theorem State.cfgLoad_guard (s : State) : (s.cfgLoad).guard = s.guard := rfl
@[simp] theorem State.cfgLoad_line (s : State) : (s.cfgLoad).line = s.line := rfl
@[simp] theorem State.cfgLoad_clockCause (s : State) : (s.cfgLoad).clockCause = s.clockCause := rfl
@[simp] theorem State.cfgLoad_brownCause (s : State) : (s.cfgLoad).brownCause = s.brownCause := rfl
@[simp] theorem State.cfgLoad_ex (s : State) : (s.cfgLoad).ex = s.ex := rfl
@[simp] theorem State.cfgLoad_ca (s : State) : (s.cfgLoad).ca = s.ca := rfl
@[simp] theorem State.cfgLoad_tone (s : State) : (s.cfgLoad).tone = s.tone := rfl
@[simp] theorem State.cfgLoad_clamp (s : State) : (s.cfgLoad).clamp = s.clamp := rfl
@[simp] theorem State.cfgLoad_conv (s : State) : (s.cfgLoad).conv = s.conv := rfl
@[simp] theorem State.cfgLoad_slice (s : State) : (s.cfgLoad).slice = s.slice := rfl
@[simp] theorem State.cfgLoad_overlap (s : State) : (s.cfgLoad).overlap = s.overlap := rfl
@[simp] theorem State.cfgLoad_staged (s : State) : (s.cfgLoad).staged = s.staged := rfl
@[simp] theorem State.cfgLoad_slots (s : State) : (s.cfgLoad).slots = s.slots := rfl
@[simp] theorem State.cfgLoad_markOut (s : State) : (s.cfgLoad).markOut = s.markOut := rfl
@[simp] theorem State.cfgLoad_markOutNum (s : State) : (s.cfgLoad).markOutNum = s.markOutNum := rfl
@[simp] theorem State.cfgLoad_driven (s : State) : (s.cfgLoad).driven = s.driven := rfl
@[simp] theorem State.cfgLoad_cw (s : State) : (s.cfgLoad).cw = s.cw := rfl
@[simp] theorem State.cfgLoad_src (s : State) : (s.cfgLoad).src = s.src := rfl
@[simp] theorem State.cfgLoad_units (s : State) : (s.cfgLoad).units = s.units := rfl
@[simp] theorem State.cfgLoad_seqs (s : State) : (s.cfgLoad).seqs = s.seqs := rfl
@[simp] theorem State.cfgLoad_stream (s : State) : (s.cfgLoad).stream = s.stream := rfl
@[simp] theorem State.cfgLoad_cai (s : State) : (s.cfgLoad).cai = s.cai := rfl
@[simp] theorem State.cfgLoad_mem (s : State) : (s.cfgLoad).mem = s.mem := rfl
@[simp] theorem State.cfgLoad_dram (s : State) : (s.cfgLoad).dram = s.dram := rfl
@[simp] theorem State.cfgLoad_fetch (s : State) : (s.cfgLoad).fetch = s.fetch := rfl
@[simp] theorem State.cfgLoad_host (s : State) : (s.cfgLoad).host = { s.host with subsys := s.par Ix.hostSubsysId 0, bar4Reset := s.par Ix.hostBar4ResetLog2 0 } := rfl
@[simp] theorem State.cfgLoad_net (s : State) : (s.cfgLoad).net = s.net := rfl
@[simp] theorem State.cfgLoad_clk (s : State) : (s.cfgLoad).clk = s.clk := rfl
@[simp] theorem State.cfgLoad_nv (s : State) : (s.cfgLoad).nv = s.nv := rfl
@[simp] theorem State.cfgLoad_pflLast (s : State) : (s.cfgLoad).pflLast = s.pflLast := rfl
@[simp] theorem State.cfgLoad_ds (s : State) : (s.cfgLoad).ds = s.ds := rfl
@[simp] theorem State.cfgLoad_hostPath (s : State) : (s.cfgLoad).hostPath = s.hostPath := rfl
@[simp] theorem State.cfgLoad_mgmtPath (s : State) : (s.cfgLoad).mgmtPath = s.mgmtPath := rfl
@[simp] theorem State.cfgLoad_val (s : State) (k_ : Nat) : (s.cfgLoad).val k_ = s.val k_ := rfl
@[simp] theorem State.cfgLoad_par (s : State) (ix_ sub_ : Nat) : (s.cfgLoad).par ix_ sub_ = s.par ix_ sub_ := rfl

/-! `setRing` -/

@[simp] theorem State.setRing_pending (s : State) (n : Nat) (r : RingSt) : (s.setRing n r).pending = s.pending := rfl
@[simp] theorem State.setRing_out (s : State) (n : Nat) (r : RingSt) : (s.setRing n r).out = s.out := rfl
@[simp] theorem State.setRing_fresh (s : State) (n : Nat) (r : RingSt) : (s.setRing n r).fresh = s.fresh := rfl
@[simp] theorem State.setRing_resetHeld (s : State) (n : Nat) (r : RingSt) : (s.setRing n r).resetHeld = s.resetHeld := rfl
@[simp] theorem State.setRing_now (s : State) (n : Nat) (r : RingSt) : (s.setRing n r).now = s.now := rfl
@[simp] theorem State.setRing_dict (s : State) (n : Nat) (r : RingSt) : (s.setRing n r).dict = s.dict := rfl
@[simp] theorem State.setRing_time (s : State) (n : Nat) (r : RingSt) : (s.setRing n r).time = s.time := rfl
@[simp] theorem State.setRing_edge (s : State) (n : Nat) (r : RingSt) : (s.setRing n r).edge = s.edge := rfl
@[simp] theorem State.setRing_run (s : State) (n : Nat) (r : RingSt) : (s.setRing n r).run = s.run := rfl
@[simp] theorem State.setRing_guard (s : State) (n : Nat) (r : RingSt) : (s.setRing n r).guard = s.guard := rfl
@[simp] theorem State.setRing_line (s : State) (n : Nat) (r : RingSt) : (s.setRing n r).line = s.line := rfl
@[simp] theorem State.setRing_clockCause (s : State) (n : Nat) (r : RingSt) : (s.setRing n r).clockCause = s.clockCause := rfl
@[simp] theorem State.setRing_brownCause (s : State) (n : Nat) (r : RingSt) : (s.setRing n r).brownCause = s.brownCause := rfl
@[simp] theorem State.setRing_ex (s : State) (n : Nat) (r : RingSt) : (s.setRing n r).ex = s.ex := rfl
@[simp] theorem State.setRing_ca (s : State) (n : Nat) (r : RingSt) : (s.setRing n r).ca = s.ca := rfl
@[simp] theorem State.setRing_tone (s : State) (n : Nat) (r : RingSt) : (s.setRing n r).tone = s.tone := rfl
@[simp] theorem State.setRing_clamp (s : State) (n : Nat) (r : RingSt) : (s.setRing n r).clamp = s.clamp := rfl
@[simp] theorem State.setRing_conv (s : State) (n : Nat) (r : RingSt) : (s.setRing n r).conv = s.conv := rfl
@[simp] theorem State.setRing_slice (s : State) (n : Nat) (r : RingSt) : (s.setRing n r).slice = s.slice := rfl
@[simp] theorem State.setRing_overlap (s : State) (n : Nat) (r : RingSt) : (s.setRing n r).overlap = s.overlap := rfl
@[simp] theorem State.setRing_staged (s : State) (n : Nat) (r : RingSt) : (s.setRing n r).staged = s.staged := rfl
@[simp] theorem State.setRing_slots (s : State) (n : Nat) (r : RingSt) : (s.setRing n r).slots = s.slots := rfl
@[simp] theorem State.setRing_markOut (s : State) (n : Nat) (r : RingSt) : (s.setRing n r).markOut = s.markOut := rfl
@[simp] theorem State.setRing_markOutNum (s : State) (n : Nat) (r : RingSt) : (s.setRing n r).markOutNum = s.markOutNum := rfl
@[simp] theorem State.setRing_driven (s : State) (n : Nat) (r : RingSt) : (s.setRing n r).driven = s.driven := rfl
@[simp] theorem State.setRing_cw (s : State) (n : Nat) (r : RingSt) : (s.setRing n r).cw = s.cw := rfl
@[simp] theorem State.setRing_src (s : State) (n : Nat) (r : RingSt) : (s.setRing n r).src = s.src := rfl
@[simp] theorem State.setRing_units (s : State) (n : Nat) (r : RingSt) : (s.setRing n r).units = s.units := rfl
@[simp] theorem State.setRing_seqs (s : State) (n : Nat) (r : RingSt) : (s.setRing n r).seqs = s.seqs := rfl
@[simp] theorem State.setRing_stream (s : State) (n : Nat) (r : RingSt) : (s.setRing n r).stream = s.stream := rfl
@[simp] theorem State.setRing_cai (s : State) (n : Nat) (r : RingSt) : (s.setRing n r).cai = s.cai := rfl
@[simp] theorem State.setRing_mem (s : State) (n : Nat) (r : RingSt) : (s.setRing n r).mem = s.mem := rfl
@[simp] theorem State.setRing_dram (s : State) (n : Nat) (r : RingSt) : (s.setRing n r).dram = s.dram := rfl
@[simp] theorem State.setRing_fetch (s : State) (n : Nat) (r : RingSt) : (s.setRing n r).fetch = s.fetch := rfl
@[simp] theorem State.setRing_host (s : State) (n : Nat) (r : RingSt) : (s.setRing n r).host = { s.host with rings := tset s.host.rings n r } := rfl
@[simp] theorem State.setRing_net (s : State) (n : Nat) (r : RingSt) : (s.setRing n r).net = s.net := rfl
@[simp] theorem State.setRing_clk (s : State) (n : Nat) (r : RingSt) : (s.setRing n r).clk = s.clk := rfl
@[simp] theorem State.setRing_nv (s : State) (n : Nat) (r : RingSt) : (s.setRing n r).nv = s.nv := rfl
@[simp] theorem State.setRing_pflLast (s : State) (n : Nat) (r : RingSt) : (s.setRing n r).pflLast = s.pflLast := rfl
@[simp] theorem State.setRing_ds (s : State) (n : Nat) (r : RingSt) : (s.setRing n r).ds = s.ds := rfl
@[simp] theorem State.setRing_hostPath (s : State) (n : Nat) (r : RingSt) : (s.setRing n r).hostPath = s.hostPath := rfl
@[simp] theorem State.setRing_mgmtPath (s : State) (n : Nat) (r : RingSt) : (s.setRing n r).mgmtPath = s.mgmtPath := rfl
@[simp] theorem State.setRing_val (s : State) (n : Nat) (r : RingSt) (k_ : Nat) : (s.setRing n r).val k_ = s.val k_ := rfl
@[simp] theorem State.setRing_par (s : State) (n : Nat) (r : RingSt) (ix_ sub_ : Nat) : (s.setRing n r).par ix_ sub_ = s.par ix_ sub_ := rfl

/-! `strike` -/

@[simp] theorem State.strike_pending (s : State) (errs : List CodeErr) : (s.strike errs).pending = s.pending := rfl
@[simp] theorem State.strike_out (s : State) (errs : List CodeErr) : (s.strike errs).out = s.out := rfl
@[simp] theorem State.strike_fresh (s : State) (errs : List CodeErr) : (s.strike errs).fresh = s.fresh := rfl
@[simp] theorem State.strike_resetHeld (s : State) (errs : List CodeErr) : (s.strike errs).resetHeld = s.resetHeld := rfl
@[simp] theorem State.strike_now (s : State) (errs : List CodeErr) : (s.strike errs).now = s.now := rfl
@[simp] theorem State.strike_dict (s : State) (errs : List CodeErr) : (s.strike errs).dict = s.dict := rfl
@[simp] theorem State.strike_time (s : State) (errs : List CodeErr) : (s.strike errs).time = s.time := rfl
@[simp] theorem State.strike_edge (s : State) (errs : List CodeErr) : (s.strike errs).edge = s.edge := rfl
@[simp] theorem State.strike_run (s : State) (errs : List CodeErr) : (s.strike errs).run = s.run := rfl
@[simp] theorem State.strike_guard (s : State) (errs : List CodeErr) : (s.strike errs).guard = s.guard := rfl
@[simp] theorem State.strike_line (s : State) (errs : List CodeErr) : (s.strike errs).line = s.line := rfl
@[simp] theorem State.strike_clockCause (s : State) (errs : List CodeErr) : (s.strike errs).clockCause = s.clockCause := rfl
@[simp] theorem State.strike_brownCause (s : State) (errs : List CodeErr) : (s.strike errs).brownCause = s.brownCause := rfl
@[simp] theorem State.strike_ex (s : State) (errs : List CodeErr) : (s.strike errs).ex = s.ex := rfl
@[simp] theorem State.strike_ca (s : State) (errs : List CodeErr) : (s.strike errs).ca = s.ca := rfl
@[simp] theorem State.strike_tone (s : State) (errs : List CodeErr) : (s.strike errs).tone = s.tone := rfl
@[simp] theorem State.strike_clamp (s : State) (errs : List CodeErr) : (s.strike errs).clamp = s.clamp := rfl
@[simp] theorem State.strike_conv (s : State) (errs : List CodeErr) : (s.strike errs).conv = s.conv := rfl
@[simp] theorem State.strike_slice (s : State) (errs : List CodeErr) : (s.strike errs).slice = s.slice := rfl
@[simp] theorem State.strike_overlap (s : State) (errs : List CodeErr) : (s.strike errs).overlap = s.overlap := rfl
@[simp] theorem State.strike_staged (s : State) (errs : List CodeErr) : (s.strike errs).staged = s.staged := rfl
@[simp] theorem State.strike_slots (s : State) (errs : List CodeErr) : (s.strike errs).slots = s.slots := rfl
@[simp] theorem State.strike_markOut (s : State) (errs : List CodeErr) : (s.strike errs).markOut = s.markOut := rfl
@[simp] theorem State.strike_markOutNum (s : State) (errs : List CodeErr) : (s.strike errs).markOutNum = s.markOutNum := rfl
@[simp] theorem State.strike_driven (s : State) (errs : List CodeErr) : (s.strike errs).driven = s.driven := rfl
@[simp] theorem State.strike_cw (s : State) (errs : List CodeErr) : (s.strike errs).cw = s.cw := rfl
@[simp] theorem State.strike_src (s : State) (errs : List CodeErr) : (s.strike errs).src = s.src := rfl
@[simp] theorem State.strike_units (s : State) (errs : List CodeErr) : (s.strike errs).units = s.units := rfl
@[simp] theorem State.strike_seqs (s : State) (errs : List CodeErr) : (s.strike errs).seqs = s.seqs := rfl
@[simp] theorem State.strike_stream (s : State) (errs : List CodeErr) : (s.strike errs).stream = s.stream := rfl
@[simp] theorem State.strike_cai (s : State) (errs : List CodeErr) : (s.strike errs).cai = s.cai := rfl
@[simp] theorem State.strike_mem (s : State) (errs : List CodeErr) : (s.strike errs).mem = s.mem := rfl
@[simp] theorem State.strike_dram (s : State) (errs : List CodeErr) : (s.strike errs).dram = { s.dram with bad := errs.foldl strikeOne s.dram.bad } := rfl
@[simp] theorem State.strike_fetch (s : State) (errs : List CodeErr) : (s.strike errs).fetch = s.fetch := rfl
@[simp] theorem State.strike_host (s : State) (errs : List CodeErr) : (s.strike errs).host = s.host := rfl
@[simp] theorem State.strike_net (s : State) (errs : List CodeErr) : (s.strike errs).net = s.net := rfl
@[simp] theorem State.strike_clk (s : State) (errs : List CodeErr) : (s.strike errs).clk = s.clk := rfl
@[simp] theorem State.strike_nv (s : State) (errs : List CodeErr) : (s.strike errs).nv = s.nv := rfl
@[simp] theorem State.strike_pflLast (s : State) (errs : List CodeErr) : (s.strike errs).pflLast = s.pflLast := rfl
@[simp] theorem State.strike_ds (s : State) (errs : List CodeErr) : (s.strike errs).ds = s.ds := rfl
@[simp] theorem State.strike_hostPath (s : State) (errs : List CodeErr) : (s.strike errs).hostPath = s.hostPath := rfl
@[simp] theorem State.strike_mgmtPath (s : State) (errs : List CodeErr) : (s.strike errs).mgmtPath = s.mgmtPath := rfl
@[simp] theorem State.strike_val (s : State) (errs : List CodeErr) (k_ : Nat) : (s.strike errs).val k_ = s.val k_ := rfl
@[simp] theorem State.strike_par (s : State) (errs : List CodeErr) (ix_ sub_ : Nat) : (s.strike errs).par ix_ sub_ = s.par ix_ sub_ := rfl

/-! `setSeq` -/

@[simp] theorem State.setSeq_pending (s : State) (k : Nat) (q : SeqSt) : (s.setSeq k q).pending = s.pending := rfl
@[simp] theorem State.setSeq_out (s : State) (k : Nat) (q : SeqSt) : (s.setSeq k q).out = s.out := rfl
@[simp] theorem State.setSeq_fresh (s : State) (k : Nat) (q : SeqSt) : (s.setSeq k q).fresh = s.fresh := rfl
@[simp] theorem State.setSeq_resetHeld (s : State) (k : Nat) (q : SeqSt) : (s.setSeq k q).resetHeld = s.resetHeld := rfl
@[simp] theorem State.setSeq_now (s : State) (k : Nat) (q : SeqSt) : (s.setSeq k q).now = s.now := rfl
@[simp] theorem State.setSeq_dict (s : State) (k : Nat) (q : SeqSt) : (s.setSeq k q).dict = s.dict := rfl
@[simp] theorem State.setSeq_time (s : State) (k : Nat) (q : SeqSt) : (s.setSeq k q).time = s.time := rfl
@[simp] theorem State.setSeq_edge (s : State) (k : Nat) (q : SeqSt) : (s.setSeq k q).edge = s.edge := rfl
@[simp] theorem State.setSeq_run (s : State) (k : Nat) (q : SeqSt) : (s.setSeq k q).run = s.run := rfl
@[simp] theorem State.setSeq_guard (s : State) (k : Nat) (q : SeqSt) : (s.setSeq k q).guard = s.guard := rfl
@[simp] theorem State.setSeq_line (s : State) (k : Nat) (q : SeqSt) : (s.setSeq k q).line = s.line := rfl
@[simp] theorem State.setSeq_clockCause (s : State) (k : Nat) (q : SeqSt) : (s.setSeq k q).clockCause = s.clockCause := rfl
@[simp] theorem State.setSeq_brownCause (s : State) (k : Nat) (q : SeqSt) : (s.setSeq k q).brownCause = s.brownCause := rfl
@[simp] theorem State.setSeq_ex (s : State) (k : Nat) (q : SeqSt) : (s.setSeq k q).ex = s.ex := rfl
@[simp] theorem State.setSeq_ca (s : State) (k : Nat) (q : SeqSt) : (s.setSeq k q).ca = s.ca := rfl
@[simp] theorem State.setSeq_tone (s : State) (k : Nat) (q : SeqSt) : (s.setSeq k q).tone = s.tone := rfl
@[simp] theorem State.setSeq_clamp (s : State) (k : Nat) (q : SeqSt) : (s.setSeq k q).clamp = s.clamp := rfl
@[simp] theorem State.setSeq_conv (s : State) (k : Nat) (q : SeqSt) : (s.setSeq k q).conv = s.conv := rfl
@[simp] theorem State.setSeq_slice (s : State) (k : Nat) (q : SeqSt) : (s.setSeq k q).slice = s.slice := rfl
@[simp] theorem State.setSeq_overlap (s : State) (k : Nat) (q : SeqSt) : (s.setSeq k q).overlap = s.overlap := rfl
@[simp] theorem State.setSeq_staged (s : State) (k : Nat) (q : SeqSt) : (s.setSeq k q).staged = s.staged := rfl
@[simp] theorem State.setSeq_slots (s : State) (k : Nat) (q : SeqSt) : (s.setSeq k q).slots = s.slots := rfl
@[simp] theorem State.setSeq_markOut (s : State) (k : Nat) (q : SeqSt) : (s.setSeq k q).markOut = s.markOut := rfl
@[simp] theorem State.setSeq_markOutNum (s : State) (k : Nat) (q : SeqSt) : (s.setSeq k q).markOutNum = s.markOutNum := rfl
@[simp] theorem State.setSeq_driven (s : State) (k : Nat) (q : SeqSt) : (s.setSeq k q).driven = s.driven := rfl
@[simp] theorem State.setSeq_cw (s : State) (k : Nat) (q : SeqSt) : (s.setSeq k q).cw = s.cw := rfl
@[simp] theorem State.setSeq_src (s : State) (k : Nat) (q : SeqSt) : (s.setSeq k q).src = s.src := rfl
@[simp] theorem State.setSeq_units (s : State) (k : Nat) (q : SeqSt) : (s.setSeq k q).units = s.units := rfl
@[simp] theorem State.setSeq_seqs (s : State) (k : Nat) (q : SeqSt) : (s.setSeq k q).seqs = tset s.seqs k q := rfl
@[simp] theorem State.setSeq_stream (s : State) (k : Nat) (q : SeqSt) : (s.setSeq k q).stream = s.stream := rfl
@[simp] theorem State.setSeq_cai (s : State) (k : Nat) (q : SeqSt) : (s.setSeq k q).cai = s.cai := rfl
@[simp] theorem State.setSeq_mem (s : State) (k : Nat) (q : SeqSt) : (s.setSeq k q).mem = s.mem := rfl
@[simp] theorem State.setSeq_dram (s : State) (k : Nat) (q : SeqSt) : (s.setSeq k q).dram = s.dram := rfl
@[simp] theorem State.setSeq_fetch (s : State) (k : Nat) (q : SeqSt) : (s.setSeq k q).fetch = s.fetch := rfl
@[simp] theorem State.setSeq_host (s : State) (k : Nat) (q : SeqSt) : (s.setSeq k q).host = s.host := rfl
@[simp] theorem State.setSeq_net (s : State) (k : Nat) (q : SeqSt) : (s.setSeq k q).net = s.net := rfl
@[simp] theorem State.setSeq_clk (s : State) (k : Nat) (q : SeqSt) : (s.setSeq k q).clk = s.clk := rfl
@[simp] theorem State.setSeq_nv (s : State) (k : Nat) (q : SeqSt) : (s.setSeq k q).nv = s.nv := rfl
@[simp] theorem State.setSeq_pflLast (s : State) (k : Nat) (q : SeqSt) : (s.setSeq k q).pflLast = s.pflLast := rfl
@[simp] theorem State.setSeq_ds (s : State) (k : Nat) (q : SeqSt) : (s.setSeq k q).ds = s.ds := rfl
@[simp] theorem State.setSeq_hostPath (s : State) (k : Nat) (q : SeqSt) : (s.setSeq k q).hostPath = s.hostPath := rfl
@[simp] theorem State.setSeq_mgmtPath (s : State) (k : Nat) (q : SeqSt) : (s.setSeq k q).mgmtPath = s.mgmtPath := rfl
@[simp] theorem State.setSeq_val (s : State) (k : Nat) (q : SeqSt) (k_ : Nat) : (s.setSeq k q).val k_ = s.val k_ := rfl
@[simp] theorem State.setSeq_par (s : State) (k : Nat) (q : SeqSt) (ix_ sub_ : Nat) : (s.setSeq k q).par ix_ sub_ = s.par ix_ sub_ := rfl

/-! `setVal` -/

@[simp] theorem State.setVal_pending (s : State) (k v : Nat) : (s.setVal k v).pending = s.pending := rfl
@[simp] theorem State.setVal_out (s : State) (k v : Nat) : (s.setVal k v).out = s.out := rfl
@[simp] theorem State.setVal_fresh (s : State) (k v : Nat) : (s.setVal k v).fresh = s.fresh := rfl
@[simp] theorem State.setVal_resetHeld (s : State) (k v : Nat) : (s.setVal k v).resetHeld = s.resetHeld := rfl
@[simp] theorem State.setVal_now (s : State) (k v : Nat) : (s.setVal k v).now = s.now := rfl
@[simp] theorem State.setVal_dict (s : State) (k v : Nat) : (s.setVal k v).dict = if v = dfltOf k then terase s.dict k else tset s.dict k v := rfl
@[simp] theorem State.setVal_time (s : State) (k v : Nat) : (s.setVal k v).time = s.time := rfl
@[simp] theorem State.setVal_edge (s : State) (k v : Nat) : (s.setVal k v).edge = s.edge := rfl
@[simp] theorem State.setVal_run (s : State) (k v : Nat) : (s.setVal k v).run = s.run := rfl
@[simp] theorem State.setVal_guard (s : State) (k v : Nat) : (s.setVal k v).guard = s.guard := rfl
@[simp] theorem State.setVal_line (s : State) (k v : Nat) : (s.setVal k v).line = s.line := rfl
@[simp] theorem State.setVal_clockCause (s : State) (k v : Nat) : (s.setVal k v).clockCause = s.clockCause := rfl
@[simp] theorem State.setVal_brownCause (s : State) (k v : Nat) : (s.setVal k v).brownCause = s.brownCause := rfl
@[simp] theorem State.setVal_ex (s : State) (k v : Nat) : (s.setVal k v).ex = s.ex := rfl
@[simp] theorem State.setVal_ca (s : State) (k v : Nat) : (s.setVal k v).ca = s.ca := rfl
@[simp] theorem State.setVal_tone (s : State) (k v : Nat) : (s.setVal k v).tone = s.tone := rfl
@[simp] theorem State.setVal_clamp (s : State) (k v : Nat) : (s.setVal k v).clamp = s.clamp := rfl
@[simp] theorem State.setVal_conv (s : State) (k v : Nat) : (s.setVal k v).conv = s.conv := rfl
@[simp] theorem State.setVal_slice (s : State) (k v : Nat) : (s.setVal k v).slice = s.slice := rfl
@[simp] theorem State.setVal_overlap (s : State) (k v : Nat) : (s.setVal k v).overlap = s.overlap := rfl
@[simp] theorem State.setVal_staged (s : State) (k v : Nat) : (s.setVal k v).staged = s.staged := rfl
@[simp] theorem State.setVal_slots (s : State) (k v : Nat) : (s.setVal k v).slots = s.slots := rfl
@[simp] theorem State.setVal_markOut (s : State) (k v : Nat) : (s.setVal k v).markOut = s.markOut := rfl
@[simp] theorem State.setVal_markOutNum (s : State) (k v : Nat) : (s.setVal k v).markOutNum = s.markOutNum := rfl
@[simp] theorem State.setVal_driven (s : State) (k v : Nat) : (s.setVal k v).driven = s.driven := rfl
@[simp] theorem State.setVal_cw (s : State) (k v : Nat) : (s.setVal k v).cw = s.cw := rfl
@[simp] theorem State.setVal_src (s : State) (k v : Nat) : (s.setVal k v).src = s.src := rfl
@[simp] theorem State.setVal_units (s : State) (k v : Nat) : (s.setVal k v).units = s.units := rfl
@[simp] theorem State.setVal_seqs (s : State) (k v : Nat) : (s.setVal k v).seqs = s.seqs := rfl
@[simp] theorem State.setVal_stream (s : State) (k v : Nat) : (s.setVal k v).stream = s.stream := rfl
@[simp] theorem State.setVal_cai (s : State) (k v : Nat) : (s.setVal k v).cai = s.cai := rfl
@[simp] theorem State.setVal_mem (s : State) (k v : Nat) : (s.setVal k v).mem = s.mem := rfl
@[simp] theorem State.setVal_dram (s : State) (k v : Nat) : (s.setVal k v).dram = s.dram := rfl
@[simp] theorem State.setVal_fetch (s : State) (k v : Nat) : (s.setVal k v).fetch = s.fetch := rfl
@[simp] theorem State.setVal_host (s : State) (k v : Nat) : (s.setVal k v).host = s.host := rfl
@[simp] theorem State.setVal_net (s : State) (k v : Nat) : (s.setVal k v).net = s.net := rfl
@[simp] theorem State.setVal_clk (s : State) (k v : Nat) : (s.setVal k v).clk = s.clk := rfl
@[simp] theorem State.setVal_nv (s : State) (k v : Nat) : (s.setVal k v).nv = s.nv := rfl
@[simp] theorem State.setVal_pflLast (s : State) (k v : Nat) : (s.setVal k v).pflLast = s.pflLast := rfl
@[simp] theorem State.setVal_ds (s : State) (k v : Nat) : (s.setVal k v).ds = s.ds := rfl
@[simp] theorem State.setVal_hostPath (s : State) (k v : Nat) : (s.setVal k v).hostPath = s.hostPath := rfl
@[simp] theorem State.setVal_mgmtPath (s : State) (k v : Nat) : (s.setVal k v).mgmtPath = s.mgmtPath := rfl

/-! `setPar` -/

@[simp] theorem State.setPar_pending (s : State) (ix sub v : Nat) : (s.setPar ix sub v).pending = s.pending := rfl
@[simp] theorem State.setPar_out (s : State) (ix sub v : Nat) : (s.setPar ix sub v).out = s.out := rfl
@[simp] theorem State.setPar_fresh (s : State) (ix sub v : Nat) : (s.setPar ix sub v).fresh = s.fresh := rfl
@[simp] theorem State.setPar_resetHeld (s : State) (ix sub v : Nat) : (s.setPar ix sub v).resetHeld = s.resetHeld := rfl
@[simp] theorem State.setPar_now (s : State) (ix sub v : Nat) : (s.setPar ix sub v).now = s.now := rfl
@[simp] theorem State.setPar_dict (s : State) (ix sub v : Nat) : (s.setPar ix sub v).dict = (s.setVal (key ix sub) v).dict := rfl
@[simp] theorem State.setPar_time (s : State) (ix sub v : Nat) : (s.setPar ix sub v).time = s.time := rfl
@[simp] theorem State.setPar_edge (s : State) (ix sub v : Nat) : (s.setPar ix sub v).edge = s.edge := rfl
@[simp] theorem State.setPar_run (s : State) (ix sub v : Nat) : (s.setPar ix sub v).run = s.run := rfl
@[simp] theorem State.setPar_guard (s : State) (ix sub v : Nat) : (s.setPar ix sub v).guard = s.guard := rfl
@[simp] theorem State.setPar_line (s : State) (ix sub v : Nat) : (s.setPar ix sub v).line = s.line := rfl
@[simp] theorem State.setPar_clockCause (s : State) (ix sub v : Nat) : (s.setPar ix sub v).clockCause = s.clockCause := rfl
@[simp] theorem State.setPar_brownCause (s : State) (ix sub v : Nat) : (s.setPar ix sub v).brownCause = s.brownCause := rfl
@[simp] theorem State.setPar_ex (s : State) (ix sub v : Nat) : (s.setPar ix sub v).ex = s.ex := rfl
@[simp] theorem State.setPar_ca (s : State) (ix sub v : Nat) : (s.setPar ix sub v).ca = s.ca := rfl
@[simp] theorem State.setPar_tone (s : State) (ix sub v : Nat) : (s.setPar ix sub v).tone = s.tone := rfl
@[simp] theorem State.setPar_clamp (s : State) (ix sub v : Nat) : (s.setPar ix sub v).clamp = s.clamp := rfl
@[simp] theorem State.setPar_conv (s : State) (ix sub v : Nat) : (s.setPar ix sub v).conv = s.conv := rfl
@[simp] theorem State.setPar_slice (s : State) (ix sub v : Nat) : (s.setPar ix sub v).slice = s.slice := rfl
@[simp] theorem State.setPar_overlap (s : State) (ix sub v : Nat) : (s.setPar ix sub v).overlap = s.overlap := rfl
@[simp] theorem State.setPar_staged (s : State) (ix sub v : Nat) : (s.setPar ix sub v).staged = s.staged := rfl
@[simp] theorem State.setPar_slots (s : State) (ix sub v : Nat) : (s.setPar ix sub v).slots = s.slots := rfl
@[simp] theorem State.setPar_markOut (s : State) (ix sub v : Nat) : (s.setPar ix sub v).markOut = s.markOut := rfl
@[simp] theorem State.setPar_markOutNum (s : State) (ix sub v : Nat) : (s.setPar ix sub v).markOutNum = s.markOutNum := rfl
@[simp] theorem State.setPar_driven (s : State) (ix sub v : Nat) : (s.setPar ix sub v).driven = s.driven := rfl
@[simp] theorem State.setPar_cw (s : State) (ix sub v : Nat) : (s.setPar ix sub v).cw = s.cw := rfl
@[simp] theorem State.setPar_src (s : State) (ix sub v : Nat) : (s.setPar ix sub v).src = s.src := rfl
@[simp] theorem State.setPar_units (s : State) (ix sub v : Nat) : (s.setPar ix sub v).units = s.units := rfl
@[simp] theorem State.setPar_seqs (s : State) (ix sub v : Nat) : (s.setPar ix sub v).seqs = s.seqs := rfl
@[simp] theorem State.setPar_stream (s : State) (ix sub v : Nat) : (s.setPar ix sub v).stream = s.stream := rfl
@[simp] theorem State.setPar_cai (s : State) (ix sub v : Nat) : (s.setPar ix sub v).cai = s.cai := rfl
@[simp] theorem State.setPar_mem (s : State) (ix sub v : Nat) : (s.setPar ix sub v).mem = s.mem := rfl
@[simp] theorem State.setPar_dram (s : State) (ix sub v : Nat) : (s.setPar ix sub v).dram = s.dram := rfl
@[simp] theorem State.setPar_fetch (s : State) (ix sub v : Nat) : (s.setPar ix sub v).fetch = s.fetch := rfl
@[simp] theorem State.setPar_host (s : State) (ix sub v : Nat) : (s.setPar ix sub v).host = s.host := rfl
@[simp] theorem State.setPar_net (s : State) (ix sub v : Nat) : (s.setPar ix sub v).net = s.net := rfl
@[simp] theorem State.setPar_clk (s : State) (ix sub v : Nat) : (s.setPar ix sub v).clk = s.clk := rfl
@[simp] theorem State.setPar_nv (s : State) (ix sub v : Nat) : (s.setPar ix sub v).nv = s.nv := rfl
@[simp] theorem State.setPar_pflLast (s : State) (ix sub v : Nat) : (s.setPar ix sub v).pflLast = s.pflLast := rfl
@[simp] theorem State.setPar_ds (s : State) (ix sub v : Nat) : (s.setPar ix sub v).ds = s.ds := rfl
@[simp] theorem State.setPar_hostPath (s : State) (ix sub v : Nat) : (s.setPar ix sub v).hostPath = s.hostPath := rfl
@[simp] theorem State.setPar_mgmtPath (s : State) (ix sub v : Nat) : (s.setPar ix sub v).mgmtPath = s.mgmtPath := rfl

/-! `draw` -/

@[simp] theorem State.draw_pending (s : State) : (s.draw).pending = s.pending := rfl
@[simp] theorem State.draw_out (s : State) : (s.draw).out = s.out := rfl
@[simp] theorem State.draw_fresh (s : State) : (s.draw).fresh = s.fresh + 1 := rfl
@[simp] theorem State.draw_resetHeld (s : State) : (s.draw).resetHeld = s.resetHeld := rfl
@[simp] theorem State.draw_now (s : State) : (s.draw).now = s.now := rfl
@[simp] theorem State.draw_dict (s : State) : (s.draw).dict = s.dict := rfl
@[simp] theorem State.draw_time (s : State) : (s.draw).time = s.time := rfl
@[simp] theorem State.draw_edge (s : State) : (s.draw).edge = s.edge := rfl
@[simp] theorem State.draw_run (s : State) : (s.draw).run = s.run := rfl
@[simp] theorem State.draw_guard (s : State) : (s.draw).guard = s.guard := rfl
@[simp] theorem State.draw_line (s : State) : (s.draw).line = s.line := rfl
@[simp] theorem State.draw_clockCause (s : State) : (s.draw).clockCause = s.clockCause := rfl
@[simp] theorem State.draw_brownCause (s : State) : (s.draw).brownCause = s.brownCause := rfl
@[simp] theorem State.draw_ex (s : State) : (s.draw).ex = s.ex := rfl
@[simp] theorem State.draw_ca (s : State) : (s.draw).ca = s.ca := rfl
@[simp] theorem State.draw_tone (s : State) : (s.draw).tone = s.tone := rfl
@[simp] theorem State.draw_clamp (s : State) : (s.draw).clamp = s.clamp := rfl
@[simp] theorem State.draw_conv (s : State) : (s.draw).conv = s.conv := rfl
@[simp] theorem State.draw_slice (s : State) : (s.draw).slice = s.slice := rfl
@[simp] theorem State.draw_overlap (s : State) : (s.draw).overlap = s.overlap := rfl
@[simp] theorem State.draw_staged (s : State) : (s.draw).staged = s.staged := rfl
@[simp] theorem State.draw_slots (s : State) : (s.draw).slots = s.slots := rfl
@[simp] theorem State.draw_markOut (s : State) : (s.draw).markOut = s.markOut := rfl
@[simp] theorem State.draw_markOutNum (s : State) : (s.draw).markOutNum = s.markOutNum := rfl
@[simp] theorem State.draw_driven (s : State) : (s.draw).driven = s.driven := rfl
@[simp] theorem State.draw_cw (s : State) : (s.draw).cw = s.cw := rfl
@[simp] theorem State.draw_src (s : State) : (s.draw).src = s.src := rfl
@[simp] theorem State.draw_units (s : State) : (s.draw).units = s.units := rfl
@[simp] theorem State.draw_seqs (s : State) : (s.draw).seqs = s.seqs := rfl
@[simp] theorem State.draw_stream (s : State) : (s.draw).stream = s.stream := rfl
@[simp] theorem State.draw_cai (s : State) : (s.draw).cai = s.cai := rfl
@[simp] theorem State.draw_mem (s : State) : (s.draw).mem = s.mem := rfl
@[simp] theorem State.draw_dram (s : State) : (s.draw).dram = s.dram := rfl
@[simp] theorem State.draw_fetch (s : State) : (s.draw).fetch = s.fetch := rfl
@[simp] theorem State.draw_host (s : State) : (s.draw).host = s.host := rfl
@[simp] theorem State.draw_net (s : State) : (s.draw).net = s.net := rfl
@[simp] theorem State.draw_clk (s : State) : (s.draw).clk = s.clk := rfl
@[simp] theorem State.draw_nv (s : State) : (s.draw).nv = s.nv := rfl
@[simp] theorem State.draw_pflLast (s : State) : (s.draw).pflLast = s.pflLast := rfl
@[simp] theorem State.draw_ds (s : State) : (s.draw).ds = s.ds := rfl
@[simp] theorem State.draw_hostPath (s : State) : (s.draw).hostPath = s.hostPath := rfl
@[simp] theorem State.draw_mgmtPath (s : State) : (s.draw).mgmtPath = s.mgmtPath := rfl
@[simp] theorem State.draw_val (s : State) (k_ : Nat) : (s.draw).val k_ = s.val k_ := rfl
@[simp] theorem State.draw_par (s : State) (ix_ sub_ : Nat) : (s.draw).par ix_ sub_ = s.par ix_ sub_ := rfl

/-! `enter` -/

@[simp] theorem State.enter_pending (s : State) (t : Nat) : (s.enter t).pending = s.pending := rfl
@[simp] theorem State.enter_out (s : State) (t : Nat) : (s.enter t).out = [] := rfl
@[simp] theorem State.enter_fresh (s : State) (t : Nat) : (s.enter t).fresh = s.fresh := rfl
@[simp] theorem State.enter_resetHeld (s : State) (t : Nat) : (s.enter t).resetHeld = s.resetHeld := rfl
@[simp] theorem State.enter_now (s : State) (t : Nat) : (s.enter t).now = s.timeAt t := rfl
@[simp] theorem State.enter_dict (s : State) (t : Nat) : (s.enter t).dict = s.dict := rfl
@[simp] theorem State.enter_time (s : State) (t : Nat) : (s.enter t).time = s.time := rfl
@[simp] theorem State.enter_edge (s : State) (t : Nat) : (s.enter t).edge = s.edge := rfl
@[simp] theorem State.enter_run (s : State) (t : Nat) : (s.enter t).run = s.run := rfl
@[simp] theorem State.enter_guard (s : State) (t : Nat) : (s.enter t).guard = s.guard := rfl
@[simp] theorem State.enter_line (s : State) (t : Nat) : (s.enter t).line = s.line := rfl
@[simp] theorem State.enter_clockCause (s : State) (t : Nat) : (s.enter t).clockCause = s.clockCause := rfl
@[simp] theorem State.enter_brownCause (s : State) (t : Nat) : (s.enter t).brownCause = s.brownCause := rfl
@[simp] theorem State.enter_ex (s : State) (t : Nat) : (s.enter t).ex = s.ex := rfl
@[simp] theorem State.enter_ca (s : State) (t : Nat) : (s.enter t).ca = s.ca := rfl
@[simp] theorem State.enter_tone (s : State) (t : Nat) : (s.enter t).tone = s.tone := rfl
@[simp] theorem State.enter_clamp (s : State) (t : Nat) : (s.enter t).clamp = s.clamp := rfl
@[simp] theorem State.enter_conv (s : State) (t : Nat) : (s.enter t).conv = s.conv := rfl
@[simp] theorem State.enter_slice (s : State) (t : Nat) : (s.enter t).slice = s.slice := rfl
@[simp] theorem State.enter_overlap (s : State) (t : Nat) : (s.enter t).overlap = s.overlap := rfl
@[simp] theorem State.enter_staged (s : State) (t : Nat) : (s.enter t).staged = s.staged := rfl
@[simp] theorem State.enter_slots (s : State) (t : Nat) : (s.enter t).slots = s.slots := rfl
@[simp] theorem State.enter_markOut (s : State) (t : Nat) : (s.enter t).markOut = s.markOut := rfl
@[simp] theorem State.enter_markOutNum (s : State) (t : Nat) : (s.enter t).markOutNum = s.markOutNum := rfl
@[simp] theorem State.enter_driven (s : State) (t : Nat) : (s.enter t).driven = s.driven := rfl
@[simp] theorem State.enter_cw (s : State) (t : Nat) : (s.enter t).cw = s.cw := rfl
@[simp] theorem State.enter_src (s : State) (t : Nat) : (s.enter t).src = s.src := rfl
@[simp] theorem State.enter_units (s : State) (t : Nat) : (s.enter t).units = s.units := rfl
@[simp] theorem State.enter_seqs (s : State) (t : Nat) : (s.enter t).seqs = s.seqs := rfl
@[simp] theorem State.enter_stream (s : State) (t : Nat) : (s.enter t).stream = s.stream := rfl
@[simp] theorem State.enter_cai (s : State) (t : Nat) : (s.enter t).cai = s.cai := rfl
@[simp] theorem State.enter_mem (s : State) (t : Nat) : (s.enter t).mem = s.mem := rfl
@[simp] theorem State.enter_dram (s : State) (t : Nat) : (s.enter t).dram = s.dram := rfl
@[simp] theorem State.enter_fetch (s : State) (t : Nat) : (s.enter t).fetch = s.fetch := rfl
@[simp] theorem State.enter_host (s : State) (t : Nat) : (s.enter t).host = s.host := rfl
@[simp] theorem State.enter_net (s : State) (t : Nat) : (s.enter t).net = s.net := rfl
@[simp] theorem State.enter_clk (s : State) (t : Nat) : (s.enter t).clk = s.clk := rfl
@[simp] theorem State.enter_nv (s : State) (t : Nat) : (s.enter t).nv = s.nv := rfl
@[simp] theorem State.enter_pflLast (s : State) (t : Nat) : (s.enter t).pflLast = s.pflLast := rfl
@[simp] theorem State.enter_ds (s : State) (t : Nat) : (s.enter t).ds = s.ds := rfl
@[simp] theorem State.enter_hostPath (s : State) (t : Nat) : (s.enter t).hostPath = s.hostPath := rfl
@[simp] theorem State.enter_mgmtPath (s : State) (t : Nat) : (s.enter t).mgmtPath = s.mgmtPath := rfl
@[simp] theorem State.enter_val (s : State) (t : Nat) (k_ : Nat) : (s.enter t).val k_ = s.val k_ := rfl
@[simp] theorem State.enter_par (s : State) (t : Nat) (ix_ sub_ : Nat) : (s.enter t).par ix_ sub_ = s.par ix_ sub_ := rfl

/-! `send` -/

@[simp] theorem State.send_pending (s : State) (o : Out) : (s.send o).pending = s.pending := rfl
@[simp] theorem State.send_out (s : State) (o : Out) : (s.send o).out = s.out ++ [o] := rfl
@[simp] theorem State.send_fresh (s : State) (o : Out) : (s.send o).fresh = s.fresh := rfl
@[simp] theorem State.send_resetHeld (s : State) (o : Out) : (s.send o).resetHeld = s.resetHeld := rfl
@[simp] theorem State.send_now (s : State) (o : Out) : (s.send o).now = s.now := rfl
@[simp] theorem State.send_dict (s : State) (o : Out) : (s.send o).dict = s.dict := rfl
@[simp] theorem State.send_time (s : State) (o : Out) : (s.send o).time = s.time := rfl
@[simp] theorem State.send_edge (s : State) (o : Out) : (s.send o).edge = s.edge := rfl
@[simp] theorem State.send_run (s : State) (o : Out) : (s.send o).run = s.run := rfl
@[simp] theorem State.send_guard (s : State) (o : Out) : (s.send o).guard = s.guard := rfl
@[simp] theorem State.send_line (s : State) (o : Out) : (s.send o).line = s.line := rfl
@[simp] theorem State.send_clockCause (s : State) (o : Out) : (s.send o).clockCause = s.clockCause := rfl
@[simp] theorem State.send_brownCause (s : State) (o : Out) : (s.send o).brownCause = s.brownCause := rfl
@[simp] theorem State.send_ex (s : State) (o : Out) : (s.send o).ex = s.ex := rfl
@[simp] theorem State.send_ca (s : State) (o : Out) : (s.send o).ca = s.ca := rfl
@[simp] theorem State.send_tone (s : State) (o : Out) : (s.send o).tone = s.tone := rfl
@[simp] theorem State.send_clamp (s : State) (o : Out) : (s.send o).clamp = s.clamp := rfl
@[simp] theorem State.send_conv (s : State) (o : Out) : (s.send o).conv = s.conv := rfl
@[simp] theorem State.send_slice (s : State) (o : Out) : (s.send o).slice = s.slice := rfl
@[simp] theorem State.send_overlap (s : State) (o : Out) : (s.send o).overlap = s.overlap := rfl
@[simp] theorem State.send_staged (s : State) (o : Out) : (s.send o).staged = s.staged := rfl
@[simp] theorem State.send_slots (s : State) (o : Out) : (s.send o).slots = s.slots := rfl
@[simp] theorem State.send_markOut (s : State) (o : Out) : (s.send o).markOut = s.markOut := rfl
@[simp] theorem State.send_markOutNum (s : State) (o : Out) : (s.send o).markOutNum = s.markOutNum := rfl
@[simp] theorem State.send_driven (s : State) (o : Out) : (s.send o).driven = s.driven := rfl
@[simp] theorem State.send_cw (s : State) (o : Out) : (s.send o).cw = s.cw := rfl
@[simp] theorem State.send_src (s : State) (o : Out) : (s.send o).src = s.src := rfl
@[simp] theorem State.send_units (s : State) (o : Out) : (s.send o).units = s.units := rfl
@[simp] theorem State.send_seqs (s : State) (o : Out) : (s.send o).seqs = s.seqs := rfl
@[simp] theorem State.send_stream (s : State) (o : Out) : (s.send o).stream = s.stream := rfl
@[simp] theorem State.send_cai (s : State) (o : Out) : (s.send o).cai = s.cai := rfl
@[simp] theorem State.send_mem (s : State) (o : Out) : (s.send o).mem = s.mem := rfl
@[simp] theorem State.send_dram (s : State) (o : Out) : (s.send o).dram = s.dram := rfl
@[simp] theorem State.send_fetch (s : State) (o : Out) : (s.send o).fetch = s.fetch := rfl
@[simp] theorem State.send_host (s : State) (o : Out) : (s.send o).host = s.host := rfl
@[simp] theorem State.send_net (s : State) (o : Out) : (s.send o).net = s.net := rfl
@[simp] theorem State.send_clk (s : State) (o : Out) : (s.send o).clk = s.clk := rfl
@[simp] theorem State.send_nv (s : State) (o : Out) : (s.send o).nv = s.nv := rfl
@[simp] theorem State.send_pflLast (s : State) (o : Out) : (s.send o).pflLast = s.pflLast := rfl
@[simp] theorem State.send_ds (s : State) (o : Out) : (s.send o).ds = s.ds := rfl
@[simp] theorem State.send_hostPath (s : State) (o : Out) : (s.send o).hostPath = s.hostPath := rfl
@[simp] theorem State.send_mgmtPath (s : State) (o : Out) : (s.send o).mgmtPath = s.mgmtPath := rfl
@[simp] theorem State.send_val (s : State) (o : Out) (k_ : Nat) : (s.send o).val k_ = s.val k_ := rfl
@[simp] theorem State.send_par (s : State) (o : Out) (ix_ sub_ : Nat) : (s.send o).par ix_ sub_ = s.par ix_ sub_ := rfl

/-! `setEdge` -/

@[simp] theorem State.setEdge_pending (s : State) (src : Nat) (e : EdgeSt) : (s.setEdge src e).pending = s.pending := rfl
@[simp] theorem State.setEdge_out (s : State) (src : Nat) (e : EdgeSt) : (s.setEdge src e).out = s.out := rfl
@[simp] theorem State.setEdge_fresh (s : State) (src : Nat) (e : EdgeSt) : (s.setEdge src e).fresh = s.fresh := rfl
@[simp] theorem State.setEdge_resetHeld (s : State) (src : Nat) (e : EdgeSt) : (s.setEdge src e).resetHeld = s.resetHeld := rfl
@[simp] theorem State.setEdge_now (s : State) (src : Nat) (e : EdgeSt) : (s.setEdge src e).now = s.now := rfl
@[simp] theorem State.setEdge_dict (s : State) (src : Nat) (e : EdgeSt) : (s.setEdge src e).dict = s.dict := rfl
@[simp] theorem State.setEdge_time (s : State) (src : Nat) (e : EdgeSt) : (s.setEdge src e).time = s.time := rfl
@[simp] theorem State.setEdge_edge (s : State) (src : Nat) (e : EdgeSt) : (s.setEdge src e).edge = tset s.edge src e := rfl
@[simp] theorem State.setEdge_run (s : State) (src : Nat) (e : EdgeSt) : (s.setEdge src e).run = s.run := rfl
@[simp] theorem State.setEdge_guard (s : State) (src : Nat) (e : EdgeSt) : (s.setEdge src e).guard = s.guard := rfl
@[simp] theorem State.setEdge_line (s : State) (src : Nat) (e : EdgeSt) : (s.setEdge src e).line = s.line := rfl
@[simp] theorem State.setEdge_clockCause (s : State) (src : Nat) (e : EdgeSt) : (s.setEdge src e).clockCause = s.clockCause := rfl
@[simp] theorem State.setEdge_brownCause (s : State) (src : Nat) (e : EdgeSt) : (s.setEdge src e).brownCause = s.brownCause := rfl
@[simp] theorem State.setEdge_ex (s : State) (src : Nat) (e : EdgeSt) : (s.setEdge src e).ex = s.ex := rfl
@[simp] theorem State.setEdge_ca (s : State) (src : Nat) (e : EdgeSt) : (s.setEdge src e).ca = s.ca := rfl
@[simp] theorem State.setEdge_tone (s : State) (src : Nat) (e : EdgeSt) : (s.setEdge src e).tone = s.tone := rfl
@[simp] theorem State.setEdge_clamp (s : State) (src : Nat) (e : EdgeSt) : (s.setEdge src e).clamp = s.clamp := rfl
@[simp] theorem State.setEdge_conv (s : State) (src : Nat) (e : EdgeSt) : (s.setEdge src e).conv = s.conv := rfl
@[simp] theorem State.setEdge_slice (s : State) (src : Nat) (e : EdgeSt) : (s.setEdge src e).slice = s.slice := rfl
@[simp] theorem State.setEdge_overlap (s : State) (src : Nat) (e : EdgeSt) : (s.setEdge src e).overlap = s.overlap := rfl
@[simp] theorem State.setEdge_staged (s : State) (src : Nat) (e : EdgeSt) : (s.setEdge src e).staged = s.staged := rfl
@[simp] theorem State.setEdge_slots (s : State) (src : Nat) (e : EdgeSt) : (s.setEdge src e).slots = s.slots := rfl
@[simp] theorem State.setEdge_markOut (s : State) (src : Nat) (e : EdgeSt) : (s.setEdge src e).markOut = s.markOut := rfl
@[simp] theorem State.setEdge_markOutNum (s : State) (src : Nat) (e : EdgeSt) : (s.setEdge src e).markOutNum = s.markOutNum := rfl
@[simp] theorem State.setEdge_driven (s : State) (src : Nat) (e : EdgeSt) : (s.setEdge src e).driven = s.driven := rfl
@[simp] theorem State.setEdge_cw (s : State) (src : Nat) (e : EdgeSt) : (s.setEdge src e).cw = s.cw := rfl
@[simp] theorem State.setEdge_src (s : State) (src : Nat) (e : EdgeSt) : (s.setEdge src e).src = s.src := rfl
@[simp] theorem State.setEdge_units (s : State) (src : Nat) (e : EdgeSt) : (s.setEdge src e).units = s.units := rfl
@[simp] theorem State.setEdge_seqs (s : State) (src : Nat) (e : EdgeSt) : (s.setEdge src e).seqs = s.seqs := rfl
@[simp] theorem State.setEdge_stream (s : State) (src : Nat) (e : EdgeSt) : (s.setEdge src e).stream = s.stream := rfl
@[simp] theorem State.setEdge_cai (s : State) (src : Nat) (e : EdgeSt) : (s.setEdge src e).cai = s.cai := rfl
@[simp] theorem State.setEdge_mem (s : State) (src : Nat) (e : EdgeSt) : (s.setEdge src e).mem = s.mem := rfl
@[simp] theorem State.setEdge_dram (s : State) (src : Nat) (e : EdgeSt) : (s.setEdge src e).dram = s.dram := rfl
@[simp] theorem State.setEdge_fetch (s : State) (src : Nat) (e : EdgeSt) : (s.setEdge src e).fetch = s.fetch := rfl
@[simp] theorem State.setEdge_host (s : State) (src : Nat) (e : EdgeSt) : (s.setEdge src e).host = s.host := rfl
@[simp] theorem State.setEdge_net (s : State) (src : Nat) (e : EdgeSt) : (s.setEdge src e).net = s.net := rfl
@[simp] theorem State.setEdge_clk (s : State) (src : Nat) (e : EdgeSt) : (s.setEdge src e).clk = s.clk := rfl
@[simp] theorem State.setEdge_nv (s : State) (src : Nat) (e : EdgeSt) : (s.setEdge src e).nv = s.nv := rfl
@[simp] theorem State.setEdge_pflLast (s : State) (src : Nat) (e : EdgeSt) : (s.setEdge src e).pflLast = s.pflLast := rfl
@[simp] theorem State.setEdge_ds (s : State) (src : Nat) (e : EdgeSt) : (s.setEdge src e).ds = s.ds := rfl
@[simp] theorem State.setEdge_hostPath (s : State) (src : Nat) (e : EdgeSt) : (s.setEdge src e).hostPath = s.hostPath := rfl
@[simp] theorem State.setEdge_mgmtPath (s : State) (src : Nat) (e : EdgeSt) : (s.setEdge src e).mgmtPath = s.mgmtPath := rfl
@[simp] theorem State.setEdge_val (s : State) (src : Nat) (e : EdgeSt) (k_ : Nat) : (s.setEdge src e).val k_ = s.val k_ := rfl
@[simp] theorem State.setEdge_par (s : State) (src : Nat) (e : EdgeSt) (ix_ sub_ : Nat) : (s.setEdge src e).par ix_ sub_ = s.par ix_ sub_ := rfl

/-! `setRun` -/

@[simp] theorem State.setRun_pending (s : State) (src : Nat) (r : RunSt) : (s.setRun src r).pending = s.pending := rfl
@[simp] theorem State.setRun_out (s : State) (src : Nat) (r : RunSt) : (s.setRun src r).out = s.out := rfl
@[simp] theorem State.setRun_fresh (s : State) (src : Nat) (r : RunSt) : (s.setRun src r).fresh = s.fresh := rfl
@[simp] theorem State.setRun_resetHeld (s : State) (src : Nat) (r : RunSt) : (s.setRun src r).resetHeld = s.resetHeld := rfl
@[simp] theorem State.setRun_now (s : State) (src : Nat) (r : RunSt) : (s.setRun src r).now = s.now := rfl
@[simp] theorem State.setRun_dict (s : State) (src : Nat) (r : RunSt) : (s.setRun src r).dict = s.dict := rfl
@[simp] theorem State.setRun_time (s : State) (src : Nat) (r : RunSt) : (s.setRun src r).time = s.time := rfl
@[simp] theorem State.setRun_edge (s : State) (src : Nat) (r : RunSt) : (s.setRun src r).edge = s.edge := rfl
@[simp] theorem State.setRun_run (s : State) (src : Nat) (r : RunSt) : (s.setRun src r).run = tset s.run src r := rfl
@[simp] theorem State.setRun_guard (s : State) (src : Nat) (r : RunSt) : (s.setRun src r).guard = s.guard := rfl
@[simp] theorem State.setRun_line (s : State) (src : Nat) (r : RunSt) : (s.setRun src r).line = s.line := rfl
@[simp] theorem State.setRun_clockCause (s : State) (src : Nat) (r : RunSt) : (s.setRun src r).clockCause = s.clockCause := rfl
@[simp] theorem State.setRun_brownCause (s : State) (src : Nat) (r : RunSt) : (s.setRun src r).brownCause = s.brownCause := rfl
@[simp] theorem State.setRun_ex (s : State) (src : Nat) (r : RunSt) : (s.setRun src r).ex = s.ex := rfl
@[simp] theorem State.setRun_ca (s : State) (src : Nat) (r : RunSt) : (s.setRun src r).ca = s.ca := rfl
@[simp] theorem State.setRun_tone (s : State) (src : Nat) (r : RunSt) : (s.setRun src r).tone = s.tone := rfl
@[simp] theorem State.setRun_clamp (s : State) (src : Nat) (r : RunSt) : (s.setRun src r).clamp = s.clamp := rfl
@[simp] theorem State.setRun_conv (s : State) (src : Nat) (r : RunSt) : (s.setRun src r).conv = s.conv := rfl
@[simp] theorem State.setRun_slice (s : State) (src : Nat) (r : RunSt) : (s.setRun src r).slice = s.slice := rfl
@[simp] theorem State.setRun_overlap (s : State) (src : Nat) (r : RunSt) : (s.setRun src r).overlap = s.overlap := rfl
@[simp] theorem State.setRun_staged (s : State) (src : Nat) (r : RunSt) : (s.setRun src r).staged = s.staged := rfl
@[simp] theorem State.setRun_slots (s : State) (src : Nat) (r : RunSt) : (s.setRun src r).slots = s.slots := rfl
@[simp] theorem State.setRun_markOut (s : State) (src : Nat) (r : RunSt) : (s.setRun src r).markOut = s.markOut := rfl
@[simp] theorem State.setRun_markOutNum (s : State) (src : Nat) (r : RunSt) : (s.setRun src r).markOutNum = s.markOutNum := rfl
@[simp] theorem State.setRun_driven (s : State) (src : Nat) (r : RunSt) : (s.setRun src r).driven = s.driven := rfl
@[simp] theorem State.setRun_cw (s : State) (src : Nat) (r : RunSt) : (s.setRun src r).cw = s.cw := rfl
@[simp] theorem State.setRun_src (s : State) (src : Nat) (r : RunSt) : (s.setRun src r).src = s.src := rfl
@[simp] theorem State.setRun_units (s : State) (src : Nat) (r : RunSt) : (s.setRun src r).units = s.units := rfl
@[simp] theorem State.setRun_seqs (s : State) (src : Nat) (r : RunSt) : (s.setRun src r).seqs = s.seqs := rfl
@[simp] theorem State.setRun_stream (s : State) (src : Nat) (r : RunSt) : (s.setRun src r).stream = s.stream := rfl
@[simp] theorem State.setRun_cai (s : State) (src : Nat) (r : RunSt) : (s.setRun src r).cai = s.cai := rfl
@[simp] theorem State.setRun_mem (s : State) (src : Nat) (r : RunSt) : (s.setRun src r).mem = s.mem := rfl
@[simp] theorem State.setRun_dram (s : State) (src : Nat) (r : RunSt) : (s.setRun src r).dram = s.dram := rfl
@[simp] theorem State.setRun_fetch (s : State) (src : Nat) (r : RunSt) : (s.setRun src r).fetch = s.fetch := rfl
@[simp] theorem State.setRun_host (s : State) (src : Nat) (r : RunSt) : (s.setRun src r).host = s.host := rfl
@[simp] theorem State.setRun_net (s : State) (src : Nat) (r : RunSt) : (s.setRun src r).net = s.net := rfl
@[simp] theorem State.setRun_clk (s : State) (src : Nat) (r : RunSt) : (s.setRun src r).clk = s.clk := rfl
@[simp] theorem State.setRun_nv (s : State) (src : Nat) (r : RunSt) : (s.setRun src r).nv = s.nv := rfl
@[simp] theorem State.setRun_pflLast (s : State) (src : Nat) (r : RunSt) : (s.setRun src r).pflLast = s.pflLast := rfl
@[simp] theorem State.setRun_ds (s : State) (src : Nat) (r : RunSt) : (s.setRun src r).ds = s.ds := rfl
@[simp] theorem State.setRun_hostPath (s : State) (src : Nat) (r : RunSt) : (s.setRun src r).hostPath = s.hostPath := rfl
@[simp] theorem State.setRun_mgmtPath (s : State) (src : Nat) (r : RunSt) : (s.setRun src r).mgmtPath = s.mgmtPath := rfl
@[simp] theorem State.setRun_val (s : State) (src : Nat) (r : RunSt) (k_ : Nat) : (s.setRun src r).val k_ = s.val k_ := rfl
@[simp] theorem State.setRun_par (s : State) (src : Nat) (r : RunSt) (ix_ sub_ : Nat) : (s.setRun src r).par ix_ sub_ = s.par ix_ sub_ := rfl

/-! `setDvfs` -/

@[simp] theorem State.setDvfs_pending (s : State) (d : Dvfs) (vsel : Nat) : (s.setDvfs d vsel).pending = s.pending := rfl
@[simp] theorem State.setDvfs_out (s : State) (d : Dvfs) (vsel : Nat) : (s.setDvfs d vsel).out = s.out := rfl
@[simp] theorem State.setDvfs_fresh (s : State) (d : Dvfs) (vsel : Nat) : (s.setDvfs d vsel).fresh = s.fresh := rfl
@[simp] theorem State.setDvfs_resetHeld (s : State) (d : Dvfs) (vsel : Nat) : (s.setDvfs d vsel).resetHeld = s.resetHeld := rfl
@[simp] theorem State.setDvfs_now (s : State) (d : Dvfs) (vsel : Nat) : (s.setDvfs d vsel).now = s.now := rfl
@[simp] theorem State.setDvfs_dict (s : State) (d : Dvfs) (vsel : Nat) : (s.setDvfs d vsel).dict = s.dict := rfl
@[simp] theorem State.setDvfs_time (s : State) (d : Dvfs) (vsel : Nat) : (s.setDvfs d vsel).time = s.time := rfl
@[simp] theorem State.setDvfs_edge (s : State) (d : Dvfs) (vsel : Nat) : (s.setDvfs d vsel).edge = s.edge := rfl
@[simp] theorem State.setDvfs_run (s : State) (d : Dvfs) (vsel : Nat) : (s.setDvfs d vsel).run = s.run := rfl
@[simp] theorem State.setDvfs_guard (s : State) (d : Dvfs) (vsel : Nat) : (s.setDvfs d vsel).guard = s.guard := rfl
@[simp] theorem State.setDvfs_line (s : State) (d : Dvfs) (vsel : Nat) : (s.setDvfs d vsel).line = s.line := rfl
@[simp] theorem State.setDvfs_clockCause (s : State) (d : Dvfs) (vsel : Nat) : (s.setDvfs d vsel).clockCause = s.clockCause := rfl
@[simp] theorem State.setDvfs_brownCause (s : State) (d : Dvfs) (vsel : Nat) : (s.setDvfs d vsel).brownCause = s.brownCause := rfl
@[simp] theorem State.setDvfs_ex (s : State) (d : Dvfs) (vsel : Nat) : (s.setDvfs d vsel).ex = s.ex := rfl
@[simp] theorem State.setDvfs_ca (s : State) (d : Dvfs) (vsel : Nat) : (s.setDvfs d vsel).ca = s.ca := rfl
@[simp] theorem State.setDvfs_tone (s : State) (d : Dvfs) (vsel : Nat) : (s.setDvfs d vsel).tone = s.tone := rfl
@[simp] theorem State.setDvfs_clamp (s : State) (d : Dvfs) (vsel : Nat) : (s.setDvfs d vsel).clamp = s.clamp := rfl
@[simp] theorem State.setDvfs_conv (s : State) (d : Dvfs) (vsel : Nat) : (s.setDvfs d vsel).conv = s.conv := rfl
@[simp] theorem State.setDvfs_slice (s : State) (d : Dvfs) (vsel : Nat) : (s.setDvfs d vsel).slice = s.slice := rfl
@[simp] theorem State.setDvfs_overlap (s : State) (d : Dvfs) (vsel : Nat) : (s.setDvfs d vsel).overlap = s.overlap := rfl
@[simp] theorem State.setDvfs_staged (s : State) (d : Dvfs) (vsel : Nat) : (s.setDvfs d vsel).staged = s.staged := rfl
@[simp] theorem State.setDvfs_slots (s : State) (d : Dvfs) (vsel : Nat) : (s.setDvfs d vsel).slots = s.slots := rfl
@[simp] theorem State.setDvfs_markOut (s : State) (d : Dvfs) (vsel : Nat) : (s.setDvfs d vsel).markOut = s.markOut := rfl
@[simp] theorem State.setDvfs_markOutNum (s : State) (d : Dvfs) (vsel : Nat) : (s.setDvfs d vsel).markOutNum = s.markOutNum := rfl
@[simp] theorem State.setDvfs_driven (s : State) (d : Dvfs) (vsel : Nat) : (s.setDvfs d vsel).driven = s.driven := rfl
@[simp] theorem State.setDvfs_cw (s : State) (d : Dvfs) (vsel : Nat) : (s.setDvfs d vsel).cw = s.cw := rfl
@[simp] theorem State.setDvfs_src (s : State) (d : Dvfs) (vsel : Nat) : (s.setDvfs d vsel).src = s.src := rfl
@[simp] theorem State.setDvfs_units (s : State) (d : Dvfs) (vsel : Nat) : (s.setDvfs d vsel).units = s.units := rfl
@[simp] theorem State.setDvfs_seqs (s : State) (d : Dvfs) (vsel : Nat) : (s.setDvfs d vsel).seqs = s.seqs := rfl
@[simp] theorem State.setDvfs_stream (s : State) (d : Dvfs) (vsel : Nat) : (s.setDvfs d vsel).stream = s.stream := rfl
@[simp] theorem State.setDvfs_cai (s : State) (d : Dvfs) (vsel : Nat) : (s.setDvfs d vsel).cai = s.cai := rfl
@[simp] theorem State.setDvfs_mem (s : State) (d : Dvfs) (vsel : Nat) : (s.setDvfs d vsel).mem = s.mem := rfl
@[simp] theorem State.setDvfs_dram (s : State) (d : Dvfs) (vsel : Nat) : (s.setDvfs d vsel).dram = s.dram := rfl
@[simp] theorem State.setDvfs_fetch (s : State) (d : Dvfs) (vsel : Nat) : (s.setDvfs d vsel).fetch = s.fetch := rfl
@[simp] theorem State.setDvfs_host (s : State) (d : Dvfs) (vsel : Nat) : (s.setDvfs d vsel).host = s.host := rfl
@[simp] theorem State.setDvfs_net (s : State) (d : Dvfs) (vsel : Nat) : (s.setDvfs d vsel).net = s.net := rfl
@[simp] theorem State.setDvfs_clk (s : State) (d : Dvfs) (vsel : Nat) : (s.setDvfs d vsel).clk = { s.clk with dvfs := d, vsel := vsel } := rfl
@[simp] theorem State.setDvfs_nv (s : State) (d : Dvfs) (vsel : Nat) : (s.setDvfs d vsel).nv = s.nv := rfl
@[simp] theorem State.setDvfs_pflLast (s : State) (d : Dvfs) (vsel : Nat) : (s.setDvfs d vsel).pflLast = s.pflLast := rfl
@[simp] theorem State.setDvfs_ds (s : State) (d : Dvfs) (vsel : Nat) : (s.setDvfs d vsel).ds = s.ds := rfl
@[simp] theorem State.setDvfs_hostPath (s : State) (d : Dvfs) (vsel : Nat) : (s.setDvfs d vsel).hostPath = s.hostPath := rfl
@[simp] theorem State.setDvfs_mgmtPath (s : State) (d : Dvfs) (vsel : Nat) : (s.setDvfs d vsel).mgmtPath = s.mgmtPath := rfl
@[simp] theorem State.setDvfs_val (s : State) (d : Dvfs) (vsel : Nat) (k_ : Nat) : (s.setDvfs d vsel).val k_ = s.val k_ := rfl
@[simp] theorem State.setDvfs_par (s : State) (d : Dvfs) (vsel : Nat) (ix_ sub_ : Nat) : (s.setDvfs d vsel).par ix_ sub_ = s.par ix_ sub_ := rfl

/-! `queuePwr` -/

@[simp] theorem State.queuePwr_pending (s : State) (pier : Option Nat) (v : Nat) : (s.queuePwr pier v).pending = s.pending := rfl
@[simp] theorem State.queuePwr_out (s : State) (pier : Option Nat) (v : Nat) : (s.queuePwr pier v).out = s.out := rfl
@[simp] theorem State.queuePwr_fresh (s : State) (pier : Option Nat) (v : Nat) : (s.queuePwr pier v).fresh = s.fresh := rfl
@[simp] theorem State.queuePwr_resetHeld (s : State) (pier : Option Nat) (v : Nat) : (s.queuePwr pier v).resetHeld = s.resetHeld := rfl
@[simp] theorem State.queuePwr_now (s : State) (pier : Option Nat) (v : Nat) : (s.queuePwr pier v).now = s.now := rfl
@[simp] theorem State.queuePwr_dict (s : State) (pier : Option Nat) (v : Nat) : (s.queuePwr pier v).dict = s.dict := rfl
@[simp] theorem State.queuePwr_time (s : State) (pier : Option Nat) (v : Nat) : (s.queuePwr pier v).time = s.time := rfl
@[simp] theorem State.queuePwr_edge (s : State) (pier : Option Nat) (v : Nat) : (s.queuePwr pier v).edge = s.edge := rfl
@[simp] theorem State.queuePwr_run (s : State) (pier : Option Nat) (v : Nat) : (s.queuePwr pier v).run = s.run := rfl
@[simp] theorem State.queuePwr_guard (s : State) (pier : Option Nat) (v : Nat) : (s.queuePwr pier v).guard = s.guard := rfl
@[simp] theorem State.queuePwr_line (s : State) (pier : Option Nat) (v : Nat) : (s.queuePwr pier v).line = s.line := rfl
@[simp] theorem State.queuePwr_clockCause (s : State) (pier : Option Nat) (v : Nat) : (s.queuePwr pier v).clockCause = s.clockCause := rfl
@[simp] theorem State.queuePwr_brownCause (s : State) (pier : Option Nat) (v : Nat) : (s.queuePwr pier v).brownCause = s.brownCause := rfl
@[simp] theorem State.queuePwr_ex (s : State) (pier : Option Nat) (v : Nat) : (s.queuePwr pier v).ex = s.ex := rfl
@[simp] theorem State.queuePwr_ca (s : State) (pier : Option Nat) (v : Nat) : (s.queuePwr pier v).ca = s.ca := rfl
@[simp] theorem State.queuePwr_tone (s : State) (pier : Option Nat) (v : Nat) : (s.queuePwr pier v).tone = s.tone := rfl
@[simp] theorem State.queuePwr_clamp (s : State) (pier : Option Nat) (v : Nat) : (s.queuePwr pier v).clamp = s.clamp := rfl
@[simp] theorem State.queuePwr_conv (s : State) (pier : Option Nat) (v : Nat) : (s.queuePwr pier v).conv = s.conv := rfl
@[simp] theorem State.queuePwr_slice (s : State) (pier : Option Nat) (v : Nat) : (s.queuePwr pier v).slice = s.slice := rfl
@[simp] theorem State.queuePwr_overlap (s : State) (pier : Option Nat) (v : Nat) : (s.queuePwr pier v).overlap = s.overlap := rfl
@[simp] theorem State.queuePwr_staged (s : State) (pier : Option Nat) (v : Nat) : (s.queuePwr pier v).staged = s.staged := rfl
@[simp] theorem State.queuePwr_slots (s : State) (pier : Option Nat) (v : Nat) : (s.queuePwr pier v).slots = s.slots := rfl
@[simp] theorem State.queuePwr_markOut (s : State) (pier : Option Nat) (v : Nat) : (s.queuePwr pier v).markOut = s.markOut := rfl
@[simp] theorem State.queuePwr_markOutNum (s : State) (pier : Option Nat) (v : Nat) : (s.queuePwr pier v).markOutNum = s.markOutNum := rfl
@[simp] theorem State.queuePwr_driven (s : State) (pier : Option Nat) (v : Nat) : (s.queuePwr pier v).driven = s.driven := rfl
@[simp] theorem State.queuePwr_cw (s : State) (pier : Option Nat) (v : Nat) : (s.queuePwr pier v).cw = s.cw := rfl
@[simp] theorem State.queuePwr_src (s : State) (pier : Option Nat) (v : Nat) : (s.queuePwr pier v).src = s.src := rfl
@[simp] theorem State.queuePwr_units (s : State) (pier : Option Nat) (v : Nat) : (s.queuePwr pier v).units = s.units := rfl
@[simp] theorem State.queuePwr_seqs (s : State) (pier : Option Nat) (v : Nat) : (s.queuePwr pier v).seqs = s.seqs := rfl
@[simp] theorem State.queuePwr_stream (s : State) (pier : Option Nat) (v : Nat) : (s.queuePwr pier v).stream = s.stream := rfl
@[simp] theorem State.queuePwr_cai (s : State) (pier : Option Nat) (v : Nat) : (s.queuePwr pier v).cai = s.cai := rfl
@[simp] theorem State.queuePwr_mem (s : State) (pier : Option Nat) (v : Nat) : (s.queuePwr pier v).mem = s.mem := rfl
@[simp] theorem State.queuePwr_dram (s : State) (pier : Option Nat) (v : Nat) : (s.queuePwr pier v).dram = s.dram := rfl
@[simp] theorem State.queuePwr_fetch (s : State) (pier : Option Nat) (v : Nat) : (s.queuePwr pier v).fetch = s.fetch := rfl
@[simp] theorem State.queuePwr_host (s : State) (pier : Option Nat) (v : Nat) : (s.queuePwr pier v).host = s.host := rfl
@[simp] theorem State.queuePwr_net (s : State) (pier : Option Nat) (v : Nat) : (s.queuePwr pier v).net = s.net := rfl
@[simp] theorem State.queuePwr_clk (s : State) (pier : Option Nat) (v : Nat) : (s.queuePwr pier v).clk = { s.clk with pending := s.clk.pending ++ [⟨nextMicro s.now, pier, v⟩] } := rfl
@[simp] theorem State.queuePwr_nv (s : State) (pier : Option Nat) (v : Nat) : (s.queuePwr pier v).nv = s.nv := rfl
@[simp] theorem State.queuePwr_pflLast (s : State) (pier : Option Nat) (v : Nat) : (s.queuePwr pier v).pflLast = s.pflLast := rfl
@[simp] theorem State.queuePwr_ds (s : State) (pier : Option Nat) (v : Nat) : (s.queuePwr pier v).ds = s.ds := rfl
@[simp] theorem State.queuePwr_hostPath (s : State) (pier : Option Nat) (v : Nat) : (s.queuePwr pier v).hostPath = s.hostPath := rfl
@[simp] theorem State.queuePwr_mgmtPath (s : State) (pier : Option Nat) (v : Nat) : (s.queuePwr pier v).mgmtPath = s.mgmtPath := rfl
@[simp] theorem State.queuePwr_val (s : State) (pier : Option Nat) (v : Nat) (k_ : Nat) : (s.queuePwr pier v).val k_ = s.val k_ := rfl
@[simp] theorem State.queuePwr_par (s : State) (pier : Option Nat) (v : Nat) (ix_ sub_ : Nat) : (s.queuePwr pier v).par ix_ sub_ = s.par ix_ sub_ := rfl

/-! `noteHost` -/

@[simp] theorem State.noteHost_pending (s : State) (ix sub : Nat) : (s.noteHost ix sub).pending = s.pending := rfl
@[simp] theorem State.noteHost_out (s : State) (ix sub : Nat) : (s.noteHost ix sub).out = s.out := rfl
@[simp] theorem State.noteHost_fresh (s : State) (ix sub : Nat) : (s.noteHost ix sub).fresh = s.fresh := rfl
@[simp] theorem State.noteHost_resetHeld (s : State) (ix sub : Nat) : (s.noteHost ix sub).resetHeld = s.resetHeld := rfl
@[simp] theorem State.noteHost_now (s : State) (ix sub : Nat) : (s.noteHost ix sub).now = s.now := rfl
@[simp] theorem State.noteHost_dict (s : State) (ix sub : Nat) : (s.noteHost ix sub).dict = s.dict := rfl
@[simp] theorem State.noteHost_time (s : State) (ix sub : Nat) : (s.noteHost ix sub).time = s.time := rfl
@[simp] theorem State.noteHost_edge (s : State) (ix sub : Nat) : (s.noteHost ix sub).edge = s.edge := rfl
@[simp] theorem State.noteHost_run (s : State) (ix sub : Nat) : (s.noteHost ix sub).run = s.run := rfl
@[simp] theorem State.noteHost_guard (s : State) (ix sub : Nat) : (s.noteHost ix sub).guard = s.guard := rfl
@[simp] theorem State.noteHost_line (s : State) (ix sub : Nat) : (s.noteHost ix sub).line = s.line := rfl
@[simp] theorem State.noteHost_clockCause (s : State) (ix sub : Nat) : (s.noteHost ix sub).clockCause = s.clockCause := rfl
@[simp] theorem State.noteHost_brownCause (s : State) (ix sub : Nat) : (s.noteHost ix sub).brownCause = s.brownCause := rfl
@[simp] theorem State.noteHost_ex (s : State) (ix sub : Nat) : (s.noteHost ix sub).ex = s.ex := rfl
@[simp] theorem State.noteHost_ca (s : State) (ix sub : Nat) : (s.noteHost ix sub).ca = s.ca := rfl
@[simp] theorem State.noteHost_tone (s : State) (ix sub : Nat) : (s.noteHost ix sub).tone = s.tone := rfl
@[simp] theorem State.noteHost_clamp (s : State) (ix sub : Nat) : (s.noteHost ix sub).clamp = s.clamp := rfl
@[simp] theorem State.noteHost_conv (s : State) (ix sub : Nat) : (s.noteHost ix sub).conv = s.conv := rfl
@[simp] theorem State.noteHost_slice (s : State) (ix sub : Nat) : (s.noteHost ix sub).slice = s.slice := rfl
@[simp] theorem State.noteHost_overlap (s : State) (ix sub : Nat) : (s.noteHost ix sub).overlap = s.overlap := rfl
@[simp] theorem State.noteHost_staged (s : State) (ix sub : Nat) : (s.noteHost ix sub).staged = s.staged := rfl
@[simp] theorem State.noteHost_slots (s : State) (ix sub : Nat) : (s.noteHost ix sub).slots = s.slots := rfl
@[simp] theorem State.noteHost_markOut (s : State) (ix sub : Nat) : (s.noteHost ix sub).markOut = s.markOut := rfl
@[simp] theorem State.noteHost_markOutNum (s : State) (ix sub : Nat) : (s.noteHost ix sub).markOutNum = s.markOutNum := rfl
@[simp] theorem State.noteHost_driven (s : State) (ix sub : Nat) : (s.noteHost ix sub).driven = s.driven := rfl
@[simp] theorem State.noteHost_cw (s : State) (ix sub : Nat) : (s.noteHost ix sub).cw = s.cw := rfl
@[simp] theorem State.noteHost_src (s : State) (ix sub : Nat) : (s.noteHost ix sub).src = s.src := rfl
@[simp] theorem State.noteHost_units (s : State) (ix sub : Nat) : (s.noteHost ix sub).units = s.units := rfl
@[simp] theorem State.noteHost_seqs (s : State) (ix sub : Nat) : (s.noteHost ix sub).seqs = s.seqs := rfl
@[simp] theorem State.noteHost_stream (s : State) (ix sub : Nat) : (s.noteHost ix sub).stream = s.stream := rfl
@[simp] theorem State.noteHost_cai (s : State) (ix sub : Nat) : (s.noteHost ix sub).cai = s.cai := rfl
@[simp] theorem State.noteHost_mem (s : State) (ix sub : Nat) : (s.noteHost ix sub).mem = s.mem := rfl
@[simp] theorem State.noteHost_dram (s : State) (ix sub : Nat) : (s.noteHost ix sub).dram = s.dram := rfl
@[simp] theorem State.noteHost_fetch (s : State) (ix sub : Nat) : (s.noteHost ix sub).fetch = s.fetch := rfl
@[simp] theorem State.noteHost_host (s : State) (ix sub : Nat) : (s.noteHost ix sub).host = s.host := rfl
@[simp] theorem State.noteHost_net (s : State) (ix sub : Nat) : (s.noteHost ix sub).net = s.net := rfl
@[simp] theorem State.noteHost_clk (s : State) (ix sub : Nat) : (s.noteHost ix sub).clk = s.clk := rfl
@[simp] theorem State.noteHost_nv (s : State) (ix sub : Nat) : (s.noteHost ix sub).nv = s.nv := rfl
@[simp] theorem State.noteHost_pflLast (s : State) (ix sub : Nat) : (s.noteHost ix sub).pflLast = s.pflLast := rfl
@[simp] theorem State.noteHost_ds (s : State) (ix sub : Nat) : (s.noteHost ix sub).ds = { s.ds with hostCycle := s.jasperCycle, hostSlots := (ix, sub) :: s.hostSlots } := rfl
@[simp] theorem State.noteHost_hostPath (s : State) (ix sub : Nat) : (s.noteHost ix sub).hostPath = s.hostPath := rfl
@[simp] theorem State.noteHost_mgmtPath (s : State) (ix sub : Nat) : (s.noteHost ix sub).mgmtPath = s.mgmtPath := rfl
@[simp] theorem State.noteHost_val (s : State) (ix sub : Nat) (k_ : Nat) : (s.noteHost ix sub).val k_ = s.val k_ := rfl
@[simp] theorem State.noteHost_par (s : State) (ix sub : Nat) (ix_ sub_ : Nat) : (s.noteHost ix sub).par ix_ sub_ = s.par ix_ sub_ := rfl

/-! `noteChange` -/

@[simp] theorem State.noteChange_pending (s : State) (t k : Nat) : (s.noteChange t k).pending = s.pending := rfl
@[simp] theorem State.noteChange_out (s : State) (t k : Nat) : (s.noteChange t k).out = s.out := rfl
@[simp] theorem State.noteChange_fresh (s : State) (t k : Nat) : (s.noteChange t k).fresh = s.fresh := rfl
@[simp] theorem State.noteChange_resetHeld (s : State) (t k : Nat) : (s.noteChange t k).resetHeld = s.resetHeld := rfl
@[simp] theorem State.noteChange_now (s : State) (t k : Nat) : (s.noteChange t k).now = s.now := rfl
@[simp] theorem State.noteChange_dict (s : State) (t k : Nat) : (s.noteChange t k).dict = s.dict := rfl
@[simp] theorem State.noteChange_time (s : State) (t k : Nat) : (s.noteChange t k).time = s.time := rfl
@[simp] theorem State.noteChange_edge (s : State) (t k : Nat) : (s.noteChange t k).edge = s.edge := rfl
@[simp] theorem State.noteChange_run (s : State) (t k : Nat) : (s.noteChange t k).run = s.run := rfl
@[simp] theorem State.noteChange_guard (s : State) (t k : Nat) : (s.noteChange t k).guard = s.guard := rfl
@[simp] theorem State.noteChange_line (s : State) (t k : Nat) : (s.noteChange t k).line = s.line := rfl
@[simp] theorem State.noteChange_clockCause (s : State) (t k : Nat) : (s.noteChange t k).clockCause = s.clockCause := rfl
@[simp] theorem State.noteChange_brownCause (s : State) (t k : Nat) : (s.noteChange t k).brownCause = s.brownCause := rfl
@[simp] theorem State.noteChange_ex (s : State) (t k : Nat) : (s.noteChange t k).ex = s.ex := rfl
@[simp] theorem State.noteChange_ca (s : State) (t k : Nat) : (s.noteChange t k).ca = s.ca := rfl
@[simp] theorem State.noteChange_tone (s : State) (t k : Nat) : (s.noteChange t k).tone = s.tone := rfl
@[simp] theorem State.noteChange_clamp (s : State) (t k : Nat) : (s.noteChange t k).clamp = s.clamp := rfl
@[simp] theorem State.noteChange_conv (s : State) (t k : Nat) : (s.noteChange t k).conv = s.conv := rfl
@[simp] theorem State.noteChange_slice (s : State) (t k : Nat) : (s.noteChange t k).slice = s.slice := rfl
@[simp] theorem State.noteChange_overlap (s : State) (t k : Nat) : (s.noteChange t k).overlap = s.overlap := rfl
@[simp] theorem State.noteChange_staged (s : State) (t k : Nat) : (s.noteChange t k).staged = s.staged := rfl
@[simp] theorem State.noteChange_slots (s : State) (t k : Nat) : (s.noteChange t k).slots = s.slots := rfl
@[simp] theorem State.noteChange_markOut (s : State) (t k : Nat) : (s.noteChange t k).markOut = s.markOut := rfl
@[simp] theorem State.noteChange_markOutNum (s : State) (t k : Nat) : (s.noteChange t k).markOutNum = s.markOutNum := rfl
@[simp] theorem State.noteChange_driven (s : State) (t k : Nat) : (s.noteChange t k).driven = s.driven := rfl
@[simp] theorem State.noteChange_cw (s : State) (t k : Nat) : (s.noteChange t k).cw = { s.cw with past := s.cw.past ++ [⟨t, k, s.val k⟩] } := rfl
@[simp] theorem State.noteChange_src (s : State) (t k : Nat) : (s.noteChange t k).src = s.src := rfl
@[simp] theorem State.noteChange_units (s : State) (t k : Nat) : (s.noteChange t k).units = s.units := rfl
@[simp] theorem State.noteChange_seqs (s : State) (t k : Nat) : (s.noteChange t k).seqs = s.seqs := rfl
@[simp] theorem State.noteChange_stream (s : State) (t k : Nat) : (s.noteChange t k).stream = s.stream := rfl
@[simp] theorem State.noteChange_cai (s : State) (t k : Nat) : (s.noteChange t k).cai = s.cai := rfl
@[simp] theorem State.noteChange_mem (s : State) (t k : Nat) : (s.noteChange t k).mem = s.mem := rfl
@[simp] theorem State.noteChange_dram (s : State) (t k : Nat) : (s.noteChange t k).dram = s.dram := rfl
@[simp] theorem State.noteChange_fetch (s : State) (t k : Nat) : (s.noteChange t k).fetch = s.fetch := rfl
@[simp] theorem State.noteChange_host (s : State) (t k : Nat) : (s.noteChange t k).host = s.host := rfl
@[simp] theorem State.noteChange_net (s : State) (t k : Nat) : (s.noteChange t k).net = s.net := rfl
@[simp] theorem State.noteChange_clk (s : State) (t k : Nat) : (s.noteChange t k).clk = s.clk := rfl
@[simp] theorem State.noteChange_nv (s : State) (t k : Nat) : (s.noteChange t k).nv = s.nv := rfl
@[simp] theorem State.noteChange_pflLast (s : State) (t k : Nat) : (s.noteChange t k).pflLast = s.pflLast := rfl
@[simp] theorem State.noteChange_ds (s : State) (t k : Nat) : (s.noteChange t k).ds = s.ds := rfl
@[simp] theorem State.noteChange_hostPath (s : State) (t k : Nat) : (s.noteChange t k).hostPath = s.hostPath := rfl
@[simp] theorem State.noteChange_mgmtPath (s : State) (t k : Nat) : (s.noteChange t k).mgmtPath = s.mgmtPath := rfl
@[simp] theorem State.noteChange_val (s : State) (t k : Nat) (k_ : Nat) : (s.noteChange t k).val k_ = s.val k_ := rfl
@[simp] theorem State.noteChange_par (s : State) (t k : Nat) (ix_ sub_ : Nat) : (s.noteChange t k).par ix_ sub_ = s.par ix_ sub_ := rfl

/-! `arm` -/

@[simp] theorem State.arm_pending (s : State) (src : Nat) : (s.arm src).pending = s.pending := rfl
@[simp] theorem State.arm_out (s : State) (src : Nat) : (s.arm src).out = s.out := rfl
@[simp] theorem State.arm_fresh (s : State) (src : Nat) : (s.arm src).fresh = s.fresh := rfl
@[simp] theorem State.arm_resetHeld (s : State) (src : Nat) : (s.arm src).resetHeld = s.resetHeld := rfl
@[simp] theorem State.arm_now (s : State) (src : Nat) : (s.arm src).now = s.now := rfl
@[simp] theorem State.arm_dict (s : State) (src : Nat) : (s.arm src).dict = s.dict := rfl
@[simp] theorem State.arm_time (s : State) (src : Nat) : (s.arm src).time = s.time := rfl
@[simp] theorem State.arm_edge (s : State) (src : Nat) : (s.arm src).edge = s.edge := rfl
@[simp] theorem State.arm_run (s : State) (src : Nat) : (s.arm src).run = s.run := rfl
@[simp] theorem State.arm_guard (s : State) (src : Nat) : (s.arm src).guard = s.guard := rfl
@[simp] theorem State.arm_line (s : State) (src : Nat) : (s.arm src).line = s.line := rfl
@[simp] theorem State.arm_clockCause (s : State) (src : Nat) : (s.arm src).clockCause = s.clockCause := rfl
@[simp] theorem State.arm_brownCause (s : State) (src : Nat) : (s.arm src).brownCause = s.brownCause := rfl
@[simp] theorem State.arm_ex (s : State) (src : Nat) : (s.arm src).ex = s.ex := rfl
@[simp] theorem State.arm_ca (s : State) (src : Nat) : (s.arm src).ca = s.ca := rfl
@[simp] theorem State.arm_tone (s : State) (src : Nat) : (s.arm src).tone = s.tone := rfl
@[simp] theorem State.arm_clamp (s : State) (src : Nat) : (s.arm src).clamp = s.clamp := rfl
@[simp] theorem State.arm_conv (s : State) (src : Nat) : (s.arm src).conv = s.conv := rfl
@[simp] theorem State.arm_slice (s : State) (src : Nat) : (s.arm src).slice = s.slice := rfl
@[simp] theorem State.arm_overlap (s : State) (src : Nat) : (s.arm src).overlap = s.overlap := rfl
@[simp] theorem State.arm_staged (s : State) (src : Nat) : (s.arm src).staged = s.staged := rfl
@[simp] theorem State.arm_slots (s : State) (src : Nat) : (s.arm src).slots = s.slots := rfl
@[simp] theorem State.arm_markOut (s : State) (src : Nat) : (s.arm src).markOut = s.markOut := rfl
@[simp] theorem State.arm_markOutNum (s : State) (src : Nat) : (s.arm src).markOutNum = s.markOutNum := rfl
@[simp] theorem State.arm_driven (s : State) (src : Nat) : (s.arm src).driven = s.driven := rfl
@[simp] theorem State.arm_cw (s : State) (src : Nat) : (s.arm src).cw = s.cw := rfl
@[simp] theorem State.arm_src (s : State) (src : Nat) : (s.arm src).src = s.src := rfl
@[simp] theorem State.arm_units (s : State) (src : Nat) : (s.arm src).units = s.units := rfl
@[simp] theorem State.arm_seqs (s : State) (src : Nat) : (s.arm src).seqs = s.seqs := rfl
@[simp] theorem State.arm_stream (s : State) (src : Nat) : (s.arm src).stream = s.stream := rfl
@[simp] theorem State.arm_cai (s : State) (src : Nat) : (s.arm src).cai = s.cai := rfl
@[simp] theorem State.arm_mem (s : State) (src : Nat) : (s.arm src).mem = s.mem := rfl
@[simp] theorem State.arm_dram (s : State) (src : Nat) : (s.arm src).dram = s.dram := rfl
@[simp] theorem State.arm_fetch (s : State) (src : Nat) : (s.arm src).fetch = s.fetch := rfl
@[simp] theorem State.arm_host (s : State) (src : Nat) : (s.arm src).host = { s.host with disarmed := s.host.disarmed.filter (fun x => decide (x ≠ src)) } := rfl
@[simp] theorem State.arm_net (s : State) (src : Nat) : (s.arm src).net = s.net := rfl
@[simp] theorem State.arm_clk (s : State) (src : Nat) : (s.arm src).clk = s.clk := rfl
@[simp] theorem State.arm_nv (s : State) (src : Nat) : (s.arm src).nv = s.nv := rfl
@[simp] theorem State.arm_pflLast (s : State) (src : Nat) : (s.arm src).pflLast = s.pflLast := rfl
@[simp] theorem State.arm_ds (s : State) (src : Nat) : (s.arm src).ds = s.ds := rfl
@[simp] theorem State.arm_hostPath (s : State) (src : Nat) : (s.arm src).hostPath = s.hostPath := rfl
@[simp] theorem State.arm_mgmtPath (s : State) (src : Nat) : (s.arm src).mgmtPath = s.mgmtPath := rfl
@[simp] theorem State.arm_val (s : State) (src : Nat) (k_ : Nat) : (s.arm src).val k_ = s.val k_ := rfl
@[simp] theorem State.arm_par (s : State) (src : Nat) (ix_ sub_ : Nat) : (s.arm src).par ix_ sub_ = s.par ix_ sub_ := rfl

/-! `setStream` -/

@[simp] theorem State.setStream_pending (s : State) (n : Nat) (x : StreamSt) : (s.setStream n x).pending = s.pending := rfl
@[simp] theorem State.setStream_out (s : State) (n : Nat) (x : StreamSt) : (s.setStream n x).out = s.out := rfl
@[simp] theorem State.setStream_fresh (s : State) (n : Nat) (x : StreamSt) : (s.setStream n x).fresh = s.fresh := rfl
@[simp] theorem State.setStream_resetHeld (s : State) (n : Nat) (x : StreamSt) : (s.setStream n x).resetHeld = s.resetHeld := rfl
@[simp] theorem State.setStream_now (s : State) (n : Nat) (x : StreamSt) : (s.setStream n x).now = s.now := rfl
@[simp] theorem State.setStream_dict (s : State) (n : Nat) (x : StreamSt) : (s.setStream n x).dict = s.dict := rfl
@[simp] theorem State.setStream_time (s : State) (n : Nat) (x : StreamSt) : (s.setStream n x).time = s.time := rfl
@[simp] theorem State.setStream_edge (s : State) (n : Nat) (x : StreamSt) : (s.setStream n x).edge = s.edge := rfl
@[simp] theorem State.setStream_run (s : State) (n : Nat) (x : StreamSt) : (s.setStream n x).run = s.run := rfl
@[simp] theorem State.setStream_guard (s : State) (n : Nat) (x : StreamSt) : (s.setStream n x).guard = s.guard := rfl
@[simp] theorem State.setStream_line (s : State) (n : Nat) (x : StreamSt) : (s.setStream n x).line = s.line := rfl
@[simp] theorem State.setStream_clockCause (s : State) (n : Nat) (x : StreamSt) : (s.setStream n x).clockCause = s.clockCause := rfl
@[simp] theorem State.setStream_brownCause (s : State) (n : Nat) (x : StreamSt) : (s.setStream n x).brownCause = s.brownCause := rfl
@[simp] theorem State.setStream_ex (s : State) (n : Nat) (x : StreamSt) : (s.setStream n x).ex = s.ex := rfl
@[simp] theorem State.setStream_ca (s : State) (n : Nat) (x : StreamSt) : (s.setStream n x).ca = s.ca := rfl
@[simp] theorem State.setStream_tone (s : State) (n : Nat) (x : StreamSt) : (s.setStream n x).tone = s.tone := rfl
@[simp] theorem State.setStream_clamp (s : State) (n : Nat) (x : StreamSt) : (s.setStream n x).clamp = s.clamp := rfl
@[simp] theorem State.setStream_conv (s : State) (n : Nat) (x : StreamSt) : (s.setStream n x).conv = s.conv := rfl
@[simp] theorem State.setStream_slice (s : State) (n : Nat) (x : StreamSt) : (s.setStream n x).slice = s.slice := rfl
@[simp] theorem State.setStream_overlap (s : State) (n : Nat) (x : StreamSt) : (s.setStream n x).overlap = s.overlap := rfl
@[simp] theorem State.setStream_staged (s : State) (n : Nat) (x : StreamSt) : (s.setStream n x).staged = s.staged := rfl
@[simp] theorem State.setStream_slots (s : State) (n : Nat) (x : StreamSt) : (s.setStream n x).slots = s.slots := rfl
@[simp] theorem State.setStream_markOut (s : State) (n : Nat) (x : StreamSt) : (s.setStream n x).markOut = s.markOut := rfl
@[simp] theorem State.setStream_markOutNum (s : State) (n : Nat) (x : StreamSt) : (s.setStream n x).markOutNum = s.markOutNum := rfl
@[simp] theorem State.setStream_driven (s : State) (n : Nat) (x : StreamSt) : (s.setStream n x).driven = s.driven := rfl
@[simp] theorem State.setStream_cw (s : State) (n : Nat) (x : StreamSt) : (s.setStream n x).cw = s.cw := rfl
@[simp] theorem State.setStream_src (s : State) (n : Nat) (x : StreamSt) : (s.setStream n x).src = s.src := rfl
@[simp] theorem State.setStream_units (s : State) (n : Nat) (x : StreamSt) : (s.setStream n x).units = s.units := rfl
@[simp] theorem State.setStream_seqs (s : State) (n : Nat) (x : StreamSt) : (s.setStream n x).seqs = s.seqs := rfl
@[simp] theorem State.setStream_stream (s : State) (n : Nat) (x : StreamSt) : (s.setStream n x).stream = tset s.stream n x := rfl
@[simp] theorem State.setStream_cai (s : State) (n : Nat) (x : StreamSt) : (s.setStream n x).cai = s.cai := rfl
@[simp] theorem State.setStream_mem (s : State) (n : Nat) (x : StreamSt) : (s.setStream n x).mem = s.mem := rfl
@[simp] theorem State.setStream_dram (s : State) (n : Nat) (x : StreamSt) : (s.setStream n x).dram = s.dram := rfl
@[simp] theorem State.setStream_fetch (s : State) (n : Nat) (x : StreamSt) : (s.setStream n x).fetch = s.fetch := rfl
@[simp] theorem State.setStream_host (s : State) (n : Nat) (x : StreamSt) : (s.setStream n x).host = s.host := rfl
@[simp] theorem State.setStream_net (s : State) (n : Nat) (x : StreamSt) : (s.setStream n x).net = s.net := rfl
@[simp] theorem State.setStream_clk (s : State) (n : Nat) (x : StreamSt) : (s.setStream n x).clk = s.clk := rfl
@[simp] theorem State.setStream_nv (s : State) (n : Nat) (x : StreamSt) : (s.setStream n x).nv = s.nv := rfl
@[simp] theorem State.setStream_pflLast (s : State) (n : Nat) (x : StreamSt) : (s.setStream n x).pflLast = s.pflLast := rfl
@[simp] theorem State.setStream_ds (s : State) (n : Nat) (x : StreamSt) : (s.setStream n x).ds = s.ds := rfl
@[simp] theorem State.setStream_hostPath (s : State) (n : Nat) (x : StreamSt) : (s.setStream n x).hostPath = s.hostPath := rfl
@[simp] theorem State.setStream_mgmtPath (s : State) (n : Nat) (x : StreamSt) : (s.setStream n x).mgmtPath = s.mgmtPath := rfl
@[simp] theorem State.setStream_val (s : State) (n : Nat) (x : StreamSt) (k_ : Nat) : (s.setStream n x).val k_ = s.val k_ := rfl
@[simp] theorem State.setStream_par (s : State) (n : Nat) (x : StreamSt) (ix_ sub_ : Nat) : (s.setStream n x).par ix_ sub_ = s.par ix_ sub_ := rfl

/-! `noteClose` -/

@[simp] theorem State.noteClose_pending (s : State) : (s.noteClose).pending = s.pending := rfl
@[simp] theorem State.noteClose_out (s : State) : (s.noteClose).out = s.out := rfl
@[simp] theorem State.noteClose_fresh (s : State) : (s.noteClose).fresh = s.fresh := rfl
@[simp] theorem State.noteClose_resetHeld (s : State) : (s.noteClose).resetHeld = s.resetHeld := rfl
@[simp] theorem State.noteClose_now (s : State) : (s.noteClose).now = s.now := rfl
@[simp] theorem State.noteClose_dict (s : State) : (s.noteClose).dict = s.dict := rfl
@[simp] theorem State.noteClose_time (s : State) : (s.noteClose).time = s.time := rfl
@[simp] theorem State.noteClose_edge (s : State) : (s.noteClose).edge = s.edge := rfl
@[simp] theorem State.noteClose_run (s : State) : (s.noteClose).run = s.run := rfl
@[simp] theorem State.noteClose_guard (s : State) : (s.noteClose).guard = s.guard := rfl
@[simp] theorem State.noteClose_line (s : State) : (s.noteClose).line = s.line := rfl
@[simp] theorem State.noteClose_clockCause (s : State) : (s.noteClose).clockCause = s.clockCause := rfl
@[simp] theorem State.noteClose_brownCause (s : State) : (s.noteClose).brownCause = s.brownCause := rfl
@[simp] theorem State.noteClose_ex (s : State) : (s.noteClose).ex = s.ex := rfl
@[simp] theorem State.noteClose_ca (s : State) : (s.noteClose).ca = s.ca := rfl
@[simp] theorem State.noteClose_tone (s : State) : (s.noteClose).tone = s.tone := rfl
@[simp] theorem State.noteClose_clamp (s : State) : (s.noteClose).clamp = s.clamp := rfl
@[simp] theorem State.noteClose_conv (s : State) : (s.noteClose).conv = s.conv := rfl
@[simp] theorem State.noteClose_slice (s : State) : (s.noteClose).slice = s.slice := rfl
@[simp] theorem State.noteClose_overlap (s : State) : (s.noteClose).overlap = s.overlap := rfl
@[simp] theorem State.noteClose_staged (s : State) : (s.noteClose).staged = s.staged := rfl
@[simp] theorem State.noteClose_slots (s : State) : (s.noteClose).slots = s.slots := rfl
@[simp] theorem State.noteClose_markOut (s : State) : (s.noteClose).markOut = s.markOut := rfl
@[simp] theorem State.noteClose_markOutNum (s : State) : (s.noteClose).markOutNum = s.markOutNum := rfl
@[simp] theorem State.noteClose_driven (s : State) : (s.noteClose).driven = s.driven := rfl
@[simp] theorem State.noteClose_cw (s : State) : (s.noteClose).cw = { s.cw with closeCycle := some s.jasperCycle, closeNum := s.closeOrder } := rfl
@[simp] theorem State.noteClose_src (s : State) : (s.noteClose).src = s.src := rfl
@[simp] theorem State.noteClose_units (s : State) : (s.noteClose).units = s.units := rfl
@[simp] theorem State.noteClose_seqs (s : State) : (s.noteClose).seqs = s.seqs := rfl
@[simp] theorem State.noteClose_stream (s : State) : (s.noteClose).stream = s.stream := rfl
@[simp] theorem State.noteClose_cai (s : State) : (s.noteClose).cai = s.cai := rfl
@[simp] theorem State.noteClose_mem (s : State) : (s.noteClose).mem = s.mem := rfl
@[simp] theorem State.noteClose_dram (s : State) : (s.noteClose).dram = s.dram := rfl
@[simp] theorem State.noteClose_fetch (s : State) : (s.noteClose).fetch = s.fetch := rfl
@[simp] theorem State.noteClose_host (s : State) : (s.noteClose).host = s.host := rfl
@[simp] theorem State.noteClose_net (s : State) : (s.noteClose).net = s.net := rfl
@[simp] theorem State.noteClose_clk (s : State) : (s.noteClose).clk = s.clk := rfl
@[simp] theorem State.noteClose_nv (s : State) : (s.noteClose).nv = s.nv := rfl
@[simp] theorem State.noteClose_pflLast (s : State) : (s.noteClose).pflLast = s.pflLast := rfl
@[simp] theorem State.noteClose_ds (s : State) : (s.noteClose).ds = s.ds := rfl
@[simp] theorem State.noteClose_hostPath (s : State) : (s.noteClose).hostPath = s.hostPath := rfl
@[simp] theorem State.noteClose_mgmtPath (s : State) : (s.noteClose).mgmtPath = s.mgmtPath := rfl
@[simp] theorem State.noteClose_val (s : State) (k_ : Nat) : (s.noteClose).val k_ = s.val k_ := rfl
@[simp] theorem State.noteClose_par (s : State) (ix_ sub_ : Nat) : (s.noteClose).par ix_ sub_ = s.par ix_ sub_ := rfl

/-! `setSrc` -/

@[simp] theorem State.setSrc_pending (s : State) (n : Nat) (x : SrcSt) : (s.setSrc n x).pending = s.pending := rfl
@[simp] theorem State.setSrc_out (s : State) (n : Nat) (x : SrcSt) : (s.setSrc n x).out = s.out := rfl
@[simp] theorem State.setSrc_fresh (s : State) (n : Nat) (x : SrcSt) : (s.setSrc n x).fresh = s.fresh := rfl
@[simp] theorem State.setSrc_resetHeld (s : State) (n : Nat) (x : SrcSt) : (s.setSrc n x).resetHeld = s.resetHeld := rfl
@[simp] theorem State.setSrc_now (s : State) (n : Nat) (x : SrcSt) : (s.setSrc n x).now = s.now := rfl
@[simp] theorem State.setSrc_dict (s : State) (n : Nat) (x : SrcSt) : (s.setSrc n x).dict = s.dict := rfl
@[simp] theorem State.setSrc_time (s : State) (n : Nat) (x : SrcSt) : (s.setSrc n x).time = s.time := rfl
@[simp] theorem State.setSrc_edge (s : State) (n : Nat) (x : SrcSt) : (s.setSrc n x).edge = s.edge := rfl
@[simp] theorem State.setSrc_run (s : State) (n : Nat) (x : SrcSt) : (s.setSrc n x).run = s.run := rfl
@[simp] theorem State.setSrc_guard (s : State) (n : Nat) (x : SrcSt) : (s.setSrc n x).guard = s.guard := rfl
@[simp] theorem State.setSrc_line (s : State) (n : Nat) (x : SrcSt) : (s.setSrc n x).line = s.line := rfl
@[simp] theorem State.setSrc_clockCause (s : State) (n : Nat) (x : SrcSt) : (s.setSrc n x).clockCause = s.clockCause := rfl
@[simp] theorem State.setSrc_brownCause (s : State) (n : Nat) (x : SrcSt) : (s.setSrc n x).brownCause = s.brownCause := rfl
@[simp] theorem State.setSrc_ex (s : State) (n : Nat) (x : SrcSt) : (s.setSrc n x).ex = s.ex := rfl
@[simp] theorem State.setSrc_ca (s : State) (n : Nat) (x : SrcSt) : (s.setSrc n x).ca = s.ca := rfl
@[simp] theorem State.setSrc_tone (s : State) (n : Nat) (x : SrcSt) : (s.setSrc n x).tone = s.tone := rfl
@[simp] theorem State.setSrc_clamp (s : State) (n : Nat) (x : SrcSt) : (s.setSrc n x).clamp = s.clamp := rfl
@[simp] theorem State.setSrc_conv (s : State) (n : Nat) (x : SrcSt) : (s.setSrc n x).conv = s.conv := rfl
@[simp] theorem State.setSrc_slice (s : State) (n : Nat) (x : SrcSt) : (s.setSrc n x).slice = s.slice := rfl
@[simp] theorem State.setSrc_overlap (s : State) (n : Nat) (x : SrcSt) : (s.setSrc n x).overlap = s.overlap := rfl
@[simp] theorem State.setSrc_staged (s : State) (n : Nat) (x : SrcSt) : (s.setSrc n x).staged = s.staged := rfl
@[simp] theorem State.setSrc_slots (s : State) (n : Nat) (x : SrcSt) : (s.setSrc n x).slots = s.slots := rfl
@[simp] theorem State.setSrc_markOut (s : State) (n : Nat) (x : SrcSt) : (s.setSrc n x).markOut = s.markOut := rfl
@[simp] theorem State.setSrc_markOutNum (s : State) (n : Nat) (x : SrcSt) : (s.setSrc n x).markOutNum = s.markOutNum := rfl
@[simp] theorem State.setSrc_driven (s : State) (n : Nat) (x : SrcSt) : (s.setSrc n x).driven = s.driven := rfl
@[simp] theorem State.setSrc_cw (s : State) (n : Nat) (x : SrcSt) : (s.setSrc n x).cw = s.cw := rfl
@[simp] theorem State.setSrc_src (s : State) (n : Nat) (x : SrcSt) : (s.setSrc n x).src = tset s.src n x := rfl
@[simp] theorem State.setSrc_units (s : State) (n : Nat) (x : SrcSt) : (s.setSrc n x).units = s.units := rfl
@[simp] theorem State.setSrc_seqs (s : State) (n : Nat) (x : SrcSt) : (s.setSrc n x).seqs = s.seqs := rfl
@[simp] theorem State.setSrc_stream (s : State) (n : Nat) (x : SrcSt) : (s.setSrc n x).stream = s.stream := rfl
@[simp] theorem State.setSrc_cai (s : State) (n : Nat) (x : SrcSt) : (s.setSrc n x).cai = s.cai := rfl
@[simp] theorem State.setSrc_mem (s : State) (n : Nat) (x : SrcSt) : (s.setSrc n x).mem = s.mem := rfl
@[simp] theorem State.setSrc_dram (s : State) (n : Nat) (x : SrcSt) : (s.setSrc n x).dram = s.dram := rfl
@[simp] theorem State.setSrc_fetch (s : State) (n : Nat) (x : SrcSt) : (s.setSrc n x).fetch = s.fetch := rfl
@[simp] theorem State.setSrc_host (s : State) (n : Nat) (x : SrcSt) : (s.setSrc n x).host = s.host := rfl
@[simp] theorem State.setSrc_net (s : State) (n : Nat) (x : SrcSt) : (s.setSrc n x).net = s.net := rfl
@[simp] theorem State.setSrc_clk (s : State) (n : Nat) (x : SrcSt) : (s.setSrc n x).clk = s.clk := rfl
@[simp] theorem State.setSrc_nv (s : State) (n : Nat) (x : SrcSt) : (s.setSrc n x).nv = s.nv := rfl
@[simp] theorem State.setSrc_pflLast (s : State) (n : Nat) (x : SrcSt) : (s.setSrc n x).pflLast = s.pflLast := rfl
@[simp] theorem State.setSrc_ds (s : State) (n : Nat) (x : SrcSt) : (s.setSrc n x).ds = s.ds := rfl
@[simp] theorem State.setSrc_hostPath (s : State) (n : Nat) (x : SrcSt) : (s.setSrc n x).hostPath = s.hostPath := rfl
@[simp] theorem State.setSrc_mgmtPath (s : State) (n : Nat) (x : SrcSt) : (s.setSrc n x).mgmtPath = s.mgmtPath := rfl
@[simp] theorem State.setSrc_val (s : State) (n : Nat) (x : SrcSt) (k_ : Nat) : (s.setSrc n x).val k_ = s.val k_ := rfl
@[simp] theorem State.setSrc_par (s : State) (n : Nat) (x : SrcSt) (ix_ sub_ : Nat) : (s.setSrc n x).par ix_ sub_ = s.par ix_ sub_ := rfl

end Sys2Proof.Machine
end

