-- ==== Sys2Proof/Laws/Values.lean ====
section
/-! SUPPORT. What the shared operations on the dictionary's values do: the value written is read, a counter adds one, a mark
rises. -/
namespace Sys2Proof.Machine

/-- Two instances with one key have one index. -/
theorem key_index {ix sub jx tub : Nat} (h : key ix sub = key jx tub) : ix = jx := by
  unfold key at h; omega

theorem par_setPar_self (s : State) (ix sub v : Nat) (h : Dict.wf s.dict) : (s.setPar ix sub v).par ix sub = v := by
  rw [par_setPar s ix sub ix sub v h, if_pos rfl]

theorem par_setPar_ne (s : State) (ix sub jx tub v : Nat) (h : Dict.wf s.dict) (e : key jx tub ≠ key ix sub) :
    (s.setPar ix sub v).par jx tub = s.par jx tub := by
  rw [par_setPar s ix sub jx tub v h, if_neg e]

theorem par_setPar_other (s : State) (ix sub jx tub v : Nat) (h : Dict.wf s.dict) (e : jx ≠ ix) :
    (s.setPar ix sub v).par jx tub = s.par jx tub :=
  par_setPar_ne s ix sub jx tub v h (fun k => e (key_index k))

theorem dictWf_cnt (s : State) (ix sub : Nat) (h : Dict.wf s.dict) : Dict.wf (s.cnt ix sub).dict := by
  unfold State.cnt
  extract_lets v s1 c
  have h1 : Dict.wf s1.dict := dictWf_setPar _ _ _ _ h
  split
  · exact h
  · split
    · exact dictWf_setPar _ _ _ _ (dictWf_setPar _ _ _ _ h1)
    · exact h1

/-- An event on a counter: it adds one until it is saturated (R357). -/
theorem par_cnt_self (s : State) (ix sub : Nat) (h : Dict.wf s.dict) (h1 : ix ≠ Ix.dictSatCount) (h2 : ix ≠ Ix.dictSatLast) :
    (s.cnt ix sub).par ix sub = cntNext (s.par ix sub) := by
  unfold State.cnt cntNext
  extract_lets v s1 c
  have w1 : Dict.wf s1.dict := dictWf_setPar _ _ _ _ h
  have e1 : s1.par ix sub = v + 1 := par_setPar_self _ _ _ _ h
  show _ = if v < 0xFFFFFFFF then v + 1 else v
  by_cases hv : 0xFFFFFFFF ≤ v
  · rw [if_pos hv, if_neg (Nat.not_lt.mpr hv)]
  · rw [if_neg hv, if_pos (Nat.lt_of_not_le hv)]
    split
    · rw [par_setPar_other _ _ _ _ _ _ (dictWf_setPar _ _ _ _ w1) h2, par_setPar_other _ _ _ _ _ _ w1 h1, e1]
    · exact e1

/-- An event on a counter leaves every other instance, but for the count of saturations. -/
theorem par_cnt_other (s : State) (ix sub jx tub : Nat) (h : Dict.wf s.dict) (e : key jx tub ≠ key ix sub)
    (h1 : jx ≠ Ix.dictSatCount) (h2 : jx ≠ Ix.dictSatLast) : (s.cnt ix sub).par jx tub = s.par jx tub := by
  unfold State.cnt
  extract_lets v s1 c
  have w1 : Dict.wf s1.dict := dictWf_setPar _ _ _ _ h
  have e1 : s1.par jx tub = s.par jx tub := par_setPar_ne _ _ _ _ _ _ h e
  split
  · rfl
  · split
    · rw [par_setPar_other _ _ _ _ _ _ (dictWf_setPar _ _ _ _ w1) h2, par_setPar_other _ _ _ _ _ _ w1 h1, e1]
    · exact e1

/-- A high-water mark rises to a value above it (R359). -/
theorem par_mark_self (s : State) (ix sub v : Nat) (h : Dict.wf s.dict) :
    (s.mark ix sub v).par ix sub = max (s.par ix sub) v := by
  unfold State.mark
  split
  · rw [par_setPar_self _ _ _ _ h]; omega
  · omega

/-- Garnet time never runs backwards when a command arrives (R26). -/
theorem now_enter (s : State) (t : Nat) : s.now ≤ (s.enter t).now := by
  show s.now ≤ s.timeAt t
  have held : ∀ f p h x, h ≤ coarseCount f p h x := by
    intro f p h x
    unfold coarseCount
    split <;> omega
  unfold State.timeAt
  split <;> split
  · exact Nat.le_refl _
  · exact held _ _ _ _
  · exact Nat.le_refl _
  · exact Nat.le_max_left _ _

end Sys2Proof.Machine
end

