-- ==== Sys2Proof/Machine/Package.lean ====
section
/-! DEFINITION. Where the pins of the piers and lanes lie on the package, and the service-life rating
(20_electrical_package.md R464, R466 to R468). -/
namespace Sys2Proof.Machine

/-- A ball by its row and column, 1 to 45 (R466). -/
structure Ball where
  row : Nat
  col : Nat
  deriving DecidableEq, Repr

/-- The place of a ball's centre from the package centre in mm, in the top view (R466). -/
def Ball.place (b : Ball) : Int × Int := ((b.col : Int) - 23, 23 - (b.row : Int))

/-- What a ball of a pier's block carries (Table 8); lanes by their position 0 to 7 in the pier. -/
inductive PierPin where
  | x0 | x1 | agnd | vss | van5 | van18
  | laneA (i : Nat) | laneB (i : Nat) | laneT (i : Nat) | laneG (i : Nat)
  deriving DecidableEq, Repr

/-- The pin of a pier's block at depth `d`, 0 to 17, and offset `k`, 0 to 2 (R468 Table 8). -/
def pierPin (d k : Nat) : PierPin :=
  if d = 0 then (match k with | 0 => .x0 | 1 => .agnd | _ => .x1)
  else if d = 17 then (match k with | 0 => .van5 | 1 => .van18 | _ => .agnd)
  else if d % 2 = 1 then (match k with | 0 => .laneA ((d - 1) / 2) | 1 => .laneB ((d - 1) / 2) | _ => .agnd)
  else (match k with | 0 => .laneT ((d - 2) / 2) | 1 => .laneG ((d - 2) / 2) | _ => .vss)

/-- The ball of a pier at a depth and an offset (R468). -/
def pierBall (p d k : Nat) : Ball := ⟨if p < 12 then 1 + d else 45 - d, 1 + 3 * (p % 12) + k⟩

/-- The balls of a lane: its pins A and B, its threshold input, its guard output (R468). -/
def laneBalls (lane : Nat) : List Ball :=
  let p := lane / 8
  let i := lane % 8
  [pierBall p (1 + 2 * i) 0, pierBall p (1 + 2 * i) 1, pierBall p (2 + 2 * i) 0, pierBall p (2 + 2 * i) 1]

/-- The groups of Table 7. -/
inductive PinGroup where
  | lanesLow | lanesHigh | pciExpress | ethernet | core | viaduct | control | ddrM0 | ddrM1 | ddrGap
  deriving DecidableEq, Repr

/-- The group of a ball (R467 Table 7). -/
def Ball.group (b : Ball) : PinGroup :=
  if 37 ≤ b.col then (if b.row ≤ 22 then .ddrM0 else if b.row = 23 then .ddrGap else .ddrM1)
  else if b.row ≤ 18 then .lanesLow
  else if 28 ≤ b.row then .lanesHigh
  else if b.col ≤ 12 then .pciExpress
  else if b.col ≤ 16 then .ethernet
  else if b.col ≤ 30 then .core
  else if b.col ≤ 32 then .viaduct
  else .control

/-- The service-life rating of 40 years still holds (R464). -/
def State.lifeRated (s : State) : Bool := decide (s.par Ix.diagLifeUsed 0 ≤ 350640)

end Sys2Proof.Machine
end

