-- ==== Sys2Proof/WellFormed.lean ====
section
/-! DEFINITION. Well-formed commands: operands inside the widths and places that the spec gives them. The meanings are total and
do not ask for it; statements do. -/
namespace Sys2Proof

/-- A number of 8, 16, 32 bits. -/
def u8 (n : Nat) : Bool := decide (n < 2 ^ 8)
def u16 (n : Nat) : Bool := decide (n < 2 ^ 16)
def u32 (n : Nat) : Bool := decide (n < 2 ^ 32)

/-- A TDC reading: one of 256 raw codes (R32). The count at which its coarse period begins may be any: a slewed period is a tick
longer or shorter (R47). -/
def tdcOk (code : Nat) : Bool := decide (code < 256)

/-- A doubleword of BAR0, 256 MiB, or of BAR2, 1 MiB (R299). -/
def barOk (bar2 : Bool) (off : Nat) : Bool := decide (off % 4 = 0) && decide (off < if bar2 then 2 ^ 20 else 2 ^ 28)

/-- One of 16,384 tags (R327). -/
def tagOk (tag : Nat) : Bool := decide (tag < 2 ^ 14)

/-- A codeword in error: a pattern over its 20 symbols that changes one at least (R281). -/
def CodeErr.wf (e : CodeErr) : Bool := decide (e.err.length = 20) && e.err.any (fun b => decide (b ≠ 0))

/-- Header fields of a PTP message inside their widths. -/
def PtpMsg.wf (m : PtpMsg) : Bool :=
  decide (m.version < 16) && decide (m.kind < 16) && u8 m.domain && u16 m.length && u8 m.prio1 && u8 m.prio2 && u16 m.peer

/-- Header fields of a CDP message inside their widths (R374 Table 2). -/
def CdpHdr.wf (h : CdpHdr) : Bool :=
  u16 h.peer && decide (h.extra < 4) && decide (h.version < 16) && u16 h.session && u16 h.length && u32 h.seq
    && u16 h.dst && u16 h.src && u16 h.gen && u8 h.guardLane
    && decide (h.tag < 2 ^ 128)

/-- A CDP message fits a frame: at most 530 bytes of payload after the IP and UDP headers (R371). -/
def cdpOk (h : CdpHdr) (body : List Word) : Bool := h.wf && decide (body.length ≤ 127)

/-- What a frame carries is inside its widths; a stray CDP message has an operation that no command names. -/
def EthBody.wf : EthBody → Bool
  | .ptp => true
  | .ringTest => true
  | .esmc level => decide (level < 16)
  | .request _ => true
  | .cdpMalformed peer _ => u16 peer
  | .cdpOther h op body =>
    cdpOk h body && u8 op
      && !([1, 2, 4, 5, 0x10, 0x11, 0x12, 0x13, 0x14, 0x15, 0x16, 0x20, 0x21, 0x40, 0x50, 0x51, 0x52].contains op)
  | .cdp => true
  | .other => true

/-- The command is well formed. -/
def Instr.wf : Instr → Bool
  | .powerOn _ _ _ => true
  | .resetNAssert _ => true
  | .startUpStepEnd _ _ _ _ _ _ => true
  | .brownOut _ _ => true
  | .railLow _ _ => true
  | .sourceReady _ _ _ _ _ => true
  | .pllLock _ _ _ _ => true
  | .clockFailure _ _ _ _ _ _ _ => true
  | .safeHoldEntry _ _ _ => true
  | .safeHoldRetry _ _ => true
  | .domainRelease _ => true
  | .autoReturn _ => true
  | .clkReturn _ => true
  | .sourceSelectWrite _ _ v => u8 v
  | .forceSrcWrite _ _ v => u8 v
  | .jasperPointWrite _ _ => true
  | .dvfsDwellEnd _ => true
  | .pgoodTimeout _ => true
  | .pgoodFall _ => true
  | .pgoodRise _ => true
  | .pwrCmd _ _ _ => true
  | .pwrPierCmd _ _ _ _ => true
  | .powerStateEffect _ _ _ => true
  | .wakeEvent _ _ _ => true
  | .unitWake _ _ => true
  | .watchdogExpiry _ _ _ => true
  | .fwConfirm _ => true
  | .ageHour _ _ => true
  | .tjSample _ _ => true
  | .timeLoadCmd _ => true
  | .timeLoadEffect _ => true
  | .ptpMessageRx _ _ m => m.wf
  | .announceTimeout _ _ => true
  | .servoSlewTick _ _ => true
  | .forwardStep _ => true
  | .backwardStep _ => true
  | .ppsOutEdge _ => true
  | .ppsInEdge _ _ code => tdcOk code
  | .froMeasurement _ _ _ _ => true
  | .tdcCalWindowEnd _ _ counts => decide (counts.length = 256)
  | .tdcTableUpdate _ => true
  | .thresholdEdge _ _ _ code _ => tdcOk code
  | .tdcResample _ _ => true
  | .deglitchEnd _ _ => true
  | .digitalSample _ _ _ => true
  | .fcZoneChange _ _ _ _ => true
  | .eventDelivery _ _ errs => errs.all CodeErr.wf
  | .bufDrop _ _ => true
  | .lossAccountClose _ _ => true
  | .causewayRelease _ errs => errs.all CodeErr.wf
  | .frameAgeClose _ _ => true
  | .streamFlush _ _ => true
  | .keystoneItem _ => true
  | .deadlineItem _ => true
  | .markOutSend _ => true
  | .timedActionExec _ => true
  | .pulseEnd _ _ => true
  | .guardSafeAll _ => true
  | .guardSafeRelease _ _ => true
  | .vdSafeRelease _ _ => true
  | .exSafeRelease _ _ => true
  | .safeReleaseEffect _ _ => true
  | .exFlagSet _ _ _ _ => true
  | .exFlagClear _ _ _ _ => true
  | .exSwap _ _ => true
  | .biasOverload _ _ _ => true
  | .caAutoTrip _ _ _ _ => true
  | .caPeriodicReset _ _ _ _ => true
  | .caResetCmd _ _ => true
  | .caResetEnd _ _ _ _ => true
  | .clampSet _ _ _ => true
  | .clampClear _ _ _ => true
  | .toneBurst _ _ => true
  | .toneResult _ _ _ => true
  | .sampleOutput _ _ _ _ _ => true
  | .calUserCommit _ _ => true
  | .rotationSlot _ _ _ => true
  | .rotationDecision _ _ => true
  | .referenceCycleEnd _ _ _ _ _ _ _ => true
  | .pierSliceRetest _ _ => true
  | .caissonRecord _ _ raws errs => decide (raws.map Prod.fst).Nodup && errs.all CodeErr.wf
  | .snapshotFraming _ _ errs => errs.all CodeErr.wf
  | .caissonRearm _ _ => true
  | .berylEngineTake _ _ errs => errs.all CodeErr.wf
  | .berylComplete _ _ => true
  | .frameToHead _ _ errs => errs.all CodeErr.wf
  | .spanMove _ _ _ errs => errs.all CodeErr.wf
  | .spanRestart _ _ => true
  | .fetchStart _ => true
  | .fetchAbort _ => true
  | .fetchFrame _ errs => errs.all CodeErr.wf
  | .refreshSlot _ _ => true
  | .scrubSlot _ _ errs => errs.all CodeErr.wf
  | .tmrScrub _ ix sub c0 c1 c2 => u16 ix && u8 sub && u32 c0 && u32 c1 && u32 c2
  | .configEffect _ reads => decide (reads.map Prod.fst).Nodup
  | .dictSnapshot _ => true
  | .snapshotTake _ => true
  | .slowWriteApply _ _ => true
  | .registerWrite _ bar2 off ws _ _ tlp _ => barOk bar2 off && decide (ws ≠ []) && u16 tlp.peer
  | .wideWordWrite _ _ _ _ tlp _ => u16 tlp.peer
  | .wideLowRead _ bar2 off n _ _ tlp => barOk bar2 off && decide (1 ≤ n) && u16 tlp.peer
  | .configRequest _ _ _ _ _ => true
  | .perstNFall _ _ _ => true
  | .hotReset _ => true
  | .linkDown _ => true
  | .linkUp _ _ _ => true
  | .inboundTlpError _ _ _ _ tlp => u16 tlp.peer
  | .portResume _ tlp => u16 tlp.peer
  | .portRestart _ tlp => u16 tlp.peer
  | .ringEnable _ _ tlp => u16 tlp.peer
  | .ringDisable _ _ tlp => u16 tlp.peer
  | .doorbellHostPtr _ _ _ tlp => u16 tlp.peer
  | .doorbellHostSeen _ _ _ tlp => u16 tlp.peer
  | .descriptorRead _ _ want => decide (1 ≤ want)
  | .completionRx _ tag _ _ tlp => tagOk tag && u16 tlp.peer
  | .completionTimeout _ tag => tagOk tag
  | .tagQuarantineEnd _ tag => tagOk tag
  | .frameDeliver _ _ errs => errs.all CodeErr.wf
  | .idleClose _ _ => true
  | .irqMessage _ _ => true
  | .irqAck _ _ _ => true
  | .windowEnable _ _ => true
  | .windowDisable _ _ _ => true
  | .windowDrained _ _ => true
  | .bar4Read _ a n errs tlp => decide (a % 4 = 0) && decide (1 ≤ n) && errs.all CodeErr.wf && u16 tlp.peer
  | .bar4Write _ a ws _ _ errs tlp => decide (a % 4 = 0) && decide (ws ≠ []) && errs.all CodeErr.wf && u16 tlp.peer
  | .ethFrameRx _ _ _ _ _ body => body.wf
  | .ringTestSend _ => true
  | .ringTestTimeout _ => true
  | .markOutRx _ _ dst length body peer => u16 dst && u16 length && decide (body.length ≤ 122) && u16 peer
  | .identify _ h body => cdpOk h body
  | .sessionOpen _ h body => cdpOk h body
  | .sessionAuthKeys _ h body => cdpOk h body
  | .sessionAuthSign _ h body => cdpOk h body
  | .sessionClose _ h body => cdpOk h body
  | .sessionIdleTimeout _ n => u16 n
  | .ownershipTake _ h body => cdpOk h body
  | .ownershipRelease _ h body => cdpOk h body
  | .cdpRead _ h body => cdpOk h body
  | .cdpWrite _ h body => cdpOk h body
  | .readMulti _ h body => cdpOk h body
  | .writeMulti _ h body => cdpOk h body
  | .cdpEnable _ h body => cdpOk h body
  | .cdpDisable _ h body => cdpOk h body
  | .snapshotCounters _ h body => cdpOk h body
  | .cdpResponseSend _ => true
  | .subscribePeriodic _ h body => cdpOk h body
  | .subscribeOnChange _ h body => cdpOk h body
  | .subscribeStream _ h body => cdpOk h body
  | .subscribeAlerts _ h body => cdpOk h body
  | .subscribeCancel _ h body => cdpOk h body
  | .eventAcknowledge _ h body => cdpOk h body
  | .subscriptionTimer _ _ => true
  | .eventSend _ _ errs => errs.all CodeErr.wf
  | .eventResend _ n => u16 n
  | .attest _ h body => cdpOk h body
  | .cdpSave _ h body => cdpOk h body
  | .cdpLoad _ h body => cdpOk h body
  | .storeSave _ => true
  | .storeSaveSigned _ => true
  | .storeLoadCurrent _ => true
  | .storeLoadA _ => true
  | .storeLoadB _ => true
  | .saveComplete _ _ => true
  | .fwStage _ h body => cdpOk h body
  | .fwActivate _ h body _ _ => cdpOk h body
  | .ethLinkDown _ _ => true
  | .ethLinkUp _ _ => true
  | .ptpMessageSend _ _ _ => true
  | .esmcPduSend _ _ => true
  | .brownOutClear _ _ => true
  | .railLowClear _ _ => true
  | .perstNRise _ => true
  | .resetNRelease _ _ => true
  | .msixVectorUnmask _ _ tlp => u16 tlp.peer

end Sys2Proof
end

