-- ==== Sys2Proof/Tests/Slice0.lean ====
section
/-! SUPPORT. Tests: ill-formed commands are refused by the check of their form; worked examples and check values of the spec; for every
statement that has hypotheses, states and operands that meet them, clause by clause. -/
namespace Sys2Proof.Tests
open Sys2Proof Sys2Proof.Machine
set_option Elab.async false

/-- A state with parameters set. -/
def withPars (l : List (Nat × Nat × Nat)) (s : State) : State := l.foldl (fun u x => u.setPar x.1 x.2.1 x.2.2) s

/-- 2 s of Garnet time. -/
def T0 : Nat := 512000000000

/-- A device that runs: start-up over, RUN, TPLL released onto XA, time FINE. -/
def dev : State := withPars ([(Ix.startStep, 0, 10), (Ix.pwrState, 0, 3), (Ix.clkReady, 0, 63), (Ix.clkDomainGood, 0, 127), (Ix.memState, 0, 1),
    (Ix.memSize, 0, 65536), (Ix.netPortEnable, 0, 1), (Ix.netPortEnable, 1, 1), (Ix.netLink, 0, 1), (Ix.netLink, 1, 1), (Ix.pwrPierState, 23, 2),
    (Ix.pwrPierTarget, 23, 2)] ++ (List.range 5).map (fun l => (Ix.clkPllState, l, 2)))
  { State.reset with
    time := { quality := .fine }
    clk := { ref := some .xa, opalXb := true }
    dram := { channels := 2, ranks := 2, rate := 6400 } }

/-- That device with its host port running. -/
def port : State := withPars [(Ix.hostLinkState, 0, 2), (Ix.hostPortState, 0, 0), (Ix.hostMaxSpeed, 0, 5), (Ix.hostMaxWidth, 0, 8)]
  { dev with host := { dev.host with perst := true, cfg := tset dev.host.cfg 4 6 } }

/-- A request of the host. -/
def tlp0 : Tlp := ⟨0, 0, 0, 0, 0⟩

/-- A request of session 5 with `n` words of body. -/
def hdr (n : Nat) : CdpHdr where
  port := 0
  peer := 0
  extra := 0
  version := 1
  reserved := false
  more := false
  auth := false
  guard := false
  abort := false
  response := false
  session := 5
  length := 20 + 4 * n
  seq := 1
  dst := 65535
  src := 4
  gen := 0
  guardLane := 0
  tag := 0
  busy := false

/-- The device with session 5 open, and others; `owner` is the owning session. -/
def cdp (owner : Nat) (more : List (Nat × Session)) : State := withPars [(Ix.netOwner, 0, owner)]
  { dev with net := { dev.net with sessions := (5, {}) :: more }, nv := { dev.nv with running := true } }

def prm (ix sub : Nat) : Param := (paramAt ix sub).getD ⟨0, 0, 0, 0, .u8, .ro, .const 0, 0, 0, 0⟩

/-- The state that a command answers. -/
def after (c : Instr) (s : State) : State := match exec c s with
  | .next t => t
  | _ => s

def answers (c : Instr) (s : State) : Bool := match exec c s with
  | .next _ => true
  | _ => false

theorem exec_after (c : Instr) (s : State) (h : answers c s = true) : exec c s = .next (after c s) := by
  unfold after
  unfold answers at h
  split at h
  · rename_i t e
    simp only [e]
  · cases h

theorem step_after (c : Instr) (s : State) (h : answers c s = true) : step { s with pending := c :: s.pending } = .next (after c s) :=
  exec_after c s h

theorem eq_ok {ε α : Type} [DecidableEq α] {e : Except ε α} {a : α}
    (h : (match e with
      | .ok b => decide (b = a)
      | .error _ => false) = true) : e = .ok a := by
  cases e with
  | ok b => exact congrArg Except.ok (of_decide_eq_true h)
  | error b => cases h

theorem eq_error {ε α : Type} [DecidableEq ε] {e : Except ε α} {a : ε}
    (h : (match e with
      | .error b => decide (b = a)
      | .ok _ => false) = true) : e = .error a := by
  cases e with
  | error b => exact congrArg Except.error (of_decide_eq_true h)
  | ok b => cases h

/-! ### Ill-formed commands -/

theorem test_wf_refuses_wide_numbers :
    (Instr.sourceSelectWrite 0 true 256).wf = false ∧ (Instr.markOutRx 0 0 65536 40 [] 0).wf = false
    ∧ (Instr.tmrScrub 0 0 0 (2 ^ 32) 0 0).wf = false ∧ (Instr.ringEnable 0 0 ⟨65536, 0, 0, 0, 0⟩).wf = false := by decide

theorem test_wf_refuses_tdc :
    (Instr.thresholdEdge 0 3 255 256 (.level true)).wf = false ∧ (Instr.ppsInEdge 0 256 256).wf = false
    ∧ (Instr.tdcCalWindowEnd 0 3 [1]).wf = false := by decide

theorem test_wf_refuses_port :
    (Instr.registerWrite 0 false 2 [0] 15 0 tlp0 false).wf = false ∧ (Instr.registerWrite 0 true (2 ^ 20) [0] 15 0 tlp0 false).wf = false
    ∧ (Instr.registerWrite 0 false 0 [] 15 0 tlp0 false).wf = false ∧ (Instr.completionTimeout 0 16384).wf = false
    ∧ (Instr.wideLowRead 0 false 0 0 15 15 tlp0).wf = false ∧ (Instr.descriptorRead 0 0 0).wf = false
    ∧ (Instr.bar4Read 0 6 1 [] tlp0).wf = false ∧ (Instr.bar4Write 0 0 [] 15 15 [] tlp0).wf = false := by decide

theorem test_wf_refuses_lists :
    (Instr.scrubSlot 0 0 [⟨0, 0, [1]⟩]).wf = false ∧ (Instr.scrubSlot 0 0 [⟨0, 0, List.replicate 20 0⟩]).wf = false
    ∧ (Instr.caissonRecord 0 0 [(1, ⟨5, []⟩), (1, ⟨6, []⟩)] []).wf = false ∧ (Instr.configEffect 0 [(1, 5, 5), (1, 6, 6)]).wf = false := by decide

theorem test_wf_refuses_messages :
    (Instr.ptpMessageRx 0 0 ⟨16, 0, 0, 44, 44, 0, false, 0, 0, 0⟩).wf = false
    ∧ (Instr.cdpRead 0 { hdr 0 with session := 65536 } []).wf = false ∧ (Instr.cdpRead 0 { hdr 0 with tag := 2 ^ 128 } []).wf = false
     ∧ (Instr.cdpRead 0 (hdr 128) (List.replicate 128 0)).wf = false
    ∧ (Instr.ethFrameRx 0 0 .mine 64 true (.esmc 16)).wf = false
    ∧ (Instr.ethFrameRx 0 0 .mine 64 true (.cdpOther (hdr 0) 0x10 [])).wf = false
    ∧ (Instr.markOutRx 0 0 0 40 (List.replicate 123 0) 0).wf = false := by decide +kernel

theorem test_wf_accepts : (Instr.cdpRead 0 (hdr 1) [0]).wf = true ∧ (Instr.ptpMessageRx 0 0 ⟨2, 0, 0, 44, 44, 0, false, 0, 0, 0⟩).wf = true
    ∧ (Instr.scrubSlot 0 0 [⟨0, 0, 1 :: List.replicate 19 0⟩]).wf = true := by decide

/-! ### Worked examples and check values that the spec prints -/

/-- R226: the CRC of the nine ASCII bytes 123456789. -/
theorem test_crc32c : crc32c [0x31, 0x32, 0x33, 0x34, 0x35, 0x36, 0x37, 0x38, 0x39] = 0xE3069283 := by decide +kernel

/-- 12_memory_integrity.md, the worked example after R283. -/
theorem test_check_symbols : rsCheck (List.replicate 15 0 ++ [1]) = [0x0F, 0x36, 0x78, 0x40] := by decide +kernel

/-- A frame of stream S0 of chip 0. -/
def frameOf (level : Nat) (payload stored : List Word) : Frame where
  base := 0
  quality := 0
  epoch := 0
  chip := 0
  stream := 0
  level := level
  seq := 0
  flushed := false
  gap := false
  comp := false
  payload := payload
  stored := stored
  records := 2
  last := 0

/-- 11_beryl.md Table 5. -/
def snapshotPayload : List Word :=
  [0x61040480, 0, 0x2A, 0xFFFFFFFE, 0x0C351200, 0x0C351233, 0x0C351251, 0x0C351248,
   0x61140480, 0, 0x2A, 0xFFFFFFFE, 0x0C360F10, 0x0C360F4A, 0x0C360F6C, 0x0C360F77]

/-- 11_beryl.md: the ten words that the example frame stores at level 3. -/
def snapshotImage : List Word :=
  [0x04048001, 0x00000061, 0xD42AC100, 0x35120000, 0x1E33C20C, 0x048000F7, 0x08416114, 0x360F1000, 0x223AC20C, 0x0000F00B]

theorem test_beryl_image : storedForm 3 snapshotPayload = (true, snapshotImage) := by decide +kernel

/-- 11_beryl.md: byte 27 of the image is the distance of the token at byte 26; 0x0A reaches before word 0. -/
theorem test_beryl_distance : (match berylDecode 16 (snapshotImage.set 6 0x0A416114) with
    | .error e => e
    | .ok _ => (0, 0)) = (2, 26) := by decide +kernel

theorem test_beryl_header :
    ({ frame := frameOf 3 snapshotPayload [], at_ := .engine 0, closed := 0, taken := snapshotPayload } : BerylFrame).compressed.header.take 2 = [0xA7230142, 16] := by decide +kernel

/-- 09_record_stream.md Table 18. -/
theorem test_record_words :
    let T := 0x174876E80000
    (recTransition T 17 0 false).words T ++ (recSample T 130 0 11 1 0x42400000 false).words T
      ++ (recGuard (T + 204800) 0 1 {} 17 0 0 0 0 0).words T
      = [0x11100000, 0, 0x28202D00, 0, 0x42400000, 0xACA10011, 0x00032000, 0, 0] := by decide +kernel

/-- 09_record_stream.md Table 19, but for the CRC. -/
theorem test_frame_header :
    ({ frameOf 0 (List.replicate 14 0) (List.replicate 14 0) with base := 0x174876E80000, epoch := 3, chip := 7, seq := 65 }).header.take 7
      = [0xA72001C1, 0x0007000E, 0x41, 0, 0x76E80000, 0x1748, 0x300] := by decide +kernel

/-- 13_host_port_mapping.md: a write of bit 3 to 0x480_4044 sets it in LANE.THR_HI:17, default 1,600, from the next boundary on. -/
theorem test_set_alias : (after (.registerWrite 0 false 0x4804044 [8] 15 0 tlp0 false)
    (withPars [(Ix.laneRole, 17, 1)] port)).cw.queue
    = [⟨32768, Ix.laneThrHi, 17, 1608⟩] := by decide +kernel

/-- 15_dictionary_registers.md: one write of two words to 0x44_8000 gives PPS_OUT two pulses per second. -/
theorem test_wide_write : (after (.registerWrite 0 false 0x448000 [0xCD650000, 0x1D] 15 15 tlp0 false) port).par Ix.timePpsPeriod 0
    = 128000000000 := by decide +kernel

/-- 16_field_network.md: the guarded WRITE of LANE.THR_HI:17 by session 3 to chip 7. -/
def guarded : CdpHdr := { hdr 2 with guard := true, session := 3, seq := 261, dst := 7, src := 65535, gen := 4, guardLane := 17 }

/-- Chip 7 in the state of that example, with the role generation `g`. -/
def chip7 (g : Nat) : State := withPars [(Ix.idChipNum, 0, 7), (Ix.netOwner, 0, 3), (Ix.laneRole, 17, 1), (Ix.laneRoleGen, 17, g)]
  { dev with net := { dev.net with sessions := [(3, { q := 260 })] }, nv := { dev.nv with running := true } }

/-- Its value is queued for the boundary that the response names; the response waits. -/
theorem test_guarded_write : (fun u : State => (u.cw.queue, u.out)) (after (.cdpWrite (0x174876E84000 - 32768) guarded [0x30101101, 0xAF0]) (chip7 4))
    = ([⟨0x174876E84000, Ix.laneThrHi, 17, 2800⟩], []) := by decide +kernel

/-- With another generation it is answered with ABORT, code 0x0330_0007 and the item. -/
theorem test_guard_mismatch : (after (.cdpWrite 0 guarded [0x30101101, 0xAF0]) (chip7 5)).out
    = [.cdp 0 [0xCD101103, 0x0003001C, 0x105, 0xFFFF0007, 0] [0x03300007, 0x30101100] false] := by decide +kernel

/-- Its response, once the change is in force. -/
theorem test_held_response : (after (.cdpResponseSend 0x174876E84000)
      { after (.cdpWrite (0x174876E84000 - 32768) guarded [0x30101101, 0xAF0]) (chip7 4) with cw := {} }).out
    = [.cdp 0 [0xCD101101, 0x00030020, 0x105, 0xFFFF0007, 0] [0x76E84000, 0x1748, 0] false] := by decide +kernel

/-- 12_memory_integrity.md, the worked example after R283: the line at 0x10_0000_0FC0, zero but for 0x01 in byte 63, as the devices drive
it. -/
def burstLine : State := { dev with mem := memWriteBytes [] (0x1000000FC0 + 63) [1] }

theorem test_burst_data : (burstLine.burst 0x1000000FC0 7 14, burstLine.burst 0x1000000FC0 7 15, burstLine.burst 0x1000000FC0 8 12,
    burstLine.burst 0x1000000FC0 8 13, burstLine.burst 0x1000000FC0 8 14, burstLine.burst 0x1000000FC0 8 15)
    = (1, 0, 0xF, 0, 6, 3) := by decide +kernel

theorem test_burst_checks : (burstLine.burst 0x1000000FC0 9 12, burstLine.burst 0x1000000FC0 9 13, burstLine.burst 0x1000000FC0 9 14,
    burstLine.burst 0x1000000FC0 9 15, burstLine.burst 0x1000000FC0 3 8) = (8, 7, 0, 4, 0) := by decide +kernel

/-- 15_dictionary_registers.md: the words of the entry of LANE.THR_HI after R366, but for the places of its strings. -/
theorem test_rom_entry : (List.range 8).map (fun j => romEntry (prm Ix.laneThrHi 0) Ix.laneThrHi j 0)
    = [0x3010BF00, 0x13210100, 0x30013004, 0x640, 0, 0, 0, 0xFFF] := by decide +kernel

/-- The default of LANE.IN_POS: DEFAULT_LO 0, DEFAULT_HI 2, MODULUS 8, DEFAULT_KIND 1; 4 for lane 26. -/
theorem test_rom_default : ([3, 4, 5].map (fun j => romEntry (prm Ix.laneInPos 0) Ix.laneInPos j 0), dfltOf (key Ix.laneInPos 26))
    = ([0, 2, 0x80001], 4) := by decide +kernel

/-- 20_electrical_package.md, the worked example of R468: the balls of lanes 17 and 130, and of pier 16's excitation and supply. -/
theorem test_balls : laneBalls 17 = [⟨4, 7⟩, ⟨4, 8⟩, ⟨5, 7⟩, ⟨5, 8⟩] ∧ laneBalls 130 = [⟨40, 13⟩, ⟨40, 14⟩, ⟨39, 13⟩, ⟨39, 14⟩]
    ∧ [(0, 0), (0, 2), (17, 0)].map (fun x => (pierPin x.1 x.2, pierBall 16 x.1 x.2))
      = [(.x0, ⟨45, 13⟩), (.x1, ⟨45, 15⟩), (.van5, ⟨28, 13⟩)] := by decide +kernel

/-- SHA-384 of "abc" (FIPS 180-4). -/
theorem test_sha384 : ofBytesBE (sha384Bytes [0x61, 0x62, 0x63])
    = 0xcb00753f45a35e8bb5a03d699ac65007272c32ab0eded1631a8b605a43ff5bed8086072ba1e7cc2358baeca134c825a7 := by decide +kernel

/-- The AES-256 example of FIPS 197. -/
theorem test_aes256 : ofBytesBE (aes256 ((List.range 32).map (BitVec.ofNat 8)) ((List.range 16).map (fun i => BitVec.ofNat 8 (17 * i))))
    = 0x8ea2b7ca516745bfeafc49904b496089 := by decide +kernel

/-- A GCM test case of a zero key, a zero nonce and sixteen zero bytes: the tag. -/
theorem test_gcm : ofBytesBE (gcmSeal (List.replicate 32 0) (List.replicate 12 0) [] (List.replicate 16 0)).2
    = 0xd0d1c8a799996bf0265b98b5d48ab919 := by decide +kernel

/-- The base point of brainpoolP384r1 lies on its curve. -/
theorem test_curve : (match ecG with
    | some (x, y) => y * y % ecP == (x * x * x + ecA * x + ecB) % ecP
    | none => false) = true := by decide +kernel

/-! ### Witnesses -/

/-- The same device with a backward step of 9 ticks decided at 2 s, the servo enabled. -/
def decided : State := withPars [(Ix.timeServoEnable, 0, 1)] { dev with now := T0, time := { dev.time with step := some (.backward 9) } }

theorem witness_StepsOfTheWhole :
    (∃ s : State, s.pending = []) ∧ (∃ s t : State, s.Inv ∧ step s = .next t)
    ∧ (∃ (c : Instr) (s t : State) (p : Part), exec c s = .next t ∧ p ∉ touches c)
    ∧ (∃ (c : Instr) (s t : State) (l : List Nat), s.Inv ∧ exec c s = .next t ∧ mayWrite c = some l) :=
  ⟨⟨dev, by decide +kernel⟩,
   ⟨{ dev with pending := .railLow 0 3 :: dev.pending }, after (.railLow 0 3) dev, by dsimp only [State.Inv, Dict.wf, Net.wf]; decide +kernel, step_after _ _ (by decide +kernel)⟩,
   ⟨.railLow 0 3, dev, after (.railLow 0 3) dev, .mem, exec_after _ _ (by decide +kernel), by decide +kernel⟩,
   ⟨.railLow 0 3, dev, after (.railLow 0 3) dev, _, by dsimp only [State.Inv, Dict.wf, Net.wf]; decide +kernel, exec_after _ _ (by decide +kernel), rfl⟩⟩

theorem witness_GarnetTime :
    (∃ (c : Instr) (s t : State), exec c s = .next t ∧ t.now < s.now ∧ c.isReset = false)
    ∧ (∃ (c : Instr) (s t : State), exec c s = .next t ∧ (s.anyStream = true ∨ s.anySeq = true) ∧ (∃ u, c = .backwardStep u)) :=
  ⟨⟨.backwardStep T0, decided, after (.backwardStep T0) decided, exec_after _ _ (by decide +kernel), by decide +kernel, rfl⟩,
   ⟨.backwardStep T0, withPars [(Ix.keyEnable, 3, 1)] decided, after (.backwardStep T0) (withPars [(Ix.keyEnable, 3, 1)] decided),
    exec_after _ _ (by decide +kernel), by decide +kernel, T0, rfl⟩⟩

theorem witness_CaptureAndMemory :
    (∃ (c : Instr) (s t : State), c.besideCapture = true ∧ exec c s = .next t)
    ∧ (∃ (c : Instr) (s t : State), s.Inv ∧ exec c s = .next t ∧ c.isReset = false
      ∧ (∀ u n errs, c ≠ .frameToHead u n errs) ∧ (∀ u b ws x y errs peer, c ≠ .bar4Write u b ws x y errs peer)) :=
  ⟨⟨.railLow 0 3, dev, after (.railLow 0 3) dev, rfl, exec_after _ _ (by decide +kernel)⟩,
   ⟨.railLow 0 3, dev, after (.railLow 0 3) dev, by dsimp only [State.Inv, Dict.wf, Net.wf]; decide +kernel, exec_after _ _ (by decide +kernel), rfl, nofun, nofun⟩⟩

theorem witness_DeviceResets : ∃ (s : State),
    s.Inv ∧ s.resetHeld = true :=
  ⟨{ State.reset with resetHeld := true }, by dsimp only [State.Inv, Dict.wf, Net.wf]; decide +kernel⟩

theorem witness_StartUpSteps :
    (∃ (s : State) (t : Nat) (n : Fin 9),
    let s1 := s.enter t
    let ends : Bool :=
      match n.val with
      | 2 => s1.step3Over
      | 3 => decide (s1.loopState 0 = 2) && decide (s1.loopState 1 = 2) && s1.tpll
      | 7 => decide (s1.clk.dvfs = .steady) && decide (s1.par Ix.clkJasperNow 0 = s1.jasperGoal)
      | 8 => s1.cw.queue.isEmpty
      | _ => true
    s.Inv ∧ s.resetHeld = false ∧ s.par Ix.startStep 0 = n.val + 1 ∧ ends = true ∧ (4 ≤ n.val → s.runs 2 = true))
    ∧ (∃ (s : State) (t : Nat) (n : Fin 9),
    let s1 := s.enter t
    let ends : Bool :=
      match n.val with
      | 2 => s1.step3Over
      | 3 => decide (s1.loopState 0 = 2) && decide (s1.loopState 1 = 2) && s1.tpll
      | 7 => decide (s1.clk.dvfs = .steady) && decide (s1.par Ix.clkJasperNow 0 = s1.jasperGoal)
      | 8 => s1.cw.queue.isEmpty
      | _ => true
    s.Inv ∧ s.resetHeld = false ∧ s.par Ix.startStep 0 = n.val + 1 ∧ ends = true ∧ (4 ≤ n.val → s.runs 2 = true))
    ∧ (∃ (s : State) (t : Nat) (n : Fin 9),
    let s1 := s.enter t
    let ends : Bool :=
      match n.val with
      | 2 => s1.step3Over
      | 3 => decide (s1.loopState 0 = 2) && decide (s1.loopState 1 = 2) && s1.tpll
      | 7 => decide (s1.clk.dvfs = .steady) && decide (s1.par Ix.clkJasperNow 0 = s1.jasperGoal)
      | 8 => s1.cw.queue.isEmpty
      | _ => true
    s.Inv ∧ s.resetHeld = false ∧ s.par Ix.startStep 0 = n.val + 1 ∧ ends = true ∧ (4 ≤ n.val → s.runs 2 = true)) :=
  ⟨⟨State.reset, 0, 0, by dsimp only [State.Inv, Dict.wf, Net.wf]; decide +kernel⟩,
   ⟨withPars [(Ix.startStep, 0, 3), (Ix.clkReady, 0, 1)] State.reset, 0, 2, by dsimp only [State.Inv, Dict.wf, Net.wf]; decide +kernel⟩,
   ⟨withPars [(Ix.startStep, 0, 9), (Ix.clkDomainGood, 0, 127)] State.reset, 0, 8, by dsimp only [State.Inv, Dict.wf, Net.wf]; decide +kernel⟩⟩

theorem witness_SourceStarts :
    (∃ (s : State) (t : Nat) (src : Fin 6),
    let s1 := s.enter t
    s.Inv ∧ src.val ≤ 2 ∧ s1.delayOver src = true)
    ∧ (∃ (s : State) (t : Nat) (src : Fin 6),
    let s1 := s.enter t
    s.Inv ∧ 4 ≤ src.val ∧ s1.lineOver src = true)
    ∧ (∃ (s : State) (t : Nat) (xa : Bool),
    let s1 := s.enter t
    s.Inv ∧ s.par Ix.clkFallbackState 0 = 3 ∧ s1.retryDue (if xa then 0 else 2) = true)
    ∧ (∃ (s : State) (t : Nat),
    let s1 := s.enter t
    s.Inv ∧ s.par Ix.clkFallbackState 0 = 2 ∧ s1.refReady .fro = false ∧ s.clk.heldSince + 20480000 ≤ s1.now) :=
  ⟨⟨withPars [(Ix.clkReady, 0, 1)] { dev with clk := { dev.clk with started := [(2, 0)] } }, 5120000, 2, by dsimp only [State.Inv, Dict.wf, Net.wf]; decide +kernel⟩,
   ⟨withPars [(Ix.netLink, 1, 1)] State.reset, 0, 5, by dsimp only [State.Inv, Dict.wf, Net.wf]; decide +kernel⟩,
   ⟨withPars [(Ix.clkFallbackState, 0, 3)] State.reset, 0, true, by dsimp only [State.Inv, Dict.wf, Net.wf]; decide +kernel⟩,
   ⟨withPars [(Ix.clkFallbackState, 0, 2), (Ix.clkReady, 0, 0)] dev, 20480000, by dsimp only [State.Inv, Dict.wf, Net.wf]; decide +kernel⟩⟩

theorem witness_ClockFailures :
    (∃ (s : State) (code : Fin 12),
    s.Inv ∧ code.val ≠ 0)
    ∧ (∃ (s : State) (t : Nat),
    let s1 := s.enter t
    s.Inv ∧ s.clk.ref = some .xa ∧ s.par Ix.synceRefSelect 0 = 0 ∧ s1.forcedRef = none ∧ s1.tpll = true ∧ s1.refReady .fro = true)
    ∧ (∃ (s : State) (t : Nat) (f : Ref) (code : Fin 12),
    let s1 := s.enter t
    s.Inv ∧ monitorSource code = some f.readyBit ∧ s1.forcedRef = some f ∧ s.clk.ref = some f ∧ s.tpll = true)
    ∧ (∃ (s : State) (t : Nat) (l : Fin 5),
    let s1 := s.enter t
    let until_ (l : Fin 5) : Nat := tget 0 s.clk.lockFrom l
      + (if s.par Ix.clkPllLockMode l = 1 then 65536 else s.par Ix.clkPllLockCount l) * s.loopPeriod l
    s.Inv ∧ s.loopState l = 1 ∧ (until_ l ≤ max t s1.now ∨ (l.val = 0 ∧ s.time.quality ≠ .coarse))) :=
  ⟨⟨dev, 11, by dsimp only [State.Inv, Dict.wf, Net.wf]; decide +kernel⟩,
   ⟨dev, 0, by dsimp only [State.Inv, Dict.wf, Net.wf]; decide +kernel⟩,
   ⟨withPars [(Ix.clkForceSrc, 1, 2)] { dev with clk := { dev.clk with ref := some .eth0 } }, 0, .eth0, 5, by dsimp only [State.Inv, Dict.wf, Net.wf]; decide +kernel⟩,
   ⟨withPars [(Ix.clkPllState, 4, 1)] State.reset, T0, 4, by dsimp only [State.Inv, Dict.wf, Net.wf]; decide +kernel⟩⟩

theorem witness_ReferenceReturns :
    (∃ (s : State) (t : Nat) (r : Ref),
    let s1 := s.enter t
    s.Inv ∧ s.clk.locked = some r ∧ s.time.quality = .coarse ∧ s.clk.lockedAt < s1.now)
    ∧ (∃ (s : State) (t : Nat) (r : Ref),
    let s1 := s.enter t
    let steady (r : Ref) : Bool := s1.refReady r
      && decide (tget 0 s1.clk.readyAt r.readyBit + s1.par Ix.clkXaRecover 0 * 256000000 ≤ s1.now)
    s.Inv ∧ s.par Ix.clkFallbackState 0 = 1 ∧ s.par Ix.clkAutoReturn 0 = 1 ∧ s1.forcedRef = none ∧ r ≠ .fro ∧ s1.permitted.find? steady = some r)
    ∧ (∃ (s : State) (t : Nat) (r : Ref),
    let s1 := s.enter t
    s.Inv ∧ s.par Ix.clkFallbackState 0 = 1 ∧ r ≠ .fro ∧ s1.chosenRef false = some r) :=
  ⟨⟨{ State.reset with clk := { locked := some .eth1 } }, T0, .eth1, by dsimp only [State.Inv, Dict.wf, Net.wf]; decide +kernel⟩,
   ⟨withPars [(Ix.clkFallbackState, 0, 1), (Ix.clkAutoReturn, 0, 1)] dev, T0, .xa, by dsimp only [State.Inv, Dict.wf, Net.wf]; decide +kernel⟩,
   ⟨withPars [(Ix.clkFallbackState, 0, 1), (Ix.clkAutoReturn, 0, 1)] dev, 0, .xa, by dsimp only [State.Inv, Dict.wf, Net.wf]; decide +kernel⟩⟩

theorem witness_SourceSelection :
    (∃ (s : State) (t : Nat) (v : Nat),
    let s1 := s.enter t
    s.Inv ∧ s.capturing = false ∧ v ≤ 1 ∧ (v = 0 → s1.sourceReady 1 = true))
    ∧ (∃ (s : State) (t : Nat) (v : Nat),
    let s1 := s.enter t
    s.Inv ∧ s.capturing = false ∧ v ≤ 1 ∧ (v = 0 → s1.sourceReady 1 = true))
    ∧ (∃ (s : State),
    s.Inv ∧ s.capturing = false ∧ s.sourceReady 1 = false)
    ∧ (∃ (s : State) (v : Nat) (r : Ref),
    s.Inv ∧ s.par Ix.timeServoEnable 0 = 0 ∧ r ≠ .fro ∧ s.refReady r = true ∧ v = r.code)
    ∧ (∃ (s : State),
    s.Inv ∧ s.par Ix.timeServoEnable 0 = 0)
    ∧ (∃ (s : State) (v : Nat) (sub : Fin 2),
    s.Inv ∧ v ≤ 2 + 2 * sub.val)
    ∧ (∃ (s : State) (v : Nat) (sub : Fin 2),
    s.Inv ∧ v ≤ 2 + 2 * sub.val) :=
  ⟨⟨dev, 0, 0, by dsimp only [State.Inv, Dict.wf, Net.wf]; decide +kernel⟩,
   ⟨State.reset, 0, 1, by dsimp only [State.Inv, Dict.wf, Net.wf]; decide +kernel⟩,
   ⟨State.reset, by dsimp only [State.Inv, Dict.wf, Net.wf]; decide +kernel⟩,
   ⟨dev, 2, .eth1, by dsimp only [State.Inv, Dict.wf, Net.wf]; decide +kernel⟩,
   ⟨State.reset, by dsimp only [State.Inv, Dict.wf, Net.wf]; decide +kernel⟩,
   ⟨State.reset, 2, 0, by dsimp only [State.Inv, Dict.wf, Net.wf]; decide +kernel⟩,
   ⟨State.reset, 4, 1, by dsimp only [State.Inv, Dict.wf, Net.wf]; decide +kernel⟩⟩

theorem witness_JasperPoint :
    (∃ (s : State) (t : Nat) (g : Nat) (d : Nat) (old : Nat),
    let s1 := s.enter t
    s.Inv ∧ s.clk.dvfs = .dwell g d old ∧ d ≤ s1.now ∧ s.clk.again = false)
    ∧ (∃ (s : State) (t : Nat) (g : Nat) (d : Nat) (old : Nat),
    let s1 := s.enter t
    s.Inv ∧ s.clk.dvfs = .wait g d old ∧ d ≤ s1.now ∧ s.clk.pgood = false ∧ s.clk.again = false)
    ∧ (∃ (s : State) (g : Nat) (d : Nat) (old : Nat),
    s.Inv ∧ s.clk.dvfs = .wait g d old ∧ s.clk.again = false)
    ∧ (∃ (s : State),
    s.Inv ∧ s.clk.dvfs = .steady ∧ s.clk.pgood = true) :=
  ⟨⟨{ dev with clk := { dev.clk with dvfs := .dwell 0 T0 5 } }, T0, 0, T0, 5, by dsimp only [State.Inv, Dict.wf, Net.wf]; decide +kernel⟩,
   ⟨{ dev with clk := { dev.clk with dvfs := .wait 0 T0 5, pgood := false } }, T0, 0, T0, 5, by dsimp only [State.Inv, Dict.wf, Net.wf]; decide +kernel⟩,
   ⟨{ dev with clk := { dev.clk with dvfs := .wait 0 T0 5 } }, 0, T0, 5, by dsimp only [State.Inv, Dict.wf, Net.wf]; decide +kernel⟩,
   ⟨dev, by dsimp only [State.Inv, Dict.wf, Net.wf]; decide +kernel⟩⟩

theorem witness_PowerStates :
    (∃ (s : State) (t : Nat) (v : Fin 4) (busy : Bool),
    let s1 := s.enter t
    s.Inv ∧ s.par Ix.pwrState 0 ≠ 0 ∧ s1.pwrBlocked v busy = none)
    ∧ (∃ (s : State) (t : Nat) (reason : Nat) (block : Nat) (v : Fin 4) (busy : Bool),
    let s1 := s.enter t
    s.Inv ∧ s.par Ix.pwrState 0 ≠ 0 ∧ s1.pwrBlocked v busy = some (reason, block))
    ∧ (∃ (s : State) (w : Fin 3) (busy : Bool),
    s.Inv ∧ w.val ≠ 0 ∨ busy = false)
    ∧ (∃ (s : State) (t : Nat) (d : Nat) (v : Fin 4),
    let s1 := s.enter t
    s.Inv ∧ s.clk.pending = [⟨d, none, v⟩] ∧ d ≤ s1.now ∧ s.par Ix.pwrState 0 ≠ 0)
    ∧ (∃ (s : State) (t : Nat) (d : Nat) (p : Fin 24) (w : Fin 3),
    let s1 := s.enter t
    s.Inv ∧ s.clk.pending = [⟨d, some p, w⟩] ∧ d ≤ s1.now) :=
  ⟨⟨dev, 0, 3, false, by dsimp only [State.Inv, Dict.wf, Net.wf]; decide +kernel⟩,
   ⟨withPars [(Ix.pwrState, 0, 1), (Ix.storeState, 0, 1)] State.reset, 0, 3, Ix.storeState * 256, 0, false, by dsimp only [State.Inv, Dict.wf, Net.wf]; decide +kernel⟩,
   ⟨dev, 0, false, by dsimp only [State.Inv, Dict.wf, Net.wf]; decide +kernel⟩,
   ⟨{ dev with clk := { dev.clk with pending := [⟨T0, none, 3⟩] } }, T0, T0, 3, by dsimp only [State.Inv, Dict.wf, Net.wf]; decide +kernel⟩,
   ⟨{ dev with clk := { dev.clk with pending := [⟨T0, some 23, 2⟩] } }, T0, T0, 23, 2, by dsimp only [State.Inv, Dict.wf, Net.wf]; decide +kernel⟩⟩

theorem witness_Wakes : ∃ (s : State) (t : Nat) (cause : Fin 3) (lane : Fin 192),
    let s1 := s.enter t
    s.Inv ∧ s.par Ix.pwrState 0 = 0 ∧ s.par Ix.startStep 0 = 10 ∧ s.clk.waking = false ∧ s1.wakes cause lane (max t s1.now) = true :=
  ⟨withPars [(Ix.startStep, 0, 10), (Ix.pwrWakeEnable, 0, 4)] State.reset, 0, 2, 0, by dsimp only [State.Inv, Dict.wf, Net.wf]; decide +kernel⟩

theorem witness_RailsAndTemperature :
    (∃ (s : State) (aon : Bool),
    s.Inv ∧ s.brownCause = true ∧ (if aon then s.clk.brownCore = false else s.clk.brownAon = false) ∧ s.clockCause = false)
    ∧ (∃ (s : State) (rail : Fin 7),
    s.Inv ∧ bit (s.par Ix.diagRailLow 0) rail = false) :=
  ⟨⟨{ State.reset with brownCause := true, clk := { State.reset.clk with brownCore := true } }, false, by dsimp only [State.Inv, Dict.wf, Net.wf]; decide +kernel⟩,
   ⟨State.reset, 6, by dsimp only [State.Inv, Dict.wf, Net.wf]; decide +kernel⟩⟩

theorem witness_Processor :
    (∃ (s : State),
    s.Inv ∧ 6 ≤ s.par Ix.startStep 0 ∧ tsorted s.net.sessions = true)
    ∧ (∃ (s : State) (t : Nat),
    let s1 := s.enter t
    s.Inv ∧ s.par Ix.fwState 0 = 2 ∧ s.nv.fwSince + s.par Ix.fwConfirmTime 0 * 256000000000 ≤ s1.now) :=
  ⟨⟨withPars [(Ix.startStep, 0, 6)] State.reset, by dsimp only [State.Inv, Dict.wf, Net.wf]; decide +kernel⟩,
   ⟨withPars [(Ix.fwState, 0, 2)] State.reset, 600 * 256000000000, by dsimp only [State.Inv, Dict.wf, Net.wf]; decide +kernel⟩⟩

theorem witness_TimeLoads :
    (∃ (s : State) (t : Nat),
    let s1 := s.enter t
    s.Inv ∧ s1.capturing = true)
    ∧ (∃ (s : State) (t : Nat),
    let s1 := s.enter t
    let mode := s.par Ix.timeLoadMode 0
    s.Inv ∧ s1.capturing = false ∧ (mode = 1 → s1.now < s.par Ix.timeLoadAt 0))
    ∧ (∃ (s : State) (t : Nat),
    let s1 := s.enter t
    let mode := s.par Ix.timeLoadMode 0
    s.Inv ∧ s1.capturing = false ∧ (mode = 1 → s1.now < s.par Ix.timeLoadAt 0))
    ∧ (∃ (s : State) (t : Nat),
    let s1 := s.enter t
    let mode := s.par Ix.timeLoadMode 0
    s.Inv ∧ s1.capturing = false ∧ mode = 1 ∧ s.par Ix.timeLoadAt 0 ≤ s1.now)
    ∧ (∃ (s : State) (t : Nat) (d : Nat) (l : PendingLoad),
    let s1 := s.enter t
    s.Inv ∧ s.time.load = some l ∧ l.due = some d ∧ d ≤ s1.now ∧ (s.cw.queue.all fun c => decide (d < c.eff)) = true ∧ s.anyStream = false ∧ s.anySeq = false)
    ∧ (∃ (s : State) (t : Nat) (d : Nat) (l : PendingLoad),
    let s1 := s.enter t
    s.Inv ∧ s.time.load = some l ∧ l.due = some d ∧ d ≤ s1.now ∧ (s.cw.queue.all fun c => decide (d < c.eff)) = true ∧ (s.anyStream = true ∨ s.anySeq = true)) :=
  ⟨⟨withPars [(Ix.streamState, 7, 1)] State.reset, 0, by dsimp only [State.Inv, Dict.wf, Net.wf]; decide +kernel⟩,
   ⟨State.reset, 0, by dsimp only [State.Inv, Dict.wf, Net.wf]; decide +kernel⟩,
   ⟨withPars [(Ix.timeLoadMode, 0, 1), (Ix.timeLoadAt, 0, 1)] State.reset, 0, by dsimp only [State.Inv, Dict.wf, Net.wf]; decide +kernel⟩,
   ⟨withPars [(Ix.timeLoadMode, 0, 1)] State.reset, 0, by dsimp only [State.Inv, Dict.wf, Net.wf]; decide +kernel⟩,
   ⟨{ dev with time := { dev.time with load := some ⟨1, 5, T0, 0⟩ } }, T0, T0, ⟨1, 5, T0, 0⟩, by dsimp only [State.Inv, Dict.wf, Net.wf]; decide +kernel⟩,
   ⟨withPars [(Ix.keyEnable, 3, 1)] { dev with time := { dev.time with load := some ⟨1, 5, T0, 0⟩ } }, T0, T0, ⟨1, 5, T0, 0⟩, by dsimp only [State.Inv, Dict.wf, Net.wf]; decide +kernel⟩⟩

theorem witness_TimeSteps :
    (∃ (s : State) (t : Nat) (a : Nat) (d : Nat),
    let s1 := s.enter t
    s.Inv ∧ s.time.step = some (.forward a d) ∧ a ≤ s1.now ∧ s.tpll = true ∧ s.servoRuns = true ∧ (s.par Ix.timeStepMode 0 = 2 ∨ (s.par Ix.timeStepMode 0 = 1 ∧ s.idle = true)))
    ∧ (∃ (s : State) (d : Nat),
    s.Inv ∧ s.time.step = some (.backward d) ∧ s.tpll = true ∧ s.servoRuns = true ∧ s.idle = true ∧ s.par Ix.timeStepMode 0 ≠ 0)
    ∧ (∃ (s : State) (t : Nat),
    let s1 := s.enter t
    s.Inv ∧ s.tpll = true ∧ s.servoRuns = true ∧ (s.par Ix.timeSyncState 0 ≠ 0 ∨ s.par Ix.timePpsInMode 0 = 2) ∧ s.time.slewDue ≤ s1.now * 1000000) :=
  ⟨⟨withPars [(Ix.timeServoEnable, 0, 1)] { dev with time := { dev.time with step := some (.forward T0 9) } }, T0, T0, 9, by dsimp only [State.Inv, Dict.wf, Net.wf]; decide +kernel⟩,
   ⟨withPars [(Ix.timeServoEnable, 0, 1)] { dev with time := { dev.time with step := some (.backward 9) } }, 9, by dsimp only [State.Inv, Dict.wf, Net.wf]; decide +kernel⟩,
   ⟨withPars [(Ix.timeSyncState, 0, 1)] (withPars [(Ix.timeServoEnable, 0, 1)] dev), T0, by dsimp only [State.Inv, Dict.wf, Net.wf]; decide +kernel⟩⟩

theorem witness_PpsOutAndIn :
    (∃ (s : State) (t : Nat),
    let s1 := s.enter t
    let p := s.time.pps
    s.Inv ∧ s.tpll = true ∧ p.running = true ∧ p.fallAt = none ∧ s1.now % p.period = p.phase % p.period ∧ p.after ≠ some s1.now)
    ∧ (∃ (s : State) (t : Nat) (f : Nat),
    let s1 := s.enter t
    let p := s.time.pps
    s.Inv ∧ s.tpll = true ∧ p.running = true ∧ p.fallAt = some f ∧ f ≤ s1.now)
    ∧ (∃ (s : State) (t : Nat) (f : Nat) (base : Nat) (code : Nat) (l : PendingLoad),
    let s1 := s.enter t
    let stamp := s1.stampOf 200 base code
    let e := s.edgeOf 200
    let running : Prop := s.tpll = true ∧ (s.par Ix.timePpsInMode 0 ≠ 0 ∨ s.ppsLoad = true)
    let rises : Prop := e.input = 0 ∧ running ∧ (e.blind = none ∨ e.blind = some f ∧ s1.blindEnd f ≤ stamp)
    s.Inv ∧ rises ∧ s.time.load = none ∨ s.time.load = some l ∧ l.mode ≠ 2)
    ∧ (∃ (s : State) (t : Nat) (f : Nat) (base : Nat) (code : Nat) (l : PendingLoad),
    let s1 := s.enter t
    let stamp := s1.stampOf 200 base code
    let e := s.edgeOf 200
    let running : Prop := s.tpll = true ∧ (s.par Ix.timePpsInMode 0 ≠ 0 ∨ s.ppsLoad = true)
    let rises : Prop := e.input = 0 ∧ running ∧ (e.blind = none ∨ e.blind = some f ∧ s1.blindEnd f ≤ stamp)
    s.Inv ∧ rises ∧ s.time.load = none ∨ s.time.load = some l ∧ l.mode ≠ 2)
    ∧ (∃ (s : State) (t : Nat) (f : Nat) (base : Nat) (code : Nat) (l : PendingLoad),
    let s1 := s.enter t
    let stamp := s1.stampOf 200 base code
    let e := s.edgeOf 200
    let running : Prop := s.tpll = true ∧ (s.par Ix.timePpsInMode 0 ≠ 0 ∨ s.ppsLoad = true)
    let rises : Prop := e.input = 0 ∧ running ∧ (e.blind = none ∨ e.blind = some f ∧ s1.blindEnd f ≤ stamp)
    s.Inv ∧ rises ∧ s.time.load = some l ∧ l.mode = 2 ∧ s.anyStream = false ∧ s.anySeq = false ∧ (s.cw.queue.all fun c => decide (stamp < c.eff)) = true)
    ∧ (∃ (s : State) (t : Nat) (f : Nat) (base : Nat) (code : Nat),
    let s1 := s.enter t
    let stamp := s1.stampOf 200 base code
    let e := s.edgeOf 200
    let running : Prop := s.tpll = true ∧ (s.par Ix.timePpsInMode 0 ≠ 0 ∨ s.ppsLoad = true)
    s.Inv ∧ e.input = 0 ∧ running ∧ e.blind = some f ∧ stamp < s1.blindEnd f) :=
  ⟨⟨{ dev with time := { dev.time with pps := { running := true } } }, T0, by dsimp only [State.Inv, Dict.wf, Net.wf]; decide +kernel⟩,
   ⟨{ dev with time := { dev.time with pps := { running := true, fallAt := some T0 } } }, T0, T0, by dsimp only [State.Inv, Dict.wf, Net.wf]; decide +kernel⟩,
   ⟨withPars [(Ix.timePpsInMode, 0, 1)] dev, 0, 0, T0, 0, ⟨0, 0, 0, 0⟩, by dsimp only [State.Inv, Dict.wf, Net.wf]; decide +kernel⟩,
   ⟨withPars [(Ix.timePpsInMode, 0, 1)] { dev with time := { dev.time with load := some ⟨1, 5, 0, 0⟩ } }, 0, 0, T0, 0, ⟨1, 5, 0, 0⟩, by dsimp only [State.Inv, Dict.wf, Net.wf]; decide +kernel⟩,
   ⟨withPars [(Ix.timePpsInMode, 0, 1)] { dev with time := { dev.time with load := some ⟨2, 5, 0, 0⟩ } }, 0, 0, T0, 0, ⟨2, 5, 0, 0⟩, by dsimp only [State.Inv, Dict.wf, Net.wf]; decide +kernel⟩,
   ⟨withPars [(Ix.timePpsInMode, 0, 1)] { dev with edge := [(200, { blind := some T0 })] }, 0, T0, T0, 0, by dsimp only [State.Inv, Dict.wf, Net.wf]; decide +kernel⟩⟩

theorem witness_TdcTables :
    (∃ (s : State) (t : Nat),
    let s1 := s.enter t
    let due : Prop := s.time.froAt ≠ some s1.now ∧ (s.tpll = true → s1.now % 2 ^ 38 = 0)
      ∧ (s.tpll = false → s1.now % 2 ^ 38 * 65536 < s.slowPeriod)
    s.Inv ∧ due ∧ s.time.quality = .fine)
    ∧ (∃ (s : State) (t : Nat),
    let s1 := s.enter t
    let due : Prop := s.time.froAt ≠ some s1.now ∧ (s.tpll = true → s1.now % 2 ^ 38 = 0)
      ∧ (s.tpll = false → s1.now % 2 ^ 38 * 65536 < s.slowPeriod)
    s.Inv ∧ due ∧ s.time.quality ≠ .fine ∧ s.sourceReady 1 = true)
    ∧ (∃ (s : State) (t : Nat) (src : Fin 201) (counts : List Nat),
    let s1 := s.enter t
    s.Inv ∧ s1.calRuns src = true ∧ counts.length = 256 ∧ 0 < counts.sum)
    ∧ (∃ (s : State) (t : Nat) (src : Fin 201) (old : List Nat) (new : List Nat),
    let s1 := s.enter t
    let updates : Prop := s.tpll = true ∧ s1.now % 2 ^ 38 = 0 ∧ s.time.tableAt ≠ some s1.now
    s.Inv ∧ updates ∧ s.time.newTables = [(src.val, new)] ∧ s.par Ix.timeTdcCalFreeze src = 0 ∧ tfind s.time.tables src = some old ∧ old.length = 256 ∧ new.length = 256)
    ∧ (∃ (s : State) (t : Nat) (src : Fin 201) (new : List Nat),
    let s1 := s.enter t
    let updates : Prop := s.tpll = true ∧ s1.now % 2 ^ 38 = 0 ∧ s.time.tableAt ≠ some s1.now
    s.Inv ∧ updates ∧ s.time.newTables = [(src.val, new)] ∧ s.par Ix.timeTdcCalFreeze src = 1) :=
  ⟨⟨dev, 0, by dsimp only [State.Inv, Dict.wf, Net.wf]; decide +kernel⟩,
   ⟨withPars [(Ix.clkReady, 0, 2)] State.reset, 0, by dsimp only [State.Inv, Dict.wf, Net.wf]; decide +kernel⟩,
   ⟨dev, 0, 200, List.replicate 256 1, by dsimp only [State.Inv, Dict.wf, Net.wf]; decide +kernel⟩,
   ⟨{ dev with now := 2 ^ 37, time := { dev.time with newTables := [(200, List.replicate 256 7)], tables := [(200, List.replicate 256 9)] } }, 2 ^ 38, 200, List.replicate 256 9, List.replicate 256 7, by dsimp only [State.Inv, Dict.wf, Net.wf]; decide +kernel⟩,
   ⟨withPars [(Ix.timeTdcCalFreeze, 200, 1)] { dev with now := 2 ^ 37, time := { dev.time with newTables := [(200, List.replicate 256 7)], tables := [(200, List.replicate 256 9)] } }, 2 ^ 38, 200, List.replicate 256 7, by dsimp only [State.Inv, Dict.wf, Net.wf]; decide +kernel⟩⟩

theorem witness_PtpAndEsmc :
    (∃ (s : State) (port : Fin 2) (m : PtpMsg),
    s.Inv ∧ s.portUp port = true ∧ ptpFails m = none ∧ m.domain ≠ s.par Ix.ptpDomain 0)
    ∧ (∃ (s : State) (port : Fin 2) (m : PtpMsg),
    let follows : Prop := s.portUp port = true ∧ 8 ≤ s.par Ix.ptpPortState port ∧ s.par Ix.timeServoEnable 0 = 1
      ∧ s.time.load = none ∧ ptpFails m = none ∧ m.domain = s.par Ix.ptpDomain 0
    s.Inv ∧ follows ∧ m.kind = 0 ∧ m.twoStep = false)
    ∧ (∃ (s : State) (port : Fin 2) (m : PtpMsg),
    let follows : Prop := s.portUp port = true ∧ 8 ≤ s.par Ix.ptpPortState port ∧ s.par Ix.timeServoEnable 0 = 1
      ∧ s.time.load = none ∧ ptpFails m = none ∧ m.domain = s.par Ix.ptpDomain 0
    s.Inv ∧ follows ∧ m.kind = 0 ∧ m.twoStep = true)
    ∧ (∃ (s : State) (port : Fin 2) (m : PtpMsg),
    let follows : Prop := s.portUp port = true ∧ 8 ≤ s.par Ix.ptpPortState port ∧ s.par Ix.timeServoEnable 0 = 1
      ∧ s.time.load = none ∧ ptpFails m = none ∧ m.domain = s.par Ix.ptpDomain 0
    s.Inv ∧ follows ∧ m.kind = 8)
    ∧ (∃ (s : State) (port : Fin 2) (kind : Fin 16),
    s.Inv ∧ s.portUp port = true ∧ kind.val = 0)
    ∧ (∃ (s : State) (port : Fin 2) (kind : Fin 16),
    s.Inv ∧ s.portUp port = true ∧ s.par Ix.ptpProfile 0 ≠ 1 ∧ kind.val = 1)
    ∧ (∃ (s : State) (port : Fin 2) (kind : Fin 16),
    s.Inv ∧ s.portUp port = true ∧ s.par Ix.ptpProfile 0 ≠ 1 ∧ (kind.val = 2 ∨ kind.val = 3 ∨ kind.val = 10))
    ∧ (∃ (s : State) (port : Fin 2) (kind : Fin 16),
    s.Inv ∧ s.portUp port = true ∧ s.par Ix.ptpProfile 0 ≠ 1 ∧ (kind.val = 2 ∨ kind.val = 3 ∨ kind.val = 10))
    ∧ (∃ (s : State) (port : Fin 2),
    s.Inv ∧ s.par Ix.timeServoEnable 0 = 1 ∧ s.par Ix.ptpPortState (1 - port.val) < 8 ∧ s.time.master = true)
    ∧ (∃ (s : State) (port : Fin 2),
    s.Inv ∧ s.canSend port = true ∧ s.clk.ref = some .xa)
    ∧ (∃ (s : State) (port : Fin 2),
    s.Inv ∧ s.canSend port = true ∧ (s.clk.ref = some .eth0 ∨ s.clk.ref = some .eth1)) :=
  ⟨⟨dev, 1, ⟨2, 0, 1, 44, 44, 0, false, 0, 0, 0⟩, by dsimp only [State.Inv, Dict.wf, Net.wf]; decide +kernel⟩,
   ⟨withPars [(Ix.timeServoEnable, 0, 1), (Ix.ptpPortState, 1, 9)] dev, 1, ⟨2, 0, 0, 44, 44, 0, false, 0, 0, 0⟩, by dsimp only [State.Inv, Dict.wf, Net.wf]; decide +kernel⟩,
   ⟨withPars [(Ix.timeServoEnable, 0, 1), (Ix.ptpPortState, 1, 9)] dev, 1, ⟨2, 0, 0, 44, 44, 0, true, 0, 0, 0⟩, by dsimp only [State.Inv, Dict.wf, Net.wf]; decide +kernel⟩,
   ⟨withPars [(Ix.timeServoEnable, 0, 1), (Ix.ptpPortState, 1, 9)] dev, 1, ⟨2, 8, 0, 44, 44, 0, false, 0, 0, 0⟩, by dsimp only [State.Inv, Dict.wf, Net.wf]; decide +kernel⟩,
   ⟨dev, 1, 0, by dsimp only [State.Inv, Dict.wf, Net.wf]; decide +kernel⟩,
   ⟨dev, 1, 1, by dsimp only [State.Inv, Dict.wf, Net.wf]; decide +kernel⟩,
   ⟨dev, 1, 10, by dsimp only [State.Inv, Dict.wf, Net.wf]; decide +kernel⟩,
   ⟨dev, 1, 3, by dsimp only [State.Inv, Dict.wf, Net.wf]; decide +kernel⟩,
   ⟨withPars [(Ix.timeServoEnable, 0, 1)] { dev with time := { dev.time with master := true } }, 1, by dsimp only [State.Inv, Dict.wf, Net.wf]; decide +kernel⟩,
   ⟨dev, 1, by dsimp only [State.Inv, Dict.wf, Net.wf]; decide +kernel⟩,
   ⟨{ dev with clk := { dev.clk with ref := some .eth1 } }, 1, by dsimp only [State.Inv, Dict.wf, Net.wf]; decide +kernel⟩⟩

theorem witness_MalformedPtp :
    (∃ (s : State) (t : Nat) (r : Nat) (port : Fin 2) (m : PtpMsg),
    let s1 := s.enter t
    s.Inv ∧ s.portUp port = true ∧ ptpFails m = some r ∧ (∀ a, tfind s.pflLast 32 = some a → a + 2560000 ≤ s1.now))
    ∧ (∃ (s : State) (t : Nat) (r : Nat) (port : Fin 2) (m : PtpMsg),
    let s1 := s.enter t
    s.Inv ∧ s.portUp port = true ∧ ptpFails m = some r ∧ (∃ a, tfind s.pflLast 32 = some a ∧ s1.now < a + 2560000)) :=
  ⟨⟨dev, 0, 1, 1, ⟨1, 0, 0, 44, 44, 0, false, 0, 0, 0⟩, by dsimp only [State.Inv, Dict.wf, Net.wf]; decide +kernel⟩,
   ⟨{ dev with pflLast := [(32, T0)] }, T0, 5, 1, ⟨2, 0, 0, 44, 44, 45, false, 0, 0, 0⟩, by dsimp only [State.Inv, Dict.wf, Net.wf]; decide +kernel⟩⟩

theorem witness_Edges :
    (∃ (s : State) (src : Fin 201),
    s.Inv ∧ src.val < 200)
    ∧ (∃ (s : State) (t : Nat) (src : Fin 201) (inp : PinInput),
    let s1 := s.enter t
    let e := s.edgeOf src
    let lv := s1.comparator src e.input inp
    s.Inv ∧ src.val < 200 ∧ e.input ≠ lv ∧ s1.tdcRuns src = true ∧ e.blind = none)
    ∧ (∃ (s : State) (t : Nat) (base : Nat) (code : Nat) (t0 : Nat) (src : Fin 201) (inp : PinInput),
    let s1 := s.enter t
    let e := s.edgeOf src
    let lv := s1.comparator src e.input inp
    let stamp := s1.stampOf src base code
    s.Inv ∧ src.val < 200 ∧ e.input ≠ lv ∧ s1.tdcRuns src = true ∧ e.blind = some t0 ∧ stamp < s1.blindEnd t0)
    ∧ (∃ (s : State) (t : Nat) (t0 : Nat) (src : Fin 201),
    let s1 := s.enter t
    let e := s.edgeOf src
    s.Inv ∧ e.blind = some t0 ∧ (s1.blindEnd t0 : Int) - s.skew src ≤ (s1.now : Int) ∧ s1.tdcRuns src = true)
    ∧ (∃ (s : State) (t : Nat) (src : Fin 201) (x : Edge) (y : Edge) (rest : List Edge),
    let s1 := s.enter t
    let e := s.edgeOf src
    let due : Prop := (x.stamp : Int) - s.skew src + s.deglitch src ≤ (s1.now : Int)
    s.Inv ∧ e.edges = x :: y :: rest ∧ due ∧ y.stamp ≤ x.stamp + s.deglitch src ∧ s.deglitch src ≠ 0)
    ∧ (∃ (s : State) (t : Nat) (src : Fin 201) (x : Edge) (y : Edge) (rest : List Edge),
    let s1 := s.enter t
    let e := s.edgeOf src
    let due : Prop := (x.stamp : Int) - s.skew src + s.deglitch src ≤ (s1.now : Int)
    let holds : Prop := (e.edges = [x] ∨ e.edges = x :: y :: rest ∧ (x.stamp + s.deglitch src < y.stamp ∨ s.deglitch src = 0)) ∧ due
    let live : Prop := src.val < 200 ∧ (s.runOf src).at_ x.stamp = true ∧ (192 ≤ src.val ∨ s.par Ix.laneDcapMode src ≠ 1)
    let places := if src.val < 192 then 256 else 64
    s.Inv ∧ holds ∧ live ∧ e.buf.length < places)
    ∧ (∃ (s : State) (t : Nat) (src : Fin 201) (x : Edge) (y : Edge) (rest : List Edge),
    let s1 := s.enter t
    let e := s.edgeOf src
    let due : Prop := (x.stamp : Int) - s.skew src + s.deglitch src ≤ (s1.now : Int)
    let holds : Prop := (e.edges = [x] ∨ e.edges = x :: y :: rest ∧ (x.stamp + s.deglitch src < y.stamp ∨ s.deglitch src = 0)) ∧ due
    let live : Prop := src.val < 200 ∧ (s.runOf src).at_ x.stamp = true ∧ (192 ≤ src.val ∨ s.par Ix.laneDcapMode src ≠ 1)
    let places := if src.val < 192 then 256 else 64
    s.Inv ∧ holds ∧ live ∧ e.buf.length < places)
    ∧ (∃ (s : State) (t : Nat) (src : Fin 201) (x : Edge) (y : Edge) (rest : List Edge),
    let s1 := s.enter t
    let e := s.edgeOf src
    let due : Prop := (x.stamp : Int) - s.skew src + s.deglitch src ≤ (s1.now : Int)
    let holds : Prop := (e.edges = [x] ∨ e.edges = x :: y :: rest ∧ (x.stamp + s.deglitch src < y.stamp ∨ s.deglitch src = 0)) ∧ due
    let live : Prop := src.val < 200 ∧ (s.runOf src).at_ x.stamp = true ∧ (192 ≤ src.val ∨ s.par Ix.laneDcapMode src ≠ 1)
    let places := if src.val < 192 then 256 else 64
    s.Inv ∧ holds ∧ live ∧ places ≤ e.buf.length)
    ∧ (∃ (s : State) (t : Nat) (src : Fin 201) (x : Edge) (y : Edge) (rest : List Edge),
    let s1 := s.enter t
    let e := s.edgeOf src
    let due : Prop := (x.stamp : Int) - s.skew src + s.deglitch src ≤ (s1.now : Int)
    let holds : Prop := (e.edges = [x] ∨ e.edges = x :: y :: rest ∧ (x.stamp + s.deglitch src < y.stamp ∨ s.deglitch src = 0)) ∧ due
    s.Inv ∧ holds ∧ src.val < 200 ∧ (s.runOf src).at_ x.stamp = false) :=
  ⟨⟨State.reset, 199, by dsimp only [State.Inv, Dict.wf, Net.wf]; decide +kernel⟩,
   ⟨withPars [(Ix.laneRole, 191, 1)] { dev with run := [(191, { on := true })] }, 0, 191, .level true, by dsimp only [State.Inv, Dict.wf, Net.wf]; decide +kernel⟩,
   ⟨withPars [(Ix.laneRole, 191, 1)] { dev with run := [(191, { on := true })], edge := [(191, { blind := some T0 })] }, 0, T0, 0, T0, 191, .level true, by dsimp only [State.Inv, Dict.wf, Net.wf]; decide +kernel⟩,
   ⟨withPars [(Ix.laneRole, 191, 1)] { dev with run := [(191, { on := true })], edge := [(191, { blind := some (T0 - 640) })] }, T0, T0 - 640, 191, by dsimp only [State.Inv, Dict.wf, Net.wf]; decide +kernel⟩,
   ⟨withPars [(Ix.laneRole, 191, 1), (Ix.laneDeglitch, 191, 100)] { dev with run := [(191, { on := true })], edge := [(191, { edges := [⟨T0 - 25600, 1, false⟩, ⟨T0, 0, false⟩], buf := List.replicate 0 ⟨T0, 191, 1, 1, [], false⟩ })] }, T0, 191, ⟨T0 - 25600, 1, false⟩, ⟨T0, 0, false⟩, [], by dsimp only [State.Inv, Dict.wf, Net.wf]; decide +kernel⟩,
   ⟨withPars [(Ix.laneRole, 191, 1), (Ix.laneDeglitch, 191, 100)] { dev with run := [(191, { on := true })], edge := [(191, { edges := [⟨T0 - 25600, 1, false⟩], buf := List.replicate 255 ⟨T0, 191, 1, 1, [], false⟩ })] }, T0, 191, ⟨T0 - 25600, 1, false⟩, ⟨T0, 0, false⟩, [], by dsimp only [State.Inv, Dict.wf, Net.wf]; decide +kernel⟩,
   ⟨withPars [(Ix.laneRole, 191, 1), (Ix.laneDeglitch, 191, 100)] { dev with run := [(191, { on := true })], edge := [(191, { edges := [⟨T0 - 25601, 1, false⟩, ⟨T0, 0, false⟩], buf := List.replicate 0 ⟨T0, 191, 1, 1, [], false⟩ })] }, T0, 191, ⟨T0 - 25601, 1, false⟩, ⟨T0, 0, false⟩, [], by dsimp only [State.Inv, Dict.wf, Net.wf]; decide +kernel⟩,
   ⟨withPars [(Ix.laneRole, 191, 1), (Ix.laneDeglitch, 191, 100)] { dev with run := [(191, { on := true })], edge := [(191, { edges := [⟨T0 - 25600, 1, false⟩], buf := List.replicate 256 ⟨T0, 191, 1, 1, [], false⟩ })] }, T0, 191, ⟨T0 - 25600, 1, false⟩, ⟨T0, 0, false⟩, [], by dsimp only [State.Inv, Dict.wf, Net.wf]; decide +kernel⟩,
   ⟨withPars [(Ix.laneRole, 191, 1), (Ix.laneDeglitch, 191, 100)] { dev with run := [(191, {})], edge := [(191, { edges := [⟨T0 - 25600, 1, false⟩], buf := List.replicate 0 ⟨T0, 191, 1, 1, [], false⟩ })] }, T0, 191, ⟨T0 - 25600, 1, false⟩, ⟨T0, 0, false⟩, [], by dsimp only [State.Inv, Dict.wf, Net.wf]; decide +kernel⟩⟩

theorem witness_LaneSamples :
    (∃ (s : State) (t : Nat) (i : Nat) (lane : Fin 192),
    let s1 := s.enter t
    let e := s.edgeOf lane
    s.Inv ∧ s1.sampleReady lane i = true ∧ e.buf.length < 256)
    ∧ (∃ (s : State) (t : Nat) (lane : Fin 192) (pos : Int) (neg : Int),
    let s1 := s.enter t
    let old := s.par Ix.laneFcZone lane
    let gain : Int := [1, 2, 8, 32, 128].getD (s.par Ix.laneRange lane) 128
    let at_ (ix : Nat) := s1.parAt s1.now ix lane
    let z := fcZone (at_ Ix.laneFcLo) (at_ Ix.laneFcHi) (at_ Ix.laneFcHyst) old (gain * (pos - neg))
    let settled : Prop := ∀ ix ∈ [Ix.laneFcLo, Ix.laneFcHi, Ix.laneFcHyst], at_ ix = s1.parAt (s1.now - 12800) ix lane
    let sees : Prop := s1.fcRuns lane = true ∧ s1.zoneHeld lane s1.now = false ∧ settled
    s.Inv ∧ sees ∧ z = old)
    ∧ (∃ (s : State) (t : Nat) (lane : Fin 192) (pos : Int) (neg : Int),
    let s1 := s.enter t
    let e := s.edgeOf lane
    let old := s.par Ix.laneFcZone lane
    let gain : Int := [1, 2, 8, 32, 128].getD (s.par Ix.laneRange lane) 128
    let at_ (ix : Nat) := s1.parAt s1.now ix lane
    let z := fcZone (at_ Ix.laneFcLo) (at_ Ix.laneFcHi) (at_ Ix.laneFcHyst) old (gain * (pos - neg))
    let settled : Prop := ∀ ix ∈ [Ix.laneFcLo, Ix.laneFcHi, Ix.laneFcHyst], at_ ix = s1.parAt (s1.now - 12800) ix lane
    let began := s1.now / 256 * 256
    let sees : Prop := s1.fcRuns lane = true ∧ s1.zoneHeld lane s1.now = false ∧ settled
    s.Inv ∧ sees ∧ z ≠ old ∧ e.fcSeen.map Prod.fst ≠ some began ∧ e.buf.length < 256)
    ∧ (∃ (s : State) (t : Nat) (lane : Fin 192) (pos : Int) (neg : Int),
    let s1 := s.enter t
    let e := s.edgeOf lane
    let old := s.par Ix.laneFcZone lane
    let gain : Int := [1, 2, 8, 32, 128].getD (s.par Ix.laneRange lane) 128
    let at_ (ix : Nat) := s1.parAt s1.now ix lane
    let z := fcZone (at_ Ix.laneFcLo) (at_ Ix.laneFcHi) (at_ Ix.laneFcHyst) old (gain * (pos - neg))
    let settled : Prop := ∀ ix ∈ [Ix.laneFcLo, Ix.laneFcHi, Ix.laneFcHyst], at_ ix = s1.parAt (s1.now - 12800) ix lane
    let began := s1.now / 256 * 256
    let sees : Prop := s1.fcRuns lane = true ∧ s1.zoneHeld lane s1.now = false ∧ settled
    s.Inv ∧ sees ∧ z ≠ old ∧ e.fcSeen.map Prod.fst = some began ∧ e.buf.length < 256) :=
  ⟨⟨withPars [(Ix.laneDcapMode, 191, 1)] (withPars [(Ix.laneRole, 191, 1)] { dev with run := [(191, { on := true })] }), T0, 0, 191, by dsimp only [State.Inv, Dict.wf, Net.wf]; decide +kernel⟩,
   ⟨withPars [(Ix.laneRole, 191, 5), (Ix.laneEnable, 191, 1), (Ix.laneFcEnable, 191, 1)] { dev with run := [(191, { on := true })] }, T0, 191, 0, 0, by dsimp only [State.Inv, Dict.wf, Net.wf]; decide +kernel⟩,
   ⟨withPars [(Ix.laneRole, 191, 5), (Ix.laneEnable, 191, 1), (Ix.laneFcEnable, 191, 1)] { dev with run := [(191, { on := true })] }, T0, 191, 10 ^ 13, 0, by dsimp only [State.Inv, Dict.wf, Net.wf]; decide +kernel⟩,
   ⟨withPars [(Ix.laneRole, 191, 5), (Ix.laneEnable, 191, 1), (Ix.laneFcEnable, 191, 1)] { dev with run := [(191, { on := true })], edge := [(191, { fcSeen := some (T0, 0) })] }, T0, 191, 10 ^ 13, 0, by dsimp only [State.Inv, Dict.wf, Net.wf]; decide +kernel⟩⟩

theorem witness_EventPaths :
    (∃ (s : State) (t : Nat) (src : Fin 201) (r : Rec) (rest : List Rec),
    let s1 := s.enter t
    let e := s.edgeOf src
    let c := concentrator src
    let runs : Prop := s.tpll = true ∧ 2 ≤ s.par Ix.pwrState 0
    let offered : Prop := runs ∧ e.buf = r :: rest ∧ s1.turnOf c = some src.val ∧ s.cw.port.offered.find? (fun x => x.1 == c) = none
    let alone : Prop := s.cw.port.cycle ≠ s1.now / 1280
      ∧ ∀ d ∈ List.range 25, d ≠ c → ∀ o ∈ sourcesOf d, (s.edgeOf o).buf = []
    s.Inv ∧ offered ∧ alone ∧ s.occupancy < 65536 ∧ r.spec < 2 ^ 20)
    ∧ (∃ (s : State) (t : Nat) (src : Fin 201) (r : Rec) (rest : List Rec),
    let s1 := s.enter t
    let e := s.edgeOf src
    let c := concentrator src
    let runs : Prop := s.tpll = true ∧ 2 ≤ s.par Ix.pwrState 0
    let offered : Prop := runs ∧ e.buf = r :: rest ∧ s1.turnOf c = some src.val ∧ s.cw.port.offered.find? (fun x => x.1 == c) = none
    s.Inv ∧ offered ∧ (65536 ≤ s.occupancy ∨ s.cw.port.cycle = s1.now / 1280 ∧ 32 ≤ s.cw.port.taken))
    ∧ (∃ (s : State) (t : Nat) (src : Fin 201) (r : Rec) (rest : List Rec),
    let s1 := s.enter t
    let e := s.edgeOf src
    s.Inv ∧ e.buf = r :: rest ∧ r.stamp + 46080 < s1.now ∧ s.tpll = true)
    ∧ (∃ (s : State) (t : Nat) (src : Fin 201) (a : Account),
    let s1 := s.enter t
    let e := s.edgeOf src
    let runs : Prop := s.tpll = true ∧ 2 ≤ s.par Ix.pwrState 0
    s.Inv ∧ runs ∧ e.accounts = [a] ∧ a.start + 54272 ≤ s1.now) :=
  ⟨⟨{ dev with edge := [(200, { buf := [⟨T0 - 46080, 200, 1, 1, [], false⟩] })] }, T0, 200, ⟨T0 - 46080, 200, 1, 1, [], false⟩, [], by dsimp only [State.Inv, Dict.wf, Net.wf]; decide +kernel⟩,
   ⟨{ dev with edge := [(200, { buf := [⟨T0 - 46080, 200, 1, 1, [], false⟩] })], cw := { port := { cycle := T0 / 1280, taken := 32 } } }, T0, 200, ⟨T0 - 46080, 200, 1, 1, [], false⟩, [], by dsimp only [State.Inv, Dict.wf, Net.wf]; decide +kernel⟩,
   ⟨{ dev with edge := [(200, { buf := [⟨T0 - 46081, 200, 1, 1, [], false⟩], accounts := [⟨T0 - 54272, T0 - 54000, 2⟩] })] }, T0, 200, ⟨T0 - 46081, 200, 1, 1, [], false⟩, [], by dsimp only [State.Inv, Dict.wf, Net.wf]; decide +kernel⟩,
   ⟨{ dev with edge := [(200, { accounts := [⟨T0 - 54272, T0, 2⟩] })] }, T0, 200, ⟨T0 - 54272, T0, 2⟩, by dsimp only [State.Inv, Dict.wf, Net.wf]; decide +kernel⟩⟩

theorem witness_CausewayReleases :
    (∃ (s : State) (t : Nat),
    let s1 := s.enter t
    let runs : Prop := s.tpll = true ∧ 2 ≤ s.par Ix.pwrState 0
    let due (i : Item) : Bool := decide (i.stamp / 1280 < s.cw.dueTo)
      || decide ((i.stamp / 1280 + 1) * 1280 + s.par Ix.cwHorizon 0 * 256 ≤ s1.now / 1280 * 1280)
    let plain (i : Item) : Bool := match i with
      | .record r _ => decide (r.spec < 2 ^ 20)
      | .ctl .. => false
    let stands : Prop := s.cw.store.Pairwise (fun x y => y.before x = false) ∧ s.slots = []
      ∧ s.cw.store.all plain = true ∧ s.cw.intake.all Item.isRecord = true
      ∧ s.cw.port.outCycle ≠ s1.now / 1280
    s.Inv ∧ runs ∧ stands ∧ (s.cw.store.filter due).length ≤ 32)
    ∧ (∃ (s : State) (t : Nat),
    let s1 := s.enter t
    let runs : Prop := s.tpll = true ∧ 2 ≤ s.par Ix.pwrState 0
    let due (i : Item) : Bool := decide (i.stamp / 1280 < s.cw.dueTo)
      || decide ((i.stamp / 1280 + 1) * 1280 + s.par Ix.cwHorizon 0 * 256 ≤ s1.now / 1280 * 1280)
    let plain (i : Item) : Bool := match i with
      | .record r _ => decide (r.spec < 2 ^ 20)
      | .ctl .. => false
    let stands : Prop := s.cw.store.Pairwise (fun x y => y.before x = false) ∧ s.slots = []
      ∧ s.cw.store.all plain = true ∧ s.cw.intake.all Item.isRecord = true
      ∧ s.cw.port.outCycle ≠ s1.now / 1280
    s.Inv ∧ runs ∧ stands ∧ s.cw.store.all due = true ∧ 64 ≤ s.cw.store.length ∧ s.cw.store.all (fun i => !i.isGap) = true)
    ∧ (∃ (s : State),
    let runs : Prop := s.tpll = true ∧ 2 ≤ s.par Ix.pwrState 0
    s.Inv ∧ ¬ runs) :=
  ⟨⟨{ dev with cw := { store := List.replicate 32 (.record ⟨1280, 200, 1, 1, [], false⟩ none) } }, T0, by dsimp only [State.Inv, Dict.wf, Net.wf]; decide +kernel⟩,
   ⟨{ dev with cw := { store := List.replicate 65 (.record ⟨1280, 200, 1, 1, [], false⟩ none) } }, T0, by dsimp only [State.Inv, Dict.wf, Net.wf]; decide +kernel⟩,
   ⟨State.reset, by dsimp only [State.Inv, Dict.wf, Net.wf]; decide +kernel⟩⟩

theorem witness_KeystoneItems :
    (∃ (s : State) (r : Rec) (rest : List Item) (only : Option Nat),
    let taken : Prop := s.tpll = true ∧ 2 ≤ s.par Ix.pwrState 0 ∧ s.cw.intake = .record r only :: rest ∧ rest.all Item.isRecord = true
      ∧ s.deadlineFirst r.stamp (decide (203 ≤ r.src)) = false
    s.Inv ∧ taken)
    ∧ (∃ (s : State) (r : Rec) (rest : List Item) (only : Option Nat) (x : Fin 256) (st : UnitSt),
    let taken : Prop := s.tpll = true ∧ 2 ≤ s.par Ix.pwrState 0 ∧ s.cw.intake = .record r only :: rest ∧ rest.all Item.isRecord = true
      ∧ s.deadlineFirst r.stamp (decide (203 ≤ r.src)) = false
    s.Inv ∧ taken ∧ s.units = [(x.val, st)] ∧ st.stale = false ∧ (s.unitCfg r.stamp x).typ = 1 ∧ (s.unitCfg r.stamp x).a = r.src ∧ r.src ≤ 200 ∧ r.typ = 1 ∧ bit r.spec 19 = false ∧ edgeMatches ((s.unitCfg r.stamp x).mode % 4) (r.spec % 4) = true)
    ∧ (∃ (s : State) (r : Rec) (rest : List Item) (only : Option Nat) (k : Fin 8),
    let taken : Prop := s.tpll = true ∧ 2 ≤ s.par Ix.pwrState 0 ∧ s.cw.intake = .record r only :: rest ∧ rest.all Item.isRecord = true
      ∧ s.deadlineFirst r.stamp (decide (203 ≤ r.src)) = false
    s.Inv ∧ taken ∧ s.seqs = [] ∧ s.units = [] ∧ s.cai = [] ∧ only = some k.val ∧ r.typ ≠ 2 ∧ (s.streamOf k).on = true ∧ (s.streamOf k).stopped = false ∧ (s.streamOf k).holding = [] ∧ (s.streamOf k).open_ = none)
    ∧ (∃ (s : State) (d : Nat) (x : Fin 256) (st : UnitSt),
    let due : Prop := s.tpll = true ∧ 2 ≤ s.par Ix.pwrState 0 ∧ s.cw.intake = [] ∧ s.cw.past = [] ∧ s.time.skipped = none ∧ d / 1280 < s.cw.bucket
    s.Inv ∧ due ∧ s.seqs = [] ∧ s.units = [(x.val, st)] ∧ st.stale = false ∧ st.due = some d ∧ (s.unitCfg d x).typ = 9 ∧ (s.unitCfg d x).mode % 4 = 2)
    ∧ (∃ (s : State) (d : Nat) (q : Fin 4) (g : Fin 16) (h : Fin 16) (sq : SeqSt),
    let due : Prop := s.tpll = true ∧ 2 ≤ s.par Ix.pwrState 0 ∧ s.cw.intake = [] ∧ s.cw.past = [] ∧ s.time.skipped = none ∧ d / 1280 < s.cw.bucket
    s.Inv ∧ due ∧ s.units = [] ∧ s.seqs = [(q.val, sq)] ∧ sq.armed = true ∧ sq.deadlines = [d] ∧ sq.timeout = some d ∧ s.par Ix.keyStage q = g.val ∧ (∀ j : Fin 64, s.par Ix.keyBrExpr (64 * q.val + j.val) = 0) ∧ s.par Ix.keyStageActCount (16 * q.val + g.val) = 0 ∧ s.par Ix.keyStageNext (16 * q.val + g.val) = h.val) :=
  ⟨⟨{ dev with cw := { intake := [.record ⟨T0, 191, 1, 1, [], false⟩ none] } }, ⟨T0, 191, 1, 1, [], false⟩, [], none, by dsimp only [State.Inv, Dict.wf, Net.wf]; decide +kernel⟩,
   ⟨withPars [(Ix.keyCuType, 255, 1), (Ix.keyCuSrcA, 255, 191)] { dev with cw := { intake := [.record ⟨T0, 191, 1, 1, [], false⟩ none] }, units := [(255, { since := 0 })] }, ⟨T0, 191, 1, 1, [], false⟩, [], none, 255, { since := 0 }, by dsimp only [State.Inv, Dict.wf, Net.wf]; decide +kernel⟩,
   ⟨{ dev with cw := { intake := [.record ⟨T0, 191, 1, 1, [], false⟩ (some 7)] }, stream := [(7, { on := true })] }, ⟨T0, 191, 1, 1, [], false⟩, [], some 7, 7, by dsimp only [State.Inv, Dict.wf, Net.wf]; decide +kernel⟩,
   ⟨withPars [(Ix.keyCuType, 255, 9), (Ix.keyCuMode, 255, 2)] { dev with cw := { bucket := 2 }, units := [(255, { since := 0, due := some 2559 })] }, 2559, 255, { since := 0, due := some 2559 }, by dsimp only [State.Inv, Dict.wf, Net.wf]; decide +kernel⟩,
   ⟨withPars [(Ix.keyStage, 3, 15), (Ix.keyStageNext, 63, 14)] { dev with cw := { bucket := 2 }, seqs := [(3, { armed := true, timeout := some 2559 })] }, 2559, 3, 15, 14, { armed := true, timeout := some 2559 }, by dsimp only [State.Inv, Dict.wf, Net.wf]; decide +kernel⟩⟩

theorem witness_FrameClosing :
    (∃ (s : State) (t : Nat) (n : Fin 8) (f : OpenFrame),
    let s1 := s.enter t
    let x := s.streamOf n
    let lim := f.base + 256000000
    let due : Prop := s.tpll = true ∧ 2 ≤ s.par Ix.pwrState 0 ∧ x.open_ = some f ∧ lim + s.par Ix.cwHorizon 0 * 256 + 32768 < s1.now ∧ s1.stillToCome n lim = false
    s.Inv ∧ due ∧ (x.level = 0 ∨ queuedFrames x < 32))
    ∧ (∃ (s : State) (n : Fin 8) (f : OpenFrame),
    let x := s.streamOf n
    s.Inv ∧ x.open_ = some f ∧ (x.level = 0 ∨ queuedFrames x < 32))
    ∧ (∃ (s : State) (n : Fin 8) (f : OpenFrame),
    let x := s.streamOf n
    s.Inv ∧ x.open_ = some f ∧ x.level ≠ 0 ∧ 32 ≤ queuedFrames x ∧ s.par Ix.streamState n = 1 ∧ s.par Ix.spanGapPolicy n = 0 ∧ x.loss = none ∧ x.overflow = none)
    ∧ (∃ (s : State) (n : Fin 8),
    let x := s.streamOf n
    s.Inv ∧ x.open_ = none) :=
  ⟨⟨{ dev with stream := [(7, { on := true, open_ := some ⟨5, 0, 0, [1, 2, 3], 1, 5, false⟩ })] }, T0, 7, ⟨5, 0, 0, [1, 2, 3], 1, 5, false⟩, by dsimp only [State.Inv, Dict.wf, Net.wf]; decide +kernel⟩,
   ⟨{ dev with stream := [(7, { on := true, open_ := some ⟨5, 0, 0, [1, 2, 3], 1, 5, false⟩ })] }, 7, ⟨5, 0, 0, [1, 2, 3], 1, 5, false⟩, by dsimp only [State.Inv, Dict.wf, Net.wf]; decide +kernel⟩,
   ⟨withPars [(Ix.streamState, 7, 1)] { dev with stream := [(7, { on := true, level := 9, open_ := some ⟨5, 0, 0, [1, 2, 3], 1, 5, false⟩, beryl := List.replicate 32 ⟨({ base := 5, quality := 0, epoch := 7, chip := 3, stream := 7, level := 3, seq := 9, flushed := false, gap := false, comp := true, payload := [0, 0], stored := [w32 0xF5], records := 1, last := 5 } : Frame), .queued, 5, [], false⟩ })] }, 7, ⟨5, 0, 0, [1, 2, 3], 1, 5, false⟩, by dsimp only [State.Inv, Dict.wf, Net.wf]; decide +kernel⟩,
   ⟨State.reset, 7, by dsimp only [State.Inv, Dict.wf, Net.wf]; decide +kernel⟩⟩

theorem witness_TimedActions :
    (∃ (s : State),
    let runs : Prop := s.tpll = true ∧ 2 ≤ s.par Ix.pwrState 0
    s.Inv ∧ runs ∧ s.time.skipped = none ∧ s.slots.length < 64)
    ∧ (∃ (s : State) (x : Slot),
    let runs : Prop := s.tpll = true ∧ 2 ≤ s.par Ix.pwrState 0
    s.Inv ∧ runs ∧ s.time.skipped = none ∧ 64 ≤ (s.slots.filter (fun y => decide (x.cause < y.holdTo))).length)
    ∧ (∃ (s : State) (t : Nat) (x : Slot) (g : Fin 192),
    let s1 := s.enter t
    let o := s.outOf .guard g
    let runs : Prop := s.tpll = true ∧ 2 ≤ s.par Ix.pwrState 0
    let due : Prop := runs ∧ s.slots = [x] ∧ x.done = false ∧ x.due ≤ s1.now
    s.Inv ∧ due ∧ x.kind = 0 ∧ x.target = g.val ∧ x.subop ≤ 2 ∧ o.pulse = none)
    ∧ (∃ (s : State) (t : Nat) (x : Slot) (g : Fin 192),
    let s1 := s.enter t
    let o := s.outOf .guard g
    let runs : Prop := s.tpll = true ∧ 2 ≤ s.par Ix.pwrState 0
    let due : Prop := runs ∧ s.slots = [x] ∧ x.done = false ∧ x.due ≤ s1.now
    s.Inv ∧ due ∧ x.kind = 0 ∧ x.target = g.val ∧ x.subop = 3 ∧ o.pulse = none ∧ s.time.skipped = none)
    ∧ (∃ (s : State) (t : Nat) (x : Slot) (k : Fin 48),
    let s1 := s.enter t
    let runs : Prop := s.tpll = true ∧ 2 ≤ s.par Ix.pwrState 0
    let due : Prop := runs ∧ s.slots = [x] ∧ x.done = false ∧ x.due ≤ s1.now
    s.Inv ∧ due ∧ x.kind = 2 ∧ x.target = k.val ∧ x.subop = 0)
    ∧ (∃ (s : State) (t : Nat) (g : Fin 192) (p : Pulse),
    let s1 := s.enter t
    let o := s.outOf .guard g
    let runs : Prop := s.tpll = true ∧ 2 ≤ s.par Ix.pwrState 0
    s.Inv ∧ runs ∧ o.pulse = some p ∧ p.end_ ≤ s1.now ∧ s.slots = [])
    ∧ (∃ (s : State) (t : Nat) (x : Slot) (g : Fin 192) (p : Pulse),
    let s1 := s.enter t
    let o := s.outOf .guard g
    let runs : Prop := s.tpll = true ∧ 2 ≤ s.par Ix.pwrState 0
    s.Inv ∧ runs ∧ o.pulse = some p ∧ p.end_ ≤ s1.now ∧ s.slots = [x] ∧ x.done = true ∧ x.kind = 0 ∧ x.target = g.val ∧ x.subop = 3 ∧ x.due = p.start ∧ x.holdTo = p.end_)
    ∧ (∃ (s : State) (m : MarkOut) (rest : List MarkOut),
    s.Inv ∧ s.markOut = m :: rest ∧ s.canSend 0 = true ∧ s.canSend 1 = true)
    ∧ (∃ (s : State) (m : MarkOut) (rest : List MarkOut),
    s.Inv ∧ s.markOut = m :: rest ∧ s.canSend 0 = false ∧ s.canSend 1 = false) :=
  ⟨⟨dev, by dsimp only [State.Inv, Dict.wf, Net.wf]; decide +kernel⟩,
   ⟨{ dev with slots := List.replicate 64 ⟨0, 191, 2, 1, 256, 5, T0, T0, 3, 15, 3, false, none, none⟩ }, ⟨0, 191, 2, 1, 256, 5, T0, T0, 3, 15, 3, false, none, none⟩, by dsimp only [State.Inv, Dict.wf, Net.wf]; decide +kernel⟩,
   ⟨{ dev with slots := [⟨0, 191, 2, 1, 256, 5, T0, T0, 3, 15, 3, false, none, none⟩] }, T0, ⟨0, 191, 2, 1, 256, 5, T0, T0, 3, 15, 3, false, none, none⟩, 191, by dsimp only [State.Inv, Dict.wf, Net.wf]; decide +kernel⟩,
   ⟨{ dev with slots := [⟨0, 191, 3, 1, 256, 5, T0, T0, 3, 15, 3, false, none, none⟩] }, T0, ⟨0, 191, 3, 1, 256, 5, T0, T0, 3, 15, 3, false, none, none⟩, 191, by dsimp only [State.Inv, Dict.wf, Net.wf]; decide +kernel⟩,
   ⟨{ dev with slots := [⟨2, 47, 0, 1, 256, 5, T0, T0, 3, 15, 3, false, none, none⟩] }, T0, ⟨2, 47, 0, 1, 256, 5, T0, T0, 3, 15, 3, false, none, none⟩, 47, by dsimp only [State.Inv, Dict.wf, Net.wf]; decide +kernel⟩,
   ⟨{ dev with guard := [(191, { pulse := some ⟨1, T0 - 5, T0, true, 3, 15, 3⟩ })] }, T0, 191, ⟨1, T0 - 5, T0, true, 3, 15, 3⟩, by dsimp only [State.Inv, Dict.wf, Net.wf]; decide +kernel⟩,
   ⟨{ dev with slots := [⟨0, 191, 3, 1, 256, 5, (T0 - 5), T0, 3, 15, 3, true, none, none⟩], guard := [(191, { pulse := some ⟨1, T0 - 5, T0, true, 3, 15, 3⟩ })] }, T0, ⟨0, 191, 3, 1, 256, 5, (T0 - 5), T0, 3, 15, 3, true, none, none⟩, 191, ⟨1, T0 - 5, T0, true, 3, 15, 3⟩, by dsimp only [State.Inv, Dict.wf, Net.wf]; decide +kernel⟩,
   ⟨{ dev with markOut := [⟨65535, 7, 1, 3, 15, 3, 5⟩] }, ⟨65535, 7, 1, 3, 15, 3, 5⟩, [], by dsimp only [State.Inv, Dict.wf, Net.wf]; decide +kernel⟩,
   ⟨{ State.reset with markOut := [⟨65535, 7, 1, 3, 15, 3, 5⟩] }, ⟨65535, 7, 1, 3, 15, 3, 5⟩, [], by dsimp only [State.Inv, Dict.wf, Net.wf]; decide +kernel⟩⟩

theorem witness_SafeStates :
    (∃ (s : State) (g : Fin 192),
    s.Inv ∧ (s.outOf .guard g).held = true)
    ∧ (∃ (s : State) (l : Fin 8),
    s.Inv ∧ (s.outOf .line l).held = true)
    ∧ (∃ (s : State) (k : Fin 48),
    s.Inv ∧ s.exState k = 2)
    ∧ (∃ (s : State) (t : Nat) (m : Nat) (g : Fin 192),
    let s1 := s.enter t
    s.Inv ∧ s.tpll = true ∧ 2 ≤ s.par Ix.pwrState 0 ∧ (s.outOf .guard g).held = true ∧ (s.outOf .guard g).releaseAt = some m ∧ m ≤ s1.now)
    ∧ (∃ (s : State) (t : Nat) (m : Nat) (l : Fin 8),
    let s1 := s.enter t
    s.Inv ∧ (s.outOf .line l).held = true ∧ (s.outOf .line l).releaseAt = some m ∧ m ≤ s1.now)
    ∧ (∃ (s : State) (t : Nat) (m : Nat) (k : Fin 48),
    let s1 := s.enter t
    s.Inv ∧ s.exState k = 2 ∧ (s.exOf k).releaseAt = some m ∧ m ≤ s1.now ∧ s.awake (k / 2) = true)
    ∧ (∃ (s : State) (t : Nat) (m : Nat) (k : Fin 48),
    let s1 := s.enter t
    s.Inv ∧ s.exState k = 2 ∧ (s.exOf k).releaseAt = some m ∧ m ≤ s1.now ∧ s.awake (k / 2) = false) :=
  ⟨⟨{ dev with guard := [(191, { held := true })] }, 191, by dsimp only [State.Inv, Dict.wf, Net.wf]; decide +kernel⟩,
   ⟨{ dev with line := [(7, { held := true })] }, 7, by dsimp only [State.Inv, Dict.wf, Net.wf]; decide +kernel⟩,
   ⟨withPars [(exIx Ix.exState 47, 23, 2)] dev, 47, by dsimp only [State.Inv, Dict.wf, Net.wf]; decide +kernel⟩,
   ⟨{ dev with guard := [(191, { held := true, releaseAt := some T0 })] }, T0, T0, 191, by dsimp only [State.Inv, Dict.wf, Net.wf]; decide +kernel⟩,
   ⟨{ dev with line := [(7, { held := true, releaseAt := some T0 })] }, T0, T0, 7, by dsimp only [State.Inv, Dict.wf, Net.wf]; decide +kernel⟩,
   ⟨withPars [(exIx Ix.exState 47, 23, 2)] { dev with ex := [(47, { releaseAt := some T0 })] }, T0, T0, 47, by dsimp only [State.Inv, Dict.wf, Net.wf]; decide +kernel⟩,
   ⟨withPars [(Ix.pwrPierState, 23, 0)] (withPars [(exIx Ix.exState 47, 23, 2)] { dev with ex := [(47, { releaseAt := some T0 })] }), T0, T0, 47, by dsimp only [State.Inv, Dict.wf, Net.wf]; decide +kernel⟩⟩

theorem witness_SourceFlags :
    (∃ (s : State) (k : Fin 48) (open_ : Bool) (reading : Int),
    let ix := exIx (if open_ then Ix.exOpen else Ix.exCompliance) k
    let volts := decide (s.exPar Ix.exMode k ≠ 0)
    let seen : Bool := if volts then
        (if open_ then decide (100000 ≤ s.exPar Ix.exLevel k) && decide (reading.natAbs < s.exPar Ix.exIOpen k)
          else decide (10000000 ≤ reading.natAbs))
      else open_ && (decide (reading ≤ 300000) || decide (4600000 ≤ reading))
    s.Inv ∧ s.exState k = 1 ∧ seen = true ∧ s.par ix (k / 2) = 0)
    ∧ (∃ (s : State) (k : Fin 48) (open_ : Bool) (reading : Int),
    let ix := exIx (if open_ then Ix.exOpen else Ix.exCompliance) k
    let volts := decide (s.exPar Ix.exMode k ≠ 0)
    let seen : Bool := if volts then
        (if open_ then decide (100000 ≤ s.exPar Ix.exLevel k) && decide (reading.natAbs < s.exPar Ix.exIOpen k)
          else decide (10000000 ≤ reading.natAbs))
      else open_ && (decide (reading ≤ 300000) || decide (4600000 ≤ reading))
    s.Inv ∧ s.par ix (k / 2) = 1 ∧ seen = false)
    ∧ (∃ (s : State) (t : Nat) (k : Fin 48),
    let s1 := s.enter t
    s.Inv ∧ s.exState k = 1 ∧ s.alternates k = true ∧ s1.now % s.swapPeriod k = 0)
    ∧ (∃ (s : State) (on : Bool) (p : Fin 24),
    s.Inv ∧ s.awake p = true ∧ (s.par Ix.biasEnable p = 1 ∨ on = false) ∧ s.par Ix.biasOverload p = b2n (!on)) :=
  ⟨⟨withPars [(exIx Ix.exState 47, 23, 1)] dev, 47, true, 0, by dsimp only [State.Inv, Dict.wf, Net.wf]; decide +kernel⟩,
   ⟨withPars [(exIx Ix.exCompliance 47, 23, 1)] dev, 47, false, 0, by dsimp only [State.Inv, Dict.wf, Net.wf]; decide +kernel⟩,
   ⟨withPars [(exIx Ix.exAltN 47, 23, 2)] (withPars [(exIx Ix.exState 47, 23, 1)] dev), T0, 47, by dsimp only [State.Inv, Dict.wf, Net.wf]; decide +kernel⟩,
   ⟨withPars [(Ix.biasOverload, 23, 1)] dev, false, 23, by dsimp only [State.Inv, Dict.wf, Net.wf]; decide +kernel⟩⟩

theorem witness_ChargeAmplifiers :
    (∃ (s : State) (t : Nat) (a : Fin 48) (pre : Int),
    let s1 := s.enter t
    let trips : Prop := s.tpll = true ∧ s.awake (a / 2) = true ∧ s.caPar Ix.caAutoreset a ≠ 0
      ∧ s.caPar Ix.caAutoreset a * 2 ^ 30 < pre.natAbs * 256
    let free : Prop := ∀ x ∈ (s.caSt a).start, x + 64000 ≤ s1.now
    s.Inv ∧ trips ∧ free)
    ∧ (∃ (s : State) (t : Nat) (b : Nat) (a : Fin 48) (pre : Int),
    let s1 := s.enter t
    let trips : Prop := s.tpll = true ∧ s.awake (a / 2) = true ∧ s.caPar Ix.caAutoreset a ≠ 0
      ∧ s.caPar Ix.caAutoreset a * 2 ^ 30 < pre.natAbs * 256
    let begins := (s.caSt a).start = some b
    s.Inv ∧ trips ∧ begins ∧ s1.now < b + 51200 ∧ bit (s.caSt a).causes 0 = false)
    ∧ (∃ (s : State) (t : Nat) (b : Nat) (a : Fin 48) (pre : Int),
    let s1 := s.enter t
    let trips : Prop := s.tpll = true ∧ s.awake (a / 2) = true ∧ s.caPar Ix.caAutoreset a ≠ 0
      ∧ s.caPar Ix.caAutoreset a * 2 ^ 30 < pre.natAbs * 256
    let begins := (s.caSt a).start = some b
    s.Inv ∧ trips ∧ begins ∧ b + 51200 ≤ s1.now ∧ s1.now < b + 64000)
    ∧ (∃ (s : State) (t : Nat) (b : Nat) (a : Fin 48) (pre : Int),
    let s1 := s.enter t
    let trips : Prop := s.tpll = true ∧ s.awake (a / 2) = true ∧ s.caPar Ix.caAutoreset a ≠ 0
      ∧ s.caPar Ix.caAutoreset a * 2 ^ 30 < pre.natAbs * 256
    let begins := (s.caSt a).start = some b
    s.Inv ∧ trips ∧ begins ∧ b + 51200 ≤ s1.now ∧ s1.now < b + 64000)
    ∧ (∃ (s : State) (t : Nat) (a : Fin 48),
    let s1 := s.enter t
    let ticks : Prop := s.tpll = true ∧ s.awake (a / 2) = true ∧ s.caPar Ix.caResetPeriod a ≠ 0
      ∧ s1.now % (s.caPar Ix.caResetPeriod a * 256000) = 0
    let free : Prop := ∀ x ∈ (s.caSt a).start, x + 64000 ≤ s1.now
    s.Inv ∧ ticks ∧ free)
    ∧ (∃ (s : State) (t : Nat) (b : Nat) (a : Fin 48),
    let s1 := s.enter t
    let ticks : Prop := s.tpll = true ∧ s.awake (a / 2) = true ∧ s.caPar Ix.caResetPeriod a ≠ 0
      ∧ s1.now % (s.caPar Ix.caResetPeriod a * 256000) = 0
    let begins := (s.caSt a).start = some b
    s.Inv ∧ ticks ∧ begins ∧ s1.now < b + 51200 ∧ bit (s.caSt a).causes 1 = false)
    ∧ (∃ (s : State) (t : Nat) (b : Nat) (a : Fin 48),
    let s1 := s.enter t
    let ticks : Prop := s.tpll = true ∧ s.awake (a / 2) = true ∧ s.caPar Ix.caResetPeriod a ≠ 0
      ∧ s1.now % (s.caPar Ix.caResetPeriod a * 256000) = 0
    let begins := (s.caSt a).start = some b
    s.Inv ∧ ticks ∧ begins ∧ b + 51200 ≤ s1.now ∧ s1.now < b + 64000)
    ∧ (∃ (s : State) (t : Nat),
    let s1 := s.enter t
    let e := (s1.now + 49151) / 16384 * 16384
    s.Inv ∧ atBoundary s.cw.queue e < 128)
    ∧ (∃ (s : State) (t : Nat) (b : Nat) (a : Fin 48) (l : Fin 192),
    let s1 := s.enter t
    let begins := (s.caSt a).start = some b
    let at_ (ix : Nat) := s1.parAt s1.now ix l
    let settled : Prop := ∀ ix ∈ [Ix.laneFcLo, Ix.laneFcHi, Ix.laneFcHyst], at_ ix = s1.parAt (s1.now - 12800) ix l
    s.Inv ∧ begins ∧ s.caLane a = some l.val ∧ b + 64000 ≤ s1.now ∧ s1.fcRuns l = true ∧ settled ∧ (∀ x ∈ (s.edgeOf l).fcSeen, x.1 < b + 64000) ∧ (s.edgeOf l).buf.length < 256) :=
  ⟨⟨withPars [(caIx Ix.caAutoreset 47, 23, 1), (caIx Ix.caResetPeriod 47, 23, 1)] dev, T0, 47, 2 ^ 30, by dsimp only [State.Inv, Dict.wf, Net.wf]; decide +kernel⟩,
   ⟨withPars [(caIx Ix.caAutoreset 47, 23, 1), (caIx Ix.caResetPeriod 47, 23, 1)] { dev with ca := [(47, { start := some (T0 - 51199), causes := 2 })] }, T0, T0 - 51199, 47, 2 ^ 30, by dsimp only [State.Inv, Dict.wf, Net.wf]; decide +kernel⟩,
   ⟨withPars [(caIx Ix.caAutoreset 47, 23, 1), (caIx Ix.caResetPeriod 47, 23, 1)] { dev with ca := [(47, { start := some (T0 - 51200), causes := 2 })] }, T0, T0 - 51200, 47, 2 ^ 30, by dsimp only [State.Inv, Dict.wf, Net.wf]; decide +kernel⟩,
   ⟨withPars [(caIx Ix.caAutoreset 47, 23, 1), (caIx Ix.caResetPeriod 47, 23, 1)] { dev with ca := [(47, { start := some (T0 - 63999), causes := 2 })] }, T0, T0 - 63999, 47, 2 ^ 30, by dsimp only [State.Inv, Dict.wf, Net.wf]; decide +kernel⟩,
   ⟨withPars [(caIx Ix.caAutoreset 47, 23, 1), (caIx Ix.caResetPeriod 47, 23, 1)] dev, T0, 47, by dsimp only [State.Inv, Dict.wf, Net.wf]; decide +kernel⟩,
   ⟨withPars [(caIx Ix.caAutoreset 47, 23, 1), (caIx Ix.caResetPeriod 47, 23, 1)] { dev with ca := [(47, { start := some (T0 - 51199), causes := 1 })] }, T0, T0 - 51199, 47, by dsimp only [State.Inv, Dict.wf, Net.wf]; decide +kernel⟩,
   ⟨withPars [(caIx Ix.caAutoreset 47, 23, 1), (caIx Ix.caResetPeriod 47, 23, 1)] { dev with ca := [(47, { start := some (T0 - 63999), causes := 1 })] }, T0, T0 - 63999, 47, by dsimp only [State.Inv, Dict.wf, Net.wf]; decide +kernel⟩,
   ⟨dev, T0, by dsimp only [State.Inv, Dict.wf, Net.wf]; decide +kernel⟩,
   ⟨withPars [(Ix.laneRole, 191, 5), (Ix.laneEnable, 191, 1), (Ix.laneCaSel, 191, 1), (Ix.laneFcEnable, 191, 1)] { dev with run := [(191, { on := true })], ca := [(47, { start := some (T0 - 64000), causes := 1 })] }, T0, T0 - 64000, 47, 191, by dsimp only [State.Inv, Dict.wf, Net.wf]; decide +kernel⟩⟩

theorem witness_ClampsAndTone :
    (∃ (s : State) (p : Fin 24) (pin : Fin 18),
    let f := s.par Ix.pierClampActive p
    s.Inv ∧ s.awake p = true ∧ bit f pin = false)
    ∧ (∃ (s : State) (p : Fin 24) (pin : Fin 18),
    let f := s.par Ix.pierClampActive p
    s.Inv ∧ s.awake p = true ∧ bit f pin = true)
    ∧ (∃ (s : State) (t : Nat) (p : Fin 24),
    let s1 := s.enter t
    s.Inv ∧ s.tpll = true ∧ s.par Ix.toneEnable p = 1 ∧ s.awake p = true ∧ s.globalCause = false ∧ s1.now % (s.par Ix.tonePeriod p * 256000) = 0)
    ∧ (∃ (s : State) (t : Nat) (lane : Fin 192),
    let s1 := s.enter t
    s.Inv ∧ bit (tget {} s.tone (lane / 8)).due (lane % 8) = true ∧ (tget {} s.tone (lane / 8)).end_ ≤ s1.now ∧ s.awake (lane / 8) = true) :=
  ⟨⟨dev, 23, 17, by dsimp only [State.Inv, Dict.wf, Net.wf]; decide +kernel⟩,
   ⟨withPars [(Ix.pierClampActive, 23, 2 ^ 17)] dev, 23, 17, by dsimp only [State.Inv, Dict.wf, Net.wf]; decide +kernel⟩,
   ⟨withPars [(Ix.toneEnable, 23, 1)] dev, T0, 23, by dsimp only [State.Inv, Dict.wf, Net.wf]; decide +kernel⟩,
   ⟨{ dev with tone := [(23, { due := 128, end_ := T0 })] }, T0, 191, by dsimp only [State.Inv, Dict.wf, Net.wf]; decide +kernel⟩⟩

theorem witness_Samples :
    (∃ (s : State) (t : Nat) (lane : Fin 192),
    let s1 := s.enter t
    let produces : Prop := s.tpll = true ∧ s.analog lane = true ∧ (s.runOf lane).on = true
      ∧ s.par Ix.pwrPierState (lane / 8) = 2 ∧ (s.convOf lane).from_ ≤ s1.now ∧ s1.now % (2 ^ s.par Ix.laneRate lane * 250000) = 0
      ∧ (s.edgeOf lane).buf.length < 256
    s.Inv ∧ produces)
    ∧ (∃ (s : State) (t : Nat) (lane : Fin 192),
    let s1 := s.enter t
    let e := (s1.now + 49151) / 16384 * 16384
    s.Inv ∧ s.analog lane = true ∧ atBoundary s.cw.queue e < 128)
    ∧ (∃ (s : State) (lane : Fin 192),
    s.Inv ∧ s.analog lane = false) :=
  ⟨⟨withPars [(Ix.laneRole, 191, 2), (Ix.laneEnable, 191, 1)] { dev with run := [(191, { on := true })] }, T0, 191, by dsimp only [State.Inv, Dict.wf, Net.wf]; decide +kernel⟩,
   ⟨withPars [(Ix.laneRole, 191, 2), (Ix.laneEnable, 191, 1)] { dev with run := [(191, { on := true })] }, 0, 191, by dsimp only [State.Inv, Dict.wf, Net.wf]; decide +kernel⟩,
   ⟨State.reset, 191, by dsimp only [State.Inv, Dict.wf, Net.wf]; decide +kernel⟩⟩

theorem witness_Rotation :
    (∃ (s : State) (t : Nat) (p : Fin 24) (l : Fin 192) (i : Fin 9),
    let s1 := s.enter t
    let target := ((List.range 8).map (fun j => 8 * p.val + (s.par Ix.pierRotNextLane p + j) % 8)).find?
      (fun q => s.laneOn q && s.analog q)
    let slot : Prop := s.tpll = true ∧ s.par Ix.pierRotEnable p = 1 ∧ s.par Ix.pwrPierState p = 2
      ∧ s1.now % (s.par Ix.pierRotPeriod p * 256000000) = 0 ∧ tfind s.overlap p = none
    s.Inv ∧ slot ∧ target = some l.val ∧ (s.sliceOf p i).state = .spare ∧ (∀ j : Fin 9, j < i → (s.sliceOf p j).state ≠ .spare))
    ∧ (∃ (s : State) (t : Nat) (p : Fin 24),
    let s1 := s.enter t
    let target := ((List.range 8).map (fun j => 8 * p.val + (s.par Ix.pierRotNextLane p + j) % 8)).find?
      (fun q => s.laneOn q && s.analog q)
    let slot : Prop := s.tpll = true ∧ s.par Ix.pierRotEnable p = 1 ∧ s.par Ix.pwrPierState p = 2
      ∧ s1.now % (s.par Ix.pierRotPeriod p * 256000000) = 0 ∧ tfind s.overlap p = none
    s.Inv ∧ slot ∧ target = none)
    ∧ (∃ (s : State) (o : Overlap),
    s.Inv ∧ o.excl = [] ∧ o.cond = [] ∧ s.clamp = [] ∧ s.time.skipped = none ∧ o.diffs.all (fun d => !d.2) = true)
    ∧ (∃ (s : State) (t : Nat) (p : Fin 24) (l : Fin 192) (i : Fin 9) (old : Fin 9) (o : Overlap),
    let s1 := s.enter t
    let td := o.t0 + 16000000 + s.par Ix.pierRotOverlap p * 256000
    let decides : Prop := tfind s.overlap p = some o ∧ o.lane = l.val ∧ o.spare = i.val ∧ td ≤ s1.now
      ∧ s.par Ix.laneSlice l = old.val ∧ old ≠ i
    let checks := s.par Ix.pierRotOverlap p * 256000 / 4000000
    let ds := s1.checkUse p o td
    let n := ds.length
    let enough : Prop := checks ≤ 2 * n ∧ n ≠ 0
    s.Inv ∧ decides ∧ ¬ enough)
    ∧ (∃ (s : State) (t : Nat) (p : Fin 24) (l : Fin 192) (i : Fin 9) (old : Fin 9) (o : Overlap),
    let s1 := s.enter t
    let td := o.t0 + 16000000 + s.par Ix.pierRotOverlap p * 256000
    let decides : Prop := tfind s.overlap p = some o ∧ o.lane = l.val ∧ o.spare = i.val ∧ td ≤ s1.now
      ∧ s.par Ix.laneSlice l = old.val ∧ old ≠ i
    let checks := s.par Ix.pierRotOverlap p * 256000 / 4000000
    let ds := s1.checkUse p o td
    let n := ds.length
    let enough : Prop := checks ≤ 2 * n ∧ n ≠ 0
    let near : Prop := ds.sum.natAbs * 2500000 ≤ s.par Ix.pierRotTol p * 2 ^ 30 * n
    s.Inv ∧ decides ∧ enough ∧ near)
    ∧ (∃ (s : State) (t : Nat) (p : Fin 24) (l : Fin 192) (i : Fin 9) (old : Fin 9) (o : Overlap),
    let s1 := s.enter t
    let td := o.t0 + 16000000 + s.par Ix.pierRotOverlap p * 256000
    let decides : Prop := tfind s.overlap p = some o ∧ o.lane = l.val ∧ o.spare = i.val ∧ td ≤ s1.now
      ∧ s.par Ix.laneSlice l = old.val ∧ old ≠ i
    let checks := s.par Ix.pierRotOverlap p * 256000 / 4000000
    let ds := s1.checkUse p o td
    let n := ds.length
    let enough : Prop := checks ≤ 2 * n ∧ n ≠ 0
    let near : Prop := ds.sum.natAbs * 2500000 ≤ s.par Ix.pierRotTol p * 2 ^ 30 * n
    s.Inv ∧ decides ∧ enough ∧ ¬ near)
    ∧ (∃ (s : State) (t : Nat) (p : Fin 24) (i : Fin 9),
    let s1 := s.enter t
    let ends : Prop := (s.sliceOf p i).state = .spareCal ∧ s.par Ix.pwrPierState p = 2 ∧ (s.sliceOf p i).cycleEnd ≤ s1.now
    s.Inv ∧ ends)
    ∧ (∃ (s : State) (p : Fin 24),
    s.Inv ∧ s.par Ix.pwrPierState p = 2) :=
  ⟨⟨withPars [(Ix.pierRotEnable, 23, 1), (Ix.pierRotPeriod, 23, 100)] (withPars [(Ix.laneRole, 191, 2), (Ix.laneEnable, 191, 1)] { dev with run := [(191, { on := true })] }), T0, 23, 191, 8, by dsimp only [State.Inv, Dict.wf, Net.wf]; decide +kernel⟩,
   ⟨withPars [(Ix.pierRotEnable, 23, 1), (Ix.pierRotPeriod, 23, 100)] dev, T0, 23, by dsimp only [State.Inv, Dict.wf, Net.wf]; decide +kernel⟩,
   ⟨withPars [(Ix.laneSlice, 191, 7)] { dev with overlap := [(23, ⟨191, 8, 5, [(3, false)], [], []⟩)] }, ⟨191, 8, 5, [(3, false)], [], []⟩, by dsimp only [State.Inv, Dict.wf, Net.wf]; decide +kernel⟩,
   ⟨withPars [(Ix.laneSlice, 191, 7)] { dev with overlap := [(23, ⟨191, 8, 5, [], [], []⟩)] }, T0, 23, 191, 8, 7, ⟨191, 8, 5, [], [], []⟩, by dsimp only [State.Inv, Dict.wf, Net.wf]; decide +kernel⟩,
   ⟨withPars [(Ix.laneSlice, 191, 7), (Ix.pierRotOverlap, 23, 1000)] { dev with overlap := [(23, ⟨191, 8, 5, (List.replicate 32 (0, false)), [], []⟩)] }, T0, 23, 191, 8, 7, ⟨191, 8, 5, (List.replicate 32 (0, false)), [], []⟩, by dsimp only [State.Inv, Dict.wf, Net.wf]; decide +kernel⟩,
   ⟨withPars [(Ix.laneSlice, 191, 7), (Ix.pierRotOverlap, 23, 1000)] { dev with overlap := [(23, ⟨191, 8, 5, (List.replicate 64 (10 ^ 9, false)), [], []⟩)] }, T0, 23, 191, 8, 7, ⟨191, 8, 5, (List.replicate 64 (10 ^ 9, false)), [], []⟩, by dsimp only [State.Inv, Dict.wf, Net.wf]; decide +kernel⟩,
   ⟨{ dev with slice := [(215, ⟨.spareCal, 0, T0⟩)] }, T0, 23, 8, by dsimp only [State.Inv, Dict.wf, Net.wf]; decide +kernel⟩,
   ⟨dev, 23, by dsimp only [State.Inv, Dict.wf, Net.wf]; decide +kernel⟩⟩

theorem witness_CaissonBlocks :
    (∃ (s : State) (t : Nat) (p : Fin 24) (i : Fin 8),
    let s1 := s.enter t
    let l := 8 * p.val + i.val
    let x := (s.caiOf p)
    let recorded := ((tfind x.lanes i).bind (fun r => r.words.head?)).map Prod.fst
    s.Inv ∧ s.tpll = true ∧ s1.now % (2 ^ s.par Ix.caiRate p * 250000) = 0 ∧ s.caiRecords l = true ∧ s.par Ix.caiFormat p = 0 ∧ recorded ≠ some s1.now)
    ∧ (∃ (s : State) (t : Nat) (p : Fin 24) (b : Block),
    let s1 := s.enter t
    let x := (s.caiOf p)
    let frames : Prop := x.block = some b ∧ b.framed = false ∧ b.place + s.par Ix.cwHorizon 0 * 256 + 32768 < s1.now
      ∧ (s.cw.intake ++ s.cw.store).all (fun k => decide (b.place ≤ k.stamp)) = true ∧ s.earlierBlock b = false
    s.Inv ∧ frames ∧ (∀ k : Fin 8, bit b.mask k = true → s.par Ix.streamState k ≠ 1))
    ∧ (∃ (s : State) (t : Nat) (p : Fin 24) (n : Fin 8) (b : Block),
    let s1 := s.enter t
    let x := (s.caiOf p)
    let frames : Prop := x.block = some b ∧ b.framed = false ∧ b.place + s.par Ix.cwHorizon 0 * 256 + 32768 < s1.now
      ∧ (s.cw.intake ++ s.cw.store).all (fun k => decide (b.place ≤ k.stamp)) = true ∧ s.earlierBlock b = false
    s.Inv ∧ frames ∧ b.mask = 2 ^ n.val ∧ s.par Ix.streamState n = 1 ∧ (s.streamOf n).on = true ∧ (s.streamOf n).stopped = false ∧ (s.streamOf n).level = 0 ∧ (s.streamOf n).holding = [])
    ∧ (∃ (s : State) (t : Nat) (p : Fin 24) (b : Block),
    let s1 := s.enter t
    let x := (s.caiOf p)
    s.Inv ∧ x.block = some b ∧ b.rearm < s1.now ∧ s.par Ix.caiState p = 3)
    ∧ (∃ (s : State) (t : Nat) (p : Fin 24) (b : Block),
    let s1 := s.enter t
    let x := (s.caiOf p)
    s.Inv ∧ x.block = some b ∧ b.rearm < s1.now ∧ s.par Ix.caiState p = 4) :=
  ⟨⟨withPars [(Ix.caiState, 23, 1)] (withPars [(Ix.laneRole, 191, 2), (Ix.laneEnable, 191, 1)] { dev with run := [(191, { on := true })] }), T0, 23, 7, by dsimp only [State.Inv, Dict.wf, Net.wf]; decide +kernel⟩,
   ⟨{ dev with cai := [(23, { block := some ({ profile := 0, mask := 128, lanes := 128, seq := 3, num := 1, trig := 5, i0 := 5, preReq := 1, pre := 1, post := 1, rate := 0, filter := 0, format := 0, place := 5, rearm := T0 - 1, words := [], framed := false } : Block) })] }, T0, 23, ({ profile := 0, mask := 128, lanes := 128, seq := 3, num := 1, trig := 5, i0 := 5, preReq := 1, pre := 1, post := 1, rate := 0, filter := 0, format := 0, place := 5, rearm := T0 - 1, words := [], framed := false } : Block), by dsimp only [State.Inv, Dict.wf, Net.wf]; decide +kernel⟩,
   ⟨withPars [(Ix.streamState, 7, 1)] { dev with cai := [(23, { block := some ({ profile := 0, mask := 128, lanes := 128, seq := 3, num := 1, trig := 5, i0 := 5, preReq := 1, pre := 1, post := 1, rate := 0, filter := 0, format := 0, place := 5, rearm := T0 - 1, words := [], framed := false } : Block) })], stream := [(7, { on := true })] }, T0, 23, 7, ({ profile := 0, mask := 128, lanes := 128, seq := 3, num := 1, trig := 5, i0 := 5, preReq := 1, pre := 1, post := 1, rate := 0, filter := 0, format := 0, place := 5, rearm := T0 - 1, words := [], framed := false } : Block), by dsimp only [State.Inv, Dict.wf, Net.wf]; decide +kernel⟩,
   ⟨withPars [(Ix.caiState, 23, 3)] { dev with cai := [(23, { block := some ({ profile := 0, mask := 128, lanes := 128, seq := 3, num := 1, trig := 5, i0 := 5, preReq := 1, pre := 1, post := 1, rate := 0, filter := 0, format := 0, place := 5, rearm := T0 - 1, words := [], framed := false } : Block) })] }, T0, 23, ({ profile := 0, mask := 128, lanes := 128, seq := 3, num := 1, trig := 5, i0 := 5, preReq := 1, pre := 1, post := 1, rate := 0, filter := 0, format := 0, place := 5, rearm := T0 - 1, words := [], framed := false } : Block), by dsimp only [State.Inv, Dict.wf, Net.wf]; decide +kernel⟩,
   ⟨withPars [(Ix.caiState, 23, 4)] { dev with cai := [(23, { block := some ({ profile := 0, mask := 128, lanes := 128, seq := 3, num := 1, trig := 5, i0 := 5, preReq := 1, pre := 1, post := 1, rate := 0, filter := 0, format := 0, place := 5, rearm := T0 - 1, words := [], framed := false } : Block) })] }, T0, 23, ({ profile := 0, mask := 128, lanes := 128, seq := 3, num := 1, trig := 5, i0 := 5, preReq := 1, pre := 1, post := 1, rate := 0, filter := 0, format := 0, place := 5, rearm := T0 - 1, words := [], framed := false } : Block), by dsimp only [State.Inv, Dict.wf, Net.wf]; decide +kernel⟩⟩

theorem witness_FramePath :
    (∃ (s : State) (n : Fin 8) (g : Fin 16) (b : BerylFrame),
    let y := s.streamOf n
    let idle : Bool := s.stream.all (fun z => z.2.beryl.all (fun c => decide (c.at_ ≠ .engine g)))
    let jasper : Prop := s.runs 2 = true
    s.Inv ∧ jasper ∧ idle = true ∧ s.nextQueued = some n.val ∧ y.beryl.find? (fun c => decide (c.at_ = .queued)) = some b)
    ∧ (∃ (s : State) (n : Fin 8) (g : Fin 16) (b : BerylFrame) (rest : List BerylFrame) (x : StreamSt),
    let jasper : Prop := s.runs 2 = true
    s.Inv ∧ jasper ∧ s.stream = [(n.val, x)] ∧ x.beryl = b :: rest ∧ b.at_ = .engine g ∧ 1 ≤ b.frame.level)
    ∧ (∃ (s : State) (n : Fin 8) (b : BerylFrame) (rest : List BerylFrame),
    let y := s.streamOf n
    let jasper : Prop := s.runs 2 = true
    let dram : Prop := s.runs 3 = true ∧ s.par Ix.memState 0 = 1
    let ready : Prop := jasper ∧ (bit (s.par Ix.streamOutlets n) 2 = true → dram) ∧ y.beryl = b :: rest ∧ b.at_ = .ready
      ∧ y.runs = [] ∧ y.loss = none ∧ y.overflow = none ∧ y.owed = []
    s.Inv ∧ ready ∧ bytesIn y.head + b.frame.bytes ≤ 524288)
    ∧ (∃ (s : State) (n : Fin 8) (b : BerylFrame) (rest : List BerylFrame),
    let y := s.streamOf n
    let jasper : Prop := s.runs 2 = true
    let dram : Prop := s.runs 3 = true ∧ s.par Ix.memState 0 = 1
    let ready : Prop := jasper ∧ (bit (s.par Ix.streamOutlets n) 2 = true → dram) ∧ y.beryl = b :: rest ∧ b.at_ = .ready
      ∧ y.runs = [] ∧ y.loss = none ∧ y.overflow = none ∧ y.owed = []
    s.Inv ∧ ready ∧ 524288 < bytesIn y.head + b.frame.bytes ∧ s.par Ix.spanGapPolicy n = 0)
    ∧ (∃ (s : State) (n : Fin 8) (f : Frame) (fs : List Frame),
    let y := s.streamOf n
    let jasper : Prop := s.runs 2 = true
    let direct : Prop := bit (s.par Ix.streamOutlets n) 0 = true ∧ bit (s.par Ix.streamOutlets n) 1 = false ∧ y.ringTook = 0
    s.Inv ∧ jasper ∧ y.head = f :: fs ∧ y.span = [] ∧ bytesIn y.tail + f.bytes ≤ 524288 ∧ direct)
    ∧ (∃ (s : State) (n : Fin 8) (f : Frame) (fs : List Frame),
    let y := s.streamOf n
    let jasper : Prop := s.runs 2 = true
    let dram : Prop := s.runs 3 = true ∧ s.par Ix.memState 0 = 1
    let bytes := s.par Ix.spanSize n * 65536
    s.Inv ∧ jasper ∧ dram ∧ y.head = f :: fs ∧ y.span ≠ [] ∧ spanUse y.span + f.spanBytes ≤ bytes)
    ∧ (∃ (s : State) (addr : Nat) (base : Nat) (size : Nat) (n : Fin 8) (f : Frame) (items : List SpanItem),
    let y := s.streamOf n
    let jasper : Prop := s.runs 2 = true
    let dram : Prop := s.runs 3 = true ∧ s.par Ix.memState 0 = 1
    let direct : Prop := bit (s.par Ix.streamOutlets n) 0 = true ∧ bit (s.par Ix.streamOutlets n) 1 = false ∧ y.ringTook = 0
    s.Inv ∧ jasper ∧ dram ∧ y.span = .frame f addr base size :: items ∧ bytesIn y.tail + f.bytes ≤ 524288 ∧ direct ∧ s.spanRead addr base size f.spanBytes = (f.spanImage, []))
    ∧ (∃ (s : State) (t : Nat) (n : Fin 8),
    let s1 := s.enter t
    let e := (s1.now + 49151) / 16384 * 16384
    s.Inv ∧ s.par Ix.streamState n = 2 ∧ atBoundary s.cw.queue e < 128)
    ∧ (∃ (s : State) (n : Fin 8),
    s.Inv ∧ s.par Ix.streamState n ≠ 2) :=
  ⟨⟨{ dev with stream := [(7, { on := true, beryl := [⟨({ base := 5, quality := 0, epoch := 7, chip := 3, stream := 7, level := 3, seq := 9, flushed := false, gap := false, comp := true, payload := [0, 0], stored := [w32 0xF5], records := 1, last := 5 } : Frame), .queued, 5, [], false⟩] })] }, 7, 15, ⟨({ base := 5, quality := 0, epoch := 7, chip := 3, stream := 7, level := 3, seq := 9, flushed := false, gap := false, comp := true, payload := [0, 0], stored := [w32 0xF5], records := 1, last := 5 } : Frame), .queued, 5, [], false⟩, by dsimp only [State.Inv, Dict.wf, Net.wf]; decide +kernel⟩,
   ⟨{ dev with stream := [(7, { on := true, beryl := [⟨({ base := 5, quality := 0, epoch := 7, chip := 3, stream := 7, level := 3, seq := 9, flushed := false, gap := false, comp := true, payload := [0, 0], stored := [w32 0xF5], records := 1, last := 5 } : Frame), .engine 15, 5, [0, 0], false⟩] })] }, 7, 15, ⟨({ base := 5, quality := 0, epoch := 7, chip := 3, stream := 7, level := 3, seq := 9, flushed := false, gap := false, comp := true, payload := [0, 0], stored := [w32 0xF5], records := 1, last := 5 } : Frame), .engine 15, 5, [0, 0], false⟩, [], { on := true, beryl := [⟨({ base := 5, quality := 0, epoch := 7, chip := 3, stream := 7, level := 3, seq := 9, flushed := false, gap := false, comp := true, payload := [0, 0], stored := [w32 0xF5], records := 1, last := 5 } : Frame), .engine 15, 5, [0, 0], false⟩] }, by dsimp only [State.Inv, Dict.wf, Net.wf]; decide +kernel⟩,
   ⟨withPars [(Ix.streamOutlets, 7, 4), (Ix.histSize, 7, 16)] { dev with stream := [(7, { on := true, beryl := [⟨({ base := 5, quality := 0, epoch := 7, chip := 3, stream := 7, level := 3, seq := 9, flushed := false, gap := false, comp := true, payload := [0, 0], stored := [w32 0xF5], records := 1, last := 5 } : Frame), .ready, 5, [], false⟩] })] }, 7, ⟨({ base := 5, quality := 0, epoch := 7, chip := 3, stream := 7, level := 3, seq := 9, flushed := false, gap := false, comp := true, payload := [0, 0], stored := [w32 0xF5], records := 1, last := 5 } : Frame), .ready, 5, [], false⟩, [], by dsimp only [State.Inv, Dict.wf, Net.wf]; decide +kernel⟩,
   ⟨{ dev with stream := [(7, { on := true, beryl := [⟨({ base := 5, quality := 0, epoch := 7, chip := 3, stream := 7, level := 3, seq := 9, flushed := false, gap := false, comp := true, payload := [0, 0], stored := [w32 0xF5], records := 1, last := 5 } : Frame), .ready, 5, [], false⟩], head := List.replicate 128 { ({ base := 5, quality := 0, epoch := 7, chip := 3, stream := 7, level := 3, seq := 9, flushed := false, gap := false, comp := true, payload := [0, 0], stored := [w32 0xF5], records := 1, last := 5 } : Frame) with stored := List.replicate 1024 0 } })] }, 7, ⟨({ base := 5, quality := 0, epoch := 7, chip := 3, stream := 7, level := 3, seq := 9, flushed := false, gap := false, comp := true, payload := [0, 0], stored := [w32 0xF5], records := 1, last := 5 } : Frame), .ready, 5, [], false⟩, [], by dsimp only [State.Inv, Dict.wf, Net.wf]; decide +kernel⟩,
   ⟨withPars [(Ix.streamOutlets, 7, 1)] { dev with stream := [(7, { on := true, head := [({ base := 5, quality := 0, epoch := 7, chip := 3, stream := 7, level := 3, seq := 9, flushed := false, gap := false, comp := true, payload := [0, 0], stored := [w32 0xF5], records := 1, last := 5 } : Frame)] })] }, 7, ({ base := 5, quality := 0, epoch := 7, chip := 3, stream := 7, level := 3, seq := 9, flushed := false, gap := false, comp := true, payload := [0, 0], stored := [w32 0xF5], records := 1, last := 5 } : Frame), [], by dsimp only [State.Inv, Dict.wf, Net.wf]; decide +kernel⟩,
   ⟨withPars [(Ix.spanSize, 7, 16)] { dev with stream := [(7, { on := true, head := [({ base := 5, quality := 0, epoch := 7, chip := 3, stream := 7, level := 3, seq := 9, flushed := false, gap := false, comp := true, payload := [0, 0], stored := [w32 0xF5], records := 1, last := 5 } : Frame)], span := [.frame ({ base := 5, quality := 0, epoch := 7, chip := 3, stream := 7, level := 3, seq := 9, flushed := false, gap := false, comp := true, payload := [0, 0], stored := [w32 0xF5], records := 1, last := 5 } : Frame) (2 ^ 36 + 2 ^ 36) (2 ^ 36 + 2 ^ 36) 65536] })] }, 7, ({ base := 5, quality := 0, epoch := 7, chip := 3, stream := 7, level := 3, seq := 9, flushed := false, gap := false, comp := true, payload := [0, 0], stored := [w32 0xF5], records := 1, last := 5 } : Frame), [], by dsimp only [State.Inv, Dict.wf, Net.wf]; decide +kernel⟩,
   ⟨withPars [(Ix.streamOutlets, 7, 1)] { dev with mem := memWriteBytes [] (2 ^ 36 + 2 ^ 36) (({ base := 5, quality := 0, epoch := 7, chip := 3, stream := 7, level := 3, seq := 9, flushed := false, gap := false, comp := true, payload := [0, 0], stored := [w32 0xF5], records := 1, last := 5 } : Frame)).spanImage, stream := [(7, { on := true, span := [.frame ({ base := 5, quality := 0, epoch := 7, chip := 3, stream := 7, level := 3, seq := 9, flushed := false, gap := false, comp := true, payload := [0, 0], stored := [w32 0xF5], records := 1, last := 5 } : Frame) (2 ^ 36 + 2 ^ 36) (2 ^ 36 + 2 ^ 36) 65536] })] }, (2 ^ 36 + 2 ^ 36), (2 ^ 36 + 2 ^ 36), 65536, 7, ({ base := 5, quality := 0, epoch := 7, chip := 3, stream := 7, level := 3, seq := 9, flushed := false, gap := false, comp := true, payload := [0, 0], stored := [w32 0xF5], records := 1, last := 5 } : Frame), [], by dsimp only [State.Inv, Dict.wf, Net.wf]; decide +kernel⟩,
   ⟨withPars [(Ix.streamState, 7, 2)] dev, 0, 7, by dsimp only [State.Inv, Dict.wf, Net.wf]; decide +kernel⟩,
   ⟨State.reset, 7, by dsimp only [State.Inv, Dict.wf, Net.wf]; decide +kernel⟩⟩

theorem witness_Fetches :
    (∃ (s : State),
    s.Inv ∧ s.par Ix.fetchState 0 ≠ 1 ∧ s.par Ix.fetchRegion 0 < 8)
    ∧ (∃ (s : State),
    s.Inv ∧ s.par Ix.fetchState 0 ≠ 1 ∧ s.par Ix.fetchRegion 0 = 8 ∧ s.hostRegions.2 = false)
    ∧ (∃ (s : State),
    s.Inv ∧ s.par Ix.fetchState 0 = 1)
    ∧ (∃ (s : State),
    s.Inv ∧ s.par Ix.fetchState 0 = 1 ∧ s.fetch.ready = none)
    ∧ (∃ (s : State),
    s.Inv ∧ s.par Ix.fetchState 0 = 1 ∧ s.fetch.ready ≠ none)
    ∧ (∃ (s : State) (h : HistFrame) (n : Fin 8) (hd : FHead) (p : List Word),
    let a := s.par Ix.histBase n * 65536 + h.offset
    let runs : Prop := s.runs 2 = true ∧ s.runs 3 = true ∧ s.par Ix.memState 0 = 1 ∧ s.par Ix.fetchState 0 = 1
      ∧ s.fetch.ready = none ∧ s.fetch.ending = false ∧ s.fetch.started = true ∧ s.fetch.cursor = none
      ∧ s.par Ix.fetchRegion 0 = n.val
    let reads : Prop := runs ∧ (s.streamOf n).hist = [h] ∧ s.fetch.next = h.seq ∧ s.dram.bad = []
      ∧ headerOf (s.wordsAt a 8) = some hd ∧ hd.version = 2 ∧ hd.epoch = s.par Ix.fetchEpoch 0 ∧ hd.base < s.par Ix.fetchTEnd 0
    let payload := payloadOf hd ((s.wordsAt a (8 + hd.stored)).drop 8)
    s.Inv ∧ reads ∧ payload = .ok p)
    ∧ (∃ (s : State) (c : Nat) (pos : Nat) (h : HistFrame) (n : Fin 8) (hd : FHead),
    let a := s.par Ix.histBase n * 65536 + h.offset
    let runs : Prop := s.runs 2 = true ∧ s.runs 3 = true ∧ s.par Ix.memState 0 = 1 ∧ s.par Ix.fetchState 0 = 1
      ∧ s.fetch.ready = none ∧ s.fetch.ending = false ∧ s.fetch.started = true ∧ s.fetch.cursor = none
      ∧ s.par Ix.fetchRegion 0 = n.val
    let reads : Prop := runs ∧ (s.streamOf n).hist = [h] ∧ s.fetch.next = h.seq ∧ s.dram.bad = []
      ∧ headerOf (s.wordsAt a 8) = some hd ∧ hd.version = 2 ∧ hd.epoch = s.par Ix.fetchEpoch 0 ∧ hd.base < s.par Ix.fetchTEnd 0
    let payload := payloadOf hd ((s.wordsAt a (8 + hd.stored)).drop 8)
    s.Inv ∧ reads ∧ payload = .error (c, some pos))
    ∧ (∃ (s : State) (h : HistFrame) (n : Fin 8) (hd : FHead),
    let a := s.par Ix.histBase n * 65536 + h.offset
    let runs : Prop := s.runs 2 = true ∧ s.runs 3 = true ∧ s.par Ix.memState 0 = 1 ∧ s.par Ix.fetchState 0 = 1
      ∧ s.fetch.ready = none ∧ s.fetch.ending = false ∧ s.fetch.started = true ∧ s.fetch.cursor = none
      ∧ s.par Ix.fetchRegion 0 = n.val
    let reads : Prop := runs ∧ (s.streamOf n).hist = [h] ∧ s.fetch.next = h.seq ∧ s.dram.bad = []
      ∧ headerOf (s.wordsAt a 8) = some hd ∧ hd.version = 2 ∧ hd.epoch = s.par Ix.fetchEpoch 0 ∧ hd.base < s.par Ix.fetchTEnd 0
    s.Inv ∧ reads ∧ (hd.raw = hd.comp ∨ hd.raw = true ∧ hd.stored ≠ hd.count ∨ hd.comp = true ∧ (hd.level = 0 ∨ hd.count ≤ hd.stored) ∨ hd.count % 2 = 1 ∨ hd.count < 2))
    ∧ (∃ (s : State) (h : HistFrame) (n : Fin 8),
    let runs : Prop := s.runs 2 = true ∧ s.runs 3 = true ∧ s.par Ix.memState 0 = 1 ∧ s.par Ix.fetchState 0 = 1
      ∧ s.fetch.ready = none ∧ s.fetch.ending = false ∧ s.fetch.started = true ∧ s.fetch.cursor = none
      ∧ s.par Ix.fetchRegion 0 = n.val
    s.Inv ∧ runs ∧ (s.streamOf n).hist = [h] ∧ s.fetch.next < h.seq)
    ∧ (∃ (s : State) (n : Fin 8),
    let runs : Prop := s.runs 2 = true ∧ s.runs 3 = true ∧ s.par Ix.memState 0 = 1 ∧ s.par Ix.fetchState 0 = 1
      ∧ s.fetch.ready = none ∧ s.fetch.ending = false ∧ s.fetch.started = true ∧ s.fetch.cursor = none
      ∧ s.par Ix.fetchRegion 0 = n.val
    s.Inv ∧ runs ∧ (s.streamOf n).hist = []) :=
  ⟨⟨withPars [(Ix.fetchRegion, 0, 7)] dev, by dsimp only [State.Inv, Dict.wf, Net.wf]; decide +kernel⟩,
   ⟨withPars [(Ix.fetchRegion, 0, 8)] dev, by dsimp only [State.Inv, Dict.wf, Net.wf]; decide +kernel⟩,
   ⟨withPars [(Ix.fetchState, 0, 1)] dev, by dsimp only [State.Inv, Dict.wf, Net.wf]; decide +kernel⟩,
   ⟨withPars [(Ix.fetchState, 0, 1)] dev, by dsimp only [State.Inv, Dict.wf, Net.wf]; decide +kernel⟩,
   ⟨withPars [(Ix.fetchState, 0, 1)] { dev with fetch := { ready := some ({ base := 5, quality := 0, epoch := 7, chip := 3, stream := 7, level := 3, seq := 9, flushed := false, gap := false, comp := true, payload := [0, 0], stored := [w32 0xF5], records := 1, last := 5 } : Frame) } }, by dsimp only [State.Inv, Dict.wf, Net.wf]; decide +kernel⟩,
   ⟨withPars [(Ix.fetchState, 0, 1), (Ix.fetchRegion, 0, 7), (Ix.histBase, 7, 2 ^ 20), (Ix.fetchEpoch, 0, 7), (Ix.fetchTEnd, 0, 6)] { dev with fetch := { started := true, next := 9 }, mem := memWriteBytes [] (2 ^ 36 + 64) (bytesOfWords ({ ({ base := 5, quality := 0, epoch := 7, chip := 3, stream := 7, level := 3, seq := 9, flushed := false, gap := false, comp := true, payload := [0, 0], stored := [w32 0xF5], records := 1, last := 5 } : Frame) with comp := false, stored := [0, 0] }).words), stream := [(7, { hist := [⟨64, 9, 40, 7, 5⟩] })] }, ⟨64, 9, 40, 7, 5⟩, 7, ((headerOf ({ ({ base := 5, quality := 0, epoch := 7, chip := 3, stream := 7, level := 3, seq := 9, flushed := false, gap := false, comp := true, payload := [0, 0], stored := [w32 0xF5], records := 1, last := 5 } : Frame) with comp := false, stored := [0, 0] }).words).getD ⟨0, 0, 0, false, false, false, 0, 0, 0, 0, 0, 0, 0, 0⟩), [0, 0], by
    dsimp only [State.Inv, Dict.wf, Net.wf]
    exact ⟨by decide +kernel, by decide +kernel, eq_ok (by decide +kernel)⟩⟩,
   ⟨withPars [(Ix.fetchState, 0, 1), (Ix.fetchRegion, 0, 7), (Ix.histBase, 7, 2 ^ 20), (Ix.fetchEpoch, 0, 7), (Ix.fetchTEnd, 0, 6)] { dev with fetch := { started := true, next := 9 }, mem := memWriteBytes [] (2 ^ 36 + 64) (bytesOfWords (({ base := 5, quality := 0, epoch := 7, chip := 3, stream := 7, level := 3, seq := 9, flushed := false, gap := false, comp := true, payload := [0, 0], stored := [w32 0xF5], records := 1, last := 5 } : Frame)).words), stream := [(7, { hist := [⟨64, 9, 36, 7, 5⟩] })] }, 1, 0, ⟨64, 9, 36, 7, 5⟩, 7, ((headerOf (({ base := 5, quality := 0, epoch := 7, chip := 3, stream := 7, level := 3, seq := 9, flushed := false, gap := false, comp := true, payload := [0, 0], stored := [w32 0xF5], records := 1, last := 5 } : Frame)).words).getD ⟨0, 0, 0, false, false, false, 0, 0, 0, 0, 0, 0, 0, 0⟩), by
    dsimp only [State.Inv, Dict.wf, Net.wf]
    exact ⟨by decide +kernel, by decide +kernel, eq_error (by decide +kernel)⟩⟩,
   ⟨withPars [(Ix.fetchState, 0, 1), (Ix.fetchRegion, 0, 7), (Ix.histBase, 7, 2 ^ 20), (Ix.fetchEpoch, 0, 7), (Ix.fetchTEnd, 0, 6)] { dev with fetch := { started := true, next := 9 }, mem := memWriteBytes [] (2 ^ 36 + 64) (bytesOfWords ({ ({ base := 5, quality := 0, epoch := 7, chip := 3, stream := 7, level := 3, seq := 9, flushed := false, gap := false, comp := true, payload := [0, 0], stored := [w32 0xF5], records := 1, last := 5 } : Frame) with comp := true, level := 0 }).words), stream := [(7, { hist := [⟨64, 9, 36, 7, 5⟩] })] }, ⟨64, 9, 36, 7, 5⟩, 7, ((headerOf ({ ({ base := 5, quality := 0, epoch := 7, chip := 3, stream := 7, level := 3, seq := 9, flushed := false, gap := false, comp := true, payload := [0, 0], stored := [w32 0xF5], records := 1, last := 5 } : Frame) with comp := true, level := 0 }).words).getD ⟨0, 0, 0, false, false, false, 0, 0, 0, 0, 0, 0, 0, 0⟩), by dsimp only [State.Inv, Dict.wf, Net.wf]; decide +kernel⟩,
   ⟨withPars [(Ix.fetchState, 0, 1), (Ix.fetchRegion, 0, 7)] { dev with fetch := { started := true, next := 8 }, stream := [(7, { hist := [⟨64, 9, 36, 7, 5⟩] })] }, ⟨64, 9, 36, 7, 5⟩, 7, by dsimp only [State.Inv, Dict.wf, Net.wf]; decide +kernel⟩,
   ⟨withPars [(Ix.fetchState, 0, 1), (Ix.fetchRegion, 0, 7)] { dev with fetch := { started := true } }, 7, by dsimp only [State.Inv, Dict.wf, Net.wf]; decide +kernel⟩⟩

theorem witness_RefreshAndScrub :
    (∃ (s : State),
    s.Inv ∧ s.par Ix.memState 0 = 1)
    ∧ (∃ (s : State),
    let runs : Prop := s.runs 3 = true ∧ s.par Ix.memState 0 = 1 ∧ s.dram.bad = [] ∧ s.dram.scrubAt % 16 = 0
    let inside : Prop := runs ∧ s.dram.scrubAt + 16 < s.par Ix.memSize 0 * 65536
    s.Inv ∧ inside)
    ∧ (∃ (s : State),
    let runs : Prop := s.runs 3 = true ∧ s.par Ix.memState 0 = 1 ∧ s.dram.bad = [] ∧ s.dram.scrubAt % 16 = 0
    s.Inv ∧ runs ∧ s.par Ix.memSize 0 * 65536 ≤ s.dram.scrubAt + 16)
    ∧ (∃ (s : State) (e : CodeErr) (k : Nat) (ks : List Nat),
    let a := 0x1000000000 + s.dram.scrubAt
    let r := readCodeword (memBytes s.mem a 16) (pattern20 e.err)
    let runs : Prop := s.runs 3 = true ∧ s.par Ix.memState 0 = 1 ∧ s.dram.bad = [] ∧ s.dram.scrubAt % 16 = 0
    let inside : Prop := runs ∧ s.dram.scrubAt + 16 < s.par Ix.memSize 0 * 65536
    s.Inv ∧ inside ∧ e.addr = a ∧ r.fixed = some (k :: ks))
    ∧ (∃ (s : State) (e : CodeErr),
    let a := 0x1000000000 + s.dram.scrubAt
    let r := readCodeword (memBytes s.mem a 16) (pattern20 e.err)
    let runs : Prop := s.runs 3 = true ∧ s.par Ix.memState 0 = 1 ∧ s.dram.bad = [] ∧ s.dram.scrubAt % 16 = 0
    let inside : Prop := runs ∧ s.dram.scrubAt + 16 < s.par Ix.memSize 0 * 65536
    s.Inv ∧ inside ∧ e.addr = a ∧ r.fixed = none) :=
  ⟨⟨dev, by dsimp only [State.Inv, Dict.wf, Net.wf]; decide +kernel⟩,
   ⟨dev, by dsimp only [State.Inv, Dict.wf, Net.wf]; decide +kernel⟩,
   ⟨withPars [(Ix.memSize, 0, 1)] { dev with dram := { dev.dram with scrubAt := 65520 } }, by dsimp only [State.Inv, Dict.wf, Net.wf]; decide +kernel⟩,
   ⟨dev, ⟨0, 2 ^ 36, [7]⟩, 0, [], by dsimp only [State.Inv, Dict.wf, Net.wf]; decide +kernel⟩,
   ⟨dev, ⟨0, 2 ^ 36, [1, 2, 3, 4]⟩, by dsimp only [State.Inv, Dict.wf, Net.wf]; decide +kernel⟩⟩

theorem witness_TripleVotes :
    (∃ (s : State) (ix : Nat) (sub : Nat) (c0 : Nat) (c1 : Nat) (c2 : Nat) (p : Param),
    let field : Prop := paramAt ix sub = some p ∧ p.tmr = true ∧ (p.slow = true ∨ s.runs 2 = true)
    s.Inv ∧ field ∧ c0 = c1 ∧ c1 = c2 ∧ s.par ix sub = c0)
    ∧ (∃ (s : State) (ix : Nat) (sub : Nat) (c0 : Nat) (c1 : Nat) (c2 : Nat) (p : Param),
    let m := if c1 = c2 then c1 else c0
    let two : Prop := (c0 = c1 ∨ c1 = c2 ∨ c0 = c2) ∧ ¬ (c0 = c1 ∧ c1 = c2)
    let field : Prop := paramAt ix sub = some p ∧ p.tmr = true ∧ (p.slow = true ∨ s.runs 2 = true)
    s.Inv ∧ field ∧ two ∧ s.par ix sub = m)
    ∧ (∃ (s : State) (c0 : Nat) (c1 : Nat) (c2 : Nat),
    let two : Prop := (c0 = c1 ∨ c1 = c2 ∨ c0 = c2) ∧ ¬ (c0 = c1 ∧ c1 = c2)
    s.Inv ∧ s.runs 2 = true ∧ two)
    ∧ (∃ (s : State) (c0 : Nat) (c1 : Nat) (c2 : Nat),
    let differ : Prop := s.runs 2 = true ∧ c0 ≠ c1 ∧ c1 ≠ c2 ∧ c0 ≠ c2
    s.Inv ∧ differ)
    ∧ (∃ (s : State) (c0 : Nat) (c1 : Nat) (c2 : Nat),
    let differ : Prop := s.runs 2 = true ∧ c0 ≠ c1 ∧ c1 ≠ c2 ∧ c0 ≠ c2
    s.Inv ∧ differ)
    ∧ (∃ (s : State) (c0 : Nat) (c1 : Nat) (c2 : Nat),
    let differ : Prop := s.runs 2 = true ∧ c0 ≠ c1 ∧ c1 ≠ c2 ∧ c0 ≠ c2
    s.Inv ∧ differ) :=
  ⟨⟨withPars [(Ix.laneRole, 191, 1)] dev, Ix.laneRole, 191, 1, 1, 1, prm Ix.laneRole 191, by dsimp only [State.Inv, Dict.wf, Net.wf]; decide +kernel⟩,
   ⟨withPars [(Ix.laneRole, 191, 2)] dev, Ix.laneRole, 191, 1, 2, 2, prm Ix.laneRole 191, by dsimp only [State.Inv, Dict.wf, Net.wf]; decide +kernel⟩,
   ⟨dev, 0, 1, 1, by dsimp only [State.Inv, Dict.wf, Net.wf]; decide +kernel⟩,
   ⟨dev, 0, 1, 2, by dsimp only [State.Inv, Dict.wf, Net.wf]; decide +kernel⟩,
   ⟨dev, 0, 1, 2, by dsimp only [State.Inv, Dict.wf, Net.wf]; decide +kernel⟩,
   ⟨dev, 0, 1, 2, by dsimp only [State.Inv, Dict.wf, Net.wf]; decide +kernel⟩⟩

theorem witness_ConfigEffects :
    (∃ (s : State) (t : Nat) (e : Nat) (v : Nat),
    let s1 := s.enter t
    let runs : Prop := 8 < s.par Ix.startStep 0 ∧ e ≤ s1.now
    s.Inv ∧ runs ∧ s.cw.queue = [⟨e, Ix.cwHorizon, 0, v⟩] ∧ v ≠ s.par Ix.cwHorizon 0 ∧ s.tpll = true ∧ 2 ≤ s.par Ix.pwrState 0)
    ∧ (∃ (s : State) (t : Nat) (e : Nat) (l : Fin 192),
    let s1 := s.enter t
    let runs : Prop := 8 < s.par Ix.startStep 0 ∧ e ≤ s1.now
    let pier := l.val / 8
    let on := s.pierOn pier
    let route := s.routeCheck pier { on with lanes := on.lanes ++ [l.val] }
    s.Inv ∧ runs ∧ s.cw.queue = [⟨e, Ix.laneEnable, l, 1⟩] ∧ s.par Ix.laneEnable l = 0 ∧ s.awake pier = true ∧ route = none)
    ∧ (∃ (s : State) (t : Nat) (e : Nat) (l : Fin 192) (f : Nat × Nat × Nat),
    let s1 := s.enter t
    let runs : Prop := 8 < s.par Ix.startStep 0 ∧ e ≤ s1.now
    let pier := l.val / 8
    let on := s.pierOn pier
    let route := s.routeCheck pier { on with lanes := on.lanes ++ [l.val] }
    s.Inv ∧ runs ∧ s.cw.queue = [⟨e, Ix.laneEnable, l, 1⟩] ∧ s.par Ix.laneEnable l = 0 ∧ route = some f)
    ∧ (∃ (s : State) (t : Nat) (e : Nat) (n : Fin 8),
    let s1 := s.enter t
    let runs : Prop := 8 < s.par Ix.startStep 0 ∧ e ≤ s1.now
    s.Inv ∧ runs ∧ s.cw.queue = [⟨e, Ix.streamEnable, n, 1⟩] ∧ s.par Ix.streamEnable n = 0 ∧ (s.streamRegions n).2 = true)
    ∧ (∃ (s : State) (t : Nat) (e : Nat) (n : Fin 8),
    let s1 := s.enter t
    let runs : Prop := 8 < s.par Ix.startStep 0 ∧ e ≤ s1.now
    s.Inv ∧ runs ∧ s.cw.queue = [⟨e, Ix.streamEnable, n, 1⟩] ∧ s.par Ix.streamEnable n = 0 ∧ (s.streamRegions n).2 = false)
    ∧ (∃ (s : State) (t : Nat) (e : Nat) (k : Fin 4),
    let s1 := s.enter t
    let runs : Prop := 8 < s.par Ix.startStep 0 ∧ e ≤ s1.now
    s.Inv ∧ runs ∧ s.cw.queue = [⟨e, Ix.keyEnable, k, 1⟩] ∧ s.par Ix.keyEnable k = 0)
    ∧ (∃ (s : State) (t : Nat),
    let s1 := s.enter t
    s.Inv ∧ ((s.cw.queue.all fun c => decide (s1.now < c.eff)) = true ∨ s.par Ix.startStep 0 ≤ 8)) :=
  ⟨⟨{ dev with cw := { queue := [⟨T0, Ix.cwHorizon, 0, 64⟩] } }, T0, T0, 64, by dsimp only [State.Inv, Dict.wf, Net.wf]; decide +kernel⟩,
   ⟨{ (withPars [(Ix.laneRole, 191, 1)] dev) with cw := { queue := [⟨T0, Ix.laneEnable, 191, 1⟩] } }, T0, T0, 191, by dsimp only [State.Inv, Dict.wf, Net.wf]; decide +kernel⟩,
   ⟨{ (withPars [(Ix.laneRole, 191, 2), (Ix.laneInPos, 191, 20)] dev) with cw := { queue := [⟨T0, Ix.laneEnable, 191, 1⟩] } }, T0, T0, 191, (3, 20, 191), by dsimp only [State.Inv, Dict.wf, Net.wf]; decide +kernel⟩,
   ⟨{ (withPars [(Ix.spanBase, 7, 2 ^ 20), (Ix.spanSize, 7, 16)] dev) with cw := { queue := [⟨T0, Ix.streamEnable, 7, 1⟩] } }, T0, T0, 7, by dsimp only [State.Inv, Dict.wf, Net.wf]; decide +kernel⟩,
   ⟨{ (withPars [(Ix.spanSize, 7, 1)] dev) with cw := { queue := [⟨T0, Ix.streamEnable, 7, 1⟩] } }, T0, T0, 7, by dsimp only [State.Inv, Dict.wf, Net.wf]; decide +kernel⟩,
   ⟨{ dev with cw := { queue := [⟨T0, Ix.keyEnable, 3, 1⟩] } }, T0, T0, 3, by dsimp only [State.Inv, Dict.wf, Net.wf]; decide +kernel⟩,
   ⟨State.reset, T0, by dsimp only [State.Inv, Dict.wf, Net.wf]; decide +kernel⟩⟩

theorem witness_SnapshotsAndSlowWrites :
    (∃ (s : State),
    s.Inv ∧ s.ds.snapAt = none)
    ∧ (∃ (s : State) (a : Nat),
    s.Inv ∧ s.ds.snapAt = some a)
    ∧ (∃ (s : State) (t : Nat) (a : Nat),
    let s1 := s.enter t
    s.Inv ∧ s.ds.snapAt = some a ∧ a ≤ s1.now)
    ∧ (∃ (s : State) (v : Nat),
    s.Inv ∧ s.ds.slow = [(Ix.pwrWakeEnable, 0, v)] ∧ v ≤ 7)
    ∧ (∃ (s : State) (v : Nat),
    s.Inv ∧ s.ds.slow = [(Ix.pwrWakeEnable, 0, v)] ∧ 7 < v) :=
  ⟨⟨dev, by dsimp only [State.Inv, Dict.wf, Net.wf]; decide +kernel⟩,
   ⟨{ dev with ds := { snapAt := some T0 } }, T0, by dsimp only [State.Inv, Dict.wf, Net.wf]; decide +kernel⟩,
   ⟨{ dev with ds := { snapAt := some T0 } }, T0, T0, by dsimp only [State.Inv, Dict.wf, Net.wf]; decide +kernel⟩,
   ⟨{ dev with ds := { slow := [(Ix.pwrWakeEnable, 0, 7)] } }, 7, by dsimp only [State.Inv, Dict.wf, Net.wf]; decide +kernel⟩,
   ⟨{ dev with ds := { slow := [(Ix.pwrWakeEnable, 0, 8)] } }, 8, by dsimp only [State.Inv, Dict.wf, Net.wf]; decide +kernel⟩⟩

theorem witness_RegisterWrites :
    (∃ (s : State) (t : Nat) (ix : Fin 65536) (sub : Fin 256) (p : Param) (w : Word) (busy : Bool),
    let s1 := s.enter t
    let takes : Prop := s.mayReceive = true ∧ s.memSpace = true ∧ s.d3hot = false
    let slot : Prop := 0x1000 ≤ ix.val ∧ ix.val < 0xF000 ∧ paramAt ix sub = some p ∧ p.ty.words = 1 ∧ p.ty ≠ .string ∧ p.ty ≠ .domain
      ∧ p.danger = false
    let plain : Prop := slot ∧ p.acc = .rw ∧ s1.slowWrite p ix sub = false ∧ ix.val ≠ Ix.dictView
    let v := p.fit w.toNat
    s.Inv ∧ takes ∧ s.domainGood 2 = true ∧ plain ∧ s1.writeFails p ix sub v busy = none ∧ s1.valueEffect ix sub v busy = none)
    ∧ (∃ (s : State) (t : Nat) (ix : Fin 65536) (sub : Fin 256) (p : Param) (w : Word) (busy : Bool),
    let s1 := s.enter t
    let takes : Prop := s.mayReceive = true ∧ s.memSpace = true ∧ s.d3hot = false
    let slot : Prop := 0x1000 ≤ ix.val ∧ ix.val < 0xF000 ∧ paramAt ix sub = some p ∧ p.ty.words = 1 ∧ p.ty ≠ .string ∧ p.ty ≠ .domain
      ∧ p.danger = false
    let plain : Prop := slot ∧ p.acc = .rw ∧ s1.slowWrite p ix sub = false ∧ ix.val ≠ Ix.dictView
    let v := p.fit w.toNat
    s.Inv ∧ takes ∧ s.domainGood 2 = true ∧ plain ∧ s1.writeFails p ix sub v busy = some .outOfRange)
    ∧ (∃ (s : State) (t : Nat) (ix : Fin 65536) (sub : Fin 256) (p : Param) (w : Word) (busy : Bool),
    let s1 := s.enter t
    let takes : Prop := s.mayReceive = true ∧ s.memSpace = true ∧ s.d3hot = false
    let slot : Prop := 0x1000 ≤ ix.val ∧ ix.val < 0xF000 ∧ paramAt ix sub = some p ∧ p.ty.words = 1 ∧ p.ty ≠ .string ∧ p.ty ≠ .domain
      ∧ p.danger = false
    let plain : Prop := slot ∧ p.acc = .rw ∧ s1.slowWrite p ix sub = false ∧ ix.val ≠ Ix.dictView
    s.Inv ∧ takes ∧ s.domainGood 2 = true ∧ plain ∧ s1.staged = [] ∧ s1.ds.slow = [] ∧ s1.derivedA ix sub = none ∧ s1.derivedB ix sub = none ∧ s1.writeFails p ix sub (p.fit (s.par ix sub ||| w.toNat)) busy = none ∧ s1.valueEffect ix sub (p.fit (s.par ix sub ||| w.toNat)) busy = none)
    ∧ (∃ (s : State) (t : Nat) (ix : Fin 65536) (sub : Fin 256) (p : Param) (w : Word) (busy : Bool),
    let s1 := s.enter t
    let takes : Prop := s.mayReceive = true ∧ s.memSpace = true ∧ s.d3hot = false
    let e := (s1.now + 49151) / 16384 * 16384
    let slot : Prop := 0x1000 ≤ ix.val ∧ ix.val < 0xF000 ∧ paramAt ix sub = some p ∧ p.ty.words = 1 ∧ p.ty ≠ .string ∧ p.ty ≠ .domain
      ∧ p.danger = false
    let v := p.fit w.toNat
    s.Inv ∧ takes ∧ s.domainGood 2 = true ∧ slot ∧ p.acc = .rwl ∧ ix.val ≠ Ix.calOffsetUser ∧ ix.val ≠ Ix.calGainUser ∧ s1.writeFails p ix sub v busy = none ∧ atBoundary s.cw.queue e < 128)
    ∧ (∃ (s : State) (ix : Fin 65536) (sub : Fin 256) (p : Param),
    let takes : Prop := s.mayReceive = true ∧ s.memSpace = true ∧ s.d3hot = false
    let slot : Prop := 0x1000 ≤ ix.val ∧ ix.val < 0xF000 ∧ paramAt ix sub = some p ∧ p.ty.words = 1 ∧ p.ty ≠ .string ∧ p.ty ≠ .domain
      ∧ p.danger = false
    s.Inv ∧ takes ∧ s.domainGood 2 = true ∧ slot ∧ (p.acc = .ro ∨ p.acc = .st ∨ p.acc = .cntS ∨ p.acc = .cntW))
    ∧ (∃ (s : State),
    let takes : Prop := s.mayReceive = true ∧ s.memSpace = true ∧ s.d3hot = false
    s.Inv ∧ takes ∧ s.domainGood 2 = false) :=
  ⟨⟨port, 0, ⟨Ix.timePpsWidth, by decide⟩, 0, prm Ix.timePpsWidth 0, 1000, false, by dsimp only [State.Inv, Dict.wf, Net.wf]; decide +kernel⟩,
   ⟨port, 0, ⟨Ix.storeSaveInterval, by decide⟩, 0, prm Ix.storeSaveInterval 0, 59, false, by dsimp only [State.Inv, Dict.wf, Net.wf]; decide +kernel⟩,
   ⟨port, 0, ⟨Ix.timePpsWidth, by decide⟩, 0, prm Ix.timePpsWidth 0, 1, false, by dsimp only [State.Inv, Dict.wf, Net.wf]; decide +kernel⟩,
   ⟨port, 0, ⟨Ix.laneEnable, by decide⟩, 191, prm Ix.laneEnable 191, 1, false, by dsimp only [State.Inv, Dict.wf, Net.wf]; decide +kernel⟩,
   ⟨port, ⟨Ix.timeQuality, by decide⟩, 0, prm Ix.timeQuality 0, by dsimp only [State.Inv, Dict.wf, Net.wf]; decide +kernel⟩,
   ⟨withPars [(Ix.clkDomainGood, 0, 0)] port, by dsimp only [State.Inv, Dict.wf, Net.wf]; decide +kernel⟩⟩

theorem witness_WideValues :
    (∃ (s : State),
    let takes : Prop := s.mayReceive = true ∧ s.memSpace = true ∧ s.d3hot = false ∧ s.domainGood 2 = true
    s.Inv ∧ takes)
    ∧ (∃ (s : State) (t : Nat),
    let s1 := s.enter t
    let takes : Prop := s.mayReceive = true ∧ s.memSpace = true ∧ s.d3hot = false ∧ s.domainGood 2 = true
    let ix := Ix.timeLoadValue
    s.Inv ∧ takes ∧ s.hostPath.writeTag = ix ∧ s.hostPath.writeMask = 3 ∧ s1.capturing = false)
    ∧ (∃ (s : State),
    let takes : Prop := s.mayReceive = true ∧ s.memSpace = true ∧ s.d3hot = false ∧ s.domainGood 2 = true
    let ix := Ix.timeLoadValue
    s.Inv ∧ takes ∧ s.hostPath.writeTag ≠ ix)
    ∧ (∃ (s : State),
    let takes : Prop := s.mayReceive = true ∧ s.memSpace = true ∧ s.d3hot = false ∧ s.domainGood 2 = true
    s.Inv ∧ takes ∧ s.portRunning = true)
    ∧ (∃ (s : State),
    let takes : Prop := s.mayReceive = true ∧ s.memSpace = true ∧ s.d3hot = false ∧ s.domainGood 2 = true
    s.Inv ∧ takes ∧ s.portRunning = true ∧ s.hostPath.readTag = Ix.timeNow) :=
  ⟨⟨port, by dsimp only [State.Inv, Dict.wf, Net.wf]; decide +kernel⟩,
   ⟨{ port with hostPath := { writeTag := Ix.timeLoadValue, writeMask := 3 } }, 0, by dsimp only [State.Inv, Dict.wf, Net.wf]; decide +kernel⟩,
   ⟨port, by dsimp only [State.Inv, Dict.wf, Net.wf]; decide +kernel⟩,
   ⟨port, by dsimp only [State.Inv, Dict.wf, Net.wf]; decide +kernel⟩,
   ⟨{ port with hostPath := { readTag := Ix.timeNow } }, by dsimp only [State.Inv, Dict.wf, Net.wf]; decide +kernel⟩⟩

theorem witness_PortResets :
    (∃ (s : State),
    s.Inv ∧ s.mayReceive = true ∧ s.par Ix.startStep 0 ≤ 7)
    ∧ (∃ (s : State) (dw : Fin 1024),
    s.Inv ∧ s.mayReceive = true ∧ 7 < s.par Ix.startStep 0 ∧ dw.val ≠ 25)
    ∧ (∃ (s : State),
    s.Inv ∧ s.mayReceive = true ∧ 7 < s.par Ix.startStep 0)
    ∧ (∃ (s : State),
    s.Inv ∧ s.host.perst = true)
    ∧ (∃ (s : State),
    s.Inv ∧ s.host.perst = false ∧ s.par Ix.pwrState 0 ≠ 0)
    ∧ (∃ (s : State),
    s.Inv ∧ s.mayReceive = true)
    ∧ (∃ (s : State),
    s.Inv ∧ s.par Ix.hostLinkState 0 ≠ 0)
    ∧ (∃ (s : State) (speed : Fin 7) (width : Fin 9),
    s.Inv ∧ s.host.perst = true ∧ s.domainGood 6 = true ∧ s.linkUp = false ∧ s.offers speed width = true) :=
  ⟨⟨withPars [(Ix.startStep, 0, 7)] port, by dsimp only [State.Inv, Dict.wf, Net.wf]; decide +kernel⟩,
   ⟨withPars [(Ix.startStep, 0, 8)] port, 1023, by dsimp only [State.Inv, Dict.wf, Net.wf]; decide +kernel⟩,
   ⟨withPars [(Ix.startStep, 0, 8)] port, by dsimp only [State.Inv, Dict.wf, Net.wf]; decide +kernel⟩,
   ⟨port, by dsimp only [State.Inv, Dict.wf, Net.wf]; decide +kernel⟩,
   ⟨{ port with host := { port.host with perst := false } }, by dsimp only [State.Inv, Dict.wf, Net.wf]; decide +kernel⟩,
   ⟨port, by dsimp only [State.Inv, Dict.wf, Net.wf]; decide +kernel⟩,
   ⟨port, by dsimp only [State.Inv, Dict.wf, Net.wf]; decide +kernel⟩,
   ⟨withPars [(Ix.hostLinkState, 0, 1)] port, 1, 8, by dsimp only [State.Inv, Dict.wf, Net.wf]; decide +kernel⟩⟩

theorem witness_PortErrors :
    (∃ (s : State) (er : PortError) (advisory : Bool),
    let kind := s.errorClass er advisory
    let hidden := decide (kind = 0) && !errorCorrectable er && bit (s.cfgWord 0x114) 13
    s.Inv ∧ s.host.perst = true ∧ hidden = false)
    ∧ (∃ (s : State) (er : PortError) (advisory : Bool),
    let kind := s.errorClass er advisory
    let hidden := decide (kind = 0) && !errorCorrectable er && bit (s.cfgWord 0x114) 13
    s.Inv ∧ s.host.perst = true ∧ hidden = false)
    ∧ (∃ (s : State) (er : PortError) (advisory : Bool),
    let kind := s.errorClass er advisory
    let hidden := decide (kind = 0) && !errorCorrectable er && bit (s.cfgWord 0x114) 13
    let fep := s.cfgWord 0x118 % 32
    let held := decide (fep ≠ 0) && bit (s.cfgWord 0x104) fep
    s.Inv ∧ s.host.perst = true ∧ hidden = true ∧ held = false)
    ∧ (∃ (s : State),
    let fep := s.cfgWord 0x118 % 32
    let held := decide (fep ≠ 0) && bit (s.cfgWord 0x104) fep
    s.Inv ∧ s.host.perst = true ∧ held = false)
    ∧ (∃ (s : State),
    let fep := s.cfgWord 0x118 % 32
    let held := decide (fep ≠ 0) && bit (s.cfgWord 0x104) fep
    s.Inv ∧ s.host.perst = true ∧ held = false)
    ∧ (∃ (s : State) (er : PortError) (advisory : Bool),
    let kind := s.errorClass er advisory
    let hidden := decide (kind = 0) && !errorCorrectable er && bit (s.cfgWord 0x114) 13
    let fep := s.cfgWord 0x118 % 32
    let held := decide (fep ≠ 0) && bit (s.cfgWord 0x104) fep
    let logs := !errorCorrectable er && !bit (s.cfgWord 0x108) (errorBit er)
    s.Inv ∧ s.host.perst = true ∧ hidden = false ∧ held = false ∧ logs = true)
    ∧ (∃ (s : State) (er : PortError),
    let fep := s.cfgWord 0x118 % 32
    let held := decide (fep ≠ 0) && bit (s.cfgWord 0x104) fep
    let logs := !errorCorrectable er && !bit (s.cfgWord 0x108) (errorBit er)
    s.Inv ∧ s.host.perst = true ∧ held = true ∧ logs = true)
    ∧ (∃ (s : State),
    let takes : Prop := s.mayReceive = true ∧ s.memSpace = true ∧ s.d3hot = false ∧ s.domainGood 2 = true
      ∧ s.par Ix.hostPortState 0 = 1
    s.Inv ∧ takes)
    ∧ (∃ (s : State),
    let takes : Prop := s.mayReceive = true ∧ s.memSpace = true ∧ s.d3hot = false ∧ s.domainGood 2 = true
      ∧ s.par Ix.hostPortState 0 = 1
    s.Inv ∧ takes) :=
  ⟨⟨port, .unsupported, false, by dsimp only [State.Inv, Dict.wf, Net.wf]; decide +kernel⟩,
   ⟨port, .badDllp, false, by dsimp only [State.Inv, Dict.wf, Net.wf]; decide +kernel⟩,
   ⟨port, .unsupported, true, by dsimp only [State.Inv, Dict.wf, Net.wf]; decide +kernel⟩,
   ⟨port, by dsimp only [State.Inv, Dict.wf, Net.wf]; decide +kernel⟩,
   ⟨port, by dsimp only [State.Inv, Dict.wf, Net.wf]; decide +kernel⟩,
   ⟨port, .unsupported, false, by dsimp only [State.Inv, Dict.wf, Net.wf]; decide +kernel⟩,
   ⟨{ port with host := { port.host with cfg := tset (tset port.host.cfg 0x104 (2 ^ 20)) 0x118 20 } }, .unsupported, by dsimp only [State.Inv, Dict.wf, Net.wf]; decide +kernel⟩,
   ⟨withPars [(Ix.hostPortState, 0, 1)] port, by dsimp only [State.Inv, Dict.wf, Net.wf]; decide +kernel⟩,
   ⟨withPars [(Ix.hostPortState, 0, 1)] port, by dsimp only [State.Inv, Dict.wf, Net.wf]; decide +kernel⟩⟩

theorem witness_RingControl :
    (∃ (s : State) (n : Fin 9),
    let takes : Prop := s.mayReceive = true ∧ s.memSpace = true ∧ s.d3hot = false ∧ s.domainGood 2 = true
    let r := s.ringOf n
    s.Inv ∧ takes ∧ 4 ≤ r.sizeLog2 ∧ r.sizeLog2 ≤ 16)
    ∧ (∃ (s : State) (n : Fin 9),
    let takes : Prop := s.mayReceive = true ∧ s.memSpace = true ∧ s.d3hot = false ∧ s.domainGood 2 = true
    let r := s.ringOf n
    s.Inv ∧ takes ∧ 4 ≤ r.sizeLog2 ∧ r.sizeLog2 ≤ 16)
    ∧ (∃ (s : State) (n : Fin 9),
    let takes : Prop := s.mayReceive = true ∧ s.memSpace = true ∧ s.d3hot = false ∧ s.domainGood 2 = true
    let r := s.ringOf n
    s.Inv ∧ takes ∧ (r.sizeLog2 < 4 ∨ 16 < r.sizeLog2))
    ∧ (∃ (s : State) (n : Fin 9),
    let takes : Prop := s.mayReceive = true ∧ s.memSpace = true ∧ s.d3hot = false ∧ s.domainGood 2 = true
    let r := s.ringOf n
    s.Inv ∧ takes ∧ (r.sizeLog2 < 4 ∨ 16 < r.sizeLog2))
    ∧ (∃ (s : State) (n : Fin 9),
    let takes : Prop := s.mayReceive = true ∧ s.memSpace = true ∧ s.d3hot = false ∧ s.domainGood 2 = true
    let r := s.ringOf n
    s.Inv ∧ takes ∧ r.enable = true)
    ∧ (∃ (s : State) (n : Fin 9) (v : Word),
    let takes : Prop := s.mayReceive = true ∧ s.memSpace = true ∧ s.d3hot = false ∧ s.domainGood 2 = true
    let r := s.ringOf n
    let gap (a b : Nat) : Nat := (a + 4294967296 - b % 4294967296) % 4294967296
    let ptrOk : Prop := r.enable = true ∧ gap v.toNat r.devPtr ≤ 2 ^ r.sizeLog2 ∧ gap r.hostPtr r.devPtr ≤ gap v.toNat r.devPtr
    s.Inv ∧ takes ∧ ptrOk)
    ∧ (∃ (s : State) (n : Fin 9) (v : Word),
    let takes : Prop := s.mayReceive = true ∧ s.memSpace = true ∧ s.d3hot = false ∧ s.domainGood 2 = true
    let r := s.ringOf n
    let gap (a b : Nat) : Nat := (a + 4294967296 - b % 4294967296) % 4294967296
    let ptrOk : Prop := r.enable = true ∧ gap v.toNat r.devPtr ≤ 2 ^ r.sizeLog2 ∧ gap r.hostPtr r.devPtr ≤ gap v.toNat r.devPtr
    s.Inv ∧ takes ∧ ¬ ptrOk)
    ∧ (∃ (s : State) (n : Fin 9) (v : Word),
    let takes : Prop := s.mayReceive = true ∧ s.memSpace = true ∧ s.d3hot = false ∧ s.domainGood 2 = true
    let r := s.ringOf n
    let gap (a b : Nat) : Nat := (a + 4294967296 - b % 4294967296) % 4294967296
    let seenOk : Prop := r.enable = true ∧ gap r.devPtr v.toNat ≤ 2 ^ r.sizeLog2
    s.Inv ∧ takes ∧ seenOk)
    ∧ (∃ (s : State) (n : Fin 9) (v : Word),
    let takes : Prop := s.mayReceive = true ∧ s.memSpace = true ∧ s.d3hot = false ∧ s.domainGood 2 = true
    let r := s.ringOf n
    let gap (a b : Nat) : Nat := (a + 4294967296 - b % 4294967296) % 4294967296
    let seenOk : Prop := r.enable = true ∧ gap r.devPtr v.toNat ≤ 2 ^ r.sizeLog2
    s.Inv ∧ takes ∧ ¬ seenOk) :=
  ⟨⟨{ port with host := { port.host with rings := [(8, { sizeLog2 := 4 })] } }, 8, by dsimp only [State.Inv, Dict.wf, Net.wf]; decide +kernel⟩,
   ⟨{ port with host := { port.host with rings := [(8, { sizeLog2 := 16 })] } }, 8, by dsimp only [State.Inv, Dict.wf, Net.wf]; decide +kernel⟩,
   ⟨{ port with host := { port.host with rings := [(8, { sizeLog2 := 3 })] } }, 8, by dsimp only [State.Inv, Dict.wf, Net.wf]; decide +kernel⟩,
   ⟨{ port with host := { port.host with rings := [(8, { sizeLog2 := 17 })] } }, 8, by dsimp only [State.Inv, Dict.wf, Net.wf]; decide +kernel⟩,
   ⟨{ port with host := { port.host with rings := [(8, { enable := true, sizeLog2 := 4, base := 4096 })] } }, 8, by dsimp only [State.Inv, Dict.wf, Net.wf]; decide +kernel⟩,
   ⟨{ port with host := { port.host with rings := [(8, { enable := true, sizeLog2 := 4, base := 4096, devPtr := 4294967295, hostPtr := 0 })] } }, 8, 15, by dsimp only [State.Inv, Dict.wf, Net.wf]; decide +kernel⟩,
   ⟨{ port with host := { port.host with rings := [(8, { enable := true, sizeLog2 := 4, base := 4096, devPtr := 4294967295, hostPtr := 0 })] } }, 8, 16, by dsimp only [State.Inv, Dict.wf, Net.wf]; decide +kernel⟩,
   ⟨{ port with host := { port.host with rings := [(8, { enable := true, sizeLog2 := 4, base := 4096, devPtr := 15 })] } }, 8, 4294967295, by dsimp only [State.Inv, Dict.wf, Net.wf]; decide +kernel⟩,
   ⟨{ port with host := { port.host with rings := [(8, { enable := true, sizeLog2 := 4, base := 4096, devPtr := 15 })] } }, 8, 4294967294, by dsimp only [State.Inv, Dict.wf, Net.wf]; decide +kernel⟩⟩

theorem witness_DescriptorReads :
    (∃ (s : State) (want : Nat) (g : Nat) (n : Fin 9),
    let r := s.ringOf n
    let left := min 16 (diff32 r.hostPtr r.devPtr) - diff32 r.asked r.devPtr
    let at_ := r.base + 16 * (r.asked % 2 ^ r.sizeLog2)
    let k := min (min want left)
      (min (min (s.maxRead / 16) ((4096 - at_ % 4096) / 16)) (2 ^ r.sizeLog2 - r.asked % 2 ^ r.sizeLog2))
    s.Inv ∧ s.ringActs n = true ∧ r.again = [] ∧ k ≠ 0 ∧ s.freeTag = some g)
    ∧ (∃ (s : State) (want : Nat) (n : Fin 9),
    let r := s.ringOf n
    let left := min 16 (diff32 r.hostPtr r.devPtr) - diff32 r.asked r.devPtr
    let at_ := r.base + 16 * (r.asked % 2 ^ r.sizeLog2)
    let k := min (min want left)
      (min (min (s.maxRead / 16) ((4096 - at_ % 4096) / 16)) (2 ^ r.sizeLog2 - r.asked % 2 ^ r.sizeLog2))
    s.Inv ∧ s.ringActs n = true ∧ r.again = [] ∧ k ≠ 0 ∧ s.freeTag = none)
    ∧ (∃ (s : State) (tag : Nat) (q : ReadReq) (ws : List Word),
    let outstanding : Prop := s.host.perst = true ∧ tsorted s.host.reads = true ∧ tfind s.host.reads tag = some q
    s.Inv ∧ outstanding ∧ 4 * q.count ≤ q.got.length + ws.length ∧ q.live = true ∧ q.count = 1 ∧ tfind (s.ringOf q.ring).descs (s.ringOf q.ring).devPtr = none ∧ q.index ≠ (s.ringOf q.ring).devPtr ∨ descFault ((q.got ++ ws).take 4) = none)
    ∧ (∃ (s : State) (tag : Nat) (code : Nat) (q : ReadReq) (ws : List Word),
    let outstanding : Prop := s.host.perst = true ∧ tsorted s.host.reads = true ∧ tfind s.host.reads tag = some q
    s.Inv ∧ outstanding ∧ 4 * q.count ≤ q.got.length + ws.length ∧ q.live = true ∧ q.count = 1 ∧ s.ringActs q.ring = true ∧ q.index = (s.ringOf q.ring).devPtr ∧ q.index ≠ (s.ringOf q.ring).hostPtr ∧ descFault ((q.got ++ ws).take 4) = some code ∧ tfind (s.ringOf q.ring).descs ((q.index + 1) % 2 ^ 32) = none)
    ∧ (∃ (s : State) (tag : Nat) (code : Nat) (q : ReadReq) (ws : List Word),
    let outstanding : Prop := s.host.perst = true ∧ tsorted s.host.reads = true ∧ tfind s.host.reads tag = some q
    s.Inv ∧ outstanding ∧ 4 * q.count ≤ q.got.length + ws.length ∧ q.live = true ∧ q.count = 1 ∧ s.ringActs q.ring = true ∧ q.index = (s.ringOf q.ring).devPtr ∧ q.index ≠ (s.ringOf q.ring).hostPtr ∧ descFault ((q.got ++ ws).take 4) = some code ∧ tfind (s.ringOf q.ring).descs ((q.index + 1) % 2 ^ 32) = none)
    ∧ (∃ (s : State) (tag : Nat) (q : ReadReq) (ws : List Word),
    let outstanding : Prop := s.host.perst = true ∧ tsorted s.host.reads = true ∧ tfind s.host.reads tag = some q
    s.Inv ∧ outstanding ∧ q.got.length + ws.length < 4 * q.count)
    ∧ (∃ (s : State) (tag : Nat) (a : Nat),
    s.Inv ∧ s.host.perst = true ∧ tfind s.host.reads tag = none ∧ tfind s.host.quarantine tag = some a)
    ∧ (∃ (s : State) (tag : Nat),
    s.Inv ∧ s.host.perst = true ∧ tfind s.host.reads tag = none ∧ tfind s.host.quarantine tag = none)
    ∧ (∃ (s : State) (tag : Nat) (q : ReadReq),
    let outstanding : Prop := s.host.perst = true ∧ tsorted s.host.reads = true ∧ tfind s.host.reads tag = some q
    s.Inv ∧ outstanding ∧ s.par Ix.hostFreezeMask 0 = 0)
    ∧ (∃ (s : State) (t : Nat) (tag : Nat) (q : ReadReq),
    let s1 := s.enter t
    let outstanding : Prop := s.host.perst = true ∧ tsorted s.host.reads = true ∧ tfind s.host.reads tag = some q
    s.Inv ∧ outstanding ∧ s.par Ix.hostFreezeMask 0 = 0 ∧ bit (s.cfgWord 0x98) 4 = false ∧ q.issued + s.cplTimeout * 95 / 100 ≤ s1.now)
    ∧ (∃ (s : State) (tag : Nat) (a : Nat),
    s.Inv ∧ s.host.quarantine = [(tag, a)]) :=
  ⟨⟨{ port with host := { port.host with rings := [(8, { enable := true, sizeLog2 := 4, base := 4096, hostPtr := 5 })] } }, 16, 0, 8, by dsimp only [State.Inv, Dict.wf, Net.wf]; decide +kernel⟩,
   ⟨withPars [(Ix.hostReadsMax, 0, 1)] { port with host := { port.host with rings := [(8, { enable := true, sizeLog2 := 4, base := 4096, hostPtr := 5 })], reads := [(3, ⟨8, 0, 1, 0, [], true⟩)] } }, 16, 8, by dsimp only [State.Inv, Dict.wf, Net.wf]; decide +kernel⟩,
   ⟨{ port with host := { port.host with rings := [(8, { enable := true, sizeLog2 := 4, base := 4096, hostPtr := 5 })], reads := [(3, ⟨8, 0, 1, 0, [], true⟩)] } }, 3, ⟨8, 0, 1, 0, [], true⟩, [4096, 0, 4160, 0], by dsimp only [State.Inv, Dict.wf, Net.wf]; decide +kernel⟩,
   ⟨{ port with host := { port.host with rings := [(8, { enable := true, sizeLog2 := 4, base := 4096, hostPtr := 5 })], reads := [(3, ⟨8, 0, 1, 0, [], true⟩)] } }, 3, 2, ⟨8, 0, 1, 0, [], true⟩, [4096, 0, 4159, 0], by dsimp only [State.Inv, Dict.wf, Net.wf]; decide +kernel⟩,
   ⟨{ port with host := { port.host with rings := [(8, { enable := true, sizeLog2 := 4, base := 4096, hostPtr := 5 })], reads := [(3, ⟨8, 0, 1, 0, [], true⟩)] } }, 3, 3, ⟨8, 0, 1, 0, [], true⟩, [4097, 0, 4160, 0], by dsimp only [State.Inv, Dict.wf, Net.wf]; decide +kernel⟩,
   ⟨{ port with host := { port.host with rings := [(8, { enable := true, sizeLog2 := 4, base := 4096, hostPtr := 5 })], reads := [(3, ⟨8, 0, 1, 0, [], true⟩)] } }, 3, ⟨8, 0, 1, 0, [], true⟩, [1, 2, 3], by dsimp only [State.Inv, Dict.wf, Net.wf]; decide +kernel⟩,
   ⟨{ port with host := { port.host with rings := [(8, { enable := true, sizeLog2 := 4, base := 4096 })], quarantine := [(3, T0)] } }, 3, T0, by dsimp only [State.Inv, Dict.wf, Net.wf]; decide +kernel⟩,
   ⟨{ port with host := { port.host with rings := [(8, { enable := true, sizeLog2 := 4, base := 4096 })] } }, 3, by dsimp only [State.Inv, Dict.wf, Net.wf]; decide +kernel⟩,
   ⟨withPars [(Ix.hostFreezeMask, 0, 0)] { port with host := { port.host with rings := [(8, { enable := true, sizeLog2 := 4, base := 4096, hostPtr := 5 })], reads := [(3, ⟨8, 0, 1, 0, [], true⟩)] } }, 3, ⟨8, 0, 1, 0, [], true⟩, by dsimp only [State.Inv, Dict.wf, Net.wf]; decide +kernel⟩,
   ⟨withPars [(Ix.hostFreezeMask, 0, 0)] { port with host := { port.host with rings := [(8, { enable := true, sizeLog2 := 4, base := 4096, hostPtr := 5 })], reads := [(3, ⟨8, 0, 1, 0, [], true⟩)] } }, T0, 3, ⟨8, 0, 1, 0, [], true⟩, by dsimp only [State.Inv, Dict.wf, Net.wf]; decide +kernel⟩,
   ⟨{ port with host := { port.host with rings := [(8, { enable := true, sizeLog2 := 4, base := 4096 })], quarantine := [(3, T0)] } }, 3, T0, by dsimp only [State.Inv, Dict.wf, Net.wf]; decide +kernel⟩⟩

theorem witness_FrameDelivery :
    (∃ (s : State) (n : Fin 9) (d : List Word) (f : Frame) (fs : List Frame),
    let r := s.ringOf n
    let acts : Prop := s.ringActs n = true ∧ r.owed = false
    let opened : Prop := acts ∧ r.devPtr ≠ r.hostPtr ∧ tfind r.descs r.devPtr = some d
    let plain : Prop := n.val < 8 ∨ (s.fetch.ending = false ∧ s.fetch.aborting = false)
    let len := (d.getD 2 0).toNat % 2 ^ 24
    s.Inv ∧ opened ∧ plain ∧ s.ringFrames n = f :: fs ∧ descFault d = none ∧ r.used + f.bytes ≤ len)
    ∧ (∃ (s : State) (n : Fin 9) (d : List Word) (f : Frame) (fs : List Frame),
    let r := s.ringOf n
    let acts : Prop := s.ringActs n = true ∧ r.owed = false
    let opened : Prop := acts ∧ r.devPtr ≠ r.hostPtr ∧ tfind r.descs r.devPtr = some d
    let plain : Prop := n.val < 8 ∨ (s.fetch.ending = false ∧ s.fetch.aborting = false)
    let len := (d.getD 2 0).toNat % 2 ^ 24
    s.Inv ∧ opened ∧ plain ∧ s.ringFrames n = f :: fs ∧ descFault d = none ∧ r.used + f.bytes ≤ len)
    ∧ (∃ (s : State) (n : Fin 9) (d : List Word) (f : Frame) (fs : List Frame),
    let r := s.ringOf n
    let next := (r.devPtr + 1) % 2 ^ 32
    let acts : Prop := s.ringActs n = true ∧ r.owed = false
    let opened : Prop := acts ∧ r.devPtr ≠ r.hostPtr ∧ tfind r.descs r.devPtr = some d
    let unread : Prop := tfind r.descs next = none
    let plain : Prop := n.val < 8 ∨ (s.fetch.ending = false ∧ s.fetch.aborting = false)
    let len := (d.getD 2 0).toNat % 2 ^ 24
    s.Inv ∧ opened ∧ unread ∧ plain ∧ s.ringFrames n = f :: fs ∧ descFault d = none ∧ len < r.used + f.bytes)
    ∧ (∃ (s : State) (code : Nat) (n : Fin 9) (d : List Word) (f : Frame) (fs : List Frame),
    let r := s.ringOf n
    let acts : Prop := s.ringActs n = true ∧ r.owed = false
    let opened : Prop := acts ∧ r.devPtr ≠ r.hostPtr ∧ tfind r.descs r.devPtr = some d
    s.Inv ∧ opened ∧ s.ringFrames n = f :: fs ∧ descFault d = some code)
    ∧ (∃ (s : State) (n : Fin 9) (d : List Word),
    let r := s.ringOf n
    let next := (r.devPtr + 1) % 2 ^ 32
    let acts : Prop := s.ringActs n = true ∧ r.owed = false
    let opened : Prop := acts ∧ r.devPtr ≠ r.hostPtr ∧ tfind r.descs r.devPtr = some d
    let unread : Prop := tfind r.descs next = none
    s.Inv ∧ opened ∧ unread ∧ n = 8 ∧ s.fetch.ending = true ∧ s.ringFrames n = [] ∧ descFault d = none)
    ∧ (∃ (s : State) (t : Nat) (n : Fin 9),
    let s1 := s.enter t
    let r := s.ringOf n
    let next := (r.devPtr + 1) % 2 ^ 32
    let acts : Prop := s.ringActs n = true ∧ r.owed = false
    let unread : Prop := tfind r.descs next = none
    let plain : Prop := n.val < 8 ∨ (s.fetch.ending = false ∧ s.fetch.aborting = false)
    s.Inv ∧ acts ∧ unread ∧ r.frames ≠ 0 ∧ r.idleClose ≠ 0 ∧ r.lastAt + r.idleClose * 256000 ≤ s1.now ∧ s.ringFrames n = [] ∧ plain) :=
  ⟨⟨withPars [(Ix.streamOutlets, 7, 1)] { port with host := { port.host with rings := [(7, { enable := true, sizeLog2 := 4, base := 4096, hostPtr := 9, devPtr := 5, descs := [(5, [4096, 0, 8192, 0])], wb := 65536 })] }, stream := [(7, { tail := [({ base := 5, quality := 0, epoch := 7, chip := 3, stream := 7, level := 3, seq := 9, flushed := false, gap := false, comp := true, payload := [0, 0], stored := [w32 0xF5], records := 1, last := 5 } : Frame)] })] }, 7, [4096, 0, 8192, 0], ({ base := 5, quality := 0, epoch := 7, chip := 3, stream := 7, level := 3, seq := 9, flushed := false, gap := false, comp := true, payload := [0, 0], stored := [w32 0xF5], records := 1, last := 5 } : Frame), [], by dsimp only [State.Inv, Dict.wf, Net.wf]; decide +kernel⟩,
   ⟨{ port with host := { port.host with rings := [(8, { enable := true, sizeLog2 := 4, base := 4096, hostPtr := 9, devPtr := 5, descs := [(5, [4096, 0, 8192, 0])], wb := 65536 })] }, fetch := { ready := some ({ base := 5, quality := 0, epoch := 7, chip := 3, stream := 7, level := 3, seq := 9, flushed := false, gap := false, comp := true, payload := [0, 0], stored := [w32 0xF5], records := 1, last := 5 } : Frame) } }, 8, [4096, 0, 8192, 0], ({ base := 5, quality := 0, epoch := 7, chip := 3, stream := 7, level := 3, seq := 9, flushed := false, gap := false, comp := true, payload := [0, 0], stored := [w32 0xF5], records := 1, last := 5 } : Frame), [], by dsimp only [State.Inv, Dict.wf, Net.wf]; decide +kernel⟩,
   ⟨withPars [(Ix.streamOutlets, 7, 1)] { port with host := { port.host with rings := [(7, { enable := true, sizeLog2 := 4, base := 4096, hostPtr := 9, devPtr := 5, descs := [(5, [4096, 0, 8192, 0])], wb := 65536, used := 8160, frames := 1 })] }, stream := [(7, { tail := [({ base := 5, quality := 0, epoch := 7, chip := 3, stream := 7, level := 3, seq := 9, flushed := false, gap := false, comp := true, payload := [0, 0], stored := [w32 0xF5], records := 1, last := 5 } : Frame), ({ base := 5, quality := 0, epoch := 7, chip := 3, stream := 7, level := 3, seq := 9, flushed := false, gap := false, comp := true, payload := [0, 0], stored := [w32 0xF5], records := 1, last := 5 } : Frame)] })] }, 7, [4096, 0, 8192, 0], ({ base := 5, quality := 0, epoch := 7, chip := 3, stream := 7, level := 3, seq := 9, flushed := false, gap := false, comp := true, payload := [0, 0], stored := [w32 0xF5], records := 1, last := 5 } : Frame), [], by dsimp only [State.Inv, Dict.wf, Net.wf]; decide +kernel⟩,
   ⟨withPars [(Ix.streamOutlets, 7, 1)] { port with host := { port.host with rings := [(7, { enable := true, sizeLog2 := 4, base := 4096, hostPtr := 9, devPtr := 5, descs := [(5, [4096, 0, 64, 0])], wb := 65536 })] }, stream := [(7, { tail := [({ base := 5, quality := 0, epoch := 7, chip := 3, stream := 7, level := 3, seq := 9, flushed := false, gap := false, comp := true, payload := [0, 0], stored := [w32 0xF5], records := 1, last := 5 } : Frame)] })] }, 2, 7, [4096, 0, 64, 0], ({ base := 5, quality := 0, epoch := 7, chip := 3, stream := 7, level := 3, seq := 9, flushed := false, gap := false, comp := true, payload := [0, 0], stored := [w32 0xF5], records := 1, last := 5 } : Frame), [], by dsimp only [State.Inv, Dict.wf, Net.wf]; decide +kernel⟩,
   ⟨{ port with host := { port.host with rings := [(8, { enable := true, sizeLog2 := 4, base := 4096, hostPtr := 9, devPtr := 5, descs := [(5, [4096, 0, 8192, 0])], wb := 65536 })] }, fetch := { ending := true } }, 8, [4096, 0, 8192, 0], by dsimp only [State.Inv, Dict.wf, Net.wf]; decide +kernel⟩,
   ⟨{ port with host := { port.host with rings := [(8, { enable := true, sizeLog2 := 4, base := 4096, hostPtr := 9, devPtr := 5, descs := [(5, [4096, 0, 8192, 0])], wb := 65536, frames := 1, used := 36, lastAt := T0 - 25600000 })] } }, T0, 8, by dsimp only [State.Inv, Dict.wf, Net.wf]; decide +kernel⟩⟩

theorem witness_Interrupts :
    (∃ (s : State) (t : Nat) (src : Fin 33),
    let s1 := s.enter t
    let x := s.par Ix.irqVector src % 64
    s.Inv ∧ s.irqMode = 3 ∧ s1.irqDue src = true ∧ s.masked x = false ∧ (src.val ≤ 8 ∨ 16 ≤ src.val))
    ∧ (∃ (s : State) (t : Nat) (src : Fin 33),
    let s1 := s.enter t
    let x := s.par Ix.irqVector src % 64
    s.Inv ∧ s.irqMode = 3 ∧ s1.irqDue src = true ∧ s.masked x = true)
    ∧ (∃ (s : State),
    s.Inv ∧ s.irqMode = 1 ∧ s.mayRequest = true ∧ irqSources.any s.irqPending = !s.host.inta)
    ∧ (∃ (s : State) (v : Fin 64),
    s.Inv ∧ s.mayReceive = true ∧ s.memSpace = true ∧ s.domainGood 2 = true ∧ s.mayRequest = true ∧ s.irqMode = 3 ∧ bit (s.cfgWord 0xB0) 30 = false ∧ bit s.host.pba v = true) :=
  ⟨⟨withPars [(Ix.irqVector, 8, 63)] { port with host := { port.host with cfg := tset port.host.cfg 0xB0 (2 ^ 31), rings := [(8, { devPtr := 6 })], msix := [(252, 64), (255, 0)] } }, 0, 8, by dsimp only [State.Inv, Dict.wf, Net.wf]; decide +kernel⟩,
   ⟨withPars [(Ix.irqVector, 8, 63)] { port with host := { port.host with cfg := tset port.host.cfg 0xB0 (2 ^ 31), rings := [(8, { devPtr := 6 })] } }, 0, 8, by dsimp only [State.Inv, Dict.wf, Net.wf]; decide +kernel⟩,
   ⟨{ port with host := { port.host with rings := [(8, { devPtr := 6 })] } }, by dsimp only [State.Inv, Dict.wf, Net.wf]; decide +kernel⟩,
   ⟨withPars [(Ix.irqVector, 8, 63)] { port with host := { port.host with cfg := tset port.host.cfg 0xB0 (2 ^ 31), rings := [(8, { devPtr := 6 })], pba := 2 ^ 63 } }, 63, by dsimp only [State.Inv, Dict.wf, Net.wf]; decide +kernel⟩⟩

theorem witness_WindowEnable :
    (∃ (s : State) (n : Fin 8),
    let z := s.par Ix.winSizeLog2 n
    let o := s.par (Ix.winOffset + n.val) 0
    let g := s.par (Ix.winTarget + n.val) 0
    let end_ := g + 2 ^ z
    let dram : Bool := decide (2 ^ 36 ≤ g) && decide (end_ ≤ 2 ^ 36 + s.par Ix.memSize 0 * 65536)
    let sram : Bool := decide (0x20000000 ≤ g) && decide (end_ ≤ 0x20000000 + 2 ^ 20)
    let laps : Bool := (List.range 8).any (fun m => decide (m ≠ n) && decide (s.par Ix.winState m ≠ 0)
      && decide (o < s.par (Ix.winOffset + m) 0 + 2 ^ s.par Ix.winSizeLog2 m) && decide (s.par (Ix.winOffset + m) 0 < o + 2 ^ z))
    let reason := if z < 12 ∨ 36 < z then 1 else if o % 2 ^ z ≠ 0 ∨ g % 4096 ≠ 0 then 2 else if !dram && !sram then 3
      else if laps then 4 else if 2 ^ 37 < o + 2 ^ z then 5 else 0
    s.Inv ∧ s.par Ix.winState n = 0 ∧ s.par Ix.winEnable n = 0 ∧ reason = 0)
    ∧ (∃ (s : State) (n : Fin 8),
    let z := s.par Ix.winSizeLog2 n
    let o := s.par (Ix.winOffset + n.val) 0
    let g := s.par (Ix.winTarget + n.val) 0
    let end_ := g + 2 ^ z
    let dram : Bool := decide (2 ^ 36 ≤ g) && decide (end_ ≤ 2 ^ 36 + s.par Ix.memSize 0 * 65536)
    let sram : Bool := decide (0x20000000 ≤ g) && decide (end_ ≤ 0x20000000 + 2 ^ 20)
    let laps : Bool := (List.range 8).any (fun m => decide (m ≠ n) && decide (s.par Ix.winState m ≠ 0)
      && decide (o < s.par (Ix.winOffset + m) 0 + 2 ^ s.par Ix.winSizeLog2 m) && decide (s.par (Ix.winOffset + m) 0 < o + 2 ^ z))
    let reason := if z < 12 ∨ 36 < z then 1 else if o % 2 ^ z ≠ 0 ∨ g % 4096 ≠ 0 then 2 else if !dram && !sram then 3
      else if laps then 4 else if 2 ^ 37 < o + 2 ^ z then 5 else 0
    s.Inv ∧ s.par Ix.winState n = 0 ∧ s.par Ix.winEnable n = 0 ∧ reason ≠ 0)
    ∧ (∃ (s : State) (n : Fin 8),
    let z := s.par Ix.winSizeLog2 n
    let o := s.par (Ix.winOffset + n.val) 0
    let g := s.par (Ix.winTarget + n.val) 0
    let end_ := g + 2 ^ z
    let dram : Bool := decide (2 ^ 36 ≤ g) && decide (end_ ≤ 2 ^ 36 + s.par Ix.memSize 0 * 65536)
    let sram : Bool := decide (0x20000000 ≤ g) && decide (end_ ≤ 0x20000000 + 2 ^ 20)
    let laps : Bool := (List.range 8).any (fun m => decide (m ≠ n) && decide (s.par Ix.winState m ≠ 0)
      && decide (o < s.par (Ix.winOffset + m) 0 + 2 ^ s.par Ix.winSizeLog2 m) && decide (s.par (Ix.winOffset + m) 0 < o + 2 ^ z))
    let reason := if z < 12 ∨ 36 < z then 1 else if o % 2 ^ z ≠ 0 ∨ g % 4096 ≠ 0 then 2 else if !dram && !sram then 3
      else if laps then 4 else if 2 ^ 37 < o + 2 ^ z then 5 else 0
    s.Inv ∧ s.par Ix.winState n = 0 ∧ s.par Ix.winEnable n = 0 ∧ reason ≠ 0) :=
  ⟨⟨withPars [(Ix.winSizeLog2, 7, 12), (Ix.winTarget + 7, 0, 0x20000000)] dev, 7, by dsimp only [State.Inv, Dict.wf, Net.wf]; decide +kernel⟩,
   ⟨withPars [(Ix.winSizeLog2, 7, 11), (Ix.winTarget + 7, 0, 0x20000000)] dev, 7, by dsimp only [State.Inv, Dict.wf, Net.wf]; decide +kernel⟩,
   ⟨withPars [(Ix.winSizeLog2, 7, 37), (Ix.winTarget + 7, 0, 0x20000000)] dev, 7, by dsimp only [State.Inv, Dict.wf, Net.wf]; decide +kernel⟩⟩

theorem witness_WindowAccess :
    (∃ (s : State) (n : Fin 8),
    s.Inv ∧ s.par Ix.winState n = 1)
    ∧ (∃ (s : State) (n : Fin 8),
    s.Inv ∧ s.par Ix.winState n = 2)
    ∧ (∃ (s : State) (a : Nat) (w : Fin 8),
    let takes : Prop := s.mayReceive = true ∧ s.memSpace = true ∧ s.d3hot = false
    let x := s.par (Ix.winTarget + w.val) 0 + (a - s.par (Ix.winOffset + w.val) 0)
    let reaches : Prop := takes ∧ s.windowAt a = some w.val
    s.Inv ∧ reaches ∧ s.portRunning = true ∧ s.targetRuns x = true ∧ s.dram.scratch = [])
    ∧ (∃ (s : State) (a : Nat),
    let takes : Prop := s.mayReceive = true ∧ s.memSpace = true ∧ s.d3hot = false
    s.Inv ∧ takes ∧ s.portRunning = true ∧ s.windowAt a = none)
    ∧ (∃ (s : State) (a : Nat),
    let takes : Prop := s.mayReceive = true ∧ s.memSpace = true ∧ s.d3hot = false
    s.Inv ∧ takes ∧ s.windowAt a = none)
    ∧ (∃ (s : State) (a : Nat) (w : Fin 8) (ws : List Word),
    let takes : Prop := s.mayReceive = true ∧ s.memSpace = true ∧ s.d3hot = false
    let x := s.par (Ix.winTarget + w.val) 0 + (a - s.par (Ix.winOffset + w.val) 0)
    let reaches : Prop := takes ∧ s.windowAt a = some w.val
    s.Inv ∧ reaches ∧ s.par Ix.winWrite w ≠ 0 ∧ s.writeBlocked x (x + 4 * ws.length) = false ∧ s.targetRuns x = true)
    ∧ (∃ (s : State) (a : Nat) (w : Fin 8) (ws : List Word),
    let takes : Prop := s.mayReceive = true ∧ s.memSpace = true ∧ s.d3hot = false
    let x := s.par (Ix.winTarget + w.val) 0 + (a - s.par (Ix.winOffset + w.val) 0)
    let reaches : Prop := takes ∧ s.windowAt a = some w.val
    s.Inv ∧ reaches ∧ (s.par Ix.winWrite w = 0 ∨ s.writeBlocked x (x + 4 * ws.length) = true)) :=
  ⟨⟨withPars [(Ix.winState, 7, 1), (Ix.winSizeLog2, 7, 12), (Ix.winTarget + 7, 0, 0x20000000), (Ix.winWrite, 7, 1)] port, 7, by dsimp only [State.Inv, Dict.wf, Net.wf]; decide +kernel⟩,
   ⟨withPars [(Ix.winState, 7, 2)] port, 7, by dsimp only [State.Inv, Dict.wf, Net.wf]; decide +kernel⟩,
   ⟨withPars [(Ix.winState, 7, 1), (Ix.winSizeLog2, 7, 12), (Ix.winTarget + 7, 0, 0x20000000), (Ix.winWrite, 7, 1)] port, 4092, 7, by dsimp only [State.Inv, Dict.wf, Net.wf]; decide +kernel⟩,
   ⟨withPars [(Ix.winState, 7, 1), (Ix.winSizeLog2, 7, 12), (Ix.winTarget + 7, 0, 0x20000000), (Ix.winWrite, 7, 1)] port, 4096, by dsimp only [State.Inv, Dict.wf, Net.wf]; decide +kernel⟩,
   ⟨withPars [(Ix.winState, 7, 1), (Ix.winSizeLog2, 7, 12), (Ix.winTarget + 7, 0, 0x20000000), (Ix.winWrite, 7, 1)] port, 4096, by dsimp only [State.Inv, Dict.wf, Net.wf]; decide +kernel⟩,
   ⟨withPars [(Ix.winState, 7, 1), (Ix.winSizeLog2, 7, 12), (Ix.winTarget + 7, 0, 0x20000000), (Ix.winWrite, 7, 1)] port, 4092, 7, [1], by dsimp only [State.Inv, Dict.wf, Net.wf]; decide +kernel⟩,
   ⟨withPars [(Ix.winState, 7, 1), (Ix.winSizeLog2, 7, 12), (Ix.winTarget + 7, 0, 0x20000000), (Ix.winWrite, 7, 0)] port, 4092, 7, [1], by dsimp only [State.Inv, Dict.wf, Net.wf]; decide +kernel⟩⟩

theorem witness_Ethernet :
    (∃ (s : State) (len : Nat) (port : Fin 2),
    let live : Prop := s.portUp port = true ∧ s.domainGood 5 = true
    s.Inv ∧ live ∧ 576 < len)
    ∧ (∃ (s : State) (len : Nat) (port : Fin 2),
    let live : Prop := s.portUp port = true ∧ s.domainGood 5 = true
    s.Inv ∧ live ∧ 64 ≤ len ∧ len ≤ 576 ∧ s.par Ix.netRingState 0 ≠ 1 ∧ s.canSend (1 - port.val) = true)
    ∧ (∃ (s : State) (len : Nat) (port : Fin 2),
    let live : Prop := s.portUp port = true ∧ s.domainGood 5 = true
    s.Inv ∧ live ∧ 64 ≤ len ∧ len ≤ 576 ∧ s.par Ix.netRingState 0 ≠ 1 ∧ s.canSend (1 - port.val) = true)
    ∧ (∃ (s : State) (len : Nat) (port : Fin 2),
    let live : Prop := s.portUp port = true ∧ s.domainGood 5 = true
    s.Inv ∧ live ∧ 64 ≤ len ∧ len ≤ 576)
    ∧ (∃ (s : State) (len : Nat) (port : Fin 2),
    let live : Prop := s.portUp port = true ∧ s.domainGood 5 = true
    s.Inv ∧ live ∧ 64 ≤ len ∧ len ≤ 576 ∧ port = 1 ∧ s.par Ix.netRingRole 0 = 1)
    ∧ (∃ (s : State),
    s.Inv ∧ s.par Ix.netRingRole 0 = 1 ∧ s.canSend 0 = true)
    ∧ (∃ (s : State) (t : Nat),
    let s1 := s.enter t
    s.Inv ∧ s.par Ix.netRingState 0 = 1 ∧ s.net.testSeen + 768000000 ≤ s1.now)
    ∧ (∃ (s : State) (port : Fin 2),
    s.Inv ∧ s.par Ix.netLink port = 1)
    ∧ (∃ (s : State) (port : Fin 2),
    s.Inv ∧ s.par Ix.netPortEnable port = 1 ∧ s.domainGood 5 = true)
    ∧ (∃ (s : State) (dst : Nat) (num : Nat) (w2 : Nat) (lo : Nat) (mid : Nat) (code : Nat) (origin : Nat) (port : Fin 2),
    let small : Prop := code < 65536 ∧ origin < 65536 ∧ num < 2 ^ 32 ∧ w2 < 2 ^ 32 ∧ lo < 2 ^ 32 ∧ mid < 2 ^ 32
    let heard : Prop := s.portUp port = true ∧ 7 < s.par Ix.startStep 0
    let mine : Prop := small ∧ s.par Ix.netMarkRxEnable 0 = 1 ∧ (dst = 65535 ∨ dst = s.par Ix.idChipNum 0)
      ∧ origin ≠ s.par Ix.idChipNum 0
    s.Inv ∧ heard ∧ mine ∧ s.tpll = true ∧ 2 ≤ s.par Ix.pwrState 0 ∧ (origin, num) ∉ s.net.marks)
    ∧ (∃ (s : State) (dst : Nat) (num : Nat) (w2 : Nat) (lo : Nat) (mid : Nat) (code : Nat) (origin : Nat) (port : Fin 2),
    let small : Prop := code < 65536 ∧ origin < 65536 ∧ num < 2 ^ 32 ∧ w2 < 2 ^ 32 ∧ lo < 2 ^ 32 ∧ mid < 2 ^ 32
    let heard : Prop := s.portUp port = true ∧ 7 < s.par Ix.startStep 0
    let mine : Prop := small ∧ s.par Ix.netMarkRxEnable 0 = 1 ∧ (dst = 65535 ∨ dst = s.par Ix.idChipNum 0)
      ∧ origin ≠ s.par Ix.idChipNum 0
    s.Inv ∧ heard ∧ mine ∧ (origin, num) ∈ s.net.marks)
    ∧ (∃ (s : State) (len : Nat) (port : Fin 2),
    let heard : Prop := s.portUp port = true ∧ 7 < s.par Ix.startStep 0
    s.Inv ∧ heard ∧ len ≠ 40) :=
  ⟨⟨dev, 577, 1, by dsimp only [State.Inv, Dict.wf, Net.wf]; decide +kernel⟩,
   ⟨dev, 64, 1, by dsimp only [State.Inv, Dict.wf, Net.wf]; decide +kernel⟩,
   ⟨dev, 576, 1, by dsimp only [State.Inv, Dict.wf, Net.wf]; decide +kernel⟩,
   ⟨dev, 576, 1, by dsimp only [State.Inv, Dict.wf, Net.wf]; decide +kernel⟩,
   ⟨withPars [(Ix.netRingRole, 0, 1)] dev, 64, 1, by dsimp only [State.Inv, Dict.wf, Net.wf]; decide +kernel⟩,
   ⟨withPars [(Ix.netRingRole, 0, 1)] dev, by dsimp only [State.Inv, Dict.wf, Net.wf]; decide +kernel⟩,
   ⟨withPars [(Ix.netRingState, 0, 1)] dev, 768000000 + T0, by dsimp only [State.Inv, Dict.wf, Net.wf]; decide +kernel⟩,
   ⟨dev, 1, by dsimp only [State.Inv, Dict.wf, Net.wf]; decide +kernel⟩,
   ⟨dev, 1, by dsimp only [State.Inv, Dict.wf, Net.wf]; decide +kernel⟩,
   ⟨withPars [(Ix.netMarkRxEnable, 0, 1)] dev, 65535, 9, 0, 0, 0, 7, 4, 1, by dsimp only [State.Inv, Dict.wf, Net.wf]; decide +kernel⟩,
   ⟨{ (withPars [(Ix.netMarkRxEnable, 0, 1)] dev) with net := { marks := [(4, 9)] } }, 65535, 9, 0, 0, 0, 7, 4, 1, by dsimp only [State.Inv, Dict.wf, Net.wf]; decide +kernel⟩,
   ⟨dev, 36, 1, by dsimp only [State.Inv, Dict.wf, Net.wf]; decide +kernel⟩⟩

theorem witness_Sessions :
    (∃ (s : State) (h : CdpHdr) (body : List Word),
    let open_ : Prop := body = [] ∧ h.session = 0 ∧ h.auth = false
    s.Inv ∧ s.hearsCdp h 1 body ∧ open_)
    ∧ (∃ (s : State) (h : CdpHdr) (body : List Word),
    let open_ : Prop := body = [] ∧ h.session = 0 ∧ h.auth = false
    s.Inv ∧ s.hearsCdp h 2 body ∧ open_ ∧ s.net.sessions.length < 16)
    ∧ (∃ (s : State) (h : CdpHdr) (body : List Word),
    let open_ : Prop := body = [] ∧ h.session = 0 ∧ h.auth = false
    s.Inv ∧ s.hearsCdp h 2 body ∧ open_ ∧ 16 ≤ s.net.sessions.length)
    ∧ (∃ (s : State) (h : CdpHdr) (body : List Word),
    s.Inv ∧ s.acceptsCdp h 3 body ∧ body.length = 34)
    ∧ (∃ (s : State) (h : CdpHdr) (body : List Word) (half : Nat × Nat),
    let x := s.sessionOf h.session
    s.Inv ∧ s.acceptsCdp h 3 body ∧ body.length = 25 ∧ x.half = some half ∧ tget [] s.nv.masterKeys half.1 ≠ [])
    ∧ (∃ (s : State) (h : CdpHdr) (body : List Word),
    let x := s.sessionOf h.session
    s.Inv ∧ s.acceptsCdp h 3 body ∧ body.length = 25 ∧ x.half = none)
    ∧ (∃ (s : State) (h : CdpHdr) (body : List Word),
    s.Inv ∧ s.acceptsCdp h 4 body ∧ body = [])
    ∧ (∃ (s : State) (t : Nat) (n : Nat),
    let s1 := s.enter t
    s.Inv ∧ (tfind s.net.sessions n).isSome = true ∧ (s.sessionOf n).at_ + s.par Ix.netSessionIdle 0 * 256000000000 ≤ s1.now)
    ∧ (∃ (s : State) (t : Nat) (n : Nat),
    let s1 := s.enter t
    s.Inv ∧ s1.now < (s.sessionOf n).at_ + s.par Ix.netSessionIdle 0 * 256000000000) :=
  ⟨⟨cdp 5 [], { hdr 0 with session := 0 }, [], by dsimp only [State.Inv, Dict.wf, Net.wf, State.hearsCdp]; decide +kernel⟩,
   ⟨{ dev with net := { sessions := (List.range 15).map (fun k => (k + 1, {})) }, nv := { running := true } }, { hdr 0 with session := 0 }, [], by dsimp only [State.Inv, Dict.wf, Net.wf, State.hearsCdp]; decide +kernel⟩,
   ⟨{ dev with net := { sessions := (List.range 16).map (fun k => (k + 1, {})) }, nv := { running := true } }, { hdr 0 with session := 0 }, [], by dsimp only [State.Inv, Dict.wf, Net.wf, State.hearsCdp]; decide +kernel⟩,
   ⟨cdp 5 [], hdr 34, List.replicate 34 0, by dsimp only [State.Inv, Dict.wf, Net.wf, State.hearsCdp, State.acceptsCdp]; decide +kernel⟩,
   ⟨{ dev with net := { sessions := [(5, { half := some (7, 9) })] }, nv := { running := true, masterKeys := [(7, [1])] } }, hdr 25, List.replicate 25 0, (7, 9), by dsimp only [State.Inv, Dict.wf, Net.wf, State.hearsCdp, State.acceptsCdp]; decide +kernel⟩,
   ⟨cdp 5 [], hdr 25, List.replicate 25 0, by dsimp only [State.Inv, Dict.wf, Net.wf, State.hearsCdp, State.acceptsCdp]; decide +kernel⟩,
   ⟨cdp 5 [], hdr 0, [], by dsimp only [State.Inv, Dict.wf, Net.wf, State.hearsCdp, State.acceptsCdp]; decide +kernel⟩,
   ⟨cdp 5 [], 10 ^ 15, 5, by dsimp only [State.Inv, Dict.wf, Net.wf]; decide +kernel⟩,
   ⟨withPars [(Ix.netSessionIdle, 0, 2001)] (cdp 5 []), T0, 5, by dsimp only [State.Inv, Dict.wf, Net.wf]; decide +kernel⟩⟩

theorem witness_Ownership :
    (∃ (s : State) (h : CdpHdr) (w : Word),
    let owner := s.par Ix.netOwner 0
    let x := s.sessionOf h.session
    let may : Prop := s.par Ix.netAuthRequired 0 = 0 ∨ x.auth = true
    let free : Prop := owner = 0 ∨ owner = h.session
      ∨ (x.auth = true ∧ ∀ y, tfind s.net.sessions owner = some y → y.auth = false)
    s.Inv ∧ s.acceptsCdp h 5 [w] ∧ may ∧ free)
    ∧ (∃ (s : State) (h : CdpHdr) (w : Word),
    let owner := s.par Ix.netOwner 0
    let x := s.sessionOf h.session
    let may : Prop := s.par Ix.netAuthRequired 0 = 0 ∨ x.auth = true
    let free : Prop := owner = 0 ∨ owner = h.session
      ∨ (x.auth = true ∧ ∀ y, tfind s.net.sessions owner = some y → y.auth = false)
    s.Inv ∧ s.acceptsCdp h 5 [w] ∧ may ∧ ¬ free)
    ∧ (∃ (s : State) (h : CdpHdr) (w : Word),
    let x := s.sessionOf h.session
    s.Inv ∧ s.acceptsCdp h 5 [w] ∧ s.par Ix.netAuthRequired 0 = 1 ∧ x.auth = false)
    ∧ (∃ (s : State) (h : CdpHdr) (w : Word),
    let owner := s.par Ix.netOwner 0
    s.Inv ∧ s.acceptsCdp h 5 [w] ∧ owner = h.session) :=
  ⟨⟨cdp 0 [], hdr 1, 1, by dsimp only [State.Inv, Dict.wf, Net.wf, State.hearsCdp, State.acceptsCdp]; decide +kernel⟩,
   ⟨cdp 9 [(9, {})], hdr 1, 1, by dsimp only [State.Inv, Dict.wf, Net.wf, State.hearsCdp, State.acceptsCdp]; decide +kernel⟩,
   ⟨withPars [(Ix.netAuthRequired, 0, 1)] (cdp 0 []), hdr 1, 1, by dsimp only [State.Inv, Dict.wf, Net.wf, State.hearsCdp, State.acceptsCdp]; decide +kernel⟩,
   ⟨cdp 5 [], hdr 1, 1, by dsimp only [State.Inv, Dict.wf, Net.wf, State.hearsCdp, State.acceptsCdp]; decide +kernel⟩⟩

theorem witness_DictionaryOps :
    (∃ (s : State) (t : Nat) (h : CdpHdr) (ix : Fin 65536) (sub : Fin 256) (p : Param),
    let s1 := s.enter t
    let a : Word := w32 (ix.val * 65536 + sub.val * 256 + 1)
    let slot : Prop := paramOf ix = some p ∧ p.s0 ≤ sub.val ∧ sub.val ≤ p.s1 ∧ p.ty.words = 1 ∧ p.ty ≠ .string ∧ p.ty ≠ .domain
      ∧ p.dedicated = false ∧ p.danger = false
    let plain : Prop := slot ∧ p.acc = .rw ∧ s1.slowWrite p ix sub = false ∧ ix.val ≠ Ix.dictView
      ∧ (p.bcast = false ∨ sub.val ≠ 255)
    let direct : Prop := s1.staged = [] ∧ s1.ds.slow = [] ∧ s1.derivedA ix sub = none ∧ s1.derivedB ix sub = none
    s.Inv ∧ s.acceptsCdp h 0x10 [a] ∧ plain ∧ direct)
    ∧ (∃ (s : State) (h : CdpHdr) (bad : Fin 65536) (sub : Fin 256),
    let b : Word := w32 (bad.val * 65536 + sub.val * 256 + 1)
    s.Inv ∧ s.acceptsCdp h 0x10 [b] ∧ paramOf bad = none)
    ∧ (∃ (s : State) (t : Nat) (h : CdpHdr) (ix : Fin 65536) (bad : Fin 65536) (sub : Fin 256) (p : Param),
    let s1 := s.enter t
    let a : Word := w32 (ix.val * 65536 + sub.val * 256 + 1)
    let b : Word := w32 (bad.val * 65536 + sub.val * 256 + 1)
    let slot : Prop := paramOf ix = some p ∧ p.s0 ≤ sub.val ∧ sub.val ≤ p.s1 ∧ p.ty.words = 1 ∧ p.ty ≠ .string ∧ p.ty ≠ .domain
      ∧ p.dedicated = false ∧ p.danger = false
    let plain : Prop := slot ∧ p.acc = .rw ∧ s1.slowWrite p ix sub = false ∧ ix.val ≠ Ix.dictView
      ∧ (p.bcast = false ∨ sub.val ≠ 255)
    let direct : Prop := s1.staged = [] ∧ s1.ds.slow = [] ∧ s1.derivedA ix sub = none ∧ s1.derivedB ix sub = none
    s.Inv ∧ s.acceptsCdp h 0x12 [2, a, b] ∧ plain ∧ direct ∧ paramOf bad = none)
    ∧ (∃ (s : State) (t : Nat) (h : CdpHdr) (ix : Fin 65536) (sub : Fin 256) (p : Param) (w : Word),
    let s1 := s.enter t
    let a : Word := w32 (ix.val * 65536 + sub.val * 256 + 1)
    let slot : Prop := paramOf ix = some p ∧ p.s0 ≤ sub.val ∧ sub.val ≤ p.s1 ∧ p.ty.words = 1 ∧ p.ty ≠ .string ∧ p.ty ≠ .domain
      ∧ p.dedicated = false ∧ p.danger = false
    let plain : Prop := slot ∧ p.acc = .rw ∧ s1.slowWrite p ix sub = false ∧ ix.val ≠ Ix.dictView
      ∧ (p.bcast = false ∨ sub.val ≠ 255)
    let v := p.fit w.toNat
    let fails (z : Nat) : Prop := s1.writeFails p ix sub z h.busy ≠ none
    s.Inv ∧ s.ownerCdp h 0x11 [a, w] ∧ plain ∧ ¬ fails v ∧ s1.valueEffect ix sub v h.busy = none)
    ∧ (∃ (s : State) (t : Nat) (h : CdpHdr) (ix : Fin 65536) (sub : Fin 256) (p : Param) (w : Word),
    let s1 := s.enter t
    let e := (s1.now + 49151) / 16384 * 16384
    let a : Word := w32 (ix.val * 65536 + sub.val * 256 + 1)
    let slot : Prop := paramOf ix = some p ∧ p.s0 ≤ sub.val ∧ sub.val ≤ p.s1 ∧ p.ty.words = 1 ∧ p.ty ≠ .string ∧ p.ty ≠ .domain
      ∧ p.dedicated = false ∧ p.danger = false
    let v := p.fit w.toNat
    let fails (z : Nat) : Prop := s1.writeFails p ix sub z h.busy ≠ none
    let waits : Prop := slot ∧ p.acc = .rwl ∧ ix.val ≠ Ix.calOffsetUser ∧ ix.val ≠ Ix.calGainUser ∧ sub.val ≠ 255
      ∧ atBoundary s.cw.queue e < 128
    s.Inv ∧ s.ownerCdp h 0x11 [a, w] ∧ waits ∧ ¬ fails v)
    ∧ (∃ (s : State) (h : CdpHdr) (ix : Fin 65536) (sub : Fin 256) (w : Word),
    let a : Word := w32 (ix.val * 65536 + sub.val * 256 + 1)
    s.Inv ∧ s.acceptsCdp h 0x11 [a, w] ∧ s.par Ix.netOwner 0 ≠ h.session)
    ∧ (∃ (s : State) (t : Nat) (h : CdpHdr) (ix : Fin 65536) (sub : Fin 256) (p : Param) (w : Word),
    let s1 := s.enter t
    let a : Word := w32 (ix.val * 65536 + sub.val * 256 + 1)
    let slot : Prop := paramOf ix = some p ∧ p.s0 ≤ sub.val ∧ sub.val ≤ p.s1 ∧ p.ty.words = 1 ∧ p.ty ≠ .string ∧ p.ty ≠ .domain
      ∧ p.dedicated = false ∧ p.danger = false
    let plain : Prop := slot ∧ p.acc = .rw ∧ s1.slowWrite p ix sub = false ∧ ix.val ≠ Ix.dictView
      ∧ (p.bcast = false ∨ sub.val ≠ 255)
    let v := p.fit w.toNat
    let fails (z : Nat) : Prop := s1.writeFails p ix sub z h.busy ≠ none
    s.Inv ∧ s.ownerCdp h 0x13 [1, a, w] ∧ plain ∧ ¬ fails v ∧ s1.valueEffect ix sub v h.busy = none)
    ∧ (∃ (s : State) (t : Nat) (h : CdpHdr) (ix : Fin 65536) (bad : Fin 65536) (sub : Fin 256) (p : Param) (w : Word),
    let s1 := s.enter t
    let a : Word := w32 (ix.val * 65536 + sub.val * 256 + 1)
    let b : Word := w32 (bad.val * 65536 + sub.val * 256 + 1)
    let slot : Prop := paramOf ix = some p ∧ p.s0 ≤ sub.val ∧ sub.val ≤ p.s1 ∧ p.ty.words = 1 ∧ p.ty ≠ .string ∧ p.ty ≠ .domain
      ∧ p.dedicated = false ∧ p.danger = false
    let plain : Prop := slot ∧ p.acc = .rw ∧ s1.slowWrite p ix sub = false ∧ ix.val ≠ Ix.dictView
      ∧ (p.bcast = false ∨ sub.val ≠ 255)
    s.Inv ∧ s.ownerCdp h 0x13 [2, a, w, b, w] ∧ plain ∧ paramOf bad = none)
    ∧ (∃ (s : State) (t : Nat) (h : CdpHdr) (ix : Fin 65536) (sub : Fin 256) (p : Param),
    let s1 := s.enter t
    let e := (s1.now + 49151) / 16384 * 16384
    let a : Word := w32 (ix.val * 65536 + sub.val * 256 + 1)
    let slot : Prop := paramOf ix = some p ∧ p.s0 ≤ sub.val ∧ sub.val ≤ p.s1 ∧ p.ty.words = 1 ∧ p.ty ≠ .string ∧ p.ty ≠ .domain
      ∧ p.dedicated = false ∧ p.danger = false
    let fails (z : Nat) : Prop := s1.writeFails p ix sub z h.busy ≠ none
    let waits : Prop := slot ∧ p.acc = .rwl ∧ ix.val ≠ Ix.calOffsetUser ∧ ix.val ≠ Ix.calGainUser ∧ sub.val ≠ 255
      ∧ atBoundary s.cw.queue e < 128
    s.Inv ∧ s.ownerCdp h 0x14 [1, a] ∧ waits ∧ isEnable ix = true ∧ ¬ fails 1)
    ∧ (∃ (s : State) (t : Nat) (h : CdpHdr) (ix : Fin 65536) (sub : Fin 256) (p : Param),
    let s1 := s.enter t
    let e := (s1.now + 49151) / 16384 * 16384
    let a : Word := w32 (ix.val * 65536 + sub.val * 256 + 1)
    let slot : Prop := paramOf ix = some p ∧ p.s0 ≤ sub.val ∧ sub.val ≤ p.s1 ∧ p.ty.words = 1 ∧ p.ty ≠ .string ∧ p.ty ≠ .domain
      ∧ p.dedicated = false ∧ p.danger = false
    let fails (z : Nat) : Prop := s1.writeFails p ix sub z h.busy ≠ none
    let waits : Prop := slot ∧ p.acc = .rwl ∧ ix.val ≠ Ix.calOffsetUser ∧ ix.val ≠ Ix.calGainUser ∧ sub.val ≠ 255
      ∧ atBoundary s.cw.queue e < 128
    s.Inv ∧ s.ownerCdp h 0x15 [1, a] ∧ waits ∧ isEnable ix = true ∧ ¬ fails 0)
    ∧ (∃ (s : State) (h : CdpHdr),
    s.Inv ∧ s.acceptsCdp h 0x16 [] ∧ s.ds.snapAt = none)
    ∧ (∃ (s : State) (t : Nat) (k : HeldResponse),
    let s1 := s.enter t
    s.Inv ∧ s.net.held = [k] ∧ k.due ≤ s1.now ∧ s.cw.queue = [] ∧ k.conflict = none ∧ s.canSend k.reply.port = true ∧ k.reply.session < 65536 ∧ k.reply.dst < 65536 ∧ k.reply.op = 0x11) :=
  ⟨⟨cdp 5 [], 0, hdr 1, ⟨Ix.timePpsWidth, by decide⟩, 0, prm Ix.timePpsWidth 0, by dsimp only [State.Inv, Dict.wf, Net.wf, State.hearsCdp, State.acceptsCdp]; decide +kernel⟩,
   ⟨cdp 5 [], hdr 1, 0xFFFF, 0, by dsimp only [State.Inv, Dict.wf, Net.wf, State.hearsCdp, State.acceptsCdp]; decide +kernel⟩,
   ⟨cdp 5 [], 0, hdr 3, ⟨Ix.timePpsWidth, by decide⟩, 0xFFFF, 0, prm Ix.timePpsWidth 0, by dsimp only [State.Inv, Dict.wf, Net.wf, State.hearsCdp, State.acceptsCdp]; decide +kernel⟩,
   ⟨cdp 5 [], 0, hdr 2, ⟨Ix.timePpsWidth, by decide⟩, 0, prm Ix.timePpsWidth 0, 1000, by dsimp only [State.Inv, Dict.wf, Net.wf, State.hearsCdp, State.acceptsCdp, State.ownerCdp]; decide +kernel⟩,
   ⟨cdp 5 [], 0, hdr 2, ⟨Ix.laneEnable, by decide⟩, 191, prm Ix.laneEnable 191, 1, by dsimp only [State.Inv, Dict.wf, Net.wf, State.hearsCdp, State.acceptsCdp, State.ownerCdp]; decide +kernel⟩,
   ⟨cdp 0 [], hdr 2, ⟨Ix.timePpsWidth, by decide⟩, 0, 1000, by dsimp only [State.Inv, Dict.wf, Net.wf, State.hearsCdp, State.acceptsCdp]; decide +kernel⟩,
   ⟨cdp 5 [], 0, hdr 3, ⟨Ix.timePpsWidth, by decide⟩, 0, prm Ix.timePpsWidth 0, 1000, by dsimp only [State.Inv, Dict.wf, Net.wf, State.hearsCdp, State.acceptsCdp, State.ownerCdp]; decide +kernel⟩,
   ⟨cdp 5 [], 0, hdr 5, ⟨Ix.timePpsWidth, by decide⟩, 0xFFFF, 0, prm Ix.timePpsWidth 0, 1000, by dsimp only [State.Inv, Dict.wf, Net.wf, State.hearsCdp, State.acceptsCdp, State.ownerCdp]; decide +kernel⟩,
   ⟨cdp 5 [], 0, hdr 2, ⟨Ix.laneEnable, by decide⟩, 191, prm Ix.laneEnable 191, by dsimp only [State.Inv, Dict.wf, Net.wf, State.hearsCdp, State.acceptsCdp, State.ownerCdp]; decide +kernel⟩,
   ⟨cdp 5 [], 0, hdr 2, ⟨Ix.laneEnable, by decide⟩, 191, prm Ix.laneEnable 191, by dsimp only [State.Inv, Dict.wf, Net.wf, State.hearsCdp, State.acceptsCdp, State.ownerCdp]; decide +kernel⟩,
   ⟨cdp 5 [], hdr 0, by dsimp only [State.Inv, Dict.wf, Net.wf, State.hearsCdp, State.acceptsCdp]; decide +kernel⟩,
   ⟨{ dev with net := { held := [⟨T0, ⟨1, 5, 0x11, 1, false, 4⟩, [0, 0, 0], [], none⟩] } }, T0, ⟨T0, ⟨1, 5, 0x11, 1, false, 4⟩, [0, 0, 0], [], none⟩, by dsimp only [State.Inv, Dict.wf, Net.wf]; decide +kernel⟩⟩

theorem witness_Subscriptions :
    (∃ (s : State) (ms : Nat) (g : Nat) (h : CdpHdr) (ix : Fin 65536) (sub : Fin 256) (p : Param) (w0 : Word),
    let item : Word := w32 (ix.val * 65536 + sub.val * 256 + 1)
    let known : Prop := paramOf ix = some p ∧ p.s0 ≤ sub.val ∧ sub.val ≤ (if p.dedicated = true then p.s0 else p.s1) ∧ ms < 2 ^ 32
    let room : Prop := (List.range 16).find? (fun j => (tfind s.net.subs j).isNone) = some g
    let body := [w0, w32 ms, 1, item]
    s.Inv ∧ s.acceptsCdp h 0x30 body ∧ known ∧ room ∧ 10 ≤ ms ∧ ms ≤ 3600000)
    ∧ (∃ (s : State) (ms : Nat) (g : Nat) (h : CdpHdr) (ix : Fin 65536) (sub : Fin 256) (p : Param) (w0 : Word),
    let item : Word := w32 (ix.val * 65536 + sub.val * 256 + 1)
    let known : Prop := paramOf ix = some p ∧ p.s0 ≤ sub.val ∧ sub.val ≤ (if p.dedicated = true then p.s0 else p.s1) ∧ ms < 2 ^ 32
    let room : Prop := (List.range 16).find? (fun j => (tfind s.net.subs j).isNone) = some g
    let body := [w0, w32 ms, 1, item]
    s.Inv ∧ s.acceptsCdp h 0x30 body ∧ known ∧ room ∧ 10 ≤ ms ∧ ms ≤ 3600000)
    ∧ (∃ (s : State) (ms : Nat) (g : Nat) (h : CdpHdr) (ix : Fin 65536) (sub : Fin 256) (p : Param) (w0 : Word),
    let item : Word := w32 (ix.val * 65536 + sub.val * 256 + 1)
    let known : Prop := paramOf ix = some p ∧ p.s0 ≤ sub.val ∧ sub.val ≤ (if p.dedicated = true then p.s0 else p.s1) ∧ ms < 2 ^ 32
    let room : Prop := (List.range 16).find? (fun j => (tfind s.net.subs j).isNone) = some g
    let body := [w0, w32 ms, 1, item]
    s.Inv ∧ s.acceptsCdp h 0x30 body ∧ known ∧ room ∧ 10 ≤ ms)
    ∧ (∃ (s : State) (ms : Nat) (h : CdpHdr) (ix : Fin 65536) (sub : Fin 256) (w0 : Word),
    let item : Word := w32 (ix.val * 65536 + sub.val * 256 + 1)
    let body := [w0, w32 ms, 1, item]
    s.Inv ∧ s.acceptsCdp h 0x30 body ∧ ms < 10)
    ∧ (∃ (s : State) (g : Nat) (h : CdpHdr) (n : Fin 8) (w0 : Word),
    let room : Prop := (List.range 16).find? (fun j => (tfind s.net.subs j).isNone) = some g
    let n3 := (h.session, [w0, 0, w32 n.val])
    s.Inv ∧ s.acceptsCdp h 0x30 n3.2 ∧ room ∧ bit (s.par Ix.streamOutlets n) 1 = true ∧ s.net.subs.all (fun z => decide (z.2.kind ≠ 2) || decide (z.2.stream ≠ n)) = true)
    ∧ (∃ (s : State) (g : Nat) (h : CdpHdr) (w0 : Word),
    let room : Prop := (List.range 16).find? (fun j => (tfind s.net.subs j).isNone) = some g
    s.Inv ∧ s.acceptsCdp h 0x30 [w0, 0] ∧ room)
    ∧ (∃ (s : State) (h : CdpHdr) (w0 : Word),
    s.Inv ∧ s.acceptsCdp h 0x30 [w0, 0] ∧ (List.range 16).all (fun j => (tfind s.net.subs j).isSome) = true)
    ∧ (∃ (s : State) (h : CdpHdr) (k : Fin 16) (x : Sub) (w0 : Word),
    s.Inv ∧ s.acceptsCdp h 0x30 [w0, 0, w32 k.val] ∧ tfind s.net.subs k = some x ∧ x.session = h.session)
    ∧ (∃ (s : State) (upTo : Nat) (h : CdpHdr) (w0 : Word),
    s.Inv ∧ s.acceptsCdp h 0x30 [w0, 0, w32 upTo] ∧ upTo < 2 ^ 32 ∧ s.net.subs.all (fun z => decide (z.2.session ≠ h.session) || !z.2.waiting) = true)
    ∧ (∃ (s : State) (t : Nat) (k : Fin 16) (x : Sub),
    let s1 := s.enter t
    let y := s.sessionOf x.session
    let runs (kind : Nat) : Prop := tfind s.net.subs k = some x ∧ x.kind = kind ∧ (tfind s.net.sessions x.session).isSome = true
      ∧ y.unacked.length < 64 ∧ s.runs 2 = true
    s.Inv ∧ runs 0 ∧ x.due ≤ s1.now)
    ∧ (∃ (s : State) (t : Nat) (k : Fin 16) (x : Sub),
    let s1 := s.enter t
    let y := s.sessionOf x.session
    let runs (kind : Nat) : Prop := tfind s.net.subs k = some x ∧ x.kind = kind ∧ (tfind s.net.sessions x.session).isSome = true
      ∧ y.unacked.length < 64 ∧ s.runs 2 = true
    s.Inv ∧ runs 1 ∧ x.due ≤ s1.now ∧ (s1.reading k x.items).drop 4 = x.last.drop 4)
    ∧ (∃ (s : State) (t : Nat) (k : Fin 16) (f : Frame) (x : Sub),
    let s1 := s.enter t
    let y := s.sessionOf x.session
    let runs (kind : Nat) : Prop := tfind s.net.subs k = some x ∧ x.kind = kind ∧ (tfind s.net.sessions x.session).isSome = true
      ∧ y.unacked.length < 64 ∧ s.runs 2 = true
    let bytes := bytesOfWords f.words
    s.Inv ∧ runs 2 ∧ s.nextFrame x = some f ∧ x.sent < bytes.length ∧ tget 0 s.net.evStream x.stream ≤ s1.now ∧ s.net.evAny ≤ s1.now)
    ∧ (∃ (s : State) (k : Fin 16) (x : Sub) (c : Nat) (d : Nat),
    let y := s.sessionOf x.session
    let runs (kind : Nat) : Prop := tfind s.net.subs k = some x ∧ x.kind = kind ∧ (tfind s.net.sessions x.session).isSome = true
      ∧ y.unacked.length < 64 ∧ s.runs 2 = true
    s.Inv ∧ runs 3 ∧ s.net.alerts = [(k.val, c, d)])
    ∧ (∃ (s : State) (t : Nat) (x : Sub),
    let s1 := s.enter t
    let y := s.sessionOf x.session
    s.Inv ∧ (tfind s.net.sessions x.session).isSome = true ∧ y.unacked ≠ [] ∧ y.evAt + 5120000000 ≤ s1.now ∧ s.canSend y.port = true ∧ s.runs 2 = true) :=
  ⟨⟨cdp 5 [], 10, 0, hdr 4, ⟨Ix.timePpsWidth, by decide⟩, 0, prm Ix.timePpsWidth 0, 0, by dsimp only [State.Inv, Dict.wf, Net.wf, State.hearsCdp, State.acceptsCdp]; decide +kernel⟩,
   ⟨cdp 5 [], 3600000, 0, hdr 4, ⟨Ix.timePpsWidth, by decide⟩, 0, prm Ix.timePpsWidth 0, 0, by dsimp only [State.Inv, Dict.wf, Net.wf, State.hearsCdp, State.acceptsCdp]; decide +kernel⟩,
   ⟨cdp 5 [], 3600001, 0, hdr 4, ⟨Ix.timePpsWidth, by decide⟩, 0, prm Ix.timePpsWidth 0, 0, by dsimp only [State.Inv, Dict.wf, Net.wf, State.hearsCdp, State.acceptsCdp]; decide +kernel⟩,
   ⟨cdp 5 [], 9, hdr 4, 0, 0, 0, by dsimp only [State.Inv, Dict.wf, Net.wf, State.hearsCdp, State.acceptsCdp]; decide +kernel⟩,
   ⟨withPars [(Ix.streamOutlets, 7, 2)] (cdp 5 []), 0, hdr 3, 7, 0, by dsimp only [State.Inv, Dict.wf, Net.wf, State.hearsCdp, State.acceptsCdp]; decide +kernel⟩,
   ⟨cdp 5 [], 0, hdr 2, 0, by dsimp only [State.Inv, Dict.wf, Net.wf, State.hearsCdp, State.acceptsCdp]; decide +kernel⟩,
   ⟨{ cdp 5 [] with net := { (cdp 5 []).net with subs := (List.range 16).map (fun k => (k, ({ session := 5, kind := 3, interval := 10, items := [], stream := 7, due := T0, last := [0, 0, 0, 0], waiting := false, sent := 0, ahead := 0 } : Sub))) } }, hdr 2, 0, by dsimp only [State.Inv, Dict.wf, Net.wf, State.hearsCdp, State.acceptsCdp]; decide +kernel⟩,
   ⟨{ cdp 5 [] with net := { (cdp 5 []).net with subs := [(15, ({ session := 5, kind := 3, interval := 10, items := [], stream := 7, due := T0, last := [0, 0, 0, 0], waiting := false, sent := 0, ahead := 0 } : Sub))] } }, hdr 3, 15, ({ session := 5, kind := 3, interval := 10, items := [], stream := 7, due := T0, last := [0, 0, 0, 0], waiting := false, sent := 0, ahead := 0 } : Sub), 0, by dsimp only [State.Inv, Dict.wf, Net.wf, State.hearsCdp, State.acceptsCdp]; decide +kernel⟩,
   ⟨cdp 5 [], 4294967295, hdr 3, 0, by dsimp only [State.Inv, Dict.wf, Net.wf, State.hearsCdp, State.acceptsCdp]; decide +kernel⟩,
   ⟨{ cdp 5 [] with net := { (cdp 5 []).net with subs := [(15, ({ session := 5, kind := 0, interval := 10, items := [], stream := 7, due := T0, last := [0, 0, 0, 0], waiting := false, sent := 0, ahead := 0 } : Sub))] } }, T0, 15, ({ session := 5, kind := 0, interval := 10, items := [], stream := 7, due := T0, last := [0, 0, 0, 0], waiting := false, sent := 0, ahead := 0 } : Sub), by dsimp only [State.Inv, Dict.wf, Net.wf]; decide +kernel⟩,
   ⟨{ cdp 5 [] with net := { (cdp 5 []).net with subs := [(15, ({ session := 5, kind := 1, interval := 10, items := [], stream := 7, due := T0, last := [0, 0, 0, 0], waiting := false, sent := 0, ahead := 0 } : Sub))] } }, T0, 15, ({ session := 5, kind := 1, interval := 10, items := [], stream := 7, due := T0, last := [0, 0, 0, 0], waiting := false, sent := 0, ahead := 0 } : Sub), by dsimp only [State.Inv, Dict.wf, Net.wf]; decide +kernel⟩,
   ⟨withPars [(Ix.streamOutlets, 7, 2)] { ({ cdp 5 [] with net := { (cdp 5 []).net with subs := [(15, ({ session := 5, kind := 2, interval := 10, items := [], stream := 7, due := T0, last := [0, 0, 0, 0], waiting := false, sent := 0, ahead := 0 } : Sub))] } }) with stream := [(7, { tail := [({ base := 5, quality := 0, epoch := 7, chip := 3, stream := 7, level := 3, seq := 9, flushed := false, gap := false, comp := true, payload := [0, 0], stored := [w32 0xF5], records := 1, last := 5 } : Frame)] })] }, 0, 15, ({ base := 5, quality := 0, epoch := 7, chip := 3, stream := 7, level := 3, seq := 9, flushed := false, gap := false, comp := true, payload := [0, 0], stored := [w32 0xF5], records := 1, last := 5 } : Frame), ({ session := 5, kind := 2, interval := 10, items := [], stream := 7, due := T0, last := [0, 0, 0, 0], waiting := false, sent := 0, ahead := 0 } : Sub), by dsimp only [State.Inv, Dict.wf, Net.wf]; decide +kernel⟩,
   ⟨{ cdp 5 [] with net := { (cdp 5 []).net with subs := [(15, ({ session := 5, kind := 3, interval := 10, items := [], stream := 7, due := T0, last := [0, 0, 0, 0], waiting := false, sent := 0, ahead := 0 } : Sub))], alerts := [(15, 1, 2)] } }, 15, ({ session := 5, kind := 3, interval := 10, items := [], stream := 7, due := T0, last := [0, 0, 0, 0], waiting := false, sent := 0, ahead := 0 } : Sub), 1, 2, by dsimp only [State.Inv, Dict.wf, Net.wf]; decide +kernel⟩,
   ⟨{ dev with net := { sessions := [(5, { unacked := [⟨1, false, [1, 2], none⟩] })] } }, T0, ({ session := 5, kind := 3, interval := 10, items := [], stream := 7, due := T0, last := [0, 0, 0, 0], waiting := false, sent := 0, ahead := 0 } : Sub), by dsimp only [State.Inv, Dict.wf, Net.wf]; decide +kernel⟩⟩

theorem witness_Store :
    (∃ (s : State) (t : Nat),
    let s1 := s.enter t
    let r := match s.currentRegion with
      | some q => 1 - q
      | none => 0
    let maySave : Prop := s.par Ix.storeState 0 = 0
      ∧ s.nv.lastCommit + s.par Ix.storeSaveInterval 0 * 256000000000 ≤ s1.now
      ∧ s.par Ix.storeRegionWrites r < 1600000 - 100000 * s.par Ix.storeSlotsRetired r
    s.Inv ∧ maySave)
    ∧ (∃ (s : State) (t : Nat),
    let s1 := s.enter t
    let r := match s.currentRegion with
      | some q => 1 - q
      | none => 0
    let maySave : Prop := s.par Ix.storeState 0 = 0
      ∧ s.nv.lastCommit + s.par Ix.storeSaveInterval 0 * 256000000000 ≤ s1.now
      ∧ s.par Ix.storeRegionWrites r < 1600000 - 100000 * s.par Ix.storeSlotsRetired r
    s.Inv ∧ maySave)
    ∧ (∃ (s : State) (t : Nat) (h : CdpHdr) (w : Word),
    let s1 := s.enter t
    let r := match s.currentRegion with
      | some q => 1 - q
      | none => 0
    let maySave : Prop := s.par Ix.storeState 0 = 0
      ∧ s.nv.lastCommit + s.par Ix.storeSaveInterval 0 * 256000000000 ≤ s1.now
      ∧ s.par Ix.storeRegionWrites r < 1600000 - 100000 * s.par Ix.storeSlotsRetired r
    s.Inv ∧ s.ownerCdp h 0x20 [w] ∧ maySave)
    ∧ (∃ (s : State) (t : Nat) (h : CdpHdr) (w : Word),
    let s1 := s.enter t
    let tooSoon : Prop := s.par Ix.storeState 0 = 0 ∧ s1.now < s.nv.lastCommit + s.par Ix.storeSaveInterval 0 * 256000000000
    s.Inv ∧ s.ownerCdp h 0x20 [w] ∧ tooSoon)
    ∧ (∃ (s : State),
    s.Inv ∧ s.par Ix.storeState 0 ≠ 0)
    ∧ (∃ (s : State) (c : Copy),
    let idle : Prop := s.capturing = false ∧ (List.range 24).all (fun q => decide (s.par Ix.caiEnable q ≠ 1)) = true
      ∧ s.par Ix.fetchState 0 ≠ 1 ∧ s.par Ix.storeState 0 = 0
    s.Inv ∧ idle ∧ s.currentCopy = some c)
    ∧ (∃ (s : State) (c : Copy),
    let idle : Prop := s.capturing = false ∧ (List.range 24).all (fun q => decide (s.par Ix.caiEnable q ≠ 1)) = true
      ∧ s.par Ix.fetchState 0 ≠ 1 ∧ s.par Ix.storeState 0 = 0
    s.Inv ∧ idle ∧ (s.copyOf 0).map Prod.snd = some c)
    ∧ (∃ (s : State) (c : Copy),
    let idle : Prop := s.capturing = false ∧ (List.range 24).all (fun q => decide (s.par Ix.caiEnable q ≠ 1)) = true
      ∧ s.par Ix.fetchState 0 ≠ 1 ∧ s.par Ix.storeState 0 = 0
    s.Inv ∧ idle ∧ (s.copyOf 1).map Prod.snd = some c)
    ∧ (∃ (s : State),
    let idle : Prop := s.capturing = false ∧ (List.range 24).all (fun q => decide (s.par Ix.caiEnable q ≠ 1)) = true
      ∧ s.par Ix.fetchState 0 ≠ 1 ∧ s.par Ix.storeState 0 = 0
    s.Inv ∧ idle ∧ s.nv.copies = [])
    ∧ (∃ (s : State),
    let idle : Prop := s.capturing = false ∧ (List.range 24).all (fun q => decide (s.par Ix.caiEnable q ≠ 1)) = true
      ∧ s.par Ix.fetchState 0 ≠ 1 ∧ s.par Ix.storeState 0 = 0
    s.Inv ∧ idle ∧ s.nv.copies = [])
    ∧ (∃ (s : State),
    let idle : Prop := s.capturing = false ∧ (List.range 24).all (fun q => decide (s.par Ix.caiEnable q ≠ 1)) = true
      ∧ s.par Ix.fetchState 0 ≠ 1 ∧ s.par Ix.storeState 0 = 0
    s.Inv ∧ idle ∧ s.nv.copies = [])
    ∧ (∃ (s : State) (t : Nat) (h : CdpHdr) (w : Word) (ix : Fin 65536) (sub : Fin 256) (p : Param) (v : Word) (c : Copy),
    let s1 := s.enter t
    let idle : Prop := s.capturing = false ∧ (List.range 24).all (fun q => decide (s.par Ix.caiEnable q ≠ 1)) = true
      ∧ s.par Ix.fetchState 0 ≠ 1 ∧ s.par Ix.storeState 0 = 0
    let clean : Prop := s.latestTable.all (fun z => decide (z.2 = dfltOf z.1)
      || (!storable z.1 && !((paramOf (z.1 / 256)).map Param.danger).getD false)) = true
    let holds : Prop := c.body = [w32 (ix.val * 65536 + sub.val * 256 + 1), v]
    let slot : Prop := paramOf ix = some p ∧ p.s0 ≤ sub.val ∧ sub.val ≤ p.s1 ∧ p.ty.words = 1
      ∧ p.acc = .rw ∧ p.danger = false ∧ isEnable ix = false ∧ ix.val ≠ Ix.storeLastResult ∧ s1.slowWrite p ix sub = false
      ∧ s1.writeFails p ix sub (p.fit v.toNat) false = none ∧ s1.valueEffect ix sub (p.fit v.toNat) false = none
    s.Inv ∧ s.ownerCdp h 0x21 [w] ∧ idle ∧ s.currentCopy = some c ∧ w.toNat % 4 = 0 ∧ s.cw.queue = [] ∧ clean ∧ holds ∧ slot)
    ∧ (∃ (s : State) (h : CdpHdr) (w : Word),
    let idle : Prop := s.capturing = false ∧ (List.range 24).all (fun q => decide (s.par Ix.caiEnable q ≠ 1)) = true
      ∧ s.par Ix.fetchState 0 ≠ 1 ∧ s.par Ix.storeState 0 = 0
    s.Inv ∧ s.ownerCdp h 0x21 [w] ∧ idle ∧ s.nv.copies = [] ∧ w.toNat % 4 ≠ 3)
    ∧ (∃ (s : State) (j : SaveJob),
    s.Inv ∧ s.nv.job = some j)
    ∧ (∃ (s : State) (j : SaveJob),
    s.Inv ∧ s.nv.job = some j ∧ s.nv.copies = [] ∧ j.region < 2 ∧ j.slot < 16 ∧ s.copyValid j.copy = true)
    ∧ (∃ (s : State) (j : SaveJob),
    s.Inv ∧ s.nv.job = some j ∧ j.region < 2) :=
  ⟨⟨dev, 600 * 256000000000, by dsimp only [State.Inv, Dict.wf, Net.wf]; decide +kernel⟩,
   ⟨dev, 600 * 256000000000, by dsimp only [State.Inv, Dict.wf, Net.wf]; decide +kernel⟩,
   ⟨cdp 5 [], 600 * 256000000000, hdr 1, 1, by dsimp only [State.Inv, Dict.wf, Net.wf, State.hearsCdp, State.acceptsCdp, State.ownerCdp]; decide +kernel⟩,
   ⟨{ cdp 5 [] with nv := { running := true, lastCommit := T0 } }, T0, hdr 1, 0, by dsimp only [State.Inv, Dict.wf, Net.wf, State.hearsCdp, State.acceptsCdp, State.ownerCdp]; decide +kernel⟩,
   ⟨withPars [(Ix.storeState, 0, 1)] dev, by dsimp only [State.Inv, Dict.wf, Net.wf]; decide +kernel⟩,
   ⟨{ cdp 5 [] with nv := { running := true, copies := [(31, ({ seq := 4294967295, signed := false, keys := false, refresh := false, chip := 3, writeAge := 0, fwVersion := 1, count := 1, body := [w32 (Ix.timePpsWidth * 65536 + 1), 1000], digestOk := true, sigOk := false, sig := [] } : Copy))] } }, ({ seq := 4294967295, signed := false, keys := false, refresh := false, chip := 3, writeAge := 0, fwVersion := 1, count := 1, body := [w32 (Ix.timePpsWidth * 65536 + 1), 1000], digestOk := true, sigOk := false, sig := [] } : Copy), by dsimp only [State.Inv, Dict.wf, Net.wf]; decide +kernel⟩,
   ⟨{ cdp 5 [] with nv := { running := true, copies := [(15, ({ seq := 4294967295, signed := false, keys := false, refresh := false, chip := 3, writeAge := 0, fwVersion := 1, count := 1, body := [w32 (Ix.timePpsWidth * 65536 + 1), 1000], digestOk := true, sigOk := false, sig := [] } : Copy))] } }, ({ seq := 4294967295, signed := false, keys := false, refresh := false, chip := 3, writeAge := 0, fwVersion := 1, count := 1, body := [w32 (Ix.timePpsWidth * 65536 + 1), 1000], digestOk := true, sigOk := false, sig := [] } : Copy), by dsimp only [State.Inv, Dict.wf, Net.wf]; decide +kernel⟩,
   ⟨{ cdp 5 [] with nv := { running := true, copies := [(31, ({ seq := 4294967295, signed := false, keys := false, refresh := false, chip := 3, writeAge := 0, fwVersion := 1, count := 1, body := [w32 (Ix.timePpsWidth * 65536 + 1), 1000], digestOk := true, sigOk := false, sig := [] } : Copy))] } }, ({ seq := 4294967295, signed := false, keys := false, refresh := false, chip := 3, writeAge := 0, fwVersion := 1, count := 1, body := [w32 (Ix.timePpsWidth * 65536 + 1), 1000], digestOk := true, sigOk := false, sig := [] } : Copy), by dsimp only [State.Inv, Dict.wf, Net.wf]; decide +kernel⟩,
   ⟨dev, by dsimp only [State.Inv, Dict.wf, Net.wf]; decide +kernel⟩,
   ⟨dev, by dsimp only [State.Inv, Dict.wf, Net.wf]; decide +kernel⟩,
   ⟨dev, by dsimp only [State.Inv, Dict.wf, Net.wf]; decide +kernel⟩,
   ⟨{ cdp 5 [] with nv := { running := true, copies := [(31, ({ seq := 4294967295, signed := false, keys := false, refresh := false, chip := 3, writeAge := 0, fwVersion := 1, count := 1, body := [w32 (Ix.timePpsWidth * 65536 + 1), 1000], digestOk := true, sigOk := false, sig := [] } : Copy))] } }, 0, hdr 1, 0, ⟨Ix.timePpsWidth, by decide⟩, 0, prm Ix.timePpsWidth 0, 1000, ({ seq := 4294967295, signed := false, keys := false, refresh := false, chip := 3, writeAge := 0, fwVersion := 1, count := 1, body := [w32 (Ix.timePpsWidth * 65536 + 1), 1000], digestOk := true, sigOk := false, sig := [] } : Copy), by dsimp only [State.Inv, Dict.wf, Net.wf, State.hearsCdp, State.acceptsCdp, State.ownerCdp]; decide +kernel⟩,
   ⟨cdp 5 [], hdr 1, 2, by dsimp only [State.Inv, Dict.wf, Net.wf, State.hearsCdp, State.acceptsCdp, State.ownerCdp]; decide +kernel⟩,
   ⟨{ dev with nv := { job := some ⟨({ seq := 4294967295, signed := false, keys := false, refresh := false, chip := 3, writeAge := 0, fwVersion := 1, count := 1, body := [w32 (Ix.timePpsWidth * 65536 + 1), 1000], digestOk := true, sigOk := false, sig := [] } : Copy), 1, 15, true, none⟩ } }, ⟨({ seq := 4294967295, signed := false, keys := false, refresh := false, chip := 3, writeAge := 0, fwVersion := 1, count := 1, body := [w32 (Ix.timePpsWidth * 65536 + 1), 1000], digestOk := true, sigOk := false, sig := [] } : Copy), 1, 15, true, none⟩, by dsimp only [State.Inv, Dict.wf, Net.wf]; decide +kernel⟩,
   ⟨{ dev with nv := { job := some ⟨({ seq := 4294967295, signed := false, keys := false, refresh := false, chip := 3, writeAge := 0, fwVersion := 1, count := 1, body := [w32 (Ix.timePpsWidth * 65536 + 1), 1000], digestOk := true, sigOk := false, sig := [] } : Copy), 1, 15, true, none⟩ } }, ⟨({ seq := 4294967295, signed := false, keys := false, refresh := false, chip := 3, writeAge := 0, fwVersion := 1, count := 1, body := [w32 (Ix.timePpsWidth * 65536 + 1), 1000], digestOk := true, sigOk := false, sig := [] } : Copy), 1, 15, true, none⟩, by dsimp only [State.Inv, Dict.wf, Net.wf]; decide +kernel⟩,
   ⟨{ dev with nv := { job := some ⟨({ seq := 4294967295, signed := false, keys := false, refresh := false, chip := 3, writeAge := 0, fwVersion := 1, count := 1, body := [w32 (Ix.timePpsWidth * 65536 + 1), 1000], digestOk := true, sigOk := false, sig := [] } : Copy), 1, 15, true, none⟩ } }, ⟨({ seq := 4294967295, signed := false, keys := false, refresh := false, chip := 3, writeAge := 0, fwVersion := 1, count := 1, body := [w32 (Ix.timePpsWidth * 65536 + 1), 1000], digestOk := true, sigOk := false, sig := [] } : Copy), 1, 15, true, none⟩, by dsimp only [State.Inv, Dict.wf, Net.wf]; decide +kernel⟩⟩

theorem witness_Firmware :
    (∃ (s : State) (off : Nat) (total : Nat) (h : CdpHdr) (ws : List Word),
    let body := w32 0 :: w32 off :: w32 total :: ws
    let small : Prop := off < 2 ^ 32 ∧ total ≤ 4190208 ∧ ws.length ≤ 112
    s.Inv ∧ s.ownerCdp h 0x51 body ∧ small ∧ off = 0 ∧ s.par Ix.storeState 0 = 0)
    ∧ (∃ (s : State) (off : Nat) (total : Nat) (h : CdpHdr) (ws : List Word),
    let body := w32 0 :: w32 off :: w32 total :: ws
    let small : Prop := off < 2 ^ 32 ∧ total ≤ 4190208 ∧ ws.length ≤ 112
    let bytes := (bytesOfWords ws).take (total - off)
    s.Inv ∧ s.ownerCdp h 0x51 body ∧ small ∧ off ≠ 0 ∧ s.nv.stage = some (off, total) ∧ off + bytes.length ≤ total)
    ∧ (∃ (s : State) (off : Nat) (total : Nat) (nxt : Nat) (h : CdpHdr) (ws : List Word),
    let body := w32 0 :: w32 off :: w32 total :: ws
    let small : Prop := off < 2 ^ 32 ∧ total ≤ 4190208 ∧ ws.length ≤ 112
    s.Inv ∧ s.ownerCdp h 0x51 body ∧ small ∧ off ≠ 0 ∧ s.nv.stage = some (nxt, total) ∧ off ≠ nxt)
    ∧ (∃ (s : State) (h : CdpHdr) (w : Word),
    let o := 1 - s.par Ix.fwActiveSlot 0
    let slotOf (u : State) (n : Nat) : FwSlot := tget {} u.nv.fw n
    s.Inv ∧ s.ownerCdp h 0x52 [w] ∧ s.par Ix.storeState 0 = 0 ∧ (s.par Ix.fwState 0 ≠ 1 ∨ fwVersionOf (slotOf s o).data ≠ w.toNat))
    ∧ (∃ (s : State) (h : CdpHdr) (w : Word),
    let o := 1 - s.par Ix.fwActiveSlot 0
    let slotOf (u : State) (n : Nat) : FwSlot := tget {} u.nv.fw n
    s.Inv ∧ s.ownerCdp h 0x52 [w] ∧ s.par Ix.storeState 0 = 0 ∧ s.par Ix.fwState 0 = 1 ∧ fwVersionOf (slotOf s o).data = w.toNat)
    ∧ (∃ (s : State) (h : CdpHdr) (ws : List Word),
    s.Inv ∧ s.acceptsCdp h 0x50 ws ∧ ws.length = 8) :=
  ⟨⟨cdp 5 [], 0, 4190208, hdr 115, List.replicate 112 0, by dsimp only [State.Inv, Dict.wf, Net.wf, State.hearsCdp, State.acceptsCdp, State.ownerCdp]; decide +kernel⟩,
   ⟨{ cdp 5 [] with nv := { running := true, stage := some (448, 4190208) } }, 448, 4190208, hdr 115, List.replicate 112 0, by dsimp only [State.Inv, Dict.wf, Net.wf, State.hearsCdp, State.acceptsCdp, State.ownerCdp]; decide +kernel⟩,
   ⟨{ cdp 5 [] with nv := { running := true, stage := some (448, 4190208) } }, 452, 4190208, 448, hdr 4, [0], by dsimp only [State.Inv, Dict.wf, Net.wf, State.hearsCdp, State.acceptsCdp, State.ownerCdp]; decide +kernel⟩,
   ⟨cdp 5 [], hdr 1, 1, by dsimp only [State.Inv, Dict.wf, Net.wf, State.hearsCdp, State.acceptsCdp, State.ownerCdp]; decide +kernel⟩,
   ⟨withPars [(Ix.fwState, 0, 1)] (cdp 5 []), hdr 1, 0, by dsimp only [State.Inv, Dict.wf, Net.wf, State.hearsCdp, State.acceptsCdp, State.ownerCdp]; decide +kernel⟩,
   ⟨cdp 5 [], hdr 8, List.replicate 8 0, by dsimp only [State.Inv, Dict.wf, Net.wf, State.hearsCdp, State.acceptsCdp]; decide +kernel⟩⟩

end Sys2Proof.Tests
end

section
/-! SUPPORT. Garnet time while records are produced (R26, R49, R53). -/
namespace Sys2Proof.Machine

/-! ### Values other than the default stand -/

/-- An entry is found as before when another number is struck, in order or not. -/
theorem tfind_terase_of_some {α : Type} (t : Tbl α) (k n : Nat) (v : α) (hk : n ≠ k) (h : tfind t n = some v) :
    tfind (terase t k) n = some v := by
  induction t with
  | nil => exact h
  | cons y t ih =>
    obtain ⟨j, b⟩ := y
    simp only [tfind, terase] at h ⊢
    by_cases hj : j = n
    · rw [if_pos hj] at h
      rw [if_neg (fun e => hk (hj.symm.trans e))]
      split <;> simp [tfind, hj, h]
    · rw [if_neg hj] at h
      by_cases hn : n < j
      · simp [hn] at h
      · rw [if_neg hn] at h
        split
        · exact h
        · split <;> simp [tfind, hj, hn, h, ih h]

/-- A value other than the default stands when another parameter is set, whatever the dictionary holds. -/
theorem par_setPar_of_ne_dflt (s : State) (ix sub jx tub v : Nat) (e : key jx tub ≠ key ix sub)
    (h : s.par jx tub ≠ dfltOf (key jx tub)) : (s.setPar ix sub v).par jx tub = s.par jx tub := by
  unfold State.par State.val at h ⊢
  rw [State.setPar, State.setVal_dict]
  cases hf : tfind s.dict (key jx tub) with
  | none => rw [hf] at h; exact absurd rfl h
  | some w =>
    have : tfind (if v = dfltOf (key ix sub) then terase s.dict (key ix sub) else tset s.dict (key ix sub) v) (key jx tub)
        = some w := by
      split
      · exact tfind_terase_of_some _ _ _ _ e hf
      · rw [tfind_tset, if_neg e, hf]
    rw [this]

/-! ### A device that captures goes on capturing -/

theorem State.idle_eq_false (s : State) : s.idle = false ↔ s.anyStream = true ∨ s.anySeq = true := by
  simp only [State.idle, Bool.and_eq_false_iff, Bool.not_eq_false']

/-- The enables of streams and sequencers stand in the dictionary. -/
theorem State.idle_of_dict_eq {s t : State} (h : t.dict = s.dict) : t.idle = s.idle := by
  have hv : ∀ k, t.val k = s.val k := fun k => by unfold State.val; rw [h]
  unfold State.idle State.anyStream State.anySeq State.par
  rw [funext hv]

/-- Streams and sequencers stand disabled by default. -/
theorem dfltOf_enables : (∀ n < 8, dfltOf (key Ix.streamState n) = 0) ∧ ∀ n < 4, dfltOf (key Ix.keyEnable n) = 0 := by
  decide +kernel

/-- A parameter that is no enable takes nothing from what is enabled. -/
theorem State.setPar_idle_eq_false (s : State) (ix sub v : Nat) (h1 : ix ≠ Ix.streamState) (h2 : ix ≠ Ix.keyEnable)
    (h : s.idle = false) : (s.setPar ix sub v).idle = false := by
  have stands : ∀ jx n, jx ≠ ix → dfltOf (key jx n) = 0 → s.par jx n ≠ 0 → (s.setPar ix sub v).par jx n ≠ 0 := by
    intro jx n hj hd hp
    rwa [par_setPar_of_ne_dflt _ _ _ _ _ _ (fun e => hj (key_index e)) (hd ▸ hp)]
  rw [State.idle_eq_false] at h ⊢
  simp only [State.anyStream, State.anySeq, List.any_eq_true, List.mem_range, decide_eq_true_eq] at h ⊢
  exact h.imp (fun ⟨n, hn, hp⟩ => ⟨n, hn, stands _ n h1.symm (dfltOf_enables.1 n hn) hp⟩)
    (fun ⟨n, hn, hp⟩ => ⟨n, hn, stands _ n h2.symm (dfltOf_enables.2 n hn) hp⟩)

theorem State.cnt_idle_eq_false (s : State) (ix sub : Nat) (h1 : ix ≠ Ix.streamState) (h2 : ix ≠ Ix.keyEnable)
    (h : s.idle = false) : (s.cnt ix sub).idle = false := by
  unfold State.cnt
  extract_lets v s1 c
  have hs : s1.idle = false := s.setPar_idle_eq_false ix sub _ h1 h2 h
  split
  · exact h
  · split
    · exact State.setPar_idle_eq_false _ _ _ _ (by decide) (by decide)
        (State.setPar_idle_eq_false _ _ _ _ (by decide) (by decide) hs)
    · exact hs

theorem State.crossing_idle_eq_false (s : State) (src t lv : Nat) (h : s.idle = false) : (s.crossing src t lv).idle = false := by
  unfold State.crossing
  extract_lets e
  split
  · split
    · exact State.cnt_idle_eq_false _ _ _ (by decide) (by decide) h
    · extract_lets s1 e1
      have hs : s1.dict = s.dict := (Same.ite (State.resample_same ..) (Same.refl _ _)).dict rfl
      exact (State.idle_of_dict_eq hs).trans h
  · exact h

/-! ### Garnet time through an operation -/

/-- An operation whose frame leaves the count keeps a bound below it. -/
theorem Same.le_now {m n : Nat} {u t : State} (g : Same m u t) (h : n ≤ u.now) (hb : m.testBit 4 = false := by rfl) :
    n ≤ t.now := (g.now hb).symm ▸ h

theorem State.le_now_setPar {n : Nat} {s : State} (ix sub v : Nat) (h : n ≤ s.now) : n ≤ (s.setPar ix sub v).now := h

theorem le_now_ite {n : Nat} {a b : State} {c : Prop} [Decidable c] (ha : n ≤ a.now) (hb : n ≤ b.now) :
    n ≤ (if c then a else b).now := by split <;> assumption

/-- What a command answers is a state whose count is `n` at least. -/
def NotBefore (n : Nat) (o : Host.Outcome State Fault Refusal) : Prop := ∀ t, o = .next t → n ≤ t.now

theorem NotBefore.mk {n : Nat} {s : State} (h : n ≤ s.now) : NotBefore n (.next s) := by
  rintro t ⟨⟩
  exact h

theorem NotBefore.ite {n : Nat} {a b : Host.Outcome State Fault Refusal} {c : Prop} [Decidable c] (ha : NotBefore n a)
    (hb : NotBefore n b) : NotBefore n (if c then a else b) := by split <;> assumption

/-- A command whose frame leaves the count lets no time run backwards. -/
theorem Only.notBefore {m a : Nat} {s : State} {o : Host.Outcome State Fault Refusal} (g : Only m (s.enter a) o)
    (hb : m.testBit 4 = false := by rfl) : NotBefore s.now o := by
  obtain ⟨u, rfl, hu⟩ := g
  exact .mk (hu.le_now (now_enter s a) hb)

/-! ### Loads -/

/-- A load that takes effect while a stream or a sequencer is enabled is cancelled (R53). -/
theorem State.le_now_loadEffect {n : Nat} (s : State) (d v : Nat) (hi : s.idle = false) (h : n ≤ s.now) :
    n ≤ (s.loadEffect d v).now := by
  have on : (s.anyStream || s.anySeq || s.enableDue d) = true := by
    rw [Bool.or_eq_true, Bool.or_eq_true]; exact .inl (s.idle_eq_false.mp hi)
  rw [State.loadEffect, if_pos on]
  exact (State.cancelLoad_same s).le_now h

theorem State.le_now_ppsRise {n : Nat} (s : State) (t : Nat) (hi : s.idle = false) (h : n ≤ s.now) :
    n ≤ (s.ppsRise t).now := by
  unfold State.ppsRise
  extract_lets lost s1 s2 s3
  have n1 : n ≤ s1.now := (State.crossing_same s 200 t 1).le_now h
  have i2 : s2.idle = false := State.setPar_idle_eq_false _ _ _ _ (by decide) (by decide) (s.crossing_idle_eq_false 200 t 1 hi)
  have g3 : Same 0x44 s2 s3 :=
    Same.ite (Same.then (Same.mono (State.draw_same s2) rfl) (State.decideStep_same ..) rfl) (Same.refl _ _)
  have n3 : n ≤ s3.now := g3.le_now n1
  have i3 : s3.idle = false := (State.idle_of_dict_eq (g3.dict rfl)).trans i2
  refine le_now_ite n1 ?_
  split
  · exact le_now_ite (State.le_now_loadEffect _ _ _ i3 n3) n3
  · exact n3

theorem State.le_now_edgeIn {n : Nat} (s : State) (src base code lv : Nat) (hi : s.idle = false) (h : n ≤ s.now) :
    n ≤ (s.edgeIn src base code lv).now := by
  unfold State.edgeIn
  extract_lets t
  exact le_now_ite h (le_now_ite ((State.levelOnly_same ..).le_now h)
    (le_now_ite (le_now_ite (s.le_now_ppsRise t hi h) ((State.ppsFall_same ..).le_now h))
      ((State.crossing_same ..).le_now h)))

/-! ### Steps -/

/-- A forward step adds to the count (R50). -/
theorem State.le_now_forwardStep {n : Nat} (s : State) (a d : Nat) (h : n ≤ s.now) : n ≤ (s.forwardStep a d).now := by
  unfold State.forwardStep
  extract_lets b time s0 s1 cw s2 s3
  have n0 : n ≤ s0.now := Nat.le_add_right_of_le h
  have n1 : n ≤ s1.now := (Same.foldl (m := mask119) _ (Same.refl _ _) (fun _ _ => State.flushSource_same ..)).le_now
    ((State.placeAll_same ..).le_now ((State.shiftTimers_same ..).le_now n0))
  have n2 : n ≤ s2.now := (State.newEpoch_same ..).le_now ((State.store_same ..).le_now n1)
  have n3 : n ≤ s3.now := n2
  refine (Same.foldl _ (Same.refl _ _) (fun _ _ => State.caiTouchPier_same ..)).le_now ((State.settleAll_same ..).le_now
    ((State.emitEpoch_same ..).le_now (?_ : n ≤ (s3.cnt Ix.timeSteps 0).now)))
  exact Same.le_now (m := allRegs) (State.cnt_same _ _ _ (by decide)) n3


/-! ### The clocks -/

/-- TPLL's change to FRO moves the count forward (R39). -/
theorem State.le_now_toFro {n : Nat} (s : State) (h : n ≤ s.now) : n ≤ s.toFro.now := by
  unfold State.toFro
  have n1 : n ≤ s.now + Config.freeNat s.fresh % 257 := Nat.le_add_right_of_le h
  exact (State.setQuality_same ..).le_now ((State.lockTo_same ..).le_now (State.le_now_setPar _ _ _ n1))

theorem State.le_now_fallback {n : Nat} (s : State) (t x r i g : Nat) (h : n ≤ s.now) : n ≤ (s.fallback t x r i g).now := by
  unfold State.fallback
  have held : n ≤ ((s.hold x r).clockSafe t).now := (State.clockSafe_same ..).le_now ((State.hold_same ..).le_now h)
  exact le_now_ite ((State.seekRef_same ..).le_now ((State.safeHold_same ..).le_now held))
    (le_now_ite (State.le_now_toFro _ ((State.clockSafe_same ..).le_now h))
      ((State.froFollow_same _).le_now (State.le_now_setPar _ _ _ held)))

theorem State.le_now_refLost {n : Nat} (s : State) (t x r i g : Nat) (h : n ≤ s.now) : n ≤ (s.refLost t x r i g).now := by
  unfold State.refLost
  refine le_now_ite h (le_now_ite (s.le_now_fallback t x r i g h) ?_)
  split
  · exact (State.changeRef_same ..).le_now h
  · exact s.le_now_fallback t x r i g h

theorem State.le_now_sourceFails {n : Nat} (s : State) (t src x r i g : Nat) (h : n ≤ s.now) :
    n ≤ (s.sourceFails t src x r i g).now := by
  unfold State.sourceFails
  extract_lets +onlyGivenNames -merge s1 s2 s3 uses
  have n1 : n ≤ s1.now := (State.setReady_same ..).le_now h
  have n2 : n ≤ s2.now :=
    le_now_ite (le_now_ite ((State.stopSource_same ..).le_now n1) ((State.startSource_same ..).le_now n1)) n1
  have n3 : n ≤ s3.now :=
    (State.redrive_same ..).le_now ((State.forcedFollow_same _).le_now ((State.opalFollow_same _).le_now n2))
  exact le_now_ite (s3.le_now_refLost t x r i g n3) (le_now_ite ((State.seekRef_same ..).le_now n3) n3)

theorem State.le_now_failure {n : Nat} (s : State) (t code : Nat) (stopped : Bool) (x r i g : Nat) (h : n ≤ s.now) :
    n ≤ (s.failure t code stopped x r i g).now := by
  unfold State.failure
  extract_lets +onlyGivenNames -merge s1
  have n1 : n ≤ s1.now :=
    (State.noteFailure_same ..).le_now (le_now_ite ((State.setStopped_same ..).le_now h) h)
  split
  · exact State.le_now_sourceFails _ _ _ _ _ _ _ ((State.setStopped_same ..).le_now n1)
  · split
    · extract_lets s2
      have n2 : n ≤ s2.now := (State.loopLost_same ..).le_now n1
      exact le_now_ite n2 (s2.le_now_fallback t x r i g n2)
    · extract_lets s2
      have n2 : n ≤ s2.now := (State.setGood_same ..).le_now ((State.loopLost_same ..).le_now n1)
      exact (State.clockSafe_same ..).le_now n2
    · exact (State.mpllFails_same _).le_now n1
    · exact (State.apllFails_same ..).le_now n1
    · exact (State.ethDown_same ..).le_now ((State.ethDown_same ..).le_now ((State.setGood_same ..).le_now
        ((State.loopLost_same ..).le_now n1)))
    · exact (State.forcedFollow_same _).le_now n1

theorem le_ceilMul (a : Nat) {m : Nat} (hm : 0 < m) : a ≤ ceilMul a m := by
  have h := Nat.div_add_mod (a + (m - 1)) m
  have l := Nat.mod_lt (a + (m - 1)) hm
  rw [ceilMul, Nat.mul_comm]
  omega

/-- TPLL is released onto a count that is never below the COARSE one (R39). -/
theorem State.le_now_release {n : Nat} (s : State) (r : Ref) (h : n ≤ s.now) : n ≤ (s.release r).now := by
  unfold State.release
  extract_lets clk s0 s1 s2 s3 s4 s5 s6
  have n0 : n ≤ s0.now := Nat.le_trans h (le_ceilMul _ (by decide))
  have n1 : n ≤ s1.now := (State.domainsOn_same _).le_now n0
  have n2 : n ≤ s2.now := le_now_ite n1 n1
  have n4 : n ≤ s4.now := (State.setQuality_same ..).le_now n2
  have w4 : n ≤ s4.withdraw.now := (State.withdraw_same _).le_now n4
  have n5 : n ≤ s5.now := le_now_ite ((State.releaseDue_same ..).le_now w4) w4
  have n6 : n ≤ s6.now := (State.performLate_same ..).le_now n5
  exact (State.wakeDone_same _).le_now ((State.clockClear_same _).le_now ((State.froFollow_same _).le_now
    ((State.opalFollow_same _).le_now (le_now_ite ((State.admitLate_same _).le_now n6) n6))))

theorem State.le_now_tpllLocked {n : Nat} (s : State) (h : n ≤ s.now) : n ≤ s.tpllLocked.now := by
  unfold State.tpllLocked
  have started : n ≤ s.startLoops.now := (State.startLoops_same _).le_now h
  split
  · exact h
  · exact le_now_ite ((State.clockClear_same _).le_now h) (le_now_ite (State.le_now_release _ _ started) started)

theorem State.le_now_loopLocked {n : Nat} (s : State) (t l i g : Nat) (h : n ≤ s.now) : n ≤ (s.loopLocked t l i g).now := by
  unfold State.loopLocked
  extract_lets +onlyGivenNames -merge watch
  split
  · exact s.le_now_tpllLocked h
  · exact (State.clockClear_same _).le_now ((State.setGood_same ..).le_now h)
  · extract_lets s1
    have n1 : n ≤ s1.now := (State.setGood_same ..).le_now h
    exact le_now_ite n1 n1
  · exact (State.piersFollow_same ..).le_now ((State.setGood_same ..).le_now h)
  · exact (State.crossingReset_same ..).le_now ((State.setGood_same ..).le_now h)

/-! ### The commands that write the count -/

theorem execForwardStep_notBefore (s : State) (a : Nat) : NotBefore s.now (execForwardStep a s) := by
  have n1 := now_enter s a
  unfold execForwardStep
  extract_lets +onlyGivenNames -merge s1
  split
  · exact .ite (.ite (.mk (State.le_now_forwardStep _ _ _ n1)) (.mk n1)) (.mk n1)
  · exact .mk n1

/-- A decided backward step is dropped while a stream or a sequencer is enabled (R49). -/
theorem execBackwardStep_while_enabled {s t : State} {a : Nat} (hi : s.idle = false) (h : execBackwardStep a s = .next t) :
    t.now = (s.enter a).now ∧ t.dict = s.dict ∧ ∀ d, t.time.step ≠ some (.backward d) := by
  have on : ¬ (s.enter a).idle = true := fun e => Bool.false_ne_true (hi.symm.trans e)
  unfold execBackwardStep at h
  dsimp only at h
  split at h
  · rw [if_neg (fun e => on e.2.1)] at h
    cases h
    exact ⟨rfl, rfl, fun d e => nomatch e⟩
  · next other =>
    cases h
    exact ⟨rfl, rfl, fun d e => other d e⟩

theorem execBackwardStep_notBefore (s : State) (a : Nat) (hi : s.idle = false) : NotBefore s.now (execBackwardStep a s) :=
  fun _ h => (execBackwardStep_while_enabled hi h).1 ▸ now_enter s a

theorem execTimeLoadEffect_notBefore (s : State) (a : Nat) (hi : s.idle = false) : NotBefore s.now (execTimeLoadEffect a s) := by
  have n1 := now_enter s a
  unfold execTimeLoadEffect
  extract_lets +onlyGivenNames -merge s1
  split
  · split
    · exact .ite (.mk (s1.le_now_loadEffect _ _ hi n1)) (.mk n1)
    · exact .mk n1
  · exact .mk n1

theorem execPpsInEdge_notBefore (s : State) (a base code : Nat) (hi : s.idle = false) :
    NotBefore s.now (execPpsInEdge a base code s) :=
  .mk ((State.inputMoved_same ..).le_now (State.le_now_edgeIn _ _ _ _ _ hi (now_enter s a)))

theorem execThresholdEdge_notBefore (s : State) (a : Nat) (src : Fin 201) (base code : Nat) (inp : PinInput)
    (hi : s.idle = false) : NotBefore s.now (execThresholdEdge a src base code inp s) := by
  have n1 := now_enter s a
  unfold execThresholdEdge
  extract_lets +onlyGivenNames -merge s1 moving old
  refine .mk ((State.inputMoved_same ..).le_now (State.le_now_edgeIn _ _ _ _ _ ?_ (le_now_ite n1 n1)))
  split <;> exact hi

theorem execPllLock_notBefore (s : State) (a : Nat) (l : Fin 5) (i g : Nat) : NotBefore s.now (execPllLock a l i g s) := by
  have n1 := now_enter s a
  unfold execPllLock
  extract_lets +onlyGivenNames -merge s1 took s2
  exact .ite (.mk ((State.wakeDone_same _).le_now (s2.le_now_loopLocked _ _ _ _ n1))) (.mk n1)

theorem execClockFailure_notBefore (s : State) (a : Nat) (code : Fin 12) (stopped : Bool) (x r i g : Nat) :
    NotBefore s.now (execClockFailure a code stopped x r i g s) := by
  have n1 := now_enter s a
  unfold execClockFailure
  extract_lets +onlyGivenNames -merge s1
  exact .ite (.mk n1) (.mk (s1.le_now_failure _ _ _ _ _ _ _ n1))

theorem execDomainRelease_notBefore (s : State) (a : Nat) : NotBefore s.now (execDomainRelease a s) := by
  have n1 := now_enter s a
  unfold execDomainRelease
  extract_lets +onlyGivenNames -merge s1
  split
  · exact .ite (.mk n1) (.mk (s1.le_now_release _ n1))
  · exact .mk n1

/-! ### Every command -/

/-- While a stream or a sequencer is enabled no command but a device reset lets Garnet time run backwards (R49). -/
theorem exec_notBefore (c : Instr) (s : State) (hi : s.idle = false) (hr : c.isReset = false) :
    NotBefore s.now (exec c s) := by
  cases c with
  | powerOn => exact Bool.noConfusion hr
  | resetNAssert => exact Bool.noConfusion hr
  | startUpStepEnd => exact (execStartUpStepEnd_only ..).notBefore
  | brownOut => exact (execBrownOut_only ..).notBefore
  | railLow => exact (execRailLow_only ..).notBefore
  | sourceReady => exact (execSourceReady_only ..).notBefore
  | pllLock => exact execPllLock_notBefore _ _ _ _ _
  | clockFailure => exact execClockFailure_notBefore _ _ _ _ _ _ _ _
  | safeHoldEntry => exact (execSafeHoldEntry_only ..).notBefore
  | safeHoldRetry => exact (execSafeHoldRetry_only ..).notBefore
  | domainRelease => exact execDomainRelease_notBefore _ _
  | autoReturn => exact (execAutoReturn_only ..).notBefore
  | clkReturn => exact (execClkReturn_only ..).notBefore
  | sourceSelectWrite => exact (execSourceSelectWrite_only ..).notBefore
  | forceSrcWrite => exact (execForceSrcWrite_only ..).notBefore
  | jasperPointWrite => exact (execJasperPointWrite_only ..).notBefore
  | dvfsDwellEnd => exact (execDvfsDwellEnd_only ..).notBefore
  | pgoodTimeout => exact (execPgoodTimeout_only ..).notBefore
  | pgoodFall => exact (execPgoodFall_only ..).notBefore
  | pgoodRise => exact (execPgoodRise_only ..).notBefore
  | pwrCmd => exact (execPwrCmd_only ..).notBefore
  | pwrPierCmd => exact (execPwrPierCmd_only ..).notBefore
  | powerStateEffect => exact (execPowerStateEffect_only ..).notBefore
  | wakeEvent => exact (execWakeEvent_only ..).notBefore
  | unitWake => exact (execUnitWake_only ..).notBefore
  | watchdogExpiry => exact (execWatchdogExpiry_only ..).notBefore
  | fwConfirm => exact (execFwConfirm_only ..).notBefore
  | ageHour => exact (execAgeHour_only ..).notBefore
  | tjSample => exact (execTjSample_only ..).notBefore
  | timeLoadCmd => exact (execTimeLoadCmd_only ..).notBefore
  | timeLoadEffect => exact execTimeLoadEffect_notBefore _ _ hi
  | ptpMessageRx => exact (execPtpMessageRx_only ..).notBefore
  | announceTimeout => exact (execAnnounceTimeout_only ..).notBefore
  | servoSlewTick => exact (execServoSlewTick_only ..).notBefore
  | forwardStep => exact execForwardStep_notBefore _ _
  | backwardStep => exact execBackwardStep_notBefore _ _ hi
  | ppsOutEdge => exact (execPpsOutEdge_only ..).notBefore
  | ppsInEdge => exact execPpsInEdge_notBefore _ _ _ _ hi
  | froMeasurement => exact (execFroMeasurement_only ..).notBefore
  | tdcCalWindowEnd => exact (execTdcCalWindowEnd_only ..).notBefore
  | tdcTableUpdate => exact (execTdcTableUpdate_only ..).notBefore
  | thresholdEdge => exact execThresholdEdge_notBefore _ _ _ _ _ _ hi
  | tdcResample => exact (execTdcResample_only ..).notBefore
  | deglitchEnd => exact (execDeglitchEnd_only ..).notBefore
  | digitalSample => exact (execDigitalSample_only ..).notBefore
  | fcZoneChange => exact (execFcZoneChange_only ..).notBefore
  | eventDelivery => exact (execEventDelivery_only ..).notBefore
  | bufDrop => exact (execBufDrop_only ..).notBefore
  | lossAccountClose => exact (execLossAccountClose_only ..).notBefore
  | causewayRelease => exact (execCausewayRelease_only ..).notBefore
  | frameAgeClose => exact (execFrameAgeClose_only ..).notBefore
  | streamFlush => exact (execStreamFlush_only ..).notBefore
  | keystoneItem => exact (execKeystoneItem_only ..).notBefore
  | deadlineItem => exact (execDeadlineItem_only ..).notBefore
  | markOutSend => exact (execMarkOutSend_only ..).notBefore
  | timedActionExec => exact (execTimedActionExec_only ..).notBefore
  | pulseEnd => exact (execPulseEnd_only ..).notBefore
  | guardSafeAll => exact (execGuardSafeAll_only ..).notBefore
  | guardSafeRelease => exact (execGuardSafeRelease_only ..).notBefore
  | vdSafeRelease => exact (execVdSafeRelease_only ..).notBefore
  | exSafeRelease => exact (execExSafeRelease_only ..).notBefore
  | safeReleaseEffect => exact (execSafeReleaseEffect_only ..).notBefore
  | exFlagSet => exact (execExFlagSet_only ..).notBefore
  | exFlagClear => exact (execExFlagClear_only ..).notBefore
  | exSwap => exact (execExSwap_only ..).notBefore
  | biasOverload => exact (execBiasOverload_only ..).notBefore
  | caAutoTrip => exact (execCaAutoTrip_only ..).notBefore
  | caPeriodicReset => exact (execCaPeriodicReset_only ..).notBefore
  | caResetCmd => exact (execCaResetCmd_only ..).notBefore
  | caResetEnd => exact (execCaResetEnd_only ..).notBefore
  | clampSet => exact (execClampSet_only ..).notBefore
  | clampClear => exact (execClampClear_only ..).notBefore
  | toneBurst => exact (execToneBurst_only ..).notBefore
  | toneResult => exact (execToneResult_only ..).notBefore
  | sampleOutput => exact (execSampleOutput_only ..).notBefore
  | calUserCommit => exact (execCalUserCommit_only ..).notBefore
  | rotationSlot => exact (execRotationSlot_only ..).notBefore
  | rotationDecision => exact (execRotationDecision_only ..).notBefore
  | referenceCycleEnd => exact (execReferenceCycleEnd_only ..).notBefore
  | pierSliceRetest => exact (execPierSliceRetest_only ..).notBefore
  | caissonRecord => exact (execCaissonRecord_only ..).notBefore
  | snapshotFraming => exact (execSnapshotFraming_only ..).notBefore
  | caissonRearm => exact (execCaissonRearm_only ..).notBefore
  | berylEngineTake => exact (execBerylEngineTake_only ..).notBefore
  | berylComplete => exact (execBerylComplete_only ..).notBefore
  | frameToHead => exact (execFrameToHead_only ..).notBefore
  | spanMove => exact (execSpanMove_only ..).notBefore
  | spanRestart => exact (execSpanRestart_only ..).notBefore
  | fetchStart => exact (execFetchStart_only ..).notBefore
  | fetchAbort => exact (execFetchAbort_only ..).notBefore
  | fetchFrame => exact (execFetchFrame_only ..).notBefore
  | refreshSlot => exact (execRefreshSlot_only ..).notBefore
  | scrubSlot => exact (execScrubSlot_only ..).notBefore
  | tmrScrub => exact (execTmrScrub_only ..).notBefore
  | configEffect => exact (execConfigEffect_only ..).notBefore
  | dictSnapshot => exact (execDictSnapshot_only ..).notBefore
  | snapshotTake => exact (execSnapshotTake_only ..).notBefore
  | slowWriteApply => exact (execSlowWriteApply_only ..).notBefore
  | registerWrite => exact (execRegisterWrite_only ..).notBefore
  | wideWordWrite => exact (execWideWordWrite_only ..).notBefore
  | wideLowRead => exact (execWideLowRead_only ..).notBefore
  | configRequest => exact (execConfigRequest_only ..).notBefore
  | perstNFall => exact (execPerstNFall_only ..).notBefore
  | hotReset => exact (execHotReset_only ..).notBefore
  | linkDown => exact (execLinkDown_only ..).notBefore
  | linkUp => exact (execLinkUp_only ..).notBefore
  | inboundTlpError => exact (execInboundTlpError_only ..).notBefore
  | portResume => exact (execPortResume_only ..).notBefore
  | portRestart => exact (execPortRestart_only ..).notBefore
  | ringEnable => exact (execRingEnable_only ..).notBefore
  | ringDisable => exact (execRingDisable_only ..).notBefore
  | doorbellHostPtr => exact (execDoorbellHostPtr_only ..).notBefore
  | doorbellHostSeen => exact (execDoorbellHostSeen_only ..).notBefore
  | descriptorRead => exact (execDescriptorRead_only ..).notBefore
  | completionRx => exact (execCompletionRx_only ..).notBefore
  | completionTimeout => exact (execCompletionTimeout_only ..).notBefore
  | tagQuarantineEnd => exact (execTagQuarantineEnd_only ..).notBefore
  | frameDeliver => exact (execFrameDeliver_only ..).notBefore
  | idleClose => exact (execIdleClose_only ..).notBefore
  | irqMessage => exact (execIrqMessage_only ..).notBefore
  | irqAck => exact (execIrqAck_only ..).notBefore
  | windowEnable => exact (execWindowEnable_only ..).notBefore
  | windowDisable => exact (execWindowDisable_only ..).notBefore
  | windowDrained => exact (execWindowDrained_only ..).notBefore
  | bar4Read => exact (execBar4Read_only ..).notBefore
  | bar4Write => exact (execBar4Write_only ..).notBefore
  | ethFrameRx => exact (execEthFrameRx_only ..).notBefore
  | ringTestSend => exact (execRingTestSend_only ..).notBefore
  | ringTestTimeout => exact (execRingTestTimeout_only ..).notBefore
  | markOutRx => exact (execMarkOutRx_only ..).notBefore
  | identify => exact (execIdentify_only ..).notBefore
  | sessionOpen => exact (execSessionOpen_only ..).notBefore
  | sessionAuthKeys => exact (execSessionAuthKeys_only ..).notBefore
  | sessionAuthSign => exact (execSessionAuthSign_only ..).notBefore
  | sessionClose => exact (execSessionClose_only ..).notBefore
  | sessionIdleTimeout => exact (execSessionIdleTimeout_only ..).notBefore
  | ownershipTake => exact (execOwnershipTake_only ..).notBefore
  | ownershipRelease => exact (execOwnershipRelease_only ..).notBefore
  | cdpRead => exact (execCdpRead_only ..).notBefore
  | cdpWrite => exact (execCdpWrite_only ..).notBefore
  | readMulti => exact (execReadMulti_only ..).notBefore
  | writeMulti => exact (execWriteMulti_only ..).notBefore
  | cdpEnable => exact (execCdpEnable_only ..).notBefore
  | cdpDisable => exact (execCdpDisable_only ..).notBefore
  | snapshotCounters => exact (execSnapshotCounters_only ..).notBefore
  | cdpResponseSend => exact (execCdpResponseSend_only ..).notBefore
  | subscribePeriodic => exact (execSubscribePeriodic_only ..).notBefore
  | subscribeOnChange => exact (execSubscribeOnChange_only ..).notBefore
  | subscribeStream => exact (execSubscribeStream_only ..).notBefore
  | subscribeAlerts => exact (execSubscribeAlerts_only ..).notBefore
  | subscribeCancel => exact (execSubscribeCancel_only ..).notBefore
  | eventAcknowledge => exact (execEventAcknowledge_only ..).notBefore
  | subscriptionTimer => exact (execSubscriptionTimer_only ..).notBefore
  | eventSend => exact (execEventSend_only ..).notBefore
  | eventResend => exact (execEventResend_only ..).notBefore
  | attest => exact (execAttest_only ..).notBefore
  | cdpSave => exact (execCdpSave_only ..).notBefore
  | cdpLoad => exact (execCdpLoad_only ..).notBefore
  | storeSave => exact (execStoreSave_only ..).notBefore
  | storeSaveSigned => exact (execStoreSaveSigned_only ..).notBefore
  | storeLoadCurrent => exact (execStoreLoadCurrent_only ..).notBefore
  | storeLoadA => exact (execStoreLoadA_only ..).notBefore
  | storeLoadB => exact (execStoreLoadB_only ..).notBefore
  | saveComplete => exact (execSaveComplete_only ..).notBefore
  | fwStage => exact (execFwStage_only ..).notBefore
  | fwActivate => exact (execFwActivate_only ..).notBefore
  | ethLinkDown => exact (execEthLinkDown_only ..).notBefore
  | ethLinkUp => exact (execEthLinkUp_only ..).notBefore
  | ptpMessageSend => exact (execPtpMessageSend_only ..).notBefore
  | esmcPduSend => exact (execEsmcPduSend_only ..).notBefore
  | brownOutClear => exact (execBrownOutClear_only ..).notBefore
  | railLowClear => exact (execRailLowClear_only ..).notBefore
  | perstNRise => exact (execPerstNRise_only ..).notBefore
  | resetNRelease => exact Bool.noConfusion hr
  | msixVectorUnmask => exact (execMsixVectorUnmask_only ..).notBefore

/-- Settles O11: only eight commands and the resets write the count at all, and of these the backward step and the loads give way
to an enabled stream or sequencer, the others add to it. -/
theorem recordsTime : Obligations.RecordsTime := by
  intro c s t h on
  have hi : s.idle = false := s.idle_eq_false.mpr on
  refine ⟨?_, fun hr => exec_notBefore c s hi hr t h⟩
  rintro u rfl
  exact execBackwardStep_while_enabled hi h

end Sys2Proof.Machine
end

section
/-! SUPPORT. The partner fault log, and the PTP messages that it counts (R43, R388, R389). -/
namespace Sys2Proof.Machine

/-! ### The partner fault log -/

/-- A kind that was not logged within the last 10 µs is logged (R389). -/
theorem State.partnerFault_logged (s : State) (source peer kind detail : Nat)
    (h : ∀ a, tfind s.pflLast kind = some a → a + 2560000 ≤ s.now) :
    s.partnerFault source peer kind detail = (s.cnt Ix.pflKindCount kind).pflEntry source peer kind detail := by
  have g : Same allRegs s (s.cnt Ix.pflKindCount kind) := State.cnt_same _ _ _ (by decide)
  unfold State.partnerFault
  extract_lets s1
  split
  · next a ha =>
    rw [g.pflLast rfl] at ha
    rw [if_neg (by rw [g.now rfl]; exact Nat.not_lt.mpr (h a ha))]
  · rfl

/-- A kind that was logged within the last 10 µs is counted as suppressed (R389). -/
theorem State.partnerFault_suppressed (s : State) (source peer kind detail : Nat)
    (h : ∃ a, tfind s.pflLast kind = some a ∧ s.now < a + 2560000) :
    s.partnerFault source peer kind detail = (s.cnt Ix.pflKindCount kind).cnt Ix.pflSuppressed 0 := by
  obtain ⟨a, ha, hn⟩ := h
  have g : Same allRegs s (s.cnt Ix.pflKindCount kind) := State.cnt_same _ _ _ (by decide)
  rw [← g.pflLast rfl] at ha
  rw [← g.now rfl] at hn
  unfold State.partnerFault
  extract_lets s1
  rw [ha]
  exact if_pos hn

/-- Logged or not, the kind is counted (R388). -/
theorem par_partnerFault_kindCount (s : State) (source peer kind detail : Nat) (w : Dict.wf s.dict) :
    (s.partnerFault source peer kind detail).par Ix.pflKindCount kind = cntNext (s.par Ix.pflKindCount kind) := by
  have counted := par_cnt_self s Ix.pflKindCount kind w (by decide) (by decide)
  have w1 := dictWf_cnt s Ix.pflKindCount kind w
  have entered : ((s.cnt Ix.pflKindCount kind).pflEntry source peer kind detail).par Ix.pflKindCount kind
      = (s.cnt Ix.pflKindCount kind).par Ix.pflKindCount kind := (State.pflEntry_same ..).pars w1 _ _ rfl
  by_cases h : ∃ a, tfind s.pflLast kind = some a ∧ s.now < a + 2560000
  · rw [State.partnerFault_suppressed _ _ _ _ _ h, ← counted]
    exact par_cnt_other _ _ _ _ _ w1 (fun e => absurd (key_index e) (by decide)) (by decide) (by decide)
  · rw [State.partnerFault_logged _ _ _ _ _ (fun a ha => Nat.not_lt.mp (fun hn => h ⟨a, ha, hn⟩)), entered, counted]

/-- The words of an entry are written at its own index alone. -/
abbrev entryMask : Nat := 0x20 ||| 1 <<< (42 + regNo Ix.pflEntry)

theorem par_cntW_self (s : State) (ix sub n : Nat) (w : Dict.wf s.dict) :
    (s.cntW ix sub n).par ix sub = (s.par ix sub + n) % 2 ^ 64 := par_setPar_self s ix sub _ w

/-- An entry is numbered on (R388). -/
theorem par_pflEntry_written (s : State) (source peer kind detail : Nat) (w : Dict.wf s.dict) :
    (s.pflEntry source peer kind detail).par Ix.pflWritten 0 = (s.par Ix.pflWritten 0 + 1) % 2 ^ 64 := by
  unfold State.pflEntry
  extract_lets +onlyGivenNames -merge n ix put s1 s2
  have hp : ∀ u i v, Same entryMask s u → Same entryMask s (put u i v) :=
    fun u i v h => h.next (State.setPar_same _ _ _ _ (inM_nth _ rfl))
  have h2 : Same entryMask s s2 := hp _ _ _ (hp _ _ _ (hp _ _ _ (hp _ _ _ (hp _ _ _ (hp _ _ _ (Same.refl _ _))))))
  have e2 : s2.par Ix.pflWritten 0 = s.par Ix.pflWritten 0 := h2.pars w _ _ rfl
  have w2 : Dict.wf s2.dict := h2.dictWf w
  have g : ∀ x c d, Same 0x4800000000 (s2.cntW Ix.pflWritten 0 1)
      (State.alert { s2.cntW Ix.pflWritten 0 1 with pflLast := x } c d) :=
    fun _ _ _ => Same.then (Same.set_pflLast _ (Same.refl _ _) rfl) (State.alert_same ..) rfl
  rw [← e2, ← par_cntW_self s2 _ _ 1 w2]
  exact (g _ _ _).pars (dictWf_setPar _ _ _ _ w2) _ _ rfl

/-- The instant of an entry is kept for its kind (R389). -/
theorem State.pflEntry_last (s : State) (source peer kind detail : Nat) :
    tfind (s.pflEntry source peer kind detail).pflLast kind = some s.now := by
  unfold State.pflEntry
  extract_lets n ix put s1 s2
  exact (tfind_tset s2.pflLast kind kind s.now).trans (if_pos rfl)

/-! ### A malformed PTP message -/

/-- The state after a malformed message: it is counted, and its sender has a fault (R43). -/
def State.ptpDiscard (s : State) (port : Nat) (m : PtpMsg) (r : Nat) : State :=
  (s.cnt Ix.netPtpMalformed 0).partnerFault (1 + port) m.peer 32 (m.kind % 256 * 256 + r)

theorem execPtpMessageRx_of_ptpFails {s : State} {port : Fin 2} {m : PtpMsg} {r : Nat} (t : Nat) (up : s.portUp port = true)
    (h : ptpFails m = some r) : execPtpMessageRx t port m s = .next ((s.enter t).ptpDiscard port m r) := by
  unfold execPtpMessageRx
  extract_lets s1
  have up1 : s1.portUp port = true := up
  rw [if_pos up1, State.ptpReceive, h]
  rfl

/-- Discarding writes counters and the log alone. -/
theorem State.ptpDiscard_same (s : State) (port : Nat) (m : PtpMsg) (r : Nat) :
    Same (mask223 ||| 1 <<< (42 + regNo Ix.netPtpMalformed)) s (s.ptpDiscard port m r) :=
  Same.then (State.cnt_same _ _ _ rfl) (State.partnerFault_same ..) rfl

theorem par_ptpDiscard_malformed (s : State) (port : Nat) (m : PtpMsg) (r : Nat) (w : Dict.wf s.dict) :
    (s.ptpDiscard port m r).par Ix.netPtpMalformed 0 = cntNext (s.par Ix.netPtpMalformed 0) :=
  ((State.partnerFault_same ..).pars (dictWf_cnt _ _ _ w) _ _ rfl).trans (par_cnt_self _ _ _ w (by decide) (by decide))

theorem par_ptpDiscard_kindCount (s : State) (port : Nat) (m : PtpMsg) (r : Nat) (w : Dict.wf s.dict) :
    (s.ptpDiscard port m r).par Ix.pflKindCount 32 = cntNext (s.par Ix.pflKindCount 32) := by
  have e : (s.cnt Ix.netPtpMalformed 0).par Ix.pflKindCount 32 = s.par Ix.pflKindCount 32 :=
    par_cnt_other _ _ _ _ _ w (by decide) (by decide) (by decide)
  rw [← e]
  exact par_partnerFault_kindCount _ _ _ _ _ (dictWf_cnt _ _ _ w)

theorem completes_of_ptpFails {s : State} {port : Fin 2} {m : PtpMsg} {r t : Nat} {P : State → Prop}
    (up : s.portUp port = true) (h : ptpFails m = some r) (hp : P ((s.enter t).ptpDiscard port m r)) :
    Completes (.ptpMessageRx t port m) s P := ⟨_, execPtpMessageRx_of_ptpFails t up h, hp⟩

/-- Both counters of a malformed message have counted (R43, R388). -/
def State.ptpCounted (s : State) : State := (s.cnt Ix.netPtpMalformed 0).cnt Ix.pflKindCount 32

/-- The two counters, and what a step into saturation writes. -/
abbrev ptpCountersMask : Nat := 0x20 ||| 1 <<< (42 + regNo Ix.netPtpMalformed) ||| 1 <<< (42 + regNo Ix.pflKindCount)
  ||| 1 <<< (42 + regNo Ix.dictSatCount) ||| 1 <<< (42 + regNo Ix.dictSatLast)

theorem State.cnt_malformed_same (s : State) : Same ptpCountersMask s (s.cnt Ix.netPtpMalformed 0) := State.cnt_same _ _ _ rfl

theorem State.ptpCounted_same (s : State) : Same ptpCountersMask s s.ptpCounted :=
  s.cnt_malformed_same.next (State.cnt_same _ _ _ rfl)

theorem State.ptpDiscard_eq_pflEntry (s : State) (port : Nat) (m : PtpMsg) (r : Nat)
    (h : ∀ a, tfind s.pflLast 32 = some a → a + 2560000 ≤ s.now) :
    s.ptpDiscard port m r = s.ptpCounted.pflEntry (1 + port) m.peer 32 (m.kind % 256 * 256 + r) :=
  State.partnerFault_logged _ _ _ _ _ (by rwa [s.cnt_malformed_same.pflLast rfl, s.cnt_malformed_same.now rfl])

theorem State.ptpDiscard_eq_suppressed (s : State) (port : Nat) (m : PtpMsg) (r : Nat)
    (h : ∃ a, tfind s.pflLast 32 = some a ∧ s.now < a + 2560000) :
    s.ptpDiscard port m r = s.ptpCounted.cnt Ix.pflSuppressed 0 :=
  State.partnerFault_suppressed _ _ _ _ _ (by rwa [s.cnt_malformed_same.pflLast rfl, s.cnt_malformed_same.now rfl])

/-- The entry of a message that is logged. -/
theorem State.ptpDiscard_logged (s : State) (port : Nat) (m : PtpMsg) (r : Nat) (w : Dict.wf s.dict)
    (h : ∀ a, tfind s.pflLast 32 = some a → a + 2560000 ≤ s.now) :
    (s.ptpDiscard port m r).par Ix.pflWritten 0 = (s.par Ix.pflWritten 0 + 1) % 2 ^ 64
      ∧ tfind (s.ptpDiscard port m r).pflLast 32 = some s.now := by
  have g := s.ptpCounted_same
  have before : s.ptpCounted.par Ix.pflWritten 0 = s.par Ix.pflWritten 0 := g.pars w _ _ rfl
  rw [s.ptpDiscard_eq_pflEntry port m r h, ← before, ← g.now rfl]
  exact ⟨par_pflEntry_written _ _ _ _ _ (g.dictWf w), State.pflEntry_last ..⟩

theorem par_ptpDiscard_suppressed (s : State) (port : Nat) (m : PtpMsg) (r : Nat) (w : Dict.wf s.dict)
    (h : ∃ a, tfind s.pflLast 32 = some a ∧ s.now < a + 2560000) :
    (s.ptpDiscard port m r).par Ix.pflSuppressed 0 = cntNext (s.par Ix.pflSuppressed 0) := by
  have g := s.ptpCounted_same
  have before : s.ptpCounted.par Ix.pflSuppressed 0 = s.par Ix.pflSuppressed 0 := g.pars w _ _ rfl
  rw [s.ptpDiscard_eq_suppressed port m r h, ← before]
  exact par_cnt_self _ _ _ (g.dictWf w) (by decide) (by decide)

/-- Settles O26: a malformed message goes into the counters and the partner fault log, whose frame leaves the rest. -/
theorem malformedPtp : Obligations.MalformedPtp := by
  intro s t r port m inv s1 kept counted
  have w : Dict.wf s1.dict := inv.2.1
  have g := s1.ptpDiscard_same port m r
  have hk : kept (s1.ptpDiscard port m r) :=
    ⟨g.out rfl, g.now rfl, g.time rfl, g.pars w _ _ rfl, g.pars w _ _ rfl, fun _ => g.pars w _ _ rfl⟩
  have hc : counted (s1.ptpDiscard port m r) := ⟨par_ptpDiscard_malformed s1 _ _ _ w, par_ptpDiscard_kindCount s1 _ _ _ w⟩
  exact ⟨fun up hf h => completes_of_ptpFails up hf ⟨hk, hc, s1.ptpDiscard_logged _ _ _ w h⟩,
    fun up hf h => completes_of_ptpFails up hf ⟨hk, hc, par_ptpDiscard_suppressed s1 _ _ _ w h⟩⟩

end Sys2Proof.Machine
end

section
/-! SUPPORT. A write of 1 to WIN.ENABLE of a DISABLED window, by the rules of Table 9 (R308). -/
namespace Sys2Proof.Machine

/-- No rule of Table 9 has the number 0, which stands for no refusal. -/
theorem State.windowFails_ne_some_zero (s : State) (n : Nat) : s.windowFails n ≠ some 0 := by
  unfold State.windowFails
  extract_lets z o t w
  repeat' split
  all_goals decide

theorem State.windowFails_eq_none_of_getD (s : State) (n : Nat) (h : (s.windowFails n).getD 0 = 0) : s.windowFails n = none := by
  cases e : s.windowFails n with
  | none => rfl
  | some r => exact absurd (e.trans (congrArg some (by simpa [e] using h))) (s.windowFails_ne_some_zero n)

theorem State.windowFails_eq_some_of_getD (s : State) (n : Nat) (h : (s.windowFails n).getD 0 ≠ 0) :
    s.windowFails n = some ((s.windowFails n).getD 0) := by
  cases e : s.windowFails n with
  | none => exact absurd (by rw [e]; rfl) h
  | some r => rfl

/-- A window has a byte, so that its target lies in the trained DRAM when both ends do. -/
theorem State.inDram_window (s : State) (n : Nat) : s.inDram (s.winTarget n) (s.winTarget n + 2 ^ s.par Ix.winSizeLog2 n)
    = (decide (dramBase ≤ s.winTarget n) && decide (s.winTarget n + 2 ^ s.par Ix.winSizeLog2 n ≤ dramBase + s.dramBytes)) := by
  have nonempty : s.winTarget n < s.winTarget n + 2 ^ s.par Ix.winSizeLog2 n := Nat.lt_add_of_pos_right (Nat.two_pow_pos _)
  rw [State.inDram, decide_eq_true nonempty, Bool.and_true]

/-- A DISABLED window that keeps every rule is ENABLED. -/
theorem State.windowEnable_passes (s : State) (n : Nat) (w : Dict.wf s.dict) (off : s.par Ix.winState n = 0)
    (h : s.windowFails n = none) : (s.windowEnable n).par Ix.winEnable n = 1 ∧ (s.windowEnable n).par Ix.winState n = 1
      ∧ (s.windowEnable n).par Ix.winRefused n = s.par Ix.winRefused n := by
  have e : s.windowEnable n = (s.setPar Ix.winEnable n 1).setPar Ix.winState n 1 := by
    simp [State.windowEnable, off, h]
  have w1 := dictWf_setPar s Ix.winEnable n 1 w
  rw [e]
  refine ⟨?_, par_setPar_self _ _ _ _ w1, ?_⟩
  · rw [par_setPar_other _ _ _ _ _ _ w1 (by decide), par_setPar_self _ _ _ _ w]
  · rw [par_setPar_other _ _ _ _ _ _ w1 (by decide), par_setPar_other _ _ _ _ _ _ w (by decide)]

/-- A DISABLED window that fails a rule stays as it is, and the refusal is counted with its reason. -/
theorem State.windowEnable_fails (s : State) (n r : Nat) (w : Dict.wf s.dict) (off : s.par Ix.winState n = 0)
    (h : s.windowFails n = some r) : (s.windowEnable n).par Ix.winEnable n = s.par Ix.winEnable n
      ∧ (s.windowEnable n).par Ix.winState n = s.par Ix.winState n
      ∧ (s.windowEnable n).par Ix.winRefused n = cntNext (s.par Ix.winRefused n)
      ∧ (s.windowEnable n).par Ix.winLastRefused n = r := by
  have e : s.windowEnable n = (s.cnt Ix.winRefused n).setPar Ix.winLastRefused n r := by
    simp [State.windowEnable, off, h]
  have w1 := dictWf_cnt s Ix.winRefused n w
  have kept (ix : Nat) (h1 : ix ≠ Ix.winLastRefused) (h2 : ix ≠ Ix.winRefused) (h3 : ix ≠ Ix.dictSatCount)
      (h4 : ix ≠ Ix.dictSatLast) : ((s.cnt Ix.winRefused n).setPar Ix.winLastRefused n r).par ix n = s.par ix n := by
    rw [par_setPar_other _ _ _ _ _ _ w1 h1, par_cnt_other _ _ _ _ _ w (fun k => h2 (key_index k)) h3 h4]
  rw [e]
  refine ⟨kept _ (by decide) (by decide) (by decide) (by decide), kept _ (by decide) (by decide) (by decide) (by decide), ?_,
    par_setPar_self _ _ _ _ w1⟩
  rw [par_setPar_other _ _ _ _ _ _ w1 (by decide), par_cnt_self _ _ _ w (by decide) (by decide)]

/-- Settles O53: the statement's reason is what the model's check answers, 0 where it answers none. -/
theorem windowEnable : Obligations.WindowEnable := by
  intro s t n inv z o g end_ dram sram laps reason
  have w : Dict.wf (s.enter t).dict := inv.2.1
  have hr : ((s.enter t).windowFails n).getD 0 = reason := by
    simp only [State.windowFails, State.inDram_window, apply_ite (Option.getD · 0), Option.getD_some, Option.getD_none]
    rfl
  refine ⟨fun off _ h0 => ⟨_, rfl, State.windowEnable_passes _ _ w off (State.windowFails_eq_none_of_getD _ _ (hr.trans h0))⟩,
    fun off stays h0 => ⟨_, rfl, ?_⟩⟩
  obtain ⟨he, hs, hc, hl⟩ := State.windowEnable_fails _ _ _ w off (State.windowFails_eq_some_of_getD _ _ (hr ▸ h0))
  exact ⟨he.trans stays, hs.trans off, hc, hl.trans hr⟩

end Sys2Proof.Machine
end

section
/-! SUPPORT. The frame of every command, by one mask each, and the statements that follow from it alone. -/
namespace Sys2Proof.Machine

/-! ### One mask for each command -/

/-- The parts and the parameters that a command's meaning may change, as a mask of Frame.lean. -/
def frameMask : Instr → Nat
  | .powerOn .. | .resetNAssert .. | .resetNRelease .. => mask206
  | .startUpStepEnd .. => mask348
  | .brownOut .. => mask319
  | .railLow .. => mask346
  | .sourceReady .. => mask335
  | .pllLock .. => mask308
  | .clockFailure .. => mask191
  | .safeHoldEntry .. => mask3
  | .safeHoldRetry .. => mask179
  | .domainRelease .. => mask83
  | .autoReturn .. | .clkReturn .. => mask187
  | .sourceSelectWrite .. | .forceSrcWrite .. | .calUserCommit .. | .slowWriteApply .. => mask9
  | .jasperPointWrite .. => mask325
  | .dvfsDwellEnd .. | .pgoodFall .. => mask82
  | .pgoodTimeout .. => mask320
  | .pgoodRise .. => mask107
  | .pwrCmd .. => mask262
  | .pwrPierCmd .. => mask139
  | .powerStateEffect .. => mask64
  | .wakeEvent .. => mask339
  | .unitWake .. => mask331
  | .watchdogExpiry .. => mask318
  | .fwConfirm .. => mask324
  | .ageHour .. => mask333
  | .tjSample .. => mask347
  | .timeLoadCmd .. => mask71
  | .timeLoadEffect .. => mask163
  | .ptpMessageRx .. => mask284
  | .announceTimeout .. => mask196
  | .servoSlewTick .. => mask329
  | .forwardStep .. => mask286
  | .backwardStep .. => mask111
  | .ppsOutEdge .. | .tdcTableUpdate .. => 0x40
  | .ppsInEdge .. | .thresholdEdge .. => mask33
  | .froMeasurement .. => mask209
  | .tdcCalWindowEnd .. => mask345
  | .tdcResample .. => 0x80
  | .deglitchEnd .. => mask298
  | .digitalSample .. => mask177
  | .fcZoneChange .. | .caResetEnd .. => mask116
  | .eventDelivery .. => mask80
  | .bufDrop .. => mask159
  | .lossAccountClose .. => mask323
  | .causewayRelease .. => mask355
  | .frameAgeClose .. => mask228
  | .streamFlush .. => mask292
  | .keystoneItem .. | .deadlineItem .. => mask86
  | .markOutSend .. => mask272
  | .timedActionExec .. => mask138
  | .pulseEnd .. => mask273
  | .guardSafeAll .. => mask305
  | .guardSafeRelease .. | .vdSafeRelease .. => mask216
  | .exSafeRelease .. => mask226
  | .safeReleaseEffect .. => mask311
  | .exFlagSet .. => mask312
  | .exFlagClear .. => mask161
  | .exSwap .. => 0xa0000
  | .biasOverload .. => mask140
  | .caAutoTrip .. | .caPeriodicReset .. => mask35
  | .caResetCmd .. => mask4
  | .clampSet .. | .clampClear .. => mask257
  | .toneBurst .. => mask79
  | .toneResult .. => mask313
  | .sampleOutput .. => mask95
  | .rotationSlot .. => mask341
  | .rotationDecision .. => mask194
  | .referenceCycleEnd .. => mask343
  | .pierSliceRetest .. => mask302
  | .caissonRecord .. => mask352
  | .snapshotFraming .. => mask157
  | .caissonRearm .. => mask39
  | .berylEngineTake .. => mask315
  | .berylComplete .. => mask309
  | .frameToHead .. => mask354
  | .spanMove .. => mask322
  | .spanRestart .. => mask195
  | .fetchStart .. => mask221
  | .fetchAbort .. => mask99
  | .fetchFrame .. => mask327
  | .refreshSlot .. => mask307
  | .scrubSlot .. => mask351
  | .tmrScrub .. => mask205
  | .configEffect .. => mask144
  | .dictSnapshot .. => 0x8000000000
  | .snapshotTake .. => mask293
  | .registerWrite .. | .wideWordWrite .. | .cdpWrite .. | .writeMulti .. | .cdpEnable .. | .cdpDisable .. => mask48
  | .wideLowRead .. => mask251
  | .configRequest .. | .irqMessage .. => mask17
  | .perstNFall .. => mask316
  | .hotReset .. => mask350
  | .linkDown .. => mask266
  | .linkUp .. => mask336
  | .inboundTlpError .. => mask289
  | .portResume .. | .portRestart .. | .ringEnable .. | .doorbellHostPtr .. | .doorbellHostSeen .. => mask7
  | .ringDisable .. => mask342
  | .descriptorRead .. => mask60
  | .completionRx .. => mask344
  | .completionTimeout .. => mask314
  | .tagQuarantineEnd .. => 0x400000000
  | .frameDeliver .. => mask326
  | .idleClose .. => mask74
  | .irqAck .. => mask16
  | .windowEnable .. => mask231
  | .windowDisable .. => mask270
  | .windowDrained .. => 0x40000000000000000000000000000000000000000000000000000000000000020
  | .bar4Read .. => mask338
  | .bar4Write .. => mask353
  | .ethFrameRx .. => mask306
  | .ringTestSend .. => 0x2
  | .ringTestTimeout .. => mask237
  | .markOutRx .. => mask349
  | .identify .. | .sessionAuthSign .. | .subscribePeriodic .. | .subscribeOnChange .. | .subscribeAlerts .. => mask15
  | .sessionOpen .. => mask277
  | .sessionAuthKeys .. | .attest .. => mask112
  | .sessionClose .. => mask340
  | .sessionIdleTimeout .. => mask93
  | .ownershipTake .. | .ownershipRelease .. => mask173
  | .cdpRead .. | .readMulti .. => mask20
  | .snapshotCounters .. => mask334
  | .cdpResponseSend .. => mask78
  | .subscribeStream .. | .subscribeCancel .. => mask27
  | .eventAcknowledge .. => mask317
  | .subscriptionTimer .. => 0x800000002
  | .eventSend .. => mask321
  | .eventResend .. => mask337
  | .cdpSave .. => mask14
  | .cdpLoad .. => mask201
  | .storeSave .. | .storeSaveSigned .. => mask114
  | .storeLoadCurrent .. | .storeLoadA .. | .storeLoadB .. => mask32
  | .saveComplete .. => mask310
  | .fwStage .. => mask234
  | .fwActivate .. => mask165
  | .ethLinkDown .. => mask123
  | .ethLinkUp .. => 0x10000000000000000000000000000000000000000000000000000000000000000000020
  | .ptpMessageSend .. => 0x42
  | .esmcPduSend .. => 0x6
  | .brownOutClear .. => mask330
  | .railLowClear .. => 0x2000000000000000000000000000000000000000000000000000000000000000000000000000000000020
  | .perstNRise .. => mask328
  | .msixVectorUnmask .. => mask332

theorem Only.mono {m k : Nat} {s : State} {o : Host.Outcome State Fault Refusal} (h : Only k s o) (hk : k ||| m = m) :
    Only m s o := by
  obtain ⟨u, e, g⟩ := h
  exact ⟨u, e, Same.mono g hk⟩

/-- Every command but a device reset answers a next state, and changes after time has passed to it no more than its mask holds. -/
theorem exec_entered (c : Instr) (s : State) (h : c.isReset = false) : ∃ a, Only (frameMask c) (s.enter a) (exec c s) := by
  cases c with
  | powerOn => exact Bool.noConfusion h
  | resetNAssert => exact Bool.noConfusion h
  | startUpStepEnd => exact ⟨_, execStartUpStepEnd_only ..⟩
  | brownOut => exact ⟨_, execBrownOut_only ..⟩
  | railLow => exact ⟨_, execRailLow_only ..⟩
  | sourceReady => exact ⟨_, execSourceReady_only ..⟩
  | pllLock => exact ⟨_, execPllLock_only ..⟩
  | clockFailure => exact ⟨_, execClockFailure_only ..⟩
  | safeHoldEntry => exact ⟨_, execSafeHoldEntry_only ..⟩
  | safeHoldRetry => exact ⟨_, execSafeHoldRetry_only ..⟩
  | domainRelease => exact ⟨_, execDomainRelease_only ..⟩
  | autoReturn => exact ⟨_, execAutoReturn_only ..⟩
  | clkReturn => exact ⟨_, execClkReturn_only ..⟩
  | sourceSelectWrite => exact ⟨_, execSourceSelectWrite_only ..⟩
  | forceSrcWrite => exact ⟨_, execForceSrcWrite_only ..⟩
  | jasperPointWrite => exact ⟨_, execJasperPointWrite_only ..⟩
  | dvfsDwellEnd => exact ⟨_, execDvfsDwellEnd_only ..⟩
  | pgoodTimeout => exact ⟨_, execPgoodTimeout_only ..⟩
  | pgoodFall => exact ⟨_, execPgoodFall_only ..⟩
  | pgoodRise => exact ⟨_, execPgoodRise_only ..⟩
  | pwrCmd => exact ⟨_, execPwrCmd_only ..⟩
  | pwrPierCmd => exact ⟨_, execPwrPierCmd_only ..⟩
  | powerStateEffect => exact ⟨_, execPowerStateEffect_only ..⟩
  | wakeEvent => exact ⟨_, execWakeEvent_only ..⟩
  | unitWake => exact ⟨_, execUnitWake_only ..⟩
  | watchdogExpiry => exact ⟨_, execWatchdogExpiry_only ..⟩
  | fwConfirm => exact ⟨_, execFwConfirm_only ..⟩
  | ageHour => exact ⟨_, execAgeHour_only ..⟩
  | tjSample => exact ⟨_, execTjSample_only ..⟩
  | timeLoadCmd => exact ⟨_, execTimeLoadCmd_only ..⟩
  | timeLoadEffect => exact ⟨_, execTimeLoadEffect_only ..⟩
  | ptpMessageRx => exact ⟨_, execPtpMessageRx_only ..⟩
  | announceTimeout => exact ⟨_, execAnnounceTimeout_only ..⟩
  | servoSlewTick => exact ⟨_, execServoSlewTick_only ..⟩
  | forwardStep => exact ⟨_, execForwardStep_only ..⟩
  | backwardStep => exact ⟨_, execBackwardStep_only ..⟩
  | ppsOutEdge => exact ⟨_, execPpsOutEdge_only ..⟩
  | ppsInEdge => exact ⟨_, execPpsInEdge_only ..⟩
  | froMeasurement => exact ⟨_, execFroMeasurement_only ..⟩
  | tdcCalWindowEnd => exact ⟨_, execTdcCalWindowEnd_only ..⟩
  | tdcTableUpdate => exact ⟨_, execTdcTableUpdate_only ..⟩
  | thresholdEdge => exact ⟨_, execThresholdEdge_only ..⟩
  | tdcResample => exact ⟨_, execTdcResample_only ..⟩
  | deglitchEnd => exact ⟨_, execDeglitchEnd_only ..⟩
  | digitalSample => exact ⟨_, execDigitalSample_only ..⟩
  | fcZoneChange => exact ⟨_, execFcZoneChange_only ..⟩
  | eventDelivery => exact ⟨_, execEventDelivery_only ..⟩
  | bufDrop => exact ⟨_, execBufDrop_only ..⟩
  | lossAccountClose => exact ⟨_, execLossAccountClose_only ..⟩
  | causewayRelease => exact ⟨_, execCausewayRelease_only ..⟩
  | frameAgeClose => exact ⟨_, execFrameAgeClose_only ..⟩
  | streamFlush => exact ⟨_, execStreamFlush_only ..⟩
  | keystoneItem => exact ⟨_, execKeystoneItem_only ..⟩
  | deadlineItem => exact ⟨_, execDeadlineItem_only ..⟩
  | markOutSend => exact ⟨_, execMarkOutSend_only ..⟩
  | timedActionExec => exact ⟨_, execTimedActionExec_only ..⟩
  | pulseEnd => exact ⟨_, execPulseEnd_only ..⟩
  | guardSafeAll => exact ⟨_, execGuardSafeAll_only ..⟩
  | guardSafeRelease => exact ⟨_, execGuardSafeRelease_only ..⟩
  | vdSafeRelease => exact ⟨_, execVdSafeRelease_only ..⟩
  | exSafeRelease => exact ⟨_, execExSafeRelease_only ..⟩
  | safeReleaseEffect => exact ⟨_, execSafeReleaseEffect_only ..⟩
  | exFlagSet => exact ⟨_, execExFlagSet_only ..⟩
  | exFlagClear => exact ⟨_, execExFlagClear_only ..⟩
  | exSwap => exact ⟨_, execExSwap_only ..⟩
  | biasOverload => exact ⟨_, execBiasOverload_only ..⟩
  | caAutoTrip => exact ⟨_, execCaAutoTrip_only ..⟩
  | caPeriodicReset => exact ⟨_, execCaPeriodicReset_only ..⟩
  | caResetCmd => exact ⟨_, execCaResetCmd_only ..⟩
  | caResetEnd => exact ⟨_, execCaResetEnd_only ..⟩
  | clampSet => exact ⟨_, execClampSet_only ..⟩
  | clampClear => exact ⟨_, execClampClear_only ..⟩
  | toneBurst => exact ⟨_, execToneBurst_only ..⟩
  | toneResult => exact ⟨_, execToneResult_only ..⟩
  | sampleOutput => exact ⟨_, execSampleOutput_only ..⟩
  | calUserCommit => exact ⟨_, execCalUserCommit_only ..⟩
  | rotationSlot => exact ⟨_, execRotationSlot_only ..⟩
  | rotationDecision => exact ⟨_, execRotationDecision_only ..⟩
  | referenceCycleEnd => exact ⟨_, execReferenceCycleEnd_only ..⟩
  | pierSliceRetest => exact ⟨_, execPierSliceRetest_only ..⟩
  | caissonRecord => exact ⟨_, execCaissonRecord_only ..⟩
  | snapshotFraming => exact ⟨_, execSnapshotFraming_only ..⟩
  | caissonRearm => exact ⟨_, execCaissonRearm_only ..⟩
  | berylEngineTake => exact ⟨_, execBerylEngineTake_only ..⟩
  | berylComplete => exact ⟨_, execBerylComplete_only ..⟩
  | frameToHead => exact ⟨_, execFrameToHead_only ..⟩
  | spanMove => exact ⟨_, execSpanMove_only ..⟩
  | spanRestart => exact ⟨_, execSpanRestart_only ..⟩
  | fetchStart => exact ⟨_, execFetchStart_only ..⟩
  | fetchAbort => exact ⟨_, execFetchAbort_only ..⟩
  | fetchFrame => exact ⟨_, execFetchFrame_only ..⟩
  | refreshSlot => exact ⟨_, execRefreshSlot_only ..⟩
  | scrubSlot => exact ⟨_, execScrubSlot_only ..⟩
  | tmrScrub => exact ⟨_, execTmrScrub_only ..⟩
  | configEffect => exact ⟨_, execConfigEffect_only ..⟩
  | dictSnapshot => exact ⟨_, execDictSnapshot_only ..⟩
  | snapshotTake => exact ⟨_, execSnapshotTake_only ..⟩
  | slowWriteApply => exact ⟨_, execSlowWriteApply_only ..⟩
  | registerWrite => exact ⟨_, execRegisterWrite_only ..⟩
  | wideWordWrite => exact ⟨_, execWideWordWrite_only ..⟩
  | wideLowRead => exact ⟨_, execWideLowRead_only ..⟩
  | configRequest => exact ⟨_, execConfigRequest_only ..⟩
  | perstNFall => exact ⟨_, execPerstNFall_only ..⟩
  | hotReset => exact ⟨_, execHotReset_only ..⟩
  | linkDown => exact ⟨_, execLinkDown_only ..⟩
  | linkUp => exact ⟨_, execLinkUp_only ..⟩
  | inboundTlpError => exact ⟨_, execInboundTlpError_only ..⟩
  | portResume => exact ⟨_, execPortResume_only ..⟩
  | portRestart => exact ⟨_, execPortRestart_only ..⟩
  | ringEnable => exact ⟨_, execRingEnable_only ..⟩
  | ringDisable => exact ⟨_, execRingDisable_only ..⟩
  | doorbellHostPtr => exact ⟨_, execDoorbellHostPtr_only ..⟩
  | doorbellHostSeen => exact ⟨_, execDoorbellHostSeen_only ..⟩
  | descriptorRead => exact ⟨_, execDescriptorRead_only ..⟩
  | completionRx => exact ⟨_, execCompletionRx_only ..⟩
  | completionTimeout => exact ⟨_, execCompletionTimeout_only ..⟩
  | tagQuarantineEnd => exact ⟨_, execTagQuarantineEnd_only ..⟩
  | frameDeliver => exact ⟨_, execFrameDeliver_only ..⟩
  | idleClose => exact ⟨_, execIdleClose_only ..⟩
  | irqMessage => exact ⟨_, execIrqMessage_only ..⟩
  | irqAck => exact ⟨_, execIrqAck_only ..⟩
  | windowEnable => exact ⟨_, execWindowEnable_only ..⟩
  | windowDisable => exact ⟨_, execWindowDisable_only ..⟩
  | windowDrained => exact ⟨_, execWindowDrained_only ..⟩
  | bar4Read => exact ⟨_, execBar4Read_only ..⟩
  | bar4Write => exact ⟨_, execBar4Write_only ..⟩
  | ethFrameRx => exact ⟨_, execEthFrameRx_only ..⟩
  | ringTestSend => exact ⟨_, execRingTestSend_only ..⟩
  | ringTestTimeout => exact ⟨_, execRingTestTimeout_only ..⟩
  | markOutRx => exact ⟨_, execMarkOutRx_only ..⟩
  | identify => exact ⟨_, execIdentify_only ..⟩
  | sessionOpen => exact ⟨_, execSessionOpen_only ..⟩
  | sessionAuthKeys => exact ⟨_, execSessionAuthKeys_only ..⟩
  | sessionAuthSign => exact ⟨_, execSessionAuthSign_only ..⟩
  | sessionClose => exact ⟨_, execSessionClose_only ..⟩
  | sessionIdleTimeout => exact ⟨_, execSessionIdleTimeout_only ..⟩
  | ownershipTake => exact ⟨_, execOwnershipTake_only ..⟩
  | ownershipRelease => exact ⟨_, execOwnershipRelease_only ..⟩
  | cdpRead => exact ⟨_, execCdpRead_only ..⟩
  | cdpWrite => exact ⟨_, execCdpWrite_only ..⟩
  | readMulti => exact ⟨_, execReadMulti_only ..⟩
  | writeMulti => exact ⟨_, execWriteMulti_only ..⟩
  | cdpEnable => exact ⟨_, execCdpEnable_only ..⟩
  | cdpDisable => exact ⟨_, execCdpDisable_only ..⟩
  | snapshotCounters => exact ⟨_, execSnapshotCounters_only ..⟩
  | cdpResponseSend => exact ⟨_, execCdpResponseSend_only ..⟩
  | subscribePeriodic => exact ⟨_, execSubscribePeriodic_only ..⟩
  | subscribeOnChange => exact ⟨_, execSubscribeOnChange_only ..⟩
  | subscribeStream => exact ⟨_, execSubscribeStream_only ..⟩
  | subscribeAlerts => exact ⟨_, execSubscribeAlerts_only ..⟩
  | subscribeCancel => exact ⟨_, execSubscribeCancel_only ..⟩
  | eventAcknowledge => exact ⟨_, execEventAcknowledge_only ..⟩
  | subscriptionTimer => exact ⟨_, execSubscriptionTimer_only ..⟩
  | eventSend => exact ⟨_, execEventSend_only ..⟩
  | eventResend => exact ⟨_, execEventResend_only ..⟩
  | attest => exact ⟨_, execAttest_only ..⟩
  | cdpSave => exact ⟨_, execCdpSave_only ..⟩
  | cdpLoad => exact ⟨_, execCdpLoad_only ..⟩
  | storeSave => exact ⟨_, execStoreSave_only ..⟩
  | storeSaveSigned => exact ⟨_, execStoreSaveSigned_only ..⟩
  | storeLoadCurrent => exact ⟨_, execStoreLoadCurrent_only ..⟩
  | storeLoadA => exact ⟨_, execStoreLoadA_only ..⟩
  | storeLoadB => exact ⟨_, execStoreLoadB_only ..⟩
  | saveComplete => exact ⟨_, execSaveComplete_only ..⟩
  | fwStage => exact ⟨_, execFwStage_only ..⟩
  | fwActivate => exact ⟨_, execFwActivate_only ..⟩
  | ethLinkDown => exact ⟨_, execEthLinkDown_only ..⟩
  | ethLinkUp => exact ⟨_, execEthLinkUp_only ..⟩
  | ptpMessageSend => exact ⟨_, execPtpMessageSend_only ..⟩
  | esmcPduSend => exact ⟨_, execEsmcPduSend_only ..⟩
  | brownOutClear => exact ⟨_, execBrownOutClear_only ..⟩
  | railLowClear => exact ⟨_, execRailLowClear_only ..⟩
  | perstNRise => exact ⟨_, execPerstNRise_only ..⟩
  | resetNRelease => exact Bool.noConfusion h
  | msixVectorUnmask => exact ⟨_, execMsixVectorUnmask_only ..⟩

/-- Every command answers a next state, and changes besides time and what is sent out no more than its mask holds. -/
theorem exec_only (c : Instr) (s : State) : Only (0x12 ||| frameMask c) s (exec c s) := by
  cases h : c.isReset with
  | false =>
    obtain ⟨a, g⟩ := exec_entered c s h
    exact g.entered
  | true =>
    have reset : ∀ o, Only mask206 s o → Only (0x12 ||| mask206) s o := fun _ g => g.mono (by decide)
    cases c <;> cases h
    · next t r x => exact reset _ (execPowerOn_only s t r x)
    · next t => exact reset _ (execResetNAssert_only s t)
    · next t x => exact reset _ (execResetNRelease_only s t x)

/-- The mask that holds the parts of a list. -/
def partsMask (l : List Part) : Nat := l.foldr (fun p m => 2 ^ p.bit ||| m) 0

set_option maxRecDepth 20000 in
/-- A command's mask holds, besides time, outputs and the dictionary, the parts it may touch alone. -/
theorem frameMask_parts (c : Instr) :
    Nat.beq (frameMask c % 2 ^ 42 ||| (0x32 ||| partsMask (touches c))) (0x32 ||| partsMask (touches c)) = true := by
  cases c <;> dsimp only [frameMask, touches] <;> rfl

set_option maxRecDepth 20000 in
/-- A command's mask holds the parameters it may write alone. -/
theorem frameMask_regs {c : Instr} {l : List Nat} (h : mayWrite c = some l) : (0x12 ||| frameMask c).testBit 42 = false
    ∧ regTree.leaves.all (fun x => !(0x12 ||| frameMask c).testBit (42 + x.2.2) || l.contains x.1) = true := by
  cases c <;> cases h <;> dsimp only [frameMask] <;> decide +kernel

/-! ### Parts -/

/-- The part that a bit stands for. -/
def Part.ofBit (b : Nat) : Part := Part.ofNat (if b < 4 then b - 2 else b - 4)

theorem Part.bit_injective : Function.Injective Part.bit :=
  Function.LeftInverse.injective (g := Part.ofBit) (fun p => by cases p <;> rfl)

/-- A part's bit is set in the mask of a list where the list holds the part. -/
theorem testBit_partsMask (l : List Part) (p : Part) : (partsMask l).testBit p.bit = decide (p ∈ l) := by
  induction l with
  | nil => simp [partsMask]
  | cons q l ih =>
    have e : partsMask (q :: l) = 2 ^ q.bit ||| partsMask l := rfl
    have hq : q.bit = p.bit ↔ p = q := ⟨fun h => (Part.bit_injective h).symm, fun h => h ▸ rfl⟩
    simp [e, Nat.testBit_or, ih, Nat.testBit_two_pow, hq]

theorem Part.bit_lt (p : Part) : p.bit < 42 := by cases p <;> decide

theorem Part.testBit_base (p : Part) : Nat.testBit 0x32 p.bit = false := by cases p <;> rfl

/-- A part that a command may not touch is clear in its mask. -/
theorem frameMask_clear {c : Instr} {p : Part} (h : p ∉ touches c) : (0x12 ||| frameMask c).testBit p.bit = false := by
  have e := congrArg (Nat.testBit · p.bit) (Nat.eq_of_beq_eq_true (frameMask_parts c))
  have hb : Nat.testBit 0x12 p.bit = false := by cases p <;> rfl
  simp only [Nat.testBit_or, Nat.testBit_mod_two_pow, p.bit_lt, p.testBit_base, testBit_partsMask, h] at e
  simpa [Nat.testBit_or, hb] using e

/-! ### The statements -/

/-- Settles O1: the step's own equation. -/
theorem stepRunsFront : Obligations.StepRunsFront := fun _ _ => rfl

/-- Settles O2. -/
theorem idleStep : Obligations.IdleStep := by
  intro s h
  rw [step, h]

/-- Settles O3: every table is empty. -/
theorem resetInv : Obligations.ResetInv :=
  ⟨rfl, ⟨rfl, fun _ h => absurd h List.not_mem_nil⟩, rfl, rfl, rfl⟩

/-- Settles O4: an empty dictionary gives every parameter its default, and an output of a device in reset is high impedance. -/
theorem resetState : Obligations.ResetState := by
  refine ⟨fun _ _ => rfl, rfl, rfl, rfl, rfl, rfl, by decide, by decide, rfl, rfl, rfl, rfl, rfl, rfl, fun _ => rfl, rfl, rfl, ?_, ?_⟩
  · exact fun _ => if_pos (by decide)
  · exact fun _ => if_pos (by decide)

/-- Settles O6: every command answers a next state, and none has the queue in its frame. -/
theorem everyCommandCompletes : Obligations.EveryCommandCompletes := by
  intro c s
  obtain ⟨t, e, g⟩ := exec_only c s
  exact ⟨t, e, g.pending⟩

/-- What a command answers comes from the state by the changes of its mask. -/
theorem exec_same {c : Instr} {s t : State} (h : exec c s = .next t) : Same (0x12 ||| frameMask c) s t := by
  obtain ⟨u, e, g⟩ := exec_only c s
  cases h.symm.trans e
  exact g

/-- Settles O7: the parts that a command may touch hold those of its mask. -/
theorem touchesOnly : Obligations.TouchesOnly :=
  fun _ _ _ p h hp => (exec_same h).part p (frameMask_clear hp)

/-- Settles O8: the parameters that a command may write hold those of its mask. -/
theorem writesOnly : Obligations.WritesOnly :=
  fun _ _ _ l inv h hl => (exec_same h).keepsOthers inv.2.1 l (frameMask_regs hl).1 (frameMask_regs hl).2

/-- A frame that leaves the span is read, not written. -/
theorem execSpanMove_fromSpan_mem (u : Nat) (n : Fin 8) (errs : List CodeErr) {s t : State}
    (h : execSpanMove u n true errs s = .next t) : t.mem = s.mem := by
  have e : (s.enter u).mem = s.mem := rfl
  simp only [execSpanMove, if_true] at h
  split at h
  · cases h
    exact e
  · cases h
    exact ((State.moveSpan_same ..).mem rfl).trans (((State.strike_same ..).mem rfl).trans e)

/-- Settles O9: memory is among the parts of three commands and the resets alone, and of the moves through the span the one towards
the tail only reads. -/
theorem memoryFrame : Obligations.MemoryFrame := by
  intro c s t a inv h reset head move write
  suffices e : t.mem = s.mem by rw [e]
  have kept : .mem ∉ touches c → t.mem = s.mem := touchesOnly c s t .mem h
  cases c with
  | powerOn | resetNAssert | resetNRelease => cases reset
  | frameToHead u n errs => exact absurd rfl (head u n errs)
  | bar4Write u b ws x y errs p => exact absurd rfl (write u b ws x y errs p)
  | spanMove u n fromSpan errs =>
    cases fromSpan with
    | false => exact absurd rfl (move u n errs)
    | true => exact execSpanMove_fromSpan_mem u n errs h
  | _ => exact kept (by dsimp only [touches]; decide)


end Sys2Proof.Machine
end

section
/-! SUPPORT. When Garnet time may run backwards (R26, R49, R53), and what lies beside the capture (R13, R14, R259, R312). -/
namespace Sys2Proof.Machine

/-! ### With no load pending and no backward step decided -/

/-- A step that the servo decides leaves a pending load. -/
theorem State.decideStep_load (s : State) (off : Int) : (s.decideStep off).time.load = s.time.load := by
  unfold State.decideStep
  extract_lets mode
  split
  · rfl
  · split <;> split <;> rfl

theorem State.crossing_load (s : State) (src t lv : Nat) : (s.crossing src t lv).time.load = s.time.load := by
  rw [(State.crossing_same s src t lv).time rfl]

/-- A rising edge of PPS_IN with no load pending lets no time run backwards (R53). -/
theorem State.le_now_ppsRise_of_no_load {n : Nat} (s : State) (t : Nat) (hl : s.time.load = none) (h : n ≤ s.now) :
    n ≤ (s.ppsRise t).now := by
  unfold State.ppsRise
  extract_lets lost s1 s2 s3
  have n1 : n ≤ s1.now := (State.crossing_same s 200 t 1).le_now h
  have l1 : s1.time.load = none := (s.crossing_load 200 t 1).trans hl
  have g3 : Same 0x44 s2 s3 :=
    Same.ite (Same.then (Same.mono (State.draw_same s2) rfl) (State.decideStep_same ..) rfl) (Same.refl _ _)
  have n3 : n ≤ s3.now := g3.le_now n1
  have l3 : s3.time.load = none := by
    show (if _ then _ else s2).time.load = none
    split
    · exact (State.decideStep_load _ _).trans l1
    · exact l1
  rw [l3]
  exact le_now_ite n1 n3

theorem State.le_now_edgeIn_of_no_load {n : Nat} (s : State) (src base code lv : Nat) (hl : s.time.load = none)
    (h : n ≤ s.now) : n ≤ (s.edgeIn src base code lv).now := by
  unfold State.edgeIn
  extract_lets t
  exact le_now_ite h (le_now_ite ((State.levelOnly_same ..).le_now h)
    (le_now_ite (le_now_ite (s.le_now_ppsRise_of_no_load t hl h) ((State.ppsFall_same ..).le_now h))
      ((State.crossing_same ..).le_now h)))

theorem execTimeLoadEffect_notBefore_of_no_load (s : State) (a : Nat) (hl : s.time.load = none) :
    NotBefore s.now (execTimeLoadEffect a s) := by
  have l1 : (s.enter a).time.load = none := hl
  simp only [execTimeLoadEffect, l1]
  exact .mk (now_enter s a)

theorem execBackwardStep_notBefore_of_none (s : State) (a : Nat) (hd : ∀ d, s.time.step ≠ some (.backward d)) :
    NotBefore s.now (execBackwardStep a s) := by
  unfold execBackwardStep
  extract_lets +onlyGivenNames -merge s1
  split
  · next d e => exact absurd e (hd d)
  · exact .mk (now_enter s a)

theorem execThresholdEdge_notBefore_of_no_load (s : State) (a : Nat) (src : Fin 201) (base code : Nat) (inp : PinInput)
    (hl : s.time.load = none) : NotBefore s.now (execThresholdEdge a src base code inp s) := by
  have n1 := now_enter s a
  unfold execThresholdEdge
  extract_lets +onlyGivenNames -merge s1 moving old
  refine .mk ((State.inputMoved_same ..).le_now (State.le_now_edgeIn_of_no_load _ _ _ _ _ ?_ (le_now_ite n1 n1)))
  split <;> exact hl

/-- Only eight commands and the resets write the count at all; with no load pending and no backward step decided they add to it
(R26, R49, R53). -/
theorem exec_notBefore_of_no_load (c : Instr) (s : State) (hr : c.isReset = false) (hl : s.time.load = none)
    (hd : ∀ d, s.time.step ≠ some (.backward d)) : NotBefore s.now (exec c s) := by
  have framed : (frameMask c).testBit 4 = false → NotBefore s.now (exec c s) := by
    intro hb
    obtain ⟨a, g⟩ := exec_entered c s hr
    exact g.notBefore hb
  cases c with
  | powerOn | resetNAssert | resetNRelease => cases hr
  | pllLock => exact execPllLock_notBefore _ _ _ _ _
  | clockFailure => exact execClockFailure_notBefore _ _ _ _ _ _ _ _
  | domainRelease => exact execDomainRelease_notBefore _ _
  | timeLoadEffect => exact execTimeLoadEffect_notBefore_of_no_load _ _ hl
  | forwardStep => exact execForwardStep_notBefore _ _
  | backwardStep => exact execBackwardStep_notBefore_of_none _ _ hd
  | ppsInEdge =>
    exact .mk ((State.inputMoved_same ..).le_now (State.le_now_edgeIn_of_no_load _ _ _ _ _ hl (now_enter s _)))
  | thresholdEdge => exact execThresholdEdge_notBefore_of_no_load _ _ _ _ _ _ hl
  | _ => exact framed (by dsimp only [frameMask]; decide)

/-- Settles O10: a command that lets time run backwards is not among those that an enabled stream or sequencer stops, nor among
those that a pending load or a decided step is wanting for. -/
theorem garnetTime : Obligations.GarnetTime := by
  intro c s t h lt reset
  have idle : s.idle = true := by
    cases hi : s.idle with
    | true => rfl
    | false => exact absurd (exec_notBefore c s hi reset t h) (Nat.not_le.mpr lt)
  rw [State.idle, Bool.and_eq_true, Bool.not_eq_true', Bool.not_eq_true'] at idle
  refine ⟨idle.1, idle.2, ?_⟩
  refine Classical.byContradiction fun none => ?_
  obtain ⟨hl, hd⟩ := not_or.mp none
  exact absurd (exec_notBefore_of_no_load c s reset (Option.not_isSome_iff_eq_none.mp hl) (not_exists.mp hd) t h)
    (Nat.not_le.mpr lt)

/-! ### Beside the capture -/

/-- The parts of the capture besides the time base. -/
def captureParts : List Part :=
  [.edge, .run, .conv, .slice, .overlap, .ca, .clamp, .tone, .ex, .cw, .src, .units, .seqs, .slots, .guard, .line]

/-- No command beside the capture may touch a part of it. -/
theorem captureParts_not_touched {c : Instr} (h : c.besideCapture = true) : ∀ p ∈ captureParts, p ∉ touches c := by
  cases c <;> cases h <;> dsimp only [touches] <;> decide

/-- A PTP message that is sent leaves in the time base its own timestamp alone (R42). -/
theorem State.ptpSend_time (s : State) (port kind t : Nat) :
    (s.ptpSend port kind t).time = { s.time with ptpTx := (s.ptpSend port kind t).time.ptpTx } := by
  unfold State.ptpSend
  split
  · rfl
  · split
    · rfl
    · split
      · rfl
      · split <;> rfl

theorem execPtpMessageSend_time {a : Nat} {port : Fin 2} {kind : Fin 16} {s t : State}
    (h : execPtpMessageSend a port kind s = .next t) : t.time = { s.time with ptpTx := t.time.ptpTx } := by
  simp only [execPtpMessageSend] at h
  split at h
  · cases h
    exact State.ptpSend_time _ _ _ _
  · cases h
    rfl

/-- Of the commands beside the capture the one that sends a PTP message alone writes the time base, and there a timestamp. -/
theorem time_besideCapture {c : Instr} {s t : State} (hc : c.besideCapture = true) (h : exec c s = .next t) :
    t.time = { s.time with ptpTx := t.time.ptpTx } := by
  have kept : .time ∉ touches c → t.time = { s.time with ptpTx := t.time.ptpTx } := by
    intro ht
    have e : t.time = s.time := touchesOnly c s t .time h ht
    rw [e]
  cases c with
  | ptpMessageSend => exact execPtpMessageSend_time h
  | _ => cases hc <;> exact kept (by dsimp only [touches]; decide)

/-- Settles O12: the parts of the capture are outside the frames of the commands beside it. -/
theorem captureUndisturbed : Obligations.CaptureUndisturbed := by
  intro c s t hc h
  have kept : ∀ p ∈ captureParts, p.same s t := fun p hp => touchesOnly c s t p h (captureParts_not_touched hc p hp)
  refine ⟨kept .edge ?_, kept .run ?_, kept .conv ?_, kept .slice ?_, kept .overlap ?_, kept .ca ?_, kept .clamp ?_,
    kept .tone ?_, kept .ex ?_, kept .cw ?_, kept .src ?_, kept .units ?_, kept .seqs ?_, kept .slots ?_, kept .guard ?_,
    kept .line ?_, time_besideCapture hc h⟩ <;> decide

end Sys2Proof.Machine
end

section
/-! SUPPORT. The Beryl image: what the decoder makes of each token that the encoder writes (R262 to R266, R272). -/
namespace Sys2Proof.Machine

/-! ### Words and bytes -/

theorem bytesOfWord_ofBytes (a b c d : Byte) : bytesOfWord (w32 (ofBytes [a, b, c, d])) = [a, b, c, d] := by
  have := a.isLt; have := b.isLt; have := c.isLt; have := d.isLt
  simp only [bytesOfWord, ofBytes, w32, BitVec.toNat_ofNat, List.cons.injEq, and_true]
  refine ⟨?_, ?_, ?_, ?_⟩ <;> apply BitVec.eq_of_toNat_eq <;> simp only [BitVec.toNat_ofNat] <;> omega

theorem w32_ofBytes_bytesOfWord (w : Word) : w32 (ofBytes (bytesOfWord w)) = w := by
  have := w.isLt
  apply BitVec.eq_of_toNat_eq
  simp only [bytesOfWord, ofBytes, w32, BitVec.toNat_ofNat]
  omega

theorem bytesOfWords_length (ws : List Word) : (bytesOfWords ws).length = 4 * ws.length := by
  induction ws with
  | nil => rfl
  | cons w ws ih => simp [bytesOfWords, bytesOfWord, ih]; omega

/-- Words spelt as bytes are read back. -/
theorem wordsOfBytes_bytesOfWords (ws : List Word) : wordsOfBytes (bytesOfWords ws) = ws := by
  induction ws with
  | nil => rfl
  | cons w ws ih =>
    show wordsOfBytes (_ :: _ :: _ :: _ :: bytesOfWords ws) = _
    rw [wordsOfBytes, ih]
    exact congrArg (· :: ws) (w32_ofBytes_bytesOfWord w)

/-- Bytes grouped into words come back with the padding of the last word (R262). -/
theorem bytesOfWords_wordsOfBytes (bs : List Byte) :
    ∃ k < 4, bytesOfWords (wordsOfBytes bs) = bs ++ List.replicate k 0 := by
  induction bs using wordsOfBytes.induct with
  | case1 a b c d t ih =>
    obtain ⟨k, hk, e⟩ := ih
    exact ⟨k, hk, by simp [wordsOfBytes, bytesOfWords, bytesOfWord_ofBytes, e]⟩
  | case2 => exact ⟨0, by omega, rfl⟩
  | case3 t h4 h0 =>
    have pad (a b c d : Byte) : bytesOfWords [w32 (ofBytes [a, b, c, d])] = [a, b, c, d] := by
      rw [bytesOfWords, bytesOfWord_ofBytes]; rfl
    match t, h4, h0 with
    | [], _, h0 => exact absurd rfl h0
    | [a], _, _ => exact ⟨3, by omega, pad a 0 0 0⟩
    | [a, b], _, _ => exact ⟨2, by omega, pad a b 0 0⟩
    | [a, b, c], _, _ => exact ⟨1, by omega, pad a b c 0⟩
    | a :: b :: c :: d :: t, h4, _ => exact absurd rfl (h4 a b c d t)

/-! ### The words passed -/

/-- The suffixes that begin at the words passed, nearest first; `out` holds the words passed, newest first. -/
def behind : List Word → List Word → List (List Word)
  | [], _ => []
  | p :: ps, rest => (p :: rest) :: behind ps (p :: rest)

/-- The suffix that begins `d` words back. -/
def backSuffix (d : Nat) (out rest : List Word) : List Word := (out.take d).reverse ++ rest

theorem behind_getElem? {out rest c : List Word} {i : Nat} (h : (behind out rest)[i]? = some c) :
    i < out.length ∧ c = backSuffix (i + 1) out rest := by
  induction out generalizing rest i with
  | nil => simp [behind] at h
  | cons p ps ih =>
    cases i with
    | zero =>
      cases h
      exact ⟨Nat.succ_pos _, by simp [backSuffix]⟩
    | succ i =>
      obtain ⟨hi, e⟩ := ih h
      exact ⟨Nat.succ_lt_succ hi, by simp [e, backSuffix]⟩

/-- Moving on passes the words taken. -/
theorem advance_behind (n : Nat) (out rest : List Word) :
    advance n rest (behind out rest) = (rest.drop n, behind ((rest.take n).reverse ++ out) (rest.drop n)) := by
  induction n generalizing out rest with
  | zero => rfl
  | succ n ih =>
    cases rest with
    | nil => rfl
    | cons a s =>
      show advance n s (behind (a :: out) s) = _
      rw [ih]; simp

/-! ### What a token covers -/

theorem zeroLen_le (cap : Nat) (l : List Word) : zeroLen cap l ≤ cap ∧ zeroLen cap l ≤ l.length := by
  induction cap generalizing l with
  | zero => simp [zeroLen]
  | succ cap ih =>
    cases l with
    | nil => simp [zeroLen]
    | cons a s =>
      have := ih s
      simp only [zeroLen, List.length_cons]
      split <;> omega

/-- As many zero words stand at the beginning as counted. -/
theorem take_of_le_zeroLen (cap n : Nat) (l : List Word) (h : n ≤ zeroLen cap l) : l.take n = List.replicate n 0 := by
  induction cap generalizing l n with
  | zero =>
    have e : n = 0 := Nat.le_zero.mp h
    rw [e]; rfl
  | succ cap ih =>
    cases l with
    | nil =>
      have e : n = 0 := Nat.le_zero.mp h
      rw [e]; rfl
    | cons a s =>
      cases n with
      | zero => rfl
      | succ n =>
        simp only [zeroLen] at h
        split at h
        · next ha => rw [List.take_succ_cons, List.replicate_succ, ha, ih n s (Nat.le_of_succ_le_succ h)]
        · exact absurd h (Nat.not_succ_le_zero n)

theorem commonLen_le (cap : Nat) (c l : List Word) : commonLen cap c l ≤ cap ∧ commonLen cap c l ≤ l.length := by
  induction cap generalizing c l with
  | zero => simp [commonLen]
  | succ cap ih =>
    cases c with
    | nil => simp [commonLen]
    | cons b c =>
      cases l with
      | nil => simp [commonLen]
      | cons a s =>
        have := ih c s
        simp only [commonLen, List.length_cons]
        split <;> omega

/-- Copying from `d` back gives the words that the suffix there has in common with the rest (R264). -/
theorem copyBack_common (n d cap : Nat) (out rest : List Word) (h0 : 0 < d) (hd : d ≤ out.length)
    (h : n ≤ commonLen cap (backSuffix d out rest) rest) : copyBack n d out = (rest.take n).reverse ++ out := by
  induction n generalizing cap out rest with
  | zero => rfl
  | succ n ih =>
    obtain ⟨d, rfl⟩ : ∃ k, d = k + 1 := ⟨d - 1, by omega⟩
    cases cap with
    | zero => simp [commonLen] at h
    | succ cap =>
      cases rest with
      | nil =>
        have := (commonLen_le (cap + 1) (backSuffix (d + 1) out []) []).2
        exact absurd (Nat.le_trans h this) (Nat.not_succ_le_zero n)
      | cons a s =>
        have take_succ : out.take (d + 1) = out.take d ++ [out.getD d 0] := by
          rw [List.take_add_one, List.getD_eq_getElem?_getD, List.getElem?_eq_getElem hd]; rfl
        have e : backSuffix (d + 1) out (a :: s) = out.getD d 0 :: backSuffix (d + 1) (a :: out) s := by
          simp [backSuffix, take_succ]
        rw [e, commonLen] at h
        split at h
        · next ha =>
          show copyBack n (d + 1) (out.getD d 0 :: out) = _
          rw [ha, ih cap (a :: out) s (Nat.le_succ_of_le hd) (Nat.le_of_succ_le_succ h)]
          simp
        · exact absurd h (Nat.not_succ_le_zero n)

theorem deltaLen_le (cap : Nat) (p : Word) (l : List Word) : deltaLen cap p l ≤ cap ∧ deltaLen cap p l ≤ l.length := by
  induction cap generalizing p l with
  | zero => simp [deltaLen]
  | succ cap ih =>
    cases l with
    | nil => simp [deltaLen]
    | cons a s =>
      have := ih a s
      simp only [deltaLen, List.length_cons]
      split <;> omega

theorem deltaBytes_length (n : Nat) (p : Word) (l : List Word) (h : n ≤ l.length) : (deltaBytes n p l).length = n := by
  induction n generalizing p l with
  | zero => rfl
  | succ n ih =>
    cases l with
    | nil => exact absurd h (Nat.not_succ_le_zero n)
    | cons a s => simp [deltaBytes, ih a s (Nat.le_of_succ_le_succ h)]

/-- A word within a byte's range is its low byte, extended by its sign. -/
theorem signExtend_truncate (x : Word) (h : -128 ≤ x.toInt ∧ x.toInt ≤ 127) : (x.truncate 8).signExtend 32 = x := by
  apply BitVec.eq_of_toInt_eq
  rw [BitVec.toInt_signExtend_of_le (by omega), BitVec.truncate_eq_setWidth, BitVec.toInt_setWidth]
  have := x.isLt
  rw [BitVec.toInt_eq_toNat_cond] at h ⊢
  simp only [Int.bmod_def]
  omega

/-- Adding the deltas gives the words of the run (R264). -/
theorem runDeltas_deltaBytes (cap n : Nat) (p : Word) (out rest : List Word) (h : n ≤ deltaLen cap p rest)
    (hp : out.headD 0 = p) : runDeltas (deltaBytes n p rest) out = (rest.take n).reverse ++ out := by
  induction cap generalizing n p out rest with
  | zero =>
    have e : n = 0 := Nat.le_zero.mp h
    rw [e]; rfl
  | succ cap ih =>
    cases rest with
    | nil =>
      have e : n = 0 := Nat.le_zero.mp h
      rw [e]; rfl
    | cons a s =>
      cases n with
      | zero => rfl
      | succ n =>
        simp only [deltaLen] at h
        split at h
        · next hr =>
          have e : out.headD 0 + ((a - p).truncate 8).signExtend 32 = a := by
            rw [signExtend_truncate _ hr, hp, BitVec.add_comm, BitVec.sub_add_cancel]
          simp only [deltaBytes, runDeltas]
          rw [e, ih n a (a :: out) s (Nat.le_of_succ_le_succ h) rfl]
          simp
        · exact absurd h (Nat.not_succ_le_zero n)

/-! ### The best match -/

/-- A best match that covers a word comes from one of the candidates. -/
theorem bestMatch_mem (rest : List Word) (cs : List (Nat × List Word)) (h : 0 < (bestMatch rest cs).1) :
    ∃ x ∈ cs, (bestMatch rest cs).2 = x.1 ∧ (bestMatch rest cs).1 = commonLen 65 x.2 rest := by
  induction cs with
  | nil => exact absurd h (Nat.lt_irrefl 0)
  | cons x cs ih =>
    obtain ⟨d, c⟩ := x
    simp only [bestMatch] at h ⊢
    split at h <;> rename_i hb
    · rw [if_pos hb]
      exact ⟨(d, c), List.mem_cons_self, rfl, rfl⟩
    · rw [if_neg hb]
      obtain ⟨y, hy, e1, e2⟩ := ih h
      exact ⟨y, List.mem_cons_of_mem _ hy, e1, e2⟩

/-- A candidate is a suffix that begins 1 to 1,023 words back. -/
theorem mem_candidates {level : Nat} {out rest : List Word} {x : Nat × List Word}
    (h : x ∈ candidates level rest (behind out rest)) :
    0 < x.1 ∧ x.1 ≤ 1023 ∧ x.1 ≤ out.length ∧ x.2 = backSuffix x.1 out rest := by
  obtain ⟨⟨c, j⟩, hj, hx⟩ := List.mem_filterMap.mp (List.mem_of_mem_take h)
  obtain ⟨h1, hget⟩ := List.mk_mem_zipIdx_iff_le_and_getElem?_sub.mp hj
  dsimp only at hx
  split at hx
  · cases hx
    rw [List.getElem?_take] at hget
    split at hget
    · next h2 =>
      obtain ⟨h3, e⟩ := behind_getElem? hget
      have hj1 : j - 1 + 1 = j := by omega
      rw [hj1] at e
      exact ⟨h1, by omega, by omega, e⟩
    · cases hget
  · cases hx

/-! ### Tokens -/

/-- The decoder reads the bytes of one token: the words so far become `out'`. -/
def TokenReads (count : Nat) (bytes : List Byte) (out out' : List Word) : Prop :=
  bytes ≠ [] ∧ ∀ f pos tl, decodeTokens count (f + 1) pos (bytes ++ tl) out = decodeTokens count f (pos + bytes.length) tl out'

/-- With fuel for every byte the decoder makes `res` of the bytes. -/
def DecodesTo (count : Nat) (bytes : List Byte) (out res : List Word) : Prop :=
  ∀ f pos, bytes.length < f → decodeTokens count f pos bytes out = .ok res

theorem TokenReads.append {count : Nat} {tk tl : List Byte} {out out' res : List Word} (h : TokenReads count tk out out')
    (g : DecodesTo count tl out' res) : DecodesTo count (tk ++ tl) out res := by
  intro f pos hf
  have := List.length_pos_iff.mpr h.1
  rw [List.length_append] at hf
  obtain ⟨f, rfl⟩ : ∃ k, f = k + 1 := ⟨f - 1, by omega⟩
  rw [h.2]
  exact g f _ (by omega)

theorem toNat_byte {n : Nat} (h : n < 256) : (BitVec.ofNat 8 n).toNat = n := by
  rw [BitVec.toNat_ofNat]; exact Nat.mod_eq_of_lt h

/-- A LITERAL token gives its words. -/
theorem tokenReads_literal (count : Nat) (pend out : List Word) (h0 : pend ≠ []) (h1 : pend.length ≤ 64)
    (hc : out.length + pend.length ≤ count) : TokenReads count (literalToken pend) out (pend ++ out) := by
  have hp := List.length_pos_iff.mpr h0
  have e : literalToken pend = BitVec.ofNat 8 (pend.length - 1) :: bytesOfWords pend.reverse := by
    simp [literalToken, h0]
  have hl : (bytesOfWords pend.reverse).length = 4 * pend.length := by simp [bytesOfWords_length]
  have hn : pend.length - 1 + 1 = pend.length := by omega
  rw [e]
  refine ⟨List.cons_ne_nil _ _, fun f pos tl => ?_⟩
  simp only [List.cons_append, decodeTokens, toNat_byte (show pend.length - 1 < 256 by omega)]
  rw [if_neg (by omega), if_neg (by omega), if_pos (by omega), hn, if_neg (by simp [hl]), if_neg (by omega),
    ← hl, List.take_left, List.drop_left, wordsOfBytes_bytesOfWords, List.reverse_reverse]
  congr 1
  simp; omega

/-- A ZERO_RUN token gives zero words. -/
theorem tokenReads_zeros (count k : Nat) (out : List Word) (h0 : 0 < k) (h1 : k ≤ 16) (hc : out.length + k * 4 ≤ count) :
    TokenReads count [BitVec.ofNat 8 (0xE0 + k - 1)] out (List.replicate (k * 4) 0 ++ out) := by
  refine ⟨List.cons_ne_nil _ _, fun f pos tl => ?_⟩
  have hk : 0xE0 + k - 1 - 0xE0 + 1 = k := by omega
  simp only [List.cons_append, List.nil_append, decodeTokens, toNat_byte (show 0xE0 + k - 1 < 256 by omega)]
  rw [if_neg (by omega), if_neg (by omega), if_neg (by omega), if_neg (by omega), if_neg (by omega), hk, if_neg (by omega)]
  rfl

/-- A short MATCH token copies from its distance. -/
theorem tokenReads_shortMatch (count n d : Nat) (out : List Word) (h0 : 2 ≤ n) (h1 : n ≤ 65) (d0 : 0 < d) (d1 : d ≤ 255)
    (hd : d ≤ out.length) (hc : out.length + n ≤ count) :
    TokenReads count [BitVec.ofNat 8 (0x40 + n - 2), BitVec.ofNat 8 d] out (copyBack n d out) := by
  refine ⟨List.cons_ne_nil _ _, fun f pos tl => ?_⟩
  have hn : 0x40 + n - 2 - 0x40 + 2 = n := by omega
  have hs : 0x40 + n - 2 ≤ 0x7F := by omega
  have hb : ofBytes [BitVec.ofNat 8 d] = d := by simp [ofBytes]; omega
  simp only [List.cons_append, List.nil_append, decodeTokens, toNat_byte (show 0x40 + n - 2 < 256 by omega)]
  rw [if_neg (by omega), if_neg (by omega), if_neg (by omega), if_pos (by omega)]
  simp only [hs, decide_true, if_true, hn, List.take_succ_cons, List.take_zero, List.drop_succ_cons, List.drop_zero, hb]
  rw [if_neg (by simp), if_neg (by omega), if_neg (by omega), if_neg (by omega)]
  rfl

/-- A long MATCH token copies from its distance. -/
theorem tokenReads_longMatch (count n d : Nat) (out : List Word) (h0 : 2 ≤ n) (h1 : n ≤ 65) (d0 : 0 < d) (d1 : d ≤ 1023)
    (hd : d ≤ out.length) (hc : out.length + n ≤ count) :
    TokenReads count (BitVec.ofNat 8 (0x80 + n - 2) :: bytesLE 2 d) out (copyBack n d out) := by
  refine ⟨List.cons_ne_nil _ _, fun f pos tl => ?_⟩
  have hn : 0x80 + n - 2 - 0x80 + 2 = n := by omega
  have hs : ¬ 0x80 + n - 2 ≤ 0x7F := by omega
  have hb : ofBytes [BitVec.ofNat 8 d, BitVec.ofNat 8 (d / 256)] = d := by simp [ofBytes]; omega
  simp only [bytesLE, List.cons_append, List.nil_append, decodeTokens, toNat_byte (show 0x80 + n - 2 < 256 by omega)]
  rw [if_neg (by omega), if_neg (by omega), if_neg (by omega), if_pos (by omega)]
  simp only [hs, decide_false, Bool.false_eq_true, if_false, hn, List.take_succ_cons, List.take_zero, List.drop_succ_cons,
    List.drop_zero, hb]
  rw [if_neg (by simp), if_neg (by omega), if_neg (by omega), if_neg (by omega)]
  rfl

/-- A DELTA_RUN token adds its bytes one after another. -/
theorem tokenReads_deltas (count n : Nat) (bs : List Byte) (out : List Word) (h0 : 0 < n) (h1 : n ≤ 32) (hl : bs.length = n)
    (ho : out ≠ []) (hc : out.length + n ≤ count) :
    TokenReads count (BitVec.ofNat 8 (0xBF + n) :: bs) out (runDeltas bs out) := by
  refine ⟨List.cons_ne_nil _ _, fun f pos tl => ?_⟩
  have hn : 0xBF + n - 0xBF = n := by omega
  have hp := List.length_pos_iff.mpr ho
  simp only [List.cons_append, decodeTokens, toNat_byte (show 0xBF + n < 256 by omega)]
  rw [if_neg (by omega), if_neg (by omega), if_neg (by omega), if_neg (by omega), if_pos (by omega), hn,
    if_neg (by simp [hl]), if_neg (by omega), if_neg (by omega), ← hl, List.take_left, List.drop_left,
    List.length_cons, Nat.add_assoc, Nat.add_comm 1]

/-- END, at the payload's length, gives the words in their order; the padding behind it is zero and less than a word. -/
theorem decodesTo_end (out : List Word) {k : Nat} (hk : k < 4) :
    DecodesTo out.length (0xF0 :: List.replicate k 0) out out.reverse := by
  intro f pos hf
  obtain ⟨f, rfl⟩ : ∃ j, f = j + 1 := ⟨f - 1, by simp at hf; omega⟩
  have clean : ((List.replicate k (0 : Byte)).zipIdx (pos + 1)).find? (fun x => decide (x.1 ≠ 0)) = none := by
    rw [List.find?_eq_none]
    intro x hx
    simp [List.eq_of_mem_replicate (List.fst_mem_of_mem_zipIdx hx)]
  have h : (0xF0 : Byte).toNat = 0xF0 := rfl
  rw [decodeTokens, h, if_pos rfl, afterEnd, if_neg (fun e => e rfl), List.length_replicate, if_neg (by omega), clean]

/-! ### The parse -/

/-- The token chosen at a position is read as the words that it covers (R266). -/
theorem chooseToken_reads {level count n : Nat} {out rest : List Word} {bytes : List Byte}
    (h : chooseToken level rest (behind out rest) = some (bytes, n)) (hc : out.length + rest.length ≤ count) :
    0 < n ∧ n ≤ rest.length ∧ TokenReads count bytes out ((rest.take n).reverse ++ out) := by
  unfold chooseToken at h
  extract_lets z m prev d sz sm sd at h
  split at h
  · cases h
  next hsome =>
  split at h
  · next hz =>
    have hz4 : 4 ≤ z := by
      refine Decidable.byContradiction fun hn => ?_
      have : sz = 0 := if_neg hn
      omega
    obtain ⟨h64, hlen⟩ := zeroLen_le 64 rest
    have hzd : z / 4 * 4 = z := by show zeroLen 64 rest / 4 * 4 / 4 * 4 = zeroLen 64 rest / 4 * 4; omega
    have hzl : z ≤ zeroLen 64 rest := by show zeroLen 64 rest / 4 * 4 ≤ zeroLen 64 rest; omega
    obtain ⟨hb, hn⟩ := Prod.mk.inj (Option.some.inj h)
    rw [← hb, ← hn]
    refine ⟨by omega, by omega, ?_⟩
    have r := tokenReads_zeros count (z / 4) out (by omega) (by omega) (by omega)
    rw [take_of_le_zeroLen 64 z rest hzl, List.reverse_replicate]
    rwa [hzd] at r
  next hz =>
  split at h
  · next hm =>
    have hm2 : 2 ≤ m.1 := by
      refine Decidable.byContradiction fun hn => ?_
      have e : sm = 0 := if_neg hn
      omega
    obtain ⟨x, hx, e1, e2⟩ := bestMatch_mem rest (candidates level rest (behind out rest)) (by show 0 < m.1; omega)
    obtain ⟨d0, d1, d2, ex⟩ := mem_candidates hx
    have hm1 : m.1 = commonLen 65 (backSuffix m.2 out rest) rest := by
      show (bestMatch rest _).1 = commonLen 65 (backSuffix (bestMatch rest _).2 out rest) rest
      rw [e2, ex, e1]
    have e1' : m.2 = x.1 := e1
    obtain ⟨h65, hlen⟩ := commonLen_le 65 (backSuffix m.2 out rest) rest
    have ec := copyBack_common m.1 m.2 65 out rest (by omega) (by omega) (Nat.le_of_eq hm1)
    split at h
    · obtain ⟨hb, hn⟩ := Prod.mk.inj (Option.some.inj h)
      rw [← hb, ← hn]
      exact ⟨by omega, by omega,
        ec ▸ tokenReads_shortMatch count m.1 m.2 out hm2 (by omega) (by omega) (by omega) (by omega) (by omega)⟩
    · obtain ⟨hb, hn⟩ := Prod.mk.inj (Option.some.inj h)
      rw [← hb, ← hn]
      exact ⟨by omega, by omega,
        ec ▸ tokenReads_longMatch count m.1 m.2 out hm2 (by omega) (by omega) (by omega) (by omega) (by omega)⟩
  · next hm =>
    have hd2 : 2 ≤ d := by
      refine Decidable.byContradiction fun hn => ?_
      have e : sd = 0 := if_neg hn
      omega
    cases out with
    | nil =>
      have e : d = 0 := rfl
      omega
    | cons p ps =>
      have ed : d = deltaLen 32 p rest := rfl
      obtain ⟨h32, hlen⟩ := deltaLen_le 32 p rest
      obtain ⟨hb, hn⟩ := Prod.mk.inj (Option.some.inj h)
      rw [← hb, ← hn]
      have ec := runDeltas_deltaBytes 32 d p (p :: ps) rest (Nat.le_of_eq ed) rfl
      exact ⟨by omega, by omega, ec ▸ tokenReads_deltas count d _ (p :: ps) (by omega) (by omega)
        (deltaBytes_length d p rest (by omega)) (List.cons_ne_nil _ _) (by omega)⟩

/-- Pending words written as a LITERAL join the words so far. -/
theorem decodesTo_literal {count : Nat} {pend out res : List Word} {tl : List Byte} (h1 : pend.length ≤ 64)
    (hc : out.length + pend.length ≤ count) (g : DecodesTo count tl (pend ++ out) res) :
    DecodesTo count (literalToken pend ++ tl) out res := by
  by_cases h0 : pend = []
  · subst h0
    exact g
  · exact (tokenReads_literal count pend out h0 h1 hc).append g

/-- Where no word is left the pending ones are written, and END. -/
theorem decodesTo_flush {k : Nat} (hk : k < 4) (out pend : List Word) (hp : pend.length ≤ 63) :
    DecodesTo (out.length + pend.length) (literalToken pend ++ 0xF0 :: List.replicate k 0) out (out.reverse ++ pend.reverse) := by
  refine decodesTo_literal (by omega) (Nat.le_refl _) ?_
  have e := decodesTo_end (pend ++ out) hk
  rwa [List.length_append, Nat.add_comm pend.length, List.reverse_append] at e

/-- The greedy parse decodes to the words so far, those pending and the rest. -/
theorem decodesTo_parseTokens (level : Nat) {k : Nat} (hk : k < 4) (fuel : Nat) (out pend rest : List Word)
    (hf : rest.length ≤ fuel) (hp : pend.length ≤ 63) :
    DecodesTo (out.length + pend.length + rest.length)
      (parseTokens level fuel rest (behind (pend ++ out) rest) pend ++ 0xF0 :: List.replicate k 0) out
      (out.reverse ++ pend.reverse ++ rest) := by
  induction fuel generalizing out pend rest with
  | zero =>
    cases List.eq_nil_of_length_eq_zero (Nat.le_zero.mp hf)
    simpa [parseTokens] using decodesTo_flush hk out pend hp
  | succ fuel ih =>
    cases rest with
    | nil => simpa [parseTokens] using decodesTo_flush hk out pend hp
    | cons a s =>
      rw [parseTokens]
      split
      · next bytes n choice =>
        obtain ⟨hn, hl, reads⟩ := chooseToken_reads (count := out.length + pend.length + (a :: s).length) choice
          (by rw [List.length_append]; omega)
        have hlen := List.length_take_of_le hl
        have e := ih (((a :: s).take n).reverse ++ (pend ++ out)) [] ((a :: s).drop n)
          (by rw [List.length_drop, List.length_cons]; rw [List.length_cons] at hf; omega) (by simp)
        rw [advance_behind, List.append_assoc, List.append_assoc]
        refine decodesTo_literal (by omega) (by simp) (reads.append ?_)
        have ec : (((a :: s).take n).reverse ++ (pend ++ out)).length + ([] : List Word).length + ((a :: s).drop n).length
            = out.length + pend.length + (a :: s).length := by simp at hlen hl ⊢; omega
        rw [ec] at e
        simpa using e
      · split
        · have e := ih (a :: pend ++ out) [] s (Nat.le_of_succ_le_succ hf) (by simp)
          have ec : (a :: pend ++ out).length + ([] : List Word).length + s.length
              = out.length + pend.length + (a :: s).length := by simp; omega
          rw [ec] at e
          rw [List.append_assoc]
          refine decodesTo_literal (by simp; omega) (by simp; omega) ?_
          simpa [behind] using e
        · have e := ih out (a :: pend) s (Nat.le_of_succ_le_succ hf) (by simp; omega)
          have ec : out.length + (a :: pend).length + s.length = out.length + pend.length + (a :: s).length := by simp; omega
          rw [ec] at e
          simpa [behind] using e

/-- Settles O13: the decoder undoes the parse token by token, and the padding behind END is what it expects. -/
theorem berylRoundTrip : Obligations.BerylRoundTrip := by
  intro level ws
  obtain ⟨k, hk, e⟩ := bytesOfWords_wordsOfBytes (parseTokens level ws.length ws [] [] ++ [0xF0])
  have h := decodesTo_parseTokens level hk ws.length [] [] ws (Nat.le_refl _) (by simp)
  unfold berylDecode berylImage
  rw [e]
  simpa [behind] using h _ 0 (Nat.lt_succ_self _)

end Sys2Proof.Machine
end

section
/-! SUPPORT. The tables of sessions and subscriptions stay in order, and no session takes number 0 (R374, R377, R382). -/
namespace Sys2Proof.Machine

/-! ### Tables -/

/-- A table whose entries alone change stays in order. -/
theorem tsorted_map {α β : Type} (f : Nat × α → Nat × β) (t : Tbl α) (h : tsorted t = true)
    (hf : ∀ x, (f x).1 = x.1) : tsorted (t.map f) = true := by
  induction t with
  | nil => rfl
  | cons x t ih =>
    obtain ⟨hx, ht⟩ := (tsorted_cons x.1 x.2 t).mp h
    refine (tsorted_cons (f x).1 (f x).2 _).mpr ⟨fun y hy => ?_, ih ht⟩
    obtain ⟨z, hz, rfl⟩ := List.mem_map.mp hy
    rw [hf, hf]
    exact hx z hz

theorem tfind_map {α β : Type} (f : Nat × α → Nat × β) (t : Tbl α) (k : Nat) (h : tfind t k = none)
    (hf : ∀ x, (f x).1 = x.1) : tfind (t.map f) k = none := by
  induction t with
  | nil => rfl
  | cons x t ih =>
    obtain ⟨j, b⟩ := x
    have e : (f (j, b)).1 = j := hf (j, b)
    rw [List.map_cons]
    simp only [tfind] at h ⊢
    rw [e]
    split at h
    · cases h
    · next hj =>
      rw [if_neg hj]
      split
      · rfl
      · next hk =>
        rw [if_neg hk] at h
        exact ih h

/-! ### The network's tables through an operation -/

/-- A session that is found has a number other than 0. -/
theorem Net.wf.ne_zero {n : NetSt} {k : Nat} {x : Session} (w : Net.wf n) (h : tfind n.sessions k = some x) : k ≠ 0 := by
  rintro rfl
  rw [w.2.1] at h
  cases h

/-- An operation that keeps the network's tables in order. -/
structure NetKept (s t : State) : Prop where
  wf : Net.wf s.net → Net.wf t.net

theorem NetKept.refl (s : State) : NetKept s s := ⟨id⟩

theorem NetKept.trans {s u t : State} (h : NetKept s u) (g : NetKept u t) : NetKept s t := ⟨fun w => g.wf (h.wf w)⟩

/-- The second operation named first. -/
theorem NetKept.after {s u t : State} (g : NetKept u t) (h : NetKept s u) : NetKept s t := h.trans g

theorem NetKept.of_eq {s u t : State} (h : NetKept s u) (e : t.net = u.net) : NetKept s t := ⟨fun w => e ▸ h.wf w⟩

/-- What leaves the network, whatever else it changes. -/
theorem NetKept.of_mk {s u : State} {x0 x1 x2 x3 x4 x5 x6 x7 x8 x9 x10 x11 x12 x13 x14 x15 x16 x17 x18 x19 x20 x21 x22 x23 x24 x25 x26 x27 x28 x29 x30 x31 x32 x33 x34 x36 x37 x38 x39 x40 x41}
    (h : NetKept s u) :
    NetKept s (.mk x0 x1 x2 x3 x4 x5 x6 x7 x8 x9 x10 x11 x12 x13 x14 x15 x16 x17 x18 x19 x20 x21 x22 x23 x24 x25 x26 x27 x28 x29 x30 x31 x32 x33 x34 u.net x36 x37 x38 x39 x40 x41) := h.of_eq rfl

/-- An operation whose frame holds no network. -/
theorem NetKept.of_same {m : Nat} {s t : State} (h : Same m s t) (hb : m.testBit 35 = false) : NetKept s t :=
  (NetKept.refl s).of_eq (h.net hb)

theorem NetKept.ite {s a b : State} {c : Prop} [Decidable c] (ha : NetKept s a) (hb : NetKept s b) :
    NetKept s (if c then a else b) := by split <;> assumption

theorem NetKept.iteP {β : Type} {s : State} {a b : State × β} {c : Prop} [Decidable c] (ha : NetKept s a.1)
    (hb : NetKept s b.1) : NetKept s (if c then a else b).1 := by split <;> assumption

theorem NetKept.foldl {α : Type} {f : State → α → State} (l : List α) {s u : State} (h : NetKept s u)
    (hf : ∀ v a, NetKept v (f v a)) : NetKept s (l.foldl f u) := by
  induction l generalizing u with
  | nil => exact h
  | cons a l ih => exact ih (h.trans (hf u a))

theorem NetKept.foldlP {α β : Type} {f : State × β → α → State × β} (l : List α) {s : State} {u : State × β}
    (h : NetKept s u.1) (hf : ∀ v a, NetKept v.1 (f v a).1) : NetKept s (l.foldl f u).1 := by
  induction l generalizing u with
  | nil => exact h
  | cons a l ih => exact ih (h.trans (hf u a))

/-- What leaves both tables. -/
theorem NetKept.of_tables {s u t : State} (h : NetKept s u) (e : t.net.sessions = u.net.sessions)
    (g : t.net.subs = u.net.subs) : NetKept s t := by
  refine ⟨fun w => ?_⟩
  obtain ⟨h1, h2, h3⟩ := h.wf w
  exact ⟨e ▸ h1, e ▸ h2, g ▸ h3⟩

/-- What leaves the sessions, and the subscriptions in order. -/
theorem NetKept.of_subs {s u t : State} (h : NetKept s u)
    (g : tsorted u.net.subs = true → tsorted t.net.subs = true) (e : t.net.sessions = u.net.sessions) : NetKept s t := by
  refine ⟨fun w => ?_⟩
  obtain ⟨h1, h2, h3⟩ := h.wf w
  exact ⟨e ▸ h1, e ▸ h2, g h3⟩

/-- A session put under a number other than 0. -/
theorem NetKept.set_session {s u t : State} {n : Nat} {y : Session} (h : NetKept s u) (hn : n ≠ 0)
    (e : t.net.sessions = tset u.net.sessions n y) (g : t.net.subs = u.net.subs) : NetKept s t := by
  refine ⟨fun w => ?_⟩
  obtain ⟨h1, h2, h3⟩ := h.wf w
  refine ⟨e ▸ tsorted_tset _ _ _ h1, ?_, g ▸ h3⟩
  rw [e, tfind_tset, if_neg hn.symm]
  exact h2

/-- Under a number that is found to be a session's. -/
theorem NetKept.found {s u t : State} {k : Nat} {x : Session} (h : NetKept s u) (e : tfind u.net.sessions k = some x)
    (g : k ≠ 0 → NetKept s t) : NetKept s t := ⟨fun w => (g ((h.wf w).ne_zero e)).wf w⟩

theorem NetKept.enter (s : State) (a : Nat) : NetKept s (s.enter a) := (NetKept.refl s).of_eq rfl

/-- What a command answers keeps the network's tables in order. -/
structure NextNet (s : State) (o : Host.Outcome State Fault Refusal) : Prop where
  kept : ∀ t, o = .next t → NetKept s t

theorem NextNet.next {s t : State} (h : NetKept s t) : NextNet s (.next t) := by
  refine ⟨?_⟩
  rintro _ ⟨⟩
  exact h

theorem NextNet.ite {s : State} {a b : Host.Outcome State Fault Refusal} {c : Prop} [Decidable c] (ha : NextNet s a)
    (hb : NextNet s b) : NextNet s (if c then a else b) := by split <;> assumption

theorem NextNet.entered {s : State} {a : Nat} {o : Host.Outcome State Fault Refusal} (h : NextNet (s.enter a) o) : NextNet s o :=
  ⟨fun t e => (NetKept.enter s a).trans (h.kept t e)⟩

/-! ### The operations -/

theorem State.setPar_netKept (s : State) (ix sub v : Nat) : NetKept s (s.setPar ix sub v) := (NetKept.refl s).of_eq rfl

theorem cntIn_all {m : Nat} (ix : Nat) (h : Nat.beq (allRegs ||| m) m = true) : cntIn m ix = true := by
  simp only [cntIn, inM_all _ h, Bool.and_self]

theorem State.cnt_netKept (s : State) (ix sub : Nat) : NetKept s (s.cnt ix sub) :=
  NetKept.of_same (State.cnt_same (m := allRegs) s ix sub (cntIn_all ix rfl)) rfl

theorem State.cntN_netKept (s : State) (ix sub n : Nat) : NetKept s (s.cntN ix sub n) :=
  NetKept.of_same (State.cntN_same (m := allRegs) s ix sub n (cntIn_all ix rfl)) rfl

theorem State.cntW_netKept (s : State) (ix sub n : Nat) : NetKept s (s.cntW ix sub n) := (NetKept.refl s).of_eq rfl

theorem State.mark_netKept (s : State) (ix sub v : Nat) : NetKept s (s.mark ix sub v) :=
  NetKept.ite (State.setPar_netKept ..) (NetKept.refl _)

theorem State.setAt_netKept (s : State) (t ix sub v : Nat) : NetKept s (s.setAt t ix sub v) :=
  NetKept.of_same (State.setAt_same (m := allRegs ||| 0x2000000) s t ix sub v (setAtIn_of (inM_all _ rfl) rfl)) rfl


theorem State.alert_netKept (s : State) (a b : Nat) : NetKept s (s.alert a b) := (NetKept.refl s).of_tables rfl rfl

theorem State.stopStream_netKept : ∀ (s : State) a b, NetKept s (State.stopStream s a b) := by
  intro s a b
  unfold State.stopStream
  extract_lets +onlyGivenNames -merge x0 x1 x2 x3
  have h1 : NetKept s x1 := (NetKept.of_same (State.setStream_same ..) rfl)
  have h2 : NetKept s x2 := (NetKept.trans (NetKept.trans (NetKept.trans (NetKept.trans h1 (State.setPar_netKept ..))
    (State.setPar_netKept ..)) (State.cnt_netKept ..)) (State.alert_netKept ..))
  have h3 : NetKept s x3 := by
    unfold x3
    split
    · exact (NetKept.trans h2 (NetKept.of_same (State.discardRecs_same ..) rfl))
    · exact h2
  exact (NetKept.foldl _ h3 (fun sv _ => (NetKept.of_same (State.discardRecs_same ..) rfl)))

theorem State.refuseFrame_netKept : ∀ (s : State) a b, NetKept s (State.refuseFrame s a b) := by
  intro s a b
  unfold State.refuseFrame
  extract_lets +onlyGivenNames -merge x0 x1
  have h1 : NetKept s x1 := (NetKept.trans (NetKept.of_same (State.refusedCounts_same ..) rfl) (NetKept.of_same
    (State.setStream_same ..) rfl))
  exact (NetKept.ite h1 (by
    extract_lets +onlyGivenNames -merge x0
    have h0 : NetKept s x0 := (NetKept.trans h1 (State.setPar_netKept ..))
    exact (NetKept.ite h0 (by
      split
      · exact (NetKept.trans h0 (State.stopStream_netKept ..))
      · exact (NetKept.ite (NetKept.trans h0 (State.stopStream_netKept ..)) h0)
      · exact h0))))

theorem State.intoBeryl_netKept : ∀ (s : State) a b, NetKept s (State.intoBeryl s a b) := by
  intro s a b
  unfold State.intoBeryl
  extract_lets +onlyGivenNames -merge x0 x1
  have h0 : NetKept s x0 := (NetKept.of_same (State.noteClose_same ..) rfl)
  exact (NetKept.ite (NetKept.trans (NetKept.trans h0 (NetKept.of_same (State.setStream_same ..) rfl)) (State.cntW_netKept ..))
    (NetKept.ite (NetKept.trans (NetKept.trans h0 (State.cnt_netKept ..)) (State.refuseFrame_netKept ..)) (by
    extract_lets +onlyGivenNames -merge x0
    have h0 : NetKept s x0 := (NetKept.trans h0 (NetKept.of_same (State.setStream_same ..) rfl))
    exact (NetKept.trans (NetKept.trans h0 (State.cntW_netKept ..)) (State.mark_netKept ..)))))

theorem State.closeFrame_netKept : ∀ (s : State) a b c, NetKept s (State.closeFrame s a b c) := by
  intro s a b c
  unfold State.closeFrame
  extract_lets +onlyGivenNames -merge x0
  split
  · exact (NetKept.refl _)
  · extract_lets +onlyGivenNames -merge x0 x1
    have h1 : NetKept s x1 := (NetKept.trans (NetKept.of_same (State.setStream_same ..) rfl) (State.setPar_netKept ..))
    exact (NetKept.trans h1 (State.intoBeryl_netKept ..))

theorem State.appendRec_netKept : ∀ (s : State) a b, NetKept s (State.appendRec a s b) := by
  intro s a b
  unfold State.appendRec
  extract_lets +onlyGivenNames -merge x0
  exact (NetKept.ite (NetKept.refl _) (NetKept.ite (NetKept.of_same (State.discardRecs_same ..) rfl) (by
    split
    · exact (NetKept.of_same (State.placeRec_same ..) rfl)
    · extract_lets +onlyGivenNames -merge x0
      exact (NetKept.ite (NetKept.of_same (State.placeRec_same ..) rfl) (by
        extract_lets +onlyGivenNames -merge x0
        have h0 : NetKept s x0 := (State.closeFrame_netKept ..)
        exact (NetKept.ite (NetKept.trans h0 (NetKept.of_same (State.discardRecs_same ..) rfl)) (NetKept.trans h0
          (NetKept.of_same (State.placeRec_same ..) rfl))))))))

theorem State.feed_netKept : ∀ (s : State) a b, NetKept s (State.feed a s b) := by
  intro s a b
  unfold State.feed
  extract_lets +onlyGivenNames -merge x0
  exact (NetKept.ite (NetKept.of_same (State.setStream_same ..) rfl) (State.appendRec_netKept ..))

theorem State.feedHeld_netKept : ∀ (s : State) a b, NetKept s (State.feedHeld a s b) := by
  intro s a b
  unfold State.feedHeld
  split
  · exact (State.appendRec_netKept ..)
  · exact (State.closeFrame_netKept ..)

theorem State.unhold_netKept : ∀ (s : State) a, NetKept s (State.unhold a s) := by
  intro s a
  unfold State.unhold
  extract_lets +onlyGivenNames -merge x0 x1
  exact (NetKept.foldl _ (NetKept.of_same (State.setStream_same ..) rfl) (fun _ _ => (State.feedHeld_netKept ..)))

theorem State.stepClose_netKept : ∀ (s : State) a b, NetKept s (State.stepClose a s b) := by
  intro s a b
  unfold State.stepClose
  extract_lets +onlyGivenNames -merge x0
  exact (NetKept.ite (NetKept.of_same (State.setStream_same ..) rfl) (State.closeFrame_netKept ..))

theorem State.take_netKept : ∀ (s : State) a b, NetKept s (State.take a s b) := by
  intro s a b
  unfold State.take
  exact (NetKept.ite (State.cntW_netKept ..) (State.feed_netKept ..))

theorem State.deliver_netKept : ∀ (s : State) a b, NetKept s (State.deliver s a b) := by
  intro s a b
  unfold State.deliver
  exact (NetKept.foldl _ (NetKept.refl _) (fun _ _ => (State.take_netKept ..)))

theorem State.streamBegin_netKept : ∀ (s : State) a b c, NetKept s (State.streamBegin s a b c) := by
  intro s a b c
  unfold State.streamBegin
  extract_lets +onlyGivenNames -merge x0 x1 x2
  exact (NetKept.ite (NetKept.foldl _ (NetKept.of_same (State.setStream_same ..) rfl) (fun _ _ => (State.appendRec_netKept
    ..))) (by
    extract_lets +onlyGivenNames -merge x0 x1
    have h1 : NetKept s x1 := (NetKept.foldl _ (NetKept.of_same (State.setStream_same ..) rfl) (fun _ _ =>
      (State.appendRec_netKept ..)))
    exact (NetKept.trans (NetKept.trans (NetKept.trans h1 (State.setPar_netKept ..)) (State.setPar_netKept ..))
      (State.setPar_netKept ..))))

theorem State.streamEnd_netKept : ∀ (s : State) a, NetKept s (State.streamEnd s a) := by
  intro s a
  unfold State.streamEnd
  extract_lets +onlyGivenNames -merge x0 x1 x2
  have h1 : NetKept s x1 := (NetKept.foldl _ (NetKept.of_same (State.setStream_same ..) rfl) (fun _ _ =>
    (State.feedHeld_netKept ..)))
  have h2 : NetKept s x2 := (NetKept.trans h1 (State.closeFrame_netKept ..))
  exact (NetKept.trans h2 (NetKept.of_same (State.setStream_same ..) rfl))

theorem State.streamFlush_netKept : ∀ (s : State) a, NetKept s (State.streamFlush s a) := by
  intro s a
  unfold State.streamFlush
  split
  · exact (NetKept.trans (State.cnt_netKept ..) (State.closeFrame_netKept ..))
  · exact (State.cnt_netKept ..)

theorem State.copyBlock_netKept : ∀ (s : State) a b, NetKept s (State.copyBlock s a b) := by
  intro s a b
  unfold State.copyBlock
  extract_lets +onlyGivenNames -merge x0
  exact (NetKept.ite (NetKept.foldl _ (NetKept.refl _) (fun _ _ => (State.appendRec_netKept ..))) (NetKept.of_same
    (State.setStream_same ..) rfl))

theorem State.frameBlock_netKept : ∀ (s : State) a b c, NetKept s (State.frameBlock s a b c) := by
  intro s a b c
  unfold State.frameBlock
  extract_lets +onlyGivenNames -merge x0 x1 x2 x3 x4 x5 x6 x7
  have h1 : NetKept s x1.1 := (NetKept.of_same (State.readWords_same ..) rfl)
  have h2 : NetKept s x2 := (NetKept.trans h1 (State.cntN_netKept ..))
  have h4 : NetKept s x4 := (NetKept.foldl _ h2 (fun sv _ => (State.copyBlock_netKept ..)))
  have h5 : NetKept s x5 := (NetKept.ite (NetKept.trans h4 (State.cnt_netKept ..)) h4)
  have h7 : NetKept s x7 := (NetKept.trans h5 (NetKept.of_same (State.setCai_same ..) rfl))
  exact (NetKept.foldl _ h7 (fun sv _ => (State.unhold_netKept ..)))

theorem Run.finish_netKept : ∀ (r : Run) e l d, NetKept r.s (Run.finish r e l d) := by
  intro r e b d
  have hf : ∀ (l : List Nat) (u : Run), NetKept r.s u.s → NetKept r.s (l.foldl (Run.timers b) u).s := by
    intro l
    induction l with
    | nil => exact fun u h => h
    | cons x l ih => exact fun u h => ih _ (NetKept.trans h (NetKept.of_same (Run.timers_same ..) rfl))
  have hc : ∀ (a l : List (Nat × Bool)) (u : Run), NetKept r.s u.s → NetKept r.s (l.foldl (Run.countOp b a) u).s := by
    intro a l
    induction l with
    | nil => exact fun u h => h
    | cons x l ih => exact fun u h => ih _ (NetKept.trans h (NetKept.of_same (Run.countOp_same ..) rfl))
  unfold Run.finish
  extract_lets +onlyGivenNames -merge r0 r1 r2 o
  have h1 : NetKept r.s r1.s := hc _ _ _ (NetKept.of_same (Run.step3_same ..) rfl)
  have h2 : NetKept r.s r2.s := hf _ _ h1
  exact NetKept.foldl _ h2 (fun _ _ => (State.deliver_netKept ..))

theorem State.sequence_netKept : ∀ (s : State) e, NetKept s (State.sequence s e) := by
  intro s e
  have hf : ∀ (l : List Nat) (u : Run), NetKept s u.s → NetKept s (l.foldl (Run.evalSeq e) u).s := by
    intro l
    induction l with
    | nil => exact fun u h => h
    | cons x l ih => exact fun u h => ih _ (NetKept.trans h (NetKept.of_same (Run.evalSeq_same ..) rfl))
  exact NetKept.trans (hf _ _ (NetKept.refl _)) (Run.finish_netKept ..)

theorem State.control_netKept : ∀ (s : State) t c, NetKept s (State.control s t c) := by
  intro s t c
  cases c with
  | unit u on => exact NetKept.ite (NetKept.of_same (State.unitStart_same ..) rfl) (NetKept.of_same (State.unitStop_same ..)
    rfl)
  | seq k on =>
    refine NetKept.ite (NetKept.of_same (State.setSeq_same ..) rfl) ?_
    have h : NetKept s (if s.armed k then s.disarm k else s) := NetKept.ite (NetKept.of_same (State.disarm_same ..) rfl)
      (NetKept.refl _)
    exact NetKept.trans (NetKept.of_mk h) (NetKept.of_same (State.timersReset_same ..) rfl)
  | arm k on =>
    refine NetKept.ite (NetKept.refl _) (NetKept.ite (NetKept.ite (NetKept.refl _) ?_)
      (NetKept.ite (NetKept.trans (NetKept.of_same (State.disarm_same ..) rfl) (NetKept.of_same (State.timersReset_same ..)
        rfl)) (NetKept.refl _)))
    have hr : ∀ (r : Run) e l, NetKept s r.s → NetKept s (r.finish e l 0) := fun r e l h => NetKept.trans h (Run.finish_netKept
      r ..)
    have ha : ∀ e, NetKept s (Run.arm { s := s } e k).s := fun e => (NetKept.of_same (Run.arm_same { s := s } ..) rfl)
    exact hr _ _ _ (NetKept.trans (ha _) (NetKept.of_same (State.timersReset_same ..) rfl))
  | streamOn n r => exact (State.streamBegin_netKept ..)
  | streamOff n => exact (State.streamEnd_netKept ..)
  | closeFrames => exact NetKept.foldl _ (NetKept.refl _) (fun v k => (State.stepClose_netKept v t k))
  | src n l z => exact NetKept.trans (NetKept.of_same (State.setSrc_same ..) rfl) (NetKept.of_same (State.unitsFollow_same ..)
    rfl)

theorem State.settle_netKept : ∀ (s : State) n, NetKept s (State.settle n s) := by
  intro s n
  induction n generalizing s with
  | zero => exact NetKept.refl _
  | succ n ih =>
    unfold State.settle
    generalize hi : s.cw.intake = l
    cases l with
    | nil => exact NetKept.refl _
    | cons x l =>
      cases x with
      | record r o => exact NetKept.refl _
      | ctl t c =>
        exact NetKept.ite (NetKept.refl _)
          (NetKept.trans (NetKept.trans (NetKept.of_mk (NetKept.refl _)) (State.control_netKept ..)) (ih _))

theorem State.settleCtl_netKept : ∀ (s : State), NetKept s (State.settleCtl s) := by
  intro s
  unfold State.settleCtl
  exact (State.settle_netKept ..)

theorem State.itemDone_netKept : ∀ (s : State), NetKept s (State.itemDone s) := by
  intro s
  unfold State.itemDone
  extract_lets +onlyGivenNames -merge x0
  have h0 : NetKept s x0 := (State.settleCtl_netKept ..)
  exact (NetKept.trans h0 (NetKept.of_same (State.enterEnds_same ..) rfl))

theorem State.takeRecord_netKept : ∀ (s : State) a b, NetKept s (State.takeRecord s a b) := by
  intro s a b
  unfold State.takeRecord
  extract_lets +onlyGivenNames -merge x0
  have h0 : NetKept s x0.1 := (NetKept.trans (State.deliver_netKept ..) (NetKept.of_same (State.unitsRecord_same ..) rfl))
  exact (NetKept.trans h0 (State.sequence_netKept ..))

theorem State.discardEvents_netKept : ∀ (s : State), NetKept s (State.discardEvents s) := by
  intro s
  unfold State.discardEvents
  extract_lets +onlyGivenNames -merge x0 x1 x2 x3 x4 x5
  have h3 : NetKept s x3 := (State.cntN_netKept ..)
  have h5 : NetKept s x5 := (NetKept.of_mk h3)
  exact (NetKept.trans h5 (State.settleCtl_netKept ..))

theorem State.pflEntry_netKept : ∀ (s : State) a b c d, NetKept s (State.pflEntry s a b c d) := by
  intro s a b c d
  unfold State.pflEntry
  extract_lets +onlyGivenNames -merge w ix put s1 s2
  have hp : ∀ u i v, NetKept s u → NetKept s (put u i v) := fun u i v h => NetKept.trans h (State.setPar_netKept ..)
  have h2 : NetKept s s2 := hp _ _ _ (hp _ _ _ (hp _ _ _ (hp _ _ _ (hp _ _ _ (hp _ _ _ (NetKept.refl _))))))
  exact NetKept.trans (NetKept.of_mk (NetKept.trans h2 (State.cntW_netKept ..))) (State.alert_netKept ..)

theorem State.partnerFault_netKept : ∀ (s : State) a b c d, NetKept s (State.partnerFault s a b c d) := by
  intro s a b c d
  unfold State.partnerFault
  extract_lets +onlyGivenNames -merge x0
  have h0 : NetKept s x0 := (State.cnt_netKept ..)
  split
  · exact (NetKept.ite (NetKept.trans h0 (State.cnt_netKept ..)) (NetKept.trans h0 (State.pflEntry_netKept ..)))
  · exact (NetKept.trans h0 (State.pflEntry_netKept ..))

theorem State.freeze_netKept : ∀ (s : State) a, NetKept s (State.freeze s a) := by
  intro s a
  unfold State.freeze
  extract_lets +onlyGivenNames -merge x0
  exact (NetKept.ite (by
    extract_lets +onlyGivenNames -merge x0
    have h0 : NetKept s x0 := (NetKept.trans (NetKept.trans (State.setPar_netKept ..) (State.cnt_netKept ..)) (NetKept.of_same
      (State.abandonReads_same ..) rfl))
    exact (NetKept.trans (NetKept.trans (NetKept.of_mk h0) (State.setPar_netKept ..)) (State.alert_netKept ..))) (by
    extract_lets +onlyGivenNames -merge x0 x1
    have h1 : NetKept s x1 := (NetKept.of_mk (NetKept.refl _))
    exact (NetKept.ite (NetKept.trans h1 (State.setPar_netKept ..)) h1)))

theorem State.hostLinkDown_netKept : ∀ (s : State), NetKept s (State.hostLinkDown s) := by
  intro s
  unfold State.hostLinkDown
  exact (NetKept.ite (NetKept.refl _) (NetKept.trans (NetKept.trans (State.cnt_netKept ..) (NetKept.of_same (State.linkOff_same
    ..) rfl)) (State.freeze_netKept ..)))

theorem State.contain_netKept : ∀ (s : State) a b c, NetKept s (State.contain s a b c) := by
  intro s a b c
  unfold State.contain
  extract_lets +onlyGivenNames -merge x0
  have h0 : NetKept s x0 := (NetKept.ite (NetKept.refl _) (State.partnerFault_netKept ..))
  exact (NetKept.ite (NetKept.trans h0 (State.freeze_netKept ..)) h0)

theorem State.portError_netKept : ∀ (s : State) a b c, NetKept s (State.portError s a b c) := by
  intro s a b c
  unfold State.portError
  extract_lets +onlyGivenNames -merge x0 x1 x2 x3
  have h2 : NetKept s x2 := (NetKept.ite (NetKept.of_same (State.correctableError_same ..) rfl) (NetKept.of_same
    (State.uncorrectableError_same ..) rfl))
  have h3 : NetKept s x3 := (NetKept.trans h2 (State.contain_netKept ..))
  exact (NetKept.ite (NetKept.trans (NetKept.trans h3 (NetKept.of_same (State.correctableError_same ..) rfl))
    (State.contain_netKept ..)) h3)

theorem State.completerAbort_netKept : ∀ (s : State) a, NetKept s (State.completerAbort s a) := by
  intro s a
  unfold State.completerAbort
  exact (NetKept.ite (NetKept.trans (NetKept.of_same (State.send_same ..) rfl) (State.portError_netKept ..)) (NetKept.trans
    (State.cnt_netKept ..) (NetKept.of_same (State.send_same ..) rfl)))

theorem State.memRequest_netKept : ∀ (s : State) a b c, NetKept s (State.memRequest s a b c).1 := by
  intro s a b c
  unfold State.memRequest
  exact (NetKept.iteP (NetKept.refl _) (NetKept.iteP (NetKept.trans (NetKept.ite (NetKept.refl _) (NetKept.of_same
    (State.send_same ..) rfl)) (State.portError_netKept ..)) (NetKept.iteP (State.completerAbort_netKept ..) (NetKept.refl _))))

theorem State.meetHead_netKept : ∀ (s : State) a b c, NetKept s (State.meetHead s a b c) := by
  intro s a b c
  unfold State.meetHead
  extract_lets +onlyGivenNames -merge x0
  split
  · exact (NetKept.of_same (State.meetOld_same ..) rfl)
  · exact (NetKept.ite (State.refuseFrame_netKept ..) (NetKept.trans (NetKept.ite (NetKept.of_same (State.settleLoss_same ..)
      rfl) (NetKept.refl _)) (NetKept.of_same (State.acceptNext_same ..) rfl)))

theorem State.requeue_netKept (s : State) : NetKept s s.requeue := by
  unfold State.requeue
  extract_lets +onlyGivenNames -merge old cw s1
  have h1 : NetKept s s1 :=
    NetKept.foldl _ ((NetKept.refl s).of_eq rfl) (fun _ _ => (NetKept.of_same (State.enqueueAt_same ..) rfl))
  exact h1.of_tables rfl rfl

theorem State.shiftTimers_netKept (s : State) (a b : Nat) : NetKept s (s.shiftTimers a b) := by
  refine ⟨fun ⟨h1, h2, h3⟩ => ?_⟩
  simp only [State.shiftTimers, NetSt.shift, Net.wf]
  exact ⟨tsorted_map _ _ h1 (fun _ => rfl), tfind_map _ _ _ h2 (fun _ => rfl), tsorted_map _ _ h3 (fun _ => rfl)⟩

theorem State.setQuality_netKept : ∀ (s : State) a b, NetKept s (State.setQuality s a b) := by
  intro s a b
  unfold State.setQuality
  exact (NetKept.ite (NetKept.refl _) (by
    extract_lets +onlyGivenNames -merge x0 x1 x2 x3 x4
    have h4 : NetKept s x4 := (NetKept.of_mk (NetKept.refl _))
    exact (NetKept.trans (NetKept.trans (NetKept.trans (NetKept.trans h4 (NetKept.of_same (State.emit_same ..) rfl))
      (NetKept.of_same (State.emitEpoch_same ..) rfl)) (NetKept.of_same (State.settleAll_same ..) rfl)) (State.alert_netKept
        ..))))

theorem State.rebase_netKept : ∀ (s : State) a, NetKept s (State.rebase s a) := by
  intro s a
  unfold State.rebase
  exact (NetKept.trans (NetKept.of_mk (NetKept.refl _)) (State.shiftTimers_netKept ..))

theorem State.loadTime_netKept : ∀ (s : State) a, NetKept s (State.loadTime s a) := by
  intro s a
  unfold State.loadTime
  extract_lets +onlyGivenNames -merge x0 x1 x2
  have h0 : NetKept s x0 := (NetKept.trans (State.discardEvents_netKept ..) (State.rebase_netKept ..))
  have h1 : NetKept s x1 := (NetKept.trans (NetKept.of_mk h0) (NetKept.of_same (State.rebaseReleases_same ..) rfl))
  have h2 : NetKept s x2 := (NetKept.trans h1 (State.setPar_netKept ..))
  exact (NetKept.trans (NetKept.trans (NetKept.trans (NetKept.trans (NetKept.trans h2 (State.setPar_netKept ..))
    (State.requeue_netKept ..)) (NetKept.of_same (State.restartAt_same ..) rfl)) (NetKept.of_same (State.settleAll_same ..)
      rfl)) (NetKept.of_same (State.servoReset_same ..) rfl))

theorem State.loadEffect_netKept : ∀ (s : State) a b, NetKept s (State.loadEffect s a b) := by
  intro s a b
  unfold State.loadEffect
  exact (NetKept.ite (NetKept.of_same (State.cancelLoad_same ..) rfl) (State.loadTime_netKept ..))

theorem State.forwardStep_netKept : ∀ (s : State) a b, NetKept s (State.forwardStep s a b) := by
  intro s a b
  unfold State.forwardStep
  extract_lets +onlyGivenNames -merge x0 x1 x2 x3 x4 x5 x6
  have h2 : NetKept s x2 := (NetKept.of_mk (NetKept.refl _))
  have h3 : NetKept s x3 := (NetKept.foldl _ (NetKept.trans (NetKept.trans h2 (State.shiftTimers_netKept ..)) (NetKept.of_same
    (State.placeAll_same ..) rfl)) (fun _ _ => (NetKept.of_same (State.flushSource_same ..) rfl)))
  have h5 : NetKept s x5 := (NetKept.trans (NetKept.trans (NetKept.of_mk h3) (NetKept.of_same (State.store_same ..) rfl))
    (NetKept.of_same (State.newEpoch_same ..) rfl))
  have h6 : NetKept s x6 := (NetKept.of_mk h5)
  exact (NetKept.foldl _ (NetKept.trans (NetKept.trans (NetKept.trans h6 (State.cnt_netKept ..)) (NetKept.of_same
    (State.emitEpoch_same ..) rfl)) (NetKept.of_same (State.settleAll_same ..) rfl)) (fun _ _ => (NetKept.of_same
      (State.caiTouchPier_same ..) rfl)))

theorem State.backwardStep_netKept : ∀ (s : State) a, NetKept s (State.backwardStep s a) := by
  intro s a
  unfold State.backwardStep
  extract_lets +onlyGivenNames -merge x0 x1
  have h1 : NetKept s x1 := (NetKept.trans (State.rebase_netKept ..) (State.setPar_netKept ..))
  exact (NetKept.trans (NetKept.trans (NetKept.of_mk h1) (State.cnt_netKept ..)) (NetKept.of_same (State.settleAll_same ..)
    rfl))

theorem State.ppsRise_netKept : ∀ (s : State) a, NetKept s (State.ppsRise s a) := by
  intro s a
  unfold State.ppsRise
  extract_lets +onlyGivenNames -merge lost s1
  have h1 : NetKept s s1 := (NetKept.of_same (State.crossing_same ..) rfl)
  refine NetKept.ite h1 ?_
  extract_lets +onlyGivenNames -merge s2 s3
  have h2 : NetKept s s2 := NetKept.trans h1 (State.setPar_netKept ..)
  have h3 : NetKept s s3 :=
    NetKept.ite (NetKept.trans (NetKept.trans h2 (NetKept.of_same (State.draw_same ..) rfl)) (NetKept.of_same
      (State.decideStep_same ..) rfl)) h2
  clear_value s3
  generalize s3.time.load = o
  cases o with
  | none => exact h3
  | some l => exact NetKept.ite (NetKept.trans h3 (State.loadEffect_netKept ..)) h3

theorem State.ptpReceive_netKept : ∀ (s : State) a b c, NetKept s (State.ptpReceive s a b c) := by
  intro s a b c
  unfold State.ptpReceive
  split
  · exact (NetKept.trans (State.cnt_netKept ..) (State.partnerFault_netKept ..))
  · exact (NetKept.ite (NetKept.of_same (State.ptpTake_same ..) rfl) (NetKept.refl _))

theorem State.edgeIn_netKept : ∀ (s : State) a b c d, NetKept s (State.edgeIn s a b c d) := by
  intro s a b c d
  unfold State.edgeIn
  exact (NetKept.ite (NetKept.refl _) (NetKept.ite (NetKept.of_same (State.levelOnly_same ..) rfl) (by
    extract_lets +onlyGivenNames -merge x0
    exact (NetKept.ite (NetKept.ite (State.ppsRise_netKept ..) (NetKept.of_same (State.ppsFall_same ..) rfl)) (NetKept.of_same
      (State.crossing_same ..) rfl)))))

theorem State.endSub_netKept (s : State) (k : Nat) : NetKept s (s.endSub k) := by
  unfold State.endSub
  extract_lets +onlyGivenNames -merge stream net s1
  have h1 : NetKept s s1 := (NetKept.refl s).of_subs (tsorted_terase _ _) rfl
  exact NetKept.ite (h1.trans (NetKept.of_same (State.drainTail_same ..) rfl)) h1

theorem State.endSession_netKept (s : State) (n : Nat) : NetKept s (s.endSession n) := by
  unfold State.endSession
  split
  · exact NetKept.refl s
  · extract_lets +onlyGivenNames -merge mine s1 net s2 s3
    have h1 : NetKept s s1 := NetKept.foldl _ (NetKept.refl s) State.endSub_netKept
    have h2 : NetKept s s2 := by
      refine ⟨fun w => ?_⟩
      obtain ⟨w1, w2, w3⟩ := h1.wf w
      refine ⟨tsorted_terase _ _ w1, ?_, w3⟩
      show tfind (terase s1.net.sessions n) 0 = none
      rw [tfind_terase _ _ _ w1, w2, ite_self]
    exact NetKept.ite (h2.trans ((State.setPar_netKept ..).trans (State.setPar_netKept ..))) (h2.trans (State.setPar_netKept ..))

theorem State.endSessions_netKept : ∀ (s : State), NetKept s (State.endSessions s) := by
  intro s
  unfold State.endSessions
  exact (NetKept.foldl _ (NetKept.refl _) (fun _ _ => (State.endSession_netKept ..)))

theorem State.takeMark_netKept : ∀ (s : State) a b c d e f g, NetKept s (State.takeMark s a b c d e f g) := by
  intro s a b c d e f g
  unfold State.takeMark
  refine NetKept.ite (State.cnt_netKept ..) ?_
  extract_lets +onlyGivenNames -merge net s1
  have h1 : NetKept s s1 := (NetKept.refl s).of_tables rfl rfl
  exact h1.trans (NetKept.of_same (State.emit_same ..) rfl)

theorem State.hold_netKept : ∀ (s : State) a b, NetKept s (State.hold s a b) := by
  intro s a b
  unfold State.hold
  extract_lets +onlyGivenNames -merge x0 x1 x2 x3
  have h0 : NetKept s x0 := (NetKept.ite (State.setPar_netKept ..) (NetKept.refl _))
  have h1 : NetKept s x1 := (NetKept.trans (NetKept.trans h0 (NetKept.of_same (State.domainsOff_same ..) rfl))
    (State.setPar_netKept ..))
  have h3 : NetKept s x3 := (NetKept.of_mk h1)
  exact (NetKept.trans (NetKept.trans h3 (NetKept.of_same (State.driveCoarse_same ..) rfl)) (State.setQuality_netKept ..))

theorem State.toFro_netKept : ∀ (s : State), NetKept s (State.toFro s) := by
  intro s
  have h0 : NetKept s s.draw := (NetKept.of_same (State.draw_same ..) rfl)
  exact NetKept.trans (NetKept.trans (NetKept.trans (NetKept.of_mk h0) (State.setPar_netKept ..)) (NetKept.of_same
    (State.lockTo_same ..) rfl)) (State.setQuality_netKept ..)

theorem State.fallback_netKept : ∀ (s : State) a b c d e, NetKept s (State.fallback s a b c d e) := by
  intro s a b c d e
  unfold State.fallback
  exact (NetKept.ite (NetKept.trans (NetKept.trans (NetKept.trans (State.hold_netKept ..) (NetKept.of_same
    (State.clockSafe_same ..) rfl)) (NetKept.of_same (State.safeHold_same ..) rfl)) (NetKept.of_same (State.seekRef_same ..)
      rfl)) (NetKept.ite (NetKept.trans (NetKept.of_same (State.clockSafe_same ..) rfl) (State.toFro_netKept ..))
        (NetKept.trans (NetKept.trans (NetKept.trans (State.hold_netKept ..) (NetKept.of_same (State.clockSafe_same ..) rfl))
          (State.setPar_netKept ..)) (NetKept.of_same (State.froFollow_same ..) rfl))))

theorem State.refLost_netKept : ∀ (s : State) a b c d e, NetKept s (State.refLost s a b c d e) := by
  intro s a b c d e
  unfold State.refLost
  exact (NetKept.ite (NetKept.refl _) (NetKept.ite (State.fallback_netKept ..) (by
    split
    · exact (NetKept.of_same (State.changeRef_same ..) rfl)
    · exact (State.fallback_netKept ..))))

theorem State.sourceFails_netKept : ∀ (s : State) a b c d e f, NetKept s (State.sourceFails s a b c d e f) := by
  intro s a b c d e f
  unfold State.sourceFails
  extract_lets +onlyGivenNames -merge x0 x1 x2 x3
  have h0 : NetKept s x0 := (NetKept.of_same (State.setReady_same ..) rfl)
  have h1 : NetKept s x1 := (NetKept.ite (NetKept.ite (NetKept.trans h0 (NetKept.of_same (State.stopSource_same ..) rfl))
    (NetKept.trans h0 (NetKept.of_same (State.startSource_same ..) rfl))) h0)
  have h2 : NetKept s x2 := (NetKept.trans (NetKept.trans (NetKept.trans h1 (NetKept.of_same (State.opalFollow_same ..) rfl))
    (NetKept.of_same (State.forcedFollow_same ..) rfl)) (NetKept.of_same (State.redrive_same ..) rfl))
  exact (NetKept.ite (NetKept.trans h2 (State.refLost_netKept ..)) (NetKept.ite (NetKept.trans (NetKept.of_mk h2)
    (NetKept.of_same (State.seekRef_same ..) rfl)) h2))

theorem State.failure_netKept : ∀ (s : State) a b c d e f g, NetKept s (State.failure s a b c d e f g) := by
  intro s a b c d e f g
  unfold State.failure
  extract_lets +onlyGivenNames -merge x0
  have h0 : NetKept s x0 := (NetKept.trans (NetKept.ite (NetKept.of_same (State.setStopped_same ..) rfl) (NetKept.refl _))
    (NetKept.of_same (State.noteFailure_same ..) rfl))
  split
  · exact (NetKept.trans (NetKept.trans h0 (NetKept.of_same (State.setStopped_same ..) rfl)) (State.sourceFails_netKept ..))
  · split
    · extract_lets +onlyGivenNames -merge x0
      have h0 : NetKept s x0 := (NetKept.trans h0 (NetKept.of_same (State.loopLost_same ..) rfl))
      exact (NetKept.ite h0 (NetKept.trans h0 (State.fallback_netKept ..)))
    · extract_lets +onlyGivenNames -merge x0
      have h0 : NetKept s x0 := (NetKept.trans (NetKept.trans h0 (NetKept.of_same (State.loopLost_same ..) rfl))
        (NetKept.of_same (State.setGood_same ..) rfl))
      exact (NetKept.trans (NetKept.of_mk h0) (NetKept.of_same (State.clockSafe_same ..) rfl))
    · exact (NetKept.trans h0 (NetKept.of_same (State.mpllFails_same ..) rfl))
    · exact (NetKept.trans h0 (NetKept.of_same (State.apllFails_same ..) rfl))
    · exact (NetKept.trans (NetKept.trans (NetKept.trans (NetKept.trans h0 (NetKept.of_same (State.loopLost_same ..) rfl))
        (NetKept.of_same (State.setGood_same ..) rfl)) (NetKept.of_same (State.ethDown_same ..) rfl)) (NetKept.of_same
          (State.ethDown_same ..) rfl))
    · exact (NetKept.trans h0 (NetKept.of_same (State.forcedFollow_same ..) rfl))

theorem State.release_netKept : ∀ (s : State) a, NetKept s (State.release s a) := by
  intro s a
  unfold State.release
  extract_lets +onlyGivenNames -merge x0 x1 x2 x3 x4 x5 x6 x7
  have h1 : NetKept s x1 := (NetKept.of_mk (NetKept.refl _))
  have h2 : NetKept s x2 := (NetKept.trans h1 (NetKept.of_same (State.domainsOn_same ..) rfl))
  have h3 : NetKept s x3 := (NetKept.ite (NetKept.trans h2 (State.setPar_netKept ..)) h2)
  have h4 : NetKept s x4 := (NetKept.trans h3 (State.setPar_netKept ..))
  have h5 : NetKept s x5 := (NetKept.trans h4 (State.setQuality_netKept ..))
  have h6 : NetKept s x6 := (NetKept.ite (NetKept.trans (NetKept.trans h5 (NetKept.of_same (State.withdraw_same ..) rfl))
    (NetKept.of_same (State.releaseDue_same ..) rfl)) (NetKept.trans h5 (NetKept.of_same (State.withdraw_same ..) rfl)))
  have h7 : NetKept s x7 := (NetKept.trans h6 (NetKept.of_same (State.performLate_same ..) rfl))
  exact (NetKept.trans (NetKept.trans (NetKept.trans (NetKept.trans (NetKept.ite (NetKept.trans h7 (NetKept.of_same
    (State.admitLate_same ..) rfl)) h7) (NetKept.of_same (State.opalFollow_same ..) rfl)) (NetKept.of_same
      (State.froFollow_same ..) rfl)) (NetKept.of_same (State.clockClear_same ..) rfl)) (NetKept.of_same (State.wakeDone_same
        ..) rfl))

theorem State.returnRef_netKept : ∀ (s : State) a, NetKept s (State.returnRef s a) := by
  intro s a
  unfold State.returnRef
  split
  · exact (NetKept.ite (NetKept.refl _) (NetKept.trans (NetKept.trans (NetKept.trans (NetKept.trans (NetKept.of_same
      (State.changeRef_same ..) rfl) (State.setPar_netKept ..)) (State.setQuality_netKept ..)) (NetKept.of_same
        (State.opalFollow_same ..) rfl)) (NetKept.of_same (State.froFollow_same ..) rfl)))
  · exact (NetKept.refl _)

theorem State.clkReturn_netKept : ∀ (s : State), NetKept s (State.clkReturn s) := by
  intro s
  unfold State.clkReturn
  exact (NetKept.ite (State.returnRef_netKept ..) (NetKept.refl _))

theorem State.refForced_netKept : ∀ (s : State), NetKept s (State.refForced s) := by
  intro s
  unfold State.refForced
  split
  · exact (NetKept.ite (NetKept.ite (NetKept.refl _) (NetKept.of_same (State.seekRef_same ..) rfl)) (by
    split
    · exact (NetKept.trans (NetKept.of_same (State.changeRef_same ..) rfl) (State.setQuality_netKept ..))
    · exact (NetKept.refl _)))
  · exact (NetKept.ite (by
    extract_lets +onlyGivenNames -merge x0
    exact (NetKept.trans (NetKept.of_same (State.changeRef_same ..) rfl) (State.setQuality_netKept ..))) (NetKept.of_same
      (State.lockTo_same ..) rfl))

theorem State.forceEffect_netKept : ∀ (s : State) a, NetKept s (State.forceEffect s a) := by
  intro s a
  unfold State.forceEffect
  exact (NetKept.trans (NetKept.ite (NetKept.of_same (State.opalFollow_same ..) rfl) (State.refForced_netKept ..))
    (NetKept.of_same (State.forcedFollow_same ..) rfl))

theorem State.doorbellRefused_netKept : ∀ (s : State) a b, NetKept s (State.doorbellRefused s a b) := by
  intro s a b
  unfold State.doorbellRefused
  extract_lets +onlyGivenNames -merge x0
  exact (NetKept.trans (NetKept.of_same (State.setRing_same ..) rfl) (State.partnerFault_netKept ..))

theorem State.bellHostPtr_netKept : ∀ (s : State) a b c, NetKept s (State.bellHostPtr s a b c) := by
  intro s a b c
  unfold State.bellHostPtr
  extract_lets +onlyGivenNames -merge x0
  exact (NetKept.ite (State.doorbellRefused_netKept ..) (NetKept.of_same (State.setRing_same ..) rfl))

theorem State.bellHostSeen_netKept : ∀ (s : State) a b c, NetKept s (State.bellHostSeen s a b c) := by
  intro s a b c
  unfold State.bellHostSeen
  extract_lets +onlyGivenNames -merge x0
  exact (NetKept.ite (State.doorbellRefused_netKept ..) (NetKept.trans (NetKept.of_same (State.setRing_same ..) rfl)
    (NetKept.of_same (State.arm_same ..) rfl)))

theorem State.released_netKept : ∀ (s : State) a, NetKept s (State.released s a) := by
  intro s a
  unfold State.released
  exact (NetKept.trans (NetKept.trans (NetKept.of_mk (NetKept.refl _)) (State.setPar_netKept ..)) (State.alert_netKept ..))

theorem State.portResume_netKept : ∀ (s : State), NetKept s (State.portResume s) := by
  intro s
  unfold State.portResume
  exact (NetKept.ite (NetKept.foldl _ (State.released_netKept ..) (fun sv _ => (by
    extract_lets +onlyGivenNames -merge x0
    exact (NetKept.ite (NetKept.trans (NetKept.of_same (State.setRing_same ..) rfl) (NetKept.of_same (State.payBack_same ..)
      rfl)) (NetKept.refl _))))) (NetKept.refl _))

theorem State.portRestart_netKept : ∀ (s : State), NetKept s (State.portRestart s) := by
  intro s
  unfold State.portRestart
  exact (NetKept.ite (NetKept.foldl _ (State.released_netKept ..) (fun sv _ => (NetKept.ite (NetKept.of_same
    (State.ringOff_same ..) rfl) (NetKept.refl _)))) (NetKept.refl _))

theorem State.toDormant_netKept : ∀ (s : State) a b, NetKept s (State.toDormant s a b) := by
  intro s a b
  unfold State.toDormant
  extract_lets +onlyGivenNames -merge x0 x1 x2 x3 x4 x5
  have h0 : NetKept s x0 := (NetKept.trans (NetKept.trans (NetKept.trans (State.hostLinkDown_netKept ..) (NetKept.of_same
    (State.ethDown_same ..) rfl)) (NetKept.of_same (State.ethDown_same ..) rfl)) (State.endSessions_netKept ..))
  have h1 : NetKept s x1 := (NetKept.foldl _ h0 (fun sv _ => (State.setPar_netKept ..)))
  have h2 : NetKept s x2 := (NetKept.trans (NetKept.trans (NetKept.trans h1 (State.setPar_netKept ..)) (State.setPar_netKept
    ..)) (State.setPar_netKept ..))
  have h4 : NetKept s x4 := (NetKept.of_mk h2)
  have h5 : NetKept s x5 := (NetKept.trans (NetKept.trans (NetKept.trans h4 (NetKept.of_same (State.stopSource_same ..) rfl))
    (NetKept.of_same (State.froFollow_same ..) rfl)) (NetKept.of_same (State.opalFollow_same ..) rfl))
  exact (NetKept.ite (NetKept.trans (NetKept.trans h5 (NetKept.of_same (State.driveCoarse_same ..) rfl))
    (State.setQuality_netKept ..)) h5)

theorem State.deviceTo_netKept : ∀ (s : State) a b c d, NetKept s (State.deviceTo s a b c d) := by
  intro s a b c d
  unfold State.deviceTo
  extract_lets +onlyGivenNames -merge x0
  exact (NetKept.ite (NetKept.refl _) (NetKept.ite (by
    extract_lets +onlyGivenNames -merge x0 x1 x2
    have h0 : NetKept s x0 := (State.setPar_netKept ..)
    have h1 : NetKept s x1 := (NetKept.ite (NetKept.trans h0 (NetKept.of_same (State.domainsOn_same ..) rfl)) h0)
    have h2 : NetKept s x2 := (NetKept.trans (NetKept.trans (NetKept.trans h1 (NetKept.of_same (State.froFollow_same ..) rfl))
      (NetKept.of_same (State.jasperChange_same ..) rfl)) (NetKept.of_same (State.piersFollow_same ..) rfl))
    exact (NetKept.ite (NetKept.trans h2 (NetKept.of_same (State.admitLate_same ..) rfl)) h2)) (by
    extract_lets +onlyGivenNames -merge x0
    have h0 : NetKept s x0 := (NetKept.ite (NetKept.of_same (State.toIdle_same ..) rfl) (NetKept.refl _))
    exact (NetKept.ite (NetKept.trans h0 (State.toDormant_netKept ..)) h0))))

theorem State.applyPwr_netKept : ∀ (s : State) a b c d, NetKept s (State.applyPwr a b c s d) := by
  intro s a b c d
  unfold State.applyPwr
  split
  · exact (State.deviceTo_netKept ..)
  · exact (NetKept.of_same (State.pierTo_same ..) rfl)

theorem State.tpllLocked_netKept : ∀ (s : State), NetKept s (State.tpllLocked s) := by
  intro s
  unfold State.tpllLocked
  split
  · exact (NetKept.refl _)
  · exact (NetKept.ite (NetKept.of_same (State.clockClear_same ..) rfl) (NetKept.ite (NetKept.trans (NetKept.of_same
      (State.startLoops_same ..) rfl) (State.release_netKept ..)) (by
    extract_lets +onlyGivenNames -merge x0
    have h0 : NetKept s x0 := (NetKept.of_same (State.startLoops_same ..) rfl)
    exact (NetKept.of_mk h0))))

theorem State.loopLocked_netKept : ∀ (s : State) a b c d, NetKept s (State.loopLocked s a b c d) := by
  intro s a b c d
  unfold State.loopLocked
  extract_lets +onlyGivenNames -merge x0
  split
  · exact (State.tpllLocked_netKept ..)
  · exact (NetKept.trans (NetKept.trans (NetKept.of_mk (NetKept.refl _)) (NetKept.of_same (State.setGood_same ..) rfl))
      (NetKept.of_same (State.clockClear_same ..) rfl))
  · extract_lets +onlyGivenNames -merge x0
    have h0 : NetKept s x0 := (NetKept.of_same (State.setGood_same ..) rfl)
    exact (NetKept.ite (NetKept.trans h0 (State.setPar_netKept ..)) h0)
  · exact (NetKept.trans (NetKept.trans (NetKept.of_mk (NetKept.refl _)) (NetKept.of_same (State.setGood_same ..) rfl))
      (NetKept.of_same (State.piersFollow_same ..) rfl))
  · exact (NetKept.trans (NetKept.of_same (State.setGood_same ..) rfl) (NetKept.of_same (State.crossingReset_same ..) rfl))

theorem State.windowMiss_netKept : ∀ (s : State) a b c, NetKept s (State.windowMiss s a b c) := by
  intro s a b c
  unfold State.windowMiss
  extract_lets +onlyGivenNames -merge x0 x1
  have h0 : NetKept s x0 := (NetKept.trans (State.cnt_netKept ..) (State.setPar_netKept ..))
  have h1 : NetKept s x1 := (NetKept.trans h0 (State.partnerFault_netKept ..))
  exact (NetKept.trans (NetKept.ite h1 (NetKept.trans h1 (NetKept.of_same (State.send_same ..) rfl))) (State.portError_netKept
    ..))

theorem State.valueEffect_netKept : ∀ (s u : State) ix sub v b, s.valueEffect ix sub v b = some u → NetKept s u := by
  intro s u ix sub v b
  have hp : NetKept s (s.setPar ix sub v) := State.setPar_netKept ..
  have no : ∀ w, (none : Option State) = some w → NetKept s w := fun _ h => nomatch h
  have ye : ∀ x w, NetKept s x → some x = some w → NetKept s w := fun _ _ h e => by injection e with e; exact e ▸ h
  have it : ∀ (c : Prop) [Decidable c] (x y : Option State), (∀ w, x = some w → NetKept s w) → (∀ w, y = some w → NetKept s w) →
      ∀ w, (if c then x else y) = some w → NetKept s w := fun c _ x y hx hy w h => by
    split at h
    · exact hx w h
    · exact hy w h
  unfold State.valueEffect
  extract_lets q
  have hq : NetKept s q := hp
  clear_value q
  refine it _ _ _ (fun w => ye _ _ (NetKept.of_same (State.roleChange_same ..) rfl)) (it _ _ _ (fun w => ye _ _
    (NetKept.of_same (State.ppsInMode_same ..) rfl))
    (it _ _ _ (fun w => ye _ _ (NetKept.trans hq (NetKept.of_same (State.ppsEnable_same ..) rfl))) (it _ _ _ (fun w => ye _ _
      (NetKept.trans hq (NetKept.of_same (State.overrideEffect_same ..) rfl)))
    (it _ _ _ (fun w => ye _ _ (NetKept.ite hq (NetKept.trans hq (NetKept.of_same (State.holdBegins_same ..) rfl))))
    (it _ _ _ (fun w => ye _ _ (NetKept.trans hq (NetKept.of_same (State.jasperChange_same ..) rfl))) (it _ _ _ (fun w => ye _
      _ (NetKept.trans hq (NetKept.of_same (State.froFollow_same ..) rfl)))
    (it _ _ _ (fun w => ye _ _ (NetKept.trans hq (NetKept.of_same (State.opalFollow_same ..) rfl))) (it _ _ _ (fun w => ye _ _
      (NetKept.trans hq (NetKept.of_same (State.refSelected_same ..) rfl)))
    (it _ _ _ (fun w => ye _ _ (NetKept.trans hq (NetKept.of_same (State.autoRef_same ..) rfl))) (it _ _ _ (fun w => ye _ _
      (NetKept.trans hq (State.forceEffect_netKept ..))) (it _ _ _ (fun w => ye _ _ (NetKept.of_same (State.portEnable_same ..)
        rfl))
    (it _ _ _ (fun w => ye _ _ (NetKept.trans hq (NetKept.of_same (State.ringRole_same ..) rfl))) (it _ _ _ (fun w => ye _ _
      (NetKept.ite hq (NetKept.trans hq (State.endSessions_netKept ..))))
    (it _ _ _ (fun w => ye _ _ (NetKept.of_same (State.irqAckWrite_same ..) rfl))
    (it _ _ _ (fun w => ye _ _ (NetKept.ite (NetKept.of_same (State.windowEnable_same ..) rfl) (NetKept.of_same
      (State.windowDisable_same ..) rfl)))
    (it _ _ _ (fun w => ye _ _ (NetKept.trans hq (NetKept.of_same (State.drainTail_same ..) rfl))) (it _ _ _ (fun w => ye _ _
      (NetKept.trans hq (NetKept.of_same (State.pointCopies_same ..) rfl))) no))))))))))))))))) u

theorem State.takeValue_netKept : ∀ (s : State) a b c d e f, NetKept s (State.takeValue s a b c d e f) := by
  intro s a b c d e f
  unfold State.takeValue
  exact (NetKept.ite (NetKept.of_same (State.setPath_same ..) rfl) (NetKept.ite (NetKept.of_mk (NetKept.refl _)) (NetKept.ite
    (NetKept.of_same (State.enqueue_same ..) rfl) (by
    split
    · exact ((State.valueEffect_netKept _ _ _ _ _ _ (by assumption)))
    · exact (State.setPar_netKept ..)))))

theorem State.acceptValue_netKept : ∀ (s : State) m p i j v b, NetKept s (State.acceptValue s m p i j v b) := by
  intro s m p i j v b
  unfold State.acceptValue
  extract_lets +onlyGivenNames -merge s1
  have h1 : NetKept s s1 :=
    NetKept.trans (NetKept.ite (NetKept.of_same (State.dangerTrace_same ..) rfl) (NetKept.refl _) : NetKept s _)
      (State.takeValue_netKept ..)
  clear_value s1
  exact NetKept.ite (NetKept.trans h1 (NetKept.of_same (State.tellConfig_same ..) rfl)) h1

theorem State.loadValue_netKept : ∀ (s : State) a b c, NetKept s (State.loadValue s a b c) := by
  intro s a b c
  unfold State.loadValue
  split
  · extract_lets +onlyGivenNames -merge x0
    split
    · exact (NetKept.of_same (State.refuseWrite_same ..) rfl)
    · exact (State.acceptValue_netKept ..)
  · exact (NetKept.refl _)

theorem State.loadVals_netKept : ∀ (s : State) ix sub l, NetKept s (State.loadVals s ix sub l) := by
  intro s ix sub l
  induction l generalizing s sub with
  | nil => exact NetKept.refl _
  | cons v l ih => exact NetKept.trans (State.loadValue_netKept ..) (ih _ _)

theorem State.loadRecord_netKept : ∀ (s : State) a b, NetKept s (State.loadRecord a s b) := by
  intro s a b
  unfold State.loadRecord
  exact (NetKept.ite (State.cnt_netKept ..) (by
    split
    · exact (NetKept.ite (NetKept.of_mk (NetKept.refl _)) (NetKept.refl _))
    · exact (State.loadVals_netKept ..)))

theorem State.toDefault_netKept : ∀ (s : State) a, NetKept s (State.toDefault s a) := by
  intro s a
  unfold State.toDefault
  split
  · exact (State.acceptValue_netKept ..)
  · exact (NetKept.refl _)

theorem State.loadDefaults_netKept : ∀ (s : State) a, NetKept s (State.loadDefaults s a) := by
  intro s a
  unfold State.loadDefaults
  extract_lets +onlyGivenNames -merge x0 x1 x2
  exact (NetKept.foldl _ (NetKept.of_mk (NetKept.refl _)) (fun _ _ => (State.toDefault_netKept ..)))

theorem State.loadBody_netKept : ∀ (s : State) a, NetKept s (State.loadBody s a) := by
  intro s a
  unfold State.loadBody
  extract_lets +onlyGivenNames -merge x0
  exact (NetKept.foldl _ (State.loadDefaults_netKept ..) (fun _ _ => (State.loadRecord_netKept ..)))

theorem State.loadEnables_netKept : ∀ (s : State) a, NetKept s (State.loadEnables s a) := by
  intro s a
  unfold State.loadEnables
  exact (NetKept.foldl _ (NetKept.refl _) (fun _ _ => (State.loadRecord_netKept ..)))

theorem State.load_netKept : ∀ (s : State) a, NetKept s (State.load s a).1 := by
  intro s a
  unfold State.load
  split
  · exact (NetKept.of_same (State.result_same ..) rfl)
  · exact (NetKept.trans (NetKept.trans (State.loadBody_netKept ..) (State.loadEnables_netKept ..)) (NetKept.of_same
      (State.result_same ..) rfl))

theorem State.commandA_netKept : ∀ (s u : State) ix sub v, s.commandA ix sub v = some u → NetKept s u := by
  intro s u ix sub v
  have no : ∀ w, (none : Option State) = some w → NetKept s w := fun _ h => nomatch h
  have ye : ∀ x w, NetKept s x → some x = some w → NetKept s w := fun _ _ h e => by injection e with e; exact e ▸ h
  have it : ∀ (c : Prop) [Decidable c] (x y : Option State), (∀ w, x = some w → NetKept s w) → (∀ w, y = some w → NetKept s w) →
      ∀ w, (if c then x else y) = some w → NetKept s w := fun c _ x y hx hy w h => by
    split at h
    · exact hx w h
    · exact hy w h
  unfold State.commandA
  exact it _ _ _ (fun w => ye _ _ (NetKept.of_same (State.restartRequest_same ..) rfl)) (it _ _ _ (fun w => ye _ _
    (NetKept.of_same (State.enqueue_same ..) rfl))
    (it _ _ _ (fun w => ye _ _ (NetKept.of_same (State.loadCmd_same ..) rfl)) (it _ _ _ (fun w => ye _ _ (NetKept.of_same
      (State.releaseRequest_same ..) rfl))
    (it _ _ _ (fun w => ye _ _ (NetKept.of_same (State.safeEverything_same ..) rfl)) (it _ _ _ (fun w => ye _ _
      (NetKept.of_same (State.exRelease_same ..) rfl))
    (it _ _ _ (fun w => ye _ _ (NetKept.of_same (State.exRelease_same ..) rfl)) (it _ _ _ (fun w => ye _ _ (NetKept.of_same
      (State.sliceRetest_same ..) rfl))
    (it _ _ _ (fun w => ye _ _ (NetKept.of_same (State.releaseRequest_same ..) rfl)) (it _ _ _ (fun w => ye _ _
      (State.streamFlush_netKept ..))
    (it _ _ _ (fun w => ye _ _ (NetKept.ite (NetKept.of_same (State.fetchStart_same ..) rfl) (NetKept.of_same
      (State.fetchAbort_same ..) rfl))) no)))))))))) u

theorem State.commandB_netKept : ∀ (s : State) a b c d, NetKept s (State.commandB s a b c d) := by
  intro s a b c d
  unfold State.commandB
  exact (NetKept.ite (NetKept.of_same (State.requestSnapshot_same ..) rfl) (NetKept.ite (NetKept.of_same (State.pwrCmd_same ..)
    rfl) (NetKept.ite (NetKept.of_same (State.pierCmd_same ..) rfl) (NetKept.ite (State.clkReturn_netKept ..) (NetKept.ite
      (NetKept.of_same (State.saveCmd_same ..) rfl) (NetKept.ite (State.load_netKept ..) (NetKept.refl _)))))))

theorem State.command_netKept : ∀ (s : State) i j v b, NetKept s (State.command s i j v b) := by
  intro s i j v b
  unfold State.command
  generalize ho : s.commandA _ _ _ = o
  cases o with
  | none => exact (State.commandB_netKept ..)
  | some u => exact (State.commandA_netKept _ _ _ _ _ ho)

theorem State.applyWrite_netKept : ∀ (s : State) a b c d e f, NetKept s (State.applyWrite s a b c d e f) := by
  intro s a b c d e f
  unfold State.applyWrite
  exact (NetKept.ite (State.command_netKept ..) (State.acceptValue_netKept ..))

theorem State.tryWrite_netKept : ∀ (s : State) a b c d e f, NetKept s (State.tryWrite s a b c d e f) := by
  intro s a b c d e f
  unfold State.tryWrite
  split
  · exact (NetKept.of_same (State.refuseWrite_same ..) rfl)
  · exact (State.applyWrite_netKept ..)

theorem State.putWrite_netKept : ∀ (s : State) a b c d e, NetKept s (State.putWrite s a b c d e) := by
  intro s a b c d e
  unfold State.putWrite
  exact (NetKept.ite (NetKept.trans (NetKept.of_same (State.holdWrite_same ..) rfl) (NetKept.of_same (State.noteHost_same ..)
    rfl)) (by
    split
    · exact (NetKept.of_same (State.refuseWrite_same ..) rfl)
    · exact (NetKept.trans (State.applyWrite_netKept ..) (NetKept.of_same (State.noteHost_same ..) rfl))))

theorem State.takeWrite_netKept : ∀ (s : State) a b c d e, NetKept s (State.takeWrite s a b c d e) := by
  intro s a b c d e
  unfold State.takeWrite
  exact (NetKept.ite (NetKept.ite (NetKept.of_same (State.dangerTrace_same ..) rfl) (NetKept.refl _)) (NetKept.ite
    (NetKept.of_same (State.holdWrite_same ..) rfl) (State.applyWrite_netKept ..)))

theorem State.applyHeld_netKept : ∀ (s : State) a b, NetKept s (State.applyHeld a s b) := by
  intro s a b
  unfold State.applyHeld
  split
  · exact (State.tryWrite_netKept ..)
  · exact (NetKept.refl _)

theorem State.spread_netKept : ∀ (s : State) a b c d e, NetKept s (State.spread a b c d s e) := by
  intro s a b c d e
  unfold State.spread
  exact (NetKept.ite (NetKept.refl _) (NetKept.ite (NetKept.of_same (State.holdWrite_same ..) rfl) (NetKept.ite
    (State.command_netKept ..) (State.takeValue_netKept ..))))

theorem State.acceptBroadcast_netKept : ∀ (s : State) a b c d, NetKept s (State.acceptBroadcast s a b c d) := by
  intro s a b c d
  unfold State.acceptBroadcast
  extract_lets +onlyGivenNames -merge x0 x1
  have h1 : NetKept s x1 := (NetKept.ite (NetKept.of_same (State.dangerTrace_same ..) rfl) (NetKept.refl _))
  exact (NetKept.ite (NetKept.trans h1 (NetKept.of_same (State.enqueueAll_same ..) rfl)) (by
    extract_lets +onlyGivenNames -merge x0
    have h0 : NetKept s x0 := (NetKept.foldl _ h1 (fun _ _ => (State.spread_netKept ..)))
    exact (NetKept.ite (NetKept.trans h0 (NetKept.of_same (State.tellConfig_same ..) rfl)) h0)))

theorem State.setField_netKept : ∀ (s : State) p i j v, NetKept s (State.setField s p i j v) := by
  intro s p i j v
  have ha : ∀ ix, NetKept s (s.setAt s.now ix j v) := fun ix => State.setAt_netKept ..
  unfold State.setField
  extract_lets +onlyGivenNames -merge on was
  refine NetKept.ite (NetKept.trans (ha _) (NetKept.of_same (State.outEnableEffect_same ..) rfl)) (NetKept.ite (NetKept.trans
    (ha _) (NetKept.of_same (State.outEnableEffect_same ..) rfl)) ?_)
  generalize ho : s.valueEffect _ _ _ _ = o
  cases o with
  | none => exact NetKept.ite (ha _) (State.setPar_netKept ..)
  | some u => exact (State.valueEffect_netKept _ _ _ _ _ _ ho)

theorem State.fieldLost_netKept : ∀ (s : State) p i j, NetKept s (State.fieldLost s p i j) := by
  intro s p i j
  unfold State.fieldLost
  extract_lets +onlyGivenNames -merge s1
  have h1 : NetKept s s1 := NetKept.trans (State.cnt_netKept ..) (State.setPar_netKept ..)
  clear_value s1
  exact NetKept.ite (NetKept.trans h1 (NetKept.of_same (State.roleLost_same ..) rfl)) (NetKept.trans h1 (State.setField_netKept
    ..))

theorem State.vote_netKept : ∀ (s : State) a b c d e f, NetKept s (State.vote s a b c d e f) := by
  intro s a b c d e f
  unfold State.vote
  exact (NetKept.ite (State.fieldLost_netKept ..) (by
    extract_lets +onlyGivenNames -merge x0 x1
    have h1 : NetKept s x1 := (NetKept.ite (NetKept.refl _) (State.setField_netKept ..))
    exact (NetKept.ite h1 (NetKept.trans (NetKept.trans h1 (State.cntW_netKept ..)) (State.setPar_netKept ..)))))

theorem State.writeWide_netKept : ∀ (s : State) a b c d e f, NetKept s (State.writeWide s a b c d e f) := by
  intro s a b c d e f
  unfold State.writeWide
  extract_lets +onlyGivenNames -merge x0 x1 x2 x3 x4 x5
  exact (NetKept.ite (by
    extract_lets +onlyGivenNames -merge x0
    exact (NetKept.of_mk (NetKept.refl _))) (NetKept.ite (by
    extract_lets +onlyGivenNames -merge x0 x1 x2
    have h2 : NetKept s x2 := (NetKept.of_mk (NetKept.refl _))
    exact (NetKept.trans h2 (State.putWrite_netKept ..))) (State.cnt_netKept ..)))

theorem State.writeSlotWord_netKept : ∀ (s : State) a b c d e f, NetKept s (State.writeSlotWord s a b c d e f) := by
  intro s a b c d e f
  unfold State.writeSlotWord
  exact (NetKept.ite (NetKept.refl _) (by
    split
    · exact (NetKept.of_same (State.ignored_same ..) rfl)
    · extract_lets +onlyGivenNames -merge x0 x1
      exact (NetKept.ite (NetKept.of_same (State.ignored_same ..) rfl) (NetKept.ite (State.writeWide_netKept ..) (NetKept.ite
        (NetKept.of_same (State.ownerReject_same ..) rfl) (State.putWrite_netKept ..))))))

theorem State.writeBar0_netKept : ∀ (s : State) a b c d, NetKept s (State.writeBar0 s a b c d) := by
  intro s a b c d
  unfold State.writeBar0
  extract_lets +onlyGivenNames -merge x0
  exact (NetKept.ite (NetKept.refl _) (NetKept.ite (NetKept.of_same (State.ignored_same ..) rfl) (State.writeSlotWord_netKept
    ..)))

theorem State.writeRelease_netKept : ∀ (s : State) a, NetKept s (State.writeRelease s a) := by
  intro s a
  unfold State.writeRelease
  exact (NetKept.ite (State.portResume_netKept ..) (NetKept.ite (State.portRestart_netKept ..) (State.cnt_netKept ..)))

theorem State.writeBar2_netKept : ∀ (s : State) a b c d, NetKept s (State.writeBar2 s a b c d) := by
  intro s a b c d
  unfold State.writeBar2
  exact (NetKept.ite (NetKept.refl _) (by
    split
    · exact (NetKept.of_same (State.writeRing_same ..) rfl)
    · exact (NetKept.ite (State.bellHostPtr_netKept ..) (NetKept.ite (State.bellHostSeen_netKept ..) (NetKept.of_same
        (State.ignored_same ..) rfl)))
    · exact (NetKept.ite (State.writeRelease_netKept ..) (NetKept.ite (NetKept.of_same (State.msixWrite_same ..) rfl)
        (NetKept.of_same (State.ignored_same ..) rfl)))))

theorem State.writeDws_netKept : ∀ (s : State) a b c d e f g, NetKept s (State.writeDws s a b c d e f g) := by
  intro s a b c d e f g
  unfold State.writeDws
  exact (NetKept.foldl _ (NetKept.refl _) (fun sv _ => (by
    extract_lets +onlyGivenNames -merge x0
    exact (NetKept.ite (State.writeBar0_netKept ..) (State.writeBar2_netKept ..)))))

theorem State.postedWrite_netKept (s : State) (p : Tlp) (f : State → State) (h : ∀ u, NetKept u (f u)) :
    NetKept s (s.postedWrite p f) := by
  unfold State.postedWrite
  extract_lets r
  have hr : NetKept s r.1 := State.memRequest_netKept ..
  exact NetKept.ite hr (NetKept.ite (hr.trans (h _)) (hr.trans (NetKept.of_same (State.governed_same ..) rfl)))

theorem State.hostWrite_netKept : ∀ (s : State) a b l c d e f, NetKept s (State.hostWrite s a b l c d e f) := by
  intro s a b l c d e f
  unfold State.hostWrite
  extract_lets o r
  refine NetKept.ite (State.postedWrite_netKept _ _ _ (fun u => (State.writeDws_netKept ..))) ?_
  have h : NetKept s r.1 := (State.memRequest_netKept ..)
  exact NetKept.ite (NetKept.trans h (State.partnerFault_netKept ..)) h

theorem State.hostRead_netKept : ∀ (s : State) a b c d e f, NetKept s (State.hostRead s a b c d e f) := by
  intro s a b c d e f
  unfold State.hostRead
  extract_lets +onlyGivenNames -merge x0 x1 x2
  have h2 : NetKept s x2.1 := (State.memRequest_netKept ..)
  exact (NetKept.ite h2 (NetKept.ite (NetKept.trans h2 (State.completerAbort_netKept ..)) (NetKept.ite (NetKept.trans
    (NetKept.trans h2 (NetKept.of_same (State.governed_same ..) rfl)) (NetKept.of_same (State.send_same ..) rfl)) (by
    extract_lets +onlyGivenNames -merge x0
    have h0 : NetKept s x0.1 := (NetKept.trans h2 (NetKept.of_same (State.readDws_same ..) rfl))
    exact (NetKept.trans h0 (NetKept.of_same (State.send_same ..) rfl))))))

theorem State.respond_netKept (s : State) (r : Reply) (a : Bool) (l : List Word) : NetKept s (s.respond r a l) := by
  unfold State.respond
  extract_lets +onlyGivenNames -merge ws net s1
  have h1 : NetKept s s1 := by
    unfold s1
    split
    · next x e =>
      exact NetKept.ite ((NetKept.refl s).found e (fun hn => (NetKept.refl s).set_session hn rfl rfl)) (NetKept.refl s)
    · exact NetKept.refl s
  exact h1.trans (NetKept.of_same (State.cdpOut_same ..) rfl)

theorem State.respondFit_netKept : ∀ (s : State) a b, NetKept s (State.respondFit s a b) := by
  intro s a b
  unfold State.respondFit
  exact (NetKept.ite (NetKept.trans (State.cnt_netKept ..) (State.respond_netKept ..)) (State.respond_netKept ..))

theorem State.abort_netKept : ∀ (s : State) a b c, NetKept s (State.abort s a b c) := by
  intro s a b c
  unfold State.abort
  extract_lets +onlyGivenNames -merge x0 x1
  have h0 : NetKept s x0 := (State.cnt_netKept ..)
  have h1 : NetKept s x1 := (NetKept.ite (NetKept.trans h0 (State.partnerFault_netKept ..)) h0)
  exact (NetKept.trans h1 (State.respond_netKept ..))

theorem State.abortEarly_netKept : ∀ (s : State) a b c, NetKept s (State.abortEarly s a b c) := by
  intro s a b c
  unfold State.abortEarly
  extract_lets +onlyGivenNames -merge x0 x1
  have h0 : NetKept s x0 := (State.cnt_netKept ..)
  have h1 : NetKept s x1 := (NetKept.ite (NetKept.trans h0 (State.partnerFault_netKept ..)) h0)
  exact (NetKept.trans h1 (NetKept.of_same (State.reply_same ..) rfl))

theorem State.acceptSeq_netKept (s : State) (h : CdpHdr) (op : Nat) (x : Session) (hn : h.session ≠ 0) :
    NetKept s (s.acceptSeq h op x) := (NetKept.refl s).set_session hn rfl rfl

theorem State.sessionAdmit_netKept (s : State) (h : CdpHdr) (op : Nat) (need : Need) (body : List Word) (x : Session)
    (hn : h.session ≠ 0) : NetKept s (s.sessionAdmit h op need body x).1 := by
  unfold State.sessionAdmit
  extract_lets +onlyGivenNames -merge r
  refine NetKept.iteP (State.abortEarly_netKept ..) (NetKept.iteP (State.partnerFault_netKept ..) ?_)
  split
  · exact NetKept.iteP (NetKept.ite (NetKept.refl _) (NetKept.of_same (State.cdpOut_same ..) rfl)) (State.abortEarly_netKept ..)
  · exact State.abortEarly_netKept ..
  · exact State.abortEarly_netKept ..
  · refine NetKept.iteP (State.abortEarly_netKept ..) ?_
    extract_lets +onlyGivenNames -merge s1
    have h1 : NetKept s s1 := State.acceptSeq_netKept _ _ _ _ hn
    split
    · exact h1.trans (State.abort_netKept ..)
    · exact h1

theorem State.admitCdp_netKept : ∀ (s : State) h op k n l, NetKept s (State.admitCdp s h op k n l).1 := by
  intro s h op k n l
  have ha : ∀ r a, NetKept s (s.abortEarly h r a) := fun _ _ => State.abortEarly_netKept ..
  unfold State.admitCdp
  refine NetKept.iteP (NetKept.refl s) ?_
  extract_lets sess r
  split
  · exact ha _ _
  · refine NetKept.iteP (NetKept.iteP (ha _ _) (NetKept.iteP (ha _ _) ?_)) ?_
    · split
      · exact ha _ _
      · exact NetKept.refl s
    · cases e : sess with
      | none => exact ha _ _
      | some x => exact (NetKept.refl s).found e fun hn => State.sessionAdmit_netKept _ _ _ _ _ _ hn

theorem State.badLength_netKept : ∀ (s : State) a b, NetKept s (State.badLength s a b) := by
  intro s a b
  unfold State.badLength
  exact (State.abort_netKept ..)

/-- The search for a free session number does not come to 0. -/
theorem State.freeSession_ne_zero (s : State) (fuel n : Nat) (h : n ≠ 0) : s.freeSession fuel n ≠ 0 := by
  induction fuel generalizing n with
  | zero => exact h
  | succ fuel ih =>
    rw [State.freeSession]
    split
    · exact ih _ (by split <;> omega)
    · exact h

theorem State.openSession_netKept (s : State) (h : CdpHdr) (r : Reply) : NetKept s (s.openSession h r) := by
  unfold State.openSession
  refine NetKept.ite (State.abort_netKept ..) ?_
  extract_lets +onlyGivenNames -merge n s1 x net s2
  have h1 : NetKept s s1 := (NetKept.of_same (State.draw_same s) rfl)
  have hn : n ≠ 0 := State.freeSession_ne_zero s 16 _ (by simp)
  have h2 : NetKept s s2 := h1.set_session hn rfl rfl
  exact h2.trans ((State.setPar_netKept ..).trans (State.respond_netKept ..))

theorem State.authKeys_netKept : ∀ (s : State) h r l, NetKept s (State.authKeys s h r l) := by
  intro s h r l
  unfold State.authKeys
  refine NetKept.ite (State.badLength_netKept ..) ?_
  extract_lets +onlyGivenNames -merge given d qd nd z keys t sig s1 y s2
  have h1 : NetKept s s1 := (NetKept.refl s).of_eq rfl
  have h2 : NetKept s s2 := by
    unfold s2
    split
    · next x e => exact h1.found e (fun hn => h1.set_session hn rfl rfl)
    · exact h1
  exact h2.trans (State.respond_netKept ..)

theorem State.rekey_netKept (s : State) (n : Nat) (x : Session) (hn : n ≠ 0) : NetKept s (s.rekey n x) := by
  refine ⟨fun ⟨h1, h2, h3⟩ => ?_⟩
  refine ⟨tsorted_tset _ _ _ h1, ?_, tsorted_map _ _ h3 (fun z => by dsimp only; split <;> rfl)⟩
  show tfind (tset s.net.sessions n _) 0 = none
  rw [tfind_tset, if_neg hn.symm]
  exact h2

theorem State.authSign_netKept : ∀ (s : State) h r l, NetKept s (State.authSign s h r l) := by
  intro s h r l
  unfold State.authSign
  refine NetKept.ite (State.badLength_netKept ..) ?_
  split
  · next x e =>
    extract_lets +onlyGivenNames -merge net s1 sig ok
    refine (NetKept.refl s).found e fun hn => ?_
    have h1 : NetKept s s1 := (NetKept.refl s).set_session hn rfl rfl
    exact NetKept.ite (h1.trans ((State.respond_netKept ..).trans (State.rekey_netKept _ _ _ hn))) (h1.trans (State.abort_netKept ..))
  · exact NetKept.refl s

theorem State.ownership_netKept : ∀ (s : State) a b c d, NetKept s (State.ownership s a b c d) := by
  intro s a b c d
  unfold State.ownership
  extract_lets +onlyGivenNames -merge x0 x1
  exact (NetKept.ite (State.badLength_netKept ..) (NetKept.ite (NetKept.ite (State.abort_netKept ..) (NetKept.ite
    (NetKept.trans (State.setPar_netKept ..) (State.respond_netKept ..)) (State.abort_netKept ..))) (by
    extract_lets +onlyGivenNames -merge x0
    exact (NetKept.trans (State.setPar_netKept ..) (State.respond_netKept ..)))))

theorem State.readDomain_netKept : ∀ (s : State) a b c d, NetKept s (State.readDomain s a b c d) := by
  intro s a b c d
  unfold State.readDomain
  exact (NetKept.ite (State.badLength_netKept ..) (NetKept.ite (State.abort_netKept ..) (by
    extract_lets +onlyGivenNames -merge x0
    exact (State.respondFit_netKept ..))))

theorem State.cdpRead_netKept : ∀ (s : State) a b c, NetKept s (State.cdpRead s a b c) := by
  intro s a b c
  unfold State.cdpRead
  split
  · exact (State.badLength_netKept ..)
  · extract_lets +onlyGivenNames -merge x0
    split
    · exact (State.abort_netKept ..)
    · exact (NetKept.ite (State.readDomain_netKept ..) (NetKept.ite (State.badLength_netKept ..) (by
      extract_lets +onlyGivenNames -merge x0
      have h0 : NetKept s x0.1 := (NetKept.of_same (State.readItem_same ..) rfl)
      exact (NetKept.trans h0 (State.respondFit_netKept ..)))))

theorem State.readMulti_netKept : ∀ (s : State) a b c, NetKept s (State.readMulti s a b c) := by
  intro s a b c
  unfold State.readMulti
  extract_lets +onlyGivenNames -merge x0
  exact (NetKept.ite (State.badLength_netKept ..) (NetKept.ite (State.abort_netKept ..) (by
    extract_lets +onlyGivenNames -merge x0
    have h0 : NetKept s x0.1 := (NetKept.foldlP _ (NetKept.refl _) (fun _ _ => (NetKept.of_same (readMultiItem_same ..) rfl)))
    exact (NetKept.trans h0 (State.respondFit_netKept ..)))))

theorem State.mpRestart_netKept : ∀ (s : State) a b, NetKept s (State.mpRestart s a b) := by
  intro s a b
  unfold State.mpRestart
  extract_lets +onlyGivenNames -merge x0
  have h0 : NetKept s x0 := (NetKept.trans (State.endSessions_netKept ..) (NetKept.of_same (State.crossingReset_same ..) rfl))
  exact (NetKept.trans (NetKept.of_mk h0) (State.setPar_netKept ..))

theorem State.activate_netKept : ∀ (s : State) a b, NetKept s (State.activate s a b) := by
  intro s a b
  unfold State.activate
  extract_lets +onlyGivenNames -merge x0 x1
  split
  · exact (NetKept.trans (NetKept.of_same (State.result_same ..) rfl) (State.setPar_netKept ..))
  · extract_lets +onlyGivenNames -merge x0
    have h0 : NetKept s x0 := (NetKept.trans (NetKept.trans (NetKept.of_same (State.setFw_same ..) rfl)
      (State.mpRestart_netKept ..)) (NetKept.of_same (State.runImage_same ..) rfl))
    exact (NetKept.trans (NetKept.trans (NetKept.trans h0 (NetKept.of_same (State.bootCounted_same ..) rfl))
      (State.setPar_netKept ..)) (NetKept.of_same (State.result_same ..) rfl))

theorem State.put_netKept : ∀ (s : State) a b, NetKept s (State.put a s b) := by
  intro s a b
  unfold State.put
  exact (NetKept.ite (State.acceptBroadcast_netKept ..) (State.takeWrite_netKept ..))

theorem State.putAll_netKept : ∀ (s : State) a b c, NetKept s (State.putAll s a b c) := by
  intro s a b c
  unfold State.putAll
  extract_lets +onlyGivenNames -merge x0 x1
  have h0 : NetKept s x0 := NetKept.foldl _ (NetKept.refl _) (fun _ _ => State.put_netKept ..)
  exact NetKept.ite (h0.trans (State.respond_netKept ..)) (h0.of_tables rfl rfl)

theorem State.putOrAbort_netKept : ∀ (s : State) h r l, NetKept s (State.putOrAbort s h r l) := by
  intro s h r l
  unfold State.putOrAbort
  cases l with
  | inr a => exact (State.abort_netKept ..)
  | inl m =>
    dsimp only
    generalize ho : s.putsFail _ _ _ = o
    cases o with
    | none => exact (State.putAll_netKept ..)
    | some f => exact NetKept.trans (NetKept.of_same (State.putsFail_same _ _ _ _ _ ho) rfl) (State.abort_netKept ..)

theorem State.writeKey_netKept : ∀ (s : State) a b c d, NetKept s (State.writeKey s a b c d) := by
  intro s a b c d
  unfold State.writeKey
  extract_lets +onlyGivenNames -merge x0 x1 x2
  exact (NetKept.ite (State.abort_netKept ..) (NetKept.ite (State.abort_netKept ..) (NetKept.ite (State.abort_netKept ..)
    (NetKept.ite (State.abort_netKept ..) (NetKept.ite (State.abort_netKept ..) (NetKept.ite (State.abort_netKept ..) (by
    extract_lets +onlyGivenNames -merge x0
    exact (NetKept.trans (NetKept.of_mk (NetKept.refl _)) (State.respond_netKept ..)))))))))

theorem State.cdpWrite_netKept : ∀ (s : State) a b c, NetKept s (State.cdpWrite s a b c) := by
  intro s a b c
  unfold State.cdpWrite
  split
  · exact (State.badLength_netKept ..)
  · extract_lets +onlyGivenNames -merge x0
    split
    · exact (State.abort_netKept ..)
    · exact (NetKept.ite (State.writeKey_netKept ..) (State.putOrAbort_netKept ..))

theorem State.writeMulti_netKept : ∀ (s : State) a b c, NetKept s (State.writeMulti s a b c) := by
  intro s a b c
  unfold State.writeMulti
  split
  · exact (State.badLength_netKept ..)
  · exact (State.putOrAbort_netKept ..)

theorem State.cdpEnable_netKept : ∀ (s : State) a b c d, NetKept s (State.cdpEnable s a b c d) := by
  intro s a b c d
  unfold State.cdpEnable
  exact (NetKept.ite (State.badLength_netKept ..) (State.putOrAbort_netKept ..))

theorem State.answerHeld_netKept : ∀ (s : State) a, NetKept s (State.answerHeld s a) := by
  intro s a
  unfold State.answerHeld
  split
  · exact (State.respond_netKept ..)
  · extract_lets +onlyGivenNames -merge x0
    exact (NetKept.trans (State.cnt_netKept ..) (State.respond_netKept ..))

theorem State.cdpSave_netKept : ∀ (s : State) a b c, NetKept s (State.cdpSave s a b c) := by
  intro s a b c
  unfold State.cdpSave
  exact (NetKept.ite (State.badLength_netKept ..) (by
    extract_lets +onlyGivenNames -merge x0
    have h0 : NetKept s x0.1 := (NetKept.of_same (State.save_same ..) rfl)
    split
    · exact (NetKept.trans h0 (State.abort_netKept ..))
    · exact h0))

theorem State.cdpLoad_netKept : ∀ (s : State) a b c, NetKept s (State.cdpLoad s a b c) := by
  intro s a b c
  unfold State.cdpLoad
  extract_lets +onlyGivenNames -merge x0
  refine NetKept.ite (State.badLength_netKept ..) (NetKept.ite (State.abort_netKept ..) ?_)
  extract_lets +onlyGivenNames -merge v
  have h0 : NetKept s v.1 := State.load_netKept ..
  split
  · exact h0.trans (State.abort_netKept ..)
  · exact NetKept.ite (h0.trans (State.respond_netKept ..)) (h0.of_tables rfl rfl)

theorem State.cdpStage_netKept : ∀ (s : State) a b c, NetKept s (State.cdpStage s a b c) := by
  intro s a b c
  unfold State.cdpStage
  extract_lets +onlyGivenNames -merge x0 x1 x2
  exact (NetKept.ite (State.badLength_netKept ..) (by
    extract_lets +onlyGivenNames -merge x0
    have h0 : NetKept s x0.1 := (NetKept.of_same (State.stageSegment_same ..) rfl)
    split
    · exact (NetKept.trans h0 (State.abort_netKept ..))
    · exact (NetKept.trans h0 (State.respond_netKept ..))))

theorem State.cdpActivate_netKept : ∀ (s : State) a b c d e, NetKept s (State.cdpActivate s a b c d e) := by
  intro s a b c d e
  unfold State.cdpActivate
  exact (NetKept.ite (State.badLength_netKept ..) (by
    split
    · exact (NetKept.trans (NetKept.of_same (State.result_same ..) rfl) (State.abort_netKept ..))
    · exact (NetKept.trans (State.respond_netKept ..) (State.activate_netKept ..))))

theorem State.answerSave_netKept : ∀ (s : State) a b, NetKept s (State.answerSave s a b) := by
  intro s a b
  unfold State.answerSave
  split
  · exact (State.respond_netKept ..)
  · exact (NetKept.trans (State.cnt_netKept ..) (State.respond_netKept ..))
  · exact (NetKept.refl _)

theorem State.routeConflict_netKept : ∀ (s : State) a b c, NetKept s (State.routeConflict s a b c) :=
  fun s _ _ _ => (NetKept.refl s).of_tables rfl rfl

theorem State.routed_netKept (s : State) (e ix sub slot p : Nat) (on : PierOn) (act : State → State)
    (h : ∀ u, NetKept u (act u)) : NetKept s (s.routed e ix sub slot p on act).1 := by
  unfold State.routed
  split
  · exact NetKept.trans (NetKept.of_same (State.routeRefused_same ..) rfl) (State.routeConflict_netKept ..)
  · exact NetKept.trans (State.setAt_netKept ..) (h _)

theorem State.laneSwitch_netKept : ∀ (s : State) e l k v, NetKept s (State.laneSwitch s e l k v).1 := by
  intro s e l k v
  refine NetKept.iteP (NetKept.trans (State.setAt_netKept ..) (NetKept.of_same (State.laneDisable_same ..) rfl)) ?_
  exact State.routed_netKept _ _ _ _ _ _ _ _ (fun u => (NetKept.of_same (State.laneEnable_same ..) rfl))

theorem State.exSwitch_netKept : ∀ (s : State) e k v, NetKept s (State.exSwitch s e k v).1 := by
  intro s e k v
  have h0 : ∀ i j w o, NetKept s ((s.setAt e i j w).exEnableEffect k o e) :=
    fun _ _ _ _ => NetKept.trans (State.setAt_netKept ..) (NetKept.of_same (State.exEnableEffect_same ..) rfl)
  refine NetKept.iteP ?_ ?_
  · dsimp only
    exact h0 _ _ _ _
  exact State.routed_netKept _ _ _ _ _ _ _ _ (fun u => (NetKept.of_same (State.exEnableEffect_same ..) rfl))

theorem State.biasSwitch_netKept : ∀ (s : State) e p v, NetKept s (State.biasSwitch s e p v).1 := by
  intro s e p v
  refine NetKept.iteP (NetKept.trans (State.setAt_netKept ..) (NetKept.of_same (State.settleLanes_same ..) rfl)) ?_
  exact State.routed_netKept _ _ _ _ _ _ _ _ (fun u => (NetKept.of_same (State.settleLanes_same ..) rfl))

theorem State.toneSwitch_netKept : ∀ (s : State) e p v, NetKept s (State.toneSwitch s e p v).1 := by
  intro s e p v
  refine NetKept.iteP (NetKept.of_mk (State.setAt_netKept ..)) ?_
  exact State.routed_netKept _ _ _ _ _ _ _ _ (fun u => NetKept.refl _)

theorem State.takeChange_netKept : ∀ (s : State) a b c d e, NetKept s (State.takeChange s a b c d e).1 := by
  intro s a b c d e
  unfold State.takeChange
  extract_lets +onlyGivenNames -merge x0
  exact (NetKept.iteP (NetKept.of_same (State.armSwitch_same ..) rfl) (NetKept.iteP (NetKept.refl _) (NetKept.iteP
    (State.laneSwitch_netKept ..) (NetKept.iteP (State.exSwitch_netKept ..) (NetKept.iteP (State.exSwitch_netKept ..)
      (NetKept.iteP (State.biasSwitch_netKept ..) (NetKept.iteP (State.toneSwitch_netKept ..) (NetKept.iteP (NetKept.of_same
        (State.unitSwitch_same ..) rfl) (NetKept.iteP (NetKept.of_same (State.seqSwitch_same ..) rfl) (NetKept.iteP
          (NetKept.of_same (State.streamSwitch_same ..) rfl) (NetKept.iteP (NetKept.of_same (State.caiSwitch_same ..) rfl)
            (NetKept.iteP (NetKept.of_same (State.lineInSwitch_same ..) rfl) (NetKept.trans (State.setAt_netKept ..)
              (NetKept.of_same (State.plainEffect_same ..) rfl))))))))))))))

theorem State.rwlChange_netKept : ∀ (s : State) a b, NetKept s (State.rwlChange s a b) := by
  intro s a b
  unfold State.rwlChange
  exact (NetKept.ite (by
    extract_lets +onlyGivenNames -merge x0
    have h0 : NetKept s x0.1 := (NetKept.foldlP _ (NetKept.refl _) (fun sv _ => (by
        extract_lets +onlyGivenNames -merge x0
        have h0 : NetKept sv.1 x0.1 := (State.takeChange_netKept ..)
        exact h0)))
    exact (NetKept.ite (NetKept.trans h0 (NetKept.of_same (State.tellConfig_same ..) rfl)) h0)) (NetKept.ite (by
    extract_lets +onlyGivenNames -merge x0
    have h0 : NetKept s x0.1 := (State.takeChange_netKept ..)
    exact (NetKept.ite (NetKept.trans h0 (NetKept.of_same (State.tellConfig_same ..) rfl)) h0)) (NetKept.refl _)))

theorem State.changeEffect_netKept : ∀ (s : State) a b, NetKept s (State.changeEffect a s b) := by
  intro s a b
  unfold State.changeEffect
  exact (NetKept.ite (NetKept.of_same (State.boundaryEffect_same ..) rfl) (State.rwlChange_netKept ..))

theorem State.boundary_netKept : ∀ (s : State) a b, NetKept s (State.boundary a s b) := by
  intro s a b
  unfold State.boundary
  extract_lets +onlyGivenNames -merge x0 x1 x2 x3
  have h2 : NetKept s x2 := (NetKept.of_mk (NetKept.refl _))
  exact (NetKept.foldl _ h2 (fun _ _ => (State.changeEffect_netKept ..)))

theorem State.testFrame_netKept : ∀ (s : State) a, NetKept s (State.testFrame s a) :=
  fun s _ => NetKept.ite ((NetKept.refl s).of_tables rfl rfl) (NetKept.refl s)

theorem State.cdpStray_netKept : ∀ (s : State) a b c, NetKept s (State.cdpStray s a b c) := by
  intro s a b c
  unfold State.cdpStray
  extract_lets +onlyGivenNames -merge x0 x1
  have h1 : NetKept s x1.1 := (State.admitCdp_netKept ..)
  split
  · exact (NetKept.trans h1 (State.abort_netKept ..))
  · exact h1

theorem State.takeFrame_netKept : ∀ (s : State) a b, NetKept s (State.takeFrame s a b) := by
  intro s a b
  unfold State.takeFrame
  extract_lets +onlyGivenNames -merge x0
  split
  · exact (NetKept.refl _)
  · exact (State.testFrame_netKept ..)
  · exact (NetKept.of_same (State.esmcLevel_same ..) rfl)
  · exact (NetKept.ite (NetKept.of_same (State.answerFrame_same ..) rfl) (NetKept.refl _))
  · exact (NetKept.ite (State.partnerFault_netKept ..) (NetKept.refl _))
  · exact (State.cdpStray_netKept ..)
  · exact (NetKept.refl _)
  · exact (NetKept.refl _)

theorem State.event_netKept : ∀ (s : State) n x m b f, n ≠ 0 → NetKept s (State.event s n x m b f) := by
  intro s n x m b f hn
  unfold State.event
  extract_lets +onlyGivenNames -merge e y
  exact NetKept.after (NetKept.of_same (State.eventOut_same ..) rfl) ((NetKept.refl s).set_session hn rfl rfl)

theorem State.setSub_netKept (s : State) (k : Nat) (x : Sub) : NetKept s (s.setSub k x) :=
  (NetKept.refl s).of_subs (tsorted_tset _ _ _) rfl

theorem State.offer_netKept (s : State) (k : Nat) (x : Sub) : NetKept s (s.offer k x) := by
  unfold State.offer
  split
  · next y e =>
    refine (NetKept.refl s).found e fun hn => ?_
    exact NetKept.ite ((State.setSub_netKept ..).trans (State.event_netKept _ _ _ _ _ _ hn)) (State.setSub_netKept ..)
  · exact NetKept.refl s

theorem State.offerWaiting_netKept : ∀ (s : State) a, NetKept s (State.offerWaiting s a) := by
  intro s a
  unfold State.offerWaiting
  extract_lets +onlyGivenNames -merge x0
  exact (NetKept.foldl _ (NetKept.refl _) (fun sv _ => (State.offer_netKept ..)))

theorem State.outletCarries_netKept : ∀ (s : State) a b, NetKept s (State.outletCarries s a b) :=
  fun s _ _ => (NetKept.refl s).of_tables rfl rfl

theorem State.sendSegment_netKept (s : State) (k : Nat) (x : Sub) (y : Session) (f : Frame) (hn : x.session ≠ 0) :
    NetKept s (s.sendSegment k x y f) := by
  unfold State.sendSegment
  extract_lets +onlyGivenNames -merge bytes part last body x1
  exact (State.outletCarries_netKept ..).trans ((State.setSub_netKept ..).trans (State.event_netKept _ _ _ _ _ _ hn))

theorem State.sendAlert_netKept (s : State) (k : Nat) (x : Sub) (y : Session) (hn : x.session ≠ 0) :
    NetKept s (s.sendAlert k x y) := by
  unfold State.sendAlert
  split
  · exact NetKept.after (State.event_netKept _ _ _ _ _ _ hn) ((NetKept.refl s).of_tables rfl rfl)
  · exact NetKept.refl s

theorem State.frameTaken_netKept (s : State) (n : Nat) : NetKept s (s.frameTaken n) := by
  unfold State.frameTaken
  extract_lets +onlyGivenNames -merge y subs
  have h1 : NetKept s { s with net := { s.net with subs := subs } } :=
    (NetKept.refl s).of_subs (fun h => tsorted_map _ _ h (fun z => by dsimp only; split <;> rfl)) rfl
  exact h1.trans ((NetKept.of_same (State.setStream_same ..) rfl).trans (NetKept.of_same (State.drainTail_same ..) rfl))

theorem State.ackEvents_netKept (s : State) (n upTo : Nat) : NetKept s (s.ackEvents n upTo) := by
  unfold State.ackEvents
  split
  · next x e =>
    extract_lets +onlyGivenNames -merge done
    refine NetKept.ite (NetKept.refl s) ?_
    extract_lets +onlyGivenNames -merge y net s1
    have h1 : NetKept s s1 := (NetKept.refl s).found e fun hn => (NetKept.refl s).set_session hn rfl rfl
    exact NetKept.trans (NetKept.foldl _ h1 State.frameTaken_netKept) (State.offerWaiting_netKept ..)
  · exact NetKept.refl s

theorem State.subscribe_netKept : ∀ (s : State) a b c, NetKept s (State.subscribe s a b c) := by
  intro s a b c
  unfold State.subscribe
  split
  · exact (State.abort_netKept ..)
  · exact (NetKept.trans (State.setSub_netKept ..) (State.respond_netKept ..))

theorem State.subscribeParams_netKept : ∀ (s : State) a b c d, NetKept s (State.subscribeParams s a b c d) := by
  intro s a b c d
  unfold State.subscribeParams
  extract_lets +onlyGivenNames -merge x0 x1 x2
  exact (NetKept.ite (State.badLength_netKept ..) (NetKept.ite (State.abort_netKept ..) (by
    split
    · exact (State.abort_netKept ..)
    · exact (NetKept.ite (State.abort_netKept ..) (State.subscribe_netKept ..)))))

theorem State.subscribeStream_netKept : ∀ (s : State) a b c, NetKept s (State.subscribeStream s a b c) := by
  intro s a b c
  unfold State.subscribeStream
  extract_lets +onlyGivenNames -merge x0
  exact (NetKept.ite (State.badLength_netKept ..) (NetKept.ite (State.abort_netKept ..) (NetKept.ite (State.abort_netKept ..)
    (by
    extract_lets +onlyGivenNames -merge x0
    exact (NetKept.trans (NetKept.of_same (State.setStream_same ..) rfl) (State.subscribe_netKept ..))))))

theorem State.cancelSub_netKept : ∀ (s : State) a b c, NetKept s (State.cancelSub s a b c) := by
  intro s a b c
  unfold State.cancelSub
  extract_lets +onlyGivenNames -merge x0
  exact (NetKept.ite (State.badLength_netKept ..) (by
    split
    · exact (NetKept.ite (NetKept.trans (State.endSub_netKept ..) (State.respond_netKept ..)) (State.abort_netKept ..))
    · exact (State.abort_netKept ..)))

theorem State.deviceReset_netKept (s : State) (cause : Nat) : NetKept s (s.deviceReset cause) := ⟨fun _ => ⟨rfl, rfl, rfl⟩⟩

theorem State.bootPower_netKept : ∀ (s : State) a b c, NetKept s (State.bootPower s a b c) := by
  intro s a b c
  unfold State.bootPower
  extract_lets +onlyGivenNames -merge n target s1 s2
  have h1 : NetKept s s1 := NetKept.foldl _ (NetKept.refl _) (fun _ _ => State.setPar_netKept ..)
  have h2 : NetKept s s2 := NetKept.trans h1 (State.deviceTo_netKept ..)
  exact NetKept.ite (NetKept.trans h2 (State.setPar_netKept ..)) h2

theorem State.endStep7_netKept : ∀ (s : State) a b c, NetKept s (State.endStep7 s a b c) := by
  intro s a b c
  unfold State.endStep7
  extract_lets +onlyGivenNames -merge x0
  have h0 : NetKept s x0 := by
    unfold x0
    split
    · exact (State.loadBody_netKept ..)
    · exact (NetKept.refl _)
  exact (NetKept.trans (NetKept.trans (NetKept.trans h0 (NetKept.of_same (State.cfgLoad_same ..) rfl)) (NetKept.of_same
    (State.stepEnds_same ..) rfl)) (State.bootPower_netKept ..))

theorem State.endStep8_netKept : ∀ (s : State), NetKept s (State.endStep8 s) := by
  intro s
  unfold State.endStep8
  extract_lets +onlyGivenNames -merge x0
  have h0 : NetKept s x0 := (NetKept.of_same (State.requeueBoot_same ..) rfl)
  exact (NetKept.trans (by
    split
    · exact (NetKept.trans h0 (State.loadEnables_netKept ..))
    · exact h0) (NetKept.of_same (State.stepEnds_same ..) rfl))

/-! ### The commands -/

theorem NextNet.cdp {u s : State} {h : CdpHdr} {op : Nat} {need : Need} {b : List Word} {act : State → Reply → State}
    (hu : NetKept u s) (ha : ∀ v r, NetKept v (act v r)) : NextNet u (s.cdp h op need b act) := by
  unfold State.cdp
  extract_lets a
  have h1 : NetKept s a.1 := State.admitCdp_netKept ..
  split
  · exact NextNet.next (hu.trans (h1.trans (ha _ _)))
  · exact NextNet.next (hu.trans h1)

theorem execStreamFlush_netKept : ∀ (s : State) a b, NextNet (s.enter a) (execStreamFlush a b s) := by
  intro s a b
  unfold execStreamFlush
  exact (NextNet.next (NetKept.trans (NetKept.refl _) (State.streamFlush_netKept ..)))

theorem execReadMulti_netKept : ∀ (s : State) a b c, NextNet (s.enter a) (execReadMulti a b c s) := by
  intro s a b c
  unfold execReadMulti
  exact (NextNet.cdp (NetKept.refl _) (fun v r => (State.readMulti_netKept ..)))

theorem execEthFrameRx_netKept : ∀ (s : State) a b c d e f, NextNet (s.enter a) (execEthFrameRx a b c d e f s) := by
  intro s a b c d e f
  unfold execEthFrameRx
  extract_lets +onlyGivenNames -merge x0
  have h0 : NetKept (s.enter a) x0 := (NetKept.refl _)
  exact (NextNet.ite (NextNet.next h0) (NextNet.ite (NextNet.next (NetKept.trans h0 (State.cnt_netKept ..))) (by
    extract_lets +onlyGivenNames -merge x0 x1
    have h0 : NetKept (s.enter a) x0 := (NetKept.ite h0 (NetKept.trans h0 (State.cnt_netKept ..)))
    have h1 : NetKept (s.enter a) x1 := (NetKept.ite (NetKept.trans h0 (NetKept.of_same (State.forwardFrame_same ..) rfl)) h0)
    exact (NextNet.ite (NextNet.next (NetKept.trans h1 (State.takeFrame_netKept ..))) (NextNet.next h1)))))

theorem execPpsInEdge_netKept : ∀ (s : State) a b c, NextNet (s.enter a) (execPpsInEdge a b c s) := by
  intro s a b c
  unfold execPpsInEdge
  extract_lets +onlyGivenNames -merge x0
  have h0 : NetKept (s.enter a) x0 := (NetKept.refl _)
  exact (NextNet.next (NetKept.trans (NetKept.trans h0 (State.edgeIn_netKept ..)) (NetKept.of_same (State.inputMoved_same ..)
    rfl)))

theorem execLinkDown_netKept : ∀ (s : State) a, NextNet (s.enter a) (execLinkDown a s) := by
  intro s a
  unfold execLinkDown
  exact (NextNet.next (NetKept.trans (NetKept.refl _) (State.hostLinkDown_netKept ..)))

theorem execPllLock_netKept : ∀ (s : State) a b c d, NextNet (s.enter a) (execPllLock a b c d s) := by
  intro s a b c d
  unfold execPllLock
  extract_lets +onlyGivenNames -merge x0
  have h0 : NetKept (s.enter a) x0 := (NetKept.refl _)
  exact (NextNet.ite (by
    extract_lets +onlyGivenNames -merge x0 x1
    have h1 : NetKept (s.enter a) x1 := (NetKept.trans (NetKept.trans h0 (State.setPar_netKept ..)) (State.setPar_netKept ..))
    exact (NextNet.next (NetKept.trans (NetKept.trans h1 (State.loopLocked_netKept ..)) (NetKept.of_same (State.wakeDone_same
      ..) rfl)))) (NextNet.next h0))

theorem execCdpResponseSend_netKept (s : State) (a : Nat) : NextNet (s.enter a) (execCdpResponseSend a s) := by
  unfold execCdpResponseSend
  extract_lets +onlyGivenNames -merge s1
  split
  · exact NextNet.next (NetKept.after (State.answerHeld_netKept ..) ((NetKept.refl _).of_tables rfl rfl))
  · exact NextNet.next (NetKept.refl _)

theorem execPowerOn_netKept : ∀ (s : State) a b c, NextNet s (execPowerOn a b c s) := by
  intro s a b c
  unfold execPowerOn
  extract_lets +onlyGivenNames -merge x0
  have h0 : NetKept s x0 := (State.deviceReset_netKept ..)
  exact (NextNet.next (NetKept.ite (NetKept.trans h0 (NetKept.of_same (State.sampleStraps_same ..) rfl)) (NetKept.of_mk h0)))

theorem execSaveComplete_netKept : ∀ (s : State) a b, NextNet (s.enter a) (execSaveComplete a b s) := by
  intro s a b
  unfold execSaveComplete
  extract_lets +onlyGivenNames -merge x0
  have h0 : NetKept (s.enter a) x0 := (NetKept.refl _)
  split
  · exact (NextNet.ite (NextNet.next h0) (by
    extract_lets +onlyGivenNames -merge x0
    have h0 : NetKept (s.enter a) x0.1 := (NetKept.trans h0 (NetKept.of_same (State.saveDone_same ..) rfl))
    exact (NextNet.next (NetKept.trans h0 (State.answerSave_netKept ..)))))
  · exact (NextNet.next h0)

theorem execSubscribeStream_netKept : ∀ (s : State) a b c, NextNet (s.enter a) (execSubscribeStream a b c s) := by
  intro s a b c
  unfold execSubscribeStream
  exact (NextNet.cdp (NetKept.refl _) (fun v r => (State.subscribeStream_netKept ..)))

theorem execOwnershipRelease_netKept : ∀ (s : State) a b c, NextNet (s.enter a) (execOwnershipRelease a b c s) := by
  intro s a b c
  unfold execOwnershipRelease
  exact (NextNet.cdp (NetKept.refl _) (fun v r => (State.ownership_netKept ..)))

theorem execStoreLoadCurrent_netKept : ∀ (s : State) a, NextNet (s.enter a) (execStoreLoadCurrent a s) := by
  intro s a
  unfold execStoreLoadCurrent
  exact (NextNet.next (NetKept.trans (NetKept.refl _) (State.load_netKept ..)))

theorem execWideWordWrite_netKept : ∀ (s : State) a b c d e f, NextNet (s.enter a) (execWideWordWrite a b c d e f s) := by
  intro s a b c d e f
  unfold execWideWordWrite
  extract_lets +onlyGivenNames -merge x0
  have h0 : NetKept (s.enter a) x0 := (NetKept.refl _)
  split
  · exact (NextNet.ite (NextNet.next (NetKept.trans h0 (State.hostWrite_netKept ..))) (NextNet.next h0))
  · exact (NextNet.next h0)

theorem execSubscribeOnChange_netKept : ∀ (s : State) a b c, NextNet (s.enter a) (execSubscribeOnChange a b c s) := by
  intro s a b c
  unfold execSubscribeOnChange
  exact (NextNet.cdp (NetKept.refl _) (fun v r => (State.subscribeParams_netKept ..)))

theorem execDoorbellHostPtr_netKept : ∀ (s : State) a b c d, NextNet (s.enter a) (execDoorbellHostPtr a b c d s) := by
  intro s a b c d
  unfold execDoorbellHostPtr
  exact (NextNet.next (NetKept.trans (NetKept.refl _) (State.postedWrite_netKept _ _ _ (fun v => (State.bellHostPtr_netKept
    ..)))))

theorem execInboundTlpError_netKept : ∀ (s : State) a b c d e, NextNet (s.enter a) (execInboundTlpError a b c d e s) := by
  intro s a b c d e
  unfold execInboundTlpError
  extract_lets +onlyGivenNames -merge x0
  have h0 : NetKept (s.enter a) x0 := (NetKept.refl _)
  exact (NextNet.ite (by
    extract_lets +onlyGivenNames -merge x0
    have h0 : NetKept (s.enter a) x0 := (NetKept.ite (NetKept.trans h0 (NetKept.of_same (State.send_same ..) rfl)) h0)
    exact (NextNet.next (NetKept.trans h0 (State.portError_netKept ..)))) (NextNet.next h0))

theorem execKeystoneItem_netKept : ∀ (s : State) a, NextNet (s.enter a) (execKeystoneItem a s) := by
  intro s a
  unfold execKeystoneItem
  extract_lets +onlyGivenNames -merge x0
  have h0 : NetKept (s.enter a) x0 := (NetKept.refl _)
  exact (NextNet.ite (NextNet.next h0) (by
    extract_lets +onlyGivenNames -merge x0
    have h0 : NetKept (s.enter a) x0 := (NetKept.trans h0 (State.settleCtl_netKept ..))
    split
    · exact (NextNet.ite (NextNet.next h0) (NextNet.next (NetKept.trans (NetKept.trans (NetKept.of_mk h0)
        (State.takeRecord_netKept ..)) (State.itemDone_netKept ..))))
    · exact (NextNet.next h0)))

theorem execSubscribeAlerts_netKept : ∀ (s : State) a b c, NextNet (s.enter a) (execSubscribeAlerts a b c s) := by
  intro s a b c
  unfold execSubscribeAlerts
  exact (NextNet.cdp (NetKept.refl _) (fun v r => (NetKept.ite (State.subscribe_netKept ..) (State.badLength_netKept ..))))

theorem execForceSrcWrite_netKept : ∀ (s : State) a b c, NextNet (s.enter a) (execForceSrcWrite a b c s) := by
  intro s a b c
  unfold execForceSrcWrite
  extract_lets +onlyGivenNames -merge x0
  have h0 : NetKept (s.enter a) x0 := (NetKept.refl _)
  split
  · exact (NextNet.next (NetKept.trans h0 (State.tryWrite_netKept ..)))
  · exact (NextNet.next h0)

theorem execCompletionTimeout_netKept : ∀ (s : State) a b, NextNet (s.enter a) (execCompletionTimeout a b s) := by
  intro s a b
  unfold execCompletionTimeout
  extract_lets +onlyGivenNames -merge x0
  have h0 : NetKept (s.enter a) x0 := (NetKept.refl _)
  split
  · exact (NextNet.ite (NextNet.next h0) (NextNet.next (NetKept.trans (NetKept.trans (NetKept.trans h0 (State.cnt_netKept ..))
      (NetKept.of_same (State.readFailed_same ..) rfl)) (State.portError_netKept ..))))
  · exact (NextNet.next h0)

theorem execTmrScrub_netKept : ∀ (s : State) a b c d e f, NextNet (s.enter a) (execTmrScrub a b c d e f s) := by
  intro s a b c d e f
  unfold execTmrScrub
  extract_lets +onlyGivenNames -merge x0
  have h0 : NetKept (s.enter a) x0 := (NetKept.refl _)
  split
  · exact (NextNet.ite (NextNet.next (NetKept.trans h0 (State.vote_netKept ..))) (NextNet.next h0))
  · exact (NextNet.next h0)

theorem execAttest_netKept : ∀ (s : State) a b c, NextNet (s.enter a) (execAttest a b c s) := by
  intro s a b c
  unfold execAttest
  exact (NextNet.cdp (NetKept.refl _) (fun v r => (NetKept.ite (NetKept.trans (NetKept.of_same (State.draw_same ..) rfl)
    (State.respond_netKept ..)) (State.badLength_netKept ..))))

theorem execFrameAgeClose_netKept : ∀ (s : State) a b, NextNet (s.enter a) (execFrameAgeClose a b s) := by
  intro s a b
  unfold execFrameAgeClose
  extract_lets +onlyGivenNames -merge x0
  have h0 : NetKept (s.enter a) x0 := (NetKept.refl _)
  split
  · extract_lets +onlyGivenNames -merge x0
    exact (NextNet.ite (NextNet.next (NetKept.trans h0 (State.closeFrame_netKept ..))) (NextNet.next h0))
  · exact (NextNet.next h0)

theorem execResetNRelease_netKept : ∀ (s : State) a b, NextNet s (execResetNRelease a b s) := by
  intro s a b
  unfold execResetNRelease
  exact (NextNet.ite (NextNet.next (NetKept.trans (State.deviceReset_netKept ..) (NetKept.of_same (State.sampleStraps_same ..)
    rfl))) (NextNet.next (NetKept.of_mk (NetKept.refl _))))

theorem execPerstNFall_netKept : ∀ (s : State) a b c, NextNet (s.enter a) (execPerstNFall a b c s) := by
  intro s a b c
  unfold execPerstNFall
  extract_lets +onlyGivenNames -merge x0
  have h0 : NetKept (s.enter a) x0 := (NetKept.refl _)
  exact (NextNet.ite (by
    extract_lets +onlyGivenNames -merge x0 x1 x2
    have h0 : NetKept (s.enter a) x0 := (NetKept.trans (NetKept.trans (NetKept.trans h0 (State.cnt_netKept ..))
      (NetKept.of_same (State.portReset_same ..) rfl)) (NetKept.of_same (State.linkOff_same ..) rfl))
    have h2 : NetKept (s.enter a) x2 := (NetKept.trans (NetKept.trans (NetKept.of_mk h0) (NetKept.of_same
      (State.crossingReset_same ..) rfl)) (State.freeze_netKept ..))
    exact (NextNet.next (NetKept.trans h2 (State.setPar_netKept ..)))) (NextNet.next h0))

theorem execTimeLoadEffect_netKept : ∀ (s : State) a, NextNet (s.enter a) (execTimeLoadEffect a s) := by
  intro s a
  unfold execTimeLoadEffect
  extract_lets +onlyGivenNames -merge x0
  have h0 : NetKept (s.enter a) x0 := (NetKept.refl _)
  split
  · split
    · exact (NextNet.ite (NextNet.next (NetKept.trans h0 (State.loadEffect_netKept ..))) (NextNet.next h0))
    · exact (NextNet.next h0)
  · exact (NextNet.next h0)

theorem execConfigEffect_netKept : ∀ (s : State) a b, NextNet (s.enter a) (execConfigEffect a b s) := by
  intro s a b
  unfold execConfigEffect
  extract_lets +onlyGivenNames -merge x0
  have h0 : NetKept (s.enter a) x0 := (NetKept.refl _)
  exact (NextNet.ite (NextNet.next h0) (NextNet.next (NetKept.foldl _ h0 (fun _ _ => (State.boundary_netKept ..)))))

theorem execPowerStateEffect_netKept : ∀ (s : State) a b c, NextNet (s.enter a) (execPowerStateEffect a b c s) := by
  intro s a b c
  unfold execPowerStateEffect
  extract_lets +onlyGivenNames -merge x0 x1 x2 x3
  have h0 : NetKept (s.enter a) x0 := (NetKept.refl _)
  have h3 : NetKept (s.enter a) x3 := (NetKept.of_mk h0)
  exact (NextNet.next (NetKept.foldl _ h3 (fun _ _ => (State.applyPwr_netKept ..))))

theorem execCdpEnable_netKept : ∀ (s : State) a b c, NextNet (s.enter a) (execCdpEnable a b c s) := by
  intro s a b c
  unfold execCdpEnable
  exact (NextNet.cdp (NetKept.refl _) (fun v r => (State.cdpEnable_netKept ..)))

theorem execEventAcknowledge_netKept : ∀ (s : State) a b c, NextNet (s.enter a) (execEventAcknowledge a b c s) := by
  intro s a b c
  unfold execEventAcknowledge
  exact (NextNet.cdp (NetKept.refl _) (fun v r => (NetKept.ite (NetKept.trans (NetKept.trans (NetKept.of_same (State.draw_same
    ..) rfl) (State.ackEvents_netKept ..)) (State.respond_netKept ..)) (State.badLength_netKept ..))))

theorem execWatchdogExpiry_netKept : ∀ (s : State) a b c, NextNet (s.enter a) (execWatchdogExpiry a b c s) := by
  intro s a b c
  unfold execWatchdogExpiry
  extract_lets +onlyGivenNames -merge x0
  have h0 : NetKept (s.enter a) x0 := (NetKept.refl _)
  exact (NextNet.ite (NextNet.next h0) (by
    extract_lets +onlyGivenNames -merge x0
    have h0 : NetKept (s.enter a) x0 := (NetKept.trans (NetKept.trans h0 (State.mpRestart_netKept ..)) (NetKept.of_same
      (State.bootCounted_same ..) rfl))
    exact (NextNet.ite (by
      extract_lets +onlyGivenNames -merge x0 x1
      exact (NextNet.ite (NextNet.next (NetKept.trans h0 (NetKept.of_same (State.revert_same ..) rfl))) (NextNet.next
        (NetKept.of_mk h0)))) (NextNet.next h0))))

theorem execBackwardStep_netKept : ∀ (s : State) a, NextNet (s.enter a) (execBackwardStep a s) := by
  intro s a
  unfold execBackwardStep
  extract_lets +onlyGivenNames -merge x0
  have h0 : NetKept (s.enter a) x0 := (NetKept.refl _)
  split
  · exact (NextNet.ite (NextNet.next (NetKept.trans h0 (State.backwardStep_netKept ..))) (NextNet.next (NetKept.of_mk h0)))
  · exact (NextNet.next h0)

theorem execWideLowRead_netKept : ∀ (s : State) a b c d e f g, NextNet (s.enter a) (execWideLowRead a b c d e f g s) := by
  intro s a b c d e f g
  unfold execWideLowRead
  exact (NextNet.next (NetKept.trans (NetKept.refl _) (State.hostRead_netKept ..)))

theorem execEventSend_netKept (s : State) (a : Nat) (k : Fin 16) (errs : List CodeErr) :
    NextNet (s.enter a) (execEventSend a k errs s) := by
  unfold execEventSend
  extract_lets +onlyGivenNames -merge s1
  have h0 : NetKept s1 s1 := NetKept.refl s1
  split
  · next x _ =>
    split
    · next y e =>
      refine NextNet.ite (NextNet.next h0) (NextNet.ite (NextNet.next ?_) (NextNet.ite ?_ (NextNet.next h0)))
      · exact h0.found e fun hn => State.sendAlert_netKept _ _ _ _ hn
      · split
        · refine NextNet.ite (NextNet.next ?_) (NextNet.next h0)
          exact h0.found e fun hn => NetKept.trans (NetKept.of_same (State.outletRead_same ..) rfl) (State.sendSegment_netKept _ _ _ _ _ hn)
        · exact NextNet.next h0
    · exact NextNet.next h0
  · exact NextNet.next h0

theorem execStoreLoadB_netKept : ∀ (s : State) a, NextNet (s.enter a) (execStoreLoadB a s) := by
  intro s a
  unfold execStoreLoadB
  exact (NextNet.next (NetKept.trans (NetKept.refl _) (State.load_netKept ..)))

theorem execCdpDisable_netKept : ∀ (s : State) a b c, NextNet (s.enter a) (execCdpDisable a b c s) := by
  intro s a b c
  unfold execCdpDisable
  exact (NextNet.cdp (NetKept.refl _) (fun v r => (State.cdpEnable_netKept ..)))

theorem execSessionOpen_netKept : ∀ (s : State) a b c, NextNet (s.enter a) (execSessionOpen a b c s) := by
  intro s a b c
  unfold execSessionOpen
  exact (NextNet.cdp (NetKept.refl _) (fun v r => (NetKept.ite (State.openSession_netKept ..) (State.badLength_netKept ..))))

theorem execCdpLoad_netKept : ∀ (s : State) a b c, NextNet (s.enter a) (execCdpLoad a b c s) := by
  intro s a b c
  unfold execCdpLoad
  exact (NextNet.cdp (NetKept.refl _) (fun v r => (State.cdpLoad_netKept ..)))

theorem execDeadlineItem_netKept : ∀ (s : State) a, NextNet (s.enter a) (execDeadlineItem a s) := by
  intro s a
  unfold execDeadlineItem
  extract_lets +onlyGivenNames -merge x0
  have h0 : NetKept (s.enter a) x0 := (NetKept.refl _)
  exact (NextNet.ite (NextNet.next h0) (by
    extract_lets +onlyGivenNames -merge x0
    have h0 : NetKept (s.enter a) x0 := (NetKept.trans h0 (State.settleCtl_netKept ..))
    split
    · exact (NextNet.ite (by
      extract_lets +onlyGivenNames -merge x0
      have h0 : NetKept (s.enter a) x0.1 := (NetKept.trans h0 (NetKept.of_same (State.unitsDeadline_same ..) rfl))
      exact (NextNet.next (NetKept.trans (NetKept.trans h0 (State.sequence_netKept ..)) (State.itemDone_netKept ..))))
        (NextNet.next h0))
    · exact (NextNet.next h0)))

theorem execStoreLoadA_netKept : ∀ (s : State) a, NextNet (s.enter a) (execStoreLoadA a s) := by
  intro s a
  unfold execStoreLoadA
  exact (NextNet.next (NetKept.trans (NetKept.refl _) (State.load_netKept ..)))

theorem execWriteMulti_netKept : ∀ (s : State) a b c, NextNet (s.enter a) (execWriteMulti a b c s) := by
  intro s a b c
  unfold execWriteMulti
  exact (NextNet.cdp (NetKept.refl _) (fun v r => (State.writeMulti_netKept ..)))

theorem execSourceSelectWrite_netKept : ∀ (s : State) a b c, NextNet (s.enter a) (execSourceSelectWrite a b c s) := by
  intro s a b c
  unfold execSourceSelectWrite
  extract_lets +onlyGivenNames -merge x0 x1
  have h0 : NetKept (s.enter a) x0 := (NetKept.refl _)
  split
  · exact (NextNet.next (NetKept.trans h0 (State.tryWrite_netKept ..)))
  · exact (NextNet.next h0)

theorem execCalUserCommit_netKept : ∀ (s : State) a b, NextNet (s.enter a) (execCalUserCommit a b s) := by
  intro s a b
  unfold execCalUserCommit
  extract_lets +onlyGivenNames -merge x0
  have h0 : NetKept (s.enter a) x0 := (NetKept.refl _)
  split
  · exact (NextNet.next (NetKept.trans h0 (State.tryWrite_netKept ..)))
  · exact (NextNet.next h0)

theorem execSubscribePeriodic_netKept : ∀ (s : State) a b c, NextNet (s.enter a) (execSubscribePeriodic a b c s) := by
  intro s a b c
  unfold execSubscribePeriodic
  exact (NextNet.cdp (NetKept.refl _) (fun v r => (State.subscribeParams_netKept ..)))

theorem execOwnershipTake_netKept : ∀ (s : State) a b c, NextNet (s.enter a) (execOwnershipTake a b c s) := by
  intro s a b c
  unfold execOwnershipTake
  exact (NextNet.cdp (NetKept.refl _) (fun v r => (State.ownership_netKept ..)))

theorem execCdpWrite_netKept : ∀ (s : State) a b c, NextNet (s.enter a) (execCdpWrite a b c s) := by
  intro s a b c
  unfold execCdpWrite
  exact (NextNet.cdp (NetKept.refl _) (fun v r => (State.cdpWrite_netKept ..)))

theorem execSessionAuthSign_netKept : ∀ (s : State) a b c, NextNet (s.enter a) (execSessionAuthSign a b c s) := by
  intro s a b c
  unfold execSessionAuthSign
  exact (NextNet.cdp (NetKept.refl _) (fun v r => (State.authSign_netKept ..)))

theorem execDomainRelease_netKept : ∀ (s : State) a, NextNet (s.enter a) (execDomainRelease a s) := by
  intro s a
  unfold execDomainRelease
  extract_lets +onlyGivenNames -merge x0
  have h0 : NetKept (s.enter a) x0 := (NetKept.refl _)
  split
  · exact (NextNet.ite (NextNet.next h0) (NextNet.next (NetKept.trans h0 (State.release_netKept ..))))
  · exact (NextNet.next h0)

theorem execRegisterWrite_netKept : ∀ (s : State) a b c d e f g h, NextNet (s.enter a) (execRegisterWrite a b c d e f g h s) :=
  by
  intro s a b c d e f g h
  unfold execRegisterWrite
  exact (NextNet.next (NetKept.trans (NetKept.refl _) (State.hostWrite_netKept ..)))

theorem execMsixVectorUnmask_netKept : ∀ (s : State) a b c, NextNet (s.enter a) (execMsixVectorUnmask a b c s) := by
  intro s a b c
  unfold execMsixVectorUnmask
  exact (NextNet.next (NetKept.trans (NetKept.refl _) (State.postedWrite_netKept _ _ _ (fun v => (NetKept.of_same
    (State.msixWrite_same ..) rfl)))))

theorem execSlowWriteApply_netKept : ∀ (s : State) a b, NextNet (s.enter a) (execSlowWriteApply a b s) := by
  intro s a b
  unfold execSlowWriteApply
  extract_lets +onlyGivenNames -merge x0 x1
  have h0 : NetKept (s.enter a) x0 := (NetKept.refl _)
  have h1 : NetKept (s.enter a) x1 := (NetKept.trans h0 (NetKept.of_same (State.refreshSlots_same ..) rfl))
  exact (NextNet.ite (NextNet.next h0) (NextNet.next (NetKept.foldl _ (NetKept.of_mk h1) (fun _ _ => (State.applyHeld_netKept
    ..)))))

theorem execSnapshotCounters_netKept : ∀ (s : State) a b c, NextNet (s.enter a) (execSnapshotCounters a b c s) := by
  intro s a b c
  unfold execSnapshotCounters
  exact (NextNet.cdp (NetKept.refl _) (fun v r => (NetKept.ite (by
    extract_lets +onlyGivenNames -merge x0
    have h0 : NetKept v x0 := (NetKept.of_same (State.requestSnapshot_same ..) rfl)
    exact (NetKept.trans h0 (State.respond_netKept ..))) (State.badLength_netKept ..))))

theorem execClkReturn_netKept : ∀ (s : State) a, NextNet (s.enter a) (execClkReturn a s) := by
  intro s a
  unfold execClkReturn
  exact (NextNet.next (NetKept.trans (NetKept.refl _) (State.clkReturn_netKept ..)))

theorem execRingEnable_netKept : ∀ (s : State) a b c, NextNet (s.enter a) (execRingEnable a b c s) := by
  intro s a b c
  unfold execRingEnable
  exact (NextNet.next (NetKept.trans (NetKept.refl _) (State.postedWrite_netKept _ _ _ (fun v => (NetKept.of_same
    (State.ringEnable_same ..) rfl)))))

theorem execPortResume_netKept : ∀ (s : State) a b, NextNet (s.enter a) (execPortResume a b s) := by
  intro s a b
  unfold execPortResume
  exact (NextNet.next (NetKept.trans (NetKept.refl _) (State.postedWrite_netKept _ _ _ (fun v => (State.portResume_netKept
    ..)))))

theorem execEventResend_netKept (s : State) (a n : Nat) : NextNet (s.enter a) (execEventResend a n s) := by
  unfold execEventResend
  extract_lets +onlyGivenNames -merge s1
  split
  · next x e =>
    refine NextNet.ite (NextNet.next (NetKept.refl _)) ?_
    extract_lets +onlyGivenNames -merge y net s2
    refine NextNet.next ((NetKept.refl s1).found e fun hn => ?_)
    have h2 : NetKept s1 s2 := NetKept.after (State.cnt_netKept ..) ((NetKept.refl s1).set_session hn rfl rfl)
    exact NetKept.foldl _ h2 (fun _ _ => (NetKept.of_same (State.eventOut_same ..) rfl))
  · exact NextNet.next (NetKept.refl _)

theorem execBar4Read_netKept : ∀ (s : State) a b c d e, NextNet (s.enter a) (execBar4Read a b c d e s) := by
  intro s a b c d e
  unfold execBar4Read
  extract_lets +onlyGivenNames -merge x0
  have h0 : NetKept (s.enter a) x0.1 := (NetKept.trans (NetKept.refl _) (State.memRequest_netKept ..))
  exact (NextNet.ite (NextNet.next h0) (by
    split
    · exact (NextNet.next (NetKept.trans h0 (State.windowMiss_netKept ..)))
    · extract_lets +onlyGivenNames -merge x0
      exact (NextNet.ite (NextNet.next (NetKept.trans h0 (NetKept.of_same (State.windowRead_same ..) rfl))) (NextNet.next
        (NetKept.trans (NetKept.trans h0 (NetKept.of_same (State.governed_same ..) rfl)) (NetKept.of_same (State.send_same ..)
          rfl))))))

theorem execThresholdEdge_netKept : ∀ (s : State) a b c d e, NextNet (s.enter a) (execThresholdEdge a b c d e s) := by
  intro s a b c d e
  unfold execThresholdEdge
  extract_lets +onlyGivenNames -merge x0 x1 x2
  have h0 : NetKept (s.enter a) x0 := (NetKept.refl _)
  exact (NextNet.next (NetKept.trans (NetKept.trans (NetKept.ite (NetKept.trans h0 (NetKept.of_same (State.draw_same ..) rfl))
    h0) (State.edgeIn_netKept ..)) (NetKept.of_same (State.inputMoved_same ..) rfl)))

theorem execSessionClose_netKept : ∀ (s : State) a b c, NextNet (s.enter a) (execSessionClose a b c s) := by
  intro s a b c
  unfold execSessionClose
  exact (NextNet.cdp (NetKept.refl _) (fun v r => (NetKept.ite (NetKept.trans (State.respond_netKept ..)
    (State.endSession_netKept ..)) (State.badLength_netKept ..))))

theorem execFwActivate_netKept : ∀ (s : State) a b c d e, NextNet (s.enter a) (execFwActivate a b c d e s) := by
  intro s a b c d e
  unfold execFwActivate
  exact (NextNet.cdp (NetKept.refl _) (fun v r => (State.cdpActivate_netKept ..)))

theorem execSessionAuthKeys_netKept : ∀ (s : State) a b c, NextNet (s.enter a) (execSessionAuthKeys a b c s) := by
  intro s a b c
  unfold execSessionAuthKeys
  exact (NextNet.cdp (NetKept.refl _) (fun v r => (State.authKeys_netKept ..)))

theorem execPtpMessageRx_netKept : ∀ (s : State) a b c, NextNet (s.enter a) (execPtpMessageRx a b c s) := by
  intro s a b c
  unfold execPtpMessageRx
  extract_lets +onlyGivenNames -merge x0
  have h0 : NetKept (s.enter a) x0 := (NetKept.refl _)
  exact (NextNet.ite (NextNet.next (NetKept.trans h0 (State.ptpReceive_netKept ..))) (NextNet.next h0))

theorem execRingDisable_netKept : ∀ (s : State) a b c, NextNet (s.enter a) (execRingDisable a b c s) := by
  intro s a b c
  unfold execRingDisable
  exact (NextNet.next (NetKept.trans (NetKept.refl _) (State.postedWrite_netKept _ _ _ (fun v => (NetKept.of_same
    (State.ringDisable_same ..) rfl)))))

theorem execClockFailure_netKept : ∀ (s : State) a b c d e f g, NextNet (s.enter a) (execClockFailure a b c d e f g s) := by
  intro s a b c d e f g
  unfold execClockFailure
  extract_lets +onlyGivenNames -merge x0
  have h0 : NetKept (s.enter a) x0 := (NetKept.refl _)
  exact (NextNet.ite (NextNet.next h0) (NextNet.next (NetKept.trans h0 (State.failure_netKept ..))))

theorem execCompletionRx_netKept : ∀ (s : State) a b c d e, NextNet (s.enter a) (execCompletionRx a b c d e s) := by
  intro s a b c d e
  unfold execCompletionRx
  extract_lets +onlyGivenNames -merge x0
  have h0 : NetKept (s.enter a) x0 := (NetKept.refl _)
  exact (NextNet.ite (NextNet.next h0) (by
    split
    · exact (NextNet.ite (NextNet.next (NetKept.trans (NetKept.trans (NetKept.trans h0 (State.cnt_netKept ..)) (NetKept.of_same
        (State.readFailed_same ..) rfl)) (State.portError_netKept ..))) (NextNet.next (NetKept.trans h0 (NetKept.of_same
          (State.readGot_same ..) rfl))))
    · exact (NextNet.ite (NextNet.next (NetKept.trans (NetKept.trans h0 (State.cnt_netKept ..)) (State.partnerFault_netKept
        ..))) (NextNet.next (NetKept.trans (NetKept.trans h0 (State.cnt_netKept ..)) (State.portError_netKept ..))))))

theorem execAutoReturn_netKept : ∀ (s : State) a, NextNet (s.enter a) (execAutoReturn a s) := by
  intro s a
  unfold execAutoReturn
  extract_lets +onlyGivenNames -merge x0 x1
  have h0 : NetKept (s.enter a) x0 := (NetKept.refl _)
  exact (NextNet.ite (NextNet.next (NetKept.trans h0 (State.returnRef_netKept ..))) (NextNet.next h0))

theorem execFwStage_netKept : ∀ (s : State) a b c, NextNet (s.enter a) (execFwStage a b c s) := by
  intro s a b c
  unfold execFwStage
  exact (NextNet.cdp (NetKept.refl _) (fun v r => (State.cdpStage_netKept ..)))

theorem execDoorbellHostSeen_netKept : ∀ (s : State) a b c d, NextNet (s.enter a) (execDoorbellHostSeen a b c d s) := by
  intro s a b c d
  unfold execDoorbellHostSeen
  exact (NextNet.next (NetKept.trans (NetKept.refl _) (State.postedWrite_netKept _ _ _ (fun v => (State.bellHostSeen_netKept
    ..)))))

theorem execStartUpStepEnd_netKept : ∀ (s : State) a b c d e f, NextNet (s.enter a) (execStartUpStepEnd a b c d e f s) := by
  intro s a b c d e f
  unfold execStartUpStepEnd
  extract_lets +onlyGivenNames -merge x0
  have h0 : NetKept (s.enter a) x0 := (NetKept.refl _)
  exact (NextNet.ite (NextNet.next h0) (by
    split
    · exact (NextNet.next (NetKept.trans (NetKept.trans (NetKept.trans h0 (NetKept.of_same (State.setReady_same ..) rfl))
        (NetKept.of_same (State.setGood_same ..) rfl)) (NetKept.of_same (State.stepEnds_same ..) rfl)))
    · exact (NextNet.next (NetKept.trans h0 (NetKept.of_same (State.endStep2_same ..) rfl)))
    · exact (NextNet.next (NetKept.ite (NetKept.trans h0 (NetKept.of_same (State.endStep3_same ..) rfl)) h0))
    · exact (NextNet.next (NetKept.ite (NetKept.trans h0 (NetKept.of_same (State.endStep4_same ..) rfl)) h0))
    · exact (NextNet.next (NetKept.trans h0 (NetKept.of_same (State.endStep5_same ..) rfl)))
    · exact (NextNet.next (NetKept.trans h0 (NetKept.of_same (State.endStep6_same ..) rfl)))
    · exact (NextNet.next (NetKept.trans h0 (State.endStep7_netKept ..)))
    · exact (NextNet.next (NetKept.ite (NetKept.trans h0 (State.endStep8_netKept ..)) h0))
    · exact (NextNet.next (NetKept.ite (NetKept.trans h0 (NetKept.of_same (State.endStep9_same ..) rfl)) h0))
    · exact (NextNet.next h0)))

theorem execSubscriptionTimer_netKept : ∀ (s : State) a b, NextNet (s.enter a) (execSubscriptionTimer a b s) := by
  intro s a b
  unfold execSubscriptionTimer
  extract_lets +onlyGivenNames -merge x0
  have h0 : NetKept (s.enter a) x0 := (NetKept.refl _)
  split
  · exact (NextNet.ite (by
    extract_lets +onlyGivenNames -merge x0 x1
    exact (NextNet.ite (NextNet.next (NetKept.trans h0 (State.setSub_netKept ..))) (NextNet.next (NetKept.trans h0
      (State.offer_netKept ..))))) (NextNet.next h0))
  · exact (NextNet.next h0)

theorem execMarkOutRx_netKept : ∀ (s : State) a b c d e f, NextNet (s.enter a) (execMarkOutRx a b c d e f s) := by
  intro s a b c d e f
  unfold execMarkOutRx
  extract_lets +onlyGivenNames -merge x0 x1
  have h0 : NetKept (s.enter a) x0 := (NetKept.refl _)
  exact (NextNet.ite (NextNet.next h0) (NextNet.ite (NextNet.next (NetKept.trans h0 (State.partnerFault_netKept ..))) (by
    split
    · exact (NextNet.ite (NextNet.next (NetKept.trans h0 (State.takeMark_netKept ..))) (NextNet.next h0))
    · exact (NextNet.next (NetKept.trans h0 (State.partnerFault_netKept ..))))))

theorem execCdpSave_netKept : ∀ (s : State) a b c, NextNet (s.enter a) (execCdpSave a b c s) := by
  intro s a b c
  unfold execCdpSave
  exact (NextNet.cdp (NetKept.refl _) (fun v r => (State.cdpSave_netKept ..)))

theorem execCdpRead_netKept : ∀ (s : State) a b c, NextNet (s.enter a) (execCdpRead a b c s) := by
  intro s a b c
  unfold execCdpRead
  exact (NextNet.cdp (NetKept.refl _) (fun v r => (State.cdpRead_netKept ..)))

theorem execHotReset_netKept : ∀ (s : State) a, NextNet (s.enter a) (execHotReset a s) := by
  intro s a
  unfold execHotReset
  extract_lets +onlyGivenNames -merge x0
  have h0 : NetKept (s.enter a) x0 := (NetKept.refl _)
  exact (NextNet.ite (NextNet.next (NetKept.trans (NetKept.trans (NetKept.trans (NetKept.trans h0 (State.cnt_netKept ..))
    (NetKept.of_same (State.cfgReset_same ..) rfl)) (NetKept.of_same (State.linkOff_same ..) rfl)) (State.freeze_netKept ..)))
      (NextNet.next h0))

theorem execSessionIdleTimeout_netKept : ∀ (s : State) a b, NextNet (s.enter a) (execSessionIdleTimeout a b s) := by
  intro s a b
  unfold execSessionIdleTimeout
  extract_lets +onlyGivenNames -merge x0
  have h0 : NetKept (s.enter a) x0 := (NetKept.refl _)
  split
  · exact (NextNet.ite (NextNet.next (NetKept.trans h0 (State.endSession_netKept ..))) (NextNet.next h0))
  · exact (NextNet.next h0)

theorem execResetNAssert_netKept : ∀ (s : State) a, NextNet s (execResetNAssert a s) := by
  intro s a
  unfold execResetNAssert
  exact (NextNet.next (by
    extract_lets +onlyGivenNames -merge x0
    have h0 : NetKept s x0 := (State.deviceReset_netKept ..)
    exact (NetKept.of_mk h0)))

theorem execSubscribeCancel_netKept : ∀ (s : State) a b c, NextNet (s.enter a) (execSubscribeCancel a b c s) := by
  intro s a b c
  unfold execSubscribeCancel
  exact (NextNet.cdp (NetKept.refl _) (fun v r => (State.cancelSub_netKept ..)))

theorem execIdentify_netKept : ∀ (s : State) a b c, NextNet (s.enter a) (execIdentify a b c s) := by
  intro s a b c
  unfold execIdentify
  exact (NextNet.cdp (NetKept.refl _) (fun v r => (NetKept.ite (State.respond_netKept ..) (State.badLength_netKept ..))))

theorem execBar4Write_netKept : ∀ (s : State) a b c d e f g, NextNet (s.enter a) (execBar4Write a b c d e f g s) := by
  intro s a b c d e f g
  unfold execBar4Write
  extract_lets +onlyGivenNames -merge x0
  have h0 : NetKept (s.enter a) x0.1 := (NetKept.trans (NetKept.refl _) (State.memRequest_netKept ..))
  exact (NextNet.ite (NextNet.next h0) (by
    split
    · exact (NextNet.next (NetKept.trans h0 (State.windowMiss_netKept ..)))
    · extract_lets +onlyGivenNames -merge x0
      exact (NextNet.ite (NextNet.next (NetKept.trans (NetKept.trans (NetKept.trans h0 (State.cnt_netKept ..))
        (State.setPar_netKept ..)) (State.partnerFault_netKept ..))) (NextNet.ite (NextNet.next (NetKept.trans h0
          (NetKept.of_same (State.windowWrite_same ..) rfl))) (NextNet.next (NetKept.trans h0 (NetKept.of_same
            (State.governed_same ..) rfl)))))))

theorem execForwardStep_netKept : ∀ (s : State) a, NextNet (s.enter a) (execForwardStep a s) := by
  intro s a
  unfold execForwardStep
  extract_lets +onlyGivenNames -merge x0
  have h0 : NetKept (s.enter a) x0 := (NetKept.refl _)
  split
  · exact (NextNet.ite (NextNet.ite (NextNet.next (NetKept.trans h0 (State.forwardStep_netKept ..))) (NextNet.next
      (NetKept.of_mk h0))) (NextNet.next h0))
  · exact (NextNet.next h0)

theorem execSnapshotFraming_netKept : ∀ (s : State) a b c, NextNet (s.enter a) (execSnapshotFraming a b c s) := by
  intro s a b c
  unfold execSnapshotFraming
  extract_lets +onlyGivenNames -merge x0
  have h0 : NetKept (s.enter a) x0 := (NetKept.refl _)
  split
  · extract_lets +onlyGivenNames -merge x0
    exact (NextNet.ite (NextNet.next (NetKept.trans h0 (State.frameBlock_netKept ..))) (NextNet.next h0))
  · exact (NextNet.next h0)

theorem execFrameToHead_netKept : ∀ (s : State) a b c, NextNet (s.enter a) (execFrameToHead a b c s) := by
  intro s a b c
  unfold execFrameToHead
  extract_lets +onlyGivenNames -merge x0 x1
  have h0 : NetKept (s.enter a) x0 := (NetKept.refl _)
  exact (NextNet.ite (NextNet.next h0) (by
    split
    · exact (NextNet.next (NetKept.trans (NetKept.trans h0 (NetKept.of_same (State.setStream_same ..) rfl)) (NetKept.of_same
        (State.endReport_same ..) rfl)))
    · exact (NextNet.ite (by
      extract_lets +onlyGivenNames -merge x0
      have h0 : NetKept (s.enter a) x0 := (NetKept.trans (NetKept.trans h0 (NetKept.of_same (State.setStream_same ..) rfl))
        (State.cntW_netKept ..))
      exact (NextNet.next (NetKept.trans h0 (State.meetHead_netKept ..)))) (NextNet.next (NetKept.trans h0 (NetKept.of_same
        (State.acceptOwed_same ..) rfl))))
    · extract_lets +onlyGivenNames -merge x0
      have h0 : NetKept (s.enter a) x0 := (NetKept.ite (NetKept.trans h0 (NetKept.of_same (State.settleLoss_same ..) rfl)) h0)
      exact (NextNet.next (NetKept.trans h0 (NetKept.of_same (State.acceptOwed_same ..) rfl)))))

theorem execPortRestart_netKept : ∀ (s : State) a b, NextNet (s.enter a) (execPortRestart a b s) := by
  intro s a b
  unfold execPortRestart
  exact (NextNet.next (NetKept.trans (NetKept.refl _) (State.postedWrite_netKept _ _ _ (fun v => (State.portRestart_netKept
    ..)))))

theorem execCausewayRelease_netKept : ∀ (s : State) a b, NextNet (s.enter a) (execCausewayRelease a b s) := by
  intro s a b
  unfold execCausewayRelease
  extract_lets +onlyGivenNames -merge x0
  have h0 : NetKept (s.enter a) x0 := (NetKept.refl _)
  exact (NextNet.ite (NextNet.next (NetKept.trans (NetKept.trans h0 (NetKept.of_same (State.releaseDue_same ..) rfl))
    (State.itemDone_netKept ..))) (NextNet.next h0))

/-! ### Every command -/

/-- Every command keeps the tables of sessions and subscriptions in order: those whose frame holds no network leave them. -/
theorem exec_netKept (c : Instr) (s : State) : NextNet s (exec c s) := by
  have framed : c.isReset = false → (frameMask c).testBit 35 = false → NextNet s (exec c s) := by
    intro hr hb
    obtain ⟨a, u, e, g⟩ := exec_entered c s hr
    rw [e]
    exact .next (.trans (.enter s a) (.of_same g hb))
  cases c with
  | powerOn t r x => exact execPowerOn_netKept s t r x
  | resetNAssert t => exact execResetNAssert_netKept s t
  | startUpStepEnd => exact (execStartUpStepEnd_netKept ..).entered
  | pllLock => exact (execPllLock_netKept ..).entered
  | clockFailure => exact (execClockFailure_netKept ..).entered
  | domainRelease => exact (execDomainRelease_netKept ..).entered
  | autoReturn => exact (execAutoReturn_netKept ..).entered
  | clkReturn => exact (execClkReturn_netKept ..).entered
  | sourceSelectWrite => exact (execSourceSelectWrite_netKept ..).entered
  | forceSrcWrite => exact (execForceSrcWrite_netKept ..).entered
  | powerStateEffect => exact (execPowerStateEffect_netKept ..).entered
  | watchdogExpiry => exact (execWatchdogExpiry_netKept ..).entered
  | timeLoadEffect => exact (execTimeLoadEffect_netKept ..).entered
  | ptpMessageRx => exact (execPtpMessageRx_netKept ..).entered
  | forwardStep => exact (execForwardStep_netKept ..).entered
  | backwardStep => exact (execBackwardStep_netKept ..).entered
  | ppsInEdge => exact (execPpsInEdge_netKept ..).entered
  | thresholdEdge => exact (execThresholdEdge_netKept ..).entered
  | causewayRelease => exact (execCausewayRelease_netKept ..).entered
  | frameAgeClose => exact (execFrameAgeClose_netKept ..).entered
  | streamFlush => exact (execStreamFlush_netKept ..).entered
  | keystoneItem => exact (execKeystoneItem_netKept ..).entered
  | deadlineItem => exact (execDeadlineItem_netKept ..).entered
  | calUserCommit => exact (execCalUserCommit_netKept ..).entered
  | snapshotFraming => exact (execSnapshotFraming_netKept ..).entered
  | frameToHead => exact (execFrameToHead_netKept ..).entered
  | tmrScrub => exact (execTmrScrub_netKept ..).entered
  | configEffect => exact (execConfigEffect_netKept ..).entered
  | slowWriteApply => exact (execSlowWriteApply_netKept ..).entered
  | registerWrite => exact (execRegisterWrite_netKept ..).entered
  | wideWordWrite => exact (execWideWordWrite_netKept ..).entered
  | wideLowRead => exact (execWideLowRead_netKept ..).entered
  | perstNFall => exact (execPerstNFall_netKept ..).entered
  | hotReset => exact (execHotReset_netKept ..).entered
  | linkDown => exact (execLinkDown_netKept ..).entered
  | inboundTlpError => exact (execInboundTlpError_netKept ..).entered
  | portResume => exact (execPortResume_netKept ..).entered
  | portRestart => exact (execPortRestart_netKept ..).entered
  | ringEnable => exact (execRingEnable_netKept ..).entered
  | ringDisable => exact (execRingDisable_netKept ..).entered
  | doorbellHostPtr => exact (execDoorbellHostPtr_netKept ..).entered
  | doorbellHostSeen => exact (execDoorbellHostSeen_netKept ..).entered
  | completionRx => exact (execCompletionRx_netKept ..).entered
  | completionTimeout => exact (execCompletionTimeout_netKept ..).entered
  | bar4Read => exact (execBar4Read_netKept ..).entered
  | bar4Write => exact (execBar4Write_netKept ..).entered
  | ethFrameRx => exact (execEthFrameRx_netKept ..).entered
  | markOutRx => exact (execMarkOutRx_netKept ..).entered
  | identify => exact (execIdentify_netKept ..).entered
  | sessionOpen => exact (execSessionOpen_netKept ..).entered
  | sessionAuthKeys => exact (execSessionAuthKeys_netKept ..).entered
  | sessionAuthSign => exact (execSessionAuthSign_netKept ..).entered
  | sessionClose => exact (execSessionClose_netKept ..).entered
  | sessionIdleTimeout => exact (execSessionIdleTimeout_netKept ..).entered
  | ownershipTake => exact (execOwnershipTake_netKept ..).entered
  | ownershipRelease => exact (execOwnershipRelease_netKept ..).entered
  | cdpRead => exact (execCdpRead_netKept ..).entered
  | cdpWrite => exact (execCdpWrite_netKept ..).entered
  | readMulti => exact (execReadMulti_netKept ..).entered
  | writeMulti => exact (execWriteMulti_netKept ..).entered
  | cdpEnable => exact (execCdpEnable_netKept ..).entered
  | cdpDisable => exact (execCdpDisable_netKept ..).entered
  | snapshotCounters => exact (execSnapshotCounters_netKept ..).entered
  | cdpResponseSend => exact (execCdpResponseSend_netKept ..).entered
  | subscribePeriodic => exact (execSubscribePeriodic_netKept ..).entered
  | subscribeOnChange => exact (execSubscribeOnChange_netKept ..).entered
  | subscribeStream => exact (execSubscribeStream_netKept ..).entered
  | subscribeAlerts => exact (execSubscribeAlerts_netKept ..).entered
  | subscribeCancel => exact (execSubscribeCancel_netKept ..).entered
  | eventAcknowledge => exact (execEventAcknowledge_netKept ..).entered
  | subscriptionTimer => exact (execSubscriptionTimer_netKept ..).entered
  | eventSend => exact (execEventSend_netKept ..).entered
  | eventResend => exact (execEventResend_netKept ..).entered
  | attest => exact (execAttest_netKept ..).entered
  | cdpSave => exact (execCdpSave_netKept ..).entered
  | cdpLoad => exact (execCdpLoad_netKept ..).entered
  | storeLoadCurrent => exact (execStoreLoadCurrent_netKept ..).entered
  | storeLoadA => exact (execStoreLoadA_netKept ..).entered
  | storeLoadB => exact (execStoreLoadB_netKept ..).entered
  | saveComplete => exact (execSaveComplete_netKept ..).entered
  | fwStage => exact (execFwStage_netKept ..).entered
  | fwActivate => exact (execFwActivate_netKept ..).entered
  | resetNRelease t x => exact execResetNRelease_netKept s t x
  | msixVectorUnmask => exact (execMsixVectorUnmask_netKept ..).entered
  | _ => exact framed rfl (by dsimp only [frameMask]; decide)

/-- Settles O5: the frames keep memory and dictionary canonical, and every command keeps the network's tables. -/
theorem stepKeepsInv : Obligations.StepKeepsInv := by
  intro s t inv h
  obtain ⟨hm, hd, hn⟩ := inv
  cases e : s.pending with
  | nil =>
    rw [step, e] at h
    cases h
    exact ⟨hm, hd, hn⟩
  | cons c rest =>
    rw [step, e] at h
    exact ⟨(exec_same h).memWf hm, (exec_same h).dictWf hd, ((exec_netKept c _).kept t h).wf hn⟩

end Sys2Proof.Machine
end

section
/-! SUPPORT. Values of the dictionary through an operation, and what a command answers. -/
namespace Sys2Proof.Machine

/-! ### A value through operations -/

/-- A parameter's value in a state whose dictionary is canonical. -/
structure State.Has (s : State) (ix sub v : Nat) : Prop where
  wf : Dict.wf s.dict
  par : s.par ix sub = v

namespace State.Has

variable {s t : State} {ix sub jx tub v w : Nat}

/-- What a parameter holds in a state that the dictionary's canonical form is known of. -/
theorem start (h : Dict.wf s.dict) : s.Has ix sub (s.par ix sub) := ⟨h, rfl⟩

/-- An operation that leaves the dictionary. -/
theorem dict (h : s.Has ix sub v) (e : t.dict = s.dict) : t.Has ix sub v := by
  obtain ⟨hw, hv⟩ := h
  refine ⟨e ▸ hw, ?_⟩
  rw [← hv, State.par, State.val, e]
  rfl

/-- An operation whose frame leaves the parameter. -/
theorem same {m : Nat} (h : s.Has ix sub v) (f : Same m s t) (hb : m.testBit (42 + regNo ix) = false) : t.Has ix sub v :=
  ⟨f.dictWf h.wf, (f.pars h.wf ix sub hb).trans h.par⟩

theorem written (s : State) (h : Dict.wf s.dict) : (s.setPar ix sub v).Has ix sub v :=
  ⟨dictWf_setPar _ _ _ _ h, par_setPar_self _ _ _ _ h⟩

/-- A write of another instance. -/
theorem setPar_key (h : s.Has ix sub v) (e : key ix sub ≠ key jx tub) : (s.setPar jx tub w).Has ix sub v :=
  ⟨dictWf_setPar _ _ _ _ h.wf, (par_setPar_ne _ _ _ _ _ _ h.wf e).trans h.par⟩

/-- A write of another parameter. -/
theorem setPar (h : s.Has ix sub v) (e : ix ≠ jx) : (s.setPar jx tub w).Has ix sub v :=
  h.setPar_key (fun k => e (key_index k))

/-- An event on the counter (R357). -/
theorem counted (h : s.Has ix sub v) (e : ix ≠ Ix.dictSatCount ∧ ix ≠ Ix.dictSatLast) : (s.cnt ix sub).Has ix sub (cntNext v) :=
  ⟨dictWf_cnt _ _ _ h.wf, h.par ▸ par_cnt_self _ _ _ h.wf e.1 e.2⟩

/-- An event on the counter of another parameter. -/
theorem cnt (h : s.Has ix sub v) (e : ix ≠ jx ∧ ix ≠ Ix.dictSatCount ∧ ix ≠ Ix.dictSatLast) : (s.cnt jx tub).Has ix sub v :=
  ⟨dictWf_cnt _ _ _ h.wf, (par_cnt_other _ _ _ _ _ h.wf (fun k => e.1 (key_index k)) e.2.1 e.2.2).trans h.par⟩

theorem ite {a b : State} {c : Prop} [Decidable c] (ha : a.Has ix sub v) (hb : b.Has ix sub v) :
    (if c then a else b).Has ix sub v := by split <;> assumption

end State.Has

/-- A counter changes the dictionary alone. -/
theorem State.cnt_frame (s : State) (ix sub : Nat) : Same allRegs s (s.cnt ix sub) := State.cnt_same _ _ _ (cntIn_all ix rfl)

/-! ### Loops -/

/-- A loop brings about `P` where one of its steps does, each step from a state with `I` keeps `I`, and each keeps `P`. -/
theorem foldl_reaches {α β : Type} {f : β → α → β} {I P : β → Prop} {x : α} (hit : ∀ u, I u → P (f u x))
    (inv : ∀ u y, I u → I (f u y)) (keep : ∀ u y, I u → P u → P (f u y)) (l : List α) :
    ∀ s : β, I s → x ∈ l ∨ P s → P (l.foldl f s) := by
  induction l with
  | nil => exact fun s _ h => h.resolve_left List.not_mem_nil
  | cons y l ih =>
    intro s hs h
    refine ih _ (inv s y hs) ?_
    rcases h with h | h
    · rcases List.mem_cons.mp h with rfl | h
      · exact .inr (hit s hs)
      · exact .inl h
    · exact .inr (keep s y hs h)

/-- A loop keeps what each of its steps keeps. -/
theorem foldl_keeps {α β : Type} {f : β → α → β} {I : β → Prop} (inv : ∀ u y, I u → I (f u y)) (l : List α) (s : β) (h : I s) :
    I (l.foldl f s) := by
  induction l generalizing s with
  | nil => exact h
  | cons y l ih => exact ih _ (inv s y h)

end Sys2Proof.Machine
end

section
/-! SUPPORT. Jasper's points (R404 to R406). -/
namespace Sys2Proof.Machine

theorem State.jasperChange_busy (s : State) (h : s.clk.dvfs ≠ .steady) :
    s.jasperChange = { s with clk := { s.clk with again := true } } := by
  unfold State.jasperChange
  split
  · exact absurd ‹_› h
  · rfl

theorem State.jasperChange_up (s : State) (h : s.clk.dvfs = .steady) (g : s.jasperGoal < s.par Ix.clkJasperNow 0) :
    s.jasperChange = s.setDvfs (.dwell s.jasperGoal (s.now + s.par Ix.clkVselDwell 0 * 256000) s.clk.vsel)
      (s.par Ix.clkVselCode s.jasperGoal) := by
  unfold State.jasperChange
  rw [h]
  dsimp only
  rw [if_neg (Nat.ne_of_lt g), if_pos g]

theorem State.jasperChange_down (s : State) (h : s.clk.dvfs = .steady) (g : s.par Ix.clkJasperNow 0 < s.jasperGoal) :
    s.jasperChange = (s.setPar Ix.clkJasperNow 0 s.jasperGoal).setDvfs (.down (s.now + s.par Ix.clkVselDwell 0 * 256000))
      (s.par Ix.clkVselCode s.jasperGoal) := by
  unfold State.jasperChange
  rw [h]
  dsimp only
  rw [if_neg (Nat.ne_of_gt g), if_neg (Nat.lt_asymm g)]

theorem State.jasperGoal_awake (s : State) (h : 2 ≤ s.par Ix.pwrState 0) : s.jasperGoal = s.par Ix.clkJasperPoint 0 := if_pos h

/-- A change ends with no target written meanwhile. -/
theorem State.jasperEnd_done (s : State) (h : s.clk.again = false) : s.jasperEnd = s.setDvfs .steady s.clk.vsel := by
  unfold State.jasperEnd
  exact if_neg (by rw [show (s.setDvfs .steady s.clk.vsel).clk.again = false from h]; decide)

theorem State.jasperReach_done (s : State) (g : Nat) (h : s.clk.again = false) :
    s.jasperReach g = ({ s with clk := { s.clk with dropped := false } }.setPar Ix.clkJasperNow 0 g).setDvfs .steady s.clk.vsel :=
  State.jasperEnd_done _ h

theorem jasperPointWrite_point (s : State) (t : Nat) (v : Fin 4) (w : Dict.wf s.dict) :
    Completes (.jasperPointWrite t v) s (fun u => u.par Ix.clkJasperPoint 0 = v
      ∧ (s.clk.dvfs ≠ .steady → u.clk.dvfs = s.clk.dvfs ∧ u.clk.again = true)
      ∧ (s.clk.dvfs = .steady → 2 ≤ s.par Ix.pwrState 0 → v.val < s.par Ix.clkJasperNow 0 →
        u.clk.dvfs = .dwell v ((s.enter t).now + s.par Ix.clkVselDwell 0 * 256000) s.clk.vsel
          ∧ u.clk.vsel = s.par Ix.clkVselCode v ∧ u.par Ix.clkJasperNow 0 = s.par Ix.clkJasperNow 0)
      ∧ (s.clk.dvfs = .steady → 2 ≤ s.par Ix.pwrState 0 → s.par Ix.clkJasperNow 0 < v.val →
        u.clk.dvfs = .down ((s.enter t).now + s.par Ix.clkVselDwell 0 * 256000)
          ∧ u.clk.vsel = s.par Ix.clkVselCode v ∧ u.par Ix.clkJasperNow 0 = v.val)) := by
  let x := (s.enter t).setPar Ix.clkJasperPoint 0 v
  have hp : x.Has Ix.clkJasperPoint 0 v := .written _ w
  have keep : ∀ ix sub, ix ≠ Ix.clkJasperPoint → x.Has ix sub (s.par ix sub) := fun _ _ e => (State.Has.start (s := s.enter t) w).setPar e
  have goal : 2 ≤ s.par Ix.pwrState 0 → x.jasperGoal = v := fun h =>
    (x.jasperGoal_awake ((keep Ix.pwrState 0 (by decide)).par ▸ h)).trans hp.par
  have hn := (keep Ix.clkJasperNow 0 (by decide)).par
  have hd := (keep Ix.clkVselDwell 0 (by decide)).par
  have hc := fun k => (keep Ix.clkVselCode k (by decide)).par
  refine ⟨x.jasperChange, rfl, (hp.same x.jasperChange_same rfl).par, fun h => ?_, fun h hs hv => ?_, fun h hs hv => ?_⟩
  · rw [x.jasperChange_busy h]
    exact ⟨rfl, rfl⟩
  · rw [x.jasperChange_up h (by rwa [goal hs, hn]), goal hs, hd, hc]
    exact ⟨rfl, rfl, hn⟩
  · rw [x.jasperChange_down h (by rwa [goal hs, hn]), goal hs, hd, hc]
    exact ⟨rfl, rfl, par_setPar_self _ _ _ _ hp.wf⟩

/-- Settles O18: each command of Jasper's points from its definition. -/
theorem jasperPoint : Obligations.JasperPoint := by
  intro s t v g d old inv
  obtain ⟨-, w, -⟩ := inv
  refine ⟨jasperPointWrite_point s t v w, fun h hd ha => ?_, fun h hd hp ha => ?_, fun h ha => ?_, fun h hp => ?_⟩
  · have ex : exec (.dvfsDwellEnd t) s = if (s.enter t).clk.pgood then .next ((s.enter t).jasperReach g)
        else .next ((s.enter t).setDvfs (.wait g (d + (s.enter t).par Ix.clkPgoodTimeout 0 * 256000) old) (s.enter t).clk.vsel) := by
      show execDvfsDwellEnd t s = _
      unfold execDvfsDwellEnd
      dsimp only
      rw [show (s.enter t).clk.dvfs = .dwell g d old from h]
      exact if_neg (Nat.not_lt.mpr hd)
    cases hg : s.clk.pgood with
    | true =>
      refine ⟨(s.enter t).jasperReach g, ex.trans (if_pos hg), fun _ => ?_, fun e => absurd e (by decide)⟩
      rw [(s.enter t).jasperReach_done g ha]
      exact ⟨rfl, par_setPar_self _ _ _ _ w⟩
    | false =>
      exact ⟨_, ex.trans (if_neg (by rw [show (s.enter t).clk.pgood = false from hg]; decide)), fun e => absurd e (by decide), fun _ => ⟨rfl, rfl⟩⟩
  · let x := ((s.enter t).setDvfs .steady old).cnt Ix.clkDvfsFails 0
    have ex : exec (.pgoodTimeout t) s = .next x.jasperEnd := by
      show execPgoodTimeout t s = _
      unfold execPgoodTimeout
      dsimp only
      rw [show (s.enter t).clk.dvfs = .wait g d old from h]
      exact if_neg (not_or.mpr ⟨Nat.not_lt.mpr hd, by rw [show (s.enter t).clk.pgood = false from hp]; decide⟩)
    have hx : x.clk = ((s.enter t).setDvfs .steady old).clk := (State.cnt_same (m := allRegs) _ _ _ (cntIn_all _ rfl)).clk rfl
    rw [State.jasperEnd_done x (by rw [hx]; exact ha)] at ex
    have start : ∀ ix sub, ((s.enter t).setDvfs .steady old).Has ix sub (s.par ix sub) := fun _ _ => ⟨w, rfl⟩
    refine ⟨_, ex, rfl, ?_, ((start Ix.clkDvfsFails 0).counted (by decide)).par, ((start Ix.clkJasperNow 0).cnt (by decide)).par⟩
    show x.clk.vsel = old
    rw [hx]
    rfl
  · let x : State := { s.enter t with clk := { (s.enter t).clk with pgood := true } }
    have ex : exec (.pgoodRise t) s = .next (x.jasperReach g) := by
      show execPgoodRise t s = _
      unfold execPgoodRise
      dsimp only
      rw [show (s.enter t).clk.dvfs = .wait g d old from h]
      rfl
    rw [x.jasperReach_done g ha] at ex
    exact ⟨_, ex, rfl, par_setPar_self _ _ _ _ w, rfl⟩
  · let x : State := { s.enter t with clk := { (s.enter t).clk with pgood := false } }
    have ex : exec (.pgoodFall t) s = .next x.jasperDrop := if_pos ⟨hp, h⟩
    have h0 : ∀ ix sub, ({ x with clk := { x.clk with dropped := true } } : State).Has ix sub (s.par ix sub) := fun _ _ => ⟨w, rfl⟩
    refine ⟨_, ex, ?_, ?_, ?_⟩
    · exact State.Has.par (.cnt (.written _ w) (by decide))
    · exact congrArg ClkSt.pgood ((State.cnt_same (m := allRegs) _ _ _ (cntIn_all _ rfl)).clk rfl)
    · exact (((h0 Ix.clkPgoodLosses 0).setPar (by decide)).counted (by decide)).par

end Sys2Proof.Machine
end

section
/-! SUPPORT. Bits of a value, and what is found in a table that is filtered. -/
namespace Sys2Proof.Machine

/-! ### Bits -/

theorem bit_add_two_pow (i : Nat) : ∀ n j : Nat, n.testBit i = false → (n + 2 ^ i).testBit j = (decide (j = i) || n.testBit j) := by
  induction i with
  | zero =>
    intro n j h
    have hn : n % 2 = 0 := by rw [Nat.testBit_zero] at h; simp only [decide_eq_false_iff_not] at h; omega
    cases j with
    | zero =>
      rw [Nat.testBit_zero, Nat.testBit_zero]
      have : (n + 2 ^ 0) % 2 = 1 := by omega
      rw [this]
      rfl
    | succ j =>
      rw [Nat.testBit_succ, Nat.testBit_succ, show (n + 2 ^ 0) / 2 = n / 2 by omega, decide_eq_false (Nat.succ_ne_zero j),
        Bool.false_or]
  | succ i ih =>
    intro n j h
    rw [Nat.testBit_succ] at h
    have e : (n + 2 ^ (i + 1)) / 2 = n / 2 + 2 ^ i := by rw [Nat.pow_succ]; omega
    cases j with
    | zero =>
      rw [Nat.testBit_zero, Nat.testBit_zero, decide_eq_false (Nat.succ_ne_zero i).symm, Bool.false_or,
        show (n + 2 ^ (i + 1)) % 2 = n % 2 by rw [Nat.pow_succ]; omega]
    | succ j =>
      rw [Nat.testBit_succ, Nat.testBit_succ, e, ih _ _ h]
      congr 1
      exact decide_eq_decide.mpr (Nat.succ_inj (a := j) (b := i)).symm

/-- A bit that is written is read, and every other stays. -/
theorem bit_putBit (n i j : Nat) (b : Bool) : bit (putBit n i b) j = if j = i then b else bit n j := by
  unfold putBit bit
  cases hn : n.testBit i <;> cases b
  · rw [if_neg (by decide), if_neg (by decide)]
    split
    · next e => exact e ▸ hn
    · rfl
  · rw [if_neg (by decide), if_pos rfl, bit_add_two_pow i n j hn]
    split
    · next e => rw [decide_eq_true e, Bool.true_or]
    · next e => rw [decide_eq_false e, Bool.false_or]
  · have hge : 2 ^ i ≤ n := Nat.ge_two_pow_of_testBit hn
    have hlow : (n - 2 ^ i).testBit i = false := by
      have := Nat.testBit_two_pow_add_eq (n - 2 ^ i) i
      rw [Nat.add_sub_cancel' hge, hn] at this
      exact (Bool.not_eq_true' _).mp this.symm
    have := bit_add_two_pow i (n - 2 ^ i) j hlow
    rw [Nat.sub_add_cancel hge] at this
    rw [if_pos rfl, if_neg (by decide), this]
    split
    · next e => exact e ▸ hlow
    · next e => rw [decide_eq_false e, Bool.false_or]
  · rw [if_pos rfl, if_pos rfl]
    split
    · next e => exact e ▸ hn
    · rfl

/-! ### Tables -/

theorem tfind_filter {α : Type} (t : Tbl α) (p : Nat → Bool) (k : Nat) (h : tsorted t = true) :
    tfind (t.filter fun x => p x.1) k = if p k then tfind t k else none := by
  induction t with
  | nil => exact (ite_self _).symm
  | cons x t ih =>
    obtain ⟨j, b⟩ := x
    obtain ⟨hj, ht⟩ := (tsorted_cons j b t).mp h
    have skip : k < j → tfind (t.filter fun x => p x.1) k = none := fun hk =>
      tfind_none _ _ (fun x hx => Nat.lt_trans hk (hj x (List.mem_filter.mp hx).1))
    rw [List.filter_cons, tfind]
    dsimp only
    by_cases e : j = k
    · subst e
      rw [if_pos rfl]
      split
      · exact if_pos rfl
      · next hp => rw [ih ht, if_neg hp]
    · rw [if_neg e]
      have fin : (if k < j then none else tfind (t.filter fun x => p x.1) k) = if p k then (if k < j then none else tfind t k) else none := by
        split
        · exact (ite_self _).symm
        · exact ih ht
      split
      · rw [tfind, if_neg e]
        exact fin
      · rw [← fin]
        split
        · next hk => exact skip hk
        · rfl

end Sys2Proof.Machine
end

section
/-! SUPPORT. Device resets (R438, R439, R442, R444). -/
namespace Sys2Proof.Machine

theorem key_div (ix sub : Nat) : key ix sub / 256 = ix := by
  unfold key
  omega

/-- The part of the dictionary that a device reset keeps. -/
theorem val_kept (s t : State) (w : Dict.wf s.dict) (e : t.dict = s.dict.filter (fun (x : Nat × Nat) => survives (x.1 / 256)))
    (ix sub : Nat) : t.par ix sub = if survives ix then s.par ix sub else dfltOf (key ix sub) := by
  unfold State.par State.val
  rw [e, tfind_filter s.dict (fun k => survives (k / 256)) _ w.1, key_div]
  cases survives ix <;> rfl

/-- After a device reset the cause is kept, and every other parameter is at its default, or survives. -/
theorem State.deviceReset_has (s : State) (cause : Nat) (w : Dict.wf s.dict) :
    (s.deviceReset cause).Has Ix.startResetCause 0 cause
      ∧ ∀ ix sub, ix ≠ Ix.startResetCause →
        (s.deviceReset cause).Has ix sub (if survives ix then s.par ix sub else dfltOf (key ix sub)) := by
  unfold State.deviceReset
  extract_lets keep r
  have hr : Dict.wf r.dict := dictWf_filter _ _ w
  exact ⟨.written r hr, fun ix sub e => .setPar ⟨hr, val_kept s r w rfl ix sub⟩ e⟩

/-- Settles O14: each reset is `State.deviceReset`, and the straps are sampled after it. -/
theorem deviceResets : Obligations.DeviceResets := by
  intro s t resetN straps inv
  obtain ⟨-, w, -⟩ := inv
  intro fresh
  have held : ∀ c, fresh { s.deviceReset c with resetHeld := true } c := fun c =>
    have h := s.deviceReset_has c w
    ⟨rfl, rfl, rfl, rfl, rfl, h.1.par, rfl, rfl, fun ix sub e _ => (h.2 ix sub e).par⟩
  have sampled : ∀ c, fresh ((s.deviceReset c).sampleStraps straps) c := fun c =>
    have h := s.deviceReset_has c w
    ⟨rfl, rfl, rfl, rfl, rfl, State.Has.par (.setPar h.1 (by decide)), rfl, rfl,
      fun ix sub e g => State.Has.par (.setPar (h.2 ix sub e) g)⟩
  have straps_ : ∀ c, ((s.deviceReset c).sampleStraps straps).par Ix.startStraps 0 = straps.val := fun c =>
    par_setPar_self _ _ _ _ (s.deviceReset_has c w).1.wf
  refine ⟨?_, ⟨_, rfl, held 1, rfl⟩, fun h => ⟨_, if_pos h, sampled _, rfl, straps_ _⟩⟩
  cases resetN with
  | true => exact ⟨_, rfl, sampled 0, rfl, straps_ 0⟩
  | false => exact ⟨_, rfl, held 0, rfl, ((s.deviceReset_has 0 w).2 Ix.startStraps 0 (by decide)).par⟩

end Sys2Proof.Machine
end

section
/-! SUPPORT. Power states and wakes (R403, R407 to R410). -/
namespace Sys2Proof.Machine

theorem State.Has.clkRefuse {s : State} {v : Nat} (reason ix sub : Nat) (h : s.Has Ix.clkRefused 0 v) :
    (s.clkRefuse reason ix sub).Has Ix.clkRefused 0 (cntNext v) :=
  .setPar (.counted h (by decide)) (by decide)

theorem State.clkRefuse_last (s : State) (reason ix sub : Nat) (w : Dict.wf s.dict) :
    (s.clkRefuse reason ix sub).par Ix.clkLastRefused 0 = reason * 2 ^ 24 + ix * 2 ^ 8 + sub :=
  par_setPar_self _ _ _ _ (dictWf_cnt _ _ _ w)

theorem State.setQuality_quality (s : State) (q : Quality) (t : Nat) : (s.setQuality q t).time.quality = q := by
  unfold State.setQuality
  split
  · assumption
  · extract_lets +onlyGivenNames -merge old p _ _ s1
    have h1 : s1.time.quality = q := rfl
    rw [(State.alert_same ..).time rfl, (State.settleAll_same ..).time rfl, (State.emitEpoch_same ..).time rfl,
      (State.emit_same ..).time rfl]

/-- In DORMANT time is COARSE (R407). -/
theorem State.toDormant_quality (s : State) (xb sro : Nat) : (s.toDormant xb sro).time.quality = .coarse := by
  unfold State.toDormant
  extract_lets +onlyGivenNames -merge s1 s2 s3 _ s4 s5
  split
  · exact State.setQuality_quality ..
  · next h =>
    cases e : s5.time.quality with
    | coarse => rfl
    | _ => exact absurd (decide_eq_true (by rw [e]; decide)) h

theorem State.toDormant_state (s : State) (xb sro : Nat) (w : Dict.wf s.dict) : (s.toDormant xb sro).Has Ix.pwrState 0 0 := by
  unfold State.toDormant
  extract_lets +onlyGivenNames -merge s1 s2 s3 _ s4 s5
  have w1 : Dict.wf s1.dict := (State.endSessions_same ..).dictWf ((State.ethDown_same ..).dictWf ((State.ethDown_same ..).dictWf
    ((State.hostLinkDown_same ..).dictWf w)))
  have w2 : Dict.wf s2.dict := by
    refine foldl_keeps (I := fun u : State => Dict.wf u.dict) (fun u y h => ?_) _ _ w1
    exact dictWf_setPar _ _ _ _ h
  have h3 : s3.Has Ix.pwrState 0 0 := .setPar (.written _ (dictWf_setPar _ _ _ _ w2)) (by decide)
  clear_value s3
  have h4 : s4.Has Ix.pwrState 0 0 := .dict h3 rfl
  have h5 : s5.Has Ix.pwrState 0 0 :=
    .same (.same (.same h4 (State.stopSource_same ..) rfl) (State.froFollow_same ..) rfl) (State.opalFollow_same ..) rfl
  exact .ite (.same (.same h5 (State.driveCoarse_same ..) rfl) (State.setQuality_same ..) rfl) h5

theorem State.toIdle_state (s : State) (t : Nat) (w : Dict.wf s.dict) : (s.toIdle t).Has Ix.pwrState 0 1 := by
  unfold State.toIdle
  extract_lets +onlyGivenNames -merge s1 s2
  have h1 : s1.Has Ix.pwrState 0 1 :=
    .same (.same (.same (.written _ w) (State.piersFollow_same ..) rfl) (State.setGood_same ..) rfl) (State.setGood_same ..) rfl
  have h2 : s2.Has Ix.pwrState 0 1 := .ite (.setPar h1 (by decide)) h1
  exact .same (.same h2 (State.froFollow_same ..) rfl) (State.jasperChange_same ..) rfl

/-- A commanded state of the device takes effect (R407). -/
theorem State.deviceTo_state (s : State) (t v xb sro : Nat) (w : Dict.wf s.dict) (h : s.par Ix.pwrState 0 ≠ 0) :
    (s.deviceTo t v xb sro).Has Ix.pwrState 0 v ∧ (v = 0 → (s.deviceTo t v xb sro).time.quality = .coarse) := by
  unfold State.deviceTo
  extract_lets +onlyGivenNames -merge old
  rw [if_neg h]
  by_cases hv : 2 ≤ v
  · rw [if_pos hv]
    extract_lets +onlyGivenNames -merge s1 s2 s3
    have h1 : s1.Has Ix.pwrState 0 v := .written _ w
    have h2 : s2.Has Ix.pwrState 0 v := .ite (.same h1 (State.domainsOn_same ..) rfl) h1
    have h3 : s3.Has Ix.pwrState 0 v :=
      .same (.same (.same h2 (State.froFollow_same ..) rfl) (State.jasperChange_same ..) rfl) (State.piersFollow_same ..) rfl
    exact ⟨.ite (.same h3 (State.admitLate_same ..) rfl) h3, fun e => absurd (e ▸ hv) (by decide)⟩
  · rw [if_neg hv]
    extract_lets +onlyGivenNames -merge s1
    have h1 : s1.Has Ix.pwrState 0 1 := by
      unfold s1
      split
      · exact s.toIdle_state t w
      · exact ⟨w, by omega⟩
    by_cases hz : v = 0
    · rw [if_pos hz, hz]
      exact ⟨s1.toDormant_state _ _ h1.wf, fun _ => s1.toDormant_quality _ _⟩
    · rw [if_neg hz, show v = 1 by omega]
      exact ⟨h1, fun e => absurd e (by decide)⟩

/-- A pier takes the state it is to run in (R407). -/
theorem State.pierTo_state (s : State) (t new p : Nat) (w : Dict.wf s.dict) : (State.pierTo t new s p).Has Ix.pwrPierState p new := by
  unfold State.pierTo
  extract_lets +onlyGivenNames -merge old
  split
  · exact ⟨w, by assumption⟩
  · extract_lets +onlyGivenNames -merge s1 s2 s3 s4 s5
    have w1 : Dict.wf s1.dict := by
      unfold s1; split
      · exact (State.frontPause_same ..).dictWf w
      · exact w
    have w2 : Dict.wf s2.dict := by
      unfold s2; split
      · exact (State.overlapCancel_same ..).dictWf w1
      · exact w1
    have h3 : s3.Has Ix.pwrPierState p new := .same (.written _ w2) (State.emit_same ..) rfl
    have h4 : s4.Has Ix.pwrPierState p new :=
      .ite (.same h3 (State.pierLanes_same ..) rfl) (.ite (.same (.same h3 (State.frontResume_same ..) rfl) (State.pierLanes_same ..) rfl) h3)
    have h5 : s5.Has Ix.pwrPierState p new := .ite (.same h4 (State.pierMeasures_same ..) rfl) h4
    exact .ite (.same h5 (State.caiTouchPier_same ..) rfl) h5

theorem State.pierTo_clk (s : State) (t new p : Nat) : (State.pierTo t new s p).clk = s.clk := (State.pierTo_same ..).clk rfl

theorem State.applyPwr_device (s : State) (t xb sro d v : Nat) :
    State.applyPwr t xb sro s ⟨d, none, v⟩ = s.deviceTo t v xb sro := rfl

theorem State.applyPwr_pier (s : State) (t xb sro d p v : Nat) :
    State.applyPwr t xb sro s ⟨d, some p, v⟩ = State.pierTo t (s.pierWant p) s p := rfl

theorem State.pierWant_pending (s : State) (l : List PwrCmd) (p : Nat) :
    ({ s with clk := { s.clk with pending := l } } : State).pierWant p = s.pierWant p := rfl

/-- Settles O19: the commands of the power states from their definitions. -/
theorem powerStates : Obligations.PowerStates := by
  intro s t xb sro d reason block v p w busy inv
  obtain ⟨-, wf, -⟩ := inv
  intro s1 waits
  have cmd : s.par Ix.pwrState 0 ≠ 0 → exec (.pwrCmd t v busy) s = .next (match s1.pwrBlocked v busy with
      | some (r, b) => s1.draw.clkRefuse r (b / 256) (b % 256)
      | none => s1.queuePwr none v) := fun h => congrArg Host.Outcome.next (if_neg h)
  have effect : ∀ c : PwrCmd, s.clk.pending = [c] → c.due ≤ s1.now → exec (.powerStateEffect t xb sro) s
      = .next (State.applyPwr s1.now xb sro { s1 with clk := { s1.clk with pending := [] } } c) := by
    intro c h hd
    show execPowerStateEffect t xb sro s = _
    unfold execPowerStateEffect
    dsimp only
    rw [show (s.enter t).clk.pending = [c] from h, List.filter_cons, List.filter_cons, if_pos (decide_eq_true hd),
      if_neg (by rw [decide_eq_true_eq]; exact Nat.not_lt.mpr hd)]
    rfl
  refine ⟨fun h hb => ?_, fun h hb => ?_, fun h => ?_, fun h hd hs => ?_, fun h hd => ?_⟩
  · rw [hb] at cmd
    exact ⟨_, cmd h, rfl⟩
  · rw [hb] at cmd
    refine ⟨_, cmd h, ?_, ?_, ?_⟩
    · exact congrArg ClkSt.pending ((State.clkRefuse_same ..).clk rfl)
    · exact State.Has.par (.clkRefuse _ _ _ ⟨wf, rfl⟩)
    · exact State.clkRefuse_last s1.draw _ _ _ wf
  · have e : exec (.pwrPierCmd t p w busy) s = .next ((s1.setPar Ix.pwrPierTarget p w).queuePwr (some p) w) :=
      congrArg Host.Outcome.next (if_neg (by rcases h with h | h <;> simp [h]))
    exact ⟨_, e, State.Has.par (.dict (.written s1 wf) rfl), rfl⟩
  · obtain ⟨h1, h2⟩ := State.deviceTo_state { s1 with clk := { s1.clk with pending := [] } } s1.now v xb sro wf hs
    have e := effect _ h hd
    rw [State.applyPwr_device] at e
    exact ⟨_, e, h1.par, h2⟩
  · have e := effect _ h hd
    rw [State.applyPwr_pier] at e
    have wx : Dict.wf ({ s1 with clk := { s1.clk with pending := [] } } : State).dict := wf
    have hp := s1.pierWant_pending [] p
    have hc : ({ s1 with clk := { s1.clk with pending := [] } } : State).clk.pending = [] := rfl
    generalize ({ s1 with clk := { s1.clk with pending := [] } } : State) = x at e wx hp hc
    exact ⟨_, e, hp ▸ (x.pierTo_state _ _ _ wx).par, (congrArg ClkSt.pending (x.pierTo_clk ..)).trans hc⟩

/-! ### Wakes -/

theorem State.setReady_ready (s : State) (n : Nat) (on : Bool) (h : n ≠ 3) (w : Dict.wf s.dict) : (s.setReady n on).sourceReady n = on := by
  unfold State.sourceReady State.setReady
  rw [par_setPar_self _ _ _ _ w, bit_putBit, if_pos rfl, decide_eq_false h, Bool.false_or]

/-- A source that is started is not READY (R394). -/
theorem State.startSource_ready (s : State) (n : Nat) (h : n ≠ 3) (w : Dict.wf s.dict) :
    (s.startSource n).sourceReady n = false := s.setReady_ready n false h w

theorem State.startSource_started (s : State) (n : Nat) : tfind (s.startSource n).clk.started n = some s.now := by
  show tfind (tset s.clk.started n s.now) n = _
  rw [tfind_tset, if_pos rfl]

/-- Settles O20: a wake starts XA, and of the units that wake on demand the DRAM and FRO alone change anything. -/
theorem wakes : Obligations.Wakes := by
  intro s t cause lane n inv
  obtain ⟨-, w, -⟩ := inv
  intro s1
  refine ⟨fun h0 h1 h2 h3 => ?_, ?_⟩
  · refine ⟨_, if_pos ⟨h0, h1, by rw [show (s.enter t).clk.waking = false from h2]; rfl, h3⟩, rfl, ?_, State.startSource_started .., ?_⟩
    · exact State.Has.par (.dict (.same (.written _ w) (State.setReady_same ..) rfl) rfl)
    · exact State.startSource_ready (s1.setPar Ix.pwrWakeCause 0 cause) 0 (by decide) (dictWf_setPar _ _ _ _ w)
  · cases n with
    | dram k =>
      by_cases g : s1.par Ix.memState 0 = 2 ∧ 2 ≤ s1.par Ix.pwrState 0 ∧ s1.domainGood 3 = true
      · refine ⟨_, if_pos g, ?_, fun _ _ _ _ => par_setPar_self _ _ _ _ w, nofun, fun h => by simp at h⟩
        exact State.Has.par (.setPar (.start (s := s1) w) (by decide))
      · exact ⟨_, if_neg g, rfl, fun _ h1 h2 h3 => absurd ⟨h1, h2, h3⟩ g, nofun, fun _ => ⟨rfl, rfl⟩⟩
    | fro =>
      refine ⟨_, rfl, ?_, (fun ⟨_, h⟩ => nomatch h), fun _ h1 h2 => ?_, fun h => by simp at h⟩
      · exact State.Has.par (.same (.start (s := s1) w) (State.froFollow_same ..) rfl)
      · have e : s1.froFollow = s1.startSource 2 := by
          unfold State.froFollow
          rw [if_pos (show s1.froWanted = true from h1), if_pos (by rw [show tfind s1.clk.started 2 = none from h2]; rfl)]
        rw [e]
        exact State.startSource_started ..
    | _ => exact ⟨s1, rfl, rfl, (fun ⟨_, h⟩ => nomatch h), nofun, fun _ => ⟨rfl, rfl⟩⟩

end Sys2Proof.Machine
end

section
/-! SUPPORT. Brown-outs, rails, temperature and the management processor (R14, R72, R73, R377, R431, R432, R454, R461 to R463). -/
namespace Sys2Proof.Machine

/-! ### Outputs and their safe state -/

theorem State.outOf_setOut_self (s : State) (k : SafeKind) (n : Nat) (o : OutSt) : (s.setOut k n o).outOf k n = o := by
  cases k <;> simp only [State.outOf, State.setOut, tget, tfind_tset, if_true, Option.getD_some]

/-- An output after another is set, or the same. -/
theorem State.outOf_setOut (s : State) (j k : SafeKind) (m n : Nat) (o : OutSt) :
    ((s.setOut k n o).outOf j m = o ∧ s.outOf j m = s.outOf k n) ∨ (s.setOut k n o).outOf j m = s.outOf j m := by
  cases j <;> cases k <;>
    (simp only [State.outOf, State.setOut, tget, tfind_tset]
     by_cases h : m = n <;> simp [h])

/-- An operation that leaves both tables of outputs. -/
theorem State.outOf_same {m : Nat} {s t : State} (h : Same m s t) (hg : m.testBit 9 = false) (hl : m.testBit 10 = false) (k : SafeKind)
    (n : Nat) : t.outOf k n = s.outOf k n := by
  unfold State.outOf
  rw [h.guard hg, h.line hl]

theorem State.holdBegins_held (s : State) (k j : SafeKind) (n m : Nat) :
    ((s.holdBegins k n).outOf j m).held = (s.outOf j m).held := by
  unfold State.holdBegins
  extract_lets o
  split
  · rcases s.outOf_setOut j k m n { o with pulse := some { ‹Pulse› with shows := false } } with ⟨h, e⟩ | h
    · rw [h, e]
    · rw [h]
  · rfl

/-- A cause reaches an output that is not overridden: it is held (R72). -/
theorem State.safeEnter_holds (s : State) (k : SafeKind) (t n : Nat) (all : Bool) (h : s.overridden k n = false) :
    ((State.safeEnter k t all s n).outOf k n).held = true := by
  unfold State.safeEnter
  rw [if_neg (by rw [h]; decide)]
  extract_lets o o1
  split
  · rw [State.outOf_setOut_self]
    assumption
  · rw [State.outOf_same (State.emit_same ..) rfl rfl, State.outOf_same (State.cnt_frame ..) rfl rfl, State.holdBegins_held,
      State.outOf_setOut_self]

/-- A cause lets go of no output. -/
theorem State.safeEnter_keeps (s : State) (k j : SafeKind) (t n m : Nat) (all : Bool) (h : (s.outOf j m).held = true) :
    ((State.safeEnter k t all s n).outOf j m).held = true := by
  have set : ∀ o : OutSt, o.held = true → ((s.setOut k n o).outOf j m).held = true := by
    intro o ho
    rcases s.outOf_setOut j k m n o with ⟨e, -⟩ | e <;> rw [e] <;> assumption
  unfold State.safeEnter
  split
  · exact h
  · extract_lets o o1
    split
    · exact set _ (by assumption)
    · rw [State.outOf_same (State.emit_same ..) rfl rfl, State.outOf_same (State.cnt_frame ..) rfl rfl, State.holdBegins_held]
      exact set _ rfl

theorem State.safeEnter_all_guard (s : State) (t n : Nat) (all : Bool) (pins lines : List Nat) (hn : n ∈ pins) (w : Dict.wf s.dict)
    (hv : s.par Ix.guardSafeOverride n ≠ 1) :
    ((lines.foldl (State.safeEnter .line t all) (pins.foldl (State.safeEnter .guard t all) s)).outOf .guard n).held = true := by
  refine foldl_keeps (I := fun u : State => (u.outOf .guard n).held = true) (fun u _ h => u.safeEnter_keeps _ _ _ _ _ _ h) _ _ ?_
  refine foldl_reaches (I := fun u : State => u.Has Ix.guardSafeOverride n (s.par Ix.guardSafeOverride n))
    (P := fun u : State => (u.outOf .guard n).held = true) (x := n) (fun u hu => u.safeEnter_holds _ _ _ _ ?_)
    (fun _ _ hu => hu.same (State.safeEnter_same ..) rfl) (fun u _ _ h => u.safeEnter_keeps _ _ _ _ _ _ h) _ _ (.start w) (.inl hn)
  rw [State.overridden, hu.par, decide_eq_false hv, Bool.and_false]

theorem State.safeEnter_all_line (s : State) (t n : Nat) (all : Bool) (lines : List Nat) (hn : n ∈ lines) :
    ((lines.foldl (State.safeEnter .line t all) s).outOf .line n).held = true :=
  foldl_reaches (I := fun _ : State => True) (P := fun u : State => (u.outOf .line n).held = true) (x := n)
    (fun u _ => u.safeEnter_holds _ _ _ _ rfl) (fun _ _ _ => trivial) (fun u _ _ h => u.safeEnter_keeps _ _ _ _ _ _ h) _ _ trivial
    (.inl hn)

/-- A cause that reaches the whole device holds every output that is not overridden (R72). -/
theorem State.safeEverything_holds (s : State) (t : Nat) (all : Bool) (w : Dict.wf s.dict) :
    (∀ n < 192, s.par Ix.guardSafeOverride n ≠ 1 → ((s.safeEverything t all).outOf .guard n).held = true)
      ∧ ∀ n < 8, ((s.safeEverything t all).outOf .line n).held = true := by
  unfold State.safeEverything
  extract_lets s1 s2
  have hs : Same mask5 s1 s2 := Same.foldl _ (Same.refl _ _) (fun _ _ => State.exSafeEnter_same ..)
  have rest : ∀ k n, (s2.outOf k n).held = (s1.outOf k n).held := fun k n => congrArg OutSt.held (State.outOf_same hs rfl rfl k n)
  clear_value s2
  refine ⟨fun n hn hv => (rest .guard n).trans ?_, fun n hn => (rest .line n).trans ?_⟩
  · show ((s.safeEnterAll t all).outOf .guard n).held = true
    unfold State.safeEnterAll
    exact s.safeEnter_all_guard t n all (List.range 192) (List.range 8) (List.mem_range.mpr hn) w hv
  · show ((s.safeEnterAll t all).outOf .line n).held = true
    unfold State.safeEnterAll
    extract_lets pins
    exact pins.safeEnter_all_line t n all (List.range 8) (List.mem_range.mpr hn)

/-- The last cause of the device has cleared: what follows it, and nothing else holds, leaves at the next whole microsecond (R73). -/
theorem State.follow_leaves (s : State) (n : Nat) (hh : (s.outOf .guard n).held = true) (ha : (s.outOf .guard n).safeAll = false)
    (hr : (s.outOf .guard n).releaseAt = none) (hm : s.par Ix.guardSafeMode n = 1) :
    ((State.follow .guard s n).outOf .guard n).releaseAt = some (nextMicro s.now) := by
  unfold State.follow
  extract_lets o
  rw [if_pos (by simp [o, hh, ha, hr, hm, outPar]), State.outOf_setOut_self]

theorem State.outOf_setOut_guard_ne (s : State) (m n : Nat) (o : OutSt) (h : m ≠ n) :
    (s.setOut .guard n o).outOf .guard m = s.outOf .guard m := by
  simp only [State.outOf, State.setOut, tget, tfind_tset, if_neg h]

/-- Another output that follows leaves this one. -/
theorem State.follow_other (s : State) (m n : Nat) (h : m ≠ n) : (State.follow .guard s n).outOf .guard m = s.outOf .guard m := by
  unfold State.follow
  extract_lets o
  split
  · exact s.outOf_setOut_guard_ne m n _ h
  · rfl

theorem State.follow_line (s : State) (m n : Nat) : (State.follow .line s n).outOf .guard m = s.outOf .guard m := by
  unfold State.follow
  extract_lets o
  split <;> rfl

theorem State.follow_kept (s : State) (m n x : Nat) (h : (s.outOf .guard m).releaseAt = some x) :
    ((State.follow .guard s n).outOf .guard m).releaseAt = some x := by
  by_cases e : m = n
  · subst e
    unfold State.follow
    extract_lets o
    rw [if_neg (by simp [o, h])]
    exact h
  · rw [s.follow_other m n e]
    exact h

/-- Every pin and line follows: a held pin in FOLLOW mode leaves at the next whole microsecond (R73). -/
theorem State.follow_all_leaves (s : State) (n : Nat) (pins lines : List Nat) (hn : n ∈ pins)
    (hh : (s.outOf .guard n).held = true) (ha : (s.outOf .guard n).safeAll = false) (hr : (s.outOf .guard n).releaseAt = none)
    (hm : s.par Ix.guardSafeMode n = 1) :
    ((lines.foldl (State.follow .line) (pins.foldl (State.follow .guard) s)).outOf .guard n).releaseAt = some (nextMicro s.now) := by
  let P : State → Prop := fun u => (u.outOf .guard n).releaseAt = some (nextMicro s.now)
  let I : State → Prop := fun u => u.now = s.now ∧ u.dict = s.dict ∧ (u.outOf .guard n = s.outOf .guard n ∨ P u)
  refine foldl_keeps (I := P) (fun u y h => ?_) _ _ ?_
  · show ((State.follow .line u y).outOf .guard n).releaseAt = _
    rw [u.follow_line]
    exact h
  · refine foldl_reaches (I := I) (P := P) (x := n) (fun u hu => ?_) (fun u y hu => ?_) (fun u y _ h => u.follow_kept n y _ h) _ _
      ⟨rfl, rfl, .inl rfl⟩ (.inl hn)
    · obtain ⟨h1, h2, h | h⟩ := hu
      · have hp : u.par Ix.guardSafeMode n = 1 := by rw [State.par, State.val, h2]; exact hm
        exact (u.follow_leaves n (by rw [h, hh]) (by rw [h, ha]) (by rw [h, hr]) hp).trans (by rw [h1])
      · exact u.follow_kept n n _ h
    · obtain ⟨h1, h2, h⟩ := hu
      refine ⟨((State.follow_same ..).now rfl).trans h1, ((State.follow_same ..).dict rfl).trans h2, ?_⟩
      rcases h with h | h
      · by_cases e : n = y
        · subst e
          have hp : u.par Ix.guardSafeMode n = 1 := by rw [State.par, State.val, h2]; exact hm
          exact .inr ((u.follow_leaves n (by rw [h, hh]) (by rw [h, ha]) (by rw [h, hr]) hp).trans (by rw [h1]))
        · exact .inl ((u.follow_other n y e).trans h)
      · exact .inr (u.follow_kept n y _ h)

theorem State.causesClear_leaves (s : State) (n : Nat) (hn : n < 192) (hc : s.globalCause = false)
    (hh : (s.outOf .guard n).held = true) (ha : (s.outOf .guard n).safeAll = false) (hr : (s.outOf .guard n).releaseAt = none)
    (hm : s.par Ix.guardSafeMode n = 1) : (s.causesClear.outOf .guard n).releaseAt = some (nextMicro s.now) := by
  unfold State.causesClear
  rw [if_neg (by rw [hc]; decide)]
  exact s.follow_all_leaves n _ _ (List.mem_range.mpr hn) hh ha hr hm

/-! ### Sessions end -/

theorem State.endSession_first (s : State) (k : Nat) (x : Session) (l : Tbl Session) (h : s.net.sessions = (k, x) :: l) :
    (s.endSession k).net.sessions = l := by
  have found : tfind s.net.sessions k = some x := by rw [h, tfind, if_pos rfl]
  unfold State.endSession
  split
  · next e => rw [found] at e; cases e
  extract_lets +onlyGivenNames -merge mine s1
  have h1 : s1.net.sessions = (k, x) :: l := by
    refine foldl_keeps (I := fun u : State => u.net.sessions = (k, x) :: l) (fun u y hu => ?_) _ _ h
    unfold State.endSub
    extract_lets +onlyGivenNames -merge stream _ s2
    have h2 : s2.net.sessions = (k, x) :: l := hu
    split
    · exact (congrArg NetSt.sessions ((State.drainTail_same ..).net rfl)).trans h2
    · exact h2
  clear_value s1
  have e : terase s1.net.sessions k = l := by rw [h1, terase, if_pos rfl]
  extract_lets +onlyGivenNames -merge _ s2 s3
  split <;> exact e

theorem State.endSessions_none (s : State) : s.endSessions.net.sessions = [] := by
  have all : ∀ (l : Tbl Session) (u : State), u.net.sessions = l → ((l.map Prod.fst).foldl State.endSession u).net.sessions = [] := by
    intro l
    induction l with
    | nil => exact fun u h => h
    | cons x l ih => exact fun u h => ih _ (u.endSession_first x.1 x.2 l h)
  exact all _ s rfl

/-- A restart of the management processor (R14). -/
theorem State.mpRestart_clean (s : State) (a b : Nat) :
    (s.mpRestart a b).net.sessions = [] ∧ (s.mpRestart a b).nv.job = none ∧ (s.mpRestart a b).nv.stage = none := by
  unfold State.mpRestart
  extract_lets +onlyGivenNames -merge s1
  have h1 : s1.net.sessions = [] := (congrArg NetSt.sessions ((State.crossingReset_same ..).net rfl)).trans s.endSessions_none
  exact ⟨h1, rfl, rfl⟩

/-! ### The commands -/

theorem watchdogExpiry_restarts (s : State) (t a b : Nat) (w : Dict.wf s.dict) (h : 6 ≤ s.par Ix.startStep 0) :
    Completes (.watchdogExpiry t a b) s (fun u => u.net.sessions = [] ∧ u.nv.job = none ∧ u.nv.stage = none
      ∧ u.par Ix.storeState 0 = 0 ∧ u.par Ix.storeBootCount 0 = s.par Ix.storeBootCount 0 + 1) := by
  show ∃ u, execWatchdogExpiry t a b s = .next u ∧ _
  unfold execWatchdogExpiry
  extract_lets +onlyGivenNames -merge s1 s2
  rw [if_neg (show ¬ s1.par Ix.startStep 0 ≤ 5 from Nat.not_le.mpr h)]
  obtain ⟨h1, h2, h3⟩ := s1.mpRestart_clean a b
  have wr : Dict.wf (s1.mpRestart a b).dict := (State.mpRestart_same ..).dictWf w
  have h4 : s2.Has Ix.storeState 0 0 := .setPar (by
    unfold State.mpRestart
    exact .written _ ((State.crossingReset_same ..).dictWf ((State.endSessions_same ..).dictWf w))) (by decide)
  have h5 : s2.Has Ix.storeBootCount 0 (s.par Ix.storeBootCount 0 + 1) := by
    have e : (s1.mpRestart a b).Has Ix.storeBootCount 0 (s.par Ix.storeBootCount 0) := .same (.start (s := s1) w) (State.mpRestart_same ..) rfl
    exact e.par ▸ .written _ wr
  have hs : s2.net.sessions = [] ∧ s2.nv.job = none ∧ s2.nv.stage = none := ⟨h1, h2, h3⟩
  clear_value s2
  obtain ⟨h1, h2, h3⟩ := hs
  split
  · extract_lets +onlyGivenNames -merge n prev
    split
    · refine ⟨_, rfl, h1, h2, h3, State.Has.par (.same h4 (State.revert_same ..) rfl), State.Has.par (.same h5 (State.revert_same ..) rfl)⟩
    · exact ⟨_, rfl, h1, h2, h3, h4.par, h5.par⟩
  · exact ⟨_, rfl, h1, h2, h3, h4.par, h5.par⟩

theorem fwConfirm_confirms (s : State) (t : Nat) (w : Dict.wf s.dict) (h : s.par Ix.fwState 0 = 2)
    (hd : s.nv.fwSince + s.par Ix.fwConfirmTime 0 * 256000000000 ≤ (s.enter t).now) :
    Completes (.fwConfirm t) s (fun u => u.par Ix.fwState 0 = 3 ∧ (u.fwSlot (s.par Ix.fwActiveSlot 0)).confirm = true
      ∧ u.par Ix.fwFuseCount 0 = max (s.par Ix.fwFuseCount 0)
        (min (fwSecOf (s.fwSlot (s.par Ix.fwActiveSlot 0)).data) 256)) := by
  let s1 := s.enter t
  let s2 := (s1.setFw (s.par Ix.fwActiveSlot 0) { s1.fwSlot (s.par Ix.fwActiveSlot 0) with confirm := true }).setPar Ix.fwState 0 3
  have h2 : s2.Has Ix.fwState 0 3 := .written _ w
  have h3 : s2.Has Ix.fwFuseCount 0 (s.par Ix.fwFuseCount 0) := .setPar ⟨w, rfl⟩ (by decide)
  refine ⟨_, if_pos ⟨h, hd⟩, State.Has.par (.setPar h2 (by decide)), ?_, ?_⟩
  · show (tget {} (tset s.nv.fw (s.par Ix.fwActiveSlot 0) _) (s.par Ix.fwActiveSlot 0)).confirm = true
    rw [tget, tfind_tset, if_pos rfl]
    rfl
  · exact h3.par ▸ par_setPar_self s2 _ _ _ h2.wf

theorem ageHour_counts (s : State) (t : Nat) (mean : Int) (w : Dict.wf s.dict) :
    Completes (.ageHour t mean) s (fun u => u.par Ix.storeAge 0 = s.par Ix.storeAge 0 + 1
      ∧ u.par Ix.diagTjHours (tjBand mean) = s.par Ix.diagTjHours (tjBand mean) + 1
      ∧ u.par Ix.diagLifeUsed 0 = s.par Ix.diagLifeUsed 0 + tjWeight (tjBand mean)) := by
  show ∃ u, execAgeHour t mean s = .next u ∧ _
  unfold execAgeHour
  extract_lets +onlyGivenNames -merge s1 b s2 s3 s4
  have w1 : Dict.wf s1.dict := w
  have a2 : s2.Has Ix.storeAge 0 (s.par Ix.storeAge 0 + 1) := .written s1 w1
  have k2 : ∀ ix sub, Ix.storeAge ≠ ix → s2.Has ix sub (s.par ix sub) := fun _ _ e => .setPar (.start (s := s1) w1) e.symm
  have b3 : s3.Has Ix.diagTjHours b (s.par Ix.diagTjHours b + 1) := (k2 Ix.diagTjHours b (by decide)).par ▸ .written s2 a2.wf
  have l3 : s3.Has Ix.diagLifeUsed 0 (s.par Ix.diagLifeUsed 0) := .setPar (k2 Ix.diagLifeUsed 0 (by decide)) (by decide)
  have l4 : s4.Has Ix.diagLifeUsed 0 (s.par Ix.diagLifeUsed 0 + tjWeight b) := l3.par ▸ .written s3 l3.wf
  have a4 : s4.Has Ix.storeAge 0 (s.par Ix.storeAge 0 + 1) := .setPar (.setPar a2 (by decide)) (by decide)
  have b4 : s4.Has Ix.diagTjHours b (s.par Ix.diagTjHours b + 1) := .setPar b3 (by decide)
  refine ⟨_, rfl, ?_, ?_, ?_⟩
  · exact State.Has.par (.same (.same a4 (State.refreshCopy_same ..) rfl) (State.refreshFw_same ..) rfl)
  · exact State.Has.par (.same (.same b4 (State.refreshCopy_same ..) rfl) (State.refreshFw_same ..) rfl)
  · exact State.Has.par (.same (.same l4 (State.refreshCopy_same ..) rfl) (State.refreshFw_same ..) rfl)

theorem State.brown_pars (s : State) (aon on : Bool) : (s.brown aon on).dict = s.dict ∧ (s.brown aon on).guard = s.guard
    ∧ (s.brown aon on).now = s.now ∧ (s.brown aon on).clockCause = s.clockCause ∧ (s.brown aon on).brownCause = s.brownCause := by
  cases aon <;> exact ⟨rfl, rfl, rfl, rfl, rfl⟩

theorem tjSample_reads (s : State) (t : Nat) (tj : Word) (w : Dict.wf s.dict) :
    Completes (.tjSample t tj) s (fun u => u.par Ix.diagTj 0 = tj.toNat
      ∧ u.par Ix.diagTjOver 0 = b2n (decide (f32Key 0x42D20000 < f32Key tj.toNat))
      ∧ (f32Key (s.par Ix.diagTjMax 0) < f32Key tj.toNat → u.par Ix.diagTjMax 0 = tj.toNat)) := by
  show ∃ u, execTjSample t tj s = .next u ∧ _
  unfold execTjSample
  extract_lets +onlyGivenNames -merge s1 s2
  have h1 : s1.Has Ix.diagTj 0 tj.toNat := .written (s.enter t) w
  have o2 : s2.Has Ix.diagTjOver 0 (b2n (decide (f32Key 0x42D20000 < f32Key tj.toNat))) := .written _ h1.wf
  have h2 : s2.Has Ix.diagTj 0 tj.toNat := .setPar h1 (by decide)
  have m2 : s2.Has Ix.diagTjMax 0 (s.par Ix.diagTjMax 0) := .setPar (.setPar (.start (s := s.enter t) w) (by decide)) (by decide)
  split
  · exact ⟨_, rfl, State.Has.par (.setPar h2 (by decide)), State.Has.par (.setPar o2 (by decide)), fun _ => par_setPar_self _ _ _ _ h2.wf⟩
  · next h => exact ⟨_, rfl, h2.par, o2.par, fun g => absurd (m2.par ▸ g) h⟩

/-- Settles O21: the safe state of a brown-out by a loop over the outputs, the rest from the commands' definitions. -/
theorem railsTemperatureProcessor : Obligations.RailsTemperatureProcessor := by
  refine ⟨fun s t aon rail tj inv => ?_, fun s t a b mean inv => ?_⟩
  · obtain ⟨-, w, -⟩ := inv
    intro s1
    refine ⟨?_, fun hb ho hc => ?_, fun h => ?_, ?_, ?_⟩
    · let x : State := { s1.brown aon true with brownCause := true }
      have wx : Dict.wf x.dict := (s1.brown_pars aon true).1 ▸ w
      obtain ⟨h1, h2⟩ := x.safeEverything_holds x.now false wx
      have hc : (x.safeEverything x.now false).clk = x.clk := (State.safeEverything_same ..).clk rfl
      refine ⟨x.safeEverything x.now false, rfl, (State.safeEverything_same x x.now false).brownCause rfl, ?_, fun n hn => h1 n n.isLt ?_, fun n => h2 n n.isLt⟩
      · cases aon
        · exact congrArg ClkSt.brownCore hc
        · exact congrArg ClkSt.brownAon hc
      · cases aon <;> exact hn
    · let y := s1.brown aon false
      let x : State := { y with brownCause := false }
      have yc : y.clk.brownCore = false ∧ y.clk.brownAon = false := by
        cases aon
        · exact ⟨rfl, ho⟩
        · exact ⟨ho, rfl⟩
      have hy := s1.brown_pars aon false
      obtain ⟨yd, yg, yn, yk, yb⟩ := hy
      have e : exec (.brownOutClear t aon) s = .next x.causesClear := by
        refine if_neg ?_
        show ¬ (y.clk.brownCore = true ∨ y.clk.brownAon = true ∨ (!y.brownCause) = true)
        rw [yc.1, yc.2, yb, show s1.brownCause = true from hb]
        decide
      have hc' : x.causesClear.clk = y.clk := (State.causesClear_same x).clk rfl
      refine ⟨_, e, (State.causesClear_same x).brownCause rfl, by rw [hc']; exact yc.1, by rw [hc']; exact yc.2, fun n hh ha hm hr => ?_⟩
      have out : x.outOf .guard n = s.outOf .guard n := by
        show tget {} y.guard n = _
        rw [yg]
        rfl
      have par : x.par Ix.guardSafeMode n = s.par Ix.guardSafeMode n := by
        show y.par _ _ = _
        rw [State.par, State.val, yd]
        rfl
      have := x.causesClear_leaves n n.isLt (by show (y.clockCause || false) = false; rw [yk, show s1.clockCause = false from hc]; rfl)
        (by rw [out, hh]) (by rw [out, ha]) (by rw [out, hr]) (by rw [par, hm])
      rwa [show x.now = s1.now from yn] at this
    · have e : exec (.railLow t rail) s = .next ((s1.setPar Ix.diagRailLow 0 (putBit (s1.par Ix.diagRailLow 0) rail true)).cnt Ix.diagRailEvents 0) :=
        if_neg (by rw [show bit ((s.enter t).par Ix.diagRailLow 0) rail = false from h]; decide)
      have h1 := State.Has.written (ix := Ix.diagRailLow) (sub := 0) (v := putBit (s1.par Ix.diagRailLow 0) rail true) s1 w
      refine ⟨_, e, ?_, State.Has.par (.counted (.setPar (.start (s := s1) w) (by decide)) (by decide))⟩
      rw [State.Has.par (.cnt h1 (by decide)), bit_putBit, if_pos rfl]
    · refine ⟨_, rfl, ?_⟩
      show bit ((s1.setPar Ix.diagRailLow 0 _).par Ix.diagRailLow 0) rail = false
      rw [par_setPar_self s1 _ _ _ w, bit_putBit, if_pos rfl]
    · exact tjSample_reads s t tj w
  · obtain ⟨-, w, -⟩ := inv
    exact ⟨fun h _ => watchdogExpiry_restarts s t a b w h, fun h hd => fwConfirm_confirms s t w h hd, ageHour_counts s t mean w⟩

end Sys2Proof.Machine
end

section
/-! SUPPORT. Loads, slews and steps of Garnet time (R47 to R51, R53, R54, R57). -/
namespace Sys2Proof.Machine

/-- An operation whose frame leaves the parameter, from its result backwards. -/
theorem State.Has.via {s t : State} {ix sub v m : Nat} (f : Same m s t) (hb : m.testBit (42 + regNo ix) = false) (h : s.Has ix sub v) :
    t.Has ix sub v := h.same f hb

/-- One operation after another: what either may change. -/
theorem Same.join {m k : Nat} {s u t : State} (h : Same m s u) (g : Same k u t) : Same (m ||| k) s t :=
  (h.mono (by rw [← Nat.or_assoc, Nat.or_self])).then g (by rw [Nat.or_comm, Nat.or_assoc, Nat.or_self])

/-! ### Refusals -/

/-- A refused write is counted, and its slot named (R352). -/
theorem State.reject_named (s : State) (c l inst ix sub : Nat) (w : Dict.wf s.dict)
    (hc : c ≠ l ∧ c ≠ Ix.dictSatCount ∧ c ≠ Ix.dictSatLast) :
    (s.reject c l inst ix sub).par c inst = cntNext (s.par c inst) ∧ (s.reject c l inst ix sub).par l inst = ix * 256 + sub :=
  ⟨State.Has.par (.setPar (.counted (.start w) hc.2) hc.1), par_setPar_self _ _ _ _ (dictWf_cnt _ _ _ w)⟩

/-! ### The queue of changes through an operation -/

theorem State.mark_cw (s : State) (ix sub v : Nat) : (s.mark ix sub v).cw = s.cw := by
  unfold State.mark
  split <;> rfl

theorem State.store_queue (s : State) (x : Item) : (s.store x).cw.queue = s.cw.queue := by
  unfold State.store
  extract_lets +onlyGivenNames -merge _ s1
  rw [State.mark_cw]

theorem State.admitItem_queue (s : State) (x : Item) : (s.admitItem x).cw.queue = s.cw.queue := by
  unfold State.admitItem
  extract_lets s1
  split
  · rw [(State.cnt_frame ..).cw rfl]
    exact s.store_queue x
  · exact s.store_queue x

theorem State.emitItem_queue (s : State) (x : Item) : (s.emitItem x).cw.queue = s.cw.queue := by
  unfold State.emitItem
  split
  · exact s.admitItem_queue x
  · rfl

theorem State.emitEpoch_queue (s : State) (t c : Nat) : (s.emitEpoch t c).cw.queue = s.cw.queue := by
  unfold State.emitEpoch
  extract_lets +onlyGivenNames -merge q n alone add _ s1
  have h1 : s1.cw.queue = s.cw.queue := rfl
  clear_value s1
  split
  · exact h1
  · split
    · exact (s1.emitItem_queue _).trans h1
    · exact foldl_keeps (I := fun u : State => u.cw.queue = s.cw.queue) (fun u k h => (u.emitItem_queue _).trans h) _ _ h1

theorem State.flushSource_queue (s : State) (src : Nat) : (s.flushSource src).cw.queue = s.cw.queue := by
  unfold State.flushSource
  extract_lets s1 e
  have h1 : s1.cw.queue = s.cw.queue :=
    foldl_keeps (I := fun u : State => u.cw.queue = s.cw.queue)
      (fun u k h => (congrArg CwSt.queue ((State.judge_same ..).cw rfl)).trans h) _ _ rfl
  exact foldl_keeps (I := fun u : State => u.cw.queue = s.cw.queue) (fun u r h => (u.admitItem_queue _).trans h) _ _ h1

theorem State.newEpoch_queue (s : State) (t : Nat) : (s.newEpoch t).cw.queue = s.cw.queue := rfl

theorem State.newEpoch_num (s : State) (t : Nat) (w : Dict.wf s.dict) :
    (s.newEpoch t).Has Ix.timeEpochNum 0 ((s.par Ix.timeEpochNum 0 + 1) % 65536) :=
  .written _ w

/-! ### Loads -/

theorem State.cancelLoad_cancels (s : State) (w : Dict.wf s.dict) :
    s.cancelLoad.par Ix.timeLoadState 0 = 3 ∧ s.cancelLoad.time.load = none
      ∧ s.cancelLoad.par Ix.timeLoadCancelled 0 = cntNext (s.par Ix.timeLoadCancelled 0) ∧ s.cancelLoad.now = s.now := by
  unfold State.cancelLoad
  extract_lets +onlyGivenNames -merge _ s1
  have h1 : s1.time.load = none ∧ s1.now = s.now := ⟨rfl, rfl⟩
  have hv : s1.Has Ix.timeLoadCancelled 0 (s.par Ix.timeLoadCancelled 0) := ⟨w, rfl⟩
  clear_value s1
  obtain ⟨hl, hn⟩ := h1
  refine ⟨State.Has.par (.cnt (.written _ hv.wf) (by decide)), ?_, State.Has.par (.counted (.setPar hv (by decide)) (by decide)), ?_⟩
  · rw [(State.cnt_frame ..).time rfl]
    exact hl
  · rw [(State.cnt_frame ..).now rfl]
    exact hn

theorem State.servoReset_sync (s : State) (w : Dict.wf s.dict) :
    s.servoReset.par Ix.timeSyncState 0 = min 1 (s.par Ix.timeSyncState 0) := by
  unfold State.servoReset
  split
  · next h => rw [h]; rfl
  · next h =>
    have e : min 1 (s.par Ix.timeSyncState 0) = 1 := Nat.min_eq_left (Nat.pos_of_ne_zero h)
    unfold State.syncTo
    extract_lets old
    split
    · next g => exact g.trans e.symm
    · rw [e]
      exact State.Has.par (.same (.written s w) (State.emit_same ..) rfl)

/-- What a load leaves of the time base (R54). -/
theorem State.loadTime_loads (s : State) (v : Nat) (w : Dict.wf s.dict) :
    (s.loadTime v).now = v ∧ (s.loadTime v).time.load = none ∧ (s.loadTime v).par Ix.timeLoadState 0 = 2
      ∧ (s.loadTime v).par Ix.timeEpochNum 0 = (s.par Ix.timeEpochNum 0 + 1) % 65536 ∧ (s.loadTime v).time.loadOwed = 255
      ∧ (s.loadTime v).par Ix.timeSyncState 0 = min 1 (s.par Ix.timeSyncState 0) := by
  unfold State.loadTime
  extract_lets +onlyGivenNames -merge s1 s2 s3
  have e1 : s1.Has Ix.timeEpochNum 0 (s.par Ix.timeEpochNum 0) :=
    .same (.same (.start w) (State.discardEvents_same ..) rfl) (State.rebase_same ..) rfl
  have y1 : s1.Has Ix.timeSyncState 0 (s.par Ix.timeSyncState 0) :=
    .same (.same (.start w) (State.discardEvents_same ..) rfl) (State.rebase_same ..) rfl
  have n1 : s1.now = v := rfl
  clear_value s1
  have e2 : s2.Has Ix.timeEpochNum 0 (s.par Ix.timeEpochNum 0) := .via (State.rebaseReleases_same ..) rfl (.dict e1 rfl)
  have y2 : s2.Has Ix.timeSyncState 0 (s.par Ix.timeSyncState 0) := .via (State.rebaseReleases_same ..) rfl (.dict y1 rfl)
  have t2 : s2.now = v ∧ s2.time.load = none ∧ s2.time.loadOwed = 255 := ⟨n1, rfl, rfl⟩
  clear_value s2
  have e3 : s3.Has Ix.timeEpochNum 0 ((s.par Ix.timeEpochNum 0 + 1) % 65536) := e2.par ▸ .written s2 e2.wf
  have y3 : s3.Has Ix.timeSyncState 0 (s.par Ix.timeSyncState 0) := .setPar y2 (by decide)
  have t3 : s3.now = v ∧ s3.time.load = none ∧ s3.time.loadOwed = 255 := t2
  clear_value s3
  generalize h4 : ((s3.setPar Ix.timeLoadState 0 2).requeue.restartAt v).settleAll v = s4
  have l4 : s4.Has Ix.timeLoadState 0 2 := h4 ▸
    .same (.same (.same (.written s3 e3.wf) (State.requeue_same ..) rfl) (State.restartAt_same ..) rfl) (State.settleAll_same ..) rfl
  have e4 : s4.Has Ix.timeEpochNum 0 ((s.par Ix.timeEpochNum 0 + 1) % 65536) := h4 ▸
    .same (.same (.same (.setPar e3 (by decide)) (State.requeue_same ..) rfl) (State.restartAt_same ..) rfl) (State.settleAll_same ..) rfl
  have y4 : s4.Has Ix.timeSyncState 0 (s.par Ix.timeSyncState 0) := h4 ▸
    .same (.same (.same (.setPar y3 (by decide)) (State.requeue_same ..) rfl) (State.restartAt_same ..) rfl) (State.settleAll_same ..) rfl
  have n4 : s4.now = v := h4 ▸
    (State.settleAll_same ..).now rfl |>.trans ((State.restartAt_same ..).now rfl) |>.trans ((State.requeue_same ..).now rfl) |>.trans t3.1
  have t4 : s4.time = s3.time := h4 ▸
    (State.settleAll_same ..).time rfl |>.trans ((State.restartAt_same ..).time rfl) |>.trans ((State.requeue_same ..).time rfl)
  have ht := (State.servoReset_same s4).time rfl
  refine ⟨((State.servoReset_same s4).now rfl).trans n4, ?_, (l4.same (State.servoReset_same s4) rfl).par,
    (e4.same (State.servoReset_same s4) rfl).par, ?_, y4.par ▸ s4.servoReset_sync y4.wf⟩
  · rw [ht, t4]
    exact t3.2.1
  · rw [ht, t4]
    exact t3.2.2

/-! ### Steps -/

theorem State.place_skips (s : State) (a b d : Nat) (h : s.time.skipped = some (a, b)) : s.place d < a ∨ b ≤ s.place d := by
  unfold State.place
  rw [h]
  dsimp only
  split <;> omega

/-- A forward step up to the flush of the edge paths: scheduled times are placed, every source is flushed. -/
def State.stepPlaced (s : State) (a d : Nat) : State :=
  let s0 : State := { s with now := s.now + d, time := { s.time with step := none, skipped := some (a, a + d) } }
  (s0.shiftTimers s.now (s.now + d)).placeAll

/-- The rest of a forward step: buckets due, a new epoch, the count of steps, settling. -/
def State.stepMarked (s1 : State) (a b : Nat) : State :=
  let s2 := ({ s1 with cw := { s1.cw with dueTo := max s1.cw.dueTo (b / 1280) } }.store (.ctl a .closeFrames)).newEpoch b
  let s3 := { s2 with conv := s2.conv.map (fun (x : Nat × ConvSt) => (x.1, { x.2 with from_ := max x.2.from_ b, first := true })) }
  (List.range 24).foldl (State.caiTouchPier b) (((s3.cnt Ix.timeSteps 0).emitEpoch b 2).settleAll b)

theorem State.forwardStep_eq (s : State) (a d : Nat) :
    s.forwardStep a d = ((s.edge.map Prod.fst).foldl State.flushSource (s.stepPlaced a d)).stepMarked a (a + d) := rfl

theorem State.stepPlaced_base (s : State) (a d : Nat) :
    (s.stepPlaced a d).now = s.now + d ∧ (s.stepPlaced a d).time.step = none
      ∧ (s.stepPlaced a d).time.skipped = some (a, a + d) ∧ (s.stepPlaced a d).dict = s.dict := ⟨rfl, rfl, rfl, rfl⟩

/-- Nothing that is scheduled lies in the skipped interval (R50). -/
theorem State.stepPlaced_skips (s : State) (a d : Nat) :
    (∀ x ∈ (s.stepPlaced a d).slots, x.due < a ∨ a + d ≤ x.due) ∧ ∀ c ∈ (s.stepPlaced a d).cw.queue, c.eff < a ∨ a + d ≤ c.eff := by
  unfold State.stepPlaced
  extract_lets +onlyGivenNames -merge _ s0
  have skip := fun x => s0.place_skips a (a + d) x rfl
  refine ⟨fun x hx => ?_, fun x hx => ?_⟩
  · obtain ⟨y, -, rfl⟩ := List.mem_map.mp hx
    exact skip _
  · obtain ⟨y, -, rfl⟩ := List.mem_map.mp hx
    exact skip _

theorem State.stepMarked_base (s : State) (a b n e : Nat) (hc : s.Has Ix.timeSteps 0 n) (he : s.Has Ix.timeEpochNum 0 e) :
    (s.stepMarked a b).now = s.now ∧ (s.stepMarked a b).time = s.time ∧ (s.stepMarked a b).slots = s.slots
      ∧ (s.stepMarked a b).cw.queue = s.cw.queue ∧ (s.stepMarked a b).par Ix.timeSteps 0 = cntNext n
      ∧ (s.stepMarked a b).par Ix.timeEpochNum 0 = (e + 1) % 65536 := by
  unfold State.stepMarked
  extract_lets +onlyGivenNames -merge _ s2 s3
  let x := ({ s with cw := { s.cw with dueTo := max s.cw.dueTo (b / 1280) } } : State).store (.ctl a .closeFrames)
  have xs : Same (0x2000000 ||| mask134) s x := Same.join (Same.set_cw _ (Same.refl _ _) rfl) (State.store_same ..)
  have f2 : Same (0x2000000 ||| mask134 ||| mask283) s s2 := xs.join (x.newEpoch_same b)
  have ex : x.Has Ix.timeEpochNum 0 e := he.same xs rfl
  have e2 : s2.Has Ix.timeEpochNum 0 ((e + 1) % 65536) := ex.par ▸ x.newEpoch_num b ex.wf
  have c2 : s2.Has Ix.timeSteps 0 n := hc.same f2 rfl
  have q2 : s2.cw.queue = s.cw.queue := (x.newEpoch_queue b).trans (State.store_queue ..)
  clear_value s2
  let s4 := ((s3.cnt Ix.timeSteps 0).emitEpoch b 2).settleAll b
  have f3 : Same 0x20000 s2 s3 := Same.set_conv _ (Same.refl _ _) rfl
  have f4 : Same (allRegs ||| mask22 ||| 0xa0000) s3 s4 :=
    ((State.cnt_frame ..).join (State.emitEpoch_same ..)).join (State.settleAll_same ..)
  have c4 : s4.Has Ix.timeSteps 0 (cntNext n) :=
    .via (State.settleAll_same ..) rfl (.via (State.emitEpoch_same ..) rfl (.counted (c2.same f3 rfl) (by decide)))
  have e4 : s4.Has Ix.timeEpochNum 0 ((e + 1) % 65536) :=
    .via (State.settleAll_same ..) rfl (.via (State.emitEpoch_same ..) rfl (.cnt (e2.same f3 rfl) (by decide)))
  have q4 : s4.cw.queue = s.cw.queue := by
    rw [show s4.cw = ((s3.cnt Ix.timeSteps 0).emitEpoch b 2).cw from (State.settleAll_same ..).cw rfl, State.emitEpoch_queue,
      (State.cnt_frame ..).cw rfl, f3.cw rfl, q2]
  have f5 : Same mask39 s4 (List.foldl (State.caiTouchPier b) s4 (List.range 24)) :=
    Same.foldl _ (Same.refl _ _) (fun _ _ => State.caiTouchPier_same ..)
  generalize List.foldl (State.caiTouchPier b) s4 (List.range 24) = r at f5 ⊢
  have all := ((f2.join f3).join f4).join f5
  exact ⟨all.now rfl, all.time rfl, all.slots rfl, (congrArg CwSt.queue (f5.cw rfl)).trans q4, (c4.same f5 rfl).par,
    (e4.same f5 rfl).par⟩

/-- What a forward step leaves (R50, R51). -/
theorem State.forwardStep_steps (s : State) (a d : Nat) (w : Dict.wf s.dict) :
    (s.forwardStep a d).now = s.now + d ∧ (s.forwardStep a d).time.step = none
      ∧ (s.forwardStep a d).par Ix.timeSteps 0 = cntNext (s.par Ix.timeSteps 0)
      ∧ (s.forwardStep a d).par Ix.timeEpochNum 0 = (s.par Ix.timeEpochNum 0 + 1) % 65536
      ∧ (s.forwardStep a d).time.skipped = some (a, a + d)
      ∧ (∀ x ∈ (s.forwardStep a d).slots, x.due < a ∨ a + d ≤ x.due)
      ∧ ∀ c ∈ (s.forwardStep a d).cw.queue, c.eff < a ∨ a + d ≤ c.eff := by
  obtain ⟨hn, ht, hk, hd⟩ := s.stepPlaced_base a d
  obtain ⟨hs, hq⟩ := s.stepPlaced_skips a d
  have start : ∀ ix sub, (s.stepPlaced a d).Has ix sub (s.par ix sub) := fun _ _ => .dict (.start w) hd
  rw [s.forwardStep_eq]
  generalize s.stepPlaced a d = p at hn ht hk hd hs hq start
  have fl : Same mask119 p ((s.edge.map Prod.fst).foldl State.flushSource p) :=
    Same.foldl _ (Same.refl _ _) (fun _ _ => State.flushSource_same ..)
  have ql : ((s.edge.map Prod.fst).foldl State.flushSource p).cw.queue = p.cw.queue :=
    foldl_keeps (I := fun u : State => u.cw.queue = p.cw.queue) (fun u k h => (u.flushSource_queue k).trans h) _ _ rfl
  generalize (s.edge.map Prod.fst).foldl State.flushSource p = x at fl ql
  obtain ⟨n2, t2, l2, q2, c2, e2⟩ := x.stepMarked_base a (a + d) _ _ ((start Ix.timeSteps 0).same fl rfl) ((start Ix.timeEpochNum 0).same fl rfl)
  refine ⟨n2.trans ((fl.now rfl).trans hn), ?_, c2, e2, ?_, ?_, ?_⟩
  · rw [t2, fl.time rfl, ht]
  · rw [t2, fl.time rfl, hk]
  · rw [l2, fl.slots rfl]
    exact hs
  · rw [q2, ql]
    exact hq

/-- What a backward step leaves (R49, R51). -/
theorem State.backwardStep_steps (s : State) (d : Nat) (w : Dict.wf s.dict) :
    (s.backwardStep d).now = s.now - d ∧ (s.backwardStep d).time.step = none
      ∧ (s.backwardStep d).par Ix.timeSteps 0 = cntNext (s.par Ix.timeSteps 0)
      ∧ (s.backwardStep d).par Ix.timeEpochNum 0 = (s.par Ix.timeEpochNum 0 + 1) % 65536 := by
  unfold State.backwardStep
  extract_lets +onlyGivenNames -merge t s1
  have r : (s.rebase t).now = t ∧ (s.rebase t).dict = s.dict := ⟨rfl, rfl⟩
  have n1 : s1.now = t := rfl
  have e1 : s1.Has Ix.timeEpochNum 0 ((s.par Ix.timeEpochNum 0 + 1) % 65536) := .written _ w
  have c1 : s1.Has Ix.timeSteps 0 (s.par Ix.timeSteps 0) := .setPar ⟨w, rfl⟩ (by decide)
  clear_value s1
  let s2 : State := { s1 with time := { s1.time with step := none } }
  have f : Same (allRegs ||| 0xa0000) s2 ((s2.cnt Ix.timeSteps 0).settleAll t) := (State.cnt_frame ..).join (State.settleAll_same ..)
  refine ⟨(f.now rfl).trans n1, congrArg TimeSt.step (f.time rfl), ?_, ?_⟩
  · exact State.Has.par (.via (State.settleAll_same ..) rfl (.counted (s := s2) (.dict c1 rfl) (by decide)))
  · exact State.Has.par (.via (State.settleAll_same ..) rfl (.cnt (s := s2) (.dict e1 rfl) (by decide)))

/-! ### The commands -/

theorem State.enableDue_none (s : State) (d : Nat) (h : (s.cw.queue.all fun c => decide (d < c.eff)) = true) :
    s.enableDue d = false := by
  unfold State.enableDue
  rw [List.any_eq_false]
  intro c hc
  have := decide_eq_true_eq.mp (List.all_eq_true.mp h c hc)
  simp only [Bool.and_eq_true, decide_eq_true_eq, not_and]
  omega

theorem timeLoadEffect_due (s : State) (t d : Nat) (l : PendingLoad) (hl : s.time.load = some l) (hd : l.due = some d)
    (hn : d ≤ (s.enter t).now) (hq : (s.cw.queue.all fun c => decide (d < c.eff)) = true) :
    exec (.timeLoadEffect t) s = .next ((s.enter t).loadEffect d (l.value + ((s.enter t).now - d))) := by
  show execTimeLoadEffect t s = _
  unfold execTimeLoadEffect
  dsimp only
  rw [show (s.enter t).time.load = some l from hl]
  dsimp only
  rw [hd]
  exact if_pos ⟨hn, hq⟩

/-- The ticks between two slewed ones (R47). -/
theorem State.slewNext_apart (s : State) (h : 0 < s.par Ix.timeSlewMax 0) :
    1000000000000 ≤ (s.slewNext - (s.now - 255) * 1000000) * s.par Ix.timeSlewMax 0 := by
  unfold State.slewNext
  extract_lets m
  have hm : 0 < m := h
  have h1 : 1000000000000 ≤ (1000000000000 + (m - 1)) / m * m := by
    have := Nat.div_add_mod (1000000000000 + (m - 1)) m
    have := Nat.mod_lt (1000000000000 + (m - 1)) hm
    have := Nat.mul_comm m ((1000000000000 + (m - 1)) / m)
    omega
  exact Nat.le_trans h1 (Nat.mul_le_mul_right _ (by omega))

/-- Settles O22: the load, the steps and the slew from their definitions; the rest of each operation leaves the time base. -/
theorem timeChanges : Obligations.TimeChanges := by
  refine ⟨fun s t d l inv => ?_, fun s t a d add inv => ?_⟩
  · obtain ⟨-, w, -⟩ := inv
    intro s1 mode cancelled
    have idle : s.anyStream = false → s.anySeq = false → (s.cw.queue.all fun c => decide (d < c.eff)) = true →
        (s1.anyStream || s1.anySeq || s1.enableDue d) = false := fun h1 h2 h3 => by
      rw [show s1.anyStream = false from h1, show s1.anySeq = false from h2, s1.enableDue_none d h3]; rfl
    have cancels : cancelled s1.cancelLoad ∧ s1.cancelLoad.now = s1.now := by
      obtain ⟨h1, h2, h3, h4⟩ := s1.cancelLoad_cancels w
      exact ⟨⟨h1, h2, h3⟩, h4⟩
    refine ⟨fun hc => ?_, fun hc hm => ?_, fun hc hm ha => ?_, fun hl hd hn hq h1 h2 => ?_, fun hl hd hn hq h => ?_⟩
    · have e : s1.loadCmd = s1.timeReject Ix.timeLoadCmd 0 := if_pos hc
      obtain ⟨h1, h2⟩ := s1.reject_named Ix.timeRejectedWrites Ix.timeLastRejected 0 Ix.timeLoadCmd 0 w (by decide)
      exact ⟨s1.loadCmd, rfl, e ▸ h1, e ▸ h2, e ▸ (State.timeReject_same s1 Ix.timeLoadCmd 0).time rfl⟩
    · have e : s1.loadCmd = ({ s1 with time := { s1.time with load := some ⟨mode, s.par Ix.timeLoadValue 0, s.par Ix.timeLoadAt 0, s1.now⟩ } }
          : State).setPar Ix.timeLoadState 0 1 := by
        unfold State.loadCmd
        rw [if_neg (by rw [hc]; decide)]
        exact if_neg (fun g => absurd (hm g.1) (Nat.not_lt.mpr g.2))
      exact ⟨s1.loadCmd, rfl, by rw [e]; exact par_setPar_self _ _ _ _ w, by rw [e]; rfl⟩
    · have e : s1.loadCmd = s1.cancelLoad := by
        unfold State.loadCmd
        rw [if_neg (by rw [hc]; decide)]
        exact if_pos ⟨hm, ha⟩
      exact ⟨s1.loadCmd, rfl, e ▸ cancels⟩
    · refine ⟨_, timeLoadEffect_due s t d l hl hd hn hq, ?_⟩
      rw [State.loadEffect, if_neg (by rw [idle h1 h2 hq]; decide)]
      have h := (s.enter t).loadTime_loads ((l.value + ((s.enter t).now - d)) % 4722366482869645213696) w
      have e72 : (2 : Nat) ^ 72 = 4722366482869645213696 := by decide
      rw [e72]
      exact h
    · refine ⟨_, timeLoadEffect_due s t d l hl hd hn hq, ?_⟩
      rw [State.loadEffect, if_pos (by rcases h with h | h <;> simp [show (s.enter t).anyStream = s.anyStream from rfl, show (s.enter t).anySeq = s.anySeq from rfl, h])]
      exact cancels
  · obtain ⟨-, w, -⟩ := inv
    intro s1 counted
    refine ⟨fun h ha ht hr hm => ?_, fun h ht hr hi hm => ?_, fun ht hr hs hd => ?_⟩
    · have e : exec (.forwardStep t) s = .next (s1.forwardStep a d) := by
        show execForwardStep t s = _
        unfold execForwardStep
        dsimp only
        rw [show (s.enter t).time.step = some (.forward a d) from h]
        dsimp only
        rw [if_pos ⟨ha, ht, hr⟩]
        exact if_pos hm
      obtain ⟨h1, h2, h3, h4, h5, h6, h7⟩ := s1.forwardStep_steps a d w
      exact ⟨_, e, h1, ⟨h2, h3, h4⟩, h5, h6, h7⟩
    · have e : exec (.backwardStep t) s = .next (s1.backwardStep d) := by
        show execBackwardStep t s = _
        unfold execBackwardStep
        dsimp only
        rw [show (s.enter t).time.step = some (.backward d) from h]
        exact if_pos ⟨hm, hi, ht, hr⟩
      exact ⟨_, e, s1.backwardStep_steps d w⟩
    · have hsl : s1.slews = true := by
        unfold State.slews
        rw [show s1.tpll = true from ht, show s1.servoRuns = true from hr]
        have : s1.par Ix.timeSyncState 0 ≠ 0 ∨ s1.par Ix.timePpsInMode 0 = 2 := hs
        simpa using this
      refine ⟨_, if_pos ⟨hsl, decide_eq_true hd⟩, rfl, rfl, fun h => s1.slewNext_apart h, par_setPar_self _ _ _ _ w⟩

end Sys2Proof.Machine
end

section
/-! SUPPORT. PPS_OUT, PPS_IN and the calibration of the TDCs (R32 to R38, R53, R55, R56). -/
namespace Sys2Proof.Machine

/-! ### Edge paths -/

@[simp] theorem State.edgeOf_setEdge (s : State) (n : Nat) (e : EdgeSt) : (s.setEdge n e).edgeOf n = e := by
  unfold State.edgeOf State.setEdge
  rw [tget, tfind_tset, if_pos rfl]
  rfl

/-- An operation that leaves the edge paths. -/
theorem State.edgeOf_same {m : Nat} {s t : State} (h : Same m s t) (hb : m.testBit 7 = false) (n : Nat) : t.edgeOf n = s.edgeOf n := by
  unfold State.edgeOf
  rw [h.edge hb]

/-- A crossing outside a blind interval is stamped, and opens one (R37). -/
theorem State.crossing_stamps (s : State) (n t lv : Nat)
    (h : (s.edgeOf n).blind = none ∨ ∃ f, (s.edgeOf n).blind = some f ∧ s.blindEnd f ≤ t) :
    ((s.crossing n t lv).edgeOf n).input = lv ∧ ((s.crossing n t lv).edgeOf n).blind = some t
      ∧ (s.crossing n t lv).dict = s.dict := by
  unfold State.crossing
  extract_lets +onlyGivenNames -merge e
  rcases h with h | ⟨f, h, hf⟩
  · rw [show e.blind = none from h]
    dsimp only
    rw [State.edgeOf_setEdge]
    exact ⟨rfl, rfl, rfl⟩
  · rw [show e.blind = some f from h]
    dsimp only
    rw [if_neg (Nat.not_lt.mpr hf), State.edgeOf_setEdge]
    refine ⟨rfl, rfl, ?_⟩
    show (if s.blindEnd f < t then s.resample n f else s).dict = s.dict
    split
    · exact (State.resample_same ..).dict rfl
    · rfl

/-- A crossing inside a blind interval is only counted (R37). -/
theorem State.crossing_blind (s : State) (n t lv f : Nat) (h : (s.edgeOf n).blind = some f) (hf : t < s.blindEnd f) :
    s.crossing n t lv = (s.setEdge n { s.edgeOf n with input := lv }).cnt Ix.timeDpLost n := by
  unfold State.crossing
  extract_lets e
  rw [show e.blind = some f from h]
  exact if_pos hf

theorem State.inputMoved_edge (s : State) (n old t : Nat) :
    ((s.inputMoved n old t).edgeOf n).input = (s.edgeOf n).input ∧ ((s.inputMoved n old t).edgeOf n).blind = (s.edgeOf n).blind
      ∧ ((s.inputMoved n old t).edgeOf n).edges = (s.edgeOf n).edges := by
  unfold State.inputMoved
  extract_lets e
  split
  · exact ⟨rfl, rfl, rfl⟩
  · rw [State.edgeOf_setEdge]
    exact ⟨rfl, rfl, rfl⟩

/-! ### PPS_IN -/

/-- A stamped rising edge of PPS_IN up to the load that may wait for it (R56). -/
theorem State.ppsRise_stamps (s : State) (t : Nat)
    (h : (s.edgeOf 200).blind = none ∨ ∃ f, (s.edgeOf 200).blind = some f ∧ s.blindEnd f ≤ t) :
    ∃ u, (s.ppsRise t = match s.time.load with
        | some l => if l.mode = 2 then u.loadEffect t (l.value / 256 * 256 + t % 256 + (s.now - t)) else u
        | none => u)
      ∧ u.dict = (s.setPar Ix.timePpsInLast 0 (t % 2 ^ 72)).dict ∧ (u.edgeOf 200).input = 1 ∧ (u.edgeOf 200).blind = some t
      ∧ u.now = s.now ∧ u.cw = s.cw := by
  unfold State.ppsRise
  extract_lets +onlyGivenNames -merge lost s1 s2 s3
  obtain ⟨h1, h2, h3⟩ : (s1.edgeOf 200).input = 1 ∧ (s1.edgeOf 200).blind = some t ∧ s1.dict = s.dict := s.crossing_stamps 200 t 1 h
  have hl : lost = false := by
    unfold lost
    rcases h with h | ⟨f, h, hf⟩
    · rw [h]
    · rw [h]
      exact decide_eq_false (Nat.not_lt.mpr hf)
  rw [if_neg (by rw [hl]; decide)]
  have f1 : Same mask87 s s1 := State.crossing_same ..
  have n1 : s1.now = s.now := f1.now rfl
  have l1 : s1.time = s.time := f1.time rfl
  have c1 : s1.cw = s.cw := f1.cw rfl
  clear_value s1
  have f3 : Same 0x44 s2 s3 := by
    unfold s3
    split
    · exact Same.join (State.draw_same s2) (State.decideStep_same ..)
    · exact Same.refl _ _
  have l3 : s3.time.load = s.time.load := by
    rw [← l1]
    unfold s3
    split
    · unfold State.decideStep
      extract_lets mode
      split
      · rfl
      · split
        · split <;> rfl
        · split <;> rfl
    · rfl
  refine ⟨s3, ?_, ?_, ?_, ?_, ?_, ?_⟩
  · rw [l3, show s3.now = s.now from (f3.now rfl).trans n1] <;> rfl
  · rw [f3.dict rfl]
    show (State.setVal s1 _ _).dict = (State.setVal s _ _).dict
    unfold State.setVal
    rw [h3]
  · rw [State.edgeOf_same f3 rfl]
    exact h1
  · rw [State.edgeOf_same f3 rfl]
    exact h2
  · exact (f3.now rfl).trans n1
  · exact (f3.cw rfl).trans c1

/-- The commands on the rails of PPS_IN: a rising edge while its TDC runs. -/
theorem State.edgeIn_rise (s : State) (base code : Nat) (hi : (s.edgeOf 200).input = 0) (hr : s.tdcRuns 200 = true) :
    s.edgeIn 200 base code 1 = s.ppsRise (s.stampOf 200 base code) := by
  unfold State.edgeIn
  rw [if_neg (by rw [hi]; decide), if_neg (by rw [hr]; decide)]
  rfl

theorem State.tdcRuns_pps (s : State) (ht : s.tpll = true) (h : s.par Ix.timePpsInMode 0 ≠ 0 ∨ s.ppsLoad = true) :
    s.tdcRuns 200 = true := by
  unfold State.tdcRuns
  rw [ht, Bool.true_and, if_pos rfl]
  simpa using h

theorem State.idle_of_pars {s t : State} (h : ∀ n, t.par Ix.streamState n = s.par Ix.streamState n)
    (g : ∀ n, t.par Ix.keyEnable n = s.par Ix.keyEnable n) : t.anyStream = s.anyStream ∧ t.anySeq = s.anySeq := by
  unfold State.anyStream State.anySeq
  simp only [h, g, and_self]

/-- Settles O23: the edges of PPS_OUT from `State.ppsEdge`, the edge of PPS_IN by what it leaves before a load. -/
theorem ppsOutAndIn : Obligations.PpsOutAndIn := by
  intro s t f base code l inv
  obtain ⟨-, w, -⟩ := inv
  intro s1 p stamp wd period gap e running rises latched
  have out : s.tpll = true → p.running = true → exec (.ppsOutEdge t) s = .next (s1.ppsEdge s1.now) := fun h1 h2 => if_pos ⟨h1, h2⟩
  have rise : e.input = 0 → running → exec (.ppsInEdge t base code) s = .next ((s1.ppsRise stamp).inputMoved 200 (s1.edgeOf 200).input t) := by
    rintro hi ⟨ht, hm⟩
    show Host.Outcome.next ((s1.edgeIn 200 base code 1).inputMoved 200 (s1.edgeOf 200).input t) = _
    rw [s1.edgeIn_rise base code hi (s1.tdcRuns_pps ht hm)]
  have blind : ∀ {P : Prop}, rises → (((s1.edgeOf 200).blind = none ∨ ∃ f, (s1.edgeOf 200).blind = some f ∧ s1.blindEnd f ≤ stamp) → P) → P :=
    fun h g => g (h.2.2.imp id (fun x => ⟨f, x⟩))
  refine ⟨fun h1 h2 h3 h4 h5 => ?_, fun h1 h2 h3 h4 => ?_, fun h hl => ?_, fun h hl hm ha hq hc => ?_, fun hi hr hb hs => ?_⟩
  · refine ⟨_, out h1 h2, ?_⟩
    have ex : s1.ppsEdge s1.now = { s1 with time := { s1.time with pps := { s1.ppsLatch p with
        high := decide (wd * 256 ≠ 0)
        fallAt := if wd * 256 = 0 ∨ (s1.ppsLatch p).next s1.now ≤ s1.now + wd * 256 then none else some (s1.now + wd * 256)
        after := none } } } := by
      unfold State.ppsEdge
      extract_lets q
      rw [show q.fallAt = none from h3]
      exact if_neg (not_or.mpr ⟨Decidable.not_not.mpr h4, h5⟩)
    rw [ex]
    refine ⟨⟨rfl, rfl⟩, rfl, ?_, ?_⟩
    · exact decide_eq_decide.mpr (by omega)
    · have hn : (s1.ppsLatch p).next s1.now = s1.now + gap := by
        show s1.now + 1 + _ = s1.now + (1 + _)
        rw [Nat.add_assoc]
        rfl
      show (if wd * 256 = 0 ∨ (s1.ppsLatch p).next s1.now ≤ s1.now + wd * 256 then none else some (s1.now + wd * 256)) = _
      rw [hn, Nat.mul_comm wd 256]
      exact ite_congr (propext (or_congr (by omega) (by omega))) (fun _ => rfl) (fun _ => rfl)
  · refine ⟨_, out h1 h2, ?_⟩
    have ex : s1.ppsEdge s1.now = { s1 with time := { s1.time with pps := { s1.ppsLatch p with high := false, fallAt := none } } } := by
      unfold State.ppsEdge
      extract_lets q
      rw [show q.fallAt = some f from h3]
      exact if_pos h4
    rw [ex]
    exact ⟨⟨rfl, rfl⟩, rfl, rfl⟩
  · obtain ⟨u, hu, hd, hi, hb, hn, -⟩ := blind h (s1.ppsRise_stamps stamp)
    have eu : s1.ppsRise stamp = u := by
      rw [hu]
      rcases hl with hl | ⟨hl, hm⟩
      · rw [show s1.time.load = none from hl]
      · rw [show s1.time.load = some l from hl]
        exact if_neg hm
    obtain ⟨m1, m2, -⟩ := u.inputMoved_edge 200 (s1.edgeOf 200).input t
    have fm : Same 0x80 u (u.inputMoved 200 (s1.edgeOf 200).input t) := State.inputMoved_same ..
    refine ⟨_, eu ▸ rise h.1 h.2.1, ?_, m1.trans hi, m2.trans hb, (fm.now rfl).trans hn⟩
    exact State.Has.par (.via fm rfl (.dict (.written s1 w) hd))
  · obtain ⟨u, hu, hd, hi, hb, hn, hcw⟩ := blind h (s1.ppsRise_stamps stamp)
    have hs : u.Has Ix.timePpsInLast 0 (stamp % 2 ^ 72) := .dict (.written s1 w) hd
    have keep : ∀ {ix}, ix ≠ Ix.timePpsInLast → ∀ n, u.par ix n = s.par ix n := fun e n =>
      State.Has.par (.dict (.setPar (.start (s := s1) w) e) hd)
    obtain ⟨i1, i2⟩ := State.idle_of_pars (keep (by decide)) (keep (by decide))
    have eu : s1.ppsRise stamp = u.loadTime ((l.value / 256 * 256 + stamp % 256 + (s1.now - stamp)) % 4722366482869645213696) := by
      rw [hu, show s1.time.load = some l from hl]
      dsimp only
      rw [if_pos hm, State.loadEffect, if_neg]
      rw [i1, i2, ha, hq, u.enableDue_none stamp (hcw ▸ hc)]
      decide
    obtain ⟨t1, t2, t3, -⟩ := u.loadTime_loads ((l.value / 256 * 256 + stamp % 256 + (s1.now - stamp)) % 4722366482869645213696) hs.wf
    have hr := rise h.1 h.2.1
    rw [eu] at hr
    have fl := u.loadTime_same ((l.value / 256 * 256 + stamp % 256 + (s1.now - stamp)) % 4722366482869645213696)
    have e72 : (2 : Nat) ^ 72 = 4722366482869645213696 := by decide
    rw [e72] at hs ⊢
    generalize u.loadTime ((l.value / 256 * 256 + stamp % 256 + (s1.now - stamp)) % 4722366482869645213696) = x at hr t1 t2 t3 fl
    have fm : Same 0x80 x (x.inputMoved 200 (s1.edgeOf 200).input t) := State.inputMoved_same ..
    refine ⟨_, hr, (hs.same fl rfl |>.same fm rfl).par, ?_, ?_, (fm.now rfl).trans t1⟩
    · exact (fm.pars (fl.dictWf hs.wf) _ _ rfl).trans t3
    · rw [fm.time rfl]
      exact t2
  · have hc := s1.crossing_blind 200 stamp 1 f hb hs
    let x := (s1.setEdge 200 { s1.edgeOf 200 with input := 1 }).cnt Ix.timeDpLost 200
    have ex : s1.ppsRise stamp = x := by
      unfold State.ppsRise
      extract_lets +onlyGivenNames -merge lost y
      rw [show y = x from hc]
      refine if_pos ?_
      unfold lost
      rw [show (s1.edgeOf 200).blind = some f from hb]
      exact decide_eq_true hs
    have hr' := rise hi hr
    rw [ex] at hr'
    have fm : Same 0x80 x (x.inputMoved 200 (s1.edgeOf 200).input t) := State.inputMoved_same ..
    have fx : Same allRegs (s1.setEdge 200 { s1.edgeOf 200 with input := 1 }) x := State.cnt_frame ..
    have wx : Dict.wf (s1.setEdge 200 { s1.edgeOf 200 with input := 1 }).dict := w
    refine ⟨_, hr', ?_, (fm.now rfl).trans (fx.now rfl), ?_, ?_⟩
    · exact State.Has.par (.via fm rfl (.cnt ⟨wx, rfl⟩ (by decide)))
    · rw [(x.inputMoved_edge 200 (s1.edgeOf 200).input t).2.2, State.edgeOf_same fx rfl, State.edgeOf_setEdge]
      rfl
    · exact State.Has.par (.via fm rfl (.counted ⟨wx, rfl⟩ (by decide)))

end Sys2Proof.Machine
end

section
/-! SUPPORT. The measurement of the clocks and the tables of the TDCs (R32, R34, R35, R38). -/
namespace Sys2Proof.Machine

/-! ### Tables of a TDC -/

theorem prefixSums_getElem? (l : List Nat) : ∀ (a c : Nat), c < l.length → (prefixSums a l)[c]? = some (a + (l.take c).sum) := by
  induction l with
  | nil => exact fun a c h => absurd h (Nat.not_lt_zero c)
  | cons n l ih =>
    intro a c h
    cases c with
    | zero => rfl
    | succ c =>
      rw [prefixSums, List.getElem?_cons_succ, ih (a + n) c (Nat.lt_of_succ_lt_succ h), List.take_succ_cons, List.sum_cons,
        Nat.add_assoc]

/-- The calibrated position of a code: the widths before it and half its own (R32). -/
theorem calTable_getElem? (counts : List Nat) (c : Nat) (h : c < counts.length) (hs : 0 < counts.sum) :
    (calTable counts)[c]? = some ((2 * (counts.take c).sum + counts.getD c 0) * 4194304 / counts.sum) := by
  unfold calTable
  extract_lets total
  have z : (counts.zip (prefixSums 0 counts))[c]? = some (counts.getD c 0, (counts.take c).sum) := by
    refine List.getElem?_zip_eq_some.mpr ⟨?_, ?_⟩
    · rw [List.getD_eq_getElem?_getD, List.getElem?_eq_getElem h, Option.getD_some]
    · rw [prefixSums_getElem? counts 0 c h, Nat.zero_add]
  rw [List.getElem?_map, z]
  exact congrArg some (if_neg (Nat.ne_of_gt hs))

/-- A table moves by at most a quarter tick an entry (R34). -/
theorem moveTable_getElem? (old new : List Nat) (c : Nat) (ho : c < old.length) (hn : c < new.length) :
    (moveTable old new)[c]? = some (max (old.getD c 0 - 8192) (min (old.getD c 0 + 8192) (new.getD c 0))) := by
  unfold moveTable
  rw [List.getElem?_zipWith, List.getElem?_eq_getElem ho, List.getElem?_eq_getElem hn, List.getD_eq_getElem?_getD, List.getD_eq_getElem?_getD,
    List.getElem?_eq_getElem ho, List.getElem?_eq_getElem hn, Option.getD_some, Option.getD_some]
  refine congrArg some ?_
  split
  · omega
  · split <;> omega

/-! ### Trims -/

theorem State.sourceReady_xb (s : State) : s.sourceReady 1 = bit (s.par Ix.clkReady 0) 1 := Bool.false_or _
theorem State.sourceReady_fro (s : State) : s.sourceReady 2 = bit (s.par Ix.clkReady 0) 2 := Bool.false_or _

theorem State.measureDue_of (s : State) (h1 : s.time.froAt ≠ some s.now) (h2 : s.tpll = true → s.now % 2 ^ 38 = 0)
    (h3 : s.tpll = false → s.now % 2 ^ 38 * 65536 < s.slowPeriod) : s.measureDue = true := by
  unfold State.measureDue
  have e38 : (2 : Nat) ^ 38 = 274877906944 := by decide
  rw [e38] at h2 h3
  rw [decide_eq_true h1, Bool.true_and]
  cases ht : s.tpll with
  | true => exact decide_eq_true (h2 ht)
  | false => exact decide_eq_true (h3 ht)

/-- The measurement against the reference (R38). -/
theorem State.measured_fine (s : State) (fro xb sro : Int) (w : Dict.wf s.dict) (hq : s.time.quality = .fine) :
    (s.measured fro xb sro).par Ix.timeSroTrim 0 = ofI32 sro
      ∧ (s.sourceReady 1 = true → (s.measured fro xb sro).par Ix.timeXbTrim 0 = ofI32 xb)
      ∧ (s.measured fro xb sro).time.fro = (if s.sourceReady 2 then fro else s.time.fro) ∧ (s.measured fro xb sro).now = s.now := by
  unfold State.measured
  extract_lets +onlyGivenNames -merge ready _ s1 _ s2 s3
  rw [if_pos (show s1.time.quality = .fine from hq)]
  have h2 : s2.dict = s.dict ∧ s2.time.fro = (if s.sourceReady 2 then fro else s.time.fro) ∧ s2.now = s.now := by
    rw [State.sourceReady_fro]
    unfold s2
    split
    · exact ⟨rfl, rfl, rfl⟩
    · exact ⟨rfl, rfl, rfl⟩
  obtain ⟨d2, f2, n2⟩ := h2
  clear_value s2
  have w2 : Dict.wf s2.dict := d2 ▸ w
  have h3 : Dict.wf s3.dict ∧ (s.sourceReady 1 = true → s3.Has Ix.timeXbTrim 0 (ofI32 xb)) ∧ s3.time.fro = s2.time.fro ∧ s3.now = s2.now := by
    rw [State.sourceReady_xb]
    unfold s3
    split
    · exact ⟨dictWf_setPar _ _ _ _ w2, fun _ => .dict (.written s2 w2) rfl, rfl, rfl⟩
    · next h => exact ⟨w2, fun g => absurd g h, rfl, rfl⟩
  obtain ⟨w3, x3, f3, n3⟩ := h3
  clear_value s3
  exact ⟨State.Has.par (.dict (.written (ix := Ix.timeSroTrim) s3 w3) rfl), fun h => State.Has.par (.dict (.setPar (jx := Ix.timeSroTrim) (x3 h) (by decide)) rfl),
    f3.trans f2, n3.trans n2⟩

/-- Settles O24: the measurement from `State.measured`, the tables entry by entry. -/
theorem tdcTables : Obligations.TdcTables := by
  intro s t fro xb sro src counts old new c inv
  obtain ⟨-, w, -⟩ := inv
  intro s1 due updates
  have measure : due → exec (.froMeasurement t fro xb sro) s = .next (s1.measured fro xb sro) :=
    fun h => if_pos (s1.measureDue_of h.1 h.2.1 h.2.2)
  have update : updates → exec (.tdcTableUpdate t) s
      = .next { s1.tableUpdate with time := { s1.tableUpdate.time with tableAt := some s1.now } } := by
    have e38 : (2 : Nat) ^ 38 = 274877906944 := by decide
    rintro ⟨h1, h2, h3⟩
    rw [e38] at h2
    exact if_pos ⟨h1, h2, h3⟩
  refine ⟨fun h hq => ⟨_, measure h, s1.measured_fine fro xb sro w hq⟩, fun h hq hx => ⟨_, measure h, ?_⟩, fun hc hl hs => ?_,
    fun h hn hf ho lo ln => ⟨_, update h, ?_⟩, fun h hn hf => ⟨_, update h, ?_⟩⟩
  · have e : s1.measured fro xb sro = ({ s1 with time := { s1.time with froAt := some s1.now } } : State).setTrim false sro := by
      unfold State.measured
      rw [s.sourceReady_xb] at hx
      exact (if_neg hq).trans (if_pos hx)
    rw [e]
    refine ⟨State.Has.par (.dict (.written (ix := Ix.timeSroTrim) s1 w) rfl), ?_, rfl, rfl⟩
    exact State.Has.par (.dict (.setPar (jx := Ix.timeSroTrim) (.start (s := s1) (ix := Ix.timeXbTrim) w) (by decide)) rfl)
  · refine ⟨_, if_pos ⟨hc, hl⟩, calTable counts, ?_, calTable_getElem? counts c (Nat.lt_of_lt_of_eq c.isLt hl.symm) hs, rfl⟩
    show tfind (tset s.time.newTables src (calTable counts)) src = _
    rw [tfind_tset, if_pos rfl]
  · have e : s1.tableUpdate = { s1 with time := { s1.time with tables := tset s1.time.tables src (moveTable old new) } } := by
      unfold State.tableUpdate
      rw [show s1.time.newTables = [(src.val, new)] from hn, List.foldl_cons, List.foldl_nil]
      dsimp only
      rw [show s1.par Ix.timeTdcCalFreeze src = 0 from hf, if_neg (by decide), show tfind s1.time.tables src = some old from ho]
      rfl
    refine ⟨moveTable old new, ?_, moveTable_getElem? old new c (Nat.lt_of_lt_of_eq c.isLt lo.symm) (Nat.lt_of_lt_of_eq c.isLt ln.symm)⟩
    rw [e]
    show tfind (tset s.time.tables src (moveTable old new)) src = _
    rw [tfind_tset, if_pos rfl]
  · have e : s1.tableUpdate = s1 := by
      unfold State.tableUpdate
      rw [show s1.time.newTables = [(src.val, new)] from hn, List.foldl_cons, List.foldl_nil]
      exact if_pos hf
    rw [e]
    rfl

end Sys2Proof.Machine
end

section
/-! SUPPORT. PTP and ESMC (R41, R42, R44, R45). -/
namespace Sys2Proof.Machine

/-! ### The servo -/

theorem State.syncTo_state (s : State) (n : Nat) (w : Dict.wf s.dict) : (s.syncTo n).Has Ix.timeSyncState 0 n := by
  unfold State.syncTo
  extract_lets old
  split
  · next h => exact ⟨w, h⟩
  · exact .via (State.emit_same ..) rfl (.written s w)

theorem State.decideStep_inWindow (s : State) (off : Int) : (s.decideStep off).time.inWindow = s.time.inWindow := by
  unfold State.decideStep
  extract_lets mode
  split
  · rfl
  · split
    · split <;> rfl
    · split <;> rfl

/-- The count of offsets in the lock window decides the servo's state; the offset stays. -/
theorem State.servo_locks (s : State) (n v : Nat) (off : Int) (o : s.Has Ix.timeOffset 0 v) (hn : s.time.inWindow = n) :
    ((s.syncTo (if 16 ≤ n then 2 else 1)).decideStep off).par Ix.timeOffset 0 = v
      ∧ ((s.syncTo (if 16 ≤ n then 2 else 1)).decideStep off).time.inWindow = n
      ∧ ((s.syncTo (if 16 ≤ n then 2 else 1)).decideStep off).par Ix.timeSyncState 0 = if 16 ≤ n then 2 else 1 := by
  have o1 := o.same (State.syncTo_same s (if 16 ≤ n then 2 else 1)) rfl
  have y1 := s.syncTo_state (if 16 ≤ n then 2 else 1) o.wf
  have n1 := (congrArg TimeSt.inWindow ((State.syncTo_same s (if 16 ≤ n then 2 else 1)).time rfl)).trans hn
  exact ⟨(o1.same (State.decideStep_same _ off) rfl).par, (State.decideStep_inWindow ..).trans n1,
    (y1.same (State.decideStep_same _ off) rfl).par⟩

/-- The servo takes a filtered offset: sixteen in the lock window lock it (R45). -/
theorem State.servo_takes (s : State) (off : Int) (w : Dict.wf s.dict) :
    (s.servo off).par Ix.timeOffset 0 = ofI32 (clampI (-2147483648) 2147483647 off)
      ∧ (s.servo off).time.inWindow = (if off.natAbs ≤ s.par Ix.timeLockWindow 0 then s.time.inWindow + 1 else 0)
      ∧ (s.servo off).par Ix.timeSyncState 0 = if 16 ≤ (s.servo off).time.inWindow then 2 else 1 := by
  have o1 : (s.setPar Ix.timeOffset 0 (ofI32 (clampI (-2147483648) 2147483647 off))).Has Ix.timeOffset 0 _ := .written s w
  have l1 : (s.setPar Ix.timeOffset 0 (ofI32 (clampI (-2147483648) 2147483647 off))).par Ix.timeLockWindow 0
      = s.par Ix.timeLockWindow 0 := State.Has.par (.setPar (.start w) (by decide))
  obtain ⟨a, b, c⟩ := State.servo_locks
    { s.setPar Ix.timeOffset 0 (ofI32 (clampI (-2147483648) 2147483647 off)) with
      time := { s.time with inWindow :=
        (if off.natAbs ≤ (s.setPar Ix.timeOffset 0 (ofI32 (clampI (-2147483648) 2147483647 off))).par Ix.timeLockWindow 0
          then s.time.inWindow + 1 else 0) } }
    _ _ off (.dict o1 rfl) rfl
  rw [← l1]
  exact ⟨a, b, c.trans (congrArg (fun n => if 16 ≤ n then 2 else 1) b.symm)⟩

/-! ### Messages -/

theorem State.ptpMessageRx_take (s : State) (t : Nat) (port : Fin 2) (m : PtpMsg) (hp : s.portUp port = true) (hf : ptpFails m = none)
    (hd : m.domain = s.par Ix.ptpDomain 0) (hk : m.kind = 0 ∨ m.kind = 8) :
    exec (.ptpMessageRx t port m) s = .next ((s.enter t).ptpTake port (s.enter t).now m) := by
  have hu : (s.enter t).profileUses m.kind = true := by rcases hk with h | h <;> rw [h] <;> rfl
  refine (if_pos hp).trans (congrArg Host.Outcome.next ?_)
  unfold State.ptpReceive
  rw [hf]
  exact if_pos ⟨hd, hu⟩

/-- A message of a kind that carries timestamps is stamped where it arrives. -/
theorem State.ptpTake_stamps (s : State) (port t : Nat) (m : PtpMsg) (hk : m.kind = 0) (h2 : m.twoStep = true) :
    s.ptpTake port t m = { s with time := { s.time with ptpRx := tset s.time.ptpRx (16 * port + m.kind) (s.ptpRxStamp port t) } } := by
  have e : ptpEvent m.kind = true := by rw [hk]; rfl
  unfold State.ptpTake
  rw [if_neg (show ¬ m.kind = 11 by omega), if_pos e]
  exact if_neg (fun g => by rw [hk, h2] at g; exact absurd g.1 (by decide))

theorem State.ptpTake_sync (s : State) (port t : Nat) (m : PtpMsg) (x : State)
    (hx : x = { s with time := { s.time with ptpRx := tset s.time.ptpRx (16 * port + m.kind) (s.ptpRxStamp port t) } })
    (hk : m.kind = 0) (h2 : m.twoStep = false) (hf : x.ptpFollows port = true) (hr : x.servoRuns = true) :
    s.ptpTake port t m = x.draw.servo (x.ptpOffset port) := by
  have e : ptpEvent m.kind = true := by rw [hk]; rfl
  unfold State.ptpTake
  rw [if_neg (show ¬ m.kind = 11 by omega), if_pos e, ← hx]
  exact if_pos ⟨.inr ⟨hk, by rw [h2]; rfl⟩, hf, hr⟩

theorem State.ptpTake_followUp (s : State) (port t : Nat) (m : PtpMsg) (hk : m.kind = 8)
    (hf : s.ptpFollows port = true) (hr : s.servoRuns = true) : s.ptpTake port t m = s.draw.servo (s.ptpOffset port) := by
  have e : ¬ ptpEvent m.kind = true := by rw [hk]; decide
  unfold State.ptpTake
  rw [if_neg (show ¬ m.kind = 11 by omega), if_neg e]
  exact if_pos ⟨.inl hk, hf, hr⟩

theorem State.profileUses_sync (s : State) : s.profileUses 0 = true := rfl

theorem State.ptpSend_sync (s : State) (port t : Nat) : s.ptpSend port 0 t =
    if s.par Ix.ptpTwoStep 0 = 1 then
      (({ s with time := { s.time with ptpTx := tset s.time.ptpTx (16 * port + 0) (s.ptpTxStamp port t) } } : State).ptpOut port 0
        none).ptpOut port 8 (some (s.ptpTxStamp port t))
    else ({ s with time := { s.time with ptpTx := tset s.time.ptpTx (16 * port + 0) (s.ptpTxStamp port t) } } : State).ptpOut port 0
      (some (s.ptpTxStamp port t)) := by
  unfold State.ptpSend
  rw [s.profileUses_sync, if_neg (show ¬ (!true) = true by decide), if_neg (show ¬ (!ptpEvent 0) = true by decide)]
  rfl

theorem State.ptpSend_request (s : State) (port t : Nat) (h : s.par Ix.ptpProfile 0 ≠ 1) : s.ptpSend port 1 t =
    ({ s with time := { s.time with ptpTx := tset s.time.ptpTx (16 * port + 1) (s.ptpTxStamp port t) } } : State).ptpOut port 1
      none := by
  have u : s.profileUses 1 = true := by
    unfold State.profileUses
    rw [decide_eq_false h]
    rfl
  unfold State.ptpSend
  rw [u, if_neg (show ¬ (!true) = true by decide), if_neg (show ¬ (!ptpEvent 1) = true by decide)]
  rfl

/-- The peer delay messages belong to profile 1 alone. -/
theorem State.ptpSend_unused (s : State) (port kind t : Nat) (h : s.par Ix.ptpProfile 0 ≠ 1)
    (hk : kind = 2 ∨ kind = 3 ∨ kind = 10) : s.ptpSend port kind t = s := by
  have u : s.profileUses kind = false := by
    unfold State.profileUses
    rw [if_pos hk]
    exact decide_eq_false h
  unfold State.ptpSend
  rw [u]
  rfl

/-- A master that is lost leaves the servo in NET_HOLDOVER (R44). -/
theorem State.setMaster_lost (s : State) (w : Dict.wf s.dict) (h : s.time.master = true) (he : s.par Ix.timeServoEnable 0 = 1) :
    (s.setMaster false true).par Ix.timeSyncState 0 = 3 ∧ (s.setMaster false true).time.master = false
      ∧ (s.setMaster false true).time.inWindow = 0 := by
  have e : s.setMaster false true
      = ({ s with time := { s.time with master := false, inWindow := 0 } } : State).syncTo 3 := by
    unfold State.setMaster
    rw [if_neg (show ¬ s.time.master = false by rw [h]; decide)]
    exact if_neg (show ¬ s.par Ix.timeServoEnable 0 = 0 by rw [he]; decide)
  rw [e]
  have t := (State.syncTo_same ({ s with time := { s.time with master := false, inWindow := 0 } } : State) 3).time rfl
  exact ⟨(State.syncTo_state ({ s with time := { s.time with master := false, inWindow := 0 } } : State) 3 w).par, by rw [t], by rw [t]⟩

theorem State.ptpFollows_of (s : State) (port : Nat) (h : 8 ≤ s.par Ix.ptpPortState port) : s.ptpFollows port = true :=
  decide_eq_true h

theorem State.servoRuns_of (s : State) (h : s.par Ix.timeServoEnable 0 = 1) (g : s.time.load = none) : s.servoRuns = true := by
  unfold State.servoRuns
  rw [h, g]
  rfl

/-- Settles O25: each message from its definition, and the servo's offset by `State.servo_takes`. -/
theorem ptpAndEsmc : Obligations.PtpAndEsmc := by
  intro s t port kind m inv
  obtain ⟨-, w, -⟩ := inv
  intro s1 rx tx request offset follows servo message
  have send : s.portUp port = true → exec (.ptpMessageSend t port kind) s = .next (s1.ptpSend port kind s1.now) := fun h => if_pos h
  have esmc : s.canSend port = true → exec (.esmcPduSend t port) s = match s.clk.ref with
      | some .xa => .next (s1.send (.esmc port (s1.par Ix.synceQlXa 0)))
      | some .eth0 => .next (s1.send (.esmc port (s1.par Ix.synceQlRx 0)))
      | some .eth1 => .next (s1.send (.esmc port (s1.par Ix.synceQlRx 1)))
      | some .fro => .next (s1.draw.send (.esmc port (Config.freeNat s1.fresh % 16)))
      | none => .next (s1.draw.send (.esmc port (Config.freeNat s1.fresh % 16))) := fun h => (if_pos h).trans rfl
  have ready : ∀ x : TimeSt, follows → x.load = none → ({ s1 with time := x } : State).ptpFollows port = true
      ∧ ({ s1 with time := x } : State).servoRuns = true := fun x h hx =>
    ⟨State.ptpFollows_of _ _ h.2.1, State.servoRuns_of _ h.2.2.1 hx⟩
  refine ⟨fun hp hf hd => ?_, fun h hk h2 => ?_, fun h hk h2 => ?_, fun h hk => ?_, fun hp hk => ?_, fun hp hr hk => ?_,
    fun hp hr hk => ?_, fun he hs hm => ?_, fun hc hr => ?_, fun hc hr => ?_⟩
  · have e : exec (.ptpMessageRx t port m) s = .next s1 := by
      refine (if_pos hp).trans (congrArg Host.Outcome.next ?_)
      unfold State.ptpReceive
      rw [hf]
      exact if_neg (fun g => hd g.1)
    exact ⟨_, e, rfl, rfl⟩
  · have e := s.ptpMessageRx_take t port m h.1 h.2.2.2.2.1 h.2.2.2.2.2 (.inl hk)
    let x : State := { s1 with time := { s1.time with ptpRx := tset s1.time.ptpRx (16 * port.val + m.kind) rx } }
    obtain ⟨r1, r2⟩ := ready x.time h h.2.2.2.1
    have ex : s1.ptpTake port s1.now m = x.draw.servo (x.ptpOffset port) := s1.ptpTake_sync port s1.now m x rfl hk h2 r1 r2
    have eo : x.ptpOffset port = offset rx := by
      have : tget 0 x.time.ptpRx (16 * port.val) = rx := by
        show tget 0 (tset s1.time.ptpRx (16 * port.val + m.kind) rx) _ = _
        rw [hk, tget, tfind_tset, if_pos (Nat.add_zero _).symm]
        rfl
      unfold State.ptpOffset
      rw [this]
      rfl
    rw [ex, eo] at e
    exact ⟨_, e, x.draw.servo_takes (offset rx) w⟩
  · have e := s.ptpMessageRx_take t port m h.1 h.2.2.2.2.1 h.2.2.2.2.2 (.inl hk)
    rw [s1.ptpTake_stamps port s1.now m hk h2] at e
    refine ⟨_, e, ?_, rfl⟩
    show tget 0 (tset s1.time.ptpRx (16 * port.val + m.kind) rx) _ = _
    rw [hk, tget, tfind_tset, if_pos (Nat.add_zero _).symm]
    rfl
  · have e := s.ptpMessageRx_take t port m h.1 h.2.2.2.2.1 h.2.2.2.2.2 (.inr hk)
    obtain ⟨r1, r2⟩ := ready s1.time h h.2.2.2.1
    rw [s1.ptpTake_followUp port s1.now m hk r1 r2] at e
    exact ⟨_, e, s1.draw.servo_takes _ w⟩
  · have e := send hp
    rw [hk, s1.ptpSend_sync] at e
    refine ⟨_, e, ?_⟩
    by_cases h : s.par Ix.ptpTwoStep 0 = 1
    · rw [if_pos (show s1.par Ix.ptpTwoStep 0 = 1 from h), if_pos h]
      rfl
    · rw [if_neg (show ¬ s1.par Ix.ptpTwoStep 0 = 1 from h), if_neg h]
      rfl
  · have e := send hp
    rw [hk, s1.ptpSend_request port s1.now hr] at e
    refine ⟨_, e, rfl, ?_⟩
    show tget 0 (tset s1.time.ptpTx (16 * port.val + 1) tx) _ = _
    rw [tget, tfind_tset, if_pos rfl]
    rfl
  · have e := send hp
    rw [s1.ptpSend_unused port kind s1.now hr hk] at e
    exact ⟨_, e, rfl, rfl⟩
  · let x := s1.draw.setPar Ix.ptpPortState port (Config.freeNat s1.fresh % 8)
    have f : s1.ptpFollows (1 - port.val) = false := decide_eq_false (show ¬ 8 ≤ s.par Ix.ptpPortState (1 - port.val) by omega)
    have xe : x.Has Ix.timeServoEnable 0 1 := .setPar (he ▸ .start w) (by decide)
    have e : exec (.announceTimeout t port) s = .next (x.setMaster (s1.ptpFollows (1 - port.val)) true) := rfl
    rw [f] at e
    exact ⟨_, e, x.setMaster_lost xe.wf hm xe.par⟩
  · have e := esmc hc
    rw [hr] at e
    exact ⟨_, e, rfl⟩
  · have e := esmc hc
    rcases hr with hr | hr
    · rw [hr] at e ⊢
      exact ⟨_, e, rfl⟩
    · rw [hr] at e ⊢
      exact ⟨_, e, rfl⟩

end Sys2Proof.Machine
end

section
/-! SUPPORT. Clock sources (R394 to R397, R401, R402). -/
namespace Sys2Proof.Machine

/-! ### What the operations of the clock tree leave in `clk` -/

theorem State.froFollow_clk (s : State) : ∃ x, s.froFollow.clk = { s.clk with started := x } := by
  unfold State.froFollow
  split
  · split
    · exact ⟨_, rfl⟩
    · exact ⟨_, rfl⟩
  · split
    · exact ⟨_, rfl⟩
    · exact ⟨_, rfl⟩

theorem State.changeRef_clk (s : State) (r : Ref) : (s.changeRef r).clk = { s.clk with ref := some r } := by
  unfold State.changeRef
  split
  · next old h =>
    split
    · next e => rw [← e, ← h]
    · exact (State.emit_same ..).clk rfl
  · rfl

theorem State.wakeDone_clk (s : State) : ∃ x y, s.wakeDone.clk = { s.clk with waking := x, pending := y } := by
  unfold State.wakeDone
  split
  · extract_lets +onlyGivenNames -merge _ s1 s2 target
    have h1 : s1.clk = { s.clk with waking := false } := (State.domainsOn_same ..).clk rfl
    have h2 : s2.clk = { s.clk with waking := false } := by
      unfold s2; split
      · exact ((State.setGood_same ..).clk rfl).trans h1
      · exact h1
    have h3 : ∀ p, { s2.clk with pending := p } = { s.clk with waking := false, pending := p } := fun p => by rw [h2]
    split
    · exact ⟨_, _, h2⟩
    · exact ⟨_, _, h3 _⟩
  · exact ⟨_, _, rfl⟩

/-! ### READY -/

theorem State.Has.ready {s : State} {n : Nat} {b : Bool} {v : Nat} (h : s.Has Ix.clkReady 0 v) (hn : n ≠ 3) (e : bit v n = b) :
    s.sourceReady n = b := by
  unfold State.sourceReady
  rw [h.par, e, decide_eq_false hn, Bool.false_or]

theorem State.setReady_has (s : State) (n : Nat) (on : Bool) (w : Dict.wf s.dict) :
    (s.setReady n on).Has Ix.clkReady 0 (putBit (s.par Ix.clkReady 0) n on) := .written s w

theorem bit_putBit_self (v n : Nat) (b : Bool) : bit (putBit v n b) n = b := by rw [bit_putBit, if_pos rfl]

/-- A source that has passed its check is READY, whatever follows from it (R394). -/
theorem State.becomesReady_ready (s : State) (n xb sro : Nat) (hn : n ≠ 3) (w : Dict.wf s.dict) :
    (s.becomesReady n xb sro).sourceReady n = true := by
  refine State.Has.ready (v := putBit (s.par Ix.clkReady 0) n true) ?_ hn (bit_putBit_self ..)
  unfold State.becomesReady
  extract_lets +onlyGivenNames -merge s0 _ s1
  have h0 : s0.Has Ix.clkReady 0 (putBit (s.par Ix.clkReady 0) n true) := State.setReady_has (s.setStopped n false) n true w
  have h1 : s1.Has Ix.clkReady 0 (putBit (s.par Ix.clkReady 0) n true) := .dict h0 rfl
  split
  · exact (h1.same (State.opalFollow_same s1) rfl).same (State.redrive_same _ xb sro) rfl
  · split
    · exact h1.same (State.seekRef_same s1 true) rfl
    · split
      · exact h1.same (State.seekRef_same s1 false) rfl
      · exact h1.same (State.autoRef_same s1) rfl

/-- What a declared failure leaves: its count, its code and its time (R399). -/
structure State.Noted (s u : State) (code : Nat) : Prop where
  count : u.Has Ix.clkFailures 0 (cntNext (s.par Ix.clkFailures 0))
  last : u.Has Ix.clkLastFailure 0 (code * 2 ^ 24)
  time : u.Has Ix.clkFailureTime 0 s.now

theorem State.noteFailure_noted (s : State) (code : Nat) (w : Dict.wf s.dict) : s.Noted (s.noteFailure code) code where
  count := .setPar (.setPar (.counted (.start w) (by decide)) (by decide)) (by decide)
  last := .setPar (.written _ (dictWf_cnt _ _ _ w)) (by decide)
  time := .written _ (dictWf_setPar _ _ _ _ (dictWf_cnt _ _ _ w))

theorem State.Noted.same {s u t : State} {code m : Nat} (h : s.Noted u code) (f : Same m u t)
    (h1 : m.testBit (42 + regNo Ix.clkFailures) = false) (h2 : m.testBit (42 + regNo Ix.clkLastFailure) = false)
    (h3 : m.testBit (42 + regNo Ix.clkFailureTime) = false) : s.Noted t code :=
  ⟨h.count.same f h1, h.last.same f h2, h.time.same f h3⟩

theorem State.startSource_has (s : State) (n : Nat) (w : Dict.wf s.dict) :
    (s.startSource n).Has Ix.clkReady 0 (putBit (s.par Ix.clkReady 0) n false) := .dict (s.setReady_has n false w) rfl

/-- An oscillator whose first check fails is not READY and is started again (R394). -/
theorem State.startFails_fails (s : State) (n : Nat) (hn : n ≠ 3) (w : Dict.wf s.dict) :
    (s.startFails n).sourceReady n = false ∧ tfind (s.startFails n).clk.started n = some s.now
      ∧ s.Noted (s.startFails n) (n + 1) := by
  have n0 := s.noteFailure_noted (n + 1) w
  have now0 : (s.noteFailure (n + 1)).now = s.now := (State.noteFailure_same ..).now rfl
  unfold State.startFails
  generalize s.noteFailure (n + 1) = x at *
  have h1 := x.startSource_has n n0.count.wf
  have n1 : s.Noted (x.startSource n) (n + 1) := n0.same (State.startSource_same x n) rfl rfl rfl
  have t1 : tfind (x.startSource n).clk.started n = some s.now := now0 ▸ x.startSource_started n
  generalize x.startSource n = y at *
  dsimp only
  split
  · refine ⟨State.Has.ready (.cnt h1 (by decide)) hn (bit_putBit_self ..), ?_, ?_⟩
    · rw [(State.cnt_frame y Ix.startXaRetries 0).clk rfl]
      exact t1
    · obtain ⟨a, b, c⟩ := n1
      exact ⟨.cnt a (by decide), .cnt b (by decide), .cnt c (by decide)⟩
  · exact ⟨h1.ready hn (bit_putBit_self ..), t1, n1⟩

/-! ### SAFE_HOLD, release and return -/

/-- Entry to SAFE_HOLD (R402): Opal on SRO, time stays. -/
theorem State.safeHold_holds (s : State) (a b : Nat) (w : Dict.wf s.dict) : (s.safeHold a b).par Ix.clkFallbackState 0 = 3
    ∧ (s.safeHold a b).clk.opalXb = false ∧ (s.safeHold a b).time = s.time := by
  refine ⟨?_, ?_, (State.safeHold_same s a b).time rfl⟩
  · unfold State.safeHold
    extract_lets +onlyGivenNames -merge s1
    have h1 : s1.Has Ix.clkFallbackState 0 3 := .same (.written s w) (State.crossingReset_same ..) rfl
    clear_value s1
    exact State.Has.par (.via (State.froFollow_same ..) rfl (.dict h1 rfl))
  · unfold State.safeHold
    extract_lets +onlyGivenNames -merge s1
    obtain ⟨x, h⟩ := State.froFollow_clk { s1 with clk := { s1.clk with opalXb := false } }
    rw [h]

/-- TPLL is released onto the reference `r` (R401). -/
structure State.Released (s : State) (r : Ref) : Prop where
  locked : s.clk.locked = none
  quality : s.time.quality = if r = .fro then .holdover else .fine
  fallback : s.Has Ix.clkFallbackState 0 (if r = .fro then 1 else 0)

theorem State.Released.same {s t : State} {r : Ref} {m : Nat} (h : s.Released r) (f : Same m s t) (h1 : m.testBit 36 = false)
    (h2 : m.testBit 6 = false) (h3 : m.testBit (42 + regNo Ix.clkFallbackState) = false) : t.Released r :=
  ⟨(f.clk h1).symm ▸ h.locked, (f.time h2).symm ▸ h.quality, h.fallback.same f h3⟩

theorem State.Released.froFollow {s : State} {r : Ref} (h : s.Released r) : s.froFollow.Released r := by
  obtain ⟨x, e⟩ := s.froFollow_clk
  exact ⟨e ▸ h.locked, (s.froFollow_same.time rfl).symm ▸ h.quality, h.fallback.same s.froFollow_same rfl⟩

theorem State.Released.wakeDone {s : State} {r : Ref} (h : s.Released r) : s.wakeDone.Released r := by
  obtain ⟨x, y, e⟩ := s.wakeDone_clk
  exact ⟨e ▸ h.locked, (s.wakeDone_same.time rfl).symm ▸ h.quality, h.fallback.same s.wakeDone_same rfl⟩

theorem State.Released.opalFollow {s : State} {r : Ref} (h : s.Released r) : s.opalFollow.Released r :=
  ⟨h.locked, h.quality, .dict h.fallback rfl⟩

theorem State.Released.ite {s t : State} {r : Ref} {c : Prop} [Decidable c] (h : s.Released r) (g : t.Released r) :
    (if c then s else t).Released r := by split <;> assumption

/-- TPLL is released (R401): time is FINE, or HOLDOVER on FRO. -/
theorem State.release_released (s : State) (r : Ref) (w : Dict.wf s.dict) : (s.release r).Released r := by
  unfold State.release
  extract_lets +onlyGivenNames -merge _ s0 s1 s2 s3 s4 s5 s6
  have f1 : Same _ s0 s1 := State.domainsOn_same s0
  have k1 : s1.clk.locked = none := (congrArg ClkSt.locked (f1.clk rfl)).trans rfl
  have w1 : Dict.wf s1.dict := f1.dictWf w
  have k2 : s2.clk.locked = none ∧ Dict.wf s2.dict := by
    unfold s2
    split
    · exact ⟨k1, dictWf_setPar _ _ _ _ w1⟩
    · exact ⟨k1, w1⟩
  clear_value s2
  have h4 : s4.Released r :=
    ⟨(congrArg ClkSt.locked ((State.setQuality_same ..).clk rfl)).trans k2.1, State.setQuality_quality ..,
      .via (State.setQuality_same ..) rfl (.written s2 k2.2)⟩
  clear_value s4
  have h5 : s5.Released r := .ite ((h4.same (State.withdraw_same s4) rfl rfl rfl).same (State.releaseDue_same _ []) rfl rfl rfl)
    (h4.same (State.withdraw_same s4) rfl rfl rfl)
  have h6 : s6.Released r := h5.same (State.performLate_same ..) rfl rfl rfl
  have h7 : (if s6.merging then s6.admitLate else s6).Released r := .ite (h6.same (State.admitLate_same s6) rfl rfl rfl) h6
  exact (h7.opalFollow.froFollow.same (State.clockClear_same _) rfl rfl rfl).wakeDone

/-- TPLL leaves FRO for the reference `r` (Table 6). -/
theorem State.returnRef_returns (s : State) (r : Ref) (hr : r ≠ .fro) (w : Dict.wf s.dict) :
    (s.returnRef (some r)).par Ix.clkFallbackState 0 = 0 ∧ (s.returnRef (some r)).clk.ref = some r
      ∧ (s.returnRef (some r)).time.quality = .fine := by
  have e : s.returnRef (some r) = (((s.changeRef r).setPar Ix.clkFallbackState 0 0).setQuality .fine s.now).opalFollow.froFollow :=
    if_neg hr
  rw [e]
  have h1 : ((s.changeRef r).setPar Ix.clkFallbackState 0 0).Has Ix.clkFallbackState 0 0 :=
    .written _ ((s.changeRef_same r).dictWf w)
  have k1 : ((s.changeRef r).setPar Ix.clkFallbackState 0 0).clk.ref = some r := congrArg ClkSt.ref (s.changeRef_clk r)
  generalize (s.changeRef r).setPar Ix.clkFallbackState 0 0 = x at *
  have h2 := h1.same (x.setQuality_same .fine s.now) rfl
  have k2 : (x.setQuality .fine s.now).clk.ref = some r := (congrArg ClkSt.ref ((x.setQuality_same .fine s.now).clk rfl)).trans k1
  have q2 := x.setQuality_quality .fine s.now
  generalize x.setQuality .fine s.now = y at *
  obtain ⟨z, hz⟩ := y.opalFollow.froFollow_clk
  refine ⟨State.Has.par (.via (State.froFollow_same ..) rfl (.dict h2 rfl)), ?_, ?_⟩
  · rw [hz]
    exact k2
  · rw [(State.froFollow_same ..).time rfl]
    exact q2

/-! ### Writes that select a source -/

/-- Past the role, the number, the range and the owner only the clock tree can refuse a write. -/
theorem State.writeFails_clock (s : State) (p : Param) (ix sub v : Nat) (busy : Bool) (role : s.roleRefuses ix sub v = false)
    (ty : p.ty ≠ .f32) (range : s.inRange p ix v = true) (force : forceRange ix sub v = true)
    (own : p.acc = .rwd → s.ownerOn (ownerOf ix sub) = false) :
    s.writeFails p ix sub v busy = (s.clockRefuses ix sub v busy).map (fun x => .clock x.1 x.2) := by
  unfold State.writeFails
  rw [if_neg (by rw [role]; decide), if_neg (fun h => ty h.1), if_neg (by rw [range, force]; decide),
    if_neg (fun h => by rw [own h.1] at h; exact absurd h.2 (by decide))]

theorem State.tryWrite_refused (s : State) (mgmt : Bool) (p : Param) (ix sub v : Nat) (busy : Bool) (e : WErr)
    (h : s.writeFails p ix sub v busy = some e) : s.tryWrite mgmt p ix sub v busy = s.refuseWrite e ix sub := by
  unfold State.tryWrite
  rw [h]

/-- A value that is taken changes nothing behind its effect but the records of the change (R24). -/
theorem State.tryWrite_takes (s : State) (mgmt : Bool) (p : Param) (ix sub v : Nat) (busy : Bool)
    (h : s.writeFails p ix sub v busy = none) (ha : p.acc ≠ .wo) :
    Same mask22 ((if p.danger then s.dangerTrace ix sub else s).takeValue mgmt p ix sub v busy) (s.tryWrite mgmt p ix sub v busy) := by
  have e : s.tryWrite mgmt p ix sub v busy = s.acceptValue mgmt p ix sub v busy := by
    unfold State.tryWrite
    rw [h]
    exact if_neg ha
  rw [e]
  exact Same.ite (State.tellConfig_same ..) (Same.refl _ _)

/-- A literal bound on a value, as its row writes it. -/
theorem inBounds (v n : Nat) (h : v ≤ n) : (decide ((0 : Int) ≤ (v : Int)) && decide ((v : Int) ≤ (n : Int))) = true := by
  rw [decide_eq_true (Int.natCast_nonneg v), decide_eq_true (Int.ofNat_le.mpr h)]
  rfl

/-- The rows of the parameters that select or force a clock source. -/
def opalSrcRow : Param := ⟨Ix.clkOpalSrc, 0, 0, 0, .u8, .rwd, (.const 0), 0, 1, 2⟩
def forceSrcRow : Param := ⟨Ix.clkForceSrc, 0, 0, 1, .u8, .rw, (.const 0), 0, 4, 11⟩
def refSelectRow : Param := ⟨Ix.synceRefSelect, 0, 0, 0, .u8, .rwd, (.const 0), 0, 3, 2⟩

theorem State.sourceSelectWrite_opal (s : State) (t v : Nat) (h : v ≤ 1) :
    exec (.sourceSelectWrite t true v) s = .next ((s.enter t).tryWrite false opalSrcRow Ix.clkOpalSrc 0 v false) :=
  congrArg (fun x => Host.Outcome.next ((s.enter t).tryWrite false opalSrcRow Ix.clkOpalSrc 0 x false)) (Nat.mod_eq_of_lt (show v < 2 ^ 8 by omega))

theorem State.sourceSelectWrite_ref (s : State) (t v : Nat) (h : v ≤ 3) :
    exec (.sourceSelectWrite t false v) s = .next ((s.enter t).tryWrite false refSelectRow Ix.synceRefSelect 0 v false) :=
  congrArg (fun x => Host.Outcome.next ((s.enter t).tryWrite false refSelectRow Ix.synceRefSelect 0 x false)) (Nat.mod_eq_of_lt (show v < 2 ^ 8 by omega))

theorem State.forceSrcWrite_eq (s : State) (t v : Nat) (sub : Fin 2) (h : v ≤ 4) :
    exec (.forceSrcWrite t sub v) s = .next ((s.enter t).tryWrite false forceSrcRow Ix.clkForceSrc sub v false) := by
  have row : paramAt Ix.clkForceSrc sub = some forceSrcRow := if_pos (show 0 ≤ sub.val ∧ sub.val ≤ 1 by omega)
  have fit : forceSrcRow.fit v = v := Nat.mod_eq_of_lt (show v < 2 ^ 8 by omega)
  show execForceSrcWrite t sub v s = _
  unfold execForceSrcWrite
  rw [row]
  dsimp only
  rw [fit]

theorem State.writeFails_opalSrc (s : State) (v : Nat) (h : s.capturing = false) (hv : v ≤ 1) :
    s.writeFails opalSrcRow Ix.clkOpalSrc 0 v false
      = if (decide (v = 0) && !s.sourceReady 1) = true then some (.clock 1 (key Ix.clkOpalSrc 0)) else none := by
  rw [s.writeFails_clock opalSrcRow Ix.clkOpalSrc 0 v false rfl (by decide) (inBounds v 1 hv) rfl (fun _ => h)]
  show Option.map _ (if (decide (v = 0) && !s.sourceReady 1) = true then _ else none) = _
  split <;> rfl

theorem State.writeFails_refSelect (s : State) (v : Nat) (h : s.par Ix.timeServoEnable 0 = 0) (hv : v ≤ 3) :
    s.writeFails refSelectRow Ix.synceRefSelect 0 v false
      = if s.selectsDead Ix.synceRefSelect v = true then some (.clock 1 (key Ix.synceRefSelect 0)) else none := by
  rw [s.writeFails_clock refSelectRow Ix.synceRefSelect 0 v false rfl (by decide) (inBounds v 3 hv) rfl
    (fun _ => decide_eq_false (fun g => g h))]
  show Option.map _ (if s.selectsDead Ix.synceRefSelect v = true then _ else none) = _
  split <;> rfl

theorem State.writeFails_forceSrc (s : State) (v : Nat) (sub : Fin 2) (hv : v ≤ 2 + 2 * sub.val) :
    s.writeFails forceSrcRow Ix.clkForceSrc sub v false = none := by
  rw [s.writeFails_clock forceSrcRow Ix.clkForceSrc sub v false rfl (by decide) (inBounds v 4 (by omega)) (decide_eq_true hv)
    (fun g => nomatch g)]
  rfl

theorem State.safeHoldRetry_eq (s : State) (t : Nat) (xa : Bool) (h : s.par Ix.clkFallbackState 0 = 3)
    (g : (s.enter t).retryDue (if xa then 0 else 2) = true) :
    exec (.safeHoldRetry t xa) s = .next ((s.enter t).startSource (if xa then 0 else 2)) := if_pos ⟨h, g⟩

/-- What does not capture does not begin to as time passes. -/
theorem State.capturing_enter (s : State) (t : Nat) (h : s.capturing = false) : (s.enter t).capturing = false := by
  unfold State.capturing at h ⊢
  rw [Bool.or_eq_false_iff, decide_eq_false_iff_not, Decidable.not_not] at h ⊢
  refine ⟨h.1, ?_⟩
  have held := h.2
  unfold State.slotsHeld at held ⊢
  rw [List.length_eq_zero_iff, List.filter_eq_nil_iff] at held ⊢
  intro x hx
  have := held x hx
  rw [Bool.or_eq_true, decide_eq_true_eq, not_or] at this ⊢
  exact ⟨fun g => this.1 (Nat.lt_of_le_of_lt (now_enter s t) g), this.2⟩

/-- Without a force Opal runs on XB while that is selected and READY (R392). -/
theorem State.opalFollow_free (s : State) (h : s.par Ix.clkForceSrc 0 = 0) (g : s.par Ix.clkFallbackState 0 ≠ 3) :
    s.opalFollow.clk.opalXb = (decide (s.par Ix.clkOpalSrc 0 = 0) && s.sourceReady 1) := by
  unfold State.opalFollow
  rw [h, decide_eq_true g, Bool.and_true]
  rfl

theorem State.opalFollow_forced (s : State) (v : Nat) (h : s.par Ix.clkForceSrc 0 = v) (h0 : v ≠ 0) (h2 : v ≤ 2) :
    s.opalFollow.clk.opalXb = decide (v = 2) := by
  have : v = 1 ∨ v = 2 := by omega
  unfold State.opalFollow
  rw [h]
  rcases this with rfl | rfl <;> rfl

theorem refOf_code (r : Ref) (hr : r ≠ .fro) (s : State) (h : s.par Ix.synceRefSelect 0 = r.code) : s.permitted = [r] := by
  unfold State.permitted
  rw [h]
  cases r with
  | fro => exact absurd rfl hr
  | _ => rfl

theorem State.selectsDead_code (s : State) (r : Ref) (hr : r ≠ .fro) : s.selectsDead Ix.synceRefSelect r.code = !s.refReady r := by
  cases r with
  | fro => exact absurd rfl hr
  | _ => rfl

/-- A selected reference that is READY is taken by a TPLL that runs on a permitted one (R31, R44). -/
theorem State.refSelected_ref (s : State) (r : Ref) (hr : r ≠ .fro) (h : s.par Ix.synceRefSelect 0 = r.code)
    (hq : s.time.quality = .fine) (hf : s.par Ix.clkFallbackState 0 = 0) (hn : s.forcedRef = none) (hd : s.refReady r = true) :
    s.refSelected.clk.ref = some r := by
  have c : s.chosenRef false = some r := by
    unfold State.chosenRef
    rw [hn, refOf_code r hr s h]
    dsimp only
    rw [List.find?_cons_of_pos hd]
  unfold State.refSelected
  rw [if_pos ⟨hq, hf⟩, c]
  exact congrArg ClkSt.ref (s.changeRef_clk r)

/-- A forced reference is taken without a READY check (R397). -/
theorem State.refForced_ref (s : State) (r : Ref) (h : s.forcedRef = some r) (hc : s.counts = true) :
    s.refForced.clk.ref = some r ∧ s.refForced.time.quality = if r = .fro then .holdover else .fine := by
  have e : s.refForced = (s.changeRef r).setQuality (if r = .fro then .holdover else .fine) s.now := by
    unfold State.refForced
    rw [h]
    exact if_pos hc
  rw [e]
  exact ⟨(congrArg ClkSt.ref (((State.setQuality_same ..).clk rfl).trans (s.changeRef_clk r))), State.setQuality_quality ..⟩

theorem State.forcedRef_of_par {s t : State} (h : t.par Ix.clkForceSrc 1 = s.par Ix.clkForceSrc 1) : t.forcedRef = s.forcedRef := by
  unfold State.forcedRef
  rw [h]

theorem State.forcedRef_code (s : State) (r : Ref) (h : s.par Ix.clkForceSrc 1 = r.code + 1) : s.forcedRef = some r := by
  unfold State.forcedRef
  rw [h]
  cases r <;> rfl

/-- Settles O16: each command from its definition; `State.release_released`, `State.returnRef_returns` and the rules of the writes
carry what follows. -/
theorem clockSources : Obligations.ClockSources := by
  refine ⟨fun s t xb sro inFlight hanging inv => ?_, fun s t r inv => ?_, fun s t v sub r inv => ?_⟩
  · obtain ⟨-, w, -⟩ := inv
    intro s1
    refine ⟨fun src h2 hd => ⟨?_, ?_⟩, fun src h4 hd => ?_, fun xa h3 hd => ?_, fun h2 hf hh => ?_⟩
    · have e : exec (.sourceReady t src true xb sro) s = .next (s1.becomesReady src xb sro) := if_pos ⟨h2, hd⟩
      exact ⟨_, e, s1.becomesReady_ready src xb sro (by omega) w⟩
    · have e : exec (.sourceReady t src false xb sro) s = .next (s1.startFails src) := if_pos ⟨h2, hd⟩
      obtain ⟨a, b, c⟩ := s1.startFails_fails src (by omega) w
      exact ⟨_, e, a, b, c.count.par, c.last.par, c.time.par⟩
    · have e : exec (.sourceReady t src true xb sro) s = .next (s1.becomesReady src xb sro) :=
        (if_neg (fun g => by omega)).trans (if_pos ⟨h4, hd, rfl⟩)
      exact ⟨_, e, s1.becomesReady_ready src xb sro (by omega) w⟩
    · exact ⟨_, s.safeHoldRetry_eq t xa h3 hd, s1.startSource_ready _ (by split <;> decide) w, s1.startSource_started _⟩
    · have e : exec (.safeHoldEntry t inFlight hanging) s = .next (s1.safeHold inFlight hanging) :=
        if_pos ⟨h2, by rw [hf]; rfl, hh⟩
      exact ⟨_, e, s1.safeHold_holds inFlight hanging w⟩
  · obtain ⟨-, w, -⟩ := inv
    intro s1 steady back
    refine ⟨fun hl hq hd => ?_, fun h1 h2 h3 hr hs => ?_, fun h1 hr hs => ?_⟩
    · have e : exec (.domainRelease t) s = .next (s1.release r) := by
        show execDomainRelease t s = _
        unfold execDomainRelease
        dsimp only
        rw [show (s.enter t).clk.locked = some r from hl]
        refine if_neg (fun g => ?_)
        rcases g with g | g
        · exact of_decide_eq_true g hq
        · exact Nat.not_le.mpr hd g
      obtain ⟨a, b, c⟩ := s1.release_released r w
      exact ⟨_, e, a, b, c.par⟩
    · have e : exec (.autoReturn t) s = .next (s1.returnRef (s1.permitted.find? steady)) := if_pos ⟨h1, h2, by rw [h3]; rfl⟩
      rw [hs] at e
      exact ⟨_, e, s1.returnRef_returns r hr w⟩
    · have e : exec (.clkReturn t) s = .next (s1.returnRef (s1.chosenRef false)) := congrArg Host.Outcome.next (if_pos h1)
      rw [hs] at e
      exact ⟨_, e, s1.returnRef_returns r hr w⟩
  · obtain ⟨-, w, -⟩ := inv
    intro s1
    refine ⟨fun hc hv hr => ?_, fun hc hr => ?_, fun he hr hd hv => ?_, fun he => ?_, fun hv => ?_⟩
    · have wf : s1.writeFails opalSrcRow Ix.clkOpalSrc 0 v false = none := by
        rw [s1.writeFails_opalSrc v (s.capturing_enter t hc) hv]
        exact if_neg (fun g => by
          obtain ⟨g1, g2⟩ := Bool.and_eq_true_iff.mp g
          rw [hr (of_decide_eq_true g1)] at g2
          exact absurd g2 (by decide))
      have f : Same mask22 (s1.setPar Ix.clkOpalSrc 0 v).opalFollow (s1.tryWrite false opalSrcRow Ix.clkOpalSrc 0 v false) :=
        s1.tryWrite_takes false opalSrcRow Ix.clkOpalSrc 0 v false wf (by decide)
      refine ⟨_, s.sourceSelectWrite_opal t v hv, State.Has.par (.via f rfl (.dict (.written s1 w) rfl)), fun hf h3 => ?_⟩
      have p : (s1.setPar Ix.clkOpalSrc 0 v).par Ix.clkOpalSrc 0 = v := State.Has.par (.written s1 w)
      have r : (s1.setPar Ix.clkOpalSrc 0 v).sourceReady 1 = s.sourceReady 1 :=
        congrArg (fun n => decide (1 = 3) || bit n 1) (State.Has.par (.setPar (.start (s := s1) w) (by decide)))
      rw [f.clk rfl, State.opalFollow_free (s1.setPar Ix.clkOpalSrc 0 v), p, r]
      · exact (State.Has.par (.setPar (.start (s := s1) w) (by decide))).trans hf
      · exact fun g => h3 ((State.Has.par (.setPar (.start (s := s1) w) (by decide))).symm.trans g)
    · have wf : s1.writeFails opalSrcRow Ix.clkOpalSrc 0 0 false = some (.clock 1 (key Ix.clkOpalSrc 0)) := by
        rw [s1.writeFails_opalSrc 0 (s.capturing_enter t hc) (by decide)]
        exact if_pos (by rw [show s1.sourceReady 1 = false from hr]; rfl)
      have e := s.sourceSelectWrite_opal t 0 (by decide)
      rw [s1.tryWrite_refused false opalSrcRow Ix.clkOpalSrc 0 0 false _ wf] at e
      refine ⟨_, e, State.Has.par (.clkRefuse _ _ _ ⟨w, rfl⟩), s1.draw.clkRefuse_last _ _ _ w, ?_⟩
      exact State.Has.par (.setPar (.cnt (.start (s := s1.draw) w) (by decide)) (by decide))
    · have c3 : v ≤ 3 := by rw [hv]; cases r <;> decide
      have wf : s1.writeFails refSelectRow Ix.synceRefSelect 0 v false = none := by
        rw [s1.writeFails_refSelect v he c3, hv, s1.selectsDead_code r hr, show s1.refReady r = true from hd]
        rfl
      have f : Same mask22 (s1.setPar Ix.synceRefSelect 0 v).refSelected (s1.tryWrite false refSelectRow Ix.synceRefSelect 0 v false) :=
        s1.tryWrite_takes false refSelectRow Ix.synceRefSelect 0 v false wf (by decide)
      refine ⟨_, s.sourceSelectWrite_ref t v c3,
        State.Has.par (.via f rfl (.via (State.refSelected_same ..) rfl (.written s1 w))), fun hq hf hn => ?_⟩
      rw [f.clk rfl]
      refine State.refSelected_ref _ r hr (State.Has.par (hv ▸ .written s1 w)) hq ?_ ?_ ?_
      · exact (State.Has.par (.setPar (.start (s := s1) w) (by decide))).trans hf
      · rw [← hn]
        exact State.forcedRef_of_par (State.Has.par (.setPar (.start (s := s1) w) (by decide)))
      · rw [← hd]
        exact congrArg (fun n => decide (r.readyBit = 3) || bit n r.readyBit) (State.Has.par (.setPar (.start (s := s1) w) (by decide)))
    · have wf : s1.writeFails refSelectRow Ix.synceRefSelect 0 3 false = none := by
        rw [s1.writeFails_refSelect 3 he (by decide)]
        rfl
      have f : Same mask22 (s1.setPar Ix.synceRefSelect 0 3).refSelected (s1.tryWrite false refSelectRow Ix.synceRefSelect 0 3 false) :=
        s1.tryWrite_takes false refSelectRow Ix.synceRefSelect 0 3 false wf (by decide)
      exact ⟨_, s.sourceSelectWrite_ref t 3 (by decide),
        State.Has.par (.via f rfl (.via (State.refSelected_same ..) rfl (.written s1 w)))⟩
    · have wf := s1.writeFails_forceSrc v sub hv
      have f : Same mask22 (((s1.dangerTrace Ix.clkForceSrc sub).setPar Ix.clkForceSrc sub v).forceEffect sub)
          (s1.tryWrite false forceSrcRow Ix.clkForceSrc sub v false) :=
        s1.tryWrite_takes false forceSrcRow Ix.clkForceSrc sub v false wf (by decide)
      have wd := (s1.dangerTrace_same Ix.clkForceSrc sub).dictWf w
      refine ⟨_, s.forceSrcWrite_eq t v sub (by omega),
        State.Has.par (.via f rfl (.via (State.forceEffect_same ..) rfl (.written _ wd))), fun h0 hz => ?_, fun h1 ht hv' => ?_⟩
      · rw [f.clk rfl, h0]
        have p : ((s1.dangerTrace Ix.clkForceSrc 0).setPar Ix.clkForceSrc 0 v).par Ix.clkForceSrc 0 = v :=
          State.Has.par (.written _ ((s1.dangerTrace_same Ix.clkForceSrc 0).dictWf w))
        exact State.opalFollow_forced _ v p hz (by omega)
      · rw [f.clk rfl, f.time rfl, h1]
        generalize hx : (s1.dangerTrace Ix.clkForceSrc 1).setPar Ix.clkForceSrc 1 v = x
        have p : x.par Ix.clkForceSrc 1 = r.code + 1 :=
          hx ▸ hv' ▸ State.Has.par (.written _ ((s1.dangerTrace_same Ix.clkForceSrc 1).dictWf w))
        have c : x.counts = true := by
          have : x.time = s.time := hx ▸ (s1.dangerTrace_same Ix.clkForceSrc 1).time rfl
          unfold State.counts
          rw [this]
          exact (Bool.and_eq_true_iff.mp ht).1
        exact x.refForced_ref r (x.forcedRef_code r p) c

end Sys2Proof.Machine
end

section
/-! SUPPORT. Clock failures and locks of the loops (R395, R397, R399). -/
namespace Sys2Proof.Machine

/-! ### A failure is noted -/

theorem State.Noted.dict {s u t : State} {code : Nat} (h : s.Noted u code) (e : t.dict = u.dict) : s.Noted t code :=
  ⟨.dict h.count e, .dict h.last e, .dict h.time e⟩

theorem State.Noted.loopLost {s u : State} {code : Nat} (h : s.Noted u code) (l : Nat) : s.Noted (u.loopLost l) code :=
  h.same (State.loopLost_same u l) rfl rfl rfl

/-- Whatever a failure leads to, its count, its code and its time stand (R399). -/
theorem State.failure_noted (s : State) (t code : Nat) (stopped : Bool) (xb sro a b : Nat) (w : Dict.wf s.dict) :
    s.Noted (s.failure t code stopped xb sro a b) code := by
  unfold State.failure
  extract_lets +onlyGivenNames -merge s1
  have n1 : s.Noted s1 code := by
    unfold s1
    split
    · obtain ⟨x, y, z⟩ := State.noteFailure_noted (s.setStopped 3 stopped) code w
      exact ⟨x, y, z⟩
    · exact State.noteFailure_noted s code w
  clear_value s1
  split
  · next src _ => exact (n1.same (State.setStopped_same s1 src stopped) rfl rfl rfl).same (State.sourceFails_same ..) rfl rfl rfl
  · split
    · extract_lets s2
      have n2 := n1.loopLost 0
      split
      · exact n2
      · exact n2.same (State.fallback_same ..) rfl rfl rfl
    · exact (((n1.loopLost 1).same (State.setGood_same _ 2 false) rfl rfl rfl).dict (t := { (s1.loopLost 1).setGood 2 false with clk := { ((s1.loopLost 1).setGood 2 false).clk with cpllHold := true } }) rfl).same (State.clockSafe_same ..) rfl rfl rfl
    · exact n1.same (State.mpllFails_same ..) rfl rfl rfl
    · exact n1.same (State.apllFails_same ..) rfl rfl rfl
    · exact (((n1.loopLost 4).same (State.setGood_same _ 5 false) rfl rfl rfl).same (State.ethDown_same _ 0) rfl rfl rfl).same
        (State.ethDown_same _ 1) rfl rfl rfl
    · exact n1.same (State.forcedFollow_same ..) rfl rfl rfl

/-! ### The reference in use fails -/

/-- A forced reference that has stopped, as the clock tree sees it (R397). -/
def State.forcedGone (s : State) (r : Ref) : Bool := decide (s.clk.ref = some r) && s.clk.stopped.contains r.readyBit

theorem State.forcedFollow_dead (s : State) :
    s.forcedFollow.clk.dead = match s.forcedRef with
      | some r => s.forcedGone r
      | none => false := rfl

/-- What a failure does to the source itself: an oscillator is started again, or stopped (R399). -/
def State.sourceDown (s : State) (n : Nat) : State :=
  if n ≤ 2 then (if n = 2 && !(s.setReady n false).froWanted then (s.setReady n false).stopSource 2
    else (s.setReady n false).startSource n) else s.setReady n false

theorem State.sourceDown_same (s : State) (n : Nat) : Same mask179 s (s.sourceDown n) :=
  have f1 : Same mask179 s (s.setReady n false) := Same.mono (s.setReady_same n false) rfl
  Same.ite (Same.ite (Same.then f1 (State.stopSource_same ..) rfl) (Same.then f1 (State.startSource_same ..) rfl)) f1

theorem State.sourceDown_clk (s : State) (n : Nat) : ∃ x, (s.sourceDown n).clk = { s.clk with started := x } := by
  unfold State.sourceDown
  split
  · split
    · exact ⟨_, rfl⟩
    · exact ⟨_, rfl⟩
  · exact ⟨_, rfl⟩

theorem putBit_twice (v n : Nat) : putBit (putBit v n false) n false = putBit v n false := by
  show (if bit (putBit v n false) n then _ else _) = _
  rw [if_neg (by rw [bit_putBit_self]; decide)]
  rfl

theorem State.sourceDown_ready (s : State) (n : Nat) (w : Dict.wf s.dict) :
    (s.sourceDown n).Has Ix.clkReady 0 (putBit (s.par Ix.clkReady 0) n false) := by
  have h1 := s.setReady_has n false w
  have again : ((s.setReady n false).setReady n false).Has Ix.clkReady 0 (putBit (s.par Ix.clkReady 0) n false) := by
    have := (s.setReady n false).setReady_has n false h1.wf
    rwa [h1.par, putBit_twice] at this
  unfold State.sourceDown
  split
  · split
    · next g =>
      obtain ⟨rfl, -⟩ : n = 2 ∧ _ := by simpa using g
      exact .dict again rfl
    · exact .dict again rfl
  · exact h1

/-- The source of the reference in use fails while time runs on it: it is not READY, and the reference is lost (R399). -/
theorem State.sourceFails_uses (s : State) (t xb sro a b : Nat) (r : Ref) (hr : s.clk.ref = some r) (hc : s.counts = true) :
    s.sourceFails t r.readyBit xb sro a b = (s.sourceDown r.readyBit).opalFollow.forcedFollow.refLost t xb sro a b := by
  obtain ⟨z, hz⟩ := s.sourceDown_clk r.readyBit
  have c3 : (s.sourceDown r.readyBit).opalFollow.forcedFollow.counts = true := by
    rw [← hc, State.counts, State.counts]
    exact congrArg (fun x : TimeSt => decide (x.quality ≠ .coarse)) ((s.sourceDown_same r.readyBit).time rfl)
  have r3 : (s.sourceDown r.readyBit).opalFollow.forcedFollow.clk.ref = some r := (congrArg ClkSt.ref hz).trans hr
  unfold State.sourceFails
  extract_lets +onlyGivenNames -merge s1 s2 s3 uses
  have e3 : s3 = (s.sourceDown r.readyBit).opalFollow.forcedFollow :=
    if_pos (show (s.sourceDown r.readyBit).opalFollow.forcedFollow.counts = true ∨ _ from .inl c3)
  have u3 : uses = true := by
    unfold uses
    rw [e3, r3]
    exact decide_eq_true rfl
  exact (if_pos (by rw [u3, e3, c3]; rfl)).trans (congrArg (fun x : State => x.refLost t xb sro a b) e3)

/-- TPLL goes over to FRO without a hold (R39, Table 6). -/
theorem State.toFro_runs (s : State) : s.toFro.time.quality = .holdover ∧ s.toFro.clk.ref = some .fro := by
  unfold State.toFro
  extract_lets +onlyGivenNames -merge s1
  refine ⟨State.setQuality_quality .., ?_⟩
  rw [(State.setQuality_same ..).clk rfl]
  rfl

/-- The only permitted reference fails with FRO READY: HOLDOVER on FRO, and the clock cause of the safe state (R399, R401). -/
theorem State.refLost_toFro (s : State) (t xb sro a b : Nat) (hf : s.forcedRef = none) (hr : s.clk.ref = some .xa)
    (h0 : s.par Ix.synceRefSelect 0 = 0) (hd : s.refReady .fro = true) :
    s.refLost t xb sro a b = (s.clockSafe t).toFro := by
  unfold State.refLost
  rw [hf, hr, h0, if_neg (by decide), if_neg (by decide), if_neg (by decide)]
  unfold State.fallback
  rw [hr, if_neg (by decide), if_pos hd]

/-! ### Loops -/

/-- The loop `l` has lost lock since `s`: the loss is counted and the loop locks anew (R399). -/
structure State.LoopDown (s u : State) (l : Nat) : Prop where
  state : u.Has Ix.clkPllState l 1
  losses : u.Has Ix.clkPllLosses l (cntNext (s.par Ix.clkPllLosses l))

theorem State.LoopDown.same {s u t : State} {l m : Nat} (h : s.LoopDown u l) (f : Same m u t)
    (h1 : m.testBit (42 + regNo Ix.clkPllState) = false) (h2 : m.testBit (42 + regNo Ix.clkPllLosses) = false) : s.LoopDown t l :=
  ⟨h.state.same f h1, h.losses.same f h2⟩

theorem State.LoopDown.dict {s u t : State} {l : Nat} (h : s.LoopDown u l) (e : t.dict = u.dict) : s.LoopDown t l :=
  ⟨.dict h.state e, .dict h.losses e⟩

theorem State.loopLost_down (s : State) (l : Nat) (w : Dict.wf s.dict) : s.LoopDown (s.loopLost l) l := by
  have h1 : (s.startLoop l).Has Ix.clkPllState l 1 := .dict (.written s w) rfl
  have h2 : (s.startLoop l).Has Ix.clkPllLosses l (s.par Ix.clkPllLosses l) :=
    State.Has.dict (t := s.startLoop l) (.setPar (jx := Ix.clkPllState) (tub := l) (w := 1) (.start w) (by decide)) rfl
  exact ⟨.cnt h1 (by decide), .counted h2 (by decide)⟩

theorem State.mpllFails_down (s : State) (w : Dict.wf s.dict) : s.LoopDown s.mpllFails 2 := by
  have h : s.LoopDown ((s.loopLost 2).setGood 3 false) 2 := (s.loopLost_down 2 w).same (State.setGood_same _ 3 false) rfl rfl
  unfold State.mpllFails
  extract_lets s1
  split
  · exact ⟨.setPar h.state (by decide), .setPar h.losses (by decide)⟩
  · exact h

theorem State.apllFails_down (s : State) (t : Nat) (w : Dict.wf s.dict) : s.LoopDown (s.apllFails t) 3 := by
  have h : s.LoopDown ((s.loopLost 3).setGood 4 false) 3 := (s.loopLost_down 3 w).same (State.setGood_same _ 4 false) rfl rfl
  unfold State.apllFails
  extract_lets +onlyGivenNames -merge s1 _ s2
  refine foldl_keeps (I := fun u => s.LoopDown u 3) (fun u p hu => ?_) _ _ (h.dict rfl)
  split
  · exact hu.same (State.pierTo_same u t 1 p) rfl rfl
  · exact hu

theorem State.cpllFails_down (s : State) (t : Nat) (w : Dict.wf s.dict) : s.LoopDown
    (({ (s.loopLost 1).setGood 2 false with clk := { ((s.loopLost 1).setGood 2 false).clk with cpllHold := true } } : State).clockSafe t)
    1 := by
  have h : s.LoopDown ((s.loopLost 1).setGood 2 false) 1 := (s.loopLost_down 1 w).same (State.setGood_same _ 2 false) rfl rfl
  generalize (s.loopLost 1).setGood 2 false = x at *
  exact State.LoopDown.same (h.dict (t := { x with clk := { x.clk with cpllHold := true } }) rfl) (State.clockSafe_same _ t) rfl rfl

/-- CPLL, MPLL or APLL has lost lock (R399). -/
theorem State.failure_loop (s : State) (t : Nat) (l : Fin 3) (stopped : Bool) (xb sro a b : Nat) (w : Dict.wf s.dict) :
    s.LoopDown (s.failure t (8 + l.val) stopped xb sro a b) (1 + l.val) := by
  have nw : ∀ c, Dict.wf (s.noteFailure c).dict := fun c => (s.noteFailure_same c).dictWf w
  have np : ∀ c u l, (s.noteFailure c).LoopDown u l → s.LoopDown u l := fun c u l h =>
    ⟨h.state, (s.noteFailure_same c).pars w Ix.clkPllLosses l rfl ▸ h.losses⟩
  match l with
  | ⟨0, _⟩ => exact np 8 _ 1 ((s.noteFailure 8).cpllFails_down t (nw 8))
  | ⟨1, _⟩ => exact np 9 _ 2 ((s.noteFailure 9).mpllFails_down (nw 9))
  | ⟨2, _⟩ => exact np 10 _ 3 ((s.noteFailure 10).apllFails_down t (nw 10))

/-! ### A loop declares lock -/

theorem State.startLoops_other (s : State) (v : Nat) (h : s.Has Ix.clkPllState 0 v) : s.startLoops.Has Ix.clkPllState 0 v := by
  have step : ∀ u : State, ∀ l : Nat, l % 256 ≠ 0 → u.Has Ix.clkPllState 0 v → (if u.loopState l = 0 then u.startLoop l else u).Has Ix.clkPllState 0 v := by
    intro u l hl hu
    refine .ite (.dict (.setPar_key hu (fun k => hl ?_)) rfl) hu
    rw [key, key] at k
    omega
  exact step _ 4 (by decide) (step _ 3 (by decide) (step _ 2 (by decide) (step _ 1 (by decide) h)))

theorem State.tpllLocked_state (s : State) (v : Nat) (h : s.Has Ix.clkPllState 0 v) : s.tpllLocked.Has Ix.clkPllState 0 v := by
  have hl := s.startLoops_other v h
  unfold State.tpllLocked
  split
  · exact h
  · exact .ite (h.same s.clockClear_same rfl) (.ite (hl.same (State.release_same ..) rfl) (.dict hl rfl))

/-- What a loop's lock leads to leaves its state (R401). -/
theorem State.loopLocked_state (s : State) (t a b v : Nat) (l : Fin 5) (h : s.Has Ix.clkPllState l v) :
    (s.loopLocked t l a b).Has Ix.clkPllState l v := by
  match l with
  | ⟨0, _⟩ => exact s.tpllLocked_state v h
  | ⟨1, _⟩ =>
    have g := State.Has.dict (t := { s with clk := { s.clk with cpllHold := false } }) h rfl
    exact (g.same (State.setGood_same _ 2 s.counts) rfl).same (State.clockClear_same _) rfl
  | ⟨2, _⟩ =>
    have g := h.same (State.setGood_same s 3 (decide (2 ≤ s.par Ix.pwrState 0) && s.counts)) rfl
    exact .ite (.setPar g (by decide)) g
  | ⟨3, _⟩ =>
    have g := State.Has.dict (t := { s with clk := { s.clk with apllLost := false } }) h rfl
    exact (g.same (State.setGood_same _ 4 (decide (2 ≤ s.par Ix.pwrState 0) && s.counts)) rfl).same (State.piersFollow_same ..) rfl
  | ⟨4, _⟩ => exact (h.same (State.setGood_same s 5 s.counts) rfl).same (State.crossingReset_same ..) rfl

/-- What the failure of a source that nothing uses touches. -/
abbrev sourceMask : Nat := 0xc000000000000000000000000000000000000000000000000000000000000000720001000000020

/-- The failure of a monitored source, noted (R399). -/
theorem State.failure_source (s : State) (t code src : Nat) (stopped : Bool) (xb sro a b : Nat) (h : monitorSource code = some src) :
    s.failure t code stopped xb sro a b = ((s.noteFailure code).setStopped src stopped).sourceFails t src xb sro a b := by
  have h4 : ¬ code = 4 := fun g => by rw [g] at h; exact nomatch h
  unfold State.failure
  rw [if_neg h4, h]

theorem State.clockSafe_cause (s : State) (t : Nat) : (s.clockSafe t).clockCause = true := by
  have keep : ∀ x : State, (x.safeEverything t false).clockCause = x.clockCause := fun x =>
    (x.safeEverything_same t false).clockCause rfl
  exact keep { s with clockCause := true }

theorem State.setStopped_contains (s : State) (src : Nat) : (s.setStopped src true).clk.stopped.contains src = true := by
  rw [List.contains_iff_mem]
  exact List.mem_append_right _ (List.mem_singleton_self _)

theorem State.setStopped_ref (s : State) (src : Nat) (on : Bool) : (s.setStopped src on).clk.ref = s.clk.ref := rfl

/-- A forced reference that fails stops time and nothing else (R397). -/
theorem State.failure_forced (s : State) (t : Nat) (code : Nat) (xb sro a b : Nat) (f : Ref) (hm : monitorSource code = some f.readyBit)
    (hf : s.forcedRef = some f) (hr : s.clk.ref = some f) (hc : s.counts = true) (w : Dict.wf s.dict) :
    Same sourceMask s (s.failure t code true xb sro a b) ∧ (s.failure t code true xb sro a b).clk.dead = true := by
  rw [s.failure_source t code f.readyBit true xb sro a b hm]
  have f1 : Same sourceMask s (s.noteFailure code) := Same.mono (s.noteFailure_same code) rfl
  have f2 := Same.then f1 (State.setStopped_same (s.noteFailure code) f.readyBit true) rfl
  have hr2 : ((s.noteFailure code).setStopped f.readyBit true).clk.ref = some f :=
    (State.setStopped_ref ..).trans ((congrArg ClkSt.ref ((s.noteFailure_same code).clk rfl)).trans hr)
  have st : ((s.noteFailure code).setStopped f.readyBit true).clk.stopped.contains f.readyBit = true :=
    State.setStopped_contains ..
  generalize (s.noteFailure code).setStopped f.readyBit true = y at *
  have hc2 : y.counts = true := by
    unfold State.counts at hc ⊢
    rw [f2.time rfl]
    exact hc
  rw [y.sourceFails_uses t xb sro a b f hr2 hc2]
  have f3 := Same.then f2 (y.sourceDown_same f.readyBit) rfl
  have g3 : (y.sourceDown f.readyBit).forcedRef = some f := (State.forcedRef_of_par (f3.pars w Ix.clkForceSrc 1 rfl)).trans hf
  obtain ⟨z, hz⟩ := y.sourceDown_clk f.readyBit
  have lost : ∀ x : State, x.forcedRef = some f → x.refLost t xb sro a b = x := fun x h => if_pos (by rw [h]; rfl)
  rw [lost _ (show (y.sourceDown f.readyBit).opalFollow.forcedFollow.forcedRef = some f from g3)]
  refine ⟨Same.then (Same.then f3 (State.opalFollow_same _) rfl) (State.forcedFollow_same _) rfl, ?_⟩
  rw [State.forcedFollow_dead, show (y.sourceDown f.readyBit).opalFollow.forcedRef = some f from g3]
  show (decide ((y.sourceDown f.readyBit).clk.ref = some f) && (y.sourceDown f.readyBit).clk.stopped.contains f.readyBit) = true
  rw [hz, decide_eq_true hr2]
  exact st

/-- XA, the only permitted reference, fails with FRO READY: TPLL goes over to it, in HOLDOVER and with the clock cause (R399). -/
theorem State.failure_xa (s : State) (t : Nat) (stopped : Bool) (xb sro a b : Nat) (hf : s.forcedRef = none)
    (hr : s.clk.ref = some .xa) (h0 : s.par Ix.synceRefSelect 0 = 0) (hd : s.refReady .fro = true) (hc : s.counts = true)
    (w : Dict.wf s.dict) :
    ∃ x, s.failure t 1 stopped xb sro a b = (State.clockSafe x t).toFro ∧ Dict.wf x.dict ∧ x.sourceReady 0 = false := by
  rw [s.failure_source t 1 0 stopped xb sro a b rfl]
  have f1 : Same sourceMask s (s.noteFailure 1) := Same.mono (s.noteFailure_same 1) rfl
  have f2 := Same.then f1 (State.setStopped_same (s.noteFailure 1) 0 stopped) rfl
  have r1 : ((s.noteFailure 1).setStopped 0 stopped).par Ix.clkReady 0 = s.par Ix.clkReady 0 := (s.noteFailure_same 1).pars w _ _ rfl
  have hr2 : ((s.noteFailure 1).setStopped 0 stopped).clk.ref = some .xa :=
    (congrArg ClkSt.ref ((s.noteFailure_same 1).clk rfl)).trans hr
  generalize (s.noteFailure 1).setStopped 0 stopped = y at *
  have hc2 : y.counts = true := by
    unfold State.counts at hc ⊢
    rw [f2.time rfl]
    exact hc
  rw [show y.sourceFails t 0 xb sro a b = _ from y.sourceFails_uses t xb sro a b .xa hr2 hc2]
  have f3 := Same.then f2 (y.sourceDown_same 0) rfl
  have g3 : (y.sourceDown 0).forcedRef = none := (State.forcedRef_of_par (f3.pars w Ix.clkForceSrc 1 rfl)).trans hf
  obtain ⟨z, hz⟩ := y.sourceDown_clk 0
  have h3 := y.sourceDown_ready 0 (f2.dictWf w)
  have e3 : (y.sourceDown 0).opalFollow.forcedFollow.Has Ix.clkReady 0 _ := .dict h3 rfl
  refine ⟨_, State.refLost_toFro _ t xb sro a b g3 ((congrArg ClkSt.ref hz).trans hr2)
    ((f3.pars w Ix.synceRefSelect 0 rfl).trans h0) ?_, e3.wf, e3.ready (by decide) (bit_putBit_self ..)⟩
  refine e3.ready (by decide) ?_
  rw [r1, bit_putBit, if_neg (by decide)]
  exact hd

/-- A count without a clock stands (R397). -/
theorem State.timeAt_dead (s : State) (v : Nat) (h : s.clk.dead = true) (hc : s.counts = true) : s.timeAt v = s.now := by
  unfold State.timeAt
  split
  · next e => exact absurd e (of_decide_eq_true hc)
  · exact if_pos h

/-- Settles O17: the failure is noted first, and what follows it by the source, the reference or the loop that fails. -/
theorem clockFailures : Obligations.ClockFailures := by
  intro s t v xb sro inFlight hanging stopped f inv
  obtain ⟨-, w, -⟩ := inv
  intro s1 until_
  have fails : ∀ (code : Fin 12) (st : Bool), code.val ≠ 0 → exec (.clockFailure t code st xb sro inFlight hanging) s
      = .next (s1.failure s1.now code st xb sro inFlight hanging) := fun code st h => if_neg h
  refine ⟨fun code h => ?_, fun hr h0 hf ht hd => ?_, fun l => ?_, fun code hm hf hr ht => ?_, fun l h1 hu => ?_⟩
  · have n := s1.failure_noted s1.now code stopped xb sro inFlight hanging w
    exact ⟨_, fails code stopped h, n.count.par, n.last.par, n.time.par⟩
  · obtain ⟨x, e, wx, rx⟩ := s1.failure_xa s1.now stopped xb sro inFlight hanging hf hr h0 hd (Bool.and_eq_true_iff.mp ht).1 w
    obtain ⟨q, r⟩ := State.toFro_runs (x.clockSafe s1.now)
    have e' := fails 1 stopped (by decide)
    rw [show s1.failure s1.now (1 : Fin 12).val stopped xb sro inFlight hanging = _ from e] at e'
    refine ⟨_, e', q, r, ?_, ?_⟩
    · rw [(State.toFro_same _).clockCause rfl]
      exact x.clockSafe_cause _
    · rw [← rx]
      exact congrArg (fun n => decide (0 = 3) || bit n 0)
        (State.Has.par (.via (State.toFro_same _) rfl (.via (State.clockSafe_same x s1.now) rfl (.start wx))))
  · have d := s1.failure_loop s1.now l stopped xb sro inFlight hanging w
    exact ⟨_, fails ⟨8 + l.val, by omega⟩ stopped (by simp), d.state.par, d.losses.par⟩
  · have hc := (Bool.and_eq_true_iff.mp ht).1
    obtain ⟨g, d⟩ := s1.failure_forced s1.now code xb sro inFlight hanging f hm hf hr hc w
    refine ⟨_, fails code true (fun h => by rw [h] at hm; exact nomatch hm), d, g.now rfl, g.clockCause rfl, g.guard rfl, g.line rfl,
      g.cw rfl, g.pars w _ _ rfl,
      State.timeAt_dead _ v d ?_⟩
    unfold State.counts at hc ⊢
    rw [g.time rfl]
    exact hc
  · let x := (s1.setPar Ix.clkPllState l 2).setPar Ix.clkPllLockTime l ((s1.now - tget 0 s1.clk.lockFrom l) / 256000 % 2 ^ 32)
    have e : exec (.pllLock t l inFlight hanging) s = .next ((x.loopLocked s1.now l inFlight hanging).wakeDone) := by
      refine if_pos ⟨h1, ?_⟩
      rcases hu with hu | ⟨h0, hq⟩
      · exact Bool.or_eq_true_iff.mpr (.inr (decide_eq_true hu))
      · exact Bool.or_eq_true_iff.mpr (.inl (by rw [decide_eq_true h0]; exact decide_eq_true hq))
    have hs : x.Has Ix.clkPllState l 2 := .setPar (.written s1 w) (by decide)
    have ht : x.Has Ix.clkPllLockTime l _ := .written _ (dictWf_setPar _ _ _ _ w)
    exact ⟨_, e, State.Has.par (.via (State.wakeDone_same _) rfl (.via (State.loopLocked_same ..) rfl ht)),
      State.Has.par (.via (State.wakeDone_same _) rfl (x.loopLocked_state _ _ _ _ l hs))⟩

end Sys2Proof.Machine
end

section
/-! SUPPORT. Edges, digital samples and window comparators (R37, R59 to R68). -/
namespace Sys2Proof.Machine

/-! ### What leaves the edge paths -/

@[simp] theorem State.edgeOf_cnt (s : State) (ix sub n : Nat) : (s.cnt ix sub).edgeOf n = s.edgeOf n :=
  State.edgeOf_same (State.cnt_frame s ix sub) rfl n

@[simp] theorem State.edgeOf_setPar (s : State) (ix sub v n : Nat) : (s.setPar ix sub v).edgeOf n = s.edgeOf n := rfl

@[simp] theorem State.edgeOf_mark (s : State) (ix sub v n : Nat) : (s.mark ix sub v).edgeOf n = s.edgeOf n := by
  unfold State.mark
  split <;> rfl

/-! ### Comparators -/

/-- Above both rising thresholds the level is 1, below both falling ones 0, and between them it stays (R59, R60). -/
theorem judgeLevel_settles (r q f g uv : Int) (old either : Nat) (h : f ≤ r) :
    (max r q < uv → judgeLevel (min q r) (max q r) (min g f) (max g f) uv old either = 1)
      ∧ (uv < min f g → judgeLevel (min q r) (max q r) (min g f) (max g f) uv old either = 0)
      ∧ (f ≤ uv → uv ≤ r → g ≤ uv → uv ≤ q → judgeLevel (min q r) (max q r) (min g f) (max g f) uv old either = old) := by
  unfold judgeLevel
  refine ⟨fun h => if_pos (by omega), fun h' => ?_, fun h1 h2 h3 h4 => ?_⟩
  · rw [if_neg (by omega), if_pos (by omega)]
  · rw [if_neg (by omega), if_neg (by omega), if_neg (by omega)]

/-- The rising and the falling threshold of an input at a stamp (R59, R202). -/
def State.riseAt (s : State) (src a : Nat) : Int := if src < 192 then s.thrRise src a else 1750000
def State.fallAt (s : State) (src a : Nat) : Int := if src < 192 then s.thrFall src a else 1350000

theorem State.fallAt_le_riseAt (s : State) (src a : Nat) : s.fallAt src a ≤ s.riseAt src a := by
  unfold State.fallAt State.riseAt State.thrFall State.thrRise
  split <;> omega

theorem State.comparator_judges (s : State) (src old : Nat) (uv : Int) : ∃ either, s.comparator src old (.volts uv)
    = judgeLevel (min (s.riseAt src s.dacPast) (s.riseAt src s.now)) (max (s.riseAt src s.dacPast) (s.riseAt src s.now))
      (min (s.fallAt src s.dacPast) (s.fallAt src s.now)) (max (s.fallAt src s.dacPast) (s.fallAt src s.now)) uv old either := by
  unfold State.comparator State.riseAt State.fallAt
  dsimp only
  split
  · exact ⟨_, rfl⟩
  · exact ⟨old, rfl⟩

/-! ### Inputs -/

theorem State.levelOnly_input (s : State) (src lv : Nat) : ((s.levelOnly src lv).edgeOf src).input = lv := by
  unfold State.levelOnly
  extract_lets e
  split <;> rw [State.edgeOf_setEdge]

theorem State.crossing_input (s : State) (src t lv : Nat) : ((s.crossing src t lv).edgeOf src).input = lv := by
  cases h : (s.edgeOf src).blind with
  | none => exact (s.crossing_stamps src t lv (.inl h)).1
  | some f =>
    by_cases g : t < s.blindEnd f
    · rw [s.crossing_blind src t lv f h g, State.edgeOf_cnt, State.edgeOf_setEdge]
    · exact (s.crossing_stamps src t lv (.inr ⟨f, h, Nat.not_lt.mp g⟩)).1

theorem State.edgeIn_crosses (s : State) (src base code lv : Nat) (h : src ≠ 200) (hl : (s.edgeOf src).input ≠ lv)
    (hr : s.tdcRuns src = true) : s.edgeIn src base code lv = s.crossing src (s.stampOf src base code) lv := by
  unfold State.edgeIn
  rw [if_neg hl, if_neg (by rw [hr]; decide)]
  exact if_neg h

/-- A crossing while no blind interval is open (R37). -/
theorem State.crossing_open (s : State) (src t lv : Nat) (h : (s.edgeOf src).blind = none) :
    (s.crossing src t lv).edgeOf src = { s.edgeOf src with
      input := lv, reported := lv, blind := some t
      edges := (s.edgeOf src).edges.filter (fun x => !(x.resampled && decide (x.stamp = t))) ++ [⟨t, lv, false⟩] } := by
  unfold State.crossing
  extract_lets +onlyGivenNames -merge e
  rw [show e.blind = none from h]
  exact State.edgeOf_setEdge ..

theorem State.inputMoved_keeps (s : State) (n old t : Nat) :
    ((s.inputMoved n old t).edgeOf n).input = (s.edgeOf n).input ∧ ((s.inputMoved n old t).edgeOf n).blind = (s.edgeOf n).blind
      ∧ ((s.inputMoved n old t).edgeOf n).edges = (s.edgeOf n).edges
      ∧ ((s.inputMoved n old t).edgeOf n).reported = (s.edgeOf n).reported := by
  obtain ⟨a, b, c⟩ := s.inputMoved_edge n old t
  refine ⟨a, b, c, ?_⟩
  unfold State.inputMoved
  extract_lets e
  split
  · rfl
  · rw [State.edgeOf_setEdge]

/-- Whatever runs, the input follows its comparator (R37, R79). -/
theorem State.edgeIn_input (s : State) (src base code lv : Nat) (h : src ≠ 200) :
    ((s.edgeIn src base code lv).edgeOf src).input = lv := by
  by_cases hl : (s.edgeOf src).input = lv
  · rw [show s.edgeIn src base code lv = s from if_pos hl]
    exact hl
  · cases hr : s.tdcRuns src with
    | false =>
      rw [show s.edgeIn src base code lv = s.levelOnly src lv from (if_neg hl).trans (if_pos (by rw [hr]; rfl))]
      exact s.levelOnly_input src lv
    | true =>
      rw [s.edgeIn_crosses src base code lv h hl hr]
      exact s.crossing_input src _ lv

/-- At the end of a blind interval the input is sampled again (R37). -/
theorem State.resample_edge (s : State) (src t0 : Nat) : (s.resample src t0).edgeOf src = { s.edgeOf src with
    blind := none, reported := (s.edgeOf src).input
    edges := if (s.edgeOf src).input = (s.edgeOf src).reported then (s.edgeOf src).edges
      else (s.edgeOf src).edges ++ [⟨s.blindEnd t0, (s.edgeOf src).input, true⟩] } := by
  unfold State.resample
  extract_lets e x
  by_cases g : e.input = e.reported
  · rw [if_pos g, if_pos g, g]
    exact State.edgeOf_setEdge ..
  · rw [if_neg g, if_neg g]
    exact State.edgeOf_setEdge ..

/-- THRESHOLD_EDGE works on the state that time has come to, but for a value that is free while a threshold settles (R60). -/
theorem State.thresholdEdge_eq (s : State) (t base code : Nat) (src : Fin 201) (inp : PinInput) :
    ∃ x : State, x = { s.enter t with fresh := x.fresh } ∧ exec (.thresholdEdge t src base code inp) s
      = .next ((x.edgeIn src base code ((s.enter t).comparator src (s.edgeOf src).input inp)).inputMoved src (s.edgeOf src).input t) := by
  show ∃ x : State, x = { s.enter t with fresh := x.fresh } ∧ execThresholdEdge t src base code inp s = _
  unfold execThresholdEdge
  extract_lets s1 moving old
  cases moving
  · exact ⟨s1, rfl, rfl⟩
  · exact ⟨s1.draw, rfl, rfl⟩

/-! ### Event buffers -/

/-- An event enters a buffer that has room (R64). -/
theorem State.buffer_room (s : State) (r : Rec) (h : (s.edgeOf r.src).buf.length < bufferSize r.src) :
    (s.buffer r).edgeOf r.src = { s.edgeOf r.src with buf := (s.edgeOf r.src).buf ++ [r] } := by
  unfold State.buffer
  extract_lets e e1 s1
  rw [if_neg (Nat.not_le.mpr h)]
  split
  · rw [State.edgeOf_mark, State.edgeOf_setEdge]
  · exact State.edgeOf_setEdge ..

/-- An event that finds its buffer full is lost (log 26). -/
theorem State.buffer_full (s : State) (r : Rec) (h : bufferSize r.src ≤ (s.edgeOf r.src).buf.length) :
    s.buffer r = s.loseEvent r.src r.stamp := if_pos h

theorem State.loseEvent_edge (s : State) (src t : Nat) :
    (s.loseEvent src t).edgeOf src = { s.edgeOf src with accounts := joinAccount t (s.edgeOf src).accounts } := by
  unfold State.loseEvent
  extract_lets e s1
  split
  · rw [State.edgeOf_cnt]
    exact State.edgeOf_setEdge ..
  · exact State.edgeOf_setEdge ..

/-! ### Judging (R61) -/

/-- The accepted edge moves the level and, delivered, is counted (R61, R63). -/
def EdgeSt.accept (e : EdgeSt) (live : Bool) (src : Nat) (x : Edge) : EdgeSt :=
  { e with level := x.level, counted := if live && decide (src < 192) then e.counted ++ [(x.stamp, x.level)] else e.counted }

theorem State.acceptEdge_dead (s : State) (src : Nat) (x : Edge) (h : s.delivers src x.stamp = false) :
    s.acceptEdge src x = s.setEdge src ((s.edgeOf src).accept false src x) := by
  unfold State.acceptEdge
  rw [h]
  rfl

theorem State.acceptEdge_live (s : State) (src : Nat) (x : Edge) (h : s.delivers src x.stamp = true)
    (hc : 192 ≤ src ∨ s.par Ix.laneDcapMode src ≠ 1) :
    s.acceptEdge src x = (s.setEdge src ((s.edgeOf src).accept true src x)).buffer (recTransition x.stamp src x.level x.resampled) := by
  unfold State.acceptEdge
  rw [h]
  exact if_pos (by simpa using hc)

/-- An edge whose level holds through its deglitch interval is accepted (R61). -/
theorem State.judge_accepts (s : State) (src : Nat) (e : EdgeSt) (x y : Edge) (rest : List Edge) (he : s.edgeOf src = e)
    (h : e.edges = [x] ∨ e.edges = x :: y :: rest ∧ (x.stamp + s.deglitch src < y.stamp ∨ s.deglitch src = 0))
    (hd : (x.stamp : Int) - s.skew src + s.deglitch src ≤ (s.now : Int)) :
    s.judge src = (s.setEdge src { e with edges := e.edges.drop 1 }).acceptEdge src x := by
  unfold State.judge
  rw [he]
  rcases h with h | ⟨h, g⟩
  · dsimp only
    rw [h]
    exact if_neg (by omega)
  · dsimp only
    rw [h]
    exact (if_neg (by omega)).trans (if_neg (by omega))

/-- Accepted and live, it enters the buffer (R62). -/
theorem State.judge_live (s : State) (src : Nat) (e : EdgeSt) (x y : Edge) (rest : List Edge) (he : s.edgeOf src = e)
    (h : e.edges = [x] ∨ e.edges = x :: y :: rest ∧ (x.stamp + s.deglitch src < y.stamp ∨ s.deglitch src = 0))
    (hd : (x.stamp : Int) - s.skew src + s.deglitch src ≤ (s.now : Int)) (hv : s.delivers src x.stamp = true)
    (hc : 192 ≤ src ∨ s.par Ix.laneDcapMode src ≠ 1) :
    ∃ z : State, s.judge src = z.buffer (recTransition x.stamp src x.level x.resampled) ∧ z.dict = s.dict
      ∧ z.edgeOf src = EdgeSt.accept { e with edges := e.edges.drop 1 } true src x := by
  have live : (s.setEdge src { e with edges := e.edges.drop 1 }).delivers src x.stamp = true := hv
  rw [s.judge_accepts src e x y rest he h hd, State.acceptEdge_live _ src x live hc, State.edgeOf_setEdge]
  exact ⟨_, rfl, rfl, State.edgeOf_setEdge ..⟩

/-- One whose level does not hold goes with the edge that ended it (R61). -/
theorem State.judge_glitch (s : State) (src : Nat) (x y : Edge) (rest : List Edge) (h : (s.edgeOf src).edges = x :: y :: rest)
    (hd : (x.stamp : Int) - s.skew src + s.deglitch src ≤ (s.now : Int)) (hg : y.stamp ≤ x.stamp + s.deglitch src)
    (h0 : s.deglitch src ≠ 0) :
    s.judge src = if src < 192 then (s.setEdge src { s.edgeOf src with edges := rest }).cnt Ix.laneGlitches src
      else s.setEdge src { s.edgeOf src with edges := rest } := by
  unfold State.judge
  extract_lets e
  rw [show e.edges = x :: y :: rest from h]
  exact (if_neg (by omega)).trans (if_pos ⟨hg, h0⟩)

/-- Settles O27: crossings by the comparator's level, the end of a blind interval and of a deglitch interval by the edges that
stand. -/
theorem edges : Obligations.Edges := by
  intro s t base code t0 src inp uv x y rest inv
  obtain ⟨-, w, -⟩ := inv
  intro s1 e lv stamp thr hi lo past due holds r live places
  refine ⟨fun hs => ?_, fun hs hl hr hb => ?_, fun hs hl hr hb hd => ?_, fun hb hd hr => ?_, fun he hd hg h0 => ?_,
    fun hh hv hn => ?_, fun hh hv hn => ?_, fun hh hs hv => ?_⟩
  · obtain ⟨z, -, ez⟩ := s.thresholdEdge_eq t base code src (.volts uv)
    obtain ⟨either, ej⟩ := s1.comparator_judges src e.input uv
    have level : (((z.edgeIn src base code (s1.comparator src e.input (.volts uv))).inputMoved src e.input t).edgeOf src).input
        = s1.comparator src e.input (.volts uv) :=
      ((z.edgeIn src base code _).inputMoved_edge src e.input t).1.trans (z.edgeIn_input src base code _ (by omega))
    obtain ⟨h1, h2, h3⟩ := judgeLevel_settles (s1.riseAt src s1.now) (s1.riseAt src s1.dacPast) (s1.fallAt src s1.now)
      (s1.fallAt src s1.dacPast) uv e.input either (s1.fallAt_le_riseAt src s1.now)
    rw [← ej] at h1 h2 h3
    exact ⟨_, ez, fun h => level.trans (h1 h), fun h => level.trans (h2 h), fun a b c d => level.trans (h3 a b c d)⟩
  · obtain ⟨z, hz, ez⟩ := s.thresholdEdge_eq t base code src inp
    have ze : z.edgeOf src = e := by rw [hz]; rfl
    have zc : z.edgeIn src base code lv = z.crossing src stamp lv := by
      have zs : z.stampOf src base code = stamp := by rw [hz]; rfl
      rw [z.edgeIn_crosses src base code lv (by omega) (ze ▸ hl) (by rw [hz]; exact hr), zs]
    have zx : (z.crossing src stamp lv).edgeOf src = { e with
        input := lv, reported := lv, blind := some stamp
        edges := e.edges.filter (fun x => !(x.resampled && decide (x.stamp = stamp))) ++ [⟨stamp, lv, false⟩] } := by
      rw [z.crossing_open src stamp lv (ze ▸ hb), ze]
    obtain ⟨-, b1, c1, d1⟩ := (z.crossing src stamp lv).inputMoved_keeps src e.input t
    rw [show z.edgeIn src base code ((s.enter t).comparator src (s.edgeOf src).input inp) = _ from zc] at ez
    refine ⟨_, ez, b1.trans (by rw [zx]), d1.trans (by rw [zx]), ?_⟩
    rw [c1, zx]
    exact List.getLast?_concat
  · obtain ⟨z, hz, ez⟩ := s.thresholdEdge_eq t base code src inp
    have ze : z.edgeOf src = e := by rw [hz]; rfl
    have zd : z.dict = s.dict := by rw [hz]; rfl
    have zc : z.edgeIn src base code lv = (z.setEdge src { e with input := lv }).cnt Ix.timeDpLost src := by
      have zs : z.stampOf src base code = stamp := by rw [hz]; rfl
      rw [z.edgeIn_crosses src base code lv (by omega) (ze ▸ hl) (by rw [hz]; exact hr), zs,
        z.crossing_blind src stamp lv t0 (ze ▸ hb) (by rw [hz]; exact hd), ze]
    obtain ⟨-, b1, c1, -⟩ := ((z.setEdge src { e with input := lv }).cnt Ix.timeDpLost src).inputMoved_keeps src e.input t
    rw [show z.edgeIn src base code ((s.enter t).comparator src (s.edgeOf src).input inp) = _ from zc] at ez
    refine ⟨_, ez, b1.trans ?_, c1.trans ?_, ?_⟩
    · rw [State.edgeOf_cnt, State.edgeOf_setEdge]
      exact hb
    · rw [State.edgeOf_cnt, State.edgeOf_setEdge]
    · have z0 : (z.setEdge src { e with input := lv }).Has Ix.timeDpLost src (s.par Ix.timeDpLost src) :=
        .dict (.start (s := s) w) zd
      exact State.Has.par (.via (State.inputMoved_same ..) rfl (.counted z0 (by decide)))
  · refine ⟨s1.resample src t0, ?_, ?_⟩
    · show execTdcResample t src s = _
      unfold execTdcResample
      dsimp only
      rw [show ((s.enter t).edgeOf src).blind = some t0 from hb]
      exact if_pos ⟨hd, hr⟩
    · dsimp only
      rw [s1.resample_edge src t0]
      refine ⟨rfl, rfl, ?_⟩
      show (if e.input = e.reported then e.edges else e.edges ++ _) = _
      split
      · exact (List.append_nil _).symm
      · rfl
  · have e1 : exec (.deglitchEnd t src) s = .next (s1.judge src) := rfl
    rw [s1.judge_glitch src x y rest he hd hg h0] at e1
    refine ⟨_, e1, ?_⟩
    dsimp only
    by_cases h : src.val < 192
    · rw [if_pos h, State.edgeOf_cnt, State.edgeOf_setEdge]
      exact ⟨rfl, rfl, rfl, fun _ => State.Has.par (.counted (.dict (.start (s := s) w) rfl) (by decide))⟩
    · rw [if_neg h, State.edgeOf_setEdge]
      exact ⟨rfl, rfl, rfl, fun g => absurd g h⟩
  · obtain ⟨hs, ha, hc⟩ := hv
    have e1 : exec (.deglitchEnd t src) s = .next (s1.judge src) := rfl
    obtain ⟨z, ez, -, hz⟩ := s1.judge_live src e x y rest rfl hh.1 hh.2 ((if_neg (by omega)).trans ha) hc
    have room : (z.edgeOf src).buf.length < bufferSize src := by
      rw [hz]
      exact hn
    rw [ez] at e1
    refine ⟨_, e1, ?_⟩
    dsimp only
    rw [show (z.buffer _).edgeOf src = _ from z.buffer_room r room, show (z.edgeOf r.src) = _ from hz]
    exact ⟨rfl, rfl, rfl⟩
  · obtain ⟨hs, ha, hc⟩ := hv
    have e1 : exec (.deglitchEnd t src) s = .next (s1.judge src) := rfl
    obtain ⟨z, ez, dz, hz⟩ := s1.judge_live src e x y rest rfl hh.1 hh.2 ((if_neg (by omega)).trans ha) hc
    have full : bufferSize src ≤ (z.edgeOf src).buf.length := by
      rw [hz]
      exact hn
    rw [ez, show z.buffer _ = _ from z.buffer_full r full] at e1
    refine ⟨_, e1, ?_⟩
    dsimp only
    rw [show (z.loseEvent r.src r.stamp).edgeOf src = _ from z.loseEvent_edge src _, hz]
    refine ⟨rfl, rfl, fun h => ?_⟩
    have lost : z.loseEvent r.src r.stamp = State.cnt _ Ix.laneBufDrops src := if_pos h
    rw [lost]
    have zd : z.Has Ix.laneBufDrops src (s.par Ix.laneBufDrops src) := .dict (.start (s := s) w) dz
    exact State.Has.par (.counted (.dict zd rfl) (by decide))
  · have e1 : exec (.deglitchEnd t src) s = .next (s1.judge src) := rfl
    have dead : (s1.setEdge src { e with edges := e.edges.drop 1 }).delivers src x.stamp = false :=
      (if_neg (by omega)).trans hv
    rw [s1.judge_accepts src e x y rest rfl hh.1 hh.2, State.acceptEdge_dead _ src x dead, State.edgeOf_setEdge] at e1
    refine ⟨_, e1, ?_⟩
    dsimp only
    rw [State.edgeOf_setEdge]
    exact ⟨rfl, rfl, rfl, rfl⟩

/-! ### Digital samples and window comparators (R63, R66 to R68) -/

theorem State.edgeOf_buffer (s : State) (lane : Nat) (r : Rec) (hr : r.src = lane) (h : (s.edgeOf lane).buf.length < bufferSize lane) :
    (s.buffer r).edgeOf lane = { s.edgeOf lane with buf := (s.edgeOf lane).buf ++ [r] } := by
  subst hr
  exact s.buffer_room r h

/-- Where the comparator's codes stand, it sees one zone (R67, R68). -/
theorem State.fcZones_settled (s : State) (lane old : Nat) (sig : Int)
    (h : ∀ ix ∈ [Ix.laneFcLo, Ix.laneFcHi, Ix.laneFcHyst], s.parAt s.now ix lane = s.parAt s.dacPast ix lane) :
    s.fcZones lane old sig
      = [fcZone (s.parAt s.now Ix.laneFcLo lane) (s.parAt s.now Ix.laneFcHi lane) (s.parAt s.now Ix.laneFcHyst lane) old sig] := by
  unfold State.fcZones
  simp only [List.mem_cons, List.not_mem_nil, or_false, forall_eq_or_imp, forall_eq] at h
  obtain ⟨h1, h2, h3⟩ := h
  simp only [← h1, ← h2, ← h3, List.flatMap_cons, List.flatMap_nil, List.map_cons, List.map_nil, List.append_nil, List.cons_append,
    List.nil_append]
  simp [List.eraseDups_cons]

theorem State.fcSee_settled (s : State) (lane t : Nat) (sig : Int) (z : Nat)
    (h : s.fcZones lane (s.par Ix.laneFcZone lane) sig = [z]) :
    s.fcSee lane t sig = if z = s.par Ix.laneFcZone lane then s else s.fcReport lane t z := by
  unfold State.fcSee
  dsimp only
  rw [h]
  rfl

/-- The first report in a coarse period (R68). -/
theorem State.fcReport_first (s : State) (lane t z : Nat) (e : EdgeSt) (he : s.edgeOf lane = e) (hz : z ≠ s.par Ix.laneFcZone lane)
    (h : e.fcSeen.map Prod.fst ≠ some t) :
    s.fcReport lane t z = ((s.setEdge lane { e with fcSeen := some (t, s.par Ix.laneFcZone lane) }).setPar Ix.laneFcZone lane z).buffer
      (recFcTransition t lane z) := by
  have none_ : (e.fcSeen.filter (fun x => decide (x.1 = t))).map Prod.snd = none := by
    cases g : e.fcSeen with
    | none => rfl
    | some x =>
      rw [g] at h
      have : ¬ x.1 = t := fun g => h (congrArg some g)
      simp [Option.filter, this]
  unfold State.fcReport
  dsimp only
  rw [he, none_]
  exact if_neg hz

/-- A further report in the same coarse period takes the place of the one before (R68). -/
theorem State.fcReport_again (s : State) (lane t z : Nat) (e : EdgeSt) (he : s.edgeOf lane = e) (h : e.fcSeen.map Prod.fst = some t) :
    ∃ before x, s.fcReport lane t z = (if z = before then x else x.buffer (recFcTransition t lane z))
      ∧ x = (s.setEdge lane { e with buf := e.buf.filter (fun r => !r.fcAt t), fcSeen := some (t, before) }).setPar Ix.laneFcZone lane z := by
  obtain ⟨x, hx, g⟩ := Option.map_eq_some_iff.mp h
  have some_ : (e.fcSeen.filter (fun x => decide (x.1 = t))).map Prod.snd = some x.2 := by
    rw [hx]
    simp [Option.filter, g]
  refine ⟨x.2, _, ?_, rfl⟩
  unfold State.fcReport
  dsimp only
  rw [he, some_]
  rfl

theorem rangeGain_eq (n : Nat) : rangeGain n = [1, 2, 8, 32, 128].getD n 128 := by
  rcases n with _ | _ | _ | _ | _ | n <;> rfl

theorem sampleWord_eq (n lv : Nat) : sampleWord n lv = min n 65535 * 65536 + (if n = 0 then 0 else 2) + lv := by
  unfold sampleWord
  by_cases h : n = 0
  · rw [if_pos h, decide_eq_false (Decidable.not_not.mpr h)]
    rfl
  · rw [if_neg h, decide_eq_true h]
    rfl

/-- The sample of an instant, of the edges that are counted (R63). -/
theorem State.digitalSample_eq (s : State) (lane i : Nat) (e : EdgeSt) (he : s.edgeOf lane = e) :
    s.digitalSample lane i = (s.setEdge lane { e with
      counted := e.counted.filter (fun x => decide (i < x.1))
      sampleLevel := ((e.counted.filter (fun x => decide (x.1 ≤ i))).getLast?.map Prod.snd).getD e.sampleLevel
      sampleFrom := i + 1 }).buffer (recSample i lane 0 0 2
        (sampleWord ((e.counted.filter (fun x => decide (x.1 ≤ i))).filter (fun x => decide (i < x.1 + s.sampPeriod lane))).length
          (((e.counted.filter (fun x => decide (x.1 ≤ i))).getLast?.map Prod.snd).getD e.sampleLevel)) false) := by
  unfold State.digitalSample
  dsimp only
  rw [he]
  cases (e.counted.filter (fun x => decide (x.1 ≤ i))).getLast? <;> rfl

/-- Settles O28: the sample from its definition, the comparator's report by whether it is the first of its coarse period. -/
theorem laneSamples : Obligations.LaneSamples := by
  intro s t i lane pos neg inv
  obtain ⟨-, w, -⟩ := inv
  intro s1 e mine n lv old gain at_ z settled began sees
  have fc : sees → exec (.fcZoneChange t lane pos neg) s = .next (if z = old then s1 else s1.fcReport lane began z) := by
    intro ⟨hr, hz, hs⟩
    have e1 : exec (.fcZoneChange t lane pos neg) s = .next (s1.fcSee lane began (s1.fcInput lane pos neg)) :=
      if_pos ⟨hr, by rw [hz]; rfl⟩
    have zs : s1.fcZones lane old (s1.fcInput lane pos neg) = [z] := by
      rw [s1.fcZones_settled lane old _ hs, show s1.fcInput lane pos neg = gain * (pos - neg) from
        congrArg (· * (pos - neg)) (rangeGain_eq _)]
    rw [e1, s1.fcSee_settled lane began _ z zs]
    rfl
  have places : bufferSize lane = 256 := if_pos lane.isLt
  refine ⟨fun hr hn => ?_, fun hs hz => ?_, fun hs hz hf hn => ?_, fun hs hz hf hn => ?_⟩
  · have e1 : exec (.digitalSample t lane i) s = .next (s1.digitalSample lane i) := if_pos hr
    rw [s1.digitalSample_eq lane i e rfl, sampleWord_eq] at e1
    refine ⟨_, e1, ?_⟩
    dsimp only
    rw [State.edgeOf_buffer _ lane _ rfl (by rw [State.edgeOf_setEdge, places]; exact hn), State.edgeOf_setEdge]
    exact ⟨rfl, rfl⟩
  · rw [if_pos hz] at fc
    exact ⟨_, fc hs, rfl, rfl⟩
  · rw [if_neg hz, s1.fcReport_first lane began z e rfl hz hf] at fc
    refine ⟨_, fc hs, State.Has.par (.via (State.buffer_same ..) rfl (.written _ w)), ?_⟩
    rw [State.edgeOf_buffer _ lane _ rfl (by rw [State.edgeOf_setPar, State.edgeOf_setEdge, places]; exact hn), State.edgeOf_setPar,
      State.edgeOf_setEdge]
  · obtain ⟨before, x, ex, hx⟩ := s1.fcReport_again lane began z e rfl hf
    rw [if_neg hz, ex] at fc
    have xe : x.edgeOf lane = { e with buf := e.buf.filter (fun r => !r.fcAt began), fcSeen := some (began, before) } := by
      rw [hx, State.edgeOf_setPar, State.edgeOf_setEdge]
    have xz : x.Has Ix.laneFcZone lane z := hx ▸ .written _ w
    have gone : ∀ r ∈ e.buf.filter (fun r => !r.fcAt began), r.fcAt began = false := fun r hr => by
      simpa using (List.mem_filter.mp hr).2
    have empty : (e.buf.filter (fun r => !r.fcAt began)).filter (Rec.fcAt began) = [] :=
      List.filter_eq_nil_iff.mpr (fun r hr => by rw [gone r hr]; decide)
    by_cases hb : z = before
    · rw [if_pos hb] at fc
      refine ⟨_, fc hs, xz.par, ?_⟩
      rw [xe]
      exact ⟨by rw [empty]; decide, fun r hr hf => absurd hf (by rw [gone r hr]; decide)⟩
    · rw [if_neg hb] at fc
      have room : (x.edgeOf lane).buf.length < bufferSize lane := by
        rw [xe, places]
        exact Nat.lt_of_le_of_lt (List.length_filter_le ..) hn
      refine ⟨_, fc hs, State.Has.par (.via (State.buffer_same ..) rfl xz), ?_⟩
      rw [State.edgeOf_buffer x lane _ rfl room, xe]
      constructor
      · rw [List.filter_append, empty, List.nil_append]
        exact List.length_filter_le ..
      · intro r hr hf
        rcases List.mem_append.mp hr with hr | hr
        · exact absurd hf (by rw [gone r hr]; decide)
        · exact List.mem_singleton.mp hr

end Sys2Proof.Machine
end

section
/-! SUPPORT. Event paths (R64, R65, R142 to R147). -/
namespace Sys2Proof.Machine

/-! ### Records read and admitted -/

theorem w32_spec (a b c : Nat) (h : c < 2 ^ 20) : (w32 (a * 2 ^ 28 + b % 256 * 2 ^ 20 + c % 2 ^ 20)).toNat % 2 ^ 20 = c := by
  rw [w32, BitVec.toNat_ofNat]
  omega

/-- A record whose codewords are in order is read as it is (R283, R284). -/
theorem State.readEntry_clean (s : State) (i : Nat) (r : Rec) (h : r.spec < 2 ^ 20) : s.readEntry [] i r = (s, r) := by
  show (s, ({ r with spec := ((wordsOfBytes (bytesOfWords (r.header :: r.body))).headD 0).toNat % 2 ^ 20
                     body := (wordsOfBytes (bytesOfWords (r.header :: r.body))).drop 1 } : Rec)) = (s, r)
  rw [wordsOfBytes_bytesOfWords]
  show (s, ({ r with spec := r.header.toNat % 2 ^ 20 } : Rec)) = (s, r)
  rw [Rec.header, w32_spec _ _ _ h]

theorem State.cnt_cw (s : State) (ix sub : Nat) : (s.cnt ix sub).cw = s.cw := (State.cnt_frame s ix sub).cw rfl

/-- An item that is admitted stands at its place in the store; nothing else of the Causeway changes. -/
theorem State.admitItem_cw (s : State) (x : Item) : (s.admitItem x).cw = { s.cw with store := insertItem x s.cw.store } := by
  have store : (s.store x).cw = { s.cw with store := insertItem x s.cw.store } := by
    unfold State.store
    exact State.mark_cw ..
  unfold State.admitItem
  extract_lets s1
  split
  · exact (State.cnt_cw ..).trans store
  · exact store

theorem State.admitRec_edgeOf (s : State) (r : Rec) (n : Nat) : (s.admitRec r).edgeOf n = s.edgeOf n :=
  State.edgeOf_same (s.admitRec_same r) rfl n

theorem State.Has.cntW {s : State} {ix sub v : Nat} (h : s.Has ix sub v) (n : Nat) : (s.cntW ix sub n).Has ix sub ((v + n) % 2 ^ 64) :=
  h.par ▸ .written s h.wf

/-! ### Concentrators -/

theorem tfind_of_find_none {α : Type} (t : Tbl α) (k : Nat) (h : t.find? (fun x => x.1 == k) = none) : tfind t k = none := by
  induction t with
  | nil => rfl
  | cons x t ih =>
    rw [List.find?_cons] at h
    split at h
    · exact nomatch h
    · next hx =>
      obtain ⟨j, b⟩ := x
      rw [tfind, if_neg (by simpa using hx), ih h]
      exact ite_self _

/-- A concentrator whose sources hold nothing offers nothing (R64). -/
theorem State.portOffers_empty (s : State) (c : Nat) (h : ∀ o ∈ sourcesOf c, (s.edgeOf o).buf = []) : s.portOffers c = false := by
  have none_ : s.turnOf c = none := by
    unfold State.turnOf
    extract_lets l n from_
    rw [List.find?_eq_none]
    intro o ho
    have : o ∈ l := by
      rcases List.mem_append.mp ho with g | g
      · exact List.mem_of_mem_drop g
      · exact List.mem_of_mem_take g
    rw [State.waits, h o this]
    exact Bool.false_ne_true
  unfold State.portOffers
  rw [none_, Bool.and_eq_false_iff]
  exact .inr rfl

/-- The first concentrator of a cycle in which no other has an event is admitted (R142, R143). -/
theorem State.portAdmits_alone (s : State) (c : Nat) (hc : s.cw.port.cycle ≠ s.now / 1280)
    (h : ∀ d ∈ List.range 25, d ≠ c → ∀ o ∈ sourcesOf d, (s.edgeOf o).buf = []) (ho : s.occupancy < 65536) :
    s.portAdmits c = true := by
  have fresh : (s.cw.port.at_ (s.now / 1280)).taken = 0 := congrArg PortSt.taken (if_neg hc)
  unfold State.portAdmits
  extract_lets p first
  have none_ : first = [] := by
    refine List.filter_eq_nil_iff.mpr (fun d hd g => ?_)
    by_cases e : d = c
    · rw [e, decide_eq_false (Nat.lt_irrefl _)] at g
      exact Bool.false_ne_true g
    · rw [s.portOffers_empty d (h d hd e), Bool.and_false] at g
      exact Bool.false_ne_true g
  rw [none_, show p.taken = 0 from fresh, decide_eq_true ho]
  rfl

/-- The event is admitted (R142). -/
theorem State.portOffer_admits (s : State) (src : Nat) (e : EdgeSt) (r : Rec) (rest : List Rec) (he : s.edgeOf src = e)
    (hb : e.buf = r :: rest) (ha : s.portAdmits (concentrator src) = true) (hr : r.spec < 2 ^ 20) :
    s.portOffer src [] = State.admitRec { s.setEdge src { e with buf := rest } with cw := { s.cw with
      port := ((s.cw.port.at_ (s.now / 1280)).offer (concentrator src) src (s.now / 256)).serve (concentrator src) } } r := by
  unfold State.portOffer
  dsimp only
  rw [he, hb]
  dsimp only
  rw [if_pos ha, State.readEntry_clean _ _ _ hr]

/-- The event waits (R142, R143). -/
theorem State.portOffer_waits (s : State) (src : Nat) (r : Rec) (rest : List Rec)
    (hb : (s.edgeOf src).buf = r :: rest) (ha : s.portAdmits (concentrator src) = false) :
    s.portOffer src [] = State.cnt { s with cw := { s.cw with port := { s.cw.port.at_ (s.now / 1280) with
      offered := tset (s.cw.port.at_ (s.now / 1280)).offered (concentrator src) (s.now / 256) } } } Ix.cwAdmitWaits 0 := by
  unfold State.portOffer
  dsimp only
  rw [hb]
  exact if_neg (by rw [ha]; decide)

/-- A closed account leaves as one GAP record, counted with what it lost (R146, R147). -/
theorem State.closeAccount_closes (s : State) (src : Nat) (a : Account) (w : Dict.wf s.dict) :
    (s.closeAccount src a).edgeOf src = s.edgeOf src
      ∧ (s.closeAccount src a).cw.store
        = insertItem (.record (recGap a.start src 0 false (a.last - a.start + 1) a.count) none) s.cw.store
      ∧ (s.closeAccount src a).par Ix.cwGapRecords 0 = (s.par Ix.cwGapRecords 0 + 1) % 2 ^ 64
      ∧ (s.closeAccount src a).par Ix.cwLostEvents 0 = (s.par Ix.cwLostEvents 0 + a.count) % 2 ^ 64
      ∧ (s.closeAccount src a).par Ix.cwSourceGaps src = cntNext (s.par Ix.cwSourceGaps src) := by
  have f := s.admitRec_same (recGap a.start src 0 false (a.last - a.start + 1) a.count)
  have st : (s.admitRec (recGap a.start src 0 false (a.last - a.start + 1) a.count)).cw.store = _ :=
    congrArg CwSt.store (s.admitItem_cw (.record (recGap a.start src 0 false (a.last - a.start + 1) a.count) none))
  have ed := s.admitRec_edgeOf (recGap a.start src 0 false (a.last - a.start + 1) a.count) src
  have h1 : (s.admitRec _).Has Ix.cwGapRecords 0 _ := (State.Has.start w).same f rfl
  have h2 : (s.admitRec _).Has Ix.cwLostEvents 0 _ := (State.Has.start w).same f rfl
  have h3 : (s.admitRec _).Has Ix.cwSourceGaps src _ := (State.Has.start w).same f rfl
  unfold State.closeAccount
  generalize s.admitRec (recGap a.start src 0 false (a.last - a.start + 1) a.count) = x at *
  refine ⟨?_, ?_, ?_, ?_, ?_⟩
  · rw [State.edgeOf_cnt]
    exact ed
  · rw [State.cnt_cw]
    exact st
  · exact State.Has.par (.cnt (.setPar (h1.cntW 1) (by decide)) (by decide))
  · exact State.Has.par (.cnt (.cntW (.setPar h2 (by decide)) a.count) (by decide))
  · exact State.Has.par (.counted (.setPar (.setPar h3 (by decide)) (by decide)) (by decide))

/-- Settles O29: the main port's choice, the loss accounts and the store, each by its rule above. -/
theorem eventPaths : Obligations.EventPaths := by
  intro s t src r rest a inv
  obtain ⟨-, w, -⟩ := inv
  intro s1 e c runs offered alone
  have merging : runs → s1.merging = true := fun ⟨h, g⟩ => Bool.and_eq_true_iff.mpr ⟨h, decide_eq_true g⟩
  have turn : offered → exec (.eventDelivery t src []) s = .next (s1.portOffer src []) := by
    intro ⟨hr, _, ht, ho⟩
    refine if_pos ⟨merging hr, ?_, ht⟩
    unfold State.portOffers
    rw [show (s.enter t).turnOf (concentrator src) = some src.val from ht,
      show tfind (s.enter t).cw.port.offered (concentrator src) = none from tfind_of_find_none _ _ ho]
    rfl
  refine ⟨fun ho ha hn hr => ?_, fun ho hw => ?_, fun hb hd ht => ?_, fun hr ha hd => ?_⟩
  · have e1 := turn ho
    rw [s1.portOffer_admits src e r rest rfl ho.2.1 (s1.portAdmits_alone c ha.1 ha.2 hn) hr] at e1
    refine ⟨_, e1, ?_, ?_, ?_, ?_⟩
    · rw [State.admitRec_edgeOf]
      exact congrArg EdgeSt.buf (s1.edgeOf_setEdge src { e with buf := rest })
    · exact congrArg CwSt.store (State.admitItem_cw _ (.record r none))
    · refine (congrArg (fun k : CwSt => k.port.taken) (State.admitItem_cw _ (.record r none))).trans ?_
      show (((s1.cw.port.at_ (s1.now / 1280)).offer c src (s1.now / 256)).serve c).taken = 1
      rw [PortSt.at_, if_neg (show ¬ s1.cw.port.cycle = s1.now / 1280 from ha.1)]
      rfl
    · refine (congrArg (fun k : CwSt => k.port.last) (State.admitItem_cw _ (.record r none))).trans ?_
      show (((s1.cw.port.at_ (s1.now / 1280)).offer c src (s1.now / 256)).serve c).last = c
      rw [PortSt.at_, if_neg (show ¬ s1.cw.port.cycle = s1.now / 1280 from ha.1)]
      rfl
  · have full : s1.portAdmits c = false := by
      unfold State.portAdmits
      extract_lets p first
      rw [Bool.and_eq_false_iff, decide_eq_false_iff_not, decide_eq_false_iff_not]
      rcases hw with h | ⟨h, g⟩
      · exact .inr (Nat.not_lt.mpr h)
      · have : p = s.cw.port := if_pos h
        rw [this]
        exact .inl (by omega)
    have e1 := turn ho
    rw [s1.portOffer_waits src r rest ho.2.1 full] at e1
    refine ⟨_, e1, ?_, ?_, ?_⟩
    · rw [State.edgeOf_cnt]
      exact ho.2.1
    · rw [State.cnt_cw]
      rfl
    · exact State.Has.par (.counted (.dict (.start (s := s) w) rfl) (by decide))
  · have e1 : exec (.bufDrop t src) s = .next ((s1.setEdge src { e with buf := rest }).loseEvent src r.stamp) := by
      show execBufDrop t src s = _
      unfold execBufDrop State.dropHead
      dsimp only
      rw [show ((s.enter t).edgeOf src).buf = r :: rest from hb]
      exact if_pos ⟨hd, ht⟩
    have ee := (s1.setEdge src { e with buf := rest }).loseEvent_edge src r.stamp
    rw [State.edgeOf_setEdge] at ee
    refine ⟨_, e1, ?_, ?_, fun h => ?_, fun h h1 h2 => ?_, fun h => ?_⟩
    · rw [ee]
    · exact (State.loseEvent_same ..).cw rfl
    · rw [ee]
      show joinAccount r.stamp e.accounts = _
      rw [h]
      rfl
    · rw [ee]
      show joinAccount r.stamp e.accounts = _
      rw [h]
      exact if_pos ⟨h1, h2⟩
    · have lost : (s1.setEdge src { e with buf := rest }).loseEvent src r.stamp = State.cnt _ Ix.laneBufDrops src := if_pos h
      rw [lost]
      exact State.Has.par (.counted (.dict (.start (s := s) w) rfl) (by decide))
  · have e1 : exec (.lossAccountClose t src) s = .next ((s1.setEdge src { e with accounts := [] }).closeAccount src a) := by
      show execLossAccountClose t src s = _
      unfold execLossAccountClose
      dsimp only
      rw [show ((s.enter t).edgeOf src).accounts = [a] from ha]
      have found : [a].find? (fun x => [a].all fun b => decide (x.start ≤ b.start)) = some a := by
        simp
      rw [found]
      have erased : [a].erase a = [] := by simp
      dsimp only
      rw [erased]
      exact if_pos ⟨hd, merging hr⟩
    have wx : Dict.wf (s1.setEdge src { e with accounts := [] }).dict := w
    obtain ⟨c1, c2, c3, c4, c5⟩ := (s1.setEdge src { e with accounts := [] }).closeAccount_closes src a wx
    exact ⟨_, e1, by rw [c1, State.edgeOf_setEdge], c2, c3, c4, c5⟩

/-! ### The Causeway's release (R140, R152) -/

/-- With room for all of them the due records leave and the others stay, in order. -/
theorem splitDue_room (due : Item → Bool) (l : List Item) (hl : ∀ x ∈ l, x.isRecord = true) :
    ∀ n g, (l.filter due).length ≤ n → (l.filter due).length ≤ g → splitDue due n g l = (l.filter due, l.filter (fun i => !due i)) := by
  induction l with
  | nil => exact fun _ _ _ _ => rfl
  | cons x l ih =>
    intro n g hn hg
    have ihl := ih (fun y hy => hl y (List.mem_cons_of_mem _ hy))
    unfold splitDue
    dsimp only
    cases hd : due x with
    | false =>
      rw [List.filter_cons_of_neg (by rw [hd]; decide)] at hn hg
      rw [List.filter_cons_of_neg (by rw [hd]; decide), List.filter_cons_of_pos (by rw [hd]; rfl), ihl n g hn hg]
      rfl
    | true =>
      rw [List.filter_cons_of_pos hd, List.length_cons] at hn hg
      rw [List.filter_cons_of_pos hd, List.filter_cons_of_neg (by rw [hd]; decide), hl x List.mem_cons_self,
        if_neg (by decide), if_neg (by decide)]
      split
      · rw [if_neg (by omega), ihl n (g - 1) (by omega) (by omega)]
      · rw [if_neg (by omega), ihl (n - 1) g (by omega) (by omega)]

/-- Of due records without GAPs as many leave as there is room for (R140). -/
theorem splitDue_full (due : Item → Bool) (g : Nat) (l : List Item)
    (hl : ∀ x ∈ l, due x = true ∧ x.isRecord = true ∧ x.isGap = false) : ∀ n, splitDue due n g l = (l.take n, l.drop n) := by
  induction l with
  | nil => exact fun n => by rw [List.take_nil, List.drop_nil]; rfl
  | cons x l ih =>
    intro n
    obtain ⟨h1, h2, h3⟩ := hl x List.mem_cons_self
    have ihl := ih (fun y hy => hl y (List.mem_cons_of_mem _ hy))
    unfold splitDue
    dsimp only
    rw [h1, h2, h3, if_neg (by decide), if_neg (by decide), if_neg (by decide)]
    cases n with
    | zero => rfl
    | succ n =>
      rw [if_neg (by omega), Nat.add_sub_cancel, ihl n]
      rfl

/-- A record that comes before none of a list's goes to its end. -/
theorem insertItem_last (x : Item) (l : List Item) (h : ∀ y ∈ l, x.before y = false) : insertItem x l = l ++ [x] := by
  induction l with
  | nil => rfl
  | cons y l ih =>
    unfold insertItem
    rw [h y List.mem_cons_self, ih (fun z hz => h z (List.mem_cons_of_mem _ hz))]
    rfl

/-- Records in order whose codewords are clean are read as they stand (R137, R284). -/
theorem State.readItems_clean (s : State) (l : List Item) (hl : ∀ x ∈ l, ∃ r o, x = .record r o ∧ r.spec < 2 ^ 20) :
    ∀ i done, (done ++ l).Pairwise (fun x y => y.before x = false) → State.readItems [] i done l s = (s, done ++ l) := by
  induction l with
  | nil => exact fun i done _ => by rw [List.append_nil]; rfl
  | cons x l ih =>
    intro i done hp
    obtain ⟨r, o, rfl, hr⟩ := hl x List.mem_cons_self
    have last : insertItem (.record r o) done = done ++ [.record r o] :=
      insertItem_last _ _ (fun y hy => (List.pairwise_append.mp hp).2.2 y hy _ List.mem_cons_self)
    unfold State.readItems
    dsimp only
    rw [s.readEntry_clean i r hr, last, ih (fun y hy => hl y (List.mem_cons_of_mem _ hy)) (i + 1) _ (by rwa [List.append_assoc]),
      List.append_assoc]
    rfl

theorem State.releaseItems_cw (l : List Item) : ∀ s : State,
    (l.foldl State.releaseItem s).cw = { s.cw with intake := s.cw.intake ++ l } := by
  induction l with
  | nil => exact fun s => by rw [List.append_nil]; rfl
  | cons x l ih =>
    intro s
    have step : (s.releaseItem x).cw = { s.cw with intake := s.cw.intake ++ [x] } := by
      unfold State.releaseItem
      split
      · dsimp only
        rw [State.mark_cw]
      · rfl
    rw [List.foldl_cons, ih, step, List.append_assoc]
    rfl

/-- With records alone in the intake no change acts between two items. -/
theorem State.settleCtl_records (s : State) (h : s.cw.intake.all Item.isRecord = true) : s.settleCtl = s := by
  unfold State.settleCtl
  cases hi : s.cw.intake with
  | nil => rfl
  | cons x l =>
    rw [hi, List.all_cons, Bool.and_eq_true] at h
    cases x with
    | ctl t c => exact absurd h.1 Bool.false_ne_true
    | record r o =>
      show State.settle (l.length + 1) s = s
      unfold State.settle
      rw [hi]

theorem State.itemDone_records (s : State) (h : s.cw.intake.all Item.isRecord = true) :
    s.itemDone = s.enterEnds s.keystonePassed := by
  unfold State.itemDone
  rw [s.settleCtl_records h]

/-- With records alone in the intake and no slot occupied nothing acts between two items. -/
theorem State.itemDone_idle (s : State) (h : s.cw.intake.all Item.isRecord = true) (hs : s.slots = []) : s.itemDone = s := by
  rw [s.itemDone_records h, State.enterEnds, hs]
  rfl

/-- A release of clean records in order: what leaves and what stays are what the split gives (R140). -/
theorem State.releaseDue_clean (s : State) (out left : List Item)
    (hsplit : splitDue (fun x => x.inBuckets s.dueBucket && !s.openGuard x) 64 32 s.cw.store = (out, left))
    (hc : s.cw.port.outCycle ≠ s.now / 1280) (ho : ∀ x ∈ out, ∃ r o, x = .record r o ∧ r.spec < 2 ^ 20)
    (hp : out.Pairwise (fun x y => y.before x = false)) :
    (s.releaseDue []).cw.intake = s.cw.intake ++ out ∧ (s.releaseDue []).cw.store = left := by
  have fresh : s.cw.port.out (s.now / 1280) = { s.cw.port with outCycle := s.now / 1280, outEvents := 0, outGaps := 0 } := if_neg hc
  unfold State.releaseDue
  extract_lets +onlyGivenNames -merge b due p r
  have hr : r = (out, left) := by
    unfold r p
    rw [fresh]
    exact hsplit
  clear_value r
  subst hr
  extract_lets +onlyGivenNames -merge lft gaps events q _ s1 u
  have hu : u = (s1, out) := s1.readItems_clean out ho 0 [] hp
  rw [hu, State.releaseItems_cw]
  exact ⟨rfl, rfl⟩

/-- A bucket is due by the horizon where its end and the horizon lie at or before the cycle (R140). -/
theorem inBuckets_iff (b h n d : Nat) :
    (b < max d (dueBuckets h n)) ↔ (b < d ∨ (b + 1) * 1280 + h ≤ n / 1280 * 1280) := by
  unfold dueBuckets
  omega

/-- Settles O30: what is due by `inBuckets_iff`, what leaves by `splitDue_room` and `splitDue_full`. -/
theorem causewayReleases : Obligations.CausewayReleases := by
  intro s t inv
  obtain ⟨-, w, -⟩ := inv
  intro s1 runs due plain stands
  have merging : runs → s1.merging = true := fun ⟨h, g⟩ => Bool.and_eq_true_iff.mpr ⟨h, decide_eq_true g⟩
  have slots : stands → s1.slots = [] := fun h => h.2.1
  have dueEq : stands → (fun x : Item => x.inBuckets s1.dueBucket && !s1.openGuard x) = due := by
    intro h
    funext x
    have closed : s1.openGuard x = false := by
      unfold State.openGuard
      rw [slots h]
      split <;> rfl
    rw [closed, Bool.not_false, Bool.and_true]
    exact Bool.eq_iff_iff.mpr (by
      rw [Item.inBuckets, decide_eq_true_eq, Bool.or_eq_true, decide_eq_true_eq, decide_eq_true_eq]
      exact inBuckets_iff ..)
  have clean : stands → ∀ x ∈ s.cw.store, ∃ r o, x = .record r o ∧ r.spec < 2 ^ 20 := by
    intro h x hx
    have := List.all_eq_true.mp h.2.2.1 x hx
    cases x with
    | ctl t c => exact absurd this Bool.false_ne_true
    | record r o => exact ⟨r, o, rfl, of_decide_eq_true this⟩
  -- what leaves and what stays, whatever the split
  have leaves : runs → stands → ∀ out left : List Item, splitDue due 64 32 s.cw.store = (out, left) → out.Sublist s.cw.store →
      Completes (.causewayRelease t []) s (fun u => u.cw.intake = s.cw.intake ++ out ∧ u.cw.store = left) := by
    intro hr hs out left hsplit sub
    have e1 : exec (.causewayRelease t []) s = .next (s1.releaseDue []).itemDone := if_pos (merging hr)
    obtain ⟨r1, r2⟩ := s1.releaseDue_clean out left (by rw [dueEq hs]; exact hsplit) hs.2.2.2.2
      (fun x hx => clean hs x (sub.subset hx)) (hs.1.sublist sub)
    have idle : (s1.releaseDue []).itemDone = s1.releaseDue [] := by
      refine State.itemDone_idle _ ?_ (((s1.releaseDue_same []).slots rfl).trans (slots hs))
      rw [r1, List.all_append, show s1.cw.intake.all Item.isRecord = true from hs.2.2.2.1, Bool.true_and]
      refine List.all_eq_true.mpr (fun x hx => ?_)
      obtain ⟨r, o, rfl, -⟩ := clean hs x (sub.subset hx)
      rfl
    rw [idle] at e1
    exact ⟨_, e1, r1, r2⟩
  have isRecord : stands → ∀ x ∈ s.cw.store, x.isRecord = true := fun hs x hx => by
    obtain ⟨r, o, rfl, -⟩ := clean hs x hx
    rfl
  refine ⟨fun hr hs hn => ?_, fun hr hs hd hn hg => ?_, fun hr => ?_⟩
  · exact leaves hr hs _ _ (splitDue_room due s.cw.store (isRecord hs) 64 32 (by omega) hn) List.filter_sublist
  · exact leaves hr hs _ _ (splitDue_full due 32 s.cw.store (fun x hx => ⟨List.all_eq_true.mp hd x hx, isRecord hs x hx, by
      simpa using List.all_eq_true.mp hg x hx⟩) 64) (List.take_sublist ..)
  · have e1 : exec (.causewayRelease t []) s = .next s1 := if_neg (fun h => hr (by
      obtain ⟨a, b⟩ := Bool.and_eq_true_iff.mp h
      exact ⟨a, of_decide_eq_true b⟩))
    exact ⟨_, e1, rfl⟩

end Sys2Proof.Machine
end

section
/-! SUPPORT. Keystone's items (R158 to R183). -/
namespace Sys2Proof.Machine

/-! ### What waits for Keystone

An item's actions put records into the store and change the streams; what has been released and waits, and the past values of
the time line, stay. -/

/-- The intake and the past values stay. -/
structure Inlet (s t : State) : Prop where
  intake : t.cw.intake = s.cw.intake
  past : t.cw.past = s.cw.past

theorem Inlet.refl (s : State) : Inlet s s := ⟨rfl, rfl⟩

theorem Inlet.trans {s u t : State} (h : Inlet s u) (g : Inlet u t) : Inlet s t := ⟨g.1.trans h.1, g.2.trans h.2⟩

theorem Inlet.after {s u t : State} (g : Inlet u t) (h : Inlet s u) : Inlet s t := h.trans g

theorem Inlet.of_cw {s t : State} (e : t.cw = s.cw) : Inlet s t := ⟨congrArg CwSt.intake e, congrArg CwSt.past e⟩

theorem Inlet.of_same {m : Nat} {s t : State} (h : Same m s t) (hb : m.testBit 25 = false) : Inlet s t :=
  .of_cw (h.cw hb)

theorem Inlet.ite {s a b : State} {c : Prop} [Decidable c] (ha : Inlet s a) (hb : Inlet s b) : Inlet s (if c then a else b) := by
  split <;> assumption

theorem Inlet.foldl {α : Type} {f : State → α → State} (hf : ∀ v a, Inlet v (f v a)) (l : List α) (s : State) :
    Inlet s (l.foldl f s) :=
  foldl_keeps (I := Inlet s) (fun u a h => h.trans (hf u a)) l s (Inlet.refl s)

theorem State.admitItem_inlet (s : State) (x : Item) : Inlet s (s.admitItem x) :=
  ⟨by rw [s.admitItem_cw], by rw [s.admitItem_cw]⟩

theorem State.emitItem_inlet (s : State) (x : Item) : Inlet s (s.emitItem x) := .ite (s.admitItem_inlet x) ⟨rfl, rfl⟩

theorem State.emit_inlet (s : State) (r : Rec) : Inlet s (s.emit r) := s.emitItem_inlet _

/-! #### The streams -/

theorem State.noteClose_inlet (s : State) : Inlet s s.noteClose := ⟨rfl, rfl⟩

theorem State.intoBeryl_inlet (s : State) (n : Nat) (f : Frame) : Inlet s (s.intoBeryl n f) := by
  unfold State.intoBeryl
  extract_lets +onlyGivenNames -merge u x
  have h : Inlet s u := s.noteClose_inlet
  exact .ite (h.trans (.of_cw rfl)) (.ite (h.trans (.trans (.of_cw (State.cnt_cw ..)) (.of_same (State.refuseFrame_same ..) rfl)))
    (h.trans (.of_cw (State.mark_cw ..))))

/-- The frame that an open frame of stream `n` makes as it closes. -/
def StreamSt.closed (x : StreamSt) (f : OpenFrame) (n : Nat) (flushed : Bool) : Frame :=
  { base := f.base, quality := f.quality, epoch := f.epoch, chip := x.chip, stream := n, level := x.level, seq := 0, flushed := flushed
    gap := f.gap, comp := false, payload := padded f.words, stored := padded f.words, records := f.records, last := f.last }

theorem State.closeFrame_none {s : State} {n rule : Nat} {flushed : Bool} (h : (s.streamOf n).open_ = none) :
    s.closeFrame n rule flushed = s := by
  unfold State.closeFrame
  dsimp only
  rw [h]

theorem State.closeFrame_some {s : State} {n rule : Nat} {flushed : Bool} {f : OpenFrame} (h : (s.streamOf n).open_ = some f) :
    s.closeFrame n rule flushed = ((s.setStream n { (s.streamOf n) with open_ := none }).setPar Ix.streamLastClose n rule).intoBeryl n
      ((s.streamOf n).closed f n flushed) := by
  unfold State.closeFrame
  dsimp only
  rw [h]
  rfl

theorem State.closeFrame_inlet (s : State) (n rule : Nat) (flushed : Bool) : Inlet s (s.closeFrame n rule flushed) := by
  cases h : (s.streamOf n).open_ with
  | none => rw [State.closeFrame_none h]; exact .refl s
  | some f => rw [State.closeFrame_some h]; exact .after (State.intoBeryl_inlet ..) (.of_cw rfl)

theorem State.placeRec_inlet (s : State) (n : Nat) (r : Rec) : Inlet s (s.placeRec n r) := .of_same (State.placeRec_same ..) rfl

theorem State.discardRecs_inlet (s : State) (n last k : Nat) : Inlet s (s.discardRecs n last k) :=
  .of_same (State.discardRecs_same ..) rfl

theorem State.appendRec_inlet (s : State) (n : Nat) (r : Rec) : Inlet s (State.appendRec n s r) := by
  unfold State.appendRec
  extract_lets x
  refine .ite (.refl s) (.ite (s.discardRecs_inlet ..) ?_)
  split
  · exact s.placeRec_inlet n r
  · next f _ =>
    have h := s.closeFrame_inlet n (closingRule f r) false
    exact .ite (s.placeRec_inlet n r) (.ite (h.trans (State.discardRecs_inlet ..)) (h.trans (State.placeRec_inlet ..)))

theorem State.feed_inlet (s : State) (n : Nat) (r : Rec) : Inlet s (State.feed n s r) := .ite (.of_cw rfl) (s.appendRec_inlet n r)

theorem State.take_inlet (s : State) (n : Nat) (r : Rec) : Inlet s (State.take r s n) := .ite (.of_cw rfl) (s.feed_inlet n r)

theorem State.deliver_inlet (s : State) (mask : Nat) (r : Rec) : Inlet s (s.deliver mask r) := .foldl (fun v n => v.take_inlet n r) _ s

/-! #### Actions and sequencers -/

theorem State.loadAction_inlet (s : State) (o : Origin) (a : ActEntry) : Inlet s (s.loadAction o a) := by
  unfold State.loadAction
  extract_lets +onlyGivenNames -merge due holdTo x keep
  split
  · extract_lets r
    exact .after (State.emit_inlet ..) (.of_cw (State.mark_cw ..))
  · extract_lets s1
    have h : s1.cw = s.cw := (State.setPar_cw ..).trans (State.cnt_cw ..)
    clear_value s1
    exact .after (s1.emit_inlet _) (.of_cw h)

theorem doAction_inlet (o : Origin) (r : ListRun) (a : ActEntry) : Inlet r.s (doAction o r a).s := by
  unfold doAction
  split
  · exact .of_cw rfl
  · exact .of_same (State.snapshotRequest_same ..) rfl
  · exact State.loadAction_inlet ..
  · exact State.loadAction_inlet ..
  · exact State.loadAction_inlet ..
  · exact .of_cw rfl
  · exact .of_cw rfl
  · exact .refl _
  · exact .refl _
  · exact .of_same (State.queueMarkOut_same ..) rfl
  · exact .refl _

theorem State.relay_inlet (s : State) (o : Origin) : Inlet s (s.relay o) := by
  unfold State.relay
  extract_lets q b
  exact .ite (.of_cw (State.cnt_cw ..)) (.after (State.emit_inlet ..) (.of_cw rfl))

theorem Run.runList_inlet (r : Run) (e : Ev) (k g : Nat) (f : Firing) : Inlet r.s (Run.runList r e k g f).s := by
  unfold Run.runList
  extract_lets +onlyGivenNames -merge o p l s1 src recs
  have h1 : Inlet r.s l.s :=
    foldl_keeps (I := fun u : ListRun => Inlet r.s u.s) (fun u a h => h.trans (doAction_inlet o u a)) _ { s := r.s } (.refl _)
  have h2 : Inlet r.s s1 := .ite h1 (h1.trans (State.relay_inlet ..))
  exact .ite (h2.trans (.of_cw (State.cnt_cw ..))) h2

theorem Run.fire_inlet (n : Nat) : ∀ (r : Run) (e : Ev) (k i : Nat) (f : Firing), Inlet r.s (Run.fire n r e k i f).s := by
  induction n with
  | zero => exact fun r _ _ _ _ => .refl _
  | succ n ih =>
    intro r e k i f
    unfold Run.fire
    extract_lets +onlyGivenNames -merge stage next r1 v
    have h1 : Inlet r.s r1.s := Run.runList_inlet ..
    have hv : Inlet r.s v.1.s :=
      h1.trans (.trans (.of_same (Run.enterStage_same r1 e k next) rfl) (.of_same (Run.evalStage_same ..) rfl))
    have stay : ∀ u : Run, Inlet r.s u.s → Inlet r.s (u.stay e k stage f).s := fun u h => h.trans (.of_same (Run.stay_same ..) rfl)
    clear_value v next
    split
    · exact h1
    · split
      · exact h1
      · split
        · exact stay _ h1
        · split
          · exact stay _ (h1.trans (.of_cw (State.cnt_cw ..)))
          · cases v.2 with
            | some g => exact hv.trans (ih _ _ _ _ _)
            | none => exact hv

theorem Run.evalSeq_inlet (e : Ev) (r : Run) (k : Nat) : Inlet r.s (Run.evalSeq e r k).s := by
  unfold Run.evalSeq
  split
  · exact .refl _
  · extract_lets +onlyGivenNames -merge due v q y r1
    have hv : Inlet r.s v.1.s := .of_same (Run.evalStage_same ..) rfl
    have h1 : Inlet r.s r1.s := by
      unfold r1
      split
      · exact hv.trans (.of_cw rfl)
      · exact hv
    have hf : ∀ f, Inlet r.s (Run.fire 5 r1 e k 0 f).s := fun f => h1.trans (Run.fire_inlet ..)
    generalize v.2 = o
    cases o with
    | some f => exact hf _
    | none =>
      dsimp only
      split
      · exact hf _
      · exact h1

theorem Run.arm_inlet (r : Run) (e : Ev) (k : Nat) : Inlet r.s (Run.arm r e k).s := by
  unfold Run.arm
  extract_lets +onlyGivenNames -merge q s1 v
  have h1 : Inlet r.s s1 := .of_cw rfl
  have hv : Inlet r.s v.1.s :=
    h1.trans (.trans (.of_same (Run.enterStage_same { r with s := s1 } ..) rfl) (.of_same (Run.evalStage_same ..) rfl))
  clear_value v
  cases v.2 with
  | some f => exact hv.trans (Run.fire_inlet ..)
  | none => exact hv

theorem Run.applyOp_inlet (e : Ev) (a : List (Nat × Bool)) (r : Run) (o : Nat × Bool) : Inlet r.s (Run.applyOp e a r o).s := by
  unfold Run.applyOp
  extract_lets +onlyGivenNames -merge k
  split
  · exact .refl _
  · split
    · split
      · exact .of_same (State.disarm_same ..) rfl
      · exact .refl _
    · split
      · exact .refl _
      · exact Run.arm_inlet ..

theorem Run.step3_inlet (n : Nat) : ∀ (e : Ev) (d : Nat) (r : Run), Inlet r.s (Run.step3 n e d r).s := by
  induction n with
  | zero => exact fun _ _ r => .refl _
  | succ n ih =>
    intro e d r
    unfold Run.step3
    split
    · exact .refl _
    · extract_lets all
      exact Inlet.trans (foldl_keeps (I := fun u : Run => Inlet r.s u.s) (fun u a h => h.trans (Run.applyOp_inlet e all u a)) _ r (.refl _))
        (ih _ _ _)

theorem Run.finish_inlet (r : Run) (e : Ev) (before : List Nat) (done : Nat) : Inlet r.s (r.finish e before done) := by
  unfold Run.finish
  extract_lets +onlyGivenNames -merge r0 r1 r2 inOrder
  have h0 : Inlet r.s r0.s := Run.step3_inlet ..
  have h1 : Inlet r.s r1.s :=
    foldl_keeps (I := fun u : Run => Inlet r.s u.s) (fun u a h => h.trans (.of_same (Run.countOp_same ..) rfl)) _ r0 h0
  have h2 : Inlet r.s r2.s :=
    foldl_keeps (I := fun u : Run => Inlet r.s u.s) (fun u a h => h.trans (.of_same (Run.timers_same ..) rfl)) _ r1 h1
  exact h2.trans (.foldl (fun v m => v.deliver_inlet m.2.1 m.2.2) inOrder r2.s)

theorem State.sequence_inlet (s : State) (e : Ev) : Inlet s (s.sequence e) :=
  Inlet.trans (foldl_keeps (I := fun u : Run => Inlet s u.s) (fun u k h => h.trans (Run.evalSeq_inlet e u k)) (List.range 4) { s := s } (.refl _))
    (Run.finish_inlet ..)

theorem State.enterEnds_inlet (s : State) (p : Nat) : Inlet s (s.enterEnds p) := by
  refine .foldl (fun v x => ?_) _ s
  unfold State.enterEnd
  exact .ite (.after (State.emit_inlet ..) (.of_cw rfl)) (.refl v)

/-! ### The units -/

theorem State.parAt_of_past {s t : State} (h : t.cw.past = s.cw.past) (a : Nat) {ix sub : Nat} (hp : t.par ix sub = s.par ix sub) :
    t.parAt a ix sub = s.parAt a ix sub := by
  unfold State.parAt State.valAt
  rw [h, show t.val (key ix sub) = s.val (key ix sub) from hp]

/-- With no past value kept a value stood as it stands (R150). -/
theorem State.parAt_present {s : State} (h : s.cw.past = []) (a ix sub : Nat) : s.parAt a ix sub = s.par ix sub := by
  unfold State.parAt State.valAt
  rw [h]
  rfl

/-- An operation that writes no unit's configuration and keeps the past values leaves it at every stamp. -/
theorem State.unitCfg_of_same {m : Nat} {s t : State} (f : Same m s t) (w : Dict.wf s.dict) (h : t.cw.past = s.cw.past)
    (hm : [Ix.keyCuType, Ix.keyCuSrcA, Ix.keyCuSrcB, Ix.keyCuMode, Ix.keyCuP1, Ix.keyCuP2, Ix.keyCuP3].all
      (fun ix => !m.testBit (42 + regNo ix)) = true) (a u : Nat) : t.unitCfg a u = s.unitCfg a u := by
  have p : ∀ ix ∈ [Ix.keyCuType, Ix.keyCuSrcA, Ix.keyCuSrcB, Ix.keyCuMode, Ix.keyCuP1, Ix.keyCuP2, Ix.keyCuP3],
      t.parAt a ix u = s.parAt a ix u := fun ix hx =>
    State.parAt_of_past h a (f.pars w ix u (by simpa using List.all_eq_true.mp hm ix hx))
  unfold State.unitCfg
  dsimp only
  rw [p _ (by decide), p _ (by decide), p _ (by decide), p _ (by decide), p _ (by decide), p _ (by decide), p _ (by decide)]

theorem State.unitCfg_present {s : State} (h : s.cw.past = []) (a b u : Nat) : s.unitCfg a u = s.unitCfg b u := by
  simp only [State.unitCfg, State.parAt_present h]

theorem State.place_at {s : State} (h : s.time.skipped = none) (d : Nat) : s.place d = d := by
  unfold State.place
  rw [h]

/-- The table is what the record makes of it; the units only read it (R165). -/
theorem State.unitsRecord_src (s : State) (r : Rec) : (s.unitsRecord r).1.src = (s.tableStep r).src := by
  refine foldl_keeps (I := fun p : State × Seen => p.1.src = (s.tableStep r).src) (fun p x h => ?_) _ (s.tableStep r, {}) rfl
  dsimp only
  split
  · exact h
  · exact ((staleStep_same ..).src rfl).trans (((unitRecord_same ..).src rfl).trans h)

/-- An EDGE unit of the record's source and sense occurs (R164). -/
theorem unitRecord_edge {r : Rec} {c : UnitCfg} (p : State × Seen) (u : Nat) (x : UnitSt) (hc : c.typ = 1) (ha : c.a = r.src)
    (ht : r.typ = 1) (hb : bit r.spec 19 = false) (he : edgeMatches (c.mode % 4) (r.spec % 4) = true) :
    unitRecord r p u x c = occurs p u := by
  have hA : c.hasA = true := by rw [UnitCfg.hasA, hc]; rfl
  unfold unitRecord
  dsimp only
  rw [hc, hA, ha, ht, hb, he, decide_eq_true rfl]
  rfl

/-- A record that reports no role change leaves the standing of every unit (R172). -/
theorem staleStep_other {r : Rec} (ht : r.typ ≠ 7) (p : State × Seen) (u : Nat) (x : UnitSt) (c : UnitCfg) : staleStep r p u x c = p := by
  unfold staleStep roleGenOf
  rw [if_neg (fun h => ht h.1)]

/-- The deadline of a PERIODIC timer (R171): it occurs and is set again. -/
theorem unitDeadline_periodic {d : Nat} {p : State × Seen} {c : UnitCfg} {x : UnitSt} (u : Nat) (hc : c.typ = 9) (hm : c.mode % 4 = 2)
    (hd : x.due = some d) (hp : p.1.time.skipped = none) :
    unitDeadline d p u x c = occurs (setUnit p u { x with due := some (d + c.span) }) u := by
  unfold unitDeadline
  rw [hc, hd, Option.map_some, State.placeDue, if_pos (State.place_at hp d), if_pos rfl, if_pos hm]
  rfl

/-! ### The sequencers -/

theorem State.armed_none {s : State} {k : Nat} (h : tfind s.seqs k = none) : s.armed k = false := by
  unfold State.armed
  rw [h]

theorem Run.evalSeq_disarmed {r : Run} {k : Nat} (e : Ev) (h : r.s.armed k = false) : Run.evalSeq e r k = r := by
  unfold Run.evalSeq
  rw [h]
  rfl

theorem foldl_fixed_mem {α β : Type} {f : β → α → β} {b : β} (l : List α) (h : ∀ k ∈ l, f b k = b) : l.foldl f b = b := by
  induction l with
  | nil => rfl
  | cons x l ih => rw [List.foldl_cons, h x List.mem_cons_self, ih (fun k hk => h k (List.mem_cons_of_mem _ hk))]

/-- A loop in which one entry alone does something. -/
theorem foldl_single {α β : Type} {f : β → α → β} {b : β} {q : α} (h0 : ∀ k, k ≠ q → f b k = b) (h1 : ∀ k, k ≠ q → f (f b q) k = f b q)
    (l : List α) (hn : l.Nodup) (hq : q ∈ l) : l.foldl f b = f b q := by
  obtain ⟨a, c, rfl⟩ := List.append_of_mem hq
  obtain ⟨-, hc, hd⟩ := List.nodup_append.mp hn
  have ha : ∀ x ∈ a, x ≠ q := fun x hx => hd x hx q List.mem_cons_self
  rw [List.foldl_append, List.foldl_cons, foldl_fixed_mem a (fun k hk => h0 k (ha k hk)),
    foldl_fixed_mem c (fun k hk => h1 k (fun e => (List.nodup_cons.mp hc).1 (e ▸ hk)))]

/-- Without units no timer starts again (R171). -/
theorem Run.timers_none {r : Run} (h : r.s.units = []) (before : List Nat) (k : Nat) : Run.timers before r k = r := by
  have reset : ∀ all, r.s.timersReset k all = r.s := fun all => by rw [State.timersReset, h]; rfl
  unfold Run.timers
  rw [reset, reset]
  split
  · rfl
  · split <;> rfl

/-- A run that issued no action and took no mark ends as it stands. -/
theorem Run.finish_quiet {r : Run} (e : Ev) {before : List Nat} (ho : r.ops = []) (hm : r.marks = [])
    (ht : ∀ k, Run.timers before r k = r) : r.finish e before 0 = r.s := by
  have steps : Run.step3 8 e 0 r = r := by
    unfold Run.step3
    rw [ho]
    rfl
  unfold Run.finish
  dsimp only
  rw [steps, ho, List.foldl_nil, foldl_fixed_mem _ (fun k _ => ht k), hm]
  rfl

/-- Without sequencers an item sets nothing off. -/
theorem State.sequence_idle {s : State} (h : s.seqs = []) (e : Ev) : s.sequence e = s := by
  have off : ∀ k, s.armed k = false := fun k => State.armed_none (by rw [h]; rfl)
  have none_ : s.armedList = [] := List.filter_eq_nil_iff.mpr (fun k _ => by rw [off k]; exact Bool.false_ne_true)
  unfold State.sequence
  rw [none_, foldl_fixed_mem _ (fun k _ => Run.evalSeq_disarmed e (off k))]
  refine Run.finish_quiet e rfl rfl (fun k => ?_)
  unfold Run.timers
  rw [off k]
  rfl

/-! #### A stage without branches -/

/-- No branch of a stage of sequencer `k` has a term in use. -/
def State.noTerms (s : State) (k : Nat) : Prop := ∀ j, j < 64 → s.par Ix.keyBrExpr (64 * k + j) = 0

theorem SeqSt.setBr_br (q : SeqSt) (b : Nat) : q.setBr b (q.br b) = q := by
  match b with
  | 0 => rfl
  | 1 => rfl
  | 2 => rfl
  | _ + 3 => rfl

theorem State.evalBranch_noTerms {s : State} {k g b : Nat} (hp : s.cw.past = []) (h : s.noTerms k) (hg : g < 16) (hb : b < 4)
    (e : Ev) (entry : Bool) (x : BrSt) : s.evalBranch e entry k g b x = (x, none) := by
  have none_ : (s.brCfg e.t k g b).terms = [] := by
    show termsOf _ (s.parAt e.t Ix.keyBrExpr (brSub k g b)) = []
    rw [State.parAt_present hp, show brSub k g b = 64 * k + (4 * g + b) from Nat.add_assoc .., h _ (by omega)]
    rfl
  unfold State.evalBranch
  dsimp only
  rw [none_]
  rfl

/-- No branch fires, and the sequencer stands as it did. -/
theorem Run.evalStage_noTerms {r : Run} {k : Nat} (hp : r.s.cw.past = []) (h : r.s.noTerms k) (hg : r.s.par Ix.keyStage k < 16)
    (e : Ev) (entry : Bool) : r.evalStage e entry k = ({ r with s := r.s.setSeq k (r.s.seqOf k) }, none) := by
  have br : ∀ b, b < 4 → r.s.evalBranch e entry k (r.s.par Ix.keyStage k) b ((r.s.seqOf k).br b) = ((r.s.seqOf k).br b, none) :=
    fun b hb => State.evalBranch_noTerms hp h hg hb e entry _
  have res : (List.range 4).map (fun b => (b, r.s.evalBranch e entry k (r.s.par Ix.keyStage k) b ((r.s.seqOf k).br b)))
      = (List.range 4).map (fun b => (b, ((r.s.seqOf k).br b, (none : Option Nat)))) :=
    List.map_congr_left (fun b hb => by rw [br b (List.mem_range.mp hb)])
  unfold Run.evalStage
  dsimp only
  rw [res, List.foldl_map, foldl_fixed_mem _ (fun b _ => SeqSt.setBr_br _ b)]
  rfl

/-- A timeout branch with an empty list changes nothing by its list (R175). -/
theorem Run.runList_empty {r : Run} {k g : Nat} {f : Firing} (hf : f.branch = 4) (hp : r.s.cw.past = [])
    (h : r.s.par Ix.keyStageActCount (16 * k + g) = 0) (e : Ev) : r.runList e k g f = r := by
  have none_ : r.s.parAt e.t Ix.keyStageActCount (16 * k + g) = 0 := (State.parAt_present hp ..).trans h
  unfold Run.runList
  dsimp only
  simp only [hf, if_true, none_, State.actList, List.range_zero, List.map_nil, List.foldl_nil, List.isEmpty_nil, List.append_nil,
    Nat.lt_irrefl, if_false]

/-- Entering stage `n` (R176): the stage, its counters, and the sequencer's standing. -/
theorem Run.enterStage_enters {r : Run} (w : Dict.wf r.s.dict) (e : Ev) (k n : Nat) :
    (r.enterStage e k n).s.Has Ix.keyStage k n
      ∧ (r.enterStage e k n).s.Has Ix.keyTransitions k ((r.s.par Ix.keyTransitions k + 1) % 2 ^ 64)
      ∧ (r.enterStage e k n).s.Has Ix.keyStageEntries (16 * k + n) (cntNext (r.s.par Ix.keyStageEntries (16 * k + n)))
      ∧ (r.enterStage e k n).s.seqs = tset r.s.seqs k { (r.s.seqOf k) with
          entry := e.t, br0 := {}, br1 := {}, br2 := {}, br3 := {}
          timeout := if r.s.parAt e.t Ix.keyStageTimeout (16 * k + n) = 0 then none
            else some (e.t + r.s.parAt e.t Ix.keyStageTimeout (16 * k + n) * 256000) } := by
  have st : ∀ ix sub, r.s.Has ix sub (r.s.par ix sub) := fun _ _ => .start w
  refine ⟨.dict (.cnt (.setPar (.written r.s w) (by decide)) (by decide)) rfl,
    .dict (.cnt (.cntW (.setPar (st _ _) (by decide)) 1) (by decide)) rfl,
    .dict (.counted (.setPar (.setPar (st _ _) (by decide)) (by decide)) (by decide)) rfl, ?_⟩
  show tset (State.cnt _ _ _).seqs k _ = _
  rw [(State.cnt_frame _ _ _).seqs rfl]
  rfl

/-- The timeout of a stage without branches whose list is empty leads to its next stage (R175, R176). -/
theorem Run.fire_timeout {r : Run} {k h : Nat} (e : Ev) (n : Nat) (hp : r.s.cw.past = []) (w : Dict.wf r.s.dict) (hh : h < 16)
    (hx : r.s.noTerms k) (hc : r.s.par Ix.keyStageActCount (16 * k + r.s.par Ix.keyStage k) = 0)
    (hn : r.s.par Ix.keyStageNext (16 * k + r.s.par Ix.keyStage k) = h) (ho : r.ops = []) :
    Run.fire (n + 1) r e k 0 ⟨4, 255, false⟩
      = { r.enterStage e k h with s := (r.enterStage e k h).s.setSeq k ((r.enterStage e k h).s.seqOf k) } := by
  have next : r.s.parAt e.t Ix.keyStageNext (16 * k + r.s.par Ix.keyStage k) = h := (State.parAt_present hp ..).trans hn
  have fr := r.enterStage_same e k h
  have past : (r.enterStage e k h).s.cw.past = [] := (congrArg CwSt.past (fr.cw rfl)).trans hp
  have stage := (Run.enterStage_enters w e k h).1.par
  have eval := Run.evalStage_noTerms past (fun j hj => (fr.pars w _ _ rfl).trans (hx j hj)) (Nat.lt_of_le_of_lt (Nat.le_of_eq stage) hh) e true
  unfold Run.fire
  dsimp only
  rw [Run.runList_empty rfl hp hc, if_pos rfl, next, ho, eval, if_neg (show ¬ h = 254 by omega), if_neg (show ¬ h = 255 by omega)]
  rfl

theorem State.setSeq_seqOf (s : State) (k : Nat) (x : SeqSt) : (s.setSeq k x).seqOf k = x := by
  show (tfind (tset s.seqs k x) k).getD {} = x
  rw [tfind_tset, if_pos rfl, Option.getD_some]

/-- An armed sequencer alone, at the deadline of its stage's timeout (R176). -/
theorem State.sequence_timeout {s : State} {q h d : Nat} {sq : SeqSt} (w : Dict.wf s.dict) (hp : s.cw.past = [])
    (hk : s.time.skipped = none) (hu : s.units = []) (hs : s.seqs = [(q, sq)]) (ha : sq.armed = true) (ht : sq.timeout = some d) (hq : q < 4)
    (hg : s.par Ix.keyStage q < 16) (hh : h < 16) (hx : s.noTerms q)
    (hc : s.par Ix.keyStageActCount (16 * q + s.par Ix.keyStage q) = 0)
    (hn : s.par Ix.keyStageNext (16 * q + s.par Ix.keyStage q) = h) :
    ∃ T, s.sequence ⟨d, none, true, {}⟩ = T ∧ T.cw = s.cw ∧ T.Has Ix.keyStage q h
      ∧ T.Has Ix.keyTransitions q ((s.par Ix.keyTransitions q + 1) % 2 ^ 64)
      ∧ T.Has Ix.keyStageEntries (16 * q + h) (cntNext (s.par Ix.keyStageEntries (16 * q + h)))
      ∧ (T.seqOf q).entry = d ∧ (s.par Ix.keyStageTimeout (16 * q + h) = 0 → (T.seqOf q).timeout = none) := by
  let e : Ev := ⟨d, none, true, {}⟩
  let s1 := (s.setSeq q sq).setSeq q { sq with timeout := none }
  let r1 : Run := { s := s1 }
  have self : s.seqOf q = sq := by
    show (tfind s.seqs q).getD {} = sq
    rw [hs, tfind, if_pos rfl, Option.getD_some]
  have on : s.armed q = true := by rw [State.armed, hs, tfind, if_pos rfl]; exact ha
  have seqs1 : s1.seqs = [(q, { sq with timeout := none })] := by
    show tset (tset s.seqs q sq) q _ = _
    rw [hs, tset, if_pos rfl, tset, if_pos rfl]
  obtain ⟨e1, e2, e3, e4⟩ := Run.enterStage_enters (r := r1) w e q h
  have fr := r1.enterStage_same e q h
  have fire := Run.fire_timeout (r := r1) e 4 hp w hh hx hc hn rfl
  have moves : Run.evalSeq e { s := s } q = Run.fire 5 r1 e q 0 ⟨4, 255, false⟩ := by
    unfold Run.evalSeq
    dsimp only
    rw [on, Run.evalStage_noTerms hp hx hg, self]
    dsimp only
    rw [State.setSeq_seqOf, ht, Option.map_some, State.place_at hk, decide_eq_true rfl]
    rfl
  have ops : (r1.enterStage e q h).ops = [] := rfl
  have marks : (r1.enterStage e q h).marks = [] := rfl
  generalize r1.enterStage e q h = z at *
  let x := z.s.seqOf q
  let T := z.s.setSeq q x
  have seqsT : T.seqs = [(q, x)] := by
    show tset z.s.seqs q x = _
    rw [e4, show r1.s.seqs = _ from seqs1, tset, if_pos rfl, tset, if_pos rfl]
  have others : ∀ (u : State) y, u.seqs = [(q, y)] → ∀ k, k ≠ q → u.armed k = false := fun u y hy k hk =>
    State.armed_none (by rw [hy, tfind, if_neg (Ne.symm hk)]; exact ite_self none)
  have loop : (List.range 4).foldl (Run.evalSeq e) { s := s } = { z with s := T } := by
    have ends := moves.trans fire
    rw [foldl_single (fun k hk => Run.evalSeq_disarmed e (others s sq hs k hk))
      (fun k hk => by rw [ends]; exact Run.evalSeq_disarmed e (others T x seqsT k hk)) _ List.nodup_range (List.mem_range.mpr hq), ends]
  have final : s.sequence e = T := by
    unfold State.sequence
    rw [loop]
    exact Run.finish_quiet (r := { z with s := T }) e ops marks (fun k => Run.timers_none (r := { z with s := T }) ((fr.units rfl).trans hu) _ k)
  have xe := (congrArg (fun l => (tfind l q).getD ({} : SeqSt)) e4).trans (by rw [tfind_tset, if_pos rfl, Option.getD_some])
  change x = _ at xe
  refine ⟨T, final, (fr.cw rfl).trans rfl, e1.dict rfl, e2.dict rfl, e3.dict rfl, ?_, fun h0 => ?_⟩
  · rw [State.setSeq_seqOf, xe]
  · rw [State.setSeq_seqOf, xe]
    exact if_pos ((State.parAt_present (s := s1) hp ..).trans h0)

/-! ### The commands -/

theorem State.nextDeadline_one {s : State} {d : Nat} (h : s.units.flatMap (fun x => s.unitDeadlines x.1 x.2) ++
    s.seqs.flatMap (fun x => x.2.deadlines.map s.place) = [d]) : s.nextDeadline = some d := by
  unfold State.nextDeadline
  rw [h]
  rfl

/-- The next record is taken where nothing comes before it (R158). -/
theorem keystoneItem_takes {s : State} (t : Nat) {r : Rec} {only : Option Nat} {rest : List Item}
    (hm : s.tpll = true ∧ 2 ≤ s.par Ix.pwrState 0) (hi : s.cw.intake = .record r only :: rest) (hr : rest.all Item.isRecord = true)
    (hd : s.deadlineFirst r.stamp (decide (203 ≤ r.src)) = false) :
    ∃ u, State.takeRecord { s.enter t with cw := { s.cw with intake := rest } } r only = u ∧ Inlet { s with cw := { s.cw with intake := rest } } u
      ∧ exec (.keystoneItem t) s = .next (u.enterEnds u.keystonePassed) := by
  let s2 : State := { s.enter t with cw := { s.cw with intake := rest } }
  have fed : Inlet s2 (s2.takeRecord r only) :=
    .after (State.sequence_inlet ..) ((s2.deliver_inlet _ r).trans (.of_same (State.unitsRecord_same ..) rfl))
  have merging : (s.enter t).merging = true := Bool.and_eq_true_iff.mpr ⟨hm.1, decide_eq_true hm.2⟩
  have idle : (s.enter t).settleCtl = s.enter t := State.settleCtl_records _ (by
    show s.cw.intake.all Item.isRecord = true
    rw [hi]
    exact hr)
  refine ⟨_, rfl, ⟨fed.intake, fed.past⟩, ?_⟩
  show execKeystoneItem t s = _
  unfold execKeystoneItem
  dsimp only
  rw [merging, idle, show (s.enter t).cw.intake = _ from hi, if_neg (by decide)]
  dsimp only
  rw [show (s.enter t).deadlineFirst r.stamp (decide (203 ≤ r.src)) = false from hd, if_neg (by decide)]
  exact congrArg Host.Outcome.next (State.itemDone_records _ ((congrArg (List.all · Item.isRecord) fed.intake).trans hr))

/-- The earliest deadline is processed where all before it has been (R158). -/
theorem deadlineItem_takes {s : State} (t : Nat) {d : Nat} (hm : s.tpll = true ∧ 2 ≤ s.par Ix.pwrState 0) (hi : s.cw.intake = [])
    (hb : d / 1280 < s.cw.bucket) (hd : s.nextDeadline = some d) (u : State × Seen) (hu : (s.enter t).unitsDeadline d = u)
    (T : State) (hT : u.1.sequence ⟨d, none, true, u.2⟩ = T) :
    exec (.deadlineItem t) s = .next (T.enterEnds T.keystonePassed) := by
  have merging : (s.enter t).merging = true := Bool.and_eq_true_iff.mpr ⟨hm.1, decide_eq_true hm.2⟩
  have idle : (s.enter t).settleCtl = s.enter t := State.settleCtl_records _ (by rw [show (s.enter t).cw.intake = [] from hi]; rfl)
  have empty : T.cw.intake = [] := by
    rw [← hT, (State.sequence_inlet ..).intake, ← hu, congrArg CwSt.intake ((State.unitsDeadline_same ..).cw rfl)]
    exact hi
  show execDeadlineItem t s = _
  unfold execDeadlineItem
  dsimp only
  rw [merging, idle, show (s.enter t).nextDeadline = _ from hd, if_neg (by decide)]
  dsimp only
  rw [if_pos ⟨hb, by rw [show (s.enter t).cw.intake = [] from hi]; rfl⟩, hu, hT, State.itemDone_records T (by rw [empty]; rfl)]

theorem setBits_single (k : Fin 8) : setBits (2 ^ k.val) 8 = [k.val] := by
  revert k
  decide

/-- The record opens a frame of a stream that has none open and nothing held (R227). -/
theorem State.take_opens {s : State} {n : Nat} {r : Rec} (hr : r.typ ≠ 2) (hc : s.cai = []) (hon : (s.streamOf n).on = true)
    (hst : (s.streamOf n).stopped = false) (hh : (s.streamOf n).holding = []) (ho : (s.streamOf n).open_ = none) :
    State.take r s n = s.placeRec n r := by
  have free : s.held n r.stamp = false := by rw [State.held, hc]; rfl
  unfold State.take
  rw [if_neg (by rw [decide_eq_false hr]; simp)]
  unfold State.feed State.appendRec
  dsimp only
  rw [hon, hst, hh, ho, free]
  rfl

theorem State.streamOf_setStream (s : State) (n : Nat) (x : StreamSt) : (s.setStream n x).streamOf n = x := by
  show (tfind (tset s.stream n x) n).getD {} = x
  rw [tfind_tset, if_pos rfl, Option.getD_some]

theorem State.placeRec_opens {s : State} {n : Nat} (r : Rec) (ho : (s.streamOf n).open_ = none) :
    ∃ f, ((s.placeRec n r).streamOf n).open_ = some f ∧ f.base = r.stamp ∧ f.words = r.words r.stamp ∧ f.records = 1 ∧ f.last = r.stamp := by
  refine ⟨_, congrArg StreamSt.open_ (s.streamOf_setStream n _), ?_⟩
  dsimp only
  rw [ho]
  exact ⟨rfl, rfl, rfl, Nat.max_self _⟩

theorem State.srcOf_setSrc (s : State) (n : Nat) (x : SrcSt) : (s.setSrc n x).srcOf n = x := by
  show (tfind (tset s.src n x) n).getD {} = x
  rw [tfind_tset, if_pos rfl, Option.getD_some]

/-- What the table holds of the record's source (R165). -/
theorem State.tableStep_follows (s : State) (r : Rec) :
    (r.src ≤ 200 → r.typ = 1 → bit r.spec 19 = false → ((s.tableStep r).srcOf r.src).level = some (r.spec % 4))
      ∧ (r.src ≤ 200 → r.typ = 1 → bit r.spec 19 = true → ((s.tableStep r).srcOf r.src).zone = some (r.spec % 4))
      ∧ (r.src ≤ 200 → r.typ = 4 → ((s.tableStep r).srcOf r.src).level = none ∧ ((s.tableStep r).srcOf r.src).zone = none)
      ∧ (200 < r.src → (s.tableStep r).src = s.src) := by
  unfold State.tableStep
  dsimp only
  refine ⟨fun h1 h2 h3 => ?_, fun h1 h2 h3 => ?_, fun h1 h2 => ?_, fun h1 => ?_⟩
  · rw [if_neg (Nat.not_lt.mpr h1), h2, h3]
    exact congrArg SrcSt.level (s.srcOf_setSrc ..)
  · rw [if_neg (Nat.not_lt.mpr h1), h2, h3]
    exact congrArg SrcSt.zone (s.srcOf_setSrc ..)
  · rw [if_neg (Nat.not_lt.mpr h1), h2]
    exact ⟨congrArg SrcSt.level (s.srcOf_setSrc ..), congrArg SrcSt.zone (s.srcOf_setSrc ..)⟩
  · rw [if_pos h1]

theorem State.takeRecord_idle (s : State) (r : Rec) (only : Option Nat) (h : s.seqs = []) :
    s.takeRecord r only = ((s.deliver (s.destinations r only) r).unitsRecord r).1 :=
  State.sequence_idle (((State.unitsRecord_same ..).seqs rfl).trans (((State.deliver_same ..).seqs rfl).trans h)) _

/-- Settles O31: what an item's parts keep (`Inlet` and the frames), and what its step 1, 2 or its streams do. -/
theorem keystoneItems : Obligations.KeystoneItems := by
  intro s t d r rest only k x q g h st sq inv
  obtain ⟨-, w, -⟩ := inv
  intro taken due
  refine ⟨fun ht => ?_, fun ht hu hs h1 h2 h3 h4 h5 h6 => ?_, fun ht hs hu hc ho h1 h2 h3 h4 h5 => ?_, fun hd hs hu h1 h2 h3 h4 => ?_,
    fun hd hu hs ha hl htm hg hx hc hn => ?_⟩
  · obtain ⟨ht1, ht2, ht3, ht4, ht5⟩ := ht
    obtain ⟨u, hu, inl, e1⟩ := keystoneItem_takes t ⟨ht1, ht2⟩ ht3 ht4 ht5
    have fr := u.enterEnds_same u.keystonePassed
    have in_ := u.enterEnds_inlet u.keystonePassed
    generalize u.enterEnds u.keystonePassed = v at *
    let s2 : State := { s.enter t with cw := { s.cw with intake := rest } }
    have table : v.src = (((s2.deliver (s2.destinations r only) r).tableStep r)).src :=
      (fr.src rfl).trans ((congrArg State.src hu.symm).trans (((State.sequence_same ..).src rfl).trans (State.unitsRecord_src ..)))
    have same : v.srcOf r.src = ((s2.deliver (s2.destinations r only) r).tableStep r).srcOf r.src := congrArg (tget ({} : SrcSt) · r.src) table
    obtain ⟨c1, c2, c3, c4⟩ := (s2.deliver (s2.destinations r only) r).tableStep_follows r
    rw [← same] at c1 c2 c3
    exact ⟨v, e1, in_.intake.trans inl.intake, c1, c2, c3, fun h => table.trans ((c4 h).trans ((State.deliver_same ..).src rfl))⟩
  · obtain ⟨ht1, ht2, ht3, ht4, ht5⟩ := ht
    obtain ⟨u, hu1, -, e1⟩ := keystoneItem_takes t ⟨ht1, ht2⟩ ht3 ht4 ht5
    let s2 : State := { s.enter t with cw := { s.cw with intake := rest } }
    let m := s2.destinations r only
    let v := (s2.deliver m r).tableStep r
    have fd := s2.deliver_same m r
    have ft := (s2.deliver m r).tableStep_same r
    have units : v.units = [(x.val, st)] := (ft.units rfl).trans ((fd.units rfl).trans hu)
    have wd : Dict.wf (s2.deliver m r).dict := fd.dictWf w
    have cfg : v.unitCfg r.stamp x = s.unitCfg r.stamp x :=
      (State.unitCfg_of_same ft wd (congrArg CwSt.past (ft.cw rfl)) (by decide) _ _).trans
        (State.unitCfg_of_same fd w (s2.deliver_inlet m r).past (by decide) _ _)
    have step : (s2.deliver m r).unitsRecord r = occurs (v, {}) x := by
      unfold State.unitsRecord
      dsimp only
      rw [show ((s2.deliver m r).tableStep r).units = _ from units, List.foldl_cons, List.foldl_nil, hs, if_neg (by decide)]
      dsimp only
      rw [show ((s2.deliver m r).tableStep r).unitCfg r.stamp x = _ from cfg,
        unitRecord_edge _ _ _ h1 h2 h4 h5 h6, staleStep_other (by rw [h4]; decide)]
    have cnt : v.Has Ix.keyCuOccurrences x (s.par Ix.keyCuOccurrences x) :=
      ((State.Has.start (s := s2) w).same fd rfl).same ft rfl
    have occ : (occurs (v, {}) x).1.Has Ix.keyCuOccurrences x (cntNext (s.par Ix.keyCuOccurrences x)) := cnt.counted (by decide)
    refine ⟨_, e1, State.Has.par (.same ?_ (u.enterEnds_same _) rfl)⟩
    rw [← hu1]
    refine .same ?_ (State.sequence_same ..) rfl
    rw [step]
    exact occ
  · obtain ⟨ht1, ht2, ht3, ht4, ht5⟩ := ht
    obtain ⟨u, hu1, -, e1⟩ := keystoneItem_takes t ⟨ht1, ht2⟩ ht3 ht4 ht5
    let s2 : State := { s.enter t with cw := { s.cw with intake := rest } }
    have into : s2.deliver (s2.destinations r only) r = s2.placeRec k r := by
      rw [ho]
      show (setBits (2 ^ k.val) 8).foldl (State.take r) s2 = _
      rw [setBits_single]
      exact State.take_opens h1 hc h2 h3 h4 h5
    have strm : u.stream = (s2.placeRec k r).stream := by
      rw [← hu1, State.takeRecord_idle s2 r only hs]
      exact ((State.unitsRecord_same ..).stream rfl).trans (congrArg State.stream into)
    obtain ⟨f, hf, facts⟩ := s2.placeRec_opens r h5
    refine ⟨_, e1, f, ?_, facts⟩
    rw [← hf]
    exact congrArg (fun l => (tget ({} : StreamSt) l k).open_) (((u.enterEnds_same _).stream rfl).trans strm)
  · obtain ⟨hd1, hd2, hd3, hd4, hd5, hd6⟩ := hd
    have cfg : ∀ a, (s.enter t).unitCfg a x = s.unitCfg d x := fun a => State.unitCfg_present hd4 a d x
    have live : ¬ st.stale = true := by rw [h1]; decide
    have dl : s.nextDeadline = some d := State.nextDeadline_one (by
      rw [hu, hs]
      simp only [List.flatMap_cons, List.flatMap_nil, List.append_nil]
      unfold State.unitDeadlines
      dsimp only
      rw [show s.unitCfg st.since x = _ from cfg st.since, if_neg live, h3, if_neg (by decide), if_pos rfl, h2,
        Option.map_some, State.placeDue, if_pos (State.place_at hd5 d)]
      rfl)
    let p := occurs (setUnit (s.enter t, {}) x { st with due := some (d + (s.unitCfg d x).span) }) x
    have step : (s.enter t).unitsDeadline d = p := by
      unfold State.unitsDeadline
      rw [show (s.enter t).units = _ from hu, List.foldl_cons, List.foldl_nil, if_neg live, cfg d,
        unitDeadline_periodic _ h3 h4 h2 hd5]
    have counted : p.1.Has Ix.keyCuOccurrences x (cntNext (s.par Ix.keyCuOccurrences x)) :=
      .counted (.dict (.start (s := s) w) rfl) (by decide)
    have seqs : p.1.seqs = [] := ((State.cnt_frame ..).seqs rfl).trans hs
    have units : p.1.units = [(x.val, { st with due := some (d + (s.unitCfg d x).span) })] := by
      refine ((State.cnt_frame ..).units rfl).trans ?_
      show tset s.units x _ = _
      rw [hu, tset, if_pos rfl]
    clear_value p
    have e1 := deadlineItem_takes t ⟨hd1, hd2⟩ hd3 hd6 dl p step p.1 (State.sequence_idle seqs _)
    have fr := p.1.enterEnds_same p.1.keystonePassed
    exact ⟨_, e1, State.Has.par (counted.same fr rfl), (fr.units rfl).trans units⟩
  · obtain ⟨hd1, hd2, hd3, hd4, hd5, hd6⟩ := hd
    have dl : s.nextDeadline = some d := State.nextDeadline_one (by
      rw [hu, hs]
      show [] ++ (sq.deadlines.map s.place ++ []) = [d]
      rw [hl, List.map_singleton, State.place_at hd5]
      rfl)
    have step : (s.enter t).unitsDeadline d = (s.enter t, {}) := by
      unfold State.unitsDeadline
      rw [show (s.enter t).units = [] from hu]
      rfl
    obtain ⟨T, hT, -, c1, c2, c3, c4, c5⟩ := State.sequence_timeout (s := s.enter t) (h := h) w hd4 hd5 hu hs ha htm q.isLt
      (by show s.par Ix.keyStage q < 16; rw [hg]; exact g.isLt) h.isLt (fun j hj => hx ⟨j, hj⟩)
      (by show s.par Ix.keyStageActCount (16 * q + s.par Ix.keyStage q) = 0; rw [hg]; exact hc)
      (by show s.par Ix.keyStageNext (16 * q + s.par Ix.keyStage q) = h; rw [hg]; exact hn)
    have e1 := deadlineItem_takes t ⟨hd1, hd2⟩ hd3 hd6 dl _ step T hT
    have fr := T.enterEnds_same T.keystonePassed
    have seqs : (T.enterEnds T.keystonePassed).seqOf q = T.seqOf q := congrArg (tget ({} : SeqSt) · q.val) (fr.seqs rfl)
    exact ⟨_, e1, State.Has.par (c1.same fr rfl), by rw [seqs]; exact c4, State.Has.par (c2.same fr rfl), State.Has.par (c3.same fr rfl),
      by rw [seqs]; exact c5⟩

end Sys2Proof.Machine
end

section
/-! SUPPORT. The closing of frames (R227, R228, R270). -/
namespace Sys2Proof.Machine

theorem State.streamOf_of_stream {s t : State} (h : t.stream = s.stream) (n : Nat) : t.streamOf n = s.streamOf n :=
  congrArg (tget ({} : StreamSt) · n) h

theorem State.mark_stream (s : State) (ix sub v : Nat) : (s.mark ix sub v).stream = s.stream := by
  unfold State.mark
  split <;> rfl

/-- With room a closed frame stands behind the others (R270). -/
theorem State.intoBeryl_enters {s : State} {n : Nat} {f : Frame} {x : StreamSt} (hx : s.streamOf n = x)
    (room : f.level = 0 ∨ queuedFrames x < 32) :
    ∃ b : BerylFrame, (s.intoBeryl n f).streamOf n = { x with beryl := x.beryl ++ [b] } ∧ b.frame = f
      ∧ b.at_ = (if f.level = 0 then .ready else .queued) ∧ s.cw.closeNum ≤ b.closed := by
  have hx1 : s.noteClose.streamOf n = x := hx
  have later : s.cw.closeNum ≤ s.noteClose.cw.closeNum := by
    show _ ≤ s.closeOrder
    unfold State.closeOrder
    split
    · exact Nat.le_refl _
    · exact Nat.le_succ _
  unfold State.intoBeryl
  dsimp only
  rw [hx1]
  by_cases h0 : f.level = 0
  · rw [if_pos h0, if_pos h0]
    exact ⟨⟨f, .ready, s.noteClose.cw.closeNum, [], false⟩, State.streamOf_setStream .., rfl, rfl, later⟩
  · rw [if_neg h0, if_neg h0, if_neg (Nat.not_le.mpr (room.resolve_left h0))]
    refine ⟨⟨f, .queued, s.noteClose.cw.closeNum, [], false⟩, ?_, rfl, rfl, later⟩
    rw [State.streamOf_of_stream (State.mark_stream ..)]
    exact State.streamOf_setStream ..

/-- Where 32 frames wait it is refused (R270). -/
theorem State.intoBeryl_full {s : State} {n : Nat} {f : Frame} (h0 : f.level ≠ 0) (h : 32 ≤ queuedFrames (s.streamOf n)) :
    s.intoBeryl n f = (s.noteClose.cnt Ix.berylQueueRefused n).refuseFrame n f := by
  unfold State.intoBeryl
  dsimp only
  rw [if_neg h0, if_pos (show 32 ≤ queuedFrames (s.noteClose.streamOf n) from h)]

/-- Under gap policy 0, with no loss open, a refused frame opens a loss interval (R241, R243). -/
theorem State.refuseFrame_opens {s : State} {n : Nat} {f : Frame} {x : StreamSt} (hx : s.streamOf n = x) (hl : x.loss = none)
    (ho : x.overflow = none) (hs : s.par Ix.streamState n = 1) (hg : s.par Ix.spanGapPolicy n = 0) :
    ∃ z : State, s.refuseFrame n f = z.setPar Ix.spanState n 1 ∧ z.dict = (s.refusedCounts n f).dict
      ∧ z.streamOf n = { x with loss := some ⟨f.base, f.last + 1, f.records, f.chip, f.level, none⟩ } := by
  refine ⟨(s.refusedCounts n f).setStream n { x with loss := some ⟨f.base, f.last + 1, f.records, f.chip, f.level, none⟩ }, ?_, rfl,
    State.streamOf_setStream ..⟩
  unfold State.refuseFrame
  dsimp only
  rw [hx, ho, hl, hs, hg, if_neg (by decide), if_neg (by decide)]
  obtain ⟨⟩ := x
  cases ho
  rfl

/-- An open frame that closes with room in Beryl (R228, R270). -/
theorem State.closeFrame_enters {s : State} {n rule : Nat} {flushed : Bool} {f : OpenFrame} (w : Dict.wf s.dict)
    (ho : (s.streamOf n).open_ = some f) (room : (s.streamOf n).level = 0 ∨ queuedFrames (s.streamOf n) < 32) :
    ∃ b : BerylFrame, (s.closeFrame n rule flushed).streamOf n
        = { (s.streamOf n) with open_ := none, beryl := (s.streamOf n).beryl ++ [b] }
      ∧ b.frame = (s.streamOf n).closed f n flushed ∧ b.at_ = (if (s.streamOf n).level = 0 then .ready else .queued)
      ∧ s.cw.closeNum ≤ b.closed ∧ (s.closeFrame n rule flushed).par Ix.streamLastClose n = rule := by
  let u := (s.setStream n { (s.streamOf n) with open_ := none }).setPar Ix.streamLastClose n rule
  obtain ⟨b, h1, h2, h3, h4⟩ := State.intoBeryl_enters (s := u) (f := (s.streamOf n).closed f n flushed) (s.streamOf_setStream n _) room
  rw [State.closeFrame_some ho]
  have last : u.Has Ix.streamLastClose n rule := .written _ w
  exact ⟨b, h1, h2, h3, h4, State.Has.par (last.same (State.intoBeryl_same ..) rfl)⟩

/-- The frame that Beryl holds of an open frame (R228). -/
theorem StreamSt.closed_payload (x : StreamSt) (f : OpenFrame) (n : Nat) (flushed : Bool) :
    (x.closed f n flushed).payload = f.words ++ (if f.words.length % 2 = 1 then [0] else []) := by
  show padded f.words = _
  unfold padded
  split
  · rfl
  · exact (List.append_nil _).symm

/-- Settles O32: a close brings the frame into Beryl (`closeFrame_enters`), or is refused there (`refuseFrame_opens`). -/
theorem frameClosing : Obligations.FrameClosing := by
  intro s t n f inv
  obtain ⟨-, w, -⟩ := inv
  intro s1 x lim due made
  -- a close with room, from a state that differs from `s1` in the dictionary alone
  have closes : ∀ (v : State) (rule : Nat) (flushed : Bool), v.streamOf n = x → v.cw = s.cw → Dict.wf v.dict → x.open_ = some f →
      (x.level = 0 ∨ queuedFrames x < 32) → made (v.closeFrame n rule flushed) rule flushed := by
    intro v rule flushed hv hc wv ho room
    obtain ⟨b, h1, h2, h3, h4, h5⟩ := State.closeFrame_enters (rule := rule) (flushed := flushed) wv (hv ▸ ho) (hv ▸ room)
    rw [hv] at h1 h2 h3
    rw [hc] at h4
    refine ⟨by rw [h1], h5, ?_, b, ?_, h3, fun y hy hz => Nat.le_trans (hz y hy) h4, ?_, ?_, ?_, ?_, ?_⟩
    · rw [h1]
      exact List.dropLast_concat
    · rw [h1]
      exact List.getLast?_concat
    · rw [h2]
      exact x.closed_payload f n flushed
    all_goals rw [h2]; rfl
  refine ⟨fun hd room => ?_, fun ho room => ?_, fun ho h0 hq hs hg hl hv => ?_, fun ho => ?_⟩
  · obtain ⟨h1, h2, ho, h4, h5⟩ := hd
    have e1 : exec (.frameAgeClose t n) s = .next (s1.closeFrame n 2 false) := by
      show execFrameAgeClose t n s = _
      unfold execFrameAgeClose
      dsimp only
      rw [show ((s.enter t).streamOf n).open_ = some f from ho]
      exact if_pos ⟨Bool.and_eq_true_iff.mpr ⟨h1, decide_eq_true h2⟩, h4, by rw [show (s.enter t).stillToCome n _ = false from h5]; rfl⟩
    exact ⟨_, e1, closes s1 2 false rfl rfl w ho room⟩
  · have e1 : exec (.streamFlush t n) s = .next ((s1.cnt Ix.streamFlushes n).closeFrame n 6 true) := by
      show Host.Outcome.next ((s.enter t).streamFlush n) = _
      unfold State.streamFlush
      rw [show ((s.enter t).streamOf n).open_ = some f from ho]
    refine ⟨_, e1, closes _ 6 true (State.streamOf_of_stream ((State.cnt_frame ..).stream rfl) n) (State.cnt_cw ..)
      (dictWf_cnt _ _ _ w) ho room, ?_⟩
    have counted : (s1.cnt Ix.streamFlushes n).Has Ix.streamFlushes n (cntNext (s.par Ix.streamFlushes n)) :=
      .counted (.dict (.start (s := s) w) rfl) (by decide)
    exact State.Has.par (counted.same (State.closeFrame_same ..) rfl)
  · let v := s1.cnt Ix.streamFlushes n
    have hx : v.streamOf n = x := State.streamOf_of_stream ((State.cnt_frame ..).stream rfl) n
    let u := (v.setStream n { x with open_ := none }).setPar Ix.streamLastClose n 6
    have hu : u.streamOf n = { x with open_ := none } := State.streamOf_setStream ..
    let y := u.noteClose.cnt Ix.berylQueueRefused n
    have hy : y.streamOf n = { x with open_ := none } := (State.streamOf_of_stream ((State.cnt_frame ..).stream rfl) n).trans hu
    have keep : ∀ ix sub, ix ≠ Ix.streamLastClose ∧ ix ≠ Ix.streamFlushes ∧ ix ≠ Ix.dictSatCount ∧ ix ≠ Ix.dictSatLast →
        u.noteClose.Has ix sub (s.par ix sub) := fun ix sub e =>
      .dict (s := u) (.setPar (.dict (s := v) (.cnt (.dict (.start (s := s) w) rfl) e.2) rfl) e.1) rfl
    have state : y.par Ix.streamState n = 1 := State.Has.par (hs ▸ (keep Ix.streamState n (by decide)).cnt (by decide))
    have policy : y.par Ix.spanGapPolicy n = 0 := State.Has.par (hg ▸ (keep Ix.spanGapPolicy n (by decide)).cnt (by decide))
    have e1 : exec (.streamFlush t n) s = .next (y.refuseFrame n (x.closed f n true)) := by
      show Host.Outcome.next ((s.enter t).streamFlush n) = _
      unfold State.streamFlush
      rw [show ((s.enter t).streamOf n).open_ = some f from ho]
      dsimp only
      rw [State.closeFrame_some (s := v) (hx ▸ ho), hx, State.intoBeryl_full (s := u) h0 (by rw [hu]; exact hq)]
    obtain ⟨z, z1, z2, z3⟩ := State.refuseFrame_opens (f := x.closed f n true) hy hl hv state policy
    rw [z1] at e1
    have refused : y.Has Ix.berylQueueRefused n (cntNext (s.par Ix.berylQueueRefused n)) :=
      (keep Ix.berylQueueRefused n (by decide)).counted (by decide)
    have counts : z.Has Ix.berylQueueRefused n (cntNext (s.par Ix.berylQueueRefused n)) :=
      (refused.same (State.refusedCounts_same ..) rfl).dict z2
    have zn : (z.setPar Ix.spanState n 1).streamOf n = _ := z3
    exact ⟨_, e1, by rw [zn], by rw [zn], State.Has.par (counts.setPar (by decide)), State.Has.par (.written z counts.wf),
      by rw [zn]; rfl⟩
  · have e1 : exec (.streamFlush t n) s = .next (s1.cnt Ix.streamFlushEmpty n) := by
      show Host.Outcome.next ((s.enter t).streamFlush n) = _
      unfold State.streamFlush
      rw [show ((s.enter t).streamOf n).open_ = none from ho]
    exact ⟨_, e1, State.Has.par (.counted (.dict (.start (s := s) w) rfl) (by decide)), (State.cnt_frame ..).stream rfl⟩

end Sys2Proof.Machine
end

section
/-! SUPPORT. Timed actions (R187 to R205). -/
namespace Sys2Proof.Machine

/-! ### What an output shows -/

/-- The parameters that an output's condition rests on (R70). -/
def outRegs : List Nat := [Ix.guardSafeOverride, Ix.guardForce, Ix.guardEnable, Ix.guardSafeLevel, Ix.guardMode, Ix.vdEnable, Ix.vdSafeLevel,
  Ix.vdOutMode, Ix.startStep]

/-- The flags and the result that an output gives its records stay under an operation that leaves the outputs and these parameters. -/
theorem State.outShown_same {m : Nat} {s t : State} (f : Same m s t) (w : Dict.wf s.dict) (hg : m.testBit 9 = false)
    (hl : m.testBit 10 = false) (hr : outRegs.all (fun ix => !m.testBit (42 + regNo ix)) = true) (k : SafeKind) (n : Nat) :
    t.outFlags k n = s.outFlags k n ∧ t.outResult k n = s.outResult k n := by
  have p : ∀ ix ∈ outRegs, ∀ sub, t.par ix sub = s.par ix sub := fun ix hx sub =>
    f.pars w ix sub (by simpa using List.all_eq_true.mp hr ix hx)
  have o := State.outOf_same f hg hl k n
  have safe : t.safeActive k n = s.safeActive k n := by
    rw [State.safeActive, State.safeActive, o, State.overridden, State.overridden, p _ (by decide)]
  have force : t.forceOf k n = s.forceOf k n := by
    cases k
    · exact p Ix.guardForce (by decide) n
    all_goals rfl
  have enabled : t.outEnabled k n = s.outEnabled k n := by
    cases k <;> exact congrArg (fun v => decide (v = 1)) (p _ (by decide) n)
  have level : t.par (outPar k Ix.guardSafeLevel Ix.vdSafeLevel) n = s.par (outPar k Ix.guardSafeLevel Ix.vdSafeLevel) n := by
    cases k <;> exact p _ (by decide) n
  have shown : ∀ v, t.shown k n v = s.shown k n v := by
    intro v
    cases k <;> unfold State.shown <;> dsimp only
    · rw [p Ix.guardMode (by decide)]
    all_goals rw [p Ix.vdOutMode (by decide)]
  have pin : t.pinState k n = s.pinState k n := by
    unfold State.pinState State.resetDefault
    rw [p Ix.startStep (by decide), o, safe, force, enabled, level]
    dsimp only
    rw [shown]
  exact ⟨by rw [State.outFlags, State.outFlags, safe, force, enabled], by rw [State.outResult, State.outResult, o, pin]⟩

/-! ### Records -/

theorem State.emit_store {s : State} (h : s.merging = true) (r : Rec) : (s.emit r).cw.store = insertItem (.record r none) s.cw.store := by
  unfold State.emit State.emitItem
  rw [if_pos h, State.admitItem_cw]

/-- A record on time takes the place of the one that stood for it, or enters (R198). -/
theorem State.guardRecord_tells {s : State} (h : s.merging = true) (entered : Option Rec) (r : Rec) :
    (s.guardRecord false entered r).cw.store
      = insertItem (.record r none) (entered.elim s.cw.store (fun q => s.cw.store.erase (.record q none))) := by
  unfold State.guardRecord
  dsimp only
  rw [if_neg (by decide)]
  cases entered with
  | none => exact State.emit_store h r
  | some q =>
    dsimp only [Option.elim]
    split
    · rfl
    · next hq =>
      rw [State.emit_store h, List.erase_of_not_mem (by simpa using hq)]

theorem State.mark_slots (s : State) (ix sub v : Nat) : (s.mark ix sub v).slots = s.slots := by
  unfold State.mark
  split <;> rfl

theorem State.merging_same {m : Nat} {s t : State} (f : Same m s t) (w : Dict.wf s.dict) (ht : m.testBit 6 = false)
    (hc : m.testBit 36 = false) (hr : m.testBit (42 + regNo Ix.pwrState) = false) : t.merging = s.merging := by
  unfold State.merging State.tpll State.counts
  rw [f.time ht, f.clk hc, f.pars w _ _ hr]

/-! ### Loading -/

/-- The slot of a guard-pin action of a cause (R190). -/
theorem State.loadAction_loads {s : State} (o : Origin) (g sub param arg : Nat) (hk : s.time.skipped = none) (hn : s.slots.length < 64)
    (hm : s.merging = true) (w : Dict.wf s.dict) :
    let at_ := o.cause + s.par Ix.actDelay 0 * 256
    let r := recGuard at_ 0 sub { s.outFlags .guard g with refused := false } g (s.outResult .guard g) o.seq o.stage o.branch 0
    (s.loadAction o ⟨3, sub, g, param, arg⟩).cw.store = insertItem (.record r none) s.cw.store
      ∧ (s.loadAction o ⟨3, sub, g, param, arg⟩).slots.getLast? = some ⟨0, g, sub, param, arg, o.cause, at_,
        (if sub = 3 then at_ + arg else at_), o.seq, o.stage, o.branch, false, some r, none⟩ := by
  intro at_ r
  have room : s.slotsAt o.cause < 64 := Nat.lt_of_le_of_lt (List.length_filter_le ..) hn
  unfold State.loadAction
  dsimp only
  rw [if_pos room, State.place_at hk, State.place_at hk]
  have marked : ∀ (v : State) n, Dict.wf v.dict → (v.mark Ix.actSlotsHwm 0 n).merging = v.merging := fun v n wv =>
    State.merging_same (State.mark_same (m := mask109) v _ _ _ rfl) wv rfl rfl rfl
  refine ⟨?_, ?_⟩
  · refine (State.emit_store ?_ _).trans ?_
    · refine (marked _ _ ?_).trans ?_
      · exact w
      · exact hm
    · rw [State.mark_cw]
      rfl
  · refine (congrArg List.getLast? (((State.emit_same ..).slots rfl).trans (State.mark_slots ..))).trans ?_
    refine List.getLast?_concat.trans ?_
    have hold : (if 3 ≠ 5 ∧ sub = 3 then o.cause + s.delayL + arg else o.cause + s.delayL) = (if sub = 3 then at_ + arg else at_) :=
      ite_congr (propext (and_iff_right (by decide))) (fun _ => rfl) (fun _ => rfl)
    rw [hold]
    rfl

/-- A refused action is counted and described, and its record made (R194, R195). -/
theorem State.loadAction_full {s : State} {o : Origin} {e : ActEntry} (h : ¬ s.slotsAt o.cause < 64) :
    ∃ code holdTo,
      let v := State.cnt { s with slots := s.slots.filter (fun y => !y.done || decide (o.cause < y.holdTo)) } Ix.actRefused 0
      let u := v.setPar Ix.actLastRefused 0 code
      s.loadAction o e = u.emit (u.standRecord ⟨e.op - 3, e.target, e.sub, e.param, e.arg, o.cause, s.place (o.cause + s.delayL), holdTo,
        o.seq, o.stage, o.branch, false, none, none⟩ (s.place (o.cause + s.delayL)) e.sub true false) :=
  ⟨_, _, if_neg h⟩

/-- With 64 slots held past the cause it is refused, and its record says so (R194, R195). -/
theorem State.loadAction_refuses {s : State} (o : Origin) (g sub param arg : Nat) (hk : s.time.skipped = none)
    (hn : 64 ≤ (s.slots.filter (fun y => decide (o.cause < y.holdTo))).length) (hm : s.merging = true) (w : Dict.wf s.dict) :
    let at_ := o.cause + s.par Ix.actDelay 0 * 256
    let r := recGuard at_ 0 sub { s.outFlags .guard g with refused := true } g (s.outResult .guard g) o.seq o.stage o.branch 0
    (s.loadAction o ⟨3, sub, g, param, arg⟩).cw.store = insertItem (.record r none) s.cw.store
      ∧ (∀ y ∈ (s.loadAction o ⟨3, sub, g, param, arg⟩).slots, y ∈ s.slots)
      ∧ (s.loadAction o ⟨3, sub, g, param, arg⟩).par Ix.actRefused 0 = cntNext (s.par Ix.actRefused 0) := by
  intro at_ r
  obtain ⟨code, holdTo, e1⟩ := State.loadAction_full (e := ⟨3, sub, g, param, arg⟩) (show ¬ s.slotsAt o.cause < 64 from Nat.not_lt.mpr hn)
  rw [State.place_at hk] at e1
  let v : State := { s with slots := s.slots.filter (fun y => !y.done || decide (o.cause < y.holdTo)) }
  let u := (v.cnt Ix.actRefused 0).setPar Ix.actLastRefused 0 code
  have fu : Same mask109 v u := (State.cnt_same (m := mask109) v _ _ rfl).then (State.setPar_same (m := mask109) _ _ _ _ rfl) rfl
  obtain ⟨h1, h2⟩ := State.outShown_same fu w rfl rfl (by decide) .guard g
  have counted : u.Has Ix.actRefused 0 (cntNext (s.par Ix.actRefused 0)) :=
    .setPar (.counted (.dict (.start (s := s) w) rfl) (by decide)) (by decide)
  have merging : u.merging = true := (State.merging_same fu w rfl rfl rfl).trans hm
  have cw : u.cw = s.cw := (State.setPar_cw ..).trans (State.cnt_cw ..)
  have slots : u.slots = v.slots := (State.cnt_frame ..).slots rfl
  have stands : u.standRecord ⟨0, g, sub, param, arg, o.cause, at_, holdTo, o.seq, o.stage, o.branch, false, none, none⟩ at_ sub true false
      = r := by
    show recGuard _ 0 sub { u.outFlags .guard g with refused := true, pulseEnd := false } g (u.outResult .guard g) _ _ _ 0 = r
    rw [h1, h2]
    rfl
  have e2 : s.loadAction o ⟨3, sub, g, param, arg⟩ = u.emit r := e1.trans (congrArg u.emit stands)
  rw [e2]
  refine ⟨?_, fun y hy => ?_, State.Has.par (counted.same (State.emit_same ..) rfl)⟩
  · rw [State.emit_store merging, cw]
  · rw [(State.emit_same ..).slots rfl] at hy
    exact (List.mem_filter.mp (slots ▸ hy : y ∈ v.slots)).1

/-! ### Performing -/

/-- The one action that is scheduled is performed at its tick (R190, R196). -/
theorem State.performTick_single {s : State} {x : Slot} (hs : s.slots = [x]) (hd : x.done = false) (late : Bool) :
    s.performTick x.due late
      = State.performTarget x.due late [x] { s with slots := [{ x with done := true, entered := none }] } (x.kind, x.target) := by
  unfold State.performTick
  rw [hs]
  simp only [List.filter_cons, List.filter_nil, List.map_cons, List.map_nil, hd, decide_true, Bool.not_false, Bool.and_true, if_true]
  rfl

theorem timedActionExec_single {s : State} (t : Nat) {x : Slot} (hr : s.tpll = true) (hs : s.slots = [x]) (hd : x.done = false)
    (hn : x.due ≤ (s.enter t).now) : exec (.timedActionExec t) s
      = .next (State.performTarget x.due false [x] { s.enter t with slots := [{ x with done := true, entered := none }] }
        (x.kind, x.target)) := by
  have next : (s.enter t).nextDue = some x.due := by
    unfold State.nextDue
    rw [show (s.enter t).slots = [x] from hs, List.filter_cons, if_pos (by rw [hd]; rfl)]
    rfl
  show execTimedActionExec t s = _
  unfold execTimedActionExec
  dsimp only
  rw [next]
  dsimp only
  rw [if_pos ⟨hn, hr⟩, State.performTick_single (s := s.enter t) hs hd]

theorem subopLevel_eq : ∀ n, subopLevel n = if n = 0 then 1 else if n = 1 then 0 else 2
  | 0 => rfl
  | 1 => rfl
  | n + 2 => by rw [if_neg (Nat.succ_ne_zero _), if_neg (by omega)]; rfl

theorem State.applyOut_level {s : State} {n : Nat} (d : Nat) {x : Slot} (h : x.subop ≠ 3) :
    s.applyOut .guard n d [x] = s.setOut .guard n { (s.outOf .guard n) with cmd := subopLevel x.subop, pulse := none } := by
  unfold State.applyOut
  exact congrArg (fun u : State => u.applyOut .guard n d []) (if_neg h)

theorem State.applyOut_pulse {s : State} {n : Nat} (d : Nat) {x : Slot} (h : x.subop = 3) (hk : s.time.skipped = none) :
    s.applyOut .guard n d [x] = s.setOut .guard n { (s.outOf .guard n) with
      pulse := some ⟨x.param % 4, d, d + x.arg, !s.outHeld .guard n, x.seq, x.stage, x.branch⟩ } := by
  unfold State.applyOut
  refine (congrArg (fun u : State => u.applyOut .guard n d []) (if_pos h)).trans ?_
  rw [State.place_at hk]
  rfl

/-- What an output shows after its record, or after an action is counted. -/
theorem State.guardRecord_outShown {s : State} (w : Dict.wf s.dict) (late : Bool) (entered : Option Rec) (r : Rec) (k : SafeKind) (n : Nat) :
    (s.guardRecord late entered r).outFlags k n = s.outFlags k n ∧ (s.guardRecord late entered r).outResult k n = s.outResult k n :=
  State.outShown_same (State.guardRecord_same ..) w rfl rfl (by decide) k n

/-- ACT.EXECUTED alone. -/
abbrev executedMask : Nat := 0x4000000000000000000000000000000000000020

theorem State.executed_outShown {s : State} (w : Dict.wf s.dict) (j : Nat) (k : SafeKind) (n : Nat) :
    (s.cntW Ix.actExecuted 0 j).outFlags k n = s.outFlags k n ∧ (s.cntW Ix.actExecuted 0 j).outResult k n = s.outResult k n :=
  State.outShown_same (State.cntW_same (m := executedMask) s Ix.actExecuted 0 j rfl) w rfl rfl (by decide) k n

/-- One action of a guard pin that no pulse runs on leaves the pin as `o` says, its record told, and counted (R196, R198). -/
theorem State.performOut_tells {s : State} {n d : Nat} {x : Slot} {o : OutSt} (hp : (s.outOf .guard n).pulse = none)
    (hA : s.applyOut .guard n d [x] = s.setOut .guard n o) (hm : s.merging = true) (w : Dict.wf s.dict) :
    let u := s.performOut .guard n d false [x]
    u.cw.store = insertItem (.record (recGuard d 0 x.subop (u.outFlags .guard n) n (u.outResult .guard n) x.seq x.stage x.branch 0) none)
        (x.entered.elim s.cw.store (fun q => s.cw.store.erase (.record q none)))
      ∧ u.outOf .guard n = o ∧ u.slots = s.slots ∧ u.par Ix.actExecuted 0 = (s.par Ix.actExecuted 0 + 1) % 2 ^ 64 := by
  intro u
  let A := s.setOut .guard n o
  let r := recGuard d 0 x.subop (A.outFlags .guard n) n (A.outResult .guard n) x.seq x.stage x.branch 0
  let v := A.guardRecord false x.entered r
  have perform : u = v.cntW Ix.actExecuted 0 1 := by
    show s.performOut .guard n d false [x] = _
    unfold State.performOut
    dsimp only
    rw [hp, hA]
    rfl
  have fv : Same mask164 A v := State.guardRecord_same ..
  have wA : Dict.wf A.dict := w
  obtain ⟨g1, g2⟩ := State.guardRecord_outShown wA false x.entered r .guard n
  obtain ⟨e1, e2⟩ := State.executed_outShown (fv.dictWf wA) 1 .guard n
  have counted : v.Has Ix.actExecuted 0 (s.par Ix.actExecuted 0) := .same (s := A) (.dict (.start (s := s) w) rfl) fv rfl
  rw [perform]
  refine ⟨?_, ?_, ?_, State.Has.par (counted.cntW 1)⟩
  · rw [e1, e2, g1, g2]
    exact State.guardRecord_tells (s := A) hm x.entered r
  · exact (State.outOf_same fv rfl rfl .guard n).trans (s.outOf_setOut_self .guard n o)
  · exact fv.slots rfl

theorem State.performTarget_guard (s : State) (d : Nat) {x : Slot} (h : x.kind = 0) :
    State.performTarget d false [x] s (x.kind, x.target) = s.performOut .guard x.target d false [x] := by
  unfold State.performTarget
  simp only [h, List.filter_cons, decide_true, Bool.and_self, if_true, List.filter_nil]

/-- An excitation level takes effect, and is counted (R200). -/
theorem State.performExcite_level {s : State} {k d : Nat} {x : Slot} (h0 : x.subop = 0) (hk : x.target = k) (w : Dict.wf s.dict) :
    let u := State.performExcite d false s (x, false)
    u.exPar Ix.exLevel k = x.arg ∧ u.slots = s.slots ∧ u.par Ix.actExecuted 0 = (s.par Ix.actExecuted 0 + 1) % 2 ^ 64 := by
  intro u
  let A := (s.setPar (exIx Ix.exLevel k) (k / 2) x.arg).exChange k d
  have ex : s.excite x d = (A, false, x.arg) := by
    unfold State.excite
    rw [h0, hk]
    rfl
  let v := A.guardRecord false x.entered (recGuard d 2 x.subop
    { refused := false, superseded := false, safeHeld := decide (A.exState x.target = 2), late := false } x.target x.arg x.seq x.stage x.branch 0)
  have perform : u = v.cntW Ix.actExecuted 0 1 := by
    show State.performExcite d false s (x, false) = _
    unfold State.performExcite
    dsimp only
    rw [if_neg (by decide : ¬ (false = true)), ex]
    rfl
  have fA := (s.setPar (exIx Ix.exLevel k) (k / 2) x.arg).exChange_same k d
  have fv : Same mask164 A v := State.guardRecord_same ..
  have index : exIx Ix.exLevel k = Ix.exLevel ∨ exIx Ix.exLevel k = Ix.exLevel + 16 := by
    rcases Nat.mod_two_eq_zero_or_one k with h | h
    · exact .inl (by rw [exIx, h])
    · exact .inr (by rw [exIx, h])
  have level : v.Has (exIx Ix.exLevel k) (k / 2) x.arg := by
    have h : A.Has (exIx Ix.exLevel k) (k / 2) x.arg := .dict (.written s w) (fA.dict rfl)
    rcases index with e | e <;> rw [e] at h ⊢ <;> exact h.same fv rfl
  have counted : v.Has Ix.actExecuted 0 (s.par Ix.actExecuted 0) := by
    refine .same (.dict (.setPar (.start w) ?_) (fA.dict rfl)) fv rfl
    rcases index with e | e <;> rw [e] <;> decide
  rw [perform]
  refine ⟨?_, (fv.slots rfl).trans (fA.slots rfl), State.Has.par (counted.cntW 1)⟩
  rw [State.exPar]
  refine State.Has.par (level.setPar ?_)
  rcases index with e | e <;> rw [e] <;> decide

/-! ### Pulse ends -/

/-- A pulse's end edge on time: the pin goes back to its commanded level, and the record is told (R197, R198). -/
theorem State.endPulse_tells {s : State} {n : Nat} {p : Pulse} (hp : (s.outOf .guard n).pulse = some p) (hm : s.merging = true)
    (w : Dict.wf s.dict) {entered : Option Rec}
    (he : (s.slots.find? (fun (x : Slot) => x.holds .guard n p && x.endEntered.isSome)).bind Slot.endEntered = entered) :
    let u := s.endPulse .guard n p.end_ false
    u.cw.store = insertItem (.record (recGuard p.end_ 0 3 { u.outFlags .guard n with pulseEnd := true } n (u.outResult .guard n)
        p.seq p.stage p.branch 0) none) (entered.elim s.cw.store (fun q => s.cw.store.erase (.record q none)))
      ∧ u.outOf .guard n = { (s.outOf .guard n) with pulse := none } := by
  intro u
  let A : State := { s.setOut .guard n { (s.outOf .guard n) with pulse := none } with
    slots := s.slots.map (fun (x : Slot) => if x.holds .guard n p then { x with endEntered := none } else x) }
  let r := recGuard p.end_ 0 3 { A.outFlags .guard n with pulseEnd := true } n (A.outResult .guard n) p.seq p.stage p.branch 0
  have ends : u = A.guardRecord false entered r := by
    show s.endPulse .guard n p.end_ false = _
    unfold State.endPulse
    dsimp only
    rw [hp]
    dsimp only
    rw [if_neg (fun h => h rfl), if_neg (fun h => nomatch h.1), ← he]
    rfl
  obtain ⟨g1, g2⟩ := State.guardRecord_outShown (s := A) w false entered r .guard n
  have fv : Same mask164 A (A.guardRecord false entered r) := State.guardRecord_same ..
  rw [ends]
  refine ⟨?_, (State.outOf_same fv rfl rfl .guard n).trans (s.outOf_setOut_self .guard n _)⟩
  rw [g1, g2]
  exact State.guardRecord_tells (s := A) hm entered r

theorem pulseEnd_ends {s : State} (t : Nat) {g : Fin 192} {p : Pulse} (hr : s.tpll = true) (hp : (s.outOf .guard g).pulse = some p)
    (hn : p.end_ ≤ (s.enter t).now) (hd : ∀ x ∈ s.slots, x.done = true) :
    exec (.pulseEnd t (.guard g)) s = .next ((s.enter t).endPulse .guard g p.end_ false) := by
  have due : (s.enter t).dueOn .guard g p.end_ = false := by
    refine List.any_eq_false.mpr (fun x hx => ?_)
    rw [hd x hx]
    exact Bool.false_ne_true
  show execPulseEnd t (.guard g) s = _
  unfold execPulseEnd
  dsimp only
  rw [show ((s.enter t).outOf .guard g).pulse = some p from hp]
  dsimp only
  rw [if_pos ⟨hn, hr, by rw [due]; rfl⟩]

/-! ### MARK_OUT messages -/

/-- ACT.MARKOUT_SENT alone. -/
abbrev markoutMask : Nat := 0x200000000000000000000000000000000000000020

theorem State.canSend_counted {s : State} (w : Dict.wf s.dict) (j p : Nat) :
    (s.cntW Ix.actMarkoutSent 0 j).canSend p = s.canSend p := by
  have f : Same markoutMask s (s.cntW Ix.actMarkoutSent 0 j) := State.cntW_same _ _ _ _ rfl
  unfold State.canSend State.portUp State.runs State.domainGood
  rw [f.pars w Ix.netPortEnable p rfl, f.pars w Ix.netLink p rfl, f.pars w Ix.clkDomainGood 0 rfl, f.clk rfl]

/-- A message that both ports can send leaves on both, on the first port first (R205). -/
theorem State.send_both {s : State} (o : Nat → Out) (h0 : s.canSend 0 = true) (h1 : s.canSend 1 = true) :
    [0, 1].foldl (fun (u : State) p => if u.canSend p then u.send (o p) else u) s = { s with out := s.out ++ [o 0] ++ [o 1] } := by
  rw [List.foldl_cons, List.foldl_cons, List.foldl_nil, if_pos h0, if_pos (show (s.send (o 0)).canSend 1 = true from h1)]
  rfl

theorem State.send_neither {s : State} (o : Nat → Out) (h0 : s.canSend 0 = false) (h1 : s.canSend 1 = false) :
    [0, 1].foldl (fun (u : State) p => if u.canSend p then u.send (o p) else u) s = s := by
  rw [List.foldl_cons, List.foldl_cons, List.foldl_nil, h0, if_neg Bool.false_ne_true, h1, if_neg Bool.false_ne_true]

/-- Settles O33: a load by `loadAction_loads` and `loadAction_refuses`, an action by `performOut_tells` and `performExcite_level`, a
pulse's end by `endPulse_tells`. -/
theorem timedActions : Obligations.TimedActions := by
  intro s t x g k p m rest inv
  obtain ⟨-, w, -⟩ := inv
  intro s1 o runs due told executed at_ load stands chip ws v4
  have merging : runs → s1.merging = true := fun ⟨h, q⟩ => Bool.and_eq_true_iff.mpr ⟨h, decide_eq_true q⟩
  refine ⟨fun hr hk hn => ?_, fun hr hk hn => ?_, fun hd h0 h1 h2 hp => ?_, fun hd h0 h1 h2 hp hk => ?_, fun hd h0 h1 h2 => ?_,
    fun hr hp hn hs => ?_, fun hr hp hn hs hd h0 h1 h2 h3 h4 => ?_, fun hm h0 h1 => ?_, fun hm h0 h1 => ?_⟩
  · exact State.loadAction_loads ⟨x.seq, x.stage, x.branch, x.cause⟩ g x.subop x.param x.arg hk hn (merging hr) w
  · exact State.loadAction_refuses ⟨x.seq, x.stage, x.branch, x.cause⟩ g x.subop x.param x.arg hk hn (merging hr) w
  · obtain ⟨hr, hs, hx, hn⟩ := hd
    let v : State := { s1 with slots := [{ x with done := true, entered := none }] }
    have e1 := timedActionExec_single t hr.1 hs hx hn
    obtain ⟨c1, c2, c3, c4⟩ := State.performOut_tells (s := v) hp (State.applyOut_level x.due (show x.subop ≠ 3 by omega)) (merging hr) w
    rw [State.performTarget_guard v _ h0, h1] at e1
    refine ⟨_, e1, ⟨c4, c3⟩, by rw [c2], ?_, c1⟩
    rw [c2]
    exact subopLevel_eq _
  · obtain ⟨hr, hs, hx, hn⟩ := hd
    let v : State := { s1 with slots := [{ x with done := true, entered := none }] }
    have e1 := timedActionExec_single t hr.1 hs hx hn
    obtain ⟨c1, c2, c3, c4⟩ := State.performOut_tells (s := v) hp (State.applyOut_pulse x.due h2 hk) (merging hr) w
    rw [State.performTarget_guard v _ h0, h1] at e1
    exact ⟨_, e1, ⟨c4, c3⟩, by rw [c2]; rfl, by rw [c2]; rfl⟩
  · obtain ⟨hr, hs, hx, hn⟩ := hd
    let v : State := { s1 with slots := [{ x with done := true, entered := none }] }
    have e1 := timedActionExec_single t hr.1 hs hx hn
    obtain ⟨c1, c2, c3⟩ := State.performExcite_level (s := v) (d := x.due) h2 h1 w
    have perform : State.performTarget x.due false [x] v (x.kind, x.target) = State.performExcite x.due false v (x, false) := by
      unfold State.performTarget
      simp only [h0, h1, List.filter_cons, decide_true, Bool.and_self, if_true, List.filter_nil]
      rfl
    rw [perform] at e1
    exact ⟨_, e1, ⟨c3, c2⟩, c1⟩
  · have e1 := pulseEnd_ends t hr.1 hp hn (by rw [hs]; exact fun _ h => nomatch h)
    obtain ⟨c1, c2⟩ := State.endPulse_tells (s := s1) hp (merging hr) w (entered := none) (by rw [show s1.slots = [] from hs]; rfl)
    exact ⟨_, e1, by rw [c2], by rw [c2]; rfl, c1⟩
  · have e1 := pulseEnd_ends t hr.1 hp hn (by rw [hs]; exact fun y h => (List.mem_singleton.mp h) ▸ hd)
    have holds : x.holds .guard g p = true := by
      unfold Slot.holds Slot.safeKind
      rw [h0, h1, h2, h3, h4]
      simp
    obtain ⟨c1, c2⟩ := State.endPulse_tells (s := s1) hp (merging hr) w (entered := x.endEntered) (by
      rw [show s1.slots = [x] from hs, List.find?_cons, holds]
      cases h : x.endEntered <;> simp [h])
    exact ⟨_, e1, by rw [c2], by rw [c2]; rfl, c1⟩
  · have sends : ∀ q, s1.canSend q = true → (s1.cntW Ix.actMarkoutSent 0 1).canSend q = true := fun q h => (State.canSend_counted w 1 q).trans h
    have e1 : exec (.markOutSend t) s = .next { s1.cntW Ix.actMarkoutSent 0 1 with
        markOut := rest, out := [.markOut 0 v4 (s.par Ix.netUdpPort 0) ws, .markOut 1 v4 (s.par Ix.netUdpPort 0) ws] } := by
      show Host.Outcome.next (s.enter t).sendMark = _
      unfold State.sendMark
      rw [show (s.enter t).markOut = m :: rest from hm]
      dsimp only
      rw [show (s.enter t).canSend 0 = true from h0, Bool.true_or, if_pos rfl]
      exact congrArg Host.Outcome.next (State.send_both (s := { s1.cntW Ix.actMarkoutSent 0 1 with markOut := rest })
        (fun q => .markOut q v4 (s.par Ix.netUdpPort 0) ws) (sends 0 h0) (sends 1 h1))
    have counted : (s1.cntW Ix.actMarkoutSent 0 1).Has Ix.actMarkoutSent 0 _ := State.Has.cntW (.start (s := s1) w) 1
    exact ⟨_, e1, rfl, rfl, counted.par⟩
  · have e1 : exec (.markOutSend t) s = .next { s1 with markOut := rest } := by
      show Host.Outcome.next (s.enter t).sendMark = _
      unfold State.sendMark
      rw [show (s.enter t).markOut = m :: rest from hm]
      dsimp only
      rw [show (s.enter t).canSend 0 = false from h0, show (s.enter t).canSend 1 = false from h1, Bool.or_self, if_neg (by decide)]
      exact congrArg Host.Outcome.next (State.send_neither (s := { s1 with markOut := rest }) _ h0 h1)
    exact ⟨_, e1, rfl, rfl, rfl⟩

end Sys2Proof.Machine
end

section
/-! SUPPORT. The safe state (R72 to R74, R93 to R95). -/
namespace Sys2Proof.Machine

/-! ### Instances -/

/-- Two instances of one parameter with one key are one. -/
theorem key_sub {ix a b : Nat} (ha : a < 256) (hb : b < 256) (h : key ix a = key ix b) : a = b := by
  unfold key at h
  omega

/-- An event on another instance of the counter. -/
theorem State.Has.cnt_sub {s : State} {ix sub v tub : Nat} (h : s.Has ix sub v) (e : key ix sub ≠ key ix tub)
    (d : ix ≠ Ix.dictSatCount ∧ ix ≠ Ix.dictSatLast) : (s.cnt ix tub).Has ix sub v :=
  ⟨dictWf_cnt _ _ _ h.wf, (par_cnt_other _ _ _ _ _ h.wf e d.1 d.2).trans h.par⟩

/-- A loop over distinct entries: what holds before the entry `q`, what its step makes of it, and what stays. -/
theorem foldl_at {α β : Type} {f : β → α → β} {q : α} {R Q : β → Prop} (l : List α) (before : ∀ u, ∀ k ∈ l, k ≠ q → R u → R (f u k))
    (hit : ∀ u, R u → Q (f u q)) (after : ∀ u, ∀ k ∈ l, k ≠ q → Q u → Q (f u k)) (hn : l.Nodup) (hq : q ∈ l) (s : β) (h : R s) :
    Q (l.foldl f s) := by
  induction l generalizing s with
  | nil => exact absurd hq List.not_mem_nil
  | cons x l ih =>
    obtain ⟨hx, hl⟩ := List.nodup_cons.mp hn
    by_cases e : x = q
    · subst e
      have stays : ∀ (m : List α), (∀ k ∈ m, k ∈ l) → ∀ u, Q u → Q (m.foldl f u) := by
        intro m
        induction m with
        | nil => exact fun _ u hu => hu
        | cons y m im =>
          intro hm u hu
          have hy := hm y List.mem_cons_self
          exact im (fun k hk => hm k (List.mem_cons_of_mem _ hk)) _ (after u y (List.mem_cons_of_mem _ hy) (fun e => hx (e ▸ hy)) hu)
      exact stays l (fun _ hk => hk) _ (hit s h)
    · exact ih (fun u k hk => before u k (List.mem_cons_of_mem _ hk)) (fun u k hk => after u k (List.mem_cons_of_mem _ hk)) hl
        ((List.mem_cons.mp hq).resolve_left (fun h => e h.symm)) _ (before s x List.mem_cons_self e h)

/-! ### Entry of one output -/

/-- The tables of the outputs after one of them has entered its safe state (R72). -/
theorem State.safeEnter_outs (k : SafeKind) (t : Nat) (all : Bool) (s : State) (n : Nat) :
    s.overridden k n = false → ((State.safeEnter k t all s n).outOf k n).held = true
      ∧ ((State.safeEnter k t all s n).outOf k n).safeAll = ((s.outOf k n).safeAll || all) := by
  intro h
  refine ⟨s.safeEnter_holds k t n all h, ?_⟩
  unfold State.safeEnter
  rw [if_neg (by rw [h]; decide)]
  extract_lets o o1
  split
  · rw [State.outOf_setOut_self]
  · rw [State.outOf_same (State.emit_same ..) rfl rfl, State.outOf_same (State.cnt_frame ..) rfl rfl]
    show (((s.setOut k n { o1 with held := true }).holdBegins k n).outOf k n).safeAll = _
    unfold State.holdBegins
    rw [State.outOf_setOut_self]
    dsimp only
    split
    · rw [State.outOf_setOut_self]
    · rw [State.outOf_setOut_self]

/-- Another pin, or a line, leaves a pin; a pin leaves a line. -/
theorem State.safeEnter_other (j k : SafeKind) (hk : j = .guard ∧ k = .line ∨ j = .line ∧ k = .guard ∨ j = k) (t : Nat) (all : Bool) (s : State)
    (m n : Nat) (h : j = k → m ≠ n) : (State.safeEnter k t all s n).outOf j m = s.outOf j m := by
  have set : ∀ (u : State) (o : OutSt), (u.setOut k n o).outOf j m = u.outOf j m := by
    intro u o
    rcases hk with ⟨rfl, rfl⟩ | ⟨rfl, rfl⟩ | rfl
    · rfl
    · rfl
    · cases j <;> simp only [State.outOf, State.setOut, tget, tfind_tset, if_neg (h rfl)]
  have begins : ∀ u : State, (u.holdBegins k n).outOf j m = u.outOf j m := by
    intro u
    unfold State.holdBegins
    extract_lets o
    split
    · exact set ..
    · rfl
  unfold State.safeEnter
  split
  · rfl
  · extract_lets o o1
    split
    · exact set ..
    · rw [State.outOf_same (State.emit_same ..) rfl rfl, State.outOf_same (State.cnt_frame ..) rfl rfl, begins, set]

/-- The entries of a pin are counted where it was not held (R72). -/
theorem State.safeEnter_counts {s : State} {n v : Nat} (t : Nat) (all : Bool) (h : s.overridden .guard n = false)
    (hv : s.Has Ix.guardSafeEntries n v) :
    (State.safeEnter .guard t all s n).Has Ix.guardSafeEntries n (if (s.outOf .guard n).held then v else cntNext v) := by
  have begins : ∀ u : State, (u.holdBegins .guard n).dict = u.dict := fun u => (State.holdBegins_same ..).dict rfl
  unfold State.safeEnter
  rw [if_neg (by rw [h]; decide)]
  extract_lets o o1
  split
  · exact hv.dict rfl
  · exact .via (State.emit_same ..) rfl (.counted (.dict hv (begins _)) (by decide))

theorem State.safeEnter_keepsCount {s : State} {n v : Nat} (k : SafeKind) (t : Nat) (all : Bool) (m : Nat)
    (h : k = .guard ∧ key Ix.guardSafeEntries n ≠ key Ix.guardSafeEntries m ∨ k = .line) (hv : s.Has Ix.guardSafeEntries n v) :
    (State.safeEnter k t all s m).Has Ix.guardSafeEntries n v := by
  have begins : ∀ u : State, (u.holdBegins k m).dict = u.dict := fun u => (State.holdBegins_same ..).dict rfl
  have dict : ∀ o, (s.setOut k m o).dict = s.dict := fun o => by cases k <;> rfl
  unfold State.safeEnter
  split
  · exact hv
  · extract_lets o o1
    split
    · exact hv.dict (dict _)
    · refine .via (State.emit_same ..) rfl ?_
      have hb := hv.dict ((begins _).trans (dict { o1 with held := true }))
      rcases h with ⟨rfl, e⟩ | rfl
      · exact hb.cnt_sub e (by decide)
      · exact hb.cnt (by decide)

/-- Every output, and a pin's count, after a cause that reaches the whole device (R72). -/
theorem State.safeEnterAll_guard {s : State} {g : Nat} (hg : g < 192) (t : Nat) (all : Bool) (w : Dict.wf s.dict)
    (h : s.par Ix.guardSafeOverride g ≠ 1) :
    ((s.safeEnterAll t all).outOf .guard g).held = true
      ∧ ((s.safeEnterAll t all).outOf .guard g).safeAll = ((s.outOf .guard g).safeAll || all)
      ∧ (s.safeEnterAll t all).Has Ix.guardSafeEntries g (if (s.outOf .guard g).held then s.par Ix.guardSafeEntries g
          else cntNext (s.par Ix.guardSafeEntries g)) := by
  let Q (u : State) : Prop := (u.outOf .guard g).held = true ∧ (u.outOf .guard g).safeAll = ((s.outOf .guard g).safeAll || all)
    ∧ u.Has Ix.guardSafeEntries g (if (s.outOf .guard g).held then s.par Ix.guardSafeEntries g else cntNext (s.par Ix.guardSafeEntries g))
  let R (u : State) : Prop := u.outOf .guard g = s.outOf .guard g ∧ u.Has Ix.guardSafeEntries g (s.par Ix.guardSafeEntries g)
    ∧ u.Has Ix.guardSafeOverride g (s.par Ix.guardSafeOverride g)
  have apart : ∀ k ∈ List.range 192, k ≠ g → key Ix.guardSafeEntries g ≠ key Ix.guardSafeEntries k := fun k hk e h =>
    e (key_sub (Nat.lt_trans hg (by decide)) (Nat.lt_trans (List.mem_range.mp hk) (by decide)) h).symm
  unfold State.safeEnterAll
  refine foldl_keeps (I := Q) (fun u y ⟨h1, h2, h3⟩ => ?_) _ _ (foldl_at (R := R) (Q := Q) (q := g) _ (fun u k hk e ⟨h1, h2, h3⟩ => ?_)
    (fun u ⟨h1, h2, h3⟩ => ?_) (fun u k hk e ⟨h1, h2, h3⟩ => ?_) List.nodup_range (List.mem_range.mpr hg) s ⟨rfl, .start w, .start w⟩)
  · have o := State.safeEnter_other .guard .line (.inl ⟨rfl, rfl⟩) t all u g y (fun e => nomatch e)
    exact ⟨by rw [o]; exact h1, by rw [o]; exact h2, State.safeEnter_keepsCount .line t all y (.inr rfl) h3⟩
  · exact ⟨(State.safeEnter_other .guard .guard (.inr (.inr rfl)) t all u g k (fun _ => e.symm)).trans h1,
      State.safeEnter_keepsCount .guard t all k (.inl ⟨rfl, apart k hk e⟩) h2, h3.same (State.safeEnter_same ..) rfl⟩
  · have free : u.overridden .guard g = false := by rw [State.overridden, h3.par, decide_eq_false h, Bool.and_false]
    obtain ⟨c1, c2⟩ := State.safeEnter_outs .guard t all u g free
    exact ⟨c1, by rw [c2, h1], h1 ▸ State.safeEnter_counts t all free h2⟩
  · have o := State.safeEnter_other .guard .guard (.inr (.inr rfl)) t all u g k (fun _ => e.symm)
    exact ⟨by rw [o]; exact h1, by rw [o]; exact h2, State.safeEnter_keepsCount .guard t all k (.inl ⟨rfl, apart k hk e⟩) h3⟩

/-- An overridden pin is out of it (R75). -/
theorem State.safeEnterAll_overridden {s : State} {g : Nat} (t : Nat) (all : Bool) (w : Dict.wf s.dict)
    (h : s.par Ix.guardSafeOverride g = 1) : (s.safeEnterAll t all).outOf .guard g = s.outOf .guard g := by
  let R (u : State) : Prop := u.outOf .guard g = s.outOf .guard g ∧ u.Has Ix.guardSafeOverride g 1
  have keeps : ∀ (u : State) (k : SafeKind) n, (k = .guard ∨ k = .line) → R u → R (State.safeEnter k t all u n) := by
    intro u k n hk ⟨h1, h2⟩
    refine ⟨?_, h2.same (State.safeEnter_same ..) rfl⟩
    rcases hk with rfl | rfl
    · by_cases e : g = n
      · subst e
        have held : u.overridden .guard g = true := by rw [State.overridden, h2.par]; rfl
        unfold State.safeEnter
        rw [if_pos held]
        exact h1
      · exact (State.safeEnter_other .guard .guard (.inr (.inr rfl)) t all u g n (fun _ => e)).trans h1
    · exact (State.safeEnter_other .guard .line (.inl ⟨rfl, rfl⟩) t all u g n (fun e => nomatch e)).trans h1
  unfold State.safeEnterAll
  exact (foldl_keeps (I := R) (fun u y h => keeps u .line y (.inr rfl) h) _ _
    (foldl_keeps (I := R) (fun u y h => keeps u .guard y (.inl rfl) h) _ _ ⟨rfl, h ▸ .start w⟩)).1

theorem State.safeEnterAll_line {s : State} {n : Nat} (hn : n < 8) (t : Nat) :
    ((s.safeEnterAll t true).outOf .line n).held = true ∧ ((s.safeEnterAll t true).outOf .line n).safeAll = true := by
  unfold State.safeEnterAll
  refine foldl_at (q := n) (R := fun _ => True) (Q := fun u : State => (u.outOf .line n).held = true ∧ (u.outOf .line n).safeAll = true) _
    (fun _ _ _ _ _ => trivial) (fun u _ => ?_) (fun u k _ e ⟨h1, h2⟩ => ?_) List.nodup_range (List.mem_range.mpr hn) _ trivial
  · obtain ⟨c1, c2⟩ := State.safeEnter_outs .line t true u n rfl
    exact ⟨c1, c2.trans (Bool.or_true _)⟩
  · rw [State.safeEnter_other .line .line (.inr (.inr rfl)) t true u n k (fun _ => e.symm)]
    exact ⟨h1, h2⟩

/-! ### Excitation sources -/

/-- A source's parameter has one of two indices (R107). -/
theorem exIx_or (ix k : Nat) : exIx ix k = ix ∨ exIx ix k = ix + 16 := by
  unfold exIx
  rcases Nat.mod_two_eq_zero_or_one k with h | h <;> rw [h]
  · exact .inl rfl
  · exact .inr rfl

theorem exIx_ne {ix jx k : Nat} (h : ix ≠ jx) : exIx ix k ≠ exIx jx k := fun e => h (Nat.add_right_cancel e)

/-- A source's parameter through an operation whose frame leaves both indices. -/
theorem State.Has.exSame {s t : State} {ix k sub v m : Nat} (h : s.Has (exIx ix k) sub v) (f : Same m s t)
    (hb : m.testBit (42 + regNo ix) = false) (hc : m.testBit (42 + regNo (ix + 16)) = false) : t.Has (exIx ix k) sub v := by
  rcases exIx_or ix k with e | e <;> rw [e] at h ⊢
  · exact h.same f hb
  · exact h.same f hc

theorem State.exEnter_state (s : State) (k st t : Nat) (w : Dict.wf s.dict) : (s.exEnter k st t).Has (exIx Ix.exState k) (k / 2) st := by
  unfold State.exEnter
  extract_lets s1
  have w1 : Dict.wf s1.dict := by
    unfold s1
    split
    · exact w
    · exact (State.exClear_same ..).dictWf ((State.exClear_same ..).dictWf w)
  exact .dict (.written s1 w1) ((State.exNote_same ..).dict rfl)

/-- Another source's change of state. -/
theorem State.exEnter_keeps {s : State} {k v : Nat} (h : s.Has (exIx Ix.exState k) (k / 2) v) (j st t : Nat) :
    (s.exEnter j st t).Has (exIx Ix.exState k) (k / 2) v ∨ (s.exEnter j st t).Has (exIx Ix.exState k) (k / 2) st := by
  unfold State.exEnter
  extract_lets s1
  have h1 : s1.Has (exIx Ix.exState k) (k / 2) v := by
    unfold s1
    split
    · exact h
    · exact (h.exSame (State.exClear_same ..) rfl rfl).exSame (State.exClear_same ..) rfl rfl
  by_cases e : key (exIx Ix.exState k) (k / 2) = key (exIx Ix.exState j) (j / 2)
  · refine .inr (.dict (s := s1.setPar (exIx Ix.exState j) (j / 2) st) ⟨dictWf_setPar _ _ _ _ h1.wf, ?_⟩ ((State.exNote_same ..).dict rfl))
    rw [State.par, e]
    exact par_setPar_self s1 _ _ _ h1.wf
  · exact .inl (.dict (h1.setPar_key e) ((State.exNote_same ..).dict rfl))

/-- The consumers of a source that enters its safe state are told; the source's state stays. -/
theorem State.exSafeEnter_enters (t : Nat) (all : Bool) {s : State} {k : Nat} (w : Dict.wf s.dict) (h : s.exState k = 1 ∨ s.exState k = 3) :
    (State.exSafeEnter t all s k).Has (exIx Ix.exState k) (k / 2) 2 := by
  unfold State.exSafeEnter
  extract_lets e s1
  rw [if_pos h]
  refine foldl_keeps (I := fun u : State => u.Has (exIx Ix.exState k) (k / 2) 2) (fun u l hu => ?_) _ _ (State.exEnter_state s1 k 2 t w)
  split
  · exact hu.exSame (State.laneRecord_same ..) rfl rfl
  · exact hu

theorem State.exSafeEnter_keeps (t : Nat) (all : Bool) {s : State} {k v : Nat} (h : s.Has (exIx Ix.exState k) (k / 2) v) (j : Nat) :
    (State.exSafeEnter t all s j).Has (exIx Ix.exState k) (k / 2) v ∨ (State.exSafeEnter t all s j).Has (exIx Ix.exState k) (k / 2) 2 := by
  unfold State.exSafeEnter
  extract_lets e s1
  have tells : ∀ (u : State) (l : List Nat) v, u.Has (exIx Ix.exState k) (k / 2) v → (l.foldl (fun u l =>
      if u.laneOn l then u.laneRecord (recStatus t l 3 (1 + 2 * (j % 2) + 8) 0 0) else u) u).Has (exIx Ix.exState k) (k / 2) v := by
    intro u l v hu
    refine foldl_keeps (I := fun u : State => u.Has (exIx Ix.exState k) (k / 2) v) (fun u l hu => ?_) _ _ hu
    split
    · exact hu.exSame (State.laneRecord_same ..) rfl rfl
    · exact hu
  have h1 : s1.Has (exIx Ix.exState k) (k / 2) v := h.dict rfl
  split
  · rcases State.exEnter_keeps h1 j 2 t with g | g
    · exact .inl (tells _ _ _ g)
    · exact .inr (tells _ _ _ g)
  · exact .inl h1

/-- What the sources' entry leaves of the outputs' entry (R93). -/
theorem State.safeEverything_has {s : State} {t : Nat} {all : Bool} {ix sub v : Nat} (h : (s.safeEnterAll t all).Has ix sub v)
    (hb : mask5.testBit (42 + regNo ix) = false) : (s.safeEverything t all).Has ix sub v := by
  unfold State.safeEverything
  extract_lets s1 s2
  have h2 : s2.Has ix sub v := h.same (Same.foldl _ (Same.refl _ _) (fun _ _ => State.exSafeEnter_same ..)) hb
  clear_value s2
  exact h2.dict rfl

theorem State.safeEverything_outOf (s : State) (t : Nat) (all : Bool) (j : SafeKind) (n : Nat) :
    (s.safeEverything t all).outOf j n = (s.safeEnterAll t all).outOf j n := by
  unfold State.safeEverything
  extract_lets s1 s2
  have f2 : Same mask5 s1 s2 := Same.foldl _ (Same.refl _ _) (fun _ _ => State.exSafeEnter_same ..)
  clear_value s2
  exact State.outOf_same f2 rfl rfl j n

/-- A source that runs or is parked is held by a cause that reaches the whole device (R93). -/
theorem State.safeEverything_source {s : State} {k : Nat} (hk : k < 48) (t : Nat) (all : Bool) (w : Dict.wf s.dict)
    (h : s.exState k = 1 ∨ s.exState k = 3) : (s.safeEverything t all).exState k = 2 := by
  unfold State.safeEverything
  extract_lets s1 s2
  have h1 : s1.Has (exIx Ix.exState k) (k / 2) (s.exState k) := .exSame (.start w) (State.safeEnterAll_same ..) rfl rfl
  have loop : s2.Has (exIx Ix.exState k) (k / 2) 2 := by
    refine foldl_reaches (x := k) (I := fun u : State => u.Has (exIx Ix.exState k) (k / 2) (s.exState k) ∨ u.Has (exIx Ix.exState k) (k / 2) 2)
      (P := fun u : State => u.Has (exIx Ix.exState k) (k / 2) 2) (fun u hu => ?_) (fun u j hu => ?_) (fun u j _ hu => ?_) _ s1 (.inl h1)
      (.inl (List.mem_range.mpr hk))
    · rcases hu with hu | hu
      · exact State.exSafeEnter_enters t all hu.wf ((show u.exState k = s.exState k from hu.par) ▸ h)
      · exact (State.exSafeEnter_keeps t all hu k).elim id id
    · rcases hu with hu | hu
      · exact State.exSafeEnter_keeps t all hu j
      · exact .inr ((State.exSafeEnter_keeps t all hu j).elim id id)
    · exact (State.exSafeEnter_keeps t all hu j).elim id id
  clear_value s2
  exact State.Has.par (loop.dict rfl)

/-- A source that is held or parked drives its pins as EX.SAFE_STATE says (R93 to R95). -/
theorem State.exDrive_held {s : State} {k : Nat} (h : s.exState k = 2 ∨ s.exState k = 3) (t : Nat) :
    s.exDrive k t = if s.exPar Ix.exSafeState k = 0 then .open_ else .zero := by
  unfold State.exDrive
  exact (if_neg (by omega)).trans (if_neg (by omega))

theorem State.exOf_setEx (s : State) (k : Nat) (e : ExSt) : (s.setEx k e).exOf k = e := by
  show (tfind (tset s.ex k e) k).getD {} = e
  rw [tfind_tset, if_pos rfl, Option.getD_some]

/-! ### Releases -/

/-- A release of a held pin or line (R73, R74). -/
theorem State.releaseRequest_releases {s : State} {k : SafeKind} {n : Nat} (h : (s.outOf k n).held = true) :
    ((s.releaseRequest k n).outOf k n).safeAll = false
      ∧ (s.globalCause = false → ((s.releaseRequest k n).outOf k n).releaseAt = some (nextMicro s.now))
      ∧ (s.globalCause = true → ((s.releaseRequest k n).outOf k n).releaseAt = (s.outOf k n).releaseAt) := by
  unfold State.releaseRequest
  dsimp only
  rw [h, if_neg (by decide)]
  cases hc : s.globalCause with
  | true =>
    rw [if_pos rfl, State.outOf_same (State.cnt_frame ..) rfl rfl, State.outOf_setOut_self]
    exact ⟨rfl, nofun, fun _ => rfl⟩
  | false =>
    rw [if_neg Bool.false_ne_true, State.outOf_setOut_self]
    exact ⟨rfl, fun _ => rfl, nofun⟩

/-- A refused release is counted (R73). -/
theorem State.releaseRequest_refused {s : State} {k : SafeKind} {n : Nat} (w : Dict.wf s.dict) (h : (s.outOf k n).held = true)
    (hc : s.globalCause = true) (hk : k = .guard ∨ k = .line) :
    (s.releaseRequest k n).par (outPar k Ix.guardReleaseRefused Ix.vdReleaseRefused) n
      = cntNext (s.par (outPar k Ix.guardReleaseRefused Ix.vdReleaseRefused) n) := by
  unfold State.releaseRequest
  dsimp only
  rw [h, if_neg (by decide), if_pos (by rcases hk with rfl | rfl <;> exact hc)]
  rcases hk with rfl | rfl
  all_goals exact State.Has.par (.counted (.dict (.start (s := s) w) rfl) (by decide))

theorem State.exRelease_releases {s : State} {k : Nat} (w : Dict.wf s.dict) (h : s.exState k = 2) :
    ((s.exRelease k).exOf k).safeAll = false
      ∧ (s.globalCause = false → ((s.exRelease k).exOf k).releaseAt = some (nextMicro s.now))
      ∧ (s.globalCause = true → ((s.exRelease k).exOf k).releaseAt = (s.exOf k).releaseAt
        ∧ (s.exRelease k).par Ix.exReleaseRefused k = cntNext (s.par Ix.exReleaseRefused k)) := by
  unfold State.exRelease
  dsimp only
  rw [if_neg (show ¬ s.exState k ≠ 2 from fun e => e h)]
  cases hc : s.globalCause with
  | true =>
    rw [if_pos rfl]
    have ex : ∀ u : State, (u.cnt Ix.exReleaseRefused k).exOf k = u.exOf k := fun u =>
      congrArg (tget ({} : ExSt) · k) ((State.cnt_frame ..).ex rfl)
    rw [ex, State.exOf_setEx]
    exact ⟨rfl, nofun, fun _ => ⟨rfl, State.Has.par (.counted (.dict (.start (s := s) w) rfl) (by decide))⟩⟩
  | false =>
    rw [if_neg Bool.false_ne_true, State.exOf_setEx]
    exact ⟨rfl, fun _ => rfl, nofun⟩

theorem State.releaseEffect_leaves {s : State} {k : SafeKind} {n m : Nat} (h : (s.outOf k n).held = true)
    (hr : (s.outOf k n).releaseAt = some m) (hm : m ≤ s.now) :
    s.releaseEffect k n = (s.setOut k n { (s.outOf k n) with held := false, releaseAt := none }).emit
      ((s.setOut k n { (s.outOf k n) with held := false, releaseAt := none }).safeRecord k n m 2) := by
  unfold State.releaseEffect
  dsimp only
  rw [hr]
  exact if_pos ⟨hm, h⟩

/-- A source's parameter but its state, through a change of state. -/
theorem State.exEnter_exPar {s : State} (w : Dict.wf s.dict) (k st t : Nat) {ix : Nat} (h : ix ≠ Ix.exState)
    (hb : mask161.testBit (42 + regNo ix) = false) (hc : mask161.testBit (42 + regNo (ix + 16)) = false) :
    (s.exEnter k st t).Has (exIx ix k) (k / 2) (s.exPar ix k) := by
  unfold State.exEnter
  extract_lets s1
  have h1 : s1.Has (exIx ix k) (k / 2) (s.exPar ix k) := by
    unfold s1
    split
    · exact .start w
    · exact (State.Has.exSame (.start w) (State.exClear_same ..) hb hc).exSame (State.exClear_same ..) hb hc
  exact .dict (h1.setPar (exIx_ne h)) ((State.exNote_same ..).dict rfl)

/-- A released source resumes: it runs, or is parked while its pier is asleep (R94). -/
theorem State.exReleaseEffect_resumes {s : State} {k m : Nat} (w : Dict.wf s.dict) (h : s.exState k = 2)
    (hr : (s.exOf k).releaseAt = some m) (hm : m ≤ s.now) :
    (s.exReleaseEffect k).exState k = (if s.awake (k / 2) then 1 else 3)
      ∧ ∀ ix, ix ≠ Ix.exState → mask161.testBit (42 + regNo ix) = false → mask161.testBit (42 + regNo (ix + 16)) = false →
        mask22.testBit (42 + regNo ix) = false → mask22.testBit (42 + regNo (ix + 16)) = false →
        (s.exReleaseEffect k).exPar ix k = s.exPar ix k := by
  let s1 := s.setEx k { (s.exOf k) with releaseAt := none }
  let s2 := if s.awake (k / 2) then (s1.exEnter k 1 m).settleLanes (s1.consumers k) m else s1.exEnter k 3 m
  have e1 : s.exReleaseEffect k = s2.emit (recGuard m 2 0 {} k (s2.exPar Ix.exLevel k) 255 255 255 2) := by
    unfold State.exReleaseEffect
    dsimp only
    rw [hr]
    exact if_pos ⟨hm, h⟩
  have frame := State.emit_same s2 (recGuard m 2 0 {} k (s2.exPar Ix.exLevel k) 255 255 255 2)
  have st : s2.Has (exIx Ix.exState k) (k / 2) (if s.awake (k / 2) then 1 else 3) := by
    unfold s2
    split
    · exact .exSame (State.exEnter_state s1 k 1 m w) (State.settleLanes_same ..) rfl rfl
    · exact State.exEnter_state s1 k 3 m w
  rw [e1]
  refine ⟨State.Has.par (st.exSame frame rfl rfl), fun ix h1 h2 h3 h4 h5 => State.Has.par (.exSame ?_ frame h4 h5)⟩
  unfold s2
  split
  · have := State.exEnter_exPar (s := s1) w k 1 m h1 h2 h3
    exact .dict this ((State.settleLanes_same ..).dict rfl)
  · exact State.exEnter_exPar (s := s1) w k 3 m h1 h2 h3

/-- Settles O34: entry by loops over the outputs and sources, releases by their rules above. -/
theorem safeStates : Obligations.SafeStates := by
  intro s t m g l k inv
  obtain ⟨-, w, -⟩ := inv
  intro s1 micro cause
  refine ⟨?_, fun h => ?_, fun h => ?_, fun h => ?_, fun h1 h2 h hr hm => ?_, fun h hr hm => ?_, fun h hr hm ha => ?_, fun h hr hm ha => ?_⟩
  · let u := s1.safeEverything s1.now true
    have outs : ∀ j n, u.outOf j n = (s1.safeEnterAll s1.now true).outOf j n := s1.safeEverything_outOf s1.now true
    obtain ⟨l1, l2⟩ := State.safeEnterAll_line (s := s1) l.isLt s1.now
    refine ⟨u, rfl, fun h => ?_, fun h => ?_, by rw [outs]; exact l1, by rw [outs]; exact l2, fun h => ?_⟩
    · obtain ⟨c1, c2, c3⟩ := State.safeEnterAll_guard (s := s1) g.isLt s1.now true w h
      exact ⟨by rw [outs]; exact c1, by rw [outs, c2, Bool.or_true], (State.safeEverything_has c3 rfl).par⟩
    · exact (outs .guard g).trans (State.safeEnterAll_overridden s1.now true w h)
    · have held : u.exState k = 2 := State.safeEverything_source (s := s1) k.isLt s1.now true w h
      have kept : u.exPar Ix.exSafeState k = s.exPar Ix.exSafeState k :=
        State.Has.par (.exSame (.start (s := s1) w) (State.safeEverything_same ..) rfl rfl)
      exact ⟨held, by rw [State.exDrive_held (.inl held), kept]⟩
  · obtain ⟨c1, c2, c3⟩ := State.releaseRequest_releases (s := s1) (k := .guard) (n := g) h
    exact ⟨_, rfl, c1, c2, fun hc => ⟨c3 hc, State.releaseRequest_refused (s := s1) w h hc (.inl rfl)⟩⟩
  · obtain ⟨c1, c2, c3⟩ := State.releaseRequest_releases (s := s1) (k := .line) (n := l) h
    exact ⟨_, rfl, c1, c2, fun hc => ⟨c3 hc, State.releaseRequest_refused (s := s1) w h hc (.inr rfl)⟩⟩
  · exact ⟨_, rfl, State.exRelease_releases (s := s1) w h⟩
  · let v := s1.setOut .guard g { (s1.outOf .guard g) with held := false, releaseAt := none }
    have e1 := State.releaseEffect_leaves (s := s1) (k := .guard) (n := g) h hr hm
    have frame := v.emit_same (v.safeRecord .guard g m 2)
    obtain ⟨g1, g2⟩ := State.outShown_same frame w rfl rfl (by decide) .guard g
    have merging : v.merging = true := Bool.and_eq_true_iff.mpr ⟨h1, decide_eq_true h2⟩
    refine ⟨_, congrArg Host.Outcome.next e1, ?_, ?_⟩
    · rw [State.outOf_same frame rfl rfl, State.outOf_setOut_self]
    · rw [g1, g2]
      exact State.emit_store merging _
  · have e1 := State.releaseEffect_leaves (s := s1) (k := .line) (n := l) h hr hm
    refine ⟨_, congrArg Host.Outcome.next e1, ?_⟩
    dsimp only
    rw [State.outOf_same (State.emit_same ..) rfl rfl, State.outOf_setOut_self]
  · obtain ⟨c1, c2⟩ := State.exReleaseEffect_resumes (s := s1) w h hr hm
    have run : (s1.exReleaseEffect k).exState k = 1 := c1.trans (if_pos ha)
    refine ⟨_, rfl, run, fun hv halt hpol => ?_⟩
    have p : ∀ ix, ix ≠ Ix.exState → mask161.testBit (42 + regNo ix) = false → mask161.testBit (42 + regNo (ix + 16)) = false →
        mask22.testBit (42 + regNo ix) = false → mask22.testBit (42 + regNo (ix + 16)) = false →
        (s1.exReleaseEffect k).exPar ix k = s.exPar ix k := c2
    unfold State.exDrive State.exNegative State.alternates State.exLevel
    rw [run, p Ix.exMode (by decide) rfl rfl rfl rfl, p Ix.exPin (by decide) rfl rfl rfl rfl, p Ix.exReturn (by decide) rfl rfl rfl rfl,
      p Ix.exAltN (by decide) rfl rfl rfl rfl, p Ix.exPolarity (by decide) rfl rfl rfl rfl, p Ix.exLevel (by decide) rfl rfl rfl rfl, hv, hpol,
      show (decide (2 ≤ s.exPar Ix.exAltN k) && decide (s.exPar Ix.exAltN k ≤ 65536)) = false from halt]
    rfl
  · obtain ⟨c1, c2⟩ := State.exReleaseEffect_resumes (s := s1) w h hr hm
    have parked : (s1.exReleaseEffect k).exState k = 3 := c1.trans (if_neg (by rw [show s1.awake (k / 2) = false from ha]; decide))
    exact ⟨_, rfl, parked, by rw [State.exDrive_held (.inr parked), c2 Ix.exSafeState (by decide) rfl rfl rfl rfl]; rfl⟩

end Sys2Proof.Machine
end

section
/-! SUPPORT. Flags of the sources and of the bias output (R87, R89, R92, R96, R105, R473). -/
namespace Sys2Proof.Machine

/-- A frame leaves the parameters of a list. -/
def leavesAll (m : Nat) (l : List Nat) : Bool := l.all (fun ix => !m.testBit (42 + regNo ix))

theorem Same.par_of_list {m : Nat} {s t : State} (f : Same m s t) (w : Dict.wf s.dict) {l : List Nat} (h : leavesAll m l = true) {ix : Nat}
    (hx : ix ∈ l) (sub : Nat) : t.par ix sub = s.par ix sub :=
  f.pars w ix sub (by simpa using List.all_eq_true.mp h ix hx)

/-! ### Settling (R105, R118) -/

theorem State.convOf_setConv (s : State) (l : Nat) (c : ConvSt) : (s.setConv l c).convOf l = c := by
  show (tfind (tset s.conv l c) l).getD {} = c
  rw [tfind_tset, if_pos rfl, Option.getD_some]

theorem State.convOf_setConv_ne (s : State) {l n : Nat} (c : ConvSt) (h : n ≠ l) : (s.setConv l c).convOf n = s.convOf n := by
  show (tfind (tset s.conv l c) n).getD {} = _
  rw [tfind_tset, if_neg h]
  rfl

theorem State.convOf_same {m : Nat} {s t : State} (f : Same m s t) (h : m.testBit 17 = false) (l : Nat) : t.convOf l = s.convOf l :=
  congrArg (tget ({} : ConvSt) · l) (f.conv h)

theorem State.checkSkips_conv (s : State) (l a b : Nat) : (s.checkSkips l a b).conv = s.conv := (State.checkSkips_same ..).conv rfl

/-- The samples that a settling cause at `c` marks, by the lane's settings in `s`. -/
def State.settled (s : State) (l c : Nat) : Nat × Nat :=
  (ceilMul (c + 25601) (s.samplePeriod l), ceilMul (c + 25601) (s.samplePeriod l) + (s.settleCount l - 1) * s.samplePeriod l)

/-- The settings that settling rests on. -/
def settleRegs : List Nat := [Ix.laneRole, Ix.laneRate, Ix.laneFilter]

/-- A settling cause of an analog lane marks its next samples (R118). -/
theorem State.settleCause_marks {m : Nat} {s u : State} (f : Same m s u) (w : Dict.wf s.dict) (hb : leavesAll m settleRegs = true) {l : Nat}
    (ha : s.analog l = true) (c : Nat) : ((u.settleCause l c).convOf l).unsettled.getLast? = some (s.settled l c) := by
  have analog : u.analog l = true := by
    rw [State.analog, f.par_of_list w hb (by decide)]
    exact ha
  have period : u.samplePeriod l = s.samplePeriod l := by
    rw [State.samplePeriod, f.par_of_list w hb (by decide)]
    rfl
  have count : u.settleCount l = s.settleCount l := by
    rw [State.settleCount, period, f.par_of_list w hb (by decide)]
    rfl
  unfold State.settleCause
  rw [if_pos analog]
  extract_lets v
  have marks : (v.convOf l).unsettled.getLast? = some (s.settled l c) := by
    unfold v State.unsettle
    dsimp only
    rw [State.convOf_setConv, period, count]
    exact List.getLast?_concat
  clear_value v
  rw [State.convOf, State.checkSkips_conv]
  show ((State.setConv _ l _).convOf l).unsettled.getLast? = _
  rw [State.convOf_setConv]
  exact marks

theorem State.settleCause_other (u : State) {l n : Nat} (h : n ≠ l) (c : Nat) : (u.settleCause l c).convOf n = u.convOf n := by
  unfold State.settleCause
  split
  · extract_lets v
    have other : v.convOf n = u.convOf n := State.convOf_setConv_ne u _ h
    clear_value v
    rw [State.convOf, State.checkSkips_conv]
    exact (State.convOf_setConv_ne v _ h).trans other
  · rfl

/-- Of several lanes that settle each is marked. -/
theorem State.settleLanes_marks {m : Nat} {s u : State} (f : Same m s u) (w : Dict.wf s.dict) (hm : 0xa0000 ||| m = m)
    (hb : leavesAll m settleRegs = true) {l : Nat} (ha : s.analog l = true) {lanes : List Nat} (hl : l ∈ lanes) (c : Nat) :
    ((u.settleLanes lanes c).convOf l).unsettled.getLast? = some (s.settled l c) := by
  refine foldl_reaches (I := fun v => Same m s v) (P := fun v : State => (v.convOf l).unsettled.getLast? = some (s.settled l c)) (x := l)
    (fun v g => State.settleCause_marks g w hb ha c) (fun v y g => g.then (State.settleCause_same ..) hm) (fun v y g h => ?_) lanes u f (.inl hl)
  by_cases e : l = y
  · exact e ▸ State.settleCause_marks g w hb ha c
  · rw [State.settleCause_other v e]
    exact h

/-! ### A lane's records (R64, R473) -/

/-- A lane's records enter its buffer: it is enabled, its pier is awake, and the Causeway runs. -/
structure State.Tells (s : State) (l : Nat) : Prop where
  wf : Dict.wf s.dict
  on : s.laneOn l = true
  awake : s.awake (l / 8) = true
  merging : s.merging = true

def tellRegs : List Nat := [Ix.laneEnable, Ix.pwrPierState, Ix.pwrState]

theorem State.Tells.same {m l : Nat} {s t : State} (h : s.Tells l) (f : Same m s t) (hb : leavesAll m tellRegs = true)
    (ht : m.testBit 6 = false) (hc : m.testBit 36 = false) : t.Tells l := by
  refine ⟨f.dictWf h.wf, ?_, ?_, ?_⟩
  · rw [State.laneOn, f.par_of_list h.wf hb (by decide)]
    exact h.on
  · rw [State.awake, f.par_of_list h.wf hb (by decide)]
    exact h.awake
  · unfold State.merging State.tpll State.counts
    rw [f.time ht, f.clk hc, f.par_of_list h.wf hb (by decide)]
    exact h.merging

theorem State.edgeOf_setEdge_ne (s : State) {src n : Nat} (e : EdgeSt) (h : n ≠ src) : (s.setEdge src e).edgeOf n = s.edgeOf n := by
  show (tfind (tset s.edge src e) n).getD {} = _
  rw [tfind_tset, if_neg h]
  rfl

theorem State.buffer_other (s : State) (r : Rec) {n : Nat} (h : n ≠ r.src) : (s.buffer r).edgeOf n = s.edgeOf n := by
  unfold State.buffer
  extract_lets e _ s1
  split
  · unfold State.loseEvent
    extract_lets
    split
    · rw [State.edgeOf_cnt]
      exact State.edgeOf_setEdge_ne s _ h
    · exact State.edgeOf_setEdge_ne s _ h
  · split
    · rw [State.edgeOf_mark]
      exact State.edgeOf_setEdge_ne s _ h
    · exact State.edgeOf_setEdge_ne s _ h

theorem State.laneStatus_other (s : State) {l n : Nat} (kind low w2 t : Nat) (h : n ≠ l) :
    (s.laneStatus l kind low w2 t).edgeOf n = s.edgeOf n := by
  unfold State.laneStatus
  split
  · unfold State.laneRecord
    split
    · exact State.buffer_other s _ h
    · rfl
  · rfl

/-- A condition of a lane is told (R473). -/
theorem State.laneStatus_tells {s : State} {l : Nat} (h : s.Tells l) (hl : l < 192) (room : (s.edgeOf l).buf.length < 256)
    (kind low w2 t : Nat) : (s.laneStatus l kind low w2 t).edgeOf l
      = { s.edgeOf l with buf := (s.edgeOf l).buf ++ [recStatus t l kind low w2 0] } := by
  unfold State.laneStatus State.laneRecord
  rw [h.on, h.awake, if_pos (by rfl), if_pos h.merging]
  exact State.edgeOf_buffer s l _ rfl (by rw [bufferSize, if_pos hl]; exact room)

theorem lanesOf_nodup (p : Nat) : (lanesOf p).Nodup := 
  List.Pairwise.map _ (fun _ _ h e => h (Nat.add_left_cancel e)) List.nodup_range

theorem State.consumers_nodup (s : State) (k : Nat) : (s.consumers k).Nodup :=
  List.Pairwise.map _ (fun _ _ h e => h (Nat.add_left_cancel e)) (List.nodup_range.filter _)

theorem State.consumers_lt {s : State} {k l : Nat} (hk : k < 48) (h : l ∈ s.consumers k) : l < 192 := by
  obtain ⟨i, hi, rfl⟩ := List.mem_map.mp h
  have := List.mem_range.mp (List.mem_filter.mp hi).1
  omega

/-! ### Flags of a source (R87, R92) -/

theorem State.exFlagLane_eq (k : Nat) (open_ set : Bool) (t : Nat) (s : State) (l : Nat) : State.exFlagLane k open_ set t s l
    = (if open_ && set then s.cnt Ix.laneWireOpenEvents l else s).laneStatus l (if open_ then 1 else 3) (b2n set + 2 * (k % 2)) 0 t := by
  unfold State.exFlagLane
  cases open_ <;> cases set <;> rfl

theorem State.countIf_edgeOf (c : Bool) (s : State) (ix l n : Nat) : (if c then s.cnt ix l else s).edgeOf n = s.edgeOf n := by
  cases c
  · rfl
  · exact State.edgeOf_cnt ..

/-- What a flag's change tells of the consumers: the lane's record (R92, R473). -/
theorem State.exFlags_tell {s : State} {l : Nat} (k : Nat) (lanes : List Nat) (hn : lanes.Nodup) (hl : l ∈ lanes) (hr : l < 192)
    (open_ set : Bool) (t : Nat) (h : s.Tells l) (room : (s.edgeOf l).buf.length < 256) :
    ((lanes.foldl (State.exFlagLane k open_ set t) s).edgeOf l).buf
      = (s.edgeOf l).buf ++ [recStatus t l (if open_ then 1 else 3) (b2n set + 2 * (k % 2)) 0 0] := by
  refine foldl_at (q := l) (R := fun u : State => u.Tells l ∧ u.edgeOf l = s.edgeOf l)
    (Q := fun u : State => (u.edgeOf l).buf = (s.edgeOf l).buf ++ [recStatus t l (if open_ then 1 else 3) (b2n set + 2 * (k % 2)) 0 0]) _
    (fun u y _ e ⟨h1, h2⟩ => ⟨h1.same (State.exFlagLane_same ..) (by decide) rfl rfl, ?_⟩) (fun u ⟨h1, h2⟩ => ?_) (fun u y _ e h1 => ?_) hn hl s
    ⟨h, rfl⟩
  all_goals rw [State.exFlagLane_eq]
  · rw [State.laneStatus_other _ _ _ _ _ e.symm, State.countIf_edgeOf, h2]
  · have tells := h1.same (t := if open_ && set then u.cnt Ix.laneWireOpenEvents l else u)
      (Same.ite (State.cnt_same (m := mask102) _ _ _ rfl) (Same.refl _ _)) (by decide) rfl rfl
    rw [State.laneStatus_tells tells hr (by rw [State.countIf_edgeOf, h2]; exact room), State.countIf_edgeOf, h2]
  · rw [State.laneStatus_other _ _ _ _ _ e.symm, State.countIf_edgeOf, h1]

/-- An open circuit that is set counts at each consumer (R472). -/
theorem State.exFlags_count {s : State} {l : Nat} (k : Nat) (lanes : List Nat) (hn : lanes.Nodup) (hr : ∀ y ∈ lanes, y < 192) (hl : l ∈ lanes)
    (t : Nat) (w : Dict.wf s.dict) : (lanes.foldl (State.exFlagLane k true true t) s).par Ix.laneWireOpenEvents l
      = cntNext (s.par Ix.laneWireOpenEvents l) := by
  have apart : ∀ y ∈ lanes, y ≠ l → key Ix.laneWireOpenEvents l ≠ key Ix.laneWireOpenEvents y := fun y hy e h =>
    e (key_sub (Nat.lt_trans (hr l hl) (by decide)) (Nat.lt_trans (hr y hy) (by decide)) h).symm
  refine State.Has.par (foldl_at (q := l) (R := fun u : State => u.Has Ix.laneWireOpenEvents l (s.par Ix.laneWireOpenEvents l))
    (Q := fun u : State => u.Has Ix.laneWireOpenEvents l (cntNext (s.par Ix.laneWireOpenEvents l))) _ (fun u y hy e h => ?_) (fun u h => ?_)
    (fun u y hy e h => ?_) hn hl s (.start w))
  · exact .via (State.laneStatus_same ..) rfl (h.cnt_sub (apart y hy e) (by decide))
  · exact .via (State.laneStatus_same ..) rfl (h.counted (by decide))
  · exact .via (State.laneStatus_same ..) rfl (h.cnt_sub (apart y hy e) (by decide))

/-- The index of a flag of a source. -/
def flagIx (open_ : Bool) : Nat := if open_ then Ix.exOpen else Ix.exCompliance

/-- The condition of a flag, of the level as it is set: the limits of R87 move no threshold of Table 4. -/
theorem State.exFaulty_eq (s : State) (k : Nat) (open_ : Bool) (reading : Int) : s.exFaulty k open_ reading
    = (if decide (s.exPar Ix.exMode k ≠ 0) then
        (if open_ then decide (100000 ≤ s.exPar Ix.exLevel k) && decide (reading.natAbs < s.exPar Ix.exIOpen k)
          else decide (10000000 ≤ reading.natAbs))
      else open_ && (decide (reading ≤ 300000) || decide (4600000 ≤ reading))) := by
  unfold State.exFaulty State.exLevel
  by_cases h : s.exPar Ix.exMode k = 0
  · rw [if_pos h, if_neg (by rw [decide_eq_true_eq]; exact fun g => g h)]
  · have level : decide (100000 ≤ min (s.exPar Ix.exLevel k) 5000000) = decide (100000 ≤ s.exPar Ix.exLevel k) :=
      decide_eq_decide.mpr (by omega)
    rw [if_neg h, if_pos (decide_eq_true h), if_neg h, level]

theorem State.checkCondition_dict (s : State) (a b : Nat) (l : List Nat) (on : Bool) (t : Nat) :
    (s.checkCondition a b l on t).dict = s.dict := (State.checkCondition_same ..).dict rfl

theorem State.consumers_of {s t : State} {k : Nat} (h : t.Has (exIx Ix.exLanes k) (k / 2) (s.exPar Ix.exLanes k)) :
    t.consumers k = s.consumers k := by
  unfold State.consumers
  rw [show t.exPar Ix.exLanes k = s.exPar Ix.exLanes k from h.par]

/-! ### The bias output (R96) -/

theorem State.biasedLanes_of_same {m : Nat} {s t : State} (f : Same m s t) (w : Dict.wf s.dict)
    (h : leavesAll m [Ix.laneRole, Ix.biasPins, Ix.laneInPos, Ix.laneInNeg] = true) (p : Nat) : t.biasedLanes p = s.biasedLanes p := by
  unfold State.biasedLanes State.analog
  simp only [f.par_of_list w h (show Ix.laneRole ∈ _ by decide), f.par_of_list w h (show Ix.biasPins ∈ _ by decide),
    f.par_of_list w h (show Ix.laneInPos ∈ _ by decide), f.par_of_list w h (show Ix.laneInNeg ∈ _ by decide)]

/-- What the overload tells one biased lane. -/
def biasStep (on : Bool) (t : Nat) (u : State) (l : Nat) : State :=
  if on then u.laneStatus l 3 (b2n on + 4 + 16) 0 t else (u.laneStatus l 3 (b2n on + 4 + 16) 0 t).settleCause l t

theorem biasStep_same (on : Bool) (t : Nat) (u : State) (l : Nat) : Same mask140 u (biasStep on t u l) := by
  have h : Same mask140 u (u.laneStatus l 3 (b2n on + 4 + 16) 0 t) := Same.mono (State.laneStatus_same ..) rfl
  exact Same.ite h (h.then (State.settleCause_same ..) rfl)

theorem biasStep_edgeOf (on : Bool) (t : Nat) (u : State) (l n : Nat) :
    (biasStep on t u l).edgeOf n = (u.laneStatus l 3 (b2n on + 4 + 16) 0 t).edgeOf n := by
  unfold biasStep
  split
  · rfl
  · exact State.edgeOf_same (State.settleCause_same ..) rfl n

/-- Settles O35: the consumers' records and settling by loops over them. -/
theorem sourceFlags : Obligations.SourceFlags := by
  intro s t k open_ on reading l p inv
  obtain ⟨-, w, -⟩ := inv
  intro s1 ix volts seen tells tell kind period first settles
  have faulty : s1.exFaulty k open_ reading = seen := s1.exFaulty_eq k open_ reading
  have tl : tells → s1.Tells l ∧ (s1.edgeOf l).buf.length < 256 := fun ⟨h1, h2, h3, h4, h5⟩ =>
    ⟨⟨w, h3, h4, Bool.and_eq_true_iff.mpr ⟨h1, decide_eq_true h2⟩⟩, h5⟩
  have apart : ix ≠ exIx Ix.exOpenEvents k := by
    cases open_ <;> exact exIx_ne (by decide)
  have sat : ∀ c, (c = flagIx open_ ∨ c = Ix.exOpenEvents) → exIx c k ≠ Ix.dictSatCount ∧ exIx c k ≠ Ix.dictSatLast := by
    rintro c (rfl | rfl) <;> cases open_ <;> rcases exIx_or _ k with e | e <;> rw [e] <;> decide
  refine ⟨fun h1 h2 h3 => ?_, fun h1 h2 => ?_, fun h1 h2 h3 => ?_, fun h1 h2 h3 => ?_⟩
  · let s2 := (s1.setPar ix (k / 2) 1).cnt (exIx Ix.exOpenEvents k) (k / 2)
    let s3 := s2.checkCondition (k / 2) (2 * (k % 2) + b2n (!open_)) (s2.consumers k) true s1.now
    let u := (s3.consumers k).foldl (State.exFlagLane k open_ true (s1.now / 256 * 256)) s3
    have e1 : exec (.exFlagSet t k open_ reading) s = .next u := if_pos ⟨h1, faulty.trans h2, h3⟩
    have d3 : s3.dict = s2.dict := State.checkCondition_dict ..
    have f3 : Same mask312 s1 s3 := (Same.next (State.setPar_same _ _ _ _ (inM_exIx _ (by split <;> rfl)))
      (State.cnt_same _ _ _ (cntIn_of (inM_exIx _ rfl) rfl))).then (State.checkCondition_same ..) rfl
    have fu : Same mask102 s3 u := Same.foldl _ (Same.refl _ _) (fun _ _ => State.exFlagLane_same ..)
    have flag : s3.Has ix (k / 2) 1 := .dict (.cnt (.written s1 w) ⟨apart, sat _ (.inl rfl)⟩) d3
    have events : s3.Has (exIx Ix.exOpenEvents k) (k / 2) (cntNext (s.exPar Ix.exOpenEvents k)) :=
      .dict (.counted (.setPar (.start (s := s1) w) apart.symm) (sat _ (.inr rfl))) d3
    have lanes : s3.consumers k = s.consumers k := State.consumers_of (s := s1) (.exSame (.start w) f3 rfl rfl)
    have edge : s3.edgeOf l = s.edgeOf l := (State.edgeOf_same (State.checkCondition_same ..) rfl l).trans (State.edgeOf_cnt ..)
    refine ⟨u, e1, State.Has.par (flag.exSame fu ?_ ?_), State.Has.par (events.exSame fu rfl rfl), fun hl ho => ?_, fun hl ht => ?_⟩
    · cases open_ <;> rfl
    · cases open_ <;> rfl
    · subst ho
      have ne : ∀ c, (c = Ix.exOpen ∨ c = Ix.exOpenEvents) → Ix.laneWireOpenEvents ≠ exIx c k := by
        rintro c (rfl | rfl) <;> rcases exIx_or _ k with e | e <;> rw [e] <;> decide
      have before : s3.par Ix.laneWireOpenEvents l = s.par Ix.laneWireOpenEvents l := State.Has.par
        (.dict (.cnt (.setPar (.start (s := s1) w) (ne _ (.inl rfl))) ⟨ne _ (.inr rfl), by decide⟩) d3)
      rw [← before]
      exact State.exFlags_count k _ (s3.consumers_nodup k) (fun y hy => State.consumers_lt k.isLt hy) (lanes ▸ hl) _ (f3.dictWf w)
    · obtain ⟨ht, hr⟩ := tl ht
      have := State.exFlags_tell k _ (s3.consumers_nodup k) (lanes ▸ hl) l.isLt open_ true (s1.now / 256 * 256)
        (ht.same f3 (by decide) rfl rfl) (by rw [edge]; exact hr)
      rw [edge] at this
      exact this
  · have e1 : exec (.exFlagClear t k open_ reading) s = .next (s1.exClear k open_ s1.now) :=
      if_neg (by rw [show (s.enter t).exFaulty k open_ reading = false from faulty.trans h2]; decide)
    let s2 := (s1.setPar ix (k / 2) 0).checkCondition (k / 2) (2 * (k % 2) + b2n (!open_)) (s1.consumers k) false s1.now
    let v := (s1.consumers k).foldl (State.exFlagLane k open_ false s1.now) s2
    have e2 : s1.exClear k open_ s1.now = v.settleLanes (s1.consumers k) s1.now :=
      if_neg (by rw [show s1.par ix (k / 2) = 1 from h1]; decide)
    rw [e2] at e1
    have f2 : Same mask161 s1 s2 := Same.then (State.setPar_same _ _ _ _ (inM_exIx _ (by split <;> rfl))) (State.checkCondition_same ..) rfl
    have fv : Same mask161 s1 v := Same.foldl _ f2 (fun _ _ => Same.mono (State.exFlagLane_same ..) rfl)
    have fu := v.settleLanes_same (s1.consumers k) s1.now
    have flag : s2.Has ix (k / 2) 0 := .dict (.written s1 w) (State.checkCondition_dict ..)
    have edge : s2.edgeOf l = s.edgeOf l := State.edgeOf_same (State.checkCondition_same ..) rfl l
    refine ⟨_, e1, State.Has.par (.dict (.exSame flag (Same.foldl _ (Same.refl mask102 _) (fun _ _ => State.exFlagLane_same ..)) ?_ ?_) (fu.dict rfl)),
      fun hl ha => ?_, fun hl ht => ?_⟩
    · cases open_ <;> rfl
    · cases open_ <;> rfl
    · exact State.settleLanes_marks (s := s1) fv w rfl (by decide) ha hl s1.now
    · obtain ⟨ht, hr⟩ := tl ht
      have := State.exFlags_tell k _ (s1.consumers_nodup k) hl l.isLt open_ false s1.now (ht.same f2 (by decide) rfl rfl) (by rw [edge]; exact hr)
      rw [edge, show b2n false + 2 * (k.val % 2) = 2 * (k.val % 2) from Nat.zero_add _] at this
      exact (congrArg EdgeSt.buf (State.edgeOf_same fu rfl l)).trans this
  · have e1 : exec (.exSwap t k) s = .next (s1.settleLanes (s1.consumers k) s1.now) := if_pos ⟨h1, h2, h3⟩
    exact ⟨_, e1, (State.settleLanes_same ..).dict rfl, fun hl ha => State.settleLanes_marks (s := s1) (Same.refl 0xa0000 _) w rfl (by decide) ha hl s1.now⟩
  · let s2 := (s1.setPar Ix.biasOverload p (b2n on)).checkCondition p 4 (s1.biasedLanes p) on s1.now
    let u := (s2.biasedLanes p).foldl (biasStep on s1.now) s2
    have e1 : exec (.biasOverload t p on) s = .next u := by
      have unlike : ¬ s1.par Ix.biasOverload p = b2n on := by
        rw [show s1.par Ix.biasOverload p = b2n (!on) from h3]
        cases on <;> decide
      refine (if_pos ⟨h1, ?_⟩).trans (congrArg Host.Outcome.next (if_neg unlike))
      rcases h2 with h | h
      · exact .inl h
      · exact .inr (by rw [h]; rfl)
    have f2 : Same mask140 s1 s2 := Same.then (State.setPar_same _ _ _ _ rfl) (State.checkCondition_same ..) rfl
    have edge : s2.edgeOf l = s.edgeOf l := State.edgeOf_same (State.checkCondition_same ..) rfl l
    have flag : s2.Has Ix.biasOverload p (b2n on) := .dict (.written s1 w) (State.checkCondition_dict ..)
    have lanes : s2.biasedLanes p = s.biasedLanes p := State.biasedLanes_of_same f2 w (by decide) p
    have nodup : (s2.biasedLanes p).Nodup := (lanesOf_nodup p).filter _
    refine ⟨u, e1, ?_, fun hl ho ha => ?_, fun hl ht => ?_⟩
    · refine State.Has.par (foldl_keeps (I := fun v : State => v.Has Ix.biasOverload p (b2n on)) (fun v y h => ?_) _ _ flag)
      have told : (v.laneStatus y 3 (b2n on + 4 + 16) 0 s1.now).Has Ix.biasOverload p (b2n on) := h.same (State.laneStatus_same ..) rfl
      exact .ite told (told.dict ((State.settleCause_same ..).dict rfl))
    · subst ho
      refine foldl_reaches (x := l.val) (I := fun v => Same mask140 s1 v)
        (P := fun v : State => (v.convOf l).unsettled.getLast? = some (s1.settled l s1.now)) (fun v g => ?_)
        (fun v y g => Same.next g (biasStep_same ..)) (fun v y g h => ?_) _ s2 f2 (.inl (lanes ▸ hl))
      · exact State.settleCause_marks (Same.then g (State.laneStatus_same ..) rfl) w (by decide) ha s1.now
      · by_cases e : l.val = y
        · subst e
          exact State.settleCause_marks (Same.then g (State.laneStatus_same ..) rfl) w (by decide) ha s1.now
        · refine (congrArg (fun c : ConvSt => c.unsettled.getLast?) ?_).trans h
          exact (State.settleCause_other _ e s1.now).trans (State.convOf_same (State.laneStatus_same ..) rfl l)
    · obtain ⟨ht, hr⟩ := tl ht
      let r := recStatus s1.now l 3 (b2n on + 20) 0 0
      refine foldl_at (q := l.val) (R := fun v : State => v.Tells l ∧ v.edgeOf l = s.edgeOf l)
        (Q := fun v : State => (v.edgeOf l).buf = (s.edgeOf l).buf ++ [r]) _
        (fun v y _ e ⟨g1, g2⟩ => ⟨g1.same (biasStep_same ..) (by decide) rfl rfl, ?_⟩) (fun v ⟨g1, g2⟩ => ?_) (fun v y _ e g => ?_) nodup
        (lanes ▸ hl) s2 ⟨ht.same f2 (by decide) rfl rfl, edge⟩
      all_goals rw [biasStep_edgeOf]
      · rw [State.laneStatus_other _ _ _ _ _ e.symm, g2]
      · rw [State.laneStatus_tells g1 l.isLt (by rw [g2]; exact hr), g2]
      · rw [State.laneStatus_other _ _ _ _ _ e.symm, g]

end Sys2Proof.Machine
end

section
/-! SUPPORT. Charge amplifiers, clamps, the tone generator (R98 to R104). -/
namespace Sys2Proof.Machine

theorem tget_tset {α : Type} (d : α) (t : Tbl α) (k : Nat) (a : α) : tget d (tset t k a) k = a := by
  rw [tget, tfind_tset, if_pos rfl, Option.getD_some]

/-! ### Charge amplifiers (R98, R99, R101) -/

theorem State.caSt_set (s : State) (a : Nat) (c : CaSt) : ({ s with ca := tset s.ca a c } : State).caSt a = c := by
  show (tfind (tset s.ca a c) a).getD {} = c
  rw [tfind_tset, if_pos rfl, Option.getD_some]

theorem State.caSt_of {s t : State} (h : t.ca = s.ca) (a : Nat) : t.caSt a = s.caSt a := congrArg (tget ({} : CaSt) · a) h

theorem State.caBusy_of {s : State} {a b : Nat} (h : (s.caSt a).start = some b) (t : Nat) : s.caBusy a t = decide (t < b + 64000) := by
  unfold State.caBusy
  rw [h]

theorem State.caBusy_free {s : State} {a t : Nat} (h : ∀ x ∈ (s.caSt a).start, x + 64000 ≤ t) : s.caBusy a t = false := by
  unfold State.caBusy
  cases hs : (s.caSt a).start with
  | none => rfl
  | some b => exact decide_eq_false (Nat.not_lt.mpr (h b (by rw [hs]; rfl)))

/-- What a lane is told of a reset: its buffer, its samples, its check. -/
abbrev resetMask : Nat := 0xc0000000000000000000000000000000000000000000000000000000600000000000000020a00a0

/-- The lane that selects the amplifier is told of a reset (R98, R101). -/
def State.caTell (s : State) (l t : Nat) (r : Rec) : State :=
  (((s.laneRecord r).overlapUnsettled l t (t + 51200)).checkSkips l (checkFrom t) (t + 51200 + 16025599)).settleCause l (t + 51200)

theorem State.caTell_conv (s : State) (l t : Nat) (r : Rec) : Same 0xa0000 (s.laneRecord r) (s.caTell l t r) :=
  (Same.then (Same.mono (State.overlapUnsettled_same ..) rfl) (State.checkSkips_same ..) rfl).then (State.settleCause_same ..) rfl

theorem State.caTell_same (s : State) (l t : Nat) (r : Rec) : Same resetMask s (s.caTell l t r) :=
  Same.then (Same.mono (State.laneRecord_same ..) rfl) (s.caTell_conv l t r) rfl

theorem State.caReset_shape {s : State} {a cause t pre residual : Nat} (ha : s.awake (a / 2) = true) (hf : s.caBusy a t = false) :
    s.caReset a cause t pre residual
      = (match s.caLane a with
        | some l => (({ s with ca := tset s.ca a ⟨some t, 2 ^ cause⟩ } : State).cntW (caIx Ix.caResets a) (a / 2) 1).caTell l t
          (recResetAccount t l (2 ^ cause) (s.par Ix.laneOutFormat l) pre residual)
        | none => ({ s with ca := tset s.ca a ⟨some t, 2 ^ cause⟩ } : State).cntW (caIx Ix.caResets a) (a / 2) 1) := by
  unfold State.caReset
  dsimp only
  rw [ha, if_neg (by decide), hf, if_neg (by decide)]
  rfl

/-- A reset begins (R98): the amplifier is held, the reset is counted, its record made for the lane that selects it. -/
theorem State.caReset_begins {s : State} {a cause t pre residual l : Nat} (w : Dict.wf s.dict) (ha : s.awake (a / 2) = true)
    (hf : s.caBusy a t = false) (hl : l < 192) :
    let u := s.caReset a cause t pre residual
    u.caSt a = ⟨some t, 2 ^ cause⟩ ∧ u.caHeld a t = true ∧ u.exPar Ix.caResets a = (s.exPar Ix.caResets a + 1) % 2 ^ 64
      ∧ (s.caLane a = some l → s.merging = true → (s.edgeOf l).buf.length < 256 → (u.edgeOf l).buf = (s.edgeOf l).buf ++
        [recResetAccount t l (2 ^ cause) (s.par Ix.laneOutFormat l) pre residual]) := by
  intro u
  let s0 : State := { s with ca := tset s.ca a ⟨some t, 2 ^ cause⟩ }
  let s1 := s0.cntW (caIx Ix.caResets a) (a / 2) 1
  have counted : s1.Has (caIx Ix.caResets a) (a / 2) ((s.exPar Ix.caResets a + 1) % 2 ^ 64) := State.Has.cntW (.start (s := s0) w) 1
  have merging1 : s1.merging = s.merging := State.merging_same (s := s0) (m := mask35)
    (State.cntW_same s0 _ _ _ (inM_exIx _ rfl)) w rfl rfl rfl
  have shape := State.caReset_shape (cause := cause) (pre := pre) (residual := residual) ha hf
  have frame : Same resetMask s1 u := by
    show Same resetMask s1 (s.caReset a cause t pre residual)
    rw [shape]
    split
    · exact s1.caTell_same ..
    · exact Same.refl _ _
  have start : u.caSt a = ⟨some t, 2 ^ cause⟩ := (State.caSt_of (frame.ca rfl) a).trans (s.caSt_set a _)
  have held : u.caHeld a t = true := by
    unfold State.caHeld
    rw [start, Bool.or_eq_true]
    exact .inr (by simp)
  refine ⟨start, held, State.Has.par (counted.exSame frame rfl rfl), fun hc hm hr => ?_⟩
  have e1 : u = s1.caTell l t (recResetAccount t l (2 ^ cause) (s.par Ix.laneOutFormat l) pre residual) := by
    show s.caReset a cause t pre residual = _
    rw [shape, hc]
  rw [e1, State.edgeOf_same (s1.caTell_conv ..) rfl]
  unfold State.laneRecord
  rw [if_pos (merging1.trans hm), State.edgeOf_buffer s1 l _ rfl (by rw [bufferSize, if_pos hl]; exact hr)]
  rfl

/-- A cause within a reset joins it (R98, R99). -/
theorem State.caReset_joins {s : State} {a cause t pre residual b : Nat} (ha : s.awake (a / 2) = true) (hb : (s.caSt a).start = some b)
    (ht : t < b + 51200) (hc : bit (s.caSt a).causes cause = false) (l : Nat) :
    let u := s.caReset a cause t pre residual
    (u.caSt a).start = some b ∧ (u.caSt a).causes = (s.caSt a).causes + 2 ^ cause ∧ u.dict = s.dict
      ∧ (u.edgeOf l).buf.length = (s.edgeOf l).buf.length := by
  intro u
  let s1 : State := { s with ca := tset s.ca a { (s.caSt a) with causes := (s.caSt a).causes + 2 ^ cause } }
  have busy : s.caBusy a t = true := (State.caBusy_of hb t).trans (decide_eq_true (by omega))
  have shape : u = (match s.caLane a with
      | some m => { s1.setEdge m { (s1.edgeOf m) with buf := (s1.edgeOf m).buf.map (addCause m b cause) } with
          cw := { s1.cw with store := s1.cw.store.map (Item.addCause m b cause) } }
      | none => s1) := by
    show s.caReset a cause t pre residual = _
    unfold State.caReset
    dsimp only
    rw [ha, if_neg (by decide), busy, if_pos rfl]
    split
    · next c hx =>
      obtain rfl : c = b := Option.some.inj (hx.symm.trans hb)
      rw [hc, if_pos ⟨ht, rfl⟩]
      rfl
    · next hx => exact nomatch hx.symm.trans hb
  have st : s1.caSt a = { (s.caSt a) with causes := (s.caSt a).causes + 2 ^ cause } := s.caSt_set a _
  rw [shape]
  split
  · next m _ =>
    refine ⟨(congrArg CaSt.start st).trans hb, congrArg CaSt.causes st, rfl, ?_⟩
    by_cases e : l = m
    · subst e
      refine (congrArg (fun x : EdgeSt => x.buf.length) (s1.edgeOf_setEdge l _)).trans ?_
      exact List.length_map _
    · exact congrArg (fun x : EdgeSt => x.buf.length) (s1.edgeOf_setEdge_ne _ e)
  · exact ⟨(congrArg CaSt.start st).trans hb, congrArg CaSt.causes st, rfl, rfl⟩

/-- One in the 50 ns after a reset is dropped (R98). -/
theorem State.caReset_drops {s : State} {a cause t pre residual b : Nat} (hb : (s.caSt a).start = some b) (h1 : b + 51200 ≤ t)
    (h2 : t < b + 64000) : s.caReset a cause t pre residual = s := by
  have busy : s.caBusy a t = true := (State.caBusy_of hb t).trans (decide_eq_true h2)
  unfold State.caReset
  dsimp only
  rw [busy, if_pos rfl, hb]
  dsimp only
  rw [if_neg (show ¬ (t < b + 51200 ∧ _) from fun h => Nat.not_lt.mpr h1 h.1)]
  exact ite_self s

/-! ### The queue (R148) -/

theorem fitBoundary_room {q : List Change} {e : Nat} (h : atBoundary q e < 128) (ix sub n : Nat) : fitBoundary q ix sub (n + 1) e = e :=
  if_pos (.inl h)

theorem effTime_eq (n : Nat) : effTime n = (n + 49151) / 16384 * 16384 := by
  unfold effTime ceilMul
  omega

theorem State.enqueue_room {s : State} (ix sub v : Nat) (h : atBoundary s.cw.queue (effTime s.now) < 128) :
    (s.enqueue ix sub v).cw.queue.getLast? = some ⟨effTime s.now, ix, sub, v⟩ ∧ (s.enqueue ix sub v).dict = s.dict := by
  unfold State.enqueue State.enqueueAt
  dsimp only
  rw [fitBoundary_room h, if_pos rfl]
  exact ⟨List.getLast?_concat, rfl⟩

/-! ### Clamps (R102) -/

theorem clampLane_lt {p pin : Nat} (hp : p < 24) (hn : pin < 18) : clampLane p pin < 192 ∧ clampLane p pin / 8 = p := by
  unfold clampLane
  split <;> omega

/-- A clamp flag that changes: the flag, and the pin's lane is told (R102, R473). -/
theorem State.clampFlag_tells {s : State} {p pin : Nat} {on : Bool} (t : Nat) (w : Dict.wf s.dict) (hp : p < 24) (hn : pin < 18)
    (hb : bit (s.par Ix.pierClampActive p) pin = !on) (ha : s.awake p = true) :
    let u := s.clampFlag p pin on t
    u.par Ix.pierClampActive p = putBit (s.par Ix.pierClampActive p) pin on
      ∧ (on = true → u.par Ix.pierClampLast p = pin ∧ u.par Ix.pierClampEvents p = cntNext (s.par Ix.pierClampEvents p))
      ∧ (s.merging = true → s.laneOn (clampLane p pin) = true → (s.edgeOf (clampLane p pin)).buf.length < 256 →
        (u.edgeOf (clampLane p pin)).buf
          = (s.edgeOf (clampLane p pin)).buf ++ [recStatus t (clampLane p pin) 2 (b2n on) pin 0]) := by
  let k := 18 * p + pin
  let past := (tget [] s.clamp k).filter (fun x => match x.to_ with
    | some e => decide (t < e + 7000000000000)
    | none => true)
  let spans := if on then past ++ [⟨t, none⟩] else past.map (fun x => if x.to_.isNone then { x with to_ := some t } else x)
  let s1 : State := { s.setPar Ix.pierClampActive p (putBit (s.par Ix.pierClampActive p) pin on) with clamp := tset s.clamp k spans }
  let s2 := if on then (s1.cnt Ix.pierClampEvents p).setPar Ix.pierClampLast p pin else s1
  have shape : s.clampFlag p pin on t = s2.laneStatus (clampLane p pin) 2 (b2n on) pin t := by
    unfold State.clampFlag
    refine if_neg ?_
    rw [hb]
    cases on <;> decide
  have f1 : Same mask257 s1 s2 := Same.ite ((State.cnt_same (m := mask257) _ _ _ rfl).then (State.setPar_same (m := mask257) _ _ _ _ rfl) rfl) (Same.refl _ _)
  have f2 : Same mask257 s s2 := Same.then (Same.set_clamp _ (State.setPar_same (m := mask257) _ _ _ _ rfl) rfl) f1 rfl
  have flag : s2.Has Ix.pierClampActive p (putBit (s.par Ix.pierClampActive p) pin on) :=
    .ite (.setPar (.cnt (.dict (.written s w) rfl) (by decide)) (by decide)) (.dict (.written s w) rfl)
  have edge : ∀ n, s2.edgeOf n = s.edgeOf n := by
    intro n
    unfold s2
    split
    · exact State.edgeOf_cnt ..
    · rfl
  intro u
  rw [show u = _ from shape]
  refine ⟨State.Has.par (flag.same (State.laneStatus_same ..) rfl), fun ho => ?_, fun hm hl hr => ?_⟩
  · have counted : s1.Has Ix.pierClampEvents p (s.par Ix.pierClampEvents p) := .dict (.setPar (.start w) (by decide)) rfl
    have e2 : s2 = (s1.cnt Ix.pierClampEvents p).setPar Ix.pierClampLast p pin := if_pos ho
    rw [e2]
    exact ⟨State.Has.par (.same (.written _ (dictWf_cnt _ _ _ counted.wf)) (State.laneStatus_same ..) rfl),
      State.Has.par (.same (.setPar (counted.counted (by decide)) (by decide)) (State.laneStatus_same ..) rfl)⟩
  · obtain ⟨h1, h2⟩ := clampLane_lt hp hn
    have tells : s.Tells (clampLane p pin) := ⟨w, hl, h2.symm ▸ ha, hm⟩
    rw [State.laneStatus_tells (tells.same f2 (by decide) rfl rfl) h1 (by rw [edge]; exact hr), edge]

/-! ### The tone check (R103, R104) -/

/-- A sum of distinct powers of two has the bits of the set. -/
theorem testBit_sum_pow (g : Nat → Bool) (n : Nat) : (((List.range n).filter g).map (fun i => 2 ^ i)).sum < 2 ^ n
    ∧ ∀ i < n, ((((List.range n).filter g).map (fun i => 2 ^ i)).sum).testBit i = g i := by
  induction n with
  | zero => exact ⟨Nat.one_pos, fun i h => absurd h (Nat.not_lt_zero i)⟩
  | succ n ih =>
    obtain ⟨h1, h2⟩ := ih
    rw [List.range_succ, List.filter_append, List.map_append, List.sum_append]
    generalize (((List.range n).filter g).map (fun i => 2 ^ i)).sum = v at *
    cases hg : g n with
    | false =>
      rw [List.filter_cons_of_neg (by rw [hg]; decide), List.filter_nil, List.map_nil, List.sum_nil, Nat.add_zero]
      refine ⟨Nat.lt_trans h1 (Nat.pow_lt_pow_right (by decide) (Nat.lt_succ_self n)), fun i hi => ?_⟩
      rcases Nat.lt_succ_iff_lt_or_eq.mp hi with h | rfl
      · exact h2 i h
      · rw [hg, Nat.testBit_lt_two_pow h1]
    | true =>
      rw [List.filter_cons_of_pos hg, List.filter_nil, List.map_singleton, List.sum_singleton, Nat.add_comm]
      refine ⟨by rw [Nat.pow_succ]; omega, fun i hi => ?_⟩
      rcases Nat.lt_succ_iff_lt_or_eq.mp hi with h | rfl
      · rw [Nat.testBit_two_pow_add_gt h, h2 i h]
      · rw [Nat.testBit_two_pow_add_eq, Nat.testBit_lt_two_pow h1, hg]
        rfl

/-- The lanes of a burst, by their bits (R103). -/
theorem lanes_bits (p : Nat) (f : Nat → Bool) (i : Fin 8) :
    bit ((((lanesOf p).filter f).map (fun l => 2 ^ (l % 8))).sum) i = f (8 * p + i) := by
  have e : (((lanesOf p).filter f).map (fun l => 2 ^ (l % 8))) = ((List.range 8).filter (fun i => f (8 * p + i))).map (fun i => 2 ^ i) := by
    unfold lanesOf
    rw [List.filter_map, List.map_map]
    refine List.map_congr_left (fun j hj => ?_)
    have := List.mem_range.mp (List.mem_filter.mp hj).1
    show 2 ^ ((8 * p + j) % 8) = 2 ^ j
    rw [Nat.mul_add_mod, Nat.mod_eq_of_lt this]
  rw [e, bit]
  exact (testBit_sum_pow _ 8).2 i i.isLt

/-- A burst's lanes are those that no swap hits (R103, R104). -/
theorem State.toneBurst_runs (s : State) (p t : Nat) : ∃ b, tfind (s.toneBurst p t).tone p = some b ∧ b.start = t ∧ b.end_ = t + s.burstLen p
    ∧ ∀ i : Fin 8, bit b.due i = (s.analog (8 * p + i) && decide (s.par Ix.laneToneCheck (8 * p + i) = 1)
        && !s.swapWithin (8 * p + i) t (t + s.burstLen p)) := by
  unfold State.toneBurst
  extract_lets len lanes skipped run s1 s2
  refine ⟨⟨t, t + len, (run.map (fun l => 2 ^ (l % 8))).sum⟩, ?_, rfl, rfl, fun i => ?_⟩
  · have tone : ∀ f : State → Nat → State, (∀ u l, Same 0xa0000 u (f u l)) →
        tfind (run.foldl f s2).tone p = some ⟨t, t + len, (run.map (fun l => 2 ^ (l % 8))).sum⟩ := fun f hf =>
      (congrArg (tfind · p) ((Same.foldl run (Same.refl _ s2) hf).tone rfl)).trans ((tfind_tset ..).trans (if_pos rfl))
    exact tone _ (fun u l => Same.ite (Same.then (Same.mono (State.overlapUnsettled_same ..) rfl) (State.settleCause_same ..) rfl) (Same.refl _ _))
  · show bit _ i = _
    rw [show run = (lanesOf p).filter (fun l => (s.analog l && decide (s.par Ix.laneToneCheck l = 1)) && !s.swapWithin l t (t + len)) from
      List.filter_filter .. |>.trans (List.filter_congr (fun l _ => Bool.and_comm ..)), lanes_bits]

/-- The detector's result (R103, R472). -/
theorem State.toneResult_gives {s : State} {l : Nat} (nv t : Nat) (w : Dict.wf s.dict) :
    let u := s.toneResult l nv t
    let z := toneImpedance nv
    u.par Ix.laneToneZ l = z ∧ (u.convOf l).toneOpen = decide (s.par Ix.laneOpenOhms l < z)
      ∧ u.par Ix.laneWireOpenEvents l = (if s.par Ix.laneOpenOhms l < z ∧ (s.convOf l).toneOpen = false
        then cntNext (s.par Ix.laneWireOpenEvents l) else s.par Ix.laneWireOpenEvents l)
      ∧ u.tone = s.tone := by
  unfold State.toneResult
  generalize toneImpedance nv = z
  intro u
  let s1 := s.setPar Ix.laneToneZ l z
  have told : s1.Has Ix.laneToneZ l z := .written s w
  have limit : s1.par Ix.laneOpenOhms l = s.par Ix.laneOpenOhms l := State.Has.par (.setPar (.start w) (by decide))
  have events : s1.Has Ix.laneWireOpenEvents l (s.par Ix.laneWireOpenEvents l) := .setPar (.start w) (by decide)
  have shape : u = (if decide (s.par Ix.laneOpenOhms l < z) && !(s.convOf l).toneOpen then
      ((s1.setConv l { (s.convOf l) with toneOpen := true }).cnt Ix.laneWireOpenEvents l).laneStatus l 1 5 z t
    else if !decide (s.par Ix.laneOpenOhms l < z) && (s.convOf l).toneOpen then
      (s1.setConv l { (s.convOf l) with toneOpen := false }).laneStatus l 1 4 z t
    else s1) := by
    unfold u
    dsimp only
    rw [limit]
    rfl
  have status : ∀ (v : State) kind low, (v.laneStatus l kind low z t).convOf l = v.convOf l := fun v _ _ =>
    State.convOf_same (State.laneStatus_same ..) rfl l
  have tone : s1.tone = s.tone := rfl
  have conv : (s1.convOf l).toneOpen = (s.convOf l).toneOpen := rfl
  clear_value u s1
  subst shape
  split
  · next h =>
    simp only [Bool.and_eq_true, decide_eq_true_eq, Bool.not_eq_true'] at h
    obtain ⟨h1, h2⟩ := h
    refine ⟨State.Has.par (.via (State.laneStatus_same ..) rfl (.cnt (.dict told rfl) (by decide))), ?_,
      ?_,
      ((State.laneStatus_same ..).tone rfl).trans (((State.cnt_frame ..).tone rfl).trans tone)⟩
    · rw [status, State.convOf_same (State.cnt_frame ..) rfl, State.convOf_setConv, decide_eq_true h1]
    · rw [if_pos ⟨h1, h2⟩]
      exact State.Has.par (.via (State.laneStatus_same ..) rfl (.counted (.dict events rfl) (by decide)))
  · next hn =>
    split
    · next h =>
      simp only [Bool.and_eq_true, Bool.not_eq_true', decide_eq_false_iff_not] at h
      obtain ⟨h1, -⟩ := h
      refine ⟨State.Has.par (.via (State.laneStatus_same ..) rfl (.dict told rfl)), ?_,
        ?_,
        ((State.laneStatus_same ..).tone rfl).trans tone⟩
      · rw [status, State.convOf_setConv, decide_eq_false h1]
      · rw [if_neg (fun g => h1 g.1)]
        exact State.Has.par (.via (State.laneStatus_same ..) rfl (.dict events rfl))
    · next hm =>
      have agree : (s.convOf l).toneOpen = decide (s.par Ix.laneOpenOhms l < z) := by
        generalize (s.convOf l).toneOpen = a at *
        generalize decide (s.par Ix.laneOpenOhms l < z) = b at *
        cases a <;> cases b
        · rfl
        · exact absurd rfl hn
        · exact absurd rfl hm
        · rfl
      refine ⟨told.par, conv.trans agree, events.par.trans (if_neg (fun g => ?_)).symm, tone⟩
      rw [agree, decide_eq_false_iff_not] at g
      exact g.2 g.1

/-- Settles O36: resets by `caReset_begins`, `caReset_joins` and `caReset_drops`, clamps by `clampFlag_tells`, the tone check by
`toneBurst_runs` and `toneResult_gives`. -/
theorem amplifiersClampsTone : Obligations.AmplifiersClampsTone := by
  refine ⟨fun s t b a l pre residual pos neg inv => ?_, fun s t nv p pin i lane inv => ?_⟩
  · obtain ⟨-, w, -⟩ := inv
    intro s1 ns e room begun joins dropped trips ticks free begins old gain at_ settled z
    have words : s.caLane a = some l.val → ∀ u, s1.accountWords a u pre residual
        = ((s1.sampleValue l pre false u u).1, (s1.sampleValue l residual false u u).1) := fun h u => by
      unfold State.accountWords
      rw [show s1.caLane a = some l.val from h]
    have starts : ∀ cause u, s.tpll = true → s.awake (a / 2) = true → s1.caBusy a u = false → begun (s1.caCause a cause u pre residual) u cause := by
      intro cause u hp ha hf
      obtain ⟨c1, c2, c3, c4⟩ := State.caReset_begins (cause := cause) (pre := (s1.accountWords a u pre residual).1)
        (residual := (s1.accountWords a u pre residual).2) (s := s1) w ha hf l.isLt
      refine ⟨c1, c2, c3, fun hc hr => (c4 hc (Bool.and_eq_true_iff.mpr ⟨hp, decide_eq_true hr.1⟩) hr.2).trans ?_⟩
      rw [words hc]
      rfl
    have joined : ∀ cause, s.awake (a / 2) = true → begins → s1.now < b + 51200 → bit (s.caSt a).causes cause = false →
        joins (s1.caCause a cause s1.now pre residual) cause := by
      intro cause ha hb ht hc
      obtain ⟨c1, c2, c3, c4⟩ := State.caReset_joins (s := s1) (cause := cause) (pre := (s1.accountWords a s1.now pre residual).1)
        (residual := (s1.accountWords a s1.now pre residual).2) ha hb ht hc l
      exact ⟨c1, c2, State.Has.par (.dict (.start (s := s) w) c3), c4⟩
    have drops : ∀ cause, begins → b + 51200 ≤ s1.now → s1.now < b + 64000 → dropped (s1.caCause a cause s1.now pre residual) := by
      intro cause hb h1 h2
      rw [State.caCause, State.caReset_drops (s := s1) hb h1 h2]
      exact ⟨rfl, rfl, rfl⟩
    have trip : trips → exec (.caAutoTrip t a pre residual) s
        = .next (s1.caCause a 0 (if s1.caBusy a s1.now then s1.now else nextMul s1.now 256) pre residual) := fun h => if_pos ⟨h.1, h.2.2.1, h.2.2.2⟩
    have tick : ticks → exec (.caPeriodicReset t a pre residual) s = .next (s1.caCause a 1 s1.now pre residual) := fun h =>
      if_pos ⟨h.1, h.2.2.1, h.2.2.2⟩
    have busy : begins → s1.now < b + 64000 → s1.caBusy a s1.now = true := fun hb h =>
      (State.caBusy_of (s := s1) hb _).trans (decide_eq_true h)
    refine ⟨fun h hf => ?_, fun h hb h1 hc => ?_, fun h hb h1 h2 => ?_, fun h hf => ?_, fun h hb h1 hc => ?_, fun h hb h1 h2 => ?_, fun h => ?_,
      fun hb hl h1 hr hs hq hn => ?_⟩
    · have idle : s1.caBusy a s1.now = false := State.caBusy_free (s := s1) hf
      refine ⟨_, trip h, ?_⟩
      rw [idle]
      refine starts 0 ns h.1 h.2.1 (State.caBusy_free (s := s1) (fun x hx => Nat.le_trans (hf x hx) ?_))
      show s1.now ≤ (s1.now / 256 + 1) * 256
      omega
    · refine ⟨_, trip h, ?_⟩
      rw [busy hb (by omega)]
      exact joined 0 h.2.1 hb h1 hc
    · refine ⟨_, trip h, ?_⟩
      rw [busy hb h2]
      exact drops 0 hb h1 h2
    · exact ⟨_, tick h, starts 1 s1.now h.1 h.2.1 (State.caBusy_free (s := s1) hf)⟩
    · exact ⟨_, tick h, joined 1 h.2.1 hb h1 hc⟩
    · exact ⟨_, tick h, drops 1 hb h1 h2⟩
    · have at_e : effTime s1.now = e := effTime_eq s1.now
      obtain ⟨c1, -⟩ := State.enqueue_room (s := s1) (caIx Ix.caResetCmd a) (a / 2) 1 (by rw [at_e]; exact h)
      rw [at_e] at c1
      exact ⟨_, rfl, c1, (State.enqueue_same ..).ca rfl⟩
    · have sees : exec (.caResetEnd t a pos neg) s = .next (s1.fcSee l (b + 64000) (s1.fcInput l pos neg)) := by
        show execCaResetEnd t a pos neg s = _
        unfold execCaResetEnd
        dsimp only
        rw [show ((s.enter t).caSt a).start = some b from hb, show (s.enter t).caLane a = some l.val from hl]
        refine if_pos ⟨h1, hr, ?_⟩
        unfold State.fcQuietSince
        cases hx : ((s.enter t).edgeOf l).fcSeen with
        | none => rfl
        | some x => exact decide_eq_true (Nat.le_of_lt (hq x hx))
      have zs : s1.fcZones l old (s1.fcInput l pos neg) = [z] := by
        rw [s1.fcZones_settled l old _ hs, show s1.fcInput l pos neg = gain * (pos - neg) from congrArg (· * (pos - neg)) (rangeGain_eq _)]
      rw [s1.fcSee_settled l (b + 64000) _ z zs] at sees
      by_cases hz : z = old
      · rw [if_pos (show z = s1.par Ix.laneFcZone l from hz)] at sees
        exact ⟨_, sees, hz.symm, by rw [if_pos hz, List.append_nil]; rfl⟩
      · have unseen : (s1.edgeOf l).fcSeen.map Prod.fst ≠ some (b + 64000) := by
          intro h
          obtain ⟨x, hx, g⟩ := Option.map_eq_some_iff.mp h
          exact absurd (hq x hx) (by omega)
        rw [if_neg (show ¬ z = s1.par Ix.laneFcZone l from hz), s1.fcReport_first l (b + 64000) z _ rfl hz unseen] at sees
        refine ⟨_, sees, State.Has.par (.via (State.buffer_same ..) rfl (.written _ w)), ?_⟩
        rw [State.edgeOf_buffer _ l _ rfl (by rw [State.edgeOf_setPar, State.edgeOf_setEdge, bufferSize, if_pos l.isLt]; exact hn),
          State.edgeOf_setPar, State.edgeOf_setEdge, if_neg hz]
        rfl
  · obtain ⟨-, w, -⟩ := inv
    intro s1 l f tells len q checks z c
    have keeps : ∀ (v : Bool) (j : Fin 18), j ≠ pin → bit (putBit f pin v) j = bit f j := fun v j hj =>
      (bit_putBit f pin j v).trans (if_neg (fun e => hj (Fin.ext e)))
    refine ⟨fun ha hb => ?_, fun ha hb => ?_, fun h1 h2 h3 h4 h5 => ?_, fun h1 h2 h3 => ?_⟩
    · obtain ⟨c1, c2, c3⟩ := State.clampFlag_tells (s := s1) (on := true) s1.now w p.isLt pin.isLt hb ha
      obtain ⟨d1, d2⟩ := c2 rfl
      exact ⟨_, if_pos ha, by rw [c1]; exact bit_putBit_self f pin true, d1, d2, fun j hj => by rw [c1]; exact keeps true j hj,
        fun ⟨g1, g2, g3, g4⟩ => c3 (Bool.and_eq_true_iff.mpr ⟨g1, decide_eq_true g2⟩) g3 g4⟩
    · obtain ⟨c1, -, c3⟩ := State.clampFlag_tells (s := s1) (on := false) s1.now w p.isLt pin.isLt hb ha
      exact ⟨_, if_pos ha, by rw [c1]; exact bit_putBit_self f pin false, fun j hj => by rw [c1]; exact keeps false j hj,
        fun ⟨g1, g2, g3, g4⟩ => c3 (Bool.and_eq_true_iff.mpr ⟨g1, decide_eq_true g2⟩) g3 g4⟩
    · have e1 : exec (.toneBurst t p) s = .next (s1.toneBurst p s1.now) :=
        if_pos ⟨h1, h2, h3, by rw [show (s.enter t).globalCause = false from h4]; rfl, h5⟩
      obtain ⟨x, x1, x2, x3, x4⟩ := s1.toneBurst_runs p s1.now
      exact ⟨_, e1, x, x1, x2, x3, x4 i⟩
    · let s2 : State := { s1 with tone := tset s1.tone (lane / 8) { (tget {} s1.tone (lane / 8)) with
        due := putBit (tget {} s1.tone (lane / 8)).due (lane % 8) false } }
      have e1 : exec (.toneResult t lane nv) s = .next (s2.toneResult lane nv s1.now) := if_pos ⟨h1, h2, h3⟩
      obtain ⟨c1, c2, c3, c4⟩ := State.toneResult_gives (s := s2) (l := lane) nv s1.now w
      refine ⟨_, e1, c1, c2, c3, ?_⟩
      rw [c4]
      show bit (tget {} (tset s.tone (lane / 8) _) (lane / 8)).due (lane % 8) = false
      rw [tget_tset]
      exact bit_putBit_self _ _ false

end Sys2Proof.Machine
end
section
/-! SUPPORT. Samples (R110 to R118, R134), and a counter beyond its 64 bits. -/
namespace Sys2Proof.Machine

/-- Lane 0 measures a voltage in an awake pier while LANE.SUPPRESSED holds 2^64: the invariant puts no bound on a counter. -/
def suppressedState : State :=
  { time := { quality := .fine }, run := [(0, { on := true })]
    dict := [(key Ix.pwrPierState 0, 2), (key Ix.laneRole 0, 2), (key Ix.laneSuppressed 0, 2 ^ 64)] }

theorem suppressedState_inv : suppressedState.Inv := by
  unfold State.Inv Dict.wf Net.wf
  decide

/-- Refutes O37 in the clause of a sample: a sample that passes leaves LANE.SUPPRESSED as it stands, and the statement has it
taken modulo 2^64, which differs where the counter holds 2^64. -/
theorem not_samples : ¬ Obligations.Samples := by
  unfold Obligations.Samples
  intro h
  obtain ⟨sample, -, -⟩ := h suppressedState 0 0 ⟨0, []⟩ false false suppressedState_inv
  obtain ⟨u, hu, -, -, r, -, -, -, -, -, -, counted, -⟩ := sample (by decide)
  have kept : u.par Ix.laneSuppressed 0 = 2 ^ 64 := by
    obtain rfl := Host.Outcome.next.inj hu
    decide
  have small : u.par Ix.laneSuppressed 0 < 2 ^ 64 := lt_of_eq_of_lt counted (Nat.mod_lt _ (by decide))
  exact absurd small (by rw [kept]; decide)

end Sys2Proof.Machine
end
section
/-! SUPPORT. A table of overlaps that lists a pier twice (R126, R128). -/
namespace Sys2Proof.Machine

/-- Lane 0 and the spare of pier 0, with no difference sample to count. -/
def emptyOverlap : Overlap := ⟨0, 8, 0, [], [], []⟩

/-- Pier 0 stands twice among the overlaps: the invariant asks no order of that table. -/
def twiceOverlapped : State :=
  { now := 2 ^ 40, time := { quality := .fine }, overlap := [(0, emptyOverlap), (0, emptyOverlap)]
    dict := [(key Ix.pierRotOverlap 0, 1000)] }

theorem twiceOverlapped_inv : twiceOverlapped.Inv := by
  unfold State.Inv Dict.wf Net.wf
  decide

/-- Refutes O38 in the clause of a postponed check: a decision strikes one entry of its pier from the overlaps, and where the table
lists the pier twice an overlap is left. -/
theorem not_rotation : ¬ Obligations.Rotation := by
  unfold Obligations.Rotation
  intro h
  obtain ⟨-, -, -, postponed, -⟩ := h twiceOverlapped 0 0 0 8 0 emptyOverlap [] 0 0 0 0 twiceOverlapped_inv
  obtain ⟨u, hu, gone, -⟩ := postponed ⟨by decide, by decide, by decide, by decide, by decide, by decide⟩ (by decide)
  have run : exec (.rotationDecision 0 0) twiceOverlapped = .next ((twiceOverlapped.enter 0).rotationDecide 0 emptyOverlap) := by
    show execRotationDecision 0 0 twiceOverlapped = _
    unfold execRotationDecision
    dsimp only
    rw [show tfind (twiceOverlapped.enter 0).overlap (0 : Fin 24) = some emptyOverlap from rfl]
    exact if_pos (by decide)
  have left : tfind ((twiceOverlapped.enter 0).rotationDecide 0 emptyOverlap).overlap 0 = some emptyOverlap := by decide
  rw [run] at hu
  obtain rfl := Host.Outcome.next.inj hu
  exact Option.some_ne_none _ (left.symm.trans gone)

end Sys2Proof.Machine
end
section
/-! SUPPORT. Caisson blocks: a lane's word, and the records that a destination frames (R224, R247 to R254). -/
namespace Sys2Proof.Machine

/-! ### The records of a block (R224) -/

theorem Block.segments_length (b : Block) (lane fuel : Nat) : ∀ (at_ : Nat) (ws vs : List Nat), ws.length = vs.length →
    (b.segments lane fuel at_ ws).length = (b.segments lane fuel at_ vs).length := by
  induction fuel with
  | zero => exact fun _ _ _ _ => rfl
  | succ fuel ih =>
    intro at_ ws vs h
    have none_left : ws.isEmpty = vs.isEmpty := by
      rw [Bool.eq_iff_iff, List.isEmpty_iff_length_eq_zero, List.isEmpty_iff_length_eq_zero, h]
    unfold Block.segments
    cases e : ws.isEmpty with
    | true => rw [if_pos rfl, if_pos (none_left ▸ e)]
    | false =>
      have took : (ws.take 1020).length = (vs.take 1020).length := by rw [List.length_take, List.length_take, h]
      rw [if_neg Bool.false_ne_true, if_neg (by rw [← none_left, e]; exact Bool.false_ne_true)]
      dsimp only
      rw [List.length_cons, List.length_cons, took, ih _ _ (vs.drop 1020) (by rw [List.length_drop, List.length_drop, h])]

/-- The number of a block's records depends on the number of its words alone. -/
theorem Block.records_length (b : Block) (p : Nat) (ws vs : List Nat) (h : ws.length = vs.length) :
    (b.records p ws).length = (b.records p vs).length := by
  unfold Block.records
  dsimp only
  rw [List.length_cons, List.length_cons, List.length_flatMap, List.length_flatMap]
  congr 2
  refine List.map_congr_left (fun l _ => b.segments_length _ _ _ _ _ ?_)
  rw [List.length_take, List.length_take, List.length_drop, List.length_drop, h]

/-- Words read without an error are as many as were stored. -/
theorem State.readWords_length (s : State) (format : Nat) (ws : List Nat) : (s.readWords format ws []).2.length = ws.length := by
  show (missWords format ((wordsOfBytes (bytesOfWords (ws.map w32))).map BitVec.toNat) []).length = _
  rw [wordsOfBytes_bytesOfWords]
  simp [missWords]

/-! ### A stream that takes records and never refuses a frame -/

/-- A stream of level 0 that runs with nothing held, and its count of records. -/
structure State.Takes (s : State) (n v : Nat) : Prop where
  on : (s.streamOf n).on = true
  going : (s.streamOf n).stopped = false
  level : (s.streamOf n).level = 0
  free : (s.streamOf n).holding = []
  count : s.Has (Ix.streamRecords + n) 0 v

theorem State.Takes.same {m : Nat} {s t : State} {v : Nat} {n : Fin 8} (h : s.Takes n v) (f : Same m s t) (hs : m.testBit 29 = false)
    (hc : ∀ k : Fin 8, m.testBit (42 + regNo (Ix.streamRecords + k)) = false) : t.Takes n v := by
  have e := State.streamOf_of_stream (f.stream hs) n
  obtain ⟨h1, h2, h3, h4, h5⟩ := h
  exact ⟨by rw [e, h1], by rw [e, h2], by rw [e, h3], by rw [e, h4], h5.same f (hc n)⟩

theorem closeFrame_streamRecords : ∀ k : Fin 8, mask228.testBit (42 + regNo (Ix.streamRecords + k)) = false := by decide

theorem State.Takes.close {s : State} {v : Nat} {n : Fin 8} (h : s.Takes n v) (rule : Nat) : (s.closeFrame n rule false).Takes n v := by
  cases ho : (s.streamOf n).open_ with
  | none => rwa [State.closeFrame_none ho]
  | some f =>
    obtain ⟨b, e, -⟩ := State.closeFrame_enters (rule := rule) (flushed := false) h.count.wf ho (.inl h.level)
    exact ⟨e ▸ h.on, e ▸ h.going, e ▸ h.level, e ▸ h.free, h.count.same (State.closeFrame_same ..) (closeFrame_streamRecords n)⟩

theorem State.Takes.place {s : State} {v : Nat} {n : Fin 8} (h : s.Takes n v) (r : Rec) : (s.placeRec n r).Takes n ((v + 1) % 2 ^ 64) := by
  have nth_n : nth Ix.streamRecords 8 n = Ix.streamRecords + n := congrArg (Ix.streamRecords + ·) (Nat.mod_eq_of_lt n.isLt)
  unfold State.placeRec
  extract_lets x f f1
  rw [nth_n]
  exact ⟨(congrArg StreamSt.on (s.streamOf_setStream n _)).trans h.on, (congrArg StreamSt.stopped (s.streamOf_setStream n _)).trans h.going,
    (congrArg StreamSt.level (s.streamOf_setStream n _)).trans h.level, (congrArg StreamSt.holding (s.streamOf_setStream n _)).trans h.free,
    .cntW (s := s.setStream n { x with open_ := some f1 }) (.dict h.count rfl) 1⟩

theorem State.Takes.append {s : State} {v : Nat} {n : Fin 8} (h : s.Takes n v) (r : Rec) : (s.appendRec n r).Takes n ((v + 1) % 2 ^ 64) := by
  unfold State.appendRec
  dsimp only
  rw [if_neg (by rw [h.on]; decide), if_neg (by rw [h.going]; decide)]
  cases (s.streamOf n).open_ with
  | none => exact h.place r
  | some f =>
    dsimp only
    by_cases hr : closingRule f r = 0
    · rw [if_pos hr]
      exact h.place r
    · have c := h.close (closingRule f r)
      rw [if_neg hr]
      rw [if_neg (by rw [c.going]; decide)]
      exact c.place r

theorem State.Takes.appendAll {n : Fin 8} (l : List Rec) : ∀ {s : State} {v : Nat}, s.Takes n v → 0 < l.length →
    (l.foldl (State.appendRec n) s).Takes n ((v + l.length) % 2 ^ 64) := by
  induction l with
  | nil => exact fun _ h => absurd h (Nat.lt_irrefl 0)
  | cons r l ih =>
    intro s v h _
    cases l with
    | nil => exact h.append r
    | cons r' l' =>
      have := ih (h.append r) (Nat.succ_pos _)
      rw [show ((v + 1) % 2 ^ 64 + (r' :: l').length) % 2 ^ 64 = (v + (r :: r' :: l').length) % 2 ^ 64 by
        rw [Nat.mod_add_mod, List.length_cons (a := r), Nat.add_assoc, Nat.add_comm 1]] at this
      exact this

/-! ### Framing (R252 to R254) -/

theorem State.caiOf_setCai (s : State) (p : Nat) (c : CaiSt) : (s.setCai p c).caiOf p = c := tget_tset ..

theorem State.caiOf_same {m : Nat} {s t : State} (f : Same m s t) (h : m.testBit 30 = false) (p : Nat) : t.caiOf p = s.caiOf p :=
  congrArg (tget ({} : CaiSt) · p) (f.cai h)

theorem State.snapshotFraming_frames {s : State} {t : Nat} {p : Fin 24} {b : Block} (hb : (s.caiOf p).block = some b)
    (hf : b.framed = false) (hp : b.place + s.par Ix.cwHorizon 0 * 256 + 32768 < (s.enter t).now)
    (hi : (s.cw.intake ++ s.cw.store).all (fun k => decide (b.place ≤ k.stamp)) = true) (he : s.earlierBlock b = false) :
    exec (.snapshotFraming t p []) s = .next ((s.enter t).frameBlock p b []) := by
  have late : ∀ l : List Item, (∀ k ∈ l, k ∈ s.cw.intake ++ s.cw.store) → (!l.any (fun i => decide (i.stamp < b.place))) = true := by
    intro l hl
    rw [Bool.not_eq_true', List.any_eq_false]
    intro k hk
    have := of_decide_eq_true (List.all_eq_true.mp hi k (hl k hk))
    rw [decide_eq_true_eq]
    omega
  show execSnapshotFraming t p [] s = _
  unfold execSnapshotFraming
  dsimp only
  rw [show ((s.enter t).caiOf p).block = some b from hb]
  exact if_pos ⟨by rw [hf]; rfl, hp, late _ (fun k hk => List.mem_append_left _ hk), late _ (fun k hk => List.mem_append_right _ hk),
    by rw [show (s.enter t).earlierBlock b = false from he]; rfl⟩

theorem State.Has.cntN {s : State} {ix sub v jx tub : Nat} (h : s.Has ix sub v) (e : ix ≠ jx ∧ ix ≠ Ix.dictSatCount ∧ ix ≠ Ix.dictSatLast)
    (n : Nat) : (s.cntN jx tub n).Has ix sub v :=
  .ite h (.cnt (.setPar h e.1) e)

/-- The count of MISSING words. -/
abbrev missedMask : Nat := 0xc000000000000000000000000200000000000000000000000000000000000000000000000000020

/-- A block is framed: it stands as framed, it is counted as discarded where no destination is enabled, and one enabled destination
takes its records. -/
theorem State.frameBlock_effects {s : State} {p : Nat} {b : Block} (w : Dict.wf s.dict) :
    let u := s.frameBlock p b []
    (∃ c, (u.caiOf p).block = some c ∧ c.framed = true)
      ∧ ((∀ k : Fin 8, bit b.mask k = true → s.par Ix.streamState k ≠ 1) →
        u.par Ix.caiDiscarded p = cntNext (s.par Ix.caiDiscarded p))
      ∧ ∀ (n : Fin 8) (v : Nat), b.mask = 2 ^ n.val → s.par Ix.streamState n = 1 → s.Takes n v →
        u.par (Ix.streamRecords + n) 0 = (v + (b.records p b.sequence).length) % 2 ^ 64
          ∧ u.par Ix.caiDiscarded p = s.par Ix.caiDiscarded p := by
  intro u
  have hu : u = s.frameBlock p b [] := rfl
  clear_value u
  unfold State.frameBlock at hu
  extract_lets dest r s1 recs s2 s3 c4 s4 at hu
  have read : Same mask70 s r.1 := State.readWords_same ..
  have len : recs.length = (b.records p b.sequence).length := b.records_length p _ _ (s.readWords_length b.format b.sequence)
  have missed : Same missedMask r.1 s1 := State.cntN_same _ _ _ _ rfl
  have d1 : s1.Has Ix.caiDiscarded p (s.par Ix.caiDiscarded p) := .via missed rfl (.via read rfl (.start w))
  have copies : Same mask44 s1 s2 := Same.foldl dest (Same.refl _ _) (fun u n => State.copyBlock_same u n recs)
  have d2 : s2.Has Ix.caiDiscarded p (s.par Ix.caiDiscarded p) := d1.same copies rfl
  have goes_on : Same mask44 s4 u := hu ▸ Same.foldl (setBits b.mask 8) (Same.refl _ _) (fun u n => State.unhold_same u n)
  have empty : (∀ k : Fin 8, bit b.mask k = true → s.par Ix.streamState k ≠ 1) → dest = [] := fun h =>
    List.filter_eq_nil_iff.mpr (fun n hn => fun g =>
      h ⟨n, List.mem_range.mp (List.mem_filter.mp hn).1⟩ (List.mem_filter.mp hn).2 (of_decide_eq_true g))
  refine ⟨⟨_, congrArg CaiSt.block ((State.caiOf_same goes_on rfl p).trans (State.caiOf_setCai ..)), rfl⟩, fun h => ?_, fun n v hm hs hv => ?_⟩
  · have d3 : s3.Has Ix.caiDiscarded p (cntNext (s.par Ix.caiDiscarded p)) := by
      have e : s3 = s2.cnt Ix.caiDiscarded p := if_pos (by rw [empty h]; rfl)
      exact e ▸ d2.counted (by decide)
    exact State.Has.par (.via goes_on rfl (.dict d3 rfl))
  · have alone : dest = [n.val] := by
      unfold dest
      rw [hm, setBits_single]
      exact List.filter_cons_of_pos (decide_eq_true hs)
    have e3 : s3 = s2 := if_neg (by rw [alone]; exact Bool.false_ne_true)
    have t1 : s1.Takes n v := (hv.same read rfl (by decide)).same missed rfl (by decide)
    have t2 : s2.Takes n ((v + recs.length) % 2 ^ 64) := by
      have e : s2 = recs.foldl (State.appendRec n) s1 := by
        unfold s2
        rw [alone]
        exact if_pos t1.on
      exact e ▸ t1.appendAll recs (Nat.succ_pos _)
    have t4 : s4.Takes n ((v + recs.length) % 2 ^ 64) := (e3 ▸ t2 : s3.Takes n _).same (State.setCai_same s3 p _) rfl (by decide)
    have e : u = (s4.setStream n { s4.streamOf n with holding := [] }) := by
      rw [hu, hm, setBits_single]
      unfold State.unhold
      rw [List.foldl_cons, List.foldl_nil]
      dsimp only
      rw [t4.free]
      rfl
    refine ⟨?_, State.Has.par (.via goes_on rfl (.dict (e3 ▸ d2 : s3.Has _ _ _) rfl))⟩
    rw [e, ← len]
    exact t4.count.par

/-! ### A lane's word (R247, R248, R251) -/

theorem clampI_eq {c : Int} (i : Int) (h : 0 ≤ c) : clampI (-c) c i = max (-c) (min c i) := by
  unfold clampI
  split
  · omega
  · split <;> omega

/-- The word enters the lane's ring and the block whose window holds the instant. -/
theorem State.caiWord_enters {s : State} {p t : Nat} {i : Fin 8} {reading : Reading} (hr : s.caiRecords (8 * p + i) = true)
    (hf : s.par Ix.caiFormat p = 0)
    (fresh : (tget ⟨t, none, [], 0, []⟩ (s.caiOf p).lanes i.val).words.head?.map Prod.fst ≠ some t) :
    let l := 8 * p + i.val
    let word := ofI32 ((if s.negative l (t - 25600) then -1 else 1) * max (-0x44000000) (min 0x44000000 (s.rawCount l reading)))
    ∃ z, z = s.caiWord p t (i, reading) ∧ ∃ r, tfind (z.caiOf p).lanes i = some r ∧ r.words.head? = some (t, word)
      ∧ r.words.length ≤ 2 ^ s.par Ix.caiDepthLog2 p
      ∧ ∀ b : Block, (s.caiOf p).block = some b → b.framed = false → bit b.lanes i = true → b.covers t = true →
        (z.caiOf p).block = some { b with words := (i.val, t, word) :: b.words } := by
  intro l word
  have sample : (s.valueAs (decide (s.par Ix.caiFormat p ≠ 0)) l (clampI (-countClip) countClip (s.rawCount l reading))
      (s.negative l (t - 25600)) (t - 25600) t).1 = word := by
    rw [hf]
    show ofI32 ((if s.negative l (t - 25600) then -1 else 1) * clampI (-0x44000000) 0x44000000 (s.rawCount l reading)) = _
    rw [clampI_eq _ (by decide)]
  have e : s.caiWord p t (i, reading) = s.setCai p
      { lanes := tset (s.caiOf p).lanes i { (tget ⟨t, none, [], 0, []⟩ (s.caiOf p).lanes i.val) with
          words := ((t, word) :: (tget ⟨t, none, [], 0, []⟩ (s.caiOf p).lanes i.val).words).take (2 ^ s.par Ix.caiDepthLog2 p)
          depth := (tget ⟨t, none, [], 0, []⟩ (s.caiOf p).lanes i.val).depth + 1 }
        block := (s.caiOf p).block.map (fun b => if !b.framed && bit b.lanes i && b.covers t then
          { b with words := (i.val, t, word) :: b.words } else b) } := by
    rw [← sample]
    exact (if_pos hr).trans (if_neg fresh)
  refine ⟨_, rfl, ?_⟩
  rw [e, State.caiOf_setCai]
  obtain ⟨k, hk⟩ := Nat.exists_eq_succ_of_ne_zero (Nat.ne_of_gt (Nat.two_pow_pos (s.par Ix.caiDepthLog2 p)))
  refine ⟨_, (tfind_tset ..).trans (if_pos rfl), ?_, List.length_take_le .., fun b hb h1 h2 h3 => ?_⟩
  · dsimp only
    rw [hk]
    rfl
  · dsimp only
    rw [hb, Option.map_some, h1, h2, h3]
    rfl

/-- Past the state OFF a restart of the recordings leaves a Caisson OFF (Table 3). -/
theorem State.Has.caiTouchPier {s : State} {p : Nat} (h : s.Has Ix.caiState p 0) (t q : Nat) : (s.caiTouchPier t q).Has Ix.caiState p 0 := by
  refine foldl_keeps (I := fun u => u.Has Ix.caiState p 0) (fun u y hu => ?_) (lanesOf q) s h
  unfold State.caiTouch
  dsimp only
  split
  · split
    next h2 =>
      refine State.Has.setPar_key (.dict hu rfl) (fun e => ?_)
      have : u.par Ix.caiState (y / 8) = 0 := by
        rw [← hu.par, State.par, State.par, e]
      exact absurd (this.symm.trans h2) (by decide)
    next => exact .dict hu rfl
  · split
    · exact .ite (.dict hu rfl) hu
    · exact hu

/-- Settles O39: a lane's word, a block's framing and its re-arming, each from its command. -/
theorem caissonBlocks : Obligations.CaissonBlocks := by
  intro s t p i n reading b inv
  obtain ⟨-, w, -⟩ := inv
  intro s1 clip l x word recorded frames
  refine ⟨fun ht hc hr hf hw => ?_, fun h hs => ?_, fun h hm hs hon hst hlv hh => ?_, fun hb hr hs => ?_, fun hb hr hs => ?_⟩
  · have lane : l / 8 = p.val ∧ l % 8 = i.val := by omega
    have on : s.par Ix.caiState p ≠ 0 := by
      have := hr
      unfold State.caiRecords at this
      simp only [lane.1, Bool.and_eq_true, decide_eq_true_eq] at this
      exact this.1.1.1
    have fresh : (tget ⟨s1.now, none, [], 0, []⟩ x.lanes i.val).words.head?.map Prod.fst ≠ some s1.now := by
      intro h
      refine hw ?_
      unfold recorded
      cases ho : tfind x.lanes i.val with
      | none => rw [tget, ho] at h; exact absurd h (by simp)
      | some r => rw [tget, ho] at h; exact h
    obtain ⟨z, hz, r, k1, k2, k3, k4⟩ := State.caiWord_enters (s := s1) (i := i) (reading := reading) hr hf fresh
    have e : exec (.caissonRecord t p [(i, reading)] []) s = .next (if z.par Ix.caiState p = 1 ∧ z.caiFull p then z.setPar Ix.caiState p 2 else z) :=
      hz ▸ if_pos ⟨ht, on, hc⟩
    have c : (if z.par Ix.caiState p = 1 ∧ z.caiFull p then z.setPar Ix.caiState p 2 else z).caiOf p = z.caiOf p := by split <;> rfl
    refine ⟨_, e, ?_⟩
    dsimp only
    rw [c]
    exact ⟨r, k1, k2, k3, k4 b⟩
  · obtain ⟨h1, h2, h3, h4, h5⟩ := h
    obtain ⟨c1, c2, -⟩ := s1.frameBlock_effects (p := p) (b := b) w
    exact ⟨_, State.snapshotFraming_frames h1 h2 h3 h4 h5, c1, c2 hs⟩
  · obtain ⟨h1, h2, h3, h4, h5⟩ := h
    obtain ⟨c1, -, c2⟩ := s1.frameBlock_effects (p := p) (b := b) w
    obtain ⟨c3, c4⟩ := c2 n (s.par (Ix.streamRecords + n) 0) hm hs ⟨hon, hst, hlv, hh, w, rfl⟩
    exact ⟨_, State.snapshotFraming_frames h1 h2 h3 h4 h5, c1, c3, c4⟩
  · have e : exec (.caissonRearm t p) s = .next (s1.setPar Ix.caiState p (if s1.caiFull p then 2 else 1)) := by
      show execCaissonRearm t p s = _
      unfold execCaissonRearm
      dsimp only
      rw [show ((s.enter t).caiOf p).block = some b from hb]
      exact (if_pos hr).trans (if_pos hs)
    exact ⟨_, e, State.Has.par (.written s1 w)⟩
  · have e : exec (.caissonRearm t p) s = .next ((s1.setPar Ix.caiState p 0).caiTouchPier s1.now p) := by
      show execCaissonRearm t p s = _
      unfold execCaissonRearm
      dsimp only
      rw [show ((s.enter t).caiOf p).block = some b from hb]
      exact (if_pos hr).trans ((if_neg (by rw [show (s.enter t).par Ix.caiState p = 4 from hs]; decide)).trans (if_pos hs))
    exact ⟨_, e, State.Has.par (.caiTouchPier (.written s1 w) s1.now p)⟩

end Sys2Proof.Machine
end
section
/-! SUPPORT. A history region with a codeword that cannot be corrected (R255, R285, R289). -/
namespace Sys2Proof.Machine

/-- A frame with no payload, waiting in Beryl to leave. -/
def emptyFrame : BerylFrame :=
  { frame := { base := 0, quality := 0, epoch := 0, chip := 0, stream := 0, level := 0, seq := 0, flushed := false, gap := false
               comp := false, payload := [], stored := [], records := 0, last := 0 }
    at_ := .ready, closed := 0 }

/-- Three check symbols in error, with both lower syndromes zero. -/
def threeErrors : List Byte := List.replicate 17 0 ++ [1, 3, 2]

/-- Stream 0 writes its history at byte 40 of a region whose codeword of bytes 32 to 47 has three symbols in error. -/
def stuckHistory : State :=
  { dict := [(key Ix.clkDomainGood 0, 12), (key Ix.streamOutlets 0, 4), (key Ix.histBase 0, 0x100000), (key Ix.histSize 0, 16),
      (key Ix.memState 0, 1)]
    stream := [(0, { on := true, beryl := [emptyFrame], histPos := 40 })]
    dram := { bad := [(0x1000000020, threeErrors)] } }

theorem stuckHistory_inv : stuckHistory.Inv := by
  unfold State.Inv Dict.wf Net.wf
  decide

/-- A codeword that is written in part and cannot be corrected is put back as it was (R289). -/
theorem State.writeMem_stuck {s : State} {a c : Nat} {bytes : List Byte} {r : CwRead} (code n : Nat)
    (hb : s.badReads a bytes.length = [(c, r)]) (hw : wholeIn a (a + bytes.length) c = false) (hr : r.fixed = none) :
    (s.writeMem a bytes code n).mem = memWriteBytes (memWriteBytes s.mem a bytes) c (memBytes s.mem c 16) := by
  unfold State.writeMem
  dsimp only
  rw [hb, List.filter_cons_of_pos (by rw [hw]; rfl), List.filter_nil, List.filter_cons_of_pos (by rw [hr]; rfl), List.filter_nil]
  rfl

/-- A frame for which the region has room is written behind the one before (R255). -/
theorem State.histWrite_mem {s : State} {n : Nat} {f : Frame} (h : (s.streamOf n).histPos + f.bytes ≤ s.par Ix.histSize n * 65536) :
    (s.histWrite n f).mem = (s.writeMem (s.par Ix.histBase n * 65536 + (s.streamOf n).histPos) (bytesOfWords f.words) 8 n).mem := by
  have wrap : decide ((s.histRegion n).size < (s.streamOf n).histPos + f.bytes) = false := decide_eq_false (Nat.not_lt.mpr h)
  unfold State.histWrite
  dsimp only
  rw [wrap]
  rfl

/-- The state as the frame leaves Beryl. -/
def stuckHead : State :=
  (((stuckHistory.enter 0).setStream 0 { ((stuckHistory.enter 0).streamOf 0) with beryl := [] }).cntW (nth Ix.berylOutWords 8 0) 0 0)

theorem stuckHistory_moves : exec (.frameToHead 0 0 []) stuckHistory = .next (stuckHead.meetHead 0 emptyFrame []) := by
  rfl

theorem gfMul_zero (b : Nat) : gfMul 0 b = 0 := by simp [gfMul, gfMulBits, gfDouble]

/-- A codeword whose lower syndromes are zero and the third is not cannot be corrected (R283). -/
theorem rsDecode_none {code : List Nat} (h0 : rsSyndrome code 0 = 0) (h1 : rsSyndrome code 1 = 0) (h2 : rsSyndrome code 2 ≠ 0) :
    rsDecode code = none := by
  unfold rsDecode
  rw [h0, h1]
  dsimp only
  rw [if_neg (fun h => h2 h.2.2.1), gfMul_zero, gfMul_zero, if_pos (Nat.xor_self 0)]
  split
  · exact if_neg (fun h => h.1 rfl)
  · rfl

theorem threeErrors_fatal : (readCodeword (List.replicate 16 0) threeErrors).fixed = none := by
  have check : rsCheck ((List.replicate 16 (0 : Byte)).map BitVec.toNat) = [0, 0, 0, 0] := by
    simp [rsCheck, rsStep, List.replicate, gfMul_zero]
  have code : ((List.replicate 16 (0 : Byte)).map BitVec.toNat ++ rsCheck ((List.replicate 16 (0 : Byte)).map BitVec.toNat)).zipWith
      (fun a b => a ^^^ b) ((threeErrors ++ List.replicate 20 0).map BitVec.toNat) = List.replicate 17 0 ++ [1, 3, 2] := by
    rw [check]
    rfl
  have h0 : rsSyndrome (List.replicate 17 0 ++ [1, 3, 2]) 0 = 0 := by
    simp [rsSyndrome, List.replicate, gfMul, gfMulBits, gfDouble, gfPow]
  have h1 : rsSyndrome (List.replicate 17 0 ++ [1, 3, 2]) 1 = 0 := by
    simp [rsSyndrome, List.replicate, gfMul, gfMulBits, gfDouble, gfPow]
  have h2 : rsSyndrome (List.replicate 17 0 ++ [1, 3, 2]) 2 ≠ 0 := by
    simp [rsSyndrome, List.replicate, gfMul, gfMulBits, gfDouble, gfPow]
  unfold readCodeword
  dsimp only
  rw [code, rsDecode_none h0 h1 h2]

/-- Words read from SRAM without an error are those stored. -/
theorem State.sramFrame_clean (s : State) (n : Nat) (f : Frame) : s.sramFrame n f [] = (s, f) := by
  show (s, f.reread (wordsOfBytes (bytesOfWords f.words))) = (s, f)
  rw [wordsOfBytes_bytesOfWords]
  exact congrArg (Prod.mk s) (if_pos rfl)

/-- The same with the frame numbered and accepted. -/
def stuckAccepted : State :=
  let s1 := ((stuckHead.setPar (nth Ix.streamSeqNext 8 0) 0 1).cntW (nth Ix.streamFrames 8 0) 0 1)
  s1.setStream 0 { s1.streamOf 0 with head := [emptyFrame.frame] }

theorem stuckHead_accepts : stuckHead.meetHead 0 emptyFrame [] = stuckAccepted.histWrite 0 emptyFrame.frame := by
  show stuckHead.accept 0 false [] emptyFrame.frame = _
  unfold State.accept
  dsimp only
  rw [State.sramFrame_clean]
  rfl

theorem stuckAccepted_writes : (stuckAccepted.histWrite 0 emptyFrame.frame).mem
    = (stuckAccepted.writeMem 0x1000000028 (bytesOfWords emptyFrame.frame.words) 8 0).mem :=
  State.histWrite_mem (by decide)

theorem stuckAccepted_reads : stuckAccepted.badReads 0x1000000028 (bytesOfWords emptyFrame.frame.words).length
    = [(0x1000000020, readCodeword (List.replicate 16 0) threeErrors)] := by
  have hit : stuckAccepted.dram.bad.filter (fun x => decide (0x1000000028 < x.1 + 16)
      && decide (x.1 < 0x1000000028 + (bytesOfWords emptyFrame.frame.words).length)) = [(0x1000000020, threeErrors)] := rfl
  have clean : memBytes stuckAccepted.mem 0x1000000020 16 = List.replicate 16 0 := rfl
  unfold State.badReads
  rw [hit, List.map_cons, List.map_nil, clean]

/-- Refutes O40 in the clause of a frame's history: of a codeword that cannot be corrected and that the frame covers in part, the
bytes stay as they were, and the frame's do not stand there. -/
theorem not_framePath : ¬ Obligations.FramePath := by
  unfold Obligations.FramePath
  intro h
  obtain ⟨-, -, enters, -⟩ := h stuckHistory 0 0 0 0 0 0 emptyFrame [] emptyFrame.frame [] [] {} 3 stuckHistory_inv
  obtain ⟨u, hu, -, -, -, -, written⟩ := enters (by decide) (by decide)
  have stays : memRead u.mem 0x100000002B = 0 := by
    rw [stuckHistory_moves, stuckHead_accepts] at hu
    obtain rfl := Host.Outcome.next.inj hu
    rw [stuckAccepted_writes, State.writeMem_stuck 8 0 stuckAccepted_reads (by decide) threeErrors_fatal]
    decide
  have stored := (written (by decide)).2 (by decide) (by decide)
  exact absurd (stored.symm.trans (congrArg some stays)) (by decide)

end Sys2Proof.Machine
end
section
/-! SUPPORT. The fetch engine on a DRAM without an error (R256 to R259). -/
namespace Sys2Proof.Machine

theorem wordsOfBytes_length : ∀ bs : List Byte, (wordsOfBytes bs).length = (bs.length + 3) / 4
  | [] => rfl
  | [_] => by simp [wordsOfBytes]
  | [_, _] => by simp [wordsOfBytes]
  | [_, _, _] => by simp [wordsOfBytes]
  | _ :: _ :: _ :: _ :: t => by
    rw [wordsOfBytes, List.length_cons, wordsOfBytes_length t]
    simp only [List.length_cons]
    omega

theorem State.badReads_clean {s : State} (hb : s.dram.bad = []) (a n : Nat) : s.badReads a n = [] := by
  unfold State.badReads
  rw [hb]
  rfl

theorem State.headerAt_clean {s : State} (hb : s.dram.bad = []) (a : Nat) : s.headerAt a = headerOf (s.wordsAt a 8) := by
  unfold State.headerAt State.badAt
  rw [State.badReads_clean hb]
  rfl

theorem State.wordsAt_length {s : State} (hb : s.dram.bad = []) (a n : Nat) : (s.wordsAt a n).length = n := by
  unfold State.wordsAt State.readMem
  rw [State.badReads_clean hb, wordsOfBytes_length, List.foldl_nil, memBytes, List.length_map, List.length_range]
  omega

/-- What a frame's payload keeps depends on the filters alone (R258). -/
theorem State.fetchFrame_same {m : Nat} {s t : State} (f : Same m s t) (w : Dict.wf s.dict)
    (h : ∀ ix ∈ [Ix.fetchTypeFilter, Ix.fetchSrcFilter, Ix.fetchTStart, Ix.fetchTEnd], m.testBit (42 + regNo ix) = false) (hd : FHead)
    (p : List Word) : t.fetchFrame hd p = s.fetchFrame hd p := by
  have par : ∀ ix sub, ix ∈ [Ix.fetchTypeFilter, Ix.fetchSrcFilter, Ix.fetchTStart, Ix.fetchTEnd] → t.par ix sub = s.par ix sub :=
    fun ix sub hx => f.pars w ix sub (h ix hx)
  have keeps : t.fetchKeeps hd.base = s.fetchKeeps hd.base := by
    funext r
    unfold State.fetchKeeps
    dsimp only
    rw [par Ix.fetchTypeFilter 0 (by decide), par Ix.fetchSrcFilter _ (by decide), par Ix.fetchTStart 0 (by decide),
      par Ix.fetchTEnd 0 (by decide)]
  unfold State.fetchFrame
  rw [keeps]

/-- The frames that a fetch of a stream's region finds. -/
theorem State.fetchEntries_stream {s : State} {n : Fin 8} (h : s.par Ix.fetchRegion 0 = n.val) :
    s.fetchEntries = (s.streamOf n).hist.map (fun x => (x.seq, s.par Ix.histBase n * 65536 + x.offset)) := by
  unfold State.fetchEntries
  dsimp only
  rw [h]
  exact if_pos n.isLt

/-- A running fetch that reads frame by frame (R257). -/
structure State.Fetching (s : State) (n : Fin 8) : Prop where
  started : s.fetch.started = true
  cursor : s.fetch.cursor = none
  region : s.par Ix.fetchRegion 0 = n.val

/-- The frame that is reached is read, its header and its payload (R258, R259). -/
theorem State.fetchStep_reads {s : State} {n : Fin 8} {h : HistFrame} {hd : FHead} (f : s.Fetching n) (hh : (s.streamOf n).hist = [h])
    (hn : s.fetch.next = h.seq) (hb : s.dram.bad = [])
    (head : headerOf (s.wordsAt (s.par Ix.histBase n * 65536 + h.offset) 8) = some hd) (hv : hd.version = 2)
    (he : hd.epoch = s.par Ix.fetchEpoch 0) (ht : hd.base < s.par Ix.fetchTEnd 0) :
    s.fetchStep = (({ s with fetch := { s.fetch with next := h.seq + 1, cursor := none } } : State).fetchSeen hd.seq).fetchTake hd
      (payloadOf hd ((s.wordsAt (s.par Ix.histBase n * 65536 + h.offset) (8 + hd.stored)).drop 8)) := by
  generalize ha : s.par Ix.histBase n * 65536 + h.offset = a at *
  have entries : s.fetchEntries = [(h.seq, a)] := by
    rw [State.fetchEntries_stream f.region, hh, ← ha]
    rfl
  have at_a : s.headerAt a = some hd := (State.headerAt_clean hb a).trans head
  have next : s.fetchNext = some (h.seq, a) := by
    unfold State.fetchNext
    rw [f.cursor, entries]
    refine List.find?_cons_of_pos ?_
    unfold State.inEpoch
    rw [at_a, hn, Option.any_some, decide_eq_true (Nat.le_refl _), decide_eq_true he]
    rfl
  unfold State.fetchStep
  dsimp only
  rw [if_pos f.started, entries, next, List.head?_cons, Option.map_some, Option.getD_some, hn,
    if_neg (fun g => absurd g.2 (Nat.lt_irrefl _))]
  dsimp only
  rw [at_a, Option.any_some, if_neg (by rw [decide_eq_true_eq]; omega)]
  generalize hx : ({ s with fetch := { s.fetch with next := h.seq + 1, cursor := none } } : State) = x
  have xa : x.headerAt a = some hd := hx ▸ at_a
  have xb : x.dram.bad = [] := hx ▸ hb
  have words : x.wordsAt a (8 + hd.stored) = s.wordsAt a (8 + hd.stored) := hx ▸ rfl
  have xr : x.par Ix.fetchRegion 0 = n.val := hx ▸ f.region
  unfold State.fetchRead State.countReads
  dsimp only
  rw [xa, xr, State.badReads_clean xb]
  show x.fetchHeader n a (wordsOfBytes (x.readMem a (32 + 4 * hd.stored))) (some hd) = _
  rw [show wordsOfBytes (x.readMem a (32 + 4 * hd.stored)) = x.wordsAt a (8 + hd.stored) by
    unfold State.wordsAt; rw [Nat.mul_add], words]
  unfold State.fetchHeader
  dsimp only
  rw [if_neg (fun g => g.2 hv), List.take_of_length_le (by rw [List.length_drop, State.wordsAt_length hb]; omega)]

/-- A frame whose header contradicts itself has the fault of code 5 (R272). -/
theorem payloadOf_mismatch {h : FHead} (ws : List Word) (hm : h.raw = h.comp ∨ h.raw = true ∧ h.stored ≠ h.count
    ∨ h.comp = true ∧ (h.level = 0 ∨ h.count ≤ h.stored) ∨ h.count % 2 = 1 ∨ h.count < 2) : payloadOf h ws = .error (5, some 0) := by
  have : h.mismatch = true := by
    unfold FHead.mismatch
    rcases hm with h | ⟨h1, h2⟩ | ⟨h1, h2⟩ | h | h
    · simp [h]
    · simp [h1, h2]
    · rcases h2 with h2 | h2 <;> simp [h1, h2]
    · simp [h]
    · simp [h]
  unfold payloadOf
  rw [if_pos this]

theorem State.fetchFrame_execs {s : State} (t : Nat) (h1 : s.runs 2 = true) (h2 : s.runs 3 = true) (h3 : s.par Ix.memState 0 = 1)
    (h4 : s.par Ix.fetchState 0 = 1) (h5 : s.fetch.ready = none) (h6 : s.fetch.ending = false) :
    exec (.fetchFrame t []) s = .next (s.enter t).fetchStep := by
  have dram : (s.enter t).dramRuns = true := by
    unfold State.dramRuns
    exact Bool.and_eq_true_iff.mpr ⟨h2, decide_eq_true h3⟩
  exact if_pos ⟨h1, dram, h4, by rw [show (s.enter t).fetch.ready = none from h5]; rfl, by rw [show (s.enter t).fetch.ending = false from h6]; rfl⟩

/-- A fault of a frame that is read is counted and named (R259). -/
theorem State.fetchFault_names {s : State} (code pos seq : Nat) (w : Dict.wf s.dict) :
    (s.fetchFault code (some pos) seq).fetch = s.fetch
      ∧ (s.fetchFault code (some pos) seq).par Ix.fetchFaults 0 = cntNext (s.par Ix.fetchFaults 0)
      ∧ (s.fetchFault code (some pos) seq).par Ix.fetchLastFaultSeq 0 = seq
      ∧ (s.fetchFault code (some pos) seq).par Ix.fetchLastFault 0 = code * 2 ^ 24 + pos % 2 ^ 24 := by
  have c : (s.cnt Ix.fetchFaults 0).Has Ix.fetchFaults 0 (cntNext (s.par Ix.fetchFaults 0)) := .counted (.start w) (by decide)
  exact ⟨(State.fetchFault_same ..).fetch rfl, State.Has.par ((c.setPar (by decide)).setPar (by decide)),
    State.Has.par (.written _ (dictWf_setPar _ _ _ _ c.wf)), State.Has.par (.setPar (.written _ c.wf) (by decide))⟩

/-- A frame read is reported (R258). -/
theorem State.fetchSeen_tells {s : State} (q : Nat) (w : Dict.wf s.dict) :
    (s.fetchSeen q).fetch = { s.fetch with seen := true } ∧ (s.fetchSeen q).Has Ix.fetchLastSeq 0 q := by
  unfold State.fetchSeen
  split
  · exact ⟨rfl, .written _ w⟩
  · exact ⟨rfl, .written _ (dictWf_setPar _ _ _ _ w)⟩

/-- The end of a fetch owes a descriptor (R323). -/
theorem State.fetchEnds_ends {s : State} (st : Nat) (w : Dict.wf s.dict) :
    (s.fetchEnds st).par Ix.fetchState 0 = st ∧ (s.fetchEnds st).fetch.ending = true :=
  ⟨par_setPar_self _ _ _ _ w, rfl⟩

theorem State.fetchStart_idle {s : State} (h : s.par Ix.fetchState 0 ≠ 1) :
    s.fetchStart = (let c := if s.par Ix.fetchRegion 0 = 8 then s.hostRegions else (s, true)
      if c.2 then { c.1 with fetch := { ending := s.fetch.ending } }.setPar Ix.fetchState 0 1 else c.1.fetchEnds 5) := if_neg h

theorem State.regionVerdict_passes (s : State) (kind owner : Nat) (f : Option (Nat × Nat)) :
    (s.regionVerdict kind owner f).2 = f.isNone := by
  cases f <;> rfl

theorem State.hostRegions_enter (s : State) (t : Nat) : (s.enter t).hostRegions.2 = s.hostRegions.2 := by
  unfold State.hostRegions
  rw [State.regionVerdict_passes, State.regionVerdict_passes]
  rfl

/-- A region that fails its check is counted (R242). -/
theorem State.hostRegions_fails {s : State} (h : s.hostRegions.2 = false) (w : Dict.wf s.dict) :
    s.hostRegions.1.Has Ix.spanRegionRefused 0 (cntNext (s.par Ix.spanRegionRefused 0)) := by
  unfold State.hostRegions State.regionVerdict at h ⊢
  split at h
  next f _ => exact .setPar (.counted (.start w) (by decide)) (by decide)
  next => exact Bool.noConfusion h

/-- Settles O41: the commands of a fetch, and the step of its engine. -/
theorem fetches : Obligations.Fetches := by
  intro s t c pos h n hd p inv
  obtain ⟨-, w, -⟩ := inv
  intro ends a runs reads payload faulty
  let s1 := s.enter t
  have step : runs → exec (.fetchFrame t []) s = .next s1.fetchStep := fun ⟨h1, h2, h3, h4, h5, h6, _⟩ =>
    State.fetchFrame_execs t h1 h2 h3 h4 h5 h6
  have fetching : runs → s1.Fetching n := fun ⟨_, _, _, _, _, _, h7, h8, h9⟩ => ⟨h7, h8, h9⟩
  let x : State := { s1 with fetch := { s1.fetch with next := h.seq + 1, cursor := none } }
  have wx : Dict.wf x.dict := w
  obtain ⟨seen, last⟩ := x.fetchSeen_tells hd.seq wx
  have read : reads → exec (.fetchFrame t []) s = .next ((x.fetchSeen hd.seq).fetchTake hd payload) := by
    rintro ⟨hr, h1, h2, h3, h4, h5, h6, h7⟩
    rw [step hr, State.fetchStep_reads (fetching hr) h1 h2 h3 h4 h5 h6 h7]
    rfl
  have idle : reads → x.fetch.ready = none := fun ⟨⟨_, _, _, _, h5, _⟩, _⟩ => h5
  have faults : (x.fetchSeen hd.seq).Has Ix.fetchFaults 0 (s.par Ix.fetchFaults 0) := .via (State.fetchSeen_same ..) rfl ⟨wx, rfl⟩
  have fails : ∀ c pos, reads → payload = .error (c, some pos) → Completes (.fetchFrame t []) s (fun u => faulty u c pos) := by
    intro c pos hr hp
    have e := read hr
    rw [hp] at e
    obtain ⟨f1, f2, f3, f4⟩ := (x.fetchSeen hd.seq).fetchFault_names c pos hd.seq last.wf
    refine ⟨_, e, ?_, f2.trans (by rw [faults.par]), f3, f4⟩
    show ((x.fetchSeen hd.seq).fetchFault c (some pos) hd.seq).fetch.ready = none
    rw [f1, seen]
    exact idle hr
  refine ⟨fun h1 h2 => ?_, fun h1 h2 h3 => ?_, fun h1 => ?_, fun h1 h2 => ?_, fun h1 h2 => ?_, fun hr hp => ?_, fails c pos,
    fun hr hm => fails 5 0 hr (payloadOf_mismatch _ hm), fun hr h1 h2 => ?_, fun hr h1 => ?_⟩
  · have e : s1.fetchStart = ({ s1 with fetch := { ending := s1.fetch.ending } } : State).setPar Ix.fetchState 0 1 := by
      rw [State.fetchStart_idle (s := s1) h1]
      dsimp only
      rw [if_neg (show ¬ s1.par Ix.fetchRegion 0 = 8 from Nat.ne_of_lt h2)]
      rfl
    exact ⟨_, congrArg Host.Outcome.next e, par_setPar_self _ _ _ _ w, rfl⟩
  · have fail : s1.hostRegions.2 = false := (s.hostRegions_enter t).trans h3
    have e : s1.fetchStart = s1.hostRegions.1.fetchEnds 5 := by
      rw [State.fetchStart_idle (s := s1) h1]
      dsimp only
      rw [if_pos (show s1.par Ix.fetchRegion 0 = 8 from h2), if_neg (by rw [fail]; decide)]
    have r := State.hostRegions_fails fail w
    exact ⟨_, congrArg Host.Outcome.next e, State.fetchEnds_ends 5 r.wf, State.Has.par (.setPar (.dict r rfl) (by decide))⟩
  · have e : s1.fetchStart = s1 := if_pos h1
    exact ⟨_, congrArg Host.Outcome.next e, rfl, rfl⟩
  · have e : s1.fetchAbort = s1.fetchEnds 4 :=
      (if_neg (Decidable.not_not.mpr h1)).trans (if_neg (by rw [show s1.fetch.ready = none from h2]; decide))
    exact ⟨_, congrArg Host.Outcome.next e, State.fetchEnds_ends 4 w⟩
  · have e : s1.fetchAbort = { s1 with fetch := { s1.fetch with aborting := true } } :=
      (if_neg (Decidable.not_not.mpr h1)).trans (if_pos (Option.isSome_iff_ne_none.mpr h2))
    exact ⟨_, congrArg Host.Outcome.next e, rfl, rfl⟩
  · have e := read hr
    rw [hp] at e
    refine ⟨_, e, ?_, last.par, ?_, faults.par⟩
    · show (x.fetchSeen hd.seq).fetch.next = h.seq + 1
      rw [seen]
    · exact State.fetchFrame_same (x.fetchSeen_same hd.seq) wx (by decide) hd p
  · have e : s1.fetchStep = { s1.fetchSkip with fetch := { s1.fetchSkip.fetch with next := s1.fetchSkip.fetch.next + 1, cursor := none } } := by
      unfold State.fetchStep
      dsimp only
      rw [if_pos (fetching hr).started, State.fetchEntries_stream (fetching hr).region, show (s1.streamOf n).hist = [h] from h1]
      exact if_pos ⟨by rw [(fetching hr).region]; exact n.isLt, h2⟩
    have f : s1.fetchSkip.fetch = { s1.fetch with lost := true } := (State.cnt_frame _ Ix.fetchSkipped 0).fetch rfl
    have counted : s1.fetchSkip.Has Ix.fetchSkipped 0 (cntNext (s.par Ix.fetchSkipped 0)) :=
      .counted (s := { s1 with fetch := { s1.fetch with lost := true } }) ⟨w, rfl⟩ (by decide)
    refine ⟨_, (step hr).trans (congrArg Host.Outcome.next e), ?_, ?_, counted.par⟩
    · show s1.fetchSkip.fetch.next + 1 = _
      rw [f]
      rfl
    · show s1.fetchSkip.fetch.lost = true
      rw [f]
  · have none_left : s1.fetchEntries = [] := by
      rw [State.fetchEntries_stream (fetching hr).region, show (s1.streamOf n).hist = [] from h1]
      rfl
    have e : s1.fetchStep = s1.fetchDone := by
      have next : s1.fetchNext = none := by
        unfold State.fetchNext
        rw [(fetching hr).cursor, none_left]
        rfl
      unfold State.fetchStep
      dsimp only
      rw [if_pos (fetching hr).started, none_left, next]
      exact if_neg (fun g => absurd g.2 (Nat.not_lt_zero _))
    exact ⟨_, (step hr).trans (congrArg Host.Outcome.next e), State.fetchEnds_ends _ w⟩

end Sys2Proof.Machine
end
section
/-! SUPPORT. Triplicated fields (R291, R292). -/
namespace Sys2Proof.Machine

/-- Of three copies two agree on this value, where two agree. -/
def majority (c0 c1 c2 : Nat) : Nat := if c1 = c2 then c1 else c0

/-- What the copies give: the loss of the field, or the value of two of them (R291, R292). -/
theorem State.tmrScrub_votes {s : State} {ix sub : Nat} {p : Param} (t c0 c1 c2 : Nat) (hp : paramAt ix sub = some p) (ht : p.tmr = true)
    (hr : p.slow = true ∨ s.runs 2 = true) : exec (.tmrScrub t ix sub c0 c1 c2) s = .next ((s.enter t).vote p ix sub c0 c1 c2) := by
  show execTmrScrub t ix sub c0 c1 c2 s = _
  unfold execTmrScrub
  rw [hp]
  exact if_pos ⟨ht, hr⟩

theorem State.vote_differ {s : State} {c0 c1 c2 : Nat} (p : Param) (ix sub : Nat) (h : c0 ≠ c1 ∧ c1 ≠ c2 ∧ c0 ≠ c2) :
    s.vote p ix sub c0 c1 c2 = s.fieldLost p ix sub := if_pos h

theorem State.vote_all {s : State} {c0 c1 c2 : Nat} (p : Param) (ix sub : Nat) (h1 : c0 = c1) (h2 : c1 = c2) (hs : s.par ix sub = c0) :
    s.vote p ix sub c0 c1 c2 = s := by
  unfold State.vote
  rw [if_neg (fun h => h.1 h1)]
  dsimp only
  rw [if_pos h2, if_pos (hs.trans h1), if_pos ⟨h1, h2⟩]

/-- Two copies agree: the third is counted (R291). -/
theorem State.vote_two {s : State} {c0 c1 c2 : Nat} (p : Param) (ix sub : Nat) (h : (c0 = c1 ∨ c1 = c2 ∨ c0 = c2) ∧ ¬ (c0 = c1 ∧ c1 = c2)) :
    s.vote p ix sub c0 c1 c2 = ((if s.par ix sub = majority c0 c1 c2 then s else s.setField p ix sub (majority c0 c1 c2)).cntW
      Ix.regTmrCorrected 0 1).setPar Ix.regTmrLast 0 (ix * 256 + sub) := by
  unfold State.vote
  rw [if_neg (fun ⟨n1, n2, n3⟩ => h.1.elim n1 (fun e => e.elim n2 n3))]
  exact if_neg h.2

/-- The correction is counted with the field's place (R291). -/
theorem State.corrected_counts {s : State} {v : Nat} (n : Nat) (h : s.Has Ix.regTmrCorrected 0 v) :
    ((s.cntW Ix.regTmrCorrected 0 1).setPar Ix.regTmrLast 0 n).par Ix.regTmrCorrected 0 = (v + 1) % 2 ^ 64
      ∧ ((s.cntW Ix.regTmrCorrected 0 1).setPar Ix.regTmrLast 0 n).par Ix.regTmrLast 0 = n := by
  have c := h.cntW 1
  exact ⟨State.Has.par (c.setPar (by decide)), State.Has.par (.written _ c.wf)⟩

/-- A loss of a field, counted with its place (R292). -/
structure State.LossTold (s u : State) (n : Nat) : Prop where
  count : u.Has Ix.regTmrFatal 0 (cntNext (s.par Ix.regTmrFatal 0))
  place : u.Has Ix.regTmrFatalLast 0 n

theorem State.LossTold.start {s : State} (n : Nat) (w : Dict.wf s.dict) :
    s.LossTold ((s.cnt Ix.regTmrFatal 0).setPar Ix.regTmrFatalLast 0 n) n := by
  have c : (s.cnt Ix.regTmrFatal 0).Has Ix.regTmrFatal 0 (cntNext (s.par Ix.regTmrFatal 0)) := .counted (.start w) (by decide)
  exact ⟨c.setPar (by decide), .written _ c.wf⟩

theorem State.LossTold.same {s u v : State} {n m : Nat} (h : s.LossTold u n) (f : Same m u v)
    (h1 : m.testBit (42 + regNo Ix.regTmrFatal) = false) (h2 : m.testBit (42 + regNo Ix.regTmrFatalLast) = false) : s.LossTold v n :=
  ⟨h.count.same f h1, h.place.same f h2⟩

theorem State.LossTold.setAt {s u : State} {n : Nat} (h : s.LossTold u n) (t ix sub v : Nat)
    (e : Ix.regTmrFatal ≠ ix ∧ Ix.regTmrFatalLast ≠ ix) : s.LossTold (u.setAt t ix sub v) n :=
  ⟨.setPar (.dict h.count rfl) e.1, .setPar (.dict h.place rfl) e.2⟩

theorem State.LossTold.facts {s u : State} {n : Nat} (h : s.LossTold u n) :
    u.par Ix.regTmrFatal 0 = cntNext (s.par Ix.regTmrFatal 0) ∧ u.par Ix.regTmrFatalLast 0 = n := ⟨h.count.par, h.place.par⟩

theorem State.Has.setAt {s : State} (t ix sub v : Nat) (w : Dict.wf s.dict) : (s.setAt t ix sub v).Has ix sub v := .written (s.noteChange t _) w

/-- A disabled lane's state record says DISABLED (R79). -/
theorem State.laneStateRecord_off {s : State} {lane t : Nat} (h : s.Has Ix.laneEnable lane 0) :
    (s.laneStateRecord lane t).Has Ix.laneState lane 0 := by
  have code : s.laneCode lane = 0 := if_pos (by unfold State.laneOn; rw [h.par]; rfl)
  unfold State.laneStateRecord
  rw [code]
  exact .same (.written s h.wf) (State.laneRecord_same ..) rfl

/-- A lane that is disabled reads so, whether it ran or not (R79). -/
theorem State.laneDisable_off {s : State} {lane t : Nat} (h : s.Has Ix.laneEnable lane 0) :
    (s.laneDisable lane t).Has Ix.laneState lane 0 := by
  unfold State.laneDisable
  extract_lets s1 s2
  have h2 : s2.Has Ix.laneEnable lane 0 := .setPar (h.same (State.overlapOf_same ..) rfl) (by decide)
  clear_value s2
  split
  · unfold State.laneStop
    extract_lets s3 s4
    have h4 : (s3.laneStateRecord lane t).Has Ix.laneState lane 0 := State.laneStateRecord_off (.dict h2 rfl)
    exact (h4.same (State.store_same ..) rfl).same (State.caiTouch_same ..) rfl
  · exact State.laneStateRecord_off h2

/-- The rows of the triplicated fields whose loss the statement follows. -/
def guardEnableRow : Param := ⟨Ix.guardEnable, 0, 0, 191, .u8, .rwl, (.const 0), 0, 1, 6⟩
def guardSafeLevelRow : Param := ⟨Ix.guardSafeLevel, 0, 0, 191, .u8, .rwd, (.const 2), 0, 2, 6⟩
def laneRoleRow : Param := ⟨Ix.laneRole, 0, 0, 191, .u8, .rwd, (.const 0), 0, 6, 6⟩

theorem guardEnable_at (g : Fin 192) : paramAt Ix.guardEnable g = some guardEnableRow := if_pos (show 0 ≤ g.val ∧ g.val ≤ 191 by omega)
theorem guardSafeLevel_at (g : Fin 192) : paramAt Ix.guardSafeLevel g = some guardSafeLevelRow :=
  if_pos (show 0 ≤ g.val ∧ g.val ≤ 191 by omega)
theorem laneRole_at (g : Fin 192) : paramAt Ix.laneRole g = some laneRoleRow := if_pos (show 0 ≤ g.val ∧ g.val ≤ 191 by omega)

/-- The default of an entry with a constant one (R366). -/
theorem dfltOf_const {ix n : Nat} {p : Param} (hp : paramOf ix = some p) (hd : p.dflt = .const n) (sub : Nat) : dfltOf (key ix sub) = n := by
  unfold dfltOf
  rw [key_div, hp]
  dsimp only
  unfold Param.default
  rw [hd]

theorem State.setField_safeLevel (s : State) (g v : Nat) :
    s.setField guardSafeLevelRow Ix.guardSafeLevel g v = s.setPar Ix.guardSafeLevel g v := rfl

theorem State.setField_guardEnable (s : State) (g v : Nat) : s.setField guardEnableRow Ix.guardEnable g v
    = (s.setAt s.now Ix.guardEnable g v).outEnableEffect .guard g (decide (v ≠ 0)) (decide (s.par Ix.guardEnable g ≠ 0)) := rfl

/-- A lane whose role is lost is OFF and disabled, under a new generation (R76, R292). -/
theorem State.roleLost_off {s : State} {l : Nat} (w : Dict.wf s.dict) :
    (s.roleLost l).Has Ix.laneRole l 0 ∧ (s.roleLost l).Has Ix.laneEnable l 0 ∧ (s.roleLost l).Has Ix.laneState l 0
      ∧ (s.roleLost l).Has Ix.laneRoleGen l ((s.par Ix.laneRoleGen l + 1) % 65536) := by
  unfold State.roleLost
  extract_lets s1 was s2
  have r1 : s1.Has Ix.laneRole l 0 ∧ s1.Has Ix.laneRoleGen l ((s.par Ix.laneRoleGen l + 1) % 65536) := by
    have c : (s.setAt s.now Ix.laneRole l 0).Has Ix.laneRole l 0 := .setAt _ _ _ _ w
    have c2 : ((s.setAt s.now Ix.laneRole l 0).setAt s.now Ix.laneRoleGen l ((s.par Ix.laneRoleGen l + 1) % 65536)).Has Ix.laneRole l 0 :=
      .setPar (.dict c rfl) (by decide)
    exact ⟨.same c2 (State.laneRecord_same ..) rfl,
      .same (.setAt _ _ _ _ c.wf) (State.laneRecord_same ..) rfl⟩
  have r2 : s2.Has Ix.laneRole l 0 ∧ s2.Has Ix.laneRoleGen l ((s.par Ix.laneRoleGen l + 1) % 65536) :=
    ⟨.setPar (.dict r1.1 rfl) (by decide), .setPar (.dict r1.2 rfl) (by decide)⟩
  have e2 : s2.Has Ix.laneEnable l 0 := .setAt _ _ _ _ r1.1.wf
  clear_value s2
  split
  · have f := s2.laneDisable_same l s2.now
    exact ⟨r2.1.same f rfl, e2.same f rfl, State.laneDisable_off e2, r2.2.same f rfl⟩
  · have f := s2.laneStateRecord_same l s2.now
    exact ⟨r2.1.same f rfl, e2.same f rfl, State.laneStateRecord_off e2, r2.2.same f rfl⟩

theorem State.LossTold.roleLost {s u : State} {n : Nat} (h : s.LossTold u n) (l : Nat) : s.LossTold (u.roleLost l) n := by
  unfold State.roleLost
  extract_lets s1 was s2
  have h2 : s.LossTold s2 n := (h.same (State.roleSet_same ..) rfl rfl).setAt _ _ _ _ (by decide)
  clear_value s2
  split
  · exact h2.same (State.laneDisable_same ..) rfl rfl
  · exact h2.same (State.laneStateRecord_same ..) rfl rfl

/-- Settles O43: what three copies give, by how many of them agree. -/
theorem tripleVotes : Obligations.TripleVotes := by
  intro s t ix sub c0 c1 c2 p g l inv
  obtain ⟨-, w, -⟩ := inv
  intro differ m two field corrected fatal
  let s1 := s.enter t
  have w1 : Dict.wf s1.dict := w
  have loss : ∀ ix sub, s1.LossTold ((s1.cnt Ix.regTmrFatal 0).setPar Ix.regTmrFatalLast 0 (ix * 256 + sub)) (ix * 256 + sub) :=
    fun ix sub => .start _ w1
  refine ⟨fun ⟨h1, h2, h3⟩ e1 e2 hs => ?_, fun ⟨h1, h2, h3⟩ ht hs => ?_, fun hr ht => ?_, fun ⟨hr, hd⟩ => ?_, fun ⟨hr, hd⟩ => ?_,
    fun ⟨hr, hd⟩ => ?_⟩
  · refine ⟨_, State.tmrScrub_votes t c0 c1 c2 h1 h2 h3, ?_⟩
    rw [State.vote_all (s := s.enter t) p ix sub e1 e2 hs]
    rfl
  · have e := State.tmrScrub_votes t c0 c1 c2 h1 h2 h3
    rw [State.vote_two p ix sub ht, if_pos (show (s.enter t).par ix sub = majority c0 c1 c2 from hs)] at e
    refine ⟨_, e, State.corrected_counts _ (.start w), fun k1 k2 => ?_⟩
    have h : (s.enter t).Has ix sub m := ⟨w, hs⟩
    exact State.Has.par (.setPar_key (.setPar_key h k1) k2)
  · have e := State.tmrScrub_votes t c0 c1 c2 (guardSafeLevel_at g) rfl (.inr hr)
    rw [State.vote_two _ _ _ ht] at e
    generalize hx : (if (s.enter t).par Ix.guardSafeLevel g = majority c0 c1 c2 then s.enter t
      else (s.enter t).setField guardSafeLevelRow Ix.guardSafeLevel g (majority c0 c1 c2)) = x at e
    have level : x.Has Ix.guardSafeLevel g m := by
      by_cases h : (s.enter t).par Ix.guardSafeLevel g = majority c0 c1 c2
      · rw [if_pos h] at hx
        exact hx ▸ ⟨w, h⟩
      · rw [if_neg h, State.setField_safeLevel] at hx
        exact hx ▸ .written _ w
    have count : x.Has Ix.regTmrCorrected 0 (s.par Ix.regTmrCorrected 0) :=
      hx ▸ .ite (.start (s := s.enter t) w) (.setPar (.start (s := s.enter t) w) (by decide))
    exact ⟨_, e, State.corrected_counts _ count, State.Has.par (.setPar (.setPar level (by decide)) (by decide))⟩
  · have e := State.tmrScrub_votes t c0 c1 c2 (guardEnable_at g) rfl (.inr hr)
    rw [State.vote_differ _ _ _ hd] at e
    have lost : (s.enter t).fieldLost guardEnableRow Ix.guardEnable g = ((s1.cnt Ix.regTmrFatal 0).setPar Ix.regTmrFatalLast 0
        (Ix.guardEnable * 256 + g)).setField guardEnableRow Ix.guardEnable g 0 :=
      congrArg (State.setField _ guardEnableRow Ix.guardEnable g) (dfltOf_const (p := guardEnableRow) rfl rfl g)
    have told := loss Ix.guardEnable g
    rw [lost, State.setField_guardEnable] at e
    exact ⟨_, e, ((told.setAt _ Ix.guardEnable g 0 (by decide)).same (State.outEnableEffect_same ..) rfl rfl).facts,
      State.Has.par (.same (.setAt _ _ _ _ told.count.wf) (State.outEnableEffect_same ..) rfl)⟩
  · have e := State.tmrScrub_votes t c0 c1 c2 (guardSafeLevel_at g) rfl (.inr hr)
    rw [State.vote_differ _ _ _ hd] at e
    have lost : (s.enter t).fieldLost guardSafeLevelRow Ix.guardSafeLevel g = ((s1.cnt Ix.regTmrFatal 0).setPar Ix.regTmrFatalLast 0
        (Ix.guardSafeLevel * 256 + g)).setField guardSafeLevelRow Ix.guardSafeLevel g 2 :=
      congrArg (State.setField _ guardSafeLevelRow Ix.guardSafeLevel g) (dfltOf_const (p := guardSafeLevelRow) rfl rfl g)
    obtain ⟨c1, c2⟩ := loss Ix.guardSafeLevel g
    rw [lost, State.setField_safeLevel] at e
    exact ⟨_, e, ⟨State.Has.par (.setPar c1 (by decide)), State.Has.par (.setPar c2 (by decide))⟩, par_setPar_self _ _ _ _ c1.wf⟩
  · have e := State.tmrScrub_votes t c0 c1 c2 (laneRole_at l) rfl (.inr hr)
    rw [State.vote_differ _ _ _ hd] at e
    have gen : ((s1.cnt Ix.regTmrFatal 0).setPar Ix.regTmrFatalLast 0 (Ix.laneRole * 256 + l)).Has Ix.laneRoleGen l (s.par Ix.laneRoleGen l) :=
      .setPar (.cnt (.start w1) (by decide)) (by decide)
    obtain ⟨r1, r2, r3, r4⟩ := State.roleLost_off (l := l) gen.wf
    rw [gen.par] at r4
    exact ⟨_, e, ((loss Ix.laneRole l).roleLost l).facts, r1.par, r2.par, r3.par, r4.par⟩

end Sys2Proof.Machine
end
section
/-! SUPPORT. The code of a codeword (R281): what the encoder makes has no syndrome. -/
namespace Sys2Proof.Machine

/-- Doubling shifts, and takes the polynomial out where the top bit leaves. -/
theorem gfDouble_eq {a : Nat} (h : a < 256) : gfDouble a = 2 * a ^^^ (if a.testBit 7 then 0x11D else 0) := by
  have top : a.testBit 7 = decide (128 ≤ a) := by
    rw [Nat.testBit_eq_decide_div_mod_eq]
    congr 1
    rw [eq_iff_iff]
    omega
  unfold gfDouble
  rw [top]
  by_cases h1 : a < 128
  · rw [if_pos h1, if_neg (by rw [decide_eq_true_eq]; omega), Nat.xor_zero]
  · rw [if_neg h1, if_pos (by rw [decide_eq_true_eq]; omega)]

theorem gfDouble_lt {a : Nat} (h : a < 256) : gfDouble a < 256 := by
  have : ∀ x : Fin 256, gfDouble x < 256 := by decide +kernel
  exact this ⟨a, h⟩

theorem xor_left_comm (a b c : Nat) : a ^^^ (b ^^^ c) = b ^^^ (a ^^^ c) := by
  rw [← Nat.xor_assoc, Nat.xor_comm a b, Nat.xor_assoc]

theorem gfDouble_xor {a b : Nat} (ha : a < 256) (hb : b < 256) : gfDouble (a ^^^ b) = gfDouble a ^^^ gfDouble b := by
  have shift : 2 * (a ^^^ b) = 2 * a ^^^ 2 * b := by
    have twice : ∀ n, 2 * n = n <<< 1 := fun n => by rw [Nat.shiftLeft_eq, Nat.mul_comm, Nat.pow_one]
    rw [twice, twice, twice, Nat.shiftLeft_xor_distrib]
  rw [gfDouble_eq ha, gfDouble_eq hb, gfDouble_eq (Nat.xor_lt_two_pow (n := 8) ha hb), Nat.testBit_xor, shift]
  cases a.testBit 7 <;> cases b.testBit 7 <;> simp [Nat.xor_assoc, Nat.xor_comm, xor_left_comm]

/-- Times α^i of a byte: the evaluation point of a syndrome. -/
def gfShift : Nat → Nat → Nat
  | 0, a => a
  | i + 1, a => gfShift i (gfDouble a)

theorem gfShift_lt (i : Nat) {a : Nat} (h : a < 256) : gfShift i a < 256 := by
  induction i generalizing a with
  | zero => exact h
  | succ i ih => exact ih (gfDouble_lt h)

theorem gfShift_xor (i : Nat) {a b : Nat} (ha : a < 256) (hb : b < 256) : gfShift i (a ^^^ b) = gfShift i a ^^^ gfShift i b := by
  induction i generalizing a b with
  | zero => rfl
  | succ i ih =>
    show gfShift i (gfDouble (a ^^^ b)) = _
    rw [gfDouble_xor ha hb, ih (gfDouble_lt ha) (gfDouble_lt hb)]
    rfl

theorem gfMul_pow : ∀ (i : Fin 4) (a : Fin 256), gfMul a (gfPow i) = gfShift i a := by decide +kernel

theorem gfMul_lt : ∀ (a : Fin 256) (c : Fin 4), gfMul a ([0x0F, 0x36, 0x78, 0x40].getD c 0) < 256 := by decide +kernel

/-- α^0 to α^3 are roots of the generator (R281). -/
theorem generator_roots : ∀ (i : Fin 4) (f : Fin 256), gfShift i (gfShift i (gfShift i (gfShift i f)))
    = gfShift i (gfShift i (gfShift i (gfMul f 0x0F))) ^^^ gfShift i (gfShift i (gfMul f 0x36)) ^^^ gfShift i (gfMul f 0x78)
      ^^^ gfMul f 0x40 := by decide +kernel

/-- The value at α^i of the data read so far, and the remainder that the encoder keeps: they agree, four places up. -/
structure RootKept (i e : Nat) (r : Nat × Nat × Nat × Nat) : Prop where
  data : e < 256
  b0 : r.1 < 256
  b1 : r.2.1 < 256
  b2 : r.2.2.1 < 256
  b3 : r.2.2.2 < 256
  agree : gfShift i (gfShift i (gfShift i (gfShift i e)))
    = gfShift i (gfShift i (gfShift i r.1)) ^^^ gfShift i (gfShift i r.2.1) ^^^ gfShift i r.2.2.1 ^^^ r.2.2.2

theorem RootKept.step {e d : Nat} {r : Nat × Nat × Nat × Nat} {i : Fin 4} (h : RootKept i e r) (hd : d < 256) :
    RootKept i (gfMul e (gfPow i) ^^^ d) (rsStep r d) := by
  obtain ⟨he, h0, h1, h2, h3, agree⟩ := h
  obtain ⟨r0, r1, r2, r3⟩ := r
  dsimp only at h0 h1 h2 h3 agree
  have byte : ∀ {x y : Nat}, x < 256 → y < 256 → x ^^^ y < 256 := fun hx hy => Nat.xor_lt_two_pow (n := 8) hx hy
  have up : ∀ {x}, x < 256 → gfShift i x < 256 := fun hx => gfShift_lt i hx
  have hf : r0 ^^^ d < 256 := byte h0 hd
  have g : ∀ c : Fin 4, gfMul (r0 ^^^ d) ([0x0F, 0x36, 0x78, 0x40].getD c 0) < 256 := gfMul_lt ⟨_, hf⟩
  have g0 : gfMul (r0 ^^^ d) 0x0F < 256 := g 0
  have g1 : gfMul (r0 ^^^ d) 0x36 < 256 := g 1
  have g2 : gfMul (r0 ^^^ d) 0x78 < 256 := g 2
  have g3 : gfMul (r0 ^^^ d) 0x40 < 256 := g 3
  have root := generator_roots i ⟨_, hf⟩
  have e' : gfMul e (gfPow i) = gfShift i e := gfMul_pow i ⟨e, he⟩
  dsimp only at root
  rw [e']
  refine ⟨byte (up he) hd, byte h1 g0, byte h2 g1, byte h3 g2, g3, ?_⟩
  show gfShift i (gfShift i (gfShift i (gfShift i (gfShift i e ^^^ d)))) = gfShift i (gfShift i (gfShift i (r1 ^^^ gfMul (r0 ^^^ d) 0x0F)))
    ^^^ gfShift i (gfShift i (r2 ^^^ gfMul (r0 ^^^ d) 0x36)) ^^^ gfShift i (r3 ^^^ gfMul (r0 ^^^ d) 0x78) ^^^ gfMul (r0 ^^^ d) 0x40
  have far : gfShift i (gfShift i (gfShift i (gfShift i (gfShift i e ^^^ d)))) = gfShift i (gfShift i (gfShift i (gfShift i (r0 ^^^ d))))
      ^^^ (gfShift i (gfShift i (gfShift i r1)) ^^^ gfShift i (gfShift i r2) ^^^ gfShift i r3) := by
    have lin : ∀ {x y : Nat}, x < 256 → y < 256 → gfShift i (gfShift i (gfShift i (gfShift i (x ^^^ y))))
        = gfShift i (gfShift i (gfShift i (gfShift i x))) ^^^ gfShift i (gfShift i (gfShift i (gfShift i y))) := by
      intro x y hx hy
      rw [gfShift_xor i hx hy, gfShift_xor i (up hx) (up hy), gfShift_xor i (up (up hx)) (up (up hy)),
        gfShift_xor i (up (up (up hx))) (up (up (up hy)))]
    rw [lin (up he) hd, lin h0 hd, agree, gfShift_xor i (byte (byte (up (up (up h0))) (up (up h1))) (up h2)) h3,
      gfShift_xor i (byte (up (up (up h0))) (up (up h1))) (up h2), gfShift_xor i (up (up (up h0))) (up (up h1))]
    simp only [Nat.xor_assoc, Nat.xor_comm, xor_left_comm]
  rw [far, root, gfShift_xor i h1 g0, gfShift_xor i (up h1) (up g0), gfShift_xor i (up (up h1)) (up (up g0)), gfShift_xor i h2 g1,
    gfShift_xor i (up h2) (up g1), gfShift_xor i h3 g2]
  simp only [Nat.xor_assoc, Nat.xor_comm, xor_left_comm]

theorem RootKept.all {i : Fin 4} (data : List Nat) : ∀ {e : Nat} {r : Nat × Nat × Nat × Nat}, RootKept i e r → (∀ d ∈ data, d < 256) →
    RootKept i (data.foldl (fun acc s => gfMul acc (gfPow i) ^^^ s) e) (data.foldl rsStep r) := by
  induction data with
  | nil => exact fun h _ => h
  | cons d data ih =>
    exact fun h hd => ih (h.step (hd d List.mem_cons_self)) (fun x hx => hd x (List.mem_cons_of_mem _ hx))

/-- What the encoder makes of data has no syndrome (R281). -/
theorem rsSyndrome_encoded (data : List Nat) (hd : ∀ d ∈ data, d < 256) (i : Fin 4) : rsSyndrome (data ++ rsCheck data) i = 0 := by
  have start : RootKept i 0 (0, 0, 0, 0) := by
    refine ⟨by decide, by decide, by decide, by decide, by decide, ?_⟩
    revert i
    decide
  obtain ⟨he, h0, h1, h2, h3, agree⟩ := RootKept.all data start hd
  have byte : ∀ {x y : Nat}, x < 256 → y < 256 → x ^^^ y < 256 := fun hx hy => Nat.xor_lt_two_pow (n := 8) hx hy
  have up : ∀ {x}, x < 256 → gfShift i x < 256 := fun hx => gfShift_lt i hx
  have mul : ∀ {x}, x < 256 → gfMul x (gfPow i) = gfShift i x := fun hx => gfMul_pow i ⟨_, hx⟩
  unfold rsSyndrome rsCheck
  rw [List.foldl_append]
  generalize data.foldl (fun acc s => gfMul acc (gfPow i) ^^^ s) 0 = e at *
  generalize data.foldl rsStep (0, 0, 0, 0) = r at *
  dsimp only [List.foldl_cons, List.foldl_nil]
  have e1 := byte (up he) h0
  have e2 := byte (up e1) h1
  have e3 := byte (up e2) h2
  rw [mul he, mul e1, mul e2, mul e3, gfShift_xor i (up e2) h2, gfShift_xor i (up e1) h1, gfShift_xor i (up he) h0,
    gfShift_xor i (up (byte (up (up he)) (up h0))) (up h1), gfShift_xor i (up (up he)) (up h0),
    gfShift_xor i (up (up (up he))) (up (up h0)), agree]
  simp only [Nat.xor_comm, xor_left_comm, Nat.xor_self, Nat.xor_zero]

/-- A codeword with no error reads as stored, with nothing to correct (R283). -/
theorem rsDecode_encoded (data : List Nat) (hd : ∀ d ∈ data, d < 256) :
    rsDecode (data ++ rsCheck data) = some (data ++ rsCheck data, []) := by
  have syn := rsSyndrome_encoded data hd
  exact if_pos ⟨syn 0, syn 1, syn 2, syn 3⟩

/-- A pattern without an error corrects nothing. -/
theorem readCodeword_clean (bytes : List Byte) (hl : bytes.length ≤ 16) : (readCodeword bytes (List.replicate 20 0)).fixed = some [] := by
  have data : ∀ d ∈ bytes.map BitVec.toNat, d < 256 := by
    intro d hd
    obtain ⟨b, -, rfl⟩ := List.mem_map.mp hd
    exact b.isLt
  have code : ((bytes.map BitVec.toNat) ++ rsCheck (bytes.map BitVec.toNat)).zipWith (fun a b => a ^^^ b)
      ((List.replicate 20 (0 : Byte) ++ List.replicate 20 0).map BitVec.toNat) = bytes.map BitVec.toNat ++ rsCheck (bytes.map BitVec.toNat) := by
    have short : (bytes.map BitVec.toNat ++ rsCheck (bytes.map BitVec.toNat)).length ≤ 40 := by
      rw [List.length_append, List.length_map]
      show _ + 4 ≤ 40
      omega
    generalize bytes.map BitVec.toNat ++ rsCheck (bytes.map BitVec.toNat) = l at *
    rw [List.replicate_append_replicate, List.map_replicate]
    refine List.ext_getElem ?_ (fun n h1 h2 => ?_)
    · rw [List.length_zipWith, List.length_replicate]
      omega
    · rw [List.getElem_zipWith, List.getElem_replicate]
      exact Nat.xor_zero _
  unfold readCodeword
  dsimp only
  rw [code, rsDecode_encoded _ data]

end Sys2Proof.Machine
end
section
/-! SUPPORT. Refresh and scrub slots (R279, R283, R286 to R289). -/
namespace Sys2Proof.Machine

/-! ### The timing overrides (R286) -/

/-- A table made of what is not zero, in rising order, reads as what it was made of. -/
theorem tget_filterMap_nonzero (f : Nat → Nat) (l : List Nat) (hl : l.Pairwise (· < ·)) (i : Nat) :
    tget 0 (l.filterMap (fun j => if f j = 0 then none else some (j, f j))) i = if i ∈ l then f i else 0 := by
  induction l with
  | nil => rfl
  | cons j l ih =>
    obtain ⟨hj, hl⟩ := List.pairwise_cons.mp hl
    have above : ¬ j < i → i ∉ l := fun h hi => h (hj i hi)
    have rest := ih hl
    by_cases h0 : f j = 0
    · have e : List.filterMap (fun j => if f j = 0 then none else some (j, f j)) (j :: l) = l.filterMap (fun j => if f j = 0 then none else some (j, f j)) :=
        List.filterMap_cons_none (if_pos h0)
      rw [e, rest]
      by_cases hi : i = j
      · rw [if_neg (above (by omega)), if_pos (by rw [hi]; exact List.mem_cons_self), hi, h0]
      · simp only [List.mem_cons, hi, false_or]
    · have e : List.filterMap (fun j => if f j = 0 then none else some (j, f j)) (j :: l)
          = (j, f j) :: l.filterMap (fun j => if f j = 0 then none else some (j, f j)) := List.filterMap_cons_some (if_neg h0)
      rw [e, tget, tfind]
      by_cases hi : j = i
      · rw [if_pos hi, if_pos (by rw [hi]; exact List.mem_cons_self), hi]
        rfl
      · rw [if_neg hi]
        by_cases hlt : i < j
        · rw [if_pos hlt, if_neg (by rw [List.mem_cons, not_or]; exact ⟨by omega, above (by omega)⟩)]
          rfl
        · rw [if_neg hlt]
          exact rest.trans (by simp only [List.mem_cons, show i ≠ j from fun h => hi h.symm, false_or])

/-! ### One codeword that a slot finds struck -/

theorem rsDecode_positions {code c : List Nat} {ks : List Nat} (h : rsDecode code = some (c, ks)) : ∀ k ∈ ks, k < 20 := by
  unfold rsDecode at h
  dsimp only at h
  split at h
  · obtain ⟨-, rfl⟩ := Prod.mk.inj (Option.some.inj h)
    exact fun k hk => absurd hk List.not_mem_nil
  · split at h
    · split at h
      next k hk =>
        split at h
        · obtain ⟨-, rfl⟩ := Prod.mk.inj (Option.some.inj h)
          intro j hj
          rw [List.mem_singleton.mp hj]
          exact List.mem_range.mp (List.mem_of_find?_eq_some hk)
        · exact absurd h (by simp)
      next => exact absurd h (by simp)
    · split at h
      next j k hr =>
        obtain ⟨-, rfl⟩ := Prod.mk.inj (Option.some.inj h)
        intro i hi
        exact List.mem_range.mp (List.mem_filter.mp (hr ▸ hi)).1
      next => exact absurd h (by simp)

theorem readCodeword_positions {data err : List Byte} {ks : List Nat} (h : (readCodeword data err).fixed = some ks) : ∀ k ∈ ks, k < 20 := by
  unfold readCodeword at h
  dsimp only at h
  split at h
  next r hr => exact rsDecode_positions (c := r.1) (ks := ks) (hr.trans (by rw [← Option.some.inj h]))
  next => exact absurd h (by simp)

theorem State.devicePos_lt (s : State) (a : Nat) {k : Nat} (h : k < 20) : s.devicePos a k < 256 := by
  have two : ∀ n hi lo, fld n hi lo < 2 ^ (hi - lo + 1) := fun n hi lo => Nat.mod_lt _ (Nat.two_pow_pos _)
  have f1 : fld a 7 6 < 4 := two a 7 6
  have f2 : fld a 6 6 < 2 := two a 6 6
  unfold State.devicePos symbolDevice
  dsimp only
  split <;> split <;> omega

theorem nodup_eraseDups (l : List Nat) : l.eraseDups.Nodup := by
  induction h : l.length using Nat.strongRecOn generalizing l with
  | _ n ih =>
    cases l with
    | nil => exact List.nodup_nil
    | cons a l =>
      rw [List.eraseDups_cons]
      have short : (l.filter (fun b => !b == a)).length < n := by
        have := List.length_filter_le (fun b => !b == a) l
        rw [List.length_cons] at h
        omega
      refine List.nodup_cons.mpr ⟨fun ha => ?_, ih _ short _ rfl⟩
      have := (List.mem_filter.mp (List.mem_eraseDups.mp ha)).2
      rw [beq_self_eq_true] at this
      exact absurd this (by decide)

/-- A corrected codeword is counted in all, at each device once, and named (R283). -/
theorem State.dramFixed_counts {s : State} {a k : Nat} {ks : List Nat} (w : Dict.wf s.dict) (hk : ∀ j ∈ k :: ks, j < 20) :
    (s.dramFixed a (k :: ks)).Has Ix.memCeTotal 0 ((s.par Ix.memCeTotal 0 + 1) % 2 ^ 64)
      ∧ (s.dramFixed a (k :: ks)).Has Ix.memLastCeAddr 0 a
      ∧ (s.dramFixed a (k :: ks)).Has Ix.memCeDevice (s.devicePos a k) (cntNext (s.par Ix.memCeDevice (s.devicePos a k))) := by
  unfold State.dramFixed
  extract_lets ps s1 bits
  have small : ∀ q ∈ ps, q < 256 := by
    intro q hq
    obtain ⟨j, hj, rfl⟩ := List.mem_map.mp (List.mem_eraseDups.mp hq)
    exact s.devicePos_lt a (hk j hj)
  have first : s.devicePos a k ∈ ps := List.mem_eraseDups.mpr (List.mem_map_of_mem List.mem_cons_self)
  have total : s1.Has Ix.memCeTotal 0 ((s.par Ix.memCeTotal 0 + 1) % 2 ^ 64) :=
    foldl_keeps (I := fun u : State => u.Has Ix.memCeTotal 0 _) (fun u q h => h.cnt (by decide)) ps _ (.cntW (.start w) 1)
  have device : s1.Has Ix.memCeDevice (s.devicePos a k) (cntNext (s.par Ix.memCeDevice (s.devicePos a k))) := by
    have apart : ∀ q ∈ ps, q ≠ s.devicePos a k → key Ix.memCeDevice (s.devicePos a k) ≠ key Ix.memCeDevice q := fun q hq e h =>
      e (key_sub (small _ first) (small q hq) h).symm
    exact foldl_at (q := s.devicePos a k) (R := fun u : State => u.Has Ix.memCeDevice (s.devicePos a k) (s.par Ix.memCeDevice (s.devicePos a k)))
      (Q := fun u : State => u.Has Ix.memCeDevice (s.devicePos a k) _) ps (fun u q hq e h => h.cnt_sub (apart q hq e) (by decide))
      (fun u h => h.counted (by decide)) (fun u q hq e h => h.cnt_sub (apart q hq e) (by decide)) (nodup_eraseDups _) first _
      (.setPar (.start w) (by decide))
  exact ⟨.setPar (.setPar total (by decide)) (by decide), .setPar (.written _ total.wf) (by decide),
    .setPar (.setPar device (by decide)) (by decide)⟩

/-- An uncorrectable codeword is counted and named (R289). -/
theorem State.dramBad_counts {s : State} (a code stream : Nat) (w : Dict.wf s.dict) :
    (s.dramBad a code stream).Has Ix.memUeTotal 0 ((s.par Ix.memUeTotal 0 + 1) % 2 ^ 64) ∧ (s.dramBad a code stream).Has Ix.memLastUeAddr 0 a
      ∧ (s.dramBad a code stream).Has Ix.memLastUeInfo 0 (code * 2 ^ 24 + stream) := by
  have c : (s.cntW Ix.memUeTotal 0 1).Has Ix.memUeTotal 0 ((s.par Ix.memUeTotal 0 + 1) % 2 ^ 64) := .cntW (.start w) 1
  have d : ((s.cntW Ix.memUeTotal 0 1).setPar Ix.memLastUeAddr 0 a).Has Ix.memLastUeAddr 0 a := .written _ c.wf
  exact ⟨.setPar (.setPar c (by decide)) (by decide), .setPar d (by decide), .written _ d.wf⟩

/-- A codeword that holds no error yet takes the pattern that strikes it. -/
theorem strikeOne_first {a : Nat} {e : CodeErr} (he : e.addr = a) (ha : a % 16 = 0) {bytes : List Byte} (hl : bytes.length ≤ 16)
    (hf : (readCodeword bytes (pattern20 e.err)).fixed ≠ some []) : strikeOne [] e = [(a, pattern20 e.err)] := by
  have len : (pattern20 e.err).length = 20 := by
    unfold pattern20
    rw [List.length_take, List.length_append, List.length_replicate]
    omega
  have clean : (pattern20 (tget [] ([] : Tbl (List Byte)) a)).zipWith (fun x y => x ^^^ y) (pattern20 e.err) = pattern20 e.err := by
    show (List.replicate 20 (0 : Byte)).zipWith (fun x y => x ^^^ y) (pattern20 e.err) = _
    generalize pattern20 e.err = p at *
    refine List.ext_getElem ?_ (fun n h1 h2 => ?_)
    · rw [List.length_zipWith, List.length_replicate]
      omega
    · rw [List.getElem_zipWith, List.getElem_replicate]
      exact BitVec.zero_xor
  have struck : ¬ (pattern20 e.err).all (fun b => decide (b = 0)) = true := by
    intro h
    refine hf ?_
    rw [List.eq_replicate_iff.mpr ⟨len, fun b hb => of_decide_eq_true (List.all_eq_true.mp h b hb)⟩]
    exact readCodeword_clean bytes hl
  have at_a : e.addr / 16 * 16 = a := by omega
  unfold strikeOne
  rw [at_a]
  dsimp only
  rw [clean, if_neg struck]
  rfl

/-- A read of one DRAM codeword. -/
theorem State.countRead_dram {s : State} {a : Nat} {r : CwRead} (ha : 0x1000000000 ≤ a) :
    s.countRead 10 0xFF (a, r) = match r.fixed with
      | some [] => s
      | some (k :: ks) => s.dramFixed a (k :: ks)
      | none => s.dramBad a 10 0xFF := by
  have outside : inSram a (a + 1) = false := by
    unfold inSram sramBase
    rw [Bool.and_eq_false_iff]
    exact .inr (decide_eq_false (by omega))
  unfold State.countRead State.cwFixed State.cwBad
  dsimp only
  rw [outside]
  cases r.fixed with
  | none => rfl
  | some l => cases l <;> rfl

/-- The marks of a pass stand apart from what the slot reads and counts (R288). -/
theorem State.passSymbols_keep (s : State) (a : Nat) (ks : List Nat) :
    (ks.foldl (State.passSymbol a) s).dict = s.dict ∧ (ks.foldl (State.passSymbol a) s).dram.bad = s.dram.bad
      ∧ (ks.foldl (State.passSymbol a) s).dram.scrubAt = s.dram.scrubAt :=
  foldl_keeps (f := State.passSymbol a) (I := fun u : State => u.dict = s.dict ∧ u.dram.bad = s.dram.bad ∧ u.dram.scrubAt = s.dram.scrubAt) (fun _ _ h => h) ks s
    ⟨rfl, rfl, rfl⟩

/-- A slot of one codeword inside the DRAM that it finds struck: the read is counted, the scrubber goes on, and a codeword it has
corrected stands healed (R287, R289). -/
theorem State.scrubOne_struck {s x : State} {a : Nat} {p : List Byte} {r : CwRead} (ha : dramBase + s.dram.scrubAt = a)
    (hr : readCodeword (memBytes s.mem a 16) p = r) (hb : s.dram.bad = [(a, p)]) (hi : s.dram.scrubAt + 16 < s.par Ix.memSize 0 * 65536)
    (hx : s.countRead 10 0xFF (a, r) = x) (size : x.par Ix.memSize 0 = s.par Ix.memSize 0) (dram : x.dram = s.dram) :
    s.scrubOne.dict = x.dict ∧ s.scrubOne.dram.scrubAt = s.dram.scrubAt + 16
      ∧ s.scrubOne.dram.bad = if r.fixed.isSome ∧ r.bytes = memBytes s.mem a 16 then [] else [(a, p)] := by
  have reads : s.badReads a 16 = [(a, r)] := by
    unfold State.badReads
    rw [hb, List.filter_cons_of_pos (by simp)]
    exact congrArg (fun c => [(a, c)]) hr
  obtain ⟨k1, k2, k3⟩ := x.passSymbols_keep a (r.fixed.getD [])
  generalize hv : (if r.fixed.isSome ∧ r.bytes = memBytes s.mem a 16 then
    { ((r.fixed.getD []).foldl (State.passSymbol a) x) with
      dram := { ((r.fixed.getD []).foldl (State.passSymbol a) x).dram with
        bad := terase ((r.fixed.getD []).foldl (State.passSymbol a) x).dram.bad a } }
    else (r.fixed.getD []).foldl (State.passSymbol a) x) = v
  have vf : v.dict = x.dict ∧ v.dram.scrubAt = s.dram.scrubAt
      ∧ v.dram.bad = if r.fixed.isSome ∧ r.bytes = memBytes s.mem a 16 then [] else [(a, p)] := by
    rw [← hv]
    split
    · refine ⟨k1, k3.trans (congrArg DramSt.scrubAt dram), ?_⟩
      show terase _ a = []
      rw [k2, dram, hb]
      exact if_pos rfl
    · exact ⟨k1, k3.trans (congrArg DramSt.scrubAt dram), k2.trans ((congrArg DramSt.bad dram).trans hb)⟩
  obtain ⟨v1, v2, v3⟩ := vf
  have inside : v.dram.scrubAt + 16 < v.dramBytes := by
    have : v.par Ix.memSize 0 = s.par Ix.memSize 0 := by
      rw [← size, State.par, State.par, State.val, State.val, v1]
    rw [v2, State.dramBytes, this]
    exact hi
  have e : s.scrubOne = { v with dram := { v.dram with scrubAt := v.dram.scrubAt + 16 } } := by
    unfold State.scrubOne
    dsimp only
    rw [ha, reads, List.foldl_cons, List.foldl_nil]
    dsimp only
    rw [hx, hv]
    exact if_pos inside
  rw [e]
  exact ⟨v1, congrArg (· + 16) v2, v3⟩

/-- A slot that finds no error goes on by a codeword (R287). -/
theorem State.scrubOne_clean {s : State} (hb : s.dram.bad = []) (hi : s.dram.scrubAt + 16 < s.par Ix.memSize 0 * 65536) :
    s.scrubOne = { s with dram := { s.dram with scrubAt := s.dram.scrubAt + 16 } } := by
  unfold State.scrubOne
  dsimp only
  rw [State.badReads_clean hb, List.foldl_nil]
  exact if_pos hi

/-- At the end of the DRAM a pass ends and the next begins (R287, R288). -/
theorem State.scrubOne_ends {s : State} (hb : s.dram.bad = []) (hi : s.par Ix.memSize 0 * 65536 ≤ s.dram.scrubAt + 16) (w : Dict.wf s.dict) :
    s.scrubOne.dram.scrubAt = 0 ∧ s.scrubOne.dram.passStart = s.now
      ∧ s.scrubOne.Has Ix.memScrubPasses 0 ((s.par Ix.memScrubPasses 0 + 1) % 2 ^ 64)
      ∧ s.scrubOne.Has Ix.memScrubPassTime 0 ((s.now - s.dram.passStart) / 256000000) := by
  have marks := s.markSuspects_same
  have count : (s.markSuspects.cntW Ix.memScrubPasses 0 1).Has Ix.memScrubPasses 0 ((s.par Ix.memScrubPasses 0 + 1) % 2 ^ 64) :=
    .cntW (.via marks rfl (.start w)) 1
  have e : s.scrubOne = (let s2 := (s.markSuspects.cntW Ix.memScrubPasses 0 1).setPar Ix.memScrubPassTime 0 ((s.now - s.dram.passStart) / 256000000)
      { s2 with dram := { s2.dram with scrubAt := 0, passStart := s2.now, passSymbols := [] } }) := by
    unfold State.scrubOne
    dsimp only
    rw [State.badReads_clean hb, List.foldl_nil]
    exact if_neg (Nat.not_lt.mpr hi)
  have now : s.markSuspects.now = s.now := marks.now rfl
  rw [e]
  generalize s.markSuspects = m at *
  exact ⟨rfl, now, .dict (count.setPar (by decide)) rfl, .dict (.written _ count.wf) rfl⟩

/-- Settles O42: a refresh slot, and a scrub slot by what it finds. -/
theorem refreshAndScrub : Obligations.RefreshAndScrub := by
  intro s t hot i e k ks inv
  obtain ⟨-, w, -⟩ := inv
  intro s1 a r runs inside
  have w1 : Dict.wf s1.dict := w
  have slot : ∀ errs, runs → exec (.scrubSlot t 1 errs) s
      = .next ((s1.strike errs).scrubOne.setPar Ix.memScrubPos 0 ((s1.strike errs).scrubOne.dram.scrubAt / 65536)) := by
    rintro errs ⟨h1, h2, -⟩
    exact if_pos (Bool.and_eq_true_iff.mpr ⟨h1, decide_eq_true h2⟩)
  have struck : runs → e.addr = a → r.fixed ≠ some [] → (s1.strike [e]).dram.bad = [(a, pattern20 e.err)] := by
    rintro ⟨-, -, hb, h16⟩ he hf
    have first := strikeOne_first he (by omega) (bytes := memBytes s.mem a 16) (by simp [memBytes]) hf
    show [e].foldl strikeOne s.dram.bad = _
    rw [hb]
    exact first
  have base : 0x1000000000 ≤ a := Nat.le_add_right ..
  refine ⟨fun h => ?_, fun h => ?_, fun h hi => ?_, fun h he hf => ?_, fun h he hf => ?_⟩
  · let ovr := (List.range 16).filterMap (fun j => if s1.par Ix.memTimingOvr j = 0 then none else some (j, s1.par Ix.memTimingOvr j))
    have ex : exec (.refreshSlot t hot) s = .next (({ s1 with dram := { s1.dram with timing := ovr } } : State).setPar Ix.memDramHot 0 (b2n hot)) :=
      if_pos h
    refine ⟨_, ex, par_setPar_self _ _ _ _ w1, ?_⟩
    exact (tget_filterMap_nonzero (fun j => s1.par Ix.memTimingOvr j) _ List.pairwise_lt_range i).trans (if_pos (List.mem_range.mpr i.isLt))
  · obtain ⟨hr, hi⟩ := h
    have c := State.scrubOne_clean (s := s1.strike []) hr.2.2.1 hi
    have ex := slot [] hr
    rw [c] at ex
    exact ⟨_, ex, rfl, par_setPar_self _ _ _ _ w1, State.Has.par (.setPar (.dict (.start w1) rfl) (by decide))⟩
  · obtain ⟨c1, c2, c3, c4⟩ := State.scrubOne_ends (s := s1.strike []) h.2.2.1 hi w1
    exact ⟨_, slot [] h, c1, c2, State.Has.par (.setPar c3 (by decide)), State.Has.par (.setPar c4 (by decide))⟩
  · obtain ⟨hr, hi⟩ := h
    have bad := struck hr he (by rw [hf]; simp)
    have read : (s1.strike [e]).countRead 10 0xFF (a, r) = (s1.strike [e]).dramFixed a (k :: ks) := by
      rw [State.countRead_dram base, hf]
    have fixes := (s1.strike [e]).dramFixed_same a (k :: ks)
    obtain ⟨c1, c2, c3⟩ := State.dramFixed_counts (s := s1.strike [e]) (a := a) w1 (readCodeword_positions hf)
    obtain ⟨d1, -, d3⟩ := State.scrubOne_struck (s := s1.strike [e]) (a := a) (r := r) rfl rfl bad hi read (fixes.pars w1 _ _ rfl) (fixes.dram rfl)
    refine ⟨_, slot [e] hr, State.Has.par (.setPar (.dict c1 d1) (by decide)), State.Has.par (.setPar (.dict c2 d1) (by decide)),
      State.Has.par (.setPar (.dict c3 d1) (by decide)), fun hb => ?_⟩
    exact d3.trans (if_pos ⟨by rw [hf]; rfl, hb⟩)
  · obtain ⟨hr, hi⟩ := h
    have bad := struck hr he (by rw [hf]; simp)
    have read : (s1.strike [e]).countRead 10 0xFF (a, r) = (s1.strike [e]).dramBad a 10 0xFF := by
      rw [State.countRead_dram base, hf]
    have counts := (s1.strike [e]).dramBad_same a 10 0xFF
    obtain ⟨c1, c2, c3⟩ := State.dramBad_counts (s := s1.strike [e]) a 10 0xFF w1
    obtain ⟨d1, -, d3⟩ := State.scrubOne_struck (s := s1.strike [e]) (a := a) (r := r) rfl rfl bad hi read (counts.pars w1 _ _ rfl) (counts.dram rfl)
    refine ⟨_, slot [e] hr, State.Has.par (.setPar (.dict c1 d1) (by decide)), State.Has.par (.setPar (.dict c2 d1) (by decide)),
      State.Has.par (.setPar (.dict c3 d1) (by decide)), ?_⟩
    exact d3.trans (if_neg (by rw [hf]; simp))

end Sys2Proof.Machine
end
section
/-! SUPPORT. A snapshot within a period of the slow clock of the edge that refreshed the copy of the slow slots (R360, R362). -/
namespace Sys2Proof.Machine

/-- The copy of the slow slots is of this instant and holds no count of CLK.REFUSED, which has counted to 5 since. -/
def staleCopy : State := { dict := [(key Ix.clkRefused 0, 5)], ds := { snapAt := some 0, copyAt := some 0 } }

theorem staleCopy_inv : staleCopy.Inv := by
  unfold State.Inv Dict.wf Net.wf
  decide

/-- The counter stands in a slow slot, and the holding copy takes it as it reads there. -/
theorem staleCopy_holds : staleCopy.dict.filterMap (staleCopy.enter 0).holdable = [(key Ix.clkRefused 0, 0)] := by decide

theorem takeSnapshot_snap (s : State) (a : Nat) : (s.takeSnapshot a).ds.snap = s.dict.filterMap s.holdable := by
  have marks (u : State) : u.restartMarks.ds = u.ds := (State.restartMarks_same u).ds rfl
  have held := marks { s with ds := { s.ds with snap := s.dict.filterMap s.holdable, snapAt := none } }
  unfold State.takeSnapshot
  extract_lets mine c1 s1
  rw [State.setPar_ds, State.setPar_ds]
  exact congrArg DictSt.snap held

theorem staleCopy_taken : exec (.snapshotTake 0) staleCopy = .next ((staleCopy.enter 0).takeSnapshot 0) := rfl

/-- Refutes O45 in the clause of a snapshot that is taken: within a period of the edge that refreshed the copy of the slow slots
the holding copy of a counter there is what that copy holds, which need not be the counter's value. -/
theorem not_snapshotsAndSlowWrites : ¬ Obligations.SnapshotsAndSlowWrites := by
  unfold Obligations.SnapshotsAndSlowWrites
  intro h
  obtain ⟨p, hp⟩ : ∃ p, paramOf Ix.clkRefused = some p := ⟨_, rfl⟩
  have counts : p.counts = true := by
    have row : (paramOf Ix.clkRefused).map Param.counts = some true := by decide
    rw [hp] at row
    exact Option.some.inj row
  obtain ⟨-, -, taken, -⟩ := h staleCopy 0 0 0 ⟨Ix.clkRefused, by decide⟩ 0 p 0 false staleCopy_inv
  obtain ⟨u, hu, -, copy, -⟩ := taken rfl (by decide)
  obtain rfl := Host.Outcome.next.inj (staleCopy_taken.symm.trans hu)
  have reads : ((staleCopy.enter 0).takeSnapshot 0).heldCopy (key Ix.clkRefused 0) = 0 := by
    unfold State.heldCopy
    rw [takeSnapshot_snap, show (staleCopy.enter 0).dict = staleCopy.dict from rfl, staleCopy_holds]
    rfl
  exact absurd (reads.symm.trans (copy hp counts)) (by decide)

end Sys2Proof.Machine
end
section
/-! SUPPORT. The host port while the reference that a forced selection follows has stopped: the port takes no request, and neither
its own state nor CLK.DOMAIN_GOOD tells of it (R397). -/
namespace Sys2Proof.Machine

/-- Without the clock of its domain the port takes nothing, and answers nothing. -/
theorem State.memRequest_dead {s : State} (h : s.clk.dead = true) (posted control : Bool) (tlp : Tlp) :
    s.memRequest posted control tlp = (s, false) := if_pos (Or.inr h)

theorem State.postedWrite_dead {s : State} (h : s.clk.dead = true) (tlp : Tlp) (f : State → State) : s.postedWrite tlp f = s := by
  unfold State.postedWrite
  rw [State.memRequest_dead h]
  rfl

theorem State.hostWrite_dead {s : State} (h : s.clk.dead = true) (bar off : Nat) (ws : List Word) (first last : Nat) (tlp : Tlp)
    (busy : Bool) : s.hostWrite bar off ws first last tlp busy = s := by
  unfold State.hostWrite
  extract_lets o r
  split
  · exact State.postedWrite_dead h _ _
  · rw [show r = (s, false) from State.memRequest_dead h _ _ _]
    rfl

theorem execWideWordWrite_dead {s : State} {t : Nat} (h : (s.enter t).clk.dead = true) (ix : Fin 65536) (k : Fin 3) (w : Word)
    (tlp : Tlp) (busy : Bool) : execWideWordWrite t ix k w tlp busy s = .next (s.enter t) := by
  unfold execWideWordWrite
  dsimp only
  split
  · rw [State.hostWrite_dead h, ite_self]
  · rfl

theorem execBar4Write_dead {s : State} {t : Nat} (h : (s.enter t).clk.dead = true) (a : Nat) (ws : List Word) (first last : Fin 16)
    (errs : List CodeErr) (tlp : Tlp) : execBar4Write t a ws first last errs tlp s = .next (s.enter t) := by
  unfold execBar4Write
  dsimp only
  rw [State.memRequest_dead h]
  rfl

/-- A TLP without a header. -/
def noTlp : Tlp := ⟨0, 0, 0, 0, 0⟩

/-- A frozen port with its link up and Memory Space Enable set, of a device whose reference has stopped; `good` is
CLK.DOMAIN_GOOD. -/
def deadPort (good : Nat) : State :=
  { dict := [(key Ix.clkDomainGood 0, good), (key Ix.hostLinkState 0, 2), (key Ix.hostPortState 0, 1)]
    clk := { dead := true }
    host := { perst := true, cfg := [(0x04, 2)] } }

theorem deadPort_inv : (deadPort 4).Inv ∧ (deadPort 8).Inv := by
  unfold State.Inv Dict.wf Net.wf
  decide

theorem deadPort_enter (good : Nat) : ((deadPort good).enter 0).clk.dead = true := rfl

/-- Refutes O46 in the clause of a write to a stopped Jasper domain: with the reference stopped too the write is not counted. -/
theorem not_registerWrites : ¬ Obligations.RegisterWrites := by
  unfold Obligations.RegisterWrites
  intro h
  obtain ⟨p, -⟩ : ∃ p, paramOf Ix.clkRefused = some p := ⟨_, rfl⟩
  obtain ⟨-, -, -, -, -, stopped⟩ := h (deadPort 8) 0 0x1000 0 p 0 noTlp false deadPort_inv.2
  obtain ⟨u, hu, -, counted⟩ := stopped (by decide) (by decide)
  have e : exec (.registerWrite 0 false 0 [0] 15 0 noTlp false) (deadPort 8) = .next ((deadPort 8).enter 0) :=
    congrArg Host.Outcome.next (State.hostWrite_dead (deadPort_enter 8) _ _ _ _ _ _ _)
  obtain rfl := Host.Outcome.next.inj (e.symm.trans hu)
  exact absurd counted (by decide)

/-- Refutes O47 in the clause of a lower word: the write latch does not take it. -/
theorem not_wideValues : ¬ Obligations.WideValues := by
  unfold Obligations.WideValues
  intro h
  obtain ⟨low, -⟩ := h (deadPort 4) 0 0 noTlp false deadPort_inv.1
  obtain ⟨u, hu, tag, -⟩ := low (by decide)
  have e : exec (.wideWordWrite 0 0x2103 0 0 noTlp false) (deadPort 4) = .next ((deadPort 4).enter 0) :=
    execWideWordWrite_dead (deadPort_enter 4) 0x2103 0 0 noTlp false
  obtain rfl := Host.Outcome.next.inj (e.symm.trans hu)
  exact absurd tag (by decide)

/-- Refutes O48 in the clause of a release: the frozen port stays frozen. -/
theorem not_portResetsAndErrors : ¬ Obligations.PortResetsAndErrors := by
  unfold Obligations.PortResetsAndErrors
  intro h
  obtain ⟨-, -, -, -, -, resume, -⟩ := h.2 (deadPort 4) 0 .unsupported false false noTlp 0 deadPort_inv.1
  obtain ⟨u, hu, ⟨running, -⟩, -⟩ := resume (by decide)
  have e : exec (.portResume 0 noTlp) (deadPort 4) = .next ((deadPort 4).enter 0) :=
    congrArg Host.Outcome.next (State.postedWrite_dead (deadPort_enter 4) _ _)
  obtain rfl := Host.Outcome.next.inj (e.symm.trans hu)
  exact absurd running (by decide)

/-- Refutes O49 in the clause of a ring of a legal size: it is not enabled. -/
theorem not_ringControl : ¬ Obligations.RingControl := by
  unfold Obligations.RingControl
  intro h
  obtain ⟨legal, -⟩ := h (deadPort 4) 0 0 0 noTlp deadPort_inv.1
  obtain ⟨u, hu, enabled, -⟩ := legal (by decide) (by decide) (by decide)
  have e : exec (.ringEnable 0 0 noTlp) (deadPort 4) = .next ((deadPort 4).enter 0) :=
    congrArg Host.Outcome.next (State.postedWrite_dead (deadPort_enter 4) _ _)
  obtain rfl := Host.Outcome.next.inj (e.symm.trans hu)
  exact absurd enabled (by decide)

/-- Refutes O54 in the clause of a write that reaches no window: it is not counted. -/
theorem not_windowAccess : ¬ Obligations.WindowAccess := by
  unfold Obligations.WindowAccess
  intro h
  obtain ⟨-, -, -, -, misses, -⟩ := h (deadPort 4) 0 0 0 0 0 false [] noTlp 0 deadPort_inv.1
  obtain ⟨u, hu, -, counted, -⟩ := misses (by decide) (by decide)
  have e : exec (.bar4Write 0 0 [] 15 15 [] noTlp) (deadPort 4) = .next ((deadPort 4).enter 0) :=
    execBar4Write_dead (deadPort_enter 4) 0 [] 15 15 [] noTlp
  obtain rfl := Host.Outcome.next.inj (e.symm.trans hu)
  exact absurd counted (by decide)

end Sys2Proof.Machine
end
section
/-! SUPPORT. Two delivery rings of a running port that may issue requests: one that owes its DEV_PTR, one whose descriptors stand
in no order (R320, R325, R340). -/
namespace Sys2Proof.Machine

/-- A running port that may issue requests, with ring `n` as given. -/
def ringPort (n : Nat) (r : RingSt) : State :=
  { dict := [(key Ix.clkDomainGood 0, 4), (key Ix.hostPortState 0, 0)], now := 256000
    host := { cfg := [(0x04, 4)], rings := [(n, r)] } }

theorem ringPort_inv (n : Nat) (r : RingSt) : (ringPort n r).Inv := by
  have parts : Memory.wf [] = true ∧ Dict.wf (ringPort 0 {}).dict ∧ Net.wf {} := by
    unfold Dict.wf Net.wf
    decide
  exact parts

/-- A ring that a release left owing the write-back of its DEV_PTR. -/
def owingRing : RingSt := { enable := true, owed := true, hostPtr := 1 }

theorem owingRing_reads : exec (.descriptorRead 0 0 1) (ringPort 0 owingRing)
    = .next (((ringPort 0 owingRing).enter 0).payBack 0 |>.readAhead 0 1) := rfl

/-- The write-back is sent before the read. -/
theorem owingRing_out : ((((ringPort 0 owingRing).enter 0).payBack 0).readAhead 0 1).out.length = 2 := by decide

/-- Refutes O50 in the clause of a read under a free tag: a ring that still owes the write-back of its DEV_PTR sends that too. -/
theorem not_descriptorReads : ¬ Obligations.DescriptorReads := by
  unfold Obligations.DescriptorReads
  intro h
  obtain ⟨reads, -⟩ := h (ringPort 0 owingRing) 0 1 0 0 0 0 0 ⟨0, 0, 0, 0, [], true⟩ [] noTlp (ringPort_inv _ _)
  obtain ⟨u, hu, out, -⟩ := reads (by decide) rfl (by decide) (by decide)
  obtain rfl := Host.Outcome.next.inj (owingRing_reads.symm.trans hu)
  exact absurd (owingRing_out.symm.trans (congrArg List.length out)) (by decide)

/-- A ring whose last index is open, with a faulty descriptor read for index 0, which stands behind in the table and is not
found there. -/
def unsortedRing : RingSt :=
  { enable := true, idleClose := 1, devPtr := 0xFFFFFFFF, hostPtr := 5, frames := 1, descs := [(0xFFFFFFFF, []), (0, [])] }

theorem unsortedRing_closes : exec (.idleClose 0 8) (ringPort 8 unsortedRing)
    = .next (((ringPort 8 unsortedRing).enter 0).closeDesc 8 true) := rfl

/-- The close uncovers the faulty descriptor, which ends in its error. -/
theorem unsortedRing_devPtr : ((((ringPort 8 unsortedRing).enter 0).closeDesc 8 true).ringOf 8).devPtr = 1 := by decide

/-- Refutes O51 in the clause of an idle ring: of a table of descriptors that are not in order the close takes one entry away
and uncovers another, so that DEV_PTR goes on by two. -/
theorem not_frameDelivery : ¬ Obligations.FrameDelivery := by
  unfold Obligations.FrameDelivery
  intro h
  obtain ⟨-, -, -, -, idle⟩ := h (ringPort 8 unsortedRing) 0 0 8 [] emptyFrame.frame [] (ringPort_inv _ _)
  obtain ⟨u, hu, next, -⟩ := idle (by decide) (by decide) (by decide) (by decide) (by decide) (by decide) (by decide)
  obtain rfl := Host.Outcome.next.inj (unsortedRing_closes.symm.trans hu)
  exact absurd (unsortedRing_devPtr.symm.trans next) (by decide)

end Sys2Proof.Machine
end
section
/-! SUPPORT. Messages of a session of a device that serves the protocol (R16, R377), and a read-back while the Jasper domain is
stopped (R422). -/
namespace Sys2Proof.Machine

/-- A device that serves CDP on ETH0, with session `n` open and owning it. -/
def cdpServer (n : Nat) (x : Session) : State :=
  { dict := [(key Ix.clkDomainGood 0, 36), (key Ix.netLink 0, 1), (key Ix.netOwner 0, n), (key Ix.startStep 0, 8)]
    net := { sessions := [(n, x)] }
    nv := { running := true } }

/-- The header of a message of a session, of `len` bytes, to every chip. -/
def cdpHdr (session len seq tag : Nat) (auth : Bool) : CdpHdr :=
  { port := 0, peer := 0, extra := 0, version := 1, reserved := false, more := false, auth := auth, guard := false, abort := false
    response := false, session := session, length := len, seq := seq, dst := 65535, src := 2, gen := 0, guardLane := 0, tag := tag
    busy := false }

/-! ### A write of the management path behind one of the host -/

/-- The host has written NET.SESSION_IDLE in the present Jasper cycle. -/
def hostWrote : State :=
  { cdpServer 1 {} with ds := { hostCycle := 0, hostSlots := [(Ix.netSessionIdle, 0)] } }

theorem hostWrote_inv : hostWrote.Inv := by
  unfold State.Inv Dict.wf Net.wf
  decide

/-- PADDR of NET.SESSION_IDLE. -/
def idleItem : Word := w32 (Ix.netSessionIdle * 65536 + 1)

/-- Its row in the Index ROM. -/
def idleRow : Param := (paramOf Ix.netSessionIdle).get (by decide)

/-- The slot stays as the host left it. -/
theorem hostWrote_stands : ∀ u, exec (.cdpWrite 0 (cdpHdr 1 28 1 0 false) [idleItem, 61]) hostWrote = .next u →
    u.par Ix.netSessionIdle 0 = 60 := by
  have kept : (match exec (.cdpWrite 0 (cdpHdr 1 28 1 0 false) [idleItem, 61]) hostWrote with
      | .next u => u.par Ix.netSessionIdle 0
      | _ => 60) = 60 := by decide
  intro u hu
  rw [hu] at kept
  exact kept

theorem hostWrote_accepts : hostWrote.ownerCdp (cdpHdr 1 28 1 0 false) 0x11 [idleItem, 61] := by
  unfold State.ownerCdp State.acceptsCdp State.hearsCdp
  decide

/-- Refutes O57 in the clause of a WRITE: over a slot that the host has written in the same Jasper cycle it does not prevail. -/
theorem not_dictionaryOps : ¬ Obligations.DictionaryOps := by
  unfold Obligations.DictionaryOps
  intro h
  obtain ⟨-, -, -, write, -⟩ := h hostWrote 0 (cdpHdr 1 28 1 0 false) ⟨Ix.netSessionIdle, by decide⟩ 0 0 idleRow 61
    ⟨0, ⟨0, 0, 0, 0, false, 0⟩, [], [], none⟩ hostWrote_inv
  obtain ⟨u, hu, -, written⟩ := write hostWrote_accepts (by decide) (by decide) (by decide)
  exact absurd ((hostWrote_stands u hu).symm.trans written) (by decide)

/-! ### A message whose number goes beyond 32 bits -/

/-- A response that is not of its session's last message is not kept. -/
theorem respond_net_of_other {s : State} {r : Reply} {x : Session} (hx : tfind s.net.sessions r.session = some x) (hq : x.q ≠ r.seq)
    (ab : Bool) (body : List Word) : (s.respond r ab body).net = s.net := by
  unfold State.respond
  rw [hx]
  dsimp only
  rw [if_neg hq]
  unfold State.cdpOut
  dsimp only
  split <;> rfl

/-- The first request of SESSION_AUTH keeps no response of its own where the reply's number is not the session's. -/
theorem authKeys_response {s : State} {h : CdpHdr} {r : Reply} {body : List Word} {x : Session} (hb : body.length = 34)
    (hx : tfind s.net.sessions h.session = some x) (hr : r.session = h.session) (hq : x.q ≠ r.seq) :
    ((s.authKeys h r body).sessionOf h.session).response = x.response := by
  unfold State.authKeys
  extract_lets given d qd nd z keys digest sig s1 c s2
  rw [if_neg (not_not_intro hb)]
  let y : Session := { x with half := some (bodyWord body 0 % 256, ofBytes digest), nextIn := keys.1, nextOut := keys.2 }
  have hx1 : tfind s1.net.sessions h.session = some x := hx
  have h2 : s2.net.sessions = tset s.net.sessions h.session y := by
    simp only [s2, hx1]
    rfl
  have found : tfind s2.net.sessions h.session = some y := by rw [h2, tfind_tset, if_pos rfl]
  have kept := respond_net_of_other (s := s2) (r := r) (x := y) (by rw [hr, found]) hq false (wordsOfBytes (qd ++ nd ++ sig))
  unfold State.sessionOf tget
  rw [kept, found]
  rfl

/-- The header of a first request of SESSION_AUTH whose SEQ is 1 beyond 32 bits, and its body. -/
def farSeq : CdpHdr := cdpHdr 1 156 (2 ^ 32 + 1) 0 false
def keysBody : List Word := List.replicate 34 0

theorem farSeq_accepted : exec (.sessionAuthKeys 0 farSeq keysBody) (cdpServer 1 {})
    = .next ((((cdpServer 1 {}).enter 0).acceptSeq farSeq 0x03 {}).authKeys farSeq ⟨0, 1, 0x03, 2 ^ 32 + 1, false, 2⟩ keysBody) := rfl

theorem cdpServer_inv : (cdpServer 1 {}).Inv := by
  unfold State.Inv Dict.wf Net.wf
  decide

/-- Refutes O56 in the clause of a first SESSION_AUTH: a number beyond 32 bits is taken modulo 2^32, and the response, which bears
it whole, is not kept. -/
theorem not_sessionsAndOwnership : ¬ Obligations.SessionsAndOwnership := by
  unfold Obligations.SessionsAndOwnership
  intro h
  obtain ⟨-, -, -, keys, -⟩ := h.1 (cdpServer 1 {}) 0 0 farSeq keysBody (0, 0) cdpServer_inv
  have accepts : (cdpServer 1 {}).acceptsCdp farSeq 3 keysBody := by
    unfold State.acceptsCdp State.hearsCdp
    decide
  obtain ⟨u, hu, -, -, kept, -⟩ := keys accepts rfl
  obtain rfl := Host.Outcome.next.inj (farSeq_accepted.symm.trans hu)
  have dropped := authKeys_response (s := ((cdpServer 1 {}).enter 0).acceptSeq farSeq 0x03 {}) (h := farSeq)
    (r := ⟨0, 1, 0x03, 2 ^ 32 + 1, false, 2⟩) (body := keysBody) rfl rfl rfl (by decide)
  rw [dropped] at kept
  exact absurd kept (by decide)

/-! ### The read-back of a slot while the Jasper domain is stopped -/

/-- A SAVE in progress. -/
def someSave : SaveJob := ⟨⟨1, false, false, false, 0, 0, 0, 0, [], true, true, []⟩, 0, 0, false, none⟩

/-- Refutes O59 in the clause of a slot that reads back well: while the Jasper domain is stopped the SAVE does not end. -/
theorem not_store : ¬ Obligations.Store := by
  unfold Obligations.Store
  intro h
  have inv : State.Inv { nv := { job := some someSave } } := by
    unfold State.Inv Dict.wf Net.wf
    decide
  obtain ⟨-, -, -, -, -, -, -, -, -, -, -, -, -, done, -⟩ := h _ 0 (cdpHdr 0 0 0 0 false) 0 someSave 0 0 idleRow 0 someSave.copy inv
  obtain ⟨u, hu, -, ended, -⟩ := done rfl
  have waits : exec (.saveComplete 0 true) { nv := { job := some someSave } }
      = .next (State.enter { nv := { job := some someSave } } 0) := rfl
  obtain rfl := Host.Outcome.next.inj (waits.symm.trans hu)
  exact absurd ended (by decide)

end Sys2Proof.Machine
end
section
/-! SUPPORT. A session whose number goes beyond the 16 bits that a header has room for: what it is sent is sealed under the key of
the session that those bits name (R374, R379). -/
namespace Sys2Proof.Machine

/-- An authenticated session with a key of zeros both ways. -/
def zeroKeys : Session := { auth := true, keyIn := List.replicate 32 0, keyOut := List.replicate 32 0 }

/-- A device that it owns, under the number 65537; there is no session 1. -/
def farSession : State := cdpServer 65537 zeroKeys

theorem farSession_inv : farSession.Inv := by
  unfold State.Inv Dict.wf Net.wf
  decide

/-- The bodies of the messages that leave. -/
def sentBodies (s : State) : List (List Word) := s.out.map (fun o => match o with
  | .cdp _ _ ws _ => ws
  | _ => [])

/-- The same of what a command leads to. -/
def bodiesOf (c : Instr) (s : State) : List (List Word) := match exec c s with
  | .next u => sentBodies u
  | _ => []

theorem bodiesOf_of_next {c : Instr} {s u : State} (h : exec c s = .next u) : bodiesOf c s = sentBodies u := by
  unfold bodiesOf
  rw [h]

/-- The header of the answer to a sealed message of this session, by its first word and the words of its body. -/
def farHeader (first : Nat) (ws : List Word) : List Word :=
  [w32 first, w32 (65537 * 65536 + (36 + 4 * ws.length)), w32 1, w32 (2 * 65536), 0]

/-- What the session's own key makes of a body. -/
def farBody (first : Nat) (ws : List Word) : List Word := sealBody (List.replicate 32 0) 1 (farHeader first ws) ws

/-- A subscription to alerts, with its tag. -/
def alertsHdr : CdpHdr := cdpHdr 65537 44 1 170403838293193049324778831166392268893 true

/-- A FW_ACTIVATE, with its tag. -/
def activateHdr : CdpHdr := cdpHdr 65537 40 1 258579045191448190110005500958916087233 true

theorem alerts_accepted : farSession.acceptsCdp alertsHdr 0x30 [0, 0] := by
  unfold State.acceptsCdp State.hearsCdp
  decide +kernel

theorem activate_accepted : farSession.ownerCdp activateHdr 0x52 [0] := by
  unfold State.ownerCdp State.acceptsCdp State.hearsCdp
  decide +kernel

/-- Under the key of session 1, which is not there, the bodies come out different. -/
theorem alerts_sent : bodiesOf (.subscribeAlerts 0 alertsHdr [0, 0]) farSession ≠ [farBody 0xCD103009 [0]] := by decide +kernel
theorem activate_sent : bodiesOf (.fwActivate 0 activateHdr [0] 0 0) farSession ≠ [farBody 0xCD10520B [0x07B00003, 0]] := by
  decide +kernel

theorem alerts_answered {u : State} (answer : farSession.answered u alertsHdr 0x30 false [0]) :
    sentBodies u = [farBody 0xCD103009 [0]] := by
  unfold State.answered at answer
  unfold sentBodies
  rw [answer]
  rfl

theorem activate_answered {u : State} (answer : farSession.answered u activateHdr 0x52 true [0x07B00003, 0]) :
    sentBodies u = [farBody 0xCD10520B [0x07B00003, 0]] := by
  unfold State.answered at answer
  unfold sentBodies
  rw [answer]
  rfl

/-- Refutes O58 in the clause of a subscription to alerts: the answer to a session above 65535 is sealed under the key of
another. -/
theorem not_subscriptions : ¬ Obligations.Subscriptions := by
  unfold Obligations.Subscriptions
  intro h
  obtain ⟨-, -, -, -, alerts, -⟩ := h farSession 0 0 0 0 alertsHdr 0 0 idleRow 0 0 emptyFrame.frame
    ⟨0, 0, 0, [], 0, 0, [], false, 0, 0⟩ 0 0 0 farSession_inv
  obtain ⟨u, hu, -, answer⟩ := alerts alerts_accepted (by decide)
  exact alerts_sent ((bodiesOf_of_next hu).trans (alerts_answered answer))

/-- Refutes O60 in the clause of a FW_ACTIVATE without an image, for the same reason. -/
theorem not_firmware : ¬ Obligations.Firmware := by
  unfold Obligations.Firmware
  intro h
  obtain ⟨-, -, -, refused, -⟩ := h farSession 0 0 0 0 0 0 activateHdr 0 [] farSession_inv
  obtain ⟨u, hu, answer, -⟩ := refused activate_accepted (by decide) (Or.inl (by decide))
  exact activate_sent ((bodiesOf_of_next hu).trans (activate_answered answer))

end Sys2Proof.Machine
end
section
/-! SUPPORT. Interrupt messages of the host port (R330 to R333). -/
namespace Sys2Proof.Machine

/-- A vector counts its message as the counter's next step. -/
theorem State.sendVector_host (s : State) (v : Nat) : (s.sendVector v).host = { s.host with
    disarmed := s.host.disarmed
      ++ (irqSources.filter (fun x => s.irqPending x && decide (s.irqVector x = v))).filter (fun x => !s.host.disarmed.contains x)
    lastMsg := (irqSources.filter (fun x => s.irqPending x && decide (s.irqVector x = v))).foldl (fun l x => tset l x s.now) s.host.lastMsg
    pba := putBit s.host.pba (s.msgNumber v) false } :=
  (State.cnt_same (m := allRegs) _ _ _ (by decide)).host rfl

theorem State.sendVector_out (s : State) (v : Nat) : (s.sendVector v).out = s.out ++ [s.message v] :=
  (State.cnt_same (m := allRegs) _ _ _ (by decide)).out rfl

/-- Of the dictionary a message changes its vector's count alone. -/
theorem State.Has.sendVector_self {s : State} {v n : Nat} (h : s.Has Ix.irqMessages v n) :
    (s.sendVector v).Has Ix.irqMessages v (cntNext n)  := by
  have counts (t : State) (e : t.dict = s.dict) : (t.cnt Ix.irqMessages v).Has Ix.irqMessages v (cntNext n) :=
    (h.dict e).counted (by decide)
  exact counts _ rfl

theorem State.Has.sendVector_other {s : State} {v x n : Nat} (h : s.Has Ix.irqMessages v n) (hv : v < 256) (hx : x < 256) (e : x ≠ v) :
    (s.sendVector x).Has Ix.irqMessages v n := by
  have kept (t : State) (d : t.dict = s.dict) : (t.cnt Ix.irqMessages x).Has Ix.irqMessages v n :=
    (h.dict d).cnt_sub (fun k => e (key_sub hv hx k).symm) (by decide)
  exact kept _ rfl

/-- Below the serial number the configuration space is the host port's own. -/
theorem cfgWord_of_host {s u : State} (hc : u.host.cfg = s.host.cfg) (hs : u.host.subsys = s.host.subsys)
    (hb : u.host.bar4Reset = s.host.bar4Reset) {off : Nat} (low : off < 332) : u.cfgWord off = s.cfgWord off := by
  unfold State.cfgWord
  have h1 : off ≠ 0x14C := by omega
  have h2 : off ≠ 0x150 := by omega
  have h3 : off ≠ 0x260 := by omega
  simp only [hc, hs, hb, if_neg h1, if_neg h2, if_neg h3]

/-- The part of the host port that decides on messages: the configuration space and the MSI-X table. -/
structure SameIrq (s u : State) : Prop where
  cfg : u.host.cfg = s.host.cfg
  subsys : u.host.subsys = s.host.subsys
  bar4 : u.host.bar4Reset = s.host.bar4Reset
  msix : u.host.msix = s.host.msix

namespace SameIrq

variable {s u : State}

theorem sent (h : SameIrq s u) (v : Nat) : SameIrq s (u.sendVector v) := by
  obtain ⟨hc, hs, hb, hm⟩ := h
  constructor <;> rw [State.sendVector_host] <;> assumption

theorem cfgWord (h : SameIrq s u) {off : Nat} (low : off < 332) : u.cfgWord off = s.cfgWord off :=
  cfgWord_of_host h.cfg h.subsys h.bar4 low

theorem msixWord (h : SameIrq s u) (i : Nat) : u.msixWord i = s.msixWord i := by
  unfold State.msixWord
  rw [h.msix]

theorem irqMode (h : SameIrq s u) : u.irqMode = s.irqMode := by
  unfold State.irqMode
  rw [h.cfgWord (by decide : 0xB0 < 332), h.cfgWord (by decide : 0x50 < 332), h.cfgWord (by decide : 0x04 < 332)]

end SameIrq

/-- A message under MSI-X: address and data of the vector. -/
theorem State.message_msix {s : State} (h : s.irqMode = 3) (v : Nat) :
    s.message v = .interrupt (s.msixWord (4 * v + 1) * 2 ^ 32 + s.msixWord (4 * v)) (s.msixWord (4 * v + 2)) := if_pos h

theorem State.msgNumber_msix {s : State} (h : s.irqMode = 3) (v : Nat) : s.msgNumber v = v := if_pos h

/-- A table that has taken one value for every number of a list. -/
theorem tfind_foldl_tset {α : Type} (a : α) (k : Nat) (l : List Nat) (t : Tbl α) (h : k ∈ l ∨ tfind t k = some a) :
    tfind (l.foldl (fun u x => tset u x a) t) k = some a := by
  induction l generalizing t with
  | nil => exact h.resolve_left List.not_mem_nil
  | cons x l ih =>
    refine ih _ ?_
    rw [tfind_tset]
    by_cases e : k = x
    · exact .inr (if_pos e)
    · rw [if_neg e]
      exact h.imp_left (fun m => (List.mem_cons.mp m).resolve_left e)

/-- The sources that exist. -/
theorem mem_irqSources {src : Nat} (h : src ≤ 8 ∨ 16 ≤ src) (hs : src < 33) : src ∈ irqSources := by
  unfold irqSources
  rw [List.mem_append, List.mem_range, List.mem_map]
  obtain h | h := h
  · exact .inl (Nat.lt_succ_of_le h)
  · exact .inr ⟨src - 16, List.mem_range.mpr (by omega), by omega⟩

/-- A source that is due is pending and armed. -/
theorem State.irqDue_parts {s : State} {src : Nat} (h : s.irqDue src = true) :
    s.irqPending src = true ∧ s.host.disarmed.contains src = false := by
  unfold State.irqDue at h
  simp only [Bool.and_eq_true, Bool.not_eq_true'] at h
  exact ⟨h.1.1.1, h.1.1.2⟩

/-- The message of a vector disarms its pending sources and notes the instant (R332). -/
theorem State.sendVector_source {s : State} {src : Nat} (due : s.irqDue src = true) (known : src ∈ irqSources) :
    src ∈ (s.sendVector (s.irqVector src)).host.disarmed ∧ tfind (s.sendVector (s.irqVector src)).host.lastMsg src = some s.now := by
  obtain ⟨pending, armed⟩ := State.irqDue_parts due
  have mine : src ∈ irqSources.filter (fun x => s.irqPending x && decide (s.irqVector x = s.irqVector src)) :=
    List.mem_filter.mpr ⟨known, by rw [pending, decide_eq_true rfl]; rfl⟩
  rw [State.sendVector_host]
  exact ⟨List.mem_append_right _ (List.mem_filter.mpr ⟨mine, by rw [armed]; rfl⟩), tfind_foldl_tset _ _ _ _ (.inl mine)⟩

/-- What becomes of a source that is due under MSI-X. -/
theorem State.irqSend_msix {s : State} {src : Nat} (mode : s.irqMode = 3) (due : s.irqDue src = true) : s.irqSend src =
    if s.masked (s.irqVector src) then
      { s with host := { s.host with pba := putBit s.host.pba (s.irqVector src) true } }
    else s.sendVector (s.irqVector src) := by
  unfold State.irqSend
  dsimp only
  rw [if_neg (by rw [mode]; decide), if_neg (by rw [mode, due]; decide), State.msgNumber_msix mode]

/-! ### Messages held -/

/-- A vector whose message is held, before its turn: `n` messages so far. -/
structure Holding (s : State) (v n : Nat) (u : State) : Prop where
  irq : SameIrq s u
  bit : bit u.host.pba v = true
  count : u.Has Ix.irqMessages v n

/-- The same vector afterwards: `m` has been sent. -/
structure Sent (s : State) (v n : Nat) (m : Out) (u : State) : Prop where
  irq : SameIrq s u
  out : m ∈ u.out
  bit : Sys2Proof.Machine.bit u.host.pba v = false
  count : u.Has Ix.irqMessages v (cntNext n)

theorem bit_sendVector {s u : State} (irq : SameIrq s u) (mode : s.irqMode = 3) (v x : Nat) :
    bit (u.sendVector x).host.pba v = if v = x then false else bit u.host.pba v := by
  rw [State.sendVector_host]
  dsimp only
  rw [State.msgNumber_msix (irq.irqMode.trans mode), bit_putBit]

/-- The vectors whose messages are held send them, each once (R333). -/
theorem State.sendHeld_sends {s : State} {v : Nat} (mode : s.irqMode = 3) (may : s.mayRequest = true) (hv : v < 64)
    (held : bit s.host.pba v = true) (open_ : s.masked v = false) (w : Dict.wf s.dict) :
    Sent s v (s.par Ix.irqMessages v) (s.message v) s.sendHeld := by
  unfold State.sendHeld
  rw [if_neg (by rw [mode, may]; decide)]
  have small {x : Nat} (hx : x ∈ List.range 64) : x < 256 := Nat.lt_trans (List.mem_range.mp hx) (by decide)
  refine foldl_at (R := Holding s v (s.par Ix.irqMessages v)) (q := v) _ (fun u x hx e h => ?_) (fun u h => ?_) (fun u x hx e h => ?_)
    List.nodup_range (List.mem_range.mpr hv) s ⟨⟨rfl, rfl, rfl, rfl⟩, held, .start w⟩
  · split
    · exact ⟨h.irq.sent x, by rw [bit_sendVector h.irq mode, if_neg e.symm, h.bit],
        h.count.sendVector_other (Nat.lt_trans hv (by decide)) (small hx) e⟩
    · exact h
  · have m3 : u.irqMode = 3 := h.irq.irqMode.trans mode
    have unmasked : u.masked v = false := by
      rw [← open_]
      unfold State.masked
      rw [if_pos m3, if_pos mode, h.irq.cfgWord (by decide), h.irq.msixWord]
    have told : u.message v = s.message v := by
      rw [State.message_msix m3, State.message_msix mode, h.irq.msixWord, h.irq.msixWord, h.irq.msixWord]
    rw [if_pos (by rw [State.msgNumber_msix m3, h.bit, unmasked, m3]; rfl)]
    exact ⟨h.irq.sent v, by rw [State.sendVector_out, told]; exact List.mem_append_right _ (List.mem_singleton.mpr rfl),
      by rw [bit_sendVector h.irq mode, if_pos rfl], h.count.sendVector_self⟩
  · split
    · exact ⟨h.irq.sent x, by rw [State.sendVector_out]; exact List.mem_append_left _ h.out,
        by rw [bit_sendVector h.irq mode, if_neg e.symm, h.bit], h.count.sendVector_other (Nat.lt_trans hv (by decide)) (small hx) e⟩
    · exact h

/-! ### The commands -/

/-- A port that may issue requests is not in D3hot and has its clock. -/
theorem State.mayRequest_parts {s : State} (h : s.mayRequest = true) : s.d3hot = false ∧ s.clk.dead = false := by
  unfold State.mayRequest State.runs at h
  simp only [Bool.and_eq_true, Bool.not_eq_true'] at h
  exact ⟨h.1.2, h.2.2⟩

/-- A posted write of a port that has its clock and its domain is carried out. -/
theorem State.postedWrite_takes {s : State} (receive : s.mayReceive = true) (space : s.memSpace = true) (good : s.domainGood 2 = true)
    (may : s.mayRequest = true) (tlp : Tlp) (f : State → State) : s.postedWrite tlp f = f s := by
  obtain ⟨d0, clock⟩ := State.mayRequest_parts may
  have takes : s.memRequest true false tlp = (s, true) := by
    unfold State.memRequest
    rw [if_neg (by rw [receive, clock]; decide), if_neg (by rw [space, d0]; decide), if_neg (by simp)]
  unfold State.postedWrite
  dsimp only
  rw [takes]
  exact if_pos good

/-- A write of the vector control word that clears its mask. -/
def State.unmask (s : State) (v : Nat) : State := { s with host := { s.host with msix := tset s.host.msix (4 * v + 3) 0 } }

theorem State.msixWrite_unmask (s : State) (v : Nat) : s.msixWrite (4 * v + 3) 0 = (s.unmask v).sendHeld := by
  unfold State.msixWrite State.unmask
  have zero : (if (4 * v + 3) % 4 = 3 then 0 % 2 else 0 % 2 ^ 32) = 0 := by split <;> rfl
  rw [zero]

theorem State.unmask_masked {s : State} {v : Nat} (mode : s.irqMode = 3) (open_ : bit (s.cfgWord 0xB0) 30 = false) :
    (s.unmask v).masked v = false := by
  have m3 : (s.unmask v).irqMode = 3 := mode
  have b : bit ((s.unmask v).cfgWord 0xB0) 30 = false := open_
  unfold State.masked
  rw [if_pos m3, b, show (s.unmask v).msixWord (4 * v + 3) = 0 from tget_tset ..]
  rfl

/-- The words of a message are no vector control word. -/
theorem State.unmask_message {s : State} (v : Nat) (mode : s.irqMode = 3) : (s.unmask v).message v = s.message v := by
  have word (i : Nat) (h : i ≠ 4 * v + 3) : (s.unmask v).msixWord i = s.msixWord i := by
    unfold State.msixWord State.unmask tget
    dsimp only
    rw [tfind_tset, if_neg h]
  rw [State.message_msix mode, State.message_msix (s := s.unmask v) mode, word _ (by omega), word _ (by omega), word _ (by omega)]

/-- Settles O52: a due source sends or is held by its mask, INTA follows the pending sources, an acknowledgement arms its source, and
the loop over the vectors sends each held message once. -/
theorem interrupts : Obligations.Interrupts := by
  intro s t src i w v tlp inv s1 x told
  have wf : Dict.wf s1.dict := inv.2.1
  refine ⟨fun mode due open_ known => ?_, fun mode due masked => ?_, fun mode may follows => ?_, ?_,
    fun receive space good may mode mask held => ?_⟩
  · have mode1 : s1.irqMode = 3 := mode
    have open1 : s1.masked (s1.irqVector src) = false := open_
    have sends : s1.irqSend src = s1.sendVector x := (State.irqSend_msix mode1 due).trans (if_neg (by rw [open1]; decide))
    obtain ⟨disarmed, last⟩ := State.sendVector_source due (mem_irqSources known src.isLt)
    refine ⟨_, rfl, ?_⟩
    rw [sends]
    exact ⟨by rw [State.sendVector_out, State.message_msix mode1]; rfl, disarmed, last,
      (State.Has.sendVector_self (.start wf)).par⟩
  · have mode1 : s1.irqMode = 3 := mode
    have masked1 : s1.masked (s1.irqVector src) = true := masked
    refine ⟨_, rfl, ?_⟩
    rw [State.irqSend_msix mode1 due, if_pos masked1]
    exact ⟨rfl, bit_putBit_self _ _ _, rfl⟩
  · have mode1 : s1.irqMode = 1 := mode
    have may1 : s1.mayRequest = true := may
    have on : irqSources.any s1.irqPending = !s1.host.inta := follows
    refine ⟨_, rfl, ?_⟩
    rw [State.irqSend, if_pos mode1, if_pos may1, State.intaFollow]
    dsimp only
    rw [on, if_neg (by cases s1.host.inta <;> decide)]
    exact ⟨rfl, rfl⟩
  · refine ⟨_, rfl, ?_, ?_⟩
    · exact (par_setPar_self _ _ _ _ wf).trans (Nat.mod_eq_of_lt w.isLt)
    · exact fun h => of_decide_eq_true (List.mem_filter.mp h).2 rfl
  · have mode1 : s1.irqMode = 3 := mode
    obtain ⟨-, out, bit_, count⟩ := State.sendHeld_sends (s := s1.unmask v) mode1 may v.isLt held (State.unmask_masked mode1 mask) wf
    refine ⟨s1.msixWrite (4 * v + 3) 0, congrArg Host.Outcome.next (State.postedWrite_takes (s := s1) receive space good may tlp _), ?_⟩
    rw [State.msixWrite_unmask]
    rw [State.unmask_message _ mode1, State.message_msix mode1] at out
    exact ⟨out, bit_, count.par⟩

end Sys2Proof.Machine
end
section
/-! SUPPORT. Frames of the field network, the ring closer, marks between chips (R44, R370 to R373, R386, R387). -/
namespace Sys2Proof.Machine

/-! ### Frames -/

/-- The state after a frame of a length that is taken or forwarded: `s2` with its FCS counted, forwarded or not. -/
def State.frameChecked (s : State) (port : Fin 2) (fcsOk : Bool) : State := if fcsOk then s else s.cnt Ix.netFcsErrors port
def State.frameForwarded (s : State) (port : Fin 2) (dst : EthDst) (fcsOk : Bool) (body : EthBody) : State :=
  if s.forwards dst body then s.forwardFrame port (!fcsOk) else s

/-- A frame of a good length on a live port. -/
theorem execEthFrameRx_fits {s : State} {t len : Nat} {port : Fin 2} (up : s.portUp port = true) (good : s.domainGood 5 = true)
    (low : 64 ≤ len) (high : len ≤ 576) (dst : EthDst) (fcsOk : Bool) (body : EthBody) :
    execEthFrameRx t port dst len fcsOk body s = .next (
      if fcsOk ∧ dst ≠ .other then (((s.enter t).frameChecked port fcsOk).frameForwarded port dst fcsOk body).takeFrame port body
      else ((s.enter t).frameChecked port fcsOk).frameForwarded port dst fcsOk body) := by
  have up1 : (s.enter t).portUp port = true := up
  have good1 : bit ((s.enter t).par Ix.clkDomainGood 0) 5 = true := good
  unfold execEthFrameRx
  dsimp only
  rw [if_neg (by rw [up1, good1]; simp only [Bool.not_true, Bool.false_eq_true, false_or]; exact Nat.not_lt.mpr low),
    if_neg (Nat.not_lt.mpr high)]
  exact (apply_ite Host.Outcome.next _ _ _).symm

theorem execEthFrameRx_long {s : State} {t len : Nat} {port : Fin 2} (up : s.portUp port = true) (good : s.domainGood 5 = true)
    (long : 576 < len) (dst : EthDst) (fcsOk : Bool) (body : EthBody) :
    execEthFrameRx t port dst len fcsOk body s = .next ((s.enter t).cnt Ix.netOversize port) := by
  have up1 : (s.enter t).portUp port = true := up
  have good1 : bit ((s.enter t).par Ix.clkDomainGood 0) 5 = true := good
  unfold execEthFrameRx
  dsimp only
  rw [if_neg (by rw [up1, good1]; simp only [Bool.not_true, Bool.false_eq_true, false_or]; omega), if_pos long]

/-- Forwarding sends the frame and no more. -/
theorem State.frameForwarded_dict (s : State) (port : Fin 2) (dst : EthDst) (fcsOk : Bool) (body : EthBody) :
    (s.frameForwarded port dst fcsOk body).dict = s.dict := by
  unfold State.frameForwarded State.forwardFrame
  split
  · split <;> rfl
  · rfl

/-- Counting a frame's FCS leaves the ports as they are. -/
theorem State.frameChecked_canSend {s : State} (w : Dict.wf s.dict) (port : Fin 2) (fcsOk : Bool) (n : Nat) :
    (s.frameChecked port fcsOk).canSend n = s.canSend n := by
  unfold State.frameChecked
  split
  · rfl
  · have kept (ix sub : Nat) (e : ix ≠ Ix.netFcsErrors ∧ ix ≠ Ix.dictSatCount ∧ ix ≠ Ix.dictSatLast) :
        (s.cnt Ix.netFcsErrors port).par ix sub = s.par ix sub := ((State.Has.start w).cnt e).par
    unfold State.canSend State.portUp State.runs State.domainGood
    rw [kept _ _ (by decide), kept _ _ (by decide), kept _ _ (by decide), (State.cnt_frame s Ix.netFcsErrors port).clk rfl]

/-- A frame for another station leaves by the other port (R370). -/
theorem State.frameForwarded_other {s : State} {port : Fin 2} (ring : s.par Ix.netRingState 0 ≠ 1)
    (send : s.canSend (1 - port.val) = true) (fcsOk : Bool) :
    s.frameForwarded port .other fcsOk .other = s.send (.forward (1 - port.val) (!fcsOk)) := by
  have forwards : s.forwards .other .other = true := by
    unfold State.forwards
    rw [decide_eq_true ring]
    rfl
  unfold State.frameForwarded State.forwardFrame
  rw [if_pos forwards, if_pos send]

/-- An ESMC PDU's level is its port's, whatever reference follows (R44). -/
theorem State.esmcLevel_has {s : State} (w : Dict.wf s.dict) (port : Fin 2) (level : Nat) :
    (s.esmcLevel port level).Has Ix.synceQlRx port (level % 256) := by
  have written : (s.setPar Ix.synceQlRx port (level % 256)).Has Ix.synceQlRx port (level % 256) := .written s w
  unfold State.esmcLevel
  exact .ite (written.same (State.autoRef_same _) rfl) written

/-- What a frame's counting leaves of the dictionary. -/
theorem State.Has.frameChecked {s : State} {ix sub v : Nat} (h : s.Has ix sub v) (port : Fin 2) (fcsOk : Bool)
    (e : ix ≠ Ix.netFcsErrors ∧ ix ≠ Ix.dictSatCount ∧ ix ≠ Ix.dictSatLast) : (s.frameChecked port fcsOk).Has ix sub v :=
  .ite h (h.cnt e)

/-! ### The ring closer -/

/-- The closer opens a ring that was closed (R372). -/
theorem State.ringOpen_opens {s : State} {n : Nat} (closed : s.Has Ix.netRingState 0 1) (h : s.Has Ix.netRingOpenings 0 n) :
    s.ringOpen.par Ix.netRingState 0 = 2 ∧ s.ringOpen.par Ix.netRingOpenings 0 = cntNext n := by
  unfold State.ringOpen
  rw [if_pos closed.par]
  exact ⟨(State.Has.cnt (.written s closed.wf) (by decide)).par, (State.Has.counted (h.setPar (by decide)) (by decide)).par⟩

/-- The state of a port whose link is lost, before PTP and the closer look at it. -/
def State.linkLost (s : State) (port : Nat) : State :=
  let s1 := s.setPar Ix.netLink port 0
  (s1.setPar Ix.clkReady 0 (putBit (s1.par Ix.clkReady 0) (4 + port) false)).setPar Ix.ptpPortState port 0

theorem State.ethDown_up {s : State} {port : Nat} (h : s.par Ix.netLink port ≠ 0) :
    s.ethDown port = ((s.linkLost port).setMaster ((s.linkLost port).ptpFollows (1 - port)) true).ringOpen := if_neg h

/-- PTP and the closer leave what tells of the link. -/
theorem State.Has.afterLink {s : State} {ix sub v : Nat} (h : s.Has ix sub v) (on : Bool)
    (e : ix = Ix.netLink ∨ ix = Ix.clkReady ∨ ix = Ix.ptpPortState) : ((s.setMaster on true).ringOpen).Has ix sub v := by
  obtain rfl | rfl | rfl := e <;> exact (h.same (State.setMaster_same ..) rfl).same (State.ringOpen_same ..) rfl

/-! ### Marks between chips -/

/-- The words of a MARK_OUT's body (R386). -/
def markBody (code origin num w2 lo mid : Nat) : List Word := [w32 (code * 65536 + origin), w32 num, w32 w2, w32 lo, w32 mid]

/-- A mark for this chip is taken with the numbers that its words spell (R387). -/
theorem execMarkOutRx_mine {s : State} {t dst code origin num w2 lo mid : Nat} {port : Fin 2} (peer : Nat) (up : s.portUp port = true)
    (serves : 7 < s.par Ix.startStep 0) (hc : code < 65536) (ho : origin < 65536) (hn : num < 2 ^ 32) (hw : w2 < 2 ^ 32)
    (hl : lo < 2 ^ 32) (hm : mid < 2 ^ 32) (on : s.par Ix.netMarkRxEnable 0 = 1) (us : dst = 65535 ∨ dst = s.par Ix.idChipNum 0)
    (theirs : origin ≠ s.par Ix.idChipNum 0) :
    execMarkOutRx t port dst 40 (markBody code origin num w2 lo mid) peer s
      = .next ((s.enter t).takeMark (s.enter t).now code origin num w2 lo mid) := by
  have up1 : (s.enter t).portUp port = true := up
  have serves1 : 7 < (s.enter t).par Ix.startStep 0 := serves
  have head : (w32 (code * 65536 + origin)).toNat = code * 65536 + origin :=
    (BitVec.toNat_ofNat _ _).trans (Nat.mod_eq_of_lt (by omega))
  have small {n : Nat} (h : n < 2 ^ 32) : (w32 n).toNat = n := (BitVec.toNat_ofNat _ _).trans (Nat.mod_eq_of_lt h)
  unfold execMarkOutRx markBody
  dsimp only
  rw [if_neg (by rw [up1]; simp only [Bool.not_true, Bool.false_eq_true, false_or]; omega), if_neg (by decide), head, small hn, small hw,
    small hl, small hm, show (code * 65536 + origin) % 65536 = origin by omega, show (code * 65536 + origin) / 65536 = code by omega]
  exact if_pos ⟨on, us, theirs⟩

/-- A MARK_OUT of another length is a partner violation (R387). -/
theorem execMarkOutRx_length {s : State} {t len : Nat} {port : Fin 2} (dst : Nat) (body : List Word) (peer : Nat)
    (up : s.portUp port = true) (serves : 7 < s.par Ix.startStep 0) (h : len ≠ 40) :
    execMarkOutRx t port dst len body peer s = .next ((s.enter t).partnerFault (1 + port) peer 16 4) := by
  have up1 : (s.enter t).portUp port = true := up
  have serves1 : 7 < (s.enter t).par Ix.startStep 0 := serves
  unfold execMarkOutRx
  dsimp only
  rw [if_neg (by rw [up1]; simp only [Bool.not_true, Bool.false_eq_true, false_or]; omega), if_pos h]

/-- A mark that has been here before is counted (R387). -/
theorem State.takeMark_again {s : State} {origin num : Nat} (t code w2 lo mid : Nat) (h : (origin, num) ∈ s.net.marks) :
    s.takeMark t code origin num w2 lo mid = s.cnt Ix.netMarkDuplicates 0 :=
  if_pos (List.contains_iff_mem.mpr h)

theorem fld_eq (n hi lo : Nat) : fld n hi lo = n / 2 ^ lo % 2 ^ (hi - lo + 1) := by
  rw [fld, Nat.shiftRight_eq_div_pow]

/-- A new mark is noted, and its record enters the store (R206, R387). -/
theorem State.takeMark_new {s : State} {origin num w2 lo mid : Nat} (t code : Nat) (hw : w2 < 2 ^ 32) (hl : lo < 2 ^ 32)
    (hm : mid < 2 ^ 32) (runs : s.merging = true) (h : (origin, num) ∉ s.net.marks) :
    (s.takeMark t code origin num w2 lo mid).net.marks = ((origin, num) :: s.net.marks).take 256
      ∧ (s.takeMark t code origin num w2 lo mid).cw.store
        = insertItem (.record (recMarkIn t code origin num (w2 / 65536 % 256) (w2 / 256 % 256) (w2 % 256)
          (w2 / 2 ^ 24 * 2 ^ 64 + mid * 2 ^ 32 + lo)) none) s.cw.store := by
  have f1 : fld w2 23 16 = w2 / 65536 % 256 := fld_eq ..
  have f2 : fld w2 15 8 = w2 / 256 % 256 := fld_eq ..
  have f3 : fld w2 7 0 = w2 % 256 := (fld_eq ..).trans (congrArg (· % 256) (Nat.div_one w2))
  have f4 : fld w2 31 24 = w2 / 2 ^ 24 := (fld_eq ..).trans (Nat.mod_eq_of_lt (by omega : w2 / 2 ^ 24 < 2 ^ 8))
  unfold State.takeMark
  rw [if_neg (fun c => h (List.contains_iff_mem.mp c)), f1, f2, f3, f4, Nat.mod_eq_of_lt hl, Nat.mod_eq_of_lt hm]
  let s1 : State := { s with net := { s.net with marks := ((origin, num) :: s.net.marks).take 256 } }
  have runs1 : s1.merging = true := runs
  exact ⟨congrArg NetSt.marks ((State.emit_same s1 _).net rfl), State.emit_store runs1 _⟩

/-- Settles O55: each frame by its length, its FCS and what it carries; the closer by its own frame, the timeout and the link; the
marks by their words. -/
theorem ethernet : Obligations.Ethernet := by
  intro s t len dst level num w2 lo mid code origin peer port fcsOk body inv s1 live opens ws small heard mine
  have wf : Dict.wf s1.dict := inv.2.1
  have ringOpens {u : State} (hd : u.dict = s1.dict) (closed : s.par Ix.netRingState 0 = 1) : opens u.ringOpen :=
    State.ringOpen_opens (.dict ⟨wf, closed⟩ hd) (.dict (.start wf) hd)
  refine ⟨?_, ?_, ?_, ?_, ?_, ?_, ?_, ?_, ?_, ?_, ?_⟩
  · rintro ⟨up, good⟩ long
    exact ⟨_, execEthFrameRx_long up good long _ _ _, (State.cnt_frame ..).out rfl, (State.Has.counted (.start wf) (by decide)).par⟩
  · rintro ⟨up, good⟩ low high ring send
    refine ⟨_, (execEthFrameRx_fits up good low high .other fcsOk .other).trans (congrArg Host.Outcome.next (if_neg (fun h => h.2 rfl))), ?_⟩
    have ring1 : (s1.frameChecked port fcsOk).par Ix.netRingState 0 ≠ 1 :=
      fun e => ring (((State.Has.start wf).frameChecked port fcsOk (by decide)).par.symm.trans e)
    have send1 : (s1.frameChecked port fcsOk).canSend (1 - port.val) = true := (State.frameChecked_canSend wf _ _ _).trans send
    rw [State.frameForwarded_other ring1 send1]
    cases fcsOk with
    | true => exact ⟨rfl, rfl⟩
    | false =>
      exact ⟨congrArg (· ++ [Out.forward (1 - port.val) true]) ((State.cnt_frame s1 Ix.netFcsErrors port).out rfl),
        (State.Has.counted (.start wf) (by decide)).par⟩
  · rintro ⟨up, good⟩ low high
    refine ⟨_, execEthFrameRx_fits up good low high _ _ _, ?_⟩
    rw [if_pos ⟨rfl, by decide⟩]
    exact (State.esmcLevel_has (by rw [State.frameForwarded_dict]; exact wf) port level).par
  · rintro ⟨up, good⟩ low high rfl role
    refine ⟨_, execEthFrameRx_fits up good low high _ _ _, ?_⟩
    rw [if_pos ⟨rfl, by decide⟩]
    have stays : (s1.frameChecked 1 true).frameForwarded 1 .group true .ringTest = s1 := by
      unfold State.frameForwarded State.forwards
      rw [if_neg (by simp)]
      rfl
    rw [stays]
    show (s1.testFrame 1).par Ix.netRingState 0 = 1 ∧ (s1.testFrame 1).net.testSeen = s1.now
    rw [State.testFrame, if_pos ⟨role, rfl⟩]
    exact ⟨par_setPar_self s1 Ix.netRingState 0 1 wf, rfl⟩
  · intro role send
    exact ⟨_, if_pos ⟨role, send⟩, rfl⟩
  · intro closed silent
    exact ⟨_, if_pos silent, ringOpens rfl closed⟩
  · intro up
    have known (ix sub v : Nat) (h : s1.Has ix sub v) (e : ix ≠ Ix.netLink ∧ ix ≠ Ix.clkReady ∧ ix ≠ Ix.ptpPortState) :
        (s1.linkLost port).Has ix sub v := ((h.setPar e.1).setPar e.2.1).setPar e.2.2
    have link : (s1.linkLost port).Has Ix.netLink port 0 :=
      ((State.Has.written s1 wf).setPar (by decide)).setPar (by decide)
    have ready : (s1.linkLost port).Has Ix.clkReady 0 (putBit (s1.par Ix.clkReady 0) (4 + port) false) := by
      have e : (s1.setPar Ix.netLink port 0).par Ix.clkReady 0 = s1.par Ix.clkReady 0 := ((State.Has.start wf).setPar (by decide)).par
      rw [← e]
      exact (State.Has.written _ (dictWf_setPar _ _ _ _ wf)).setPar (by decide)
    have ptp : (s1.linkLost port).Has Ix.ptpPortState port 0 :=
      .written _ (dictWf_setPar _ _ _ _ (dictWf_setPar _ _ _ _ wf))
    refine ⟨s1.ethDown port, rfl, ?_⟩
    rw [State.ethDown_up (by rw [show s1.par Ix.netLink port = 1 from up]; decide)]
    exact ⟨(link.afterLink _ (by decide)).par, (ready.afterLink _ (by decide)).ready (by omega) (bit_putBit_self ..),
      (ptp.afterLink _ (by decide)).par, fun closed => State.ringOpen_opens
        ((known _ _ _ ⟨wf, closed⟩ (by decide)).same (State.setMaster_same ..) rfl)
        ((known _ _ _ (.start wf) (by decide)).same (State.setMaster_same ..) rfl)⟩
  · intro enabled good
    exact ⟨_, if_pos ⟨enabled, good⟩, par_setPar_self _ _ _ _ wf⟩
  · rintro ⟨up, serves⟩ ⟨⟨hc, ho, hn, hw, hl, hm⟩, on, us, theirs⟩ clock power new
    exact ⟨_, execMarkOutRx_mine peer up serves hc ho hn hw hl hm on us theirs, State.takeMark_new _ _ hw hl hm
      (by unfold State.merging; rw [show s1.tpll = true from clock, show s1.par Ix.pwrState 0 = s.par Ix.pwrState 0 from rfl, decide_eq_true power]; rfl) new⟩
  · rintro ⟨up, serves⟩ ⟨⟨hc, ho, hn, hw, hl, hm⟩, on, us, theirs⟩ again
    refine ⟨_, execMarkOutRx_mine peer up serves hc ho hn hw hl hm on us theirs, ?_⟩
    rw [State.takeMark_again _ _ _ _ _ (show (origin, num) ∈ s1.net.marks from again)]
    exact ⟨(State.Has.counted (.start wf) (by decide)).par, (State.cnt_frame ..).cw rfl⟩
  · rintro ⟨up, serves⟩ other
    exact ⟨_, execMarkOutRx_length dst ws peer up serves other, par_partnerFault_kindCount _ _ _ _ _ wf,
      (State.partnerFault_same ..).cw rfl⟩

end Sys2Proof.Machine
end
section
/-! SUPPORT. A queued change at its boundary (R148 to R150): what the queue and the store keep, the value in force. -/
namespace Sys2Proof.Machine

/-! ### The queue and the store -/

/-- An item enters the store and displaces none. -/
theorem mem_insertItem {x y : Item} {l : List Item} (h : y = x ∨ y ∈ l) : y ∈ insertItem x l := by
  induction l with
  | nil => exact List.mem_singleton.mpr (h.resolve_right List.not_mem_nil)
  | cons z l ih =>
    rw [insertItem]
    split
    · exact List.mem_cons.mpr h
    · obtain rfl | m := h
      · exact List.mem_cons_of_mem _ (ih (.inl rfl))
      · obtain rfl | m := List.mem_cons.mp m
        · exact List.mem_cons_self
        · exact List.mem_cons_of_mem _ (ih (.inr m))

/-- The queue is the same, and every control item of the store still stands there. -/
structure Queued (s t : State) : Prop where
  queue : t.cw.queue = s.cw.queue
  store : ∀ e c, Item.ctl e c ∈ s.cw.store → Item.ctl e c ∈ t.cw.store

namespace Queued

variable {s u t a b : State}

theorem refl (s : State) : Queued s s := ⟨rfl, fun _ _ h => h⟩

theorem trans (h : Queued s u) (g : Queued u t) : Queued s t := ⟨g.queue.trans h.queue, fun e c m => g.store e c (h.store e c m)⟩

theorem of_cw (h : t.cw = s.cw) : Queued s t := ⟨congrArg CwSt.queue h, fun _ _ m => by rw [h]; exact m⟩

theorem of_same {m : Nat} (h : Same m s t) (hb : m.testBit 25 = false) : Queued s t := .of_cw (h.cw hb)

theorem ite {c : Prop} [Decidable c] (ha : Queued s a) (hb : Queued s b) : Queued s (if c then a else b) := by
  split <;> assumption

theorem foldl {α : Type} {f : State → α → State} (hf : ∀ v x, Queued v (f v x)) (l : List α) (s : State) : Queued s (l.foldl f s) :=
  foldl_keeps (I := Queued s) (fun u x h => h.trans (hf u x)) l s (refl s)

end Queued

theorem State.setAt_queued (s : State) (t ix sub v : Nat) : Queued s (s.setAt t ix sub v) := ⟨rfl, fun _ _ h => h⟩

theorem State.store_cw (s : State) (x : Item) : (s.store x).cw = { s.cw with store := insertItem x s.cw.store } := State.mark_cw ..

theorem State.store_queued (s : State) (x : Item) : Queued s (s.store x) := by
  constructor <;> rw [State.store_cw]
  exact fun _ _ h => mem_insertItem (.inr h)

theorem State.admitItem_queued (s : State) (x : Item) : Queued s (s.admitItem x) := by
  constructor <;> rw [State.admitItem_cw]
  exact fun _ _ h => mem_insertItem (.inr h)

theorem State.emitItem_queued (s : State) (x : Item) : Queued s (s.emitItem x) := .ite (s.admitItem_queued x) ⟨rfl, fun _ _ h => h⟩

theorem State.tellConfig_queued (s : State) (e ix sub v : Nat) : Queued s (s.tellConfig e ix sub v) := s.emitItem_queued _

theorem State.laneRecord_queued (s : State) (r : Rec) : Queued s (s.laneRecord r) :=
  .ite (.of_same (State.buffer_same ..) rfl) ⟨rfl, fun _ _ h => h⟩

theorem State.laneStateRecord_queued (s : State) (lane t : Nat) : Queued s (s.laneStateRecord lane t) := by
  have h : Queued s (s.setPar Ix.laneState lane (s.laneCode lane)) := .of_cw rfl
  exact h.trans (State.laneRecord_queued ..)

theorem State.laneStatus_queued (s : State) (lane kind low w2 t : Nat) : Queued s (s.laneStatus lane kind low w2 t) :=
  .ite (s.laneRecord_queued _) (.refl s)

theorem State.conditionsOf_queued (s : State) (lane t : Nat) : Queued s (s.conditionsOf lane t) := by
  have one (v u : State) (c : Bool) (kind low w2 : Nat) (h : Queued v u) : Queued v (if c then u.laneStatus lane kind low w2 t else u) :=
    .ite (h.trans (u.laneStatus_queued ..)) h
  unfold State.conditionsOf
  extract_lets p one' s1 s2 s3
  have h1 : Queued s s1 := .foldl (fun v k => one v _ _ _ _ _ (one v v _ _ _ _ (.refl v))) _ s
  have h3 : Queued s s3 := one _ _ _ _ _ _ (one _ _ _ _ _ _ h1)
  exact h3.trans (.foldl (fun v pin => one v v _ _ _ _ (.refl v)) _ _)

theorem State.laneStart_queued (s : State) (lane t : Nat) : Queued s (s.laneStart lane t) := by
  unfold State.laneStart
  extract_lets e s1 i s2
  have h1 : Queued s s1 := .of_cw rfl
  have h2 : Queued s s2 := (h1.trans (State.laneStateRecord_queued ..)).trans (State.store_queued ..)
  exact h2.trans (.of_same (State.caiTouch_same ..) rfl)

theorem State.laneEnable_queued (s : State) (lane t : Nat) : Queued s (s.laneEnable lane t) := by
  have started : Queued s ((s.laneStart lane t).conditionsOf lane t) := (s.laneStart_queued lane t).trans (State.conditionsOf_queued ..)
  exact .ite (.ite (started.trans (.of_same (State.convStart_same ..) rfl)) started) (s.laneStateRecord_queued ..)

theorem State.tellStream_queued (s : State) (n e ix : Nat) : Queued s (s.tellStream n e ix) := s.emitItem_queued _

/-- The record that stood for all streams makes place for one of each other stream and this one's own. -/
theorem State.emitStart_queued (s : State) (n t : Nat) : Queued s (s.emitStart n t) := by
  unfold State.emitStart
  extract_lets owed common q e mine c1 s1
  have h1 : Queued s s1 := .of_cw rfl
  clear_value common
  split
  · extract_lets c x s2 s3
    have h2 : Queued s1 s2 := ⟨rfl, fun e c m => (List.mem_erase_of_ne (b := x) (by simp [x])).mpr m⟩
    have h3 : Queued s1 s3 := h2.trans (.foldl (fun v k => v.emitItem_queued _) _ s2)
    exact h1.trans (h3.trans (State.emitItem_queued ..))
  · exact h1.trans (State.emitItem_queued ..)

/-! ### The boundary of a single change -/

/-- The state with nothing queued. -/
def State.unqueued (s : State) : State := { s with cw := { s.cw with queue := [] } }

theorem phases_single (c : Change) :
    [0, 1, 2, 3, 4].flatMap (fun k => (withLater [c]).filter (fun d => decide (d.1.phase = k))) = [(c, [])] := by
  have phase : c.phase = 0 ∨ c.phase = 1 ∨ c.phase = 2 ∨ c.phase = 3 ∨ c.phase = 4 := by
    unfold Change.phase
    split
    · decide
    · split
      · decide
      · split
        · split <;> decide
        · decide
  obtain h | h | h | h | h := phase <;> simp [withLater, h]

/-- A change that is queued alone takes effect at its boundary. -/
theorem State.boundary_single {s : State} {c : Change} (reads : List (Fin 48 × Int × Int)) (hq : s.cw.queue = [c]) :
    s.boundary reads c.eff = s.unqueued.changeEffect reads (c, []) := by
  have mine : [c].filter (fun d => decide (d.eff = c.eff)) = [c] := List.filter_cons_of_pos (decide_eq_true rfl)
  have rest : [c].filter (fun d => decide (d.eff ≠ c.eff)) = [] := List.filter_cons_of_neg (by simp)
  unfold State.boundary
  dsimp only
  rw [hq, mine, rest, phases_single]
  rfl

theorem execConfigEffect_single {s : State} {t : Nat} {c : Change} (started : 8 < s.par Ix.startStep 0) (due : c.eff ≤ (s.enter t).now)
    (hq : s.cw.queue = [c]) : execConfigEffect t [] s = .next ((s.enter t).unqueued.changeEffect [] (c, [])) := by
  have hq1 : (s.enter t).cw.queue = [c] := hq
  have come : (s.enter t).boundariesDue = [c.eff] := by
    have all : [c].filter (fun d => decide (d.eff ≤ (s.enter t).now)) = [c] := List.filter_cons_of_pos (decide_eq_true due)
    unfold State.boundariesDue
    rw [hq1, all]
    rfl
  have started1 : 8 < (s.enter t).par Ix.startStep 0 := started
  unfold execConfigEffect
  dsimp only
  rw [if_neg (Nat.not_le.mpr started1), come, List.foldl_cons, List.foldl_nil, State.boundary_single [] hq1]

/-- Before their boundary, and up to step 8 of start-up, queued changes wait. -/
theorem execConfigEffect_waits {s : State} {t : Nat} (h : (s.cw.queue.all fun c => decide ((s.enter t).now < c.eff)) = true
    ∨ s.par Ix.startStep 0 ≤ 8) : execConfigEffect t [] s = .next (s.enter t) := by
  unfold execConfigEffect
  dsimp only
  split
  · rfl
  · next started =>
    have ahead := h.resolve_right started
    have none_ : (s.enter t).boundariesDue = [] := by
      unfold State.boundariesDue
      rw [List.filter_eq_nil_iff.mpr (fun c hc => by
        have later := of_decide_eq_true (List.all_eq_true.mp ahead c hc)
        exact fun k => Nat.not_le.mpr later (of_decide_eq_true k))]
      rfl
    rw [none_]
    rfl

/-- A change of one instance, with none after it: the value, and its CONFIG record where it changed the one in force. -/
theorem State.changeEffect_single {s : State} {e ix sub v : Nat} (command : boundaryCommand ix = false) (single : sub < 255) :
    s.changeEffect [] (⟨e, ix, sub, v⟩, []) = if (s.takeChange e ix sub sub v).2 then (s.takeChange e ix sub sub v).1.tellConfig e ix sub v
      else (s.takeChange e ix sub sub v).1 := by
  unfold State.changeEffect State.rwlChange
  dsimp only
  have stands : s.stands [] ix sub = true := rfl
  rw [if_neg (by rw [command]; decide), if_neg (fun h => Nat.ne_of_lt single h.2), if_pos stands]

/-- The effect of a change, queued alone and due, by what the instance takes. -/
theorem completes_of_takeChange {s : State} {t e ix sub v : Nat} {x : State} {b : Bool} {P : State → Prop}
    (command : boundaryCommand ix = false) (single : sub < 255) (runs : 8 < s.par Ix.startStep 0 ∧ e ≤ (s.enter t).now)
    (hq : s.cw.queue = [⟨e, ix, sub, v⟩]) (takes : (s.enter t).unqueued.takeChange e ix sub sub v = (x, b))
    (h : P (if b then x.tellConfig e ix sub v else x)) : Completes (.configEffect t []) s P := by
  refine ⟨_, (execConfigEffect_single runs.1 runs.2 hq).trans (congrArg Host.Outcome.next (State.changeEffect_single command single)), ?_⟩
  rw [takes]
  exact h

end Sys2Proof.Machine
end
section
/-! SUPPORT. What the enables and a plain value take at their boundary (R79, R86, R150, R178, R231, R242). -/
namespace Sys2Proof.Machine

/-! ### A plain value -/

theorem State.emit_cw {s : State} (h : s.merging = true) (r : Rec) :
    (s.emit r).cw = { s.cw with store := insertItem (.record r none) s.cw.store } := by
  unfold State.emit State.emitItem
  rw [if_pos h, State.admitItem_cw]

/-- CW.HORIZON is one of the values that nothing follows from. -/
theorem State.takeChange_horizon {s : State} {e v : Nat} (h : s.par Ix.cwHorizon 0 ≠ v) :
    s.takeChange e Ix.cwHorizon 0 0 v = (s.setAt e Ix.cwHorizon 0 v, true) := by
  unfold State.takeChange State.plainEffect
  dsimp only
  rw [if_neg (by decide), if_neg h, if_neg (by decide), if_neg (by decide), if_neg (by decide), if_neg (by decide), if_neg (by decide),
    if_neg (by decide), if_neg (by decide), if_neg (by decide), if_neg (by decide), if_neg (by decide), if_neg (by decide),
    if_neg (by decide), if_neg (by decide), if_neg (by decide), if_neg (fun k => absurd k.1 (by decide)), if_neg (by decide)]

/-- The value in force from the boundary on, the value before it kept, the record stored. -/
theorem State.horizon_tells {s : State} {e v : Nat} (w : Dict.wf s.dict) (clock : s.tpll = true) (power : 2 ≤ s.par Ix.pwrState 0) :
    ((s.setAt e Ix.cwHorizon 0 v).tellConfig e Ix.cwHorizon 0 v).par Ix.cwHorizon 0 = v
      ∧ ((s.setAt e Ix.cwHorizon 0 v).tellConfig e Ix.cwHorizon 0 v).cw
        = { s.cw with
            past := s.cw.past ++ [⟨e, key Ix.cwHorizon 0, s.par Ix.cwHorizon 0⟩]
            store := insertItem (.record (recConfig e Ix.cwHorizon 0 1 v) none) s.cw.store } := by
  have on : (s.setAt e Ix.cwHorizon 0 v).Has Ix.cwHorizon 0 v := .setAt e _ _ _ w
  have pwr : (s.setAt e Ix.cwHorizon 0 v).par Ix.pwrState 0 = s.par Ix.pwrState 0 :=
    par_setPar_other (s.noteChange e _) _ _ _ _ _ w (by decide)
  have runs : (s.setAt e Ix.cwHorizon 0 v).merging = true := by
    unfold State.merging
    rw [show (s.setAt e Ix.cwHorizon 0 v).tpll = true from clock, pwr, decide_eq_true power]
    rfl
  refine ⟨(on.same (State.tellConfig_same ..) rfl).par, ?_⟩
  have words : ((paramOf Ix.cwHorizon).map (fun p => p.ty.words)).getD 1 = 1 := by decide
  unfold State.tellConfig
  dsimp only
  rw [words, State.emit_cw runs]
  rfl

/-! ### A lane -/

/-- A change to 1 of a lane's enable goes through the route check of its pier. -/
theorem State.takeChange_lane {s : State} {e l : Nat} (h : s.par Ix.laneEnable l = 0) :
    s.takeChange e Ix.laneEnable l l 1 = s.routed e Ix.laneEnable l l (l / 8)
      { s.pierOn (l / 8) with lanes := (s.pierOn (l / 8)).lanes ++ [l] } (fun u => u.laneEnable l e) := by
  unfold State.takeChange State.laneSwitch
  dsimp only
  rw [if_neg (by decide), if_neg (by rw [h]; decide), if_pos rfl, if_neg (by decide)]

theorem State.routed_passes {s : State} {e ix sub slot pier : Nat} {on : PierOn} (act : State → State)
    (h : s.routeCheck pier on = none) : s.routed e ix sub slot pier on act = (act (s.setAt e ix sub 1), true) := by
  unfold State.routed
  rw [h]

theorem State.routed_fails {s : State} {e ix sub slot pier : Nat} {on : PierOn} {f : Nat × Nat × Nat} (act : State → State)
    (h : s.routeCheck pier on = some f) :
    s.routed e ix sub slot pier on act = ((s.routeRefused pier f).routeConflict e ix slot, false) := by
  unfold State.routed
  rw [h]

/-- An enabled lane of an awake pier records that it runs. -/
theorem State.laneStateRecord_on {s : State} {lane t : Nat} (on : s.Has Ix.laneEnable lane 1) (awake : s.awake (lane / 8) = true) :
    (s.laneStateRecord lane t).Has Ix.laneState lane 1 := by
  have code : s.laneCode lane = 1 := by
    unfold State.laneCode State.laneOn
    rw [on.par, awake]
    rfl
  unfold State.laneStateRecord
  rw [code]
  exact .same (.written s on.wf) (State.laneRecord_same ..) rfl

/-- The lane begins to run: its enable stays, its state says so, its run is from `t` on. -/
theorem State.laneStart_runs {s : State} {lane t : Nat} (on : s.Has Ix.laneEnable lane 1) (awake : s.awake (lane / 8) = true) :
    (s.laneStart lane t).Has Ix.laneState lane 1 ∧ (s.laneStart lane t).runOf lane = (s.runOf lane).begin_ t := by
  unfold State.laneStart
  extract_lets e s1 i s2
  have on1 : s1.Has Ix.laneEnable lane 1 := on.dict rfl
  have running : s2.runOf lane = (s.runOf lane).begin_ t := by
    have run1 : s1.runOf lane = (s.runOf lane).begin_ t := tget_tset ..
    have kept : s2.run = s1.run := ((State.store_same ..).run rfl).trans ((State.laneStateRecord_same ..).run rfl)
    rw [← run1, State.runOf, kept]
    rfl
  have told : s2.Has Ix.laneState lane 1 := (State.laneStateRecord_on on1 awake).same (State.store_same ..) rfl
  refine ⟨told.same (State.caiTouch_same ..) rfl, ?_⟩
  rw [← running, State.runOf, (State.caiTouch_same ..).run rfl]
  rfl

/-- The same of the whole enable of a lane of an awake pier. -/
theorem State.laneEnable_runs {s : State} {lane t : Nat} (on : s.Has Ix.laneEnable lane 1) (awake : s.awake (lane / 8) = true) :
    (s.laneEnable lane t).Has Ix.laneEnable lane 1 ∧ (s.laneEnable lane t).Has Ix.laneState lane 1
      ∧ (s.laneEnable lane t).runOf lane = (s.runOf lane).begin_ t := by
  obtain ⟨state, running⟩ := State.laneStart_runs (t := t) on awake
  have cond : ((s.laneStart lane t).conditionsOf lane t).Has Ix.laneState lane 1
      ∧ ((s.laneStart lane t).conditionsOf lane t).runOf lane = (s.runOf lane).begin_ t :=
    ⟨state.same (State.conditionsOf_same ..) rfl, by rw [← running, State.runOf, (State.conditionsOf_same ..).run rfl]; rfl⟩
  refine ⟨on.same (State.laneEnable_same ..) rfl, ?_⟩
  unfold State.laneEnable
  rw [if_pos awake]
  dsimp only
  split
  · exact ⟨cond.1.same (State.convStart_same ..) rfl, by rw [← cond.2, State.runOf, (State.convStart_same ..).run rfl]; rfl⟩
  · exact cond

/-! ### A stream -/

/-- The check of a stream is one verdict after another: the history's region where the span's has passed. -/
theorem State.streamRegions_eq (s : State) (n : Nat) : ∃ f g, s.streamRegions n =
    if (s.regionVerdict 0 n f).2 then s.regionVerdict 1 n g else s.regionVerdict 0 n f := ⟨_, _, rfl⟩

theorem State.regionVerdict_true {s : State} {kind owner : Nat} {f : Option (Nat × Nat)} (h : (s.regionVerdict kind owner f).2 = true) :
    s.regionVerdict kind owner f = (s, true) := by
  cases f with
  | none => rfl
  | some f => exact Bool.noConfusion (h : false = true)

theorem State.regionVerdict_false {s : State} {kind owner : Nat} {f : Option (Nat × Nat)} (h : (s.regionVerdict kind owner f).2 = false)
    (w : Dict.wf s.dict) :
    (s.regionVerdict kind owner f).1.Has Ix.spanRegionRefused 0 (cntNext (s.par Ix.spanRegionRefused 0)) := by
  cases f with
  | none => exact Bool.noConfusion (h : true = false)
  | some f => exact ((State.Has.start w).counted (by decide)).setPar (by decide)

/-- A stream whose regions pass leaves no trace of the check. -/
theorem State.streamRegions_passes {s : State} {n : Nat} (h : (s.streamRegions n).2 = true) : s.streamRegions n = (s, true) := by
  obtain ⟨f, g, e⟩ := s.streamRegions_eq n
  rw [e] at h ⊢
  split at h
  · next ok => rw [if_pos ok, State.regionVerdict_true h]
  · next fails => exact absurd h fails

/-- One whose regions fail is counted once (R242). -/
theorem State.streamRegions_fails {s : State} {n : Nat} (h : (s.streamRegions n).2 = false) (w : Dict.wf s.dict) :
    (s.streamRegions n).1.Has Ix.spanRegionRefused 0 (cntNext (s.par Ix.spanRegionRefused 0)) := by
  obtain ⟨f, g, e⟩ := s.streamRegions_eq n
  rw [e] at h ⊢
  split at h
  · next ok => rw [if_pos ok]; exact State.regionVerdict_false h w
  · next fails => rw [if_neg fails]; exact State.regionVerdict_false h w

/-- The verdict does not read what a change of the queue moves. -/
theorem State.streamRegions_unqueued (s : State) (t n : Nat) : ((s.enter t).unqueued.streamRegions n).2 = (s.streamRegions n).2 := by
  unfold State.streamRegions
  dsimp only
  rw [apply_ite Prod.snd, apply_ite Prod.snd, State.regionVerdict_passes, State.regionVerdict_passes, State.regionVerdict_passes,
    State.regionVerdict_passes]
  rfl

theorem State.takeChange_stream {s : State} {e n : Nat} (h : s.par Ix.streamEnable n = 0) :
    s.takeChange e Ix.streamEnable n n 1 = streamRuns e n (s.streamRegions n) := by
  unfold State.takeChange State.streamSwitch
  dsimp only
  rw [if_neg (by decide), if_neg (by rw [h]; decide), if_neg (by decide), if_neg (by decide), if_neg (by decide), if_neg (by decide),
    if_neg (by decide), if_neg (by decide), if_neg (by decide), if_pos rfl, if_neg (by decide)]

/-- A pending load is no longer one. -/
theorem State.stopLoad_load (s : State) : s.stopLoad.time.load = none := by
  unfold State.stopLoad
  split
  · exact congrArg TimeSt.load ((State.cnt_frame ..).time rfl)
  · next h => exact Option.not_isSome_iff_eq_none.mp h

/-- The start of a stream leaves a pending load as it is. -/
theorem State.emitStart_load (s : State) (n t : Nat) : (s.emitStart n t).time.load = s.time.load := by
  unfold State.emitStart
  extract_lets owed common q e mine c1 s1
  have item (u : State) (x : Item) : (u.emitItem x).time = u.time := (State.emitItem_same u x).time rfl
  clear_value common
  split
  · extract_lets c x s2 s3
    have h3 : s3.time = s2.time := foldl_keeps (I := fun u : State => u.time = s2.time) (fun u k h => (item u _).trans h) _ s2 rfl
    rw [item, h3]
  · rw [item]

/-- A stream that starts is RUNNING and its beginning stands in the store. -/
theorem State.streamStarts_runs {s : State} {e n : Nat} (w : Dict.wf s.dict) : Queued s (s.streamStarts e n false)
    ∧ (s.streamStarts e n false).Has Ix.streamState n 1 ∧ Item.ctl e (.streamOn n false) ∈ (s.streamStarts e n false).cw.store
    ∧ (s.time.load = none → (s.streamStarts e n false).time.load = none) := by
  unfold State.streamStarts
  extract_lets s1 s2
  rw [if_neg (by decide)]
  let s0 := (s.setPar Ix.streamState n 1).setPar Ix.spanState n 0
  have state0 : s0.Has Ix.streamState n 1 := (State.Has.written s w).setPar (by decide)
  have q1 : Queued s s1 := .trans (u := s0) (.of_cw rfl) (State.store_queued ..)
  have begun : Item.ctl e (.streamOn n false) ∈ s1.cw.store := by
    show _ ∈ (s0.store _).cw.store
    rw [State.store_cw]
    exact mem_insertItem (.inl rfl)
  have q2 : Queued s1 s2 := ((State.emitStart_queued ..).trans (State.tellStream_queued ..)).trans (State.tellStream_queued ..)
  have told : Same mask22 (s1.emitStart n e) s2 := (State.tellStream_same ..).next (State.tellStream_same ..)
  refine ⟨q1.trans q2, ?_, q2.store _ _ begun, fun h => ?_⟩
  · exact ((state0.same (State.store_same ..) rfl).same (State.emitStart_same ..) rfl).same told rfl
  · rw [told.time rfl, State.emitStart_load, (State.store_same ..).time rfl]
    exact h

/-! ### A sequencer -/

theorem State.takeChange_seq {s : State} {e k : Nat} (h : s.par Ix.keyEnable k = 0) :
    s.takeChange e Ix.keyEnable k k 1 = s.seqSwitch e k 1 := by
  unfold State.takeChange
  dsimp only
  rw [if_neg (by decide), if_neg (by rw [h]; decide), if_neg (by decide), if_neg (by decide), if_neg (by decide), if_neg (by decide),
    if_neg (by decide), if_neg (by decide), if_pos rfl]

theorem State.seqSwitch_passes {s : State} {e k : Nat} (h : s.seqFails k = none) :
    s.seqSwitch e k 1 = ((s.stopLoad.setAt e Ix.keyEnable k 1).store (.ctl e (.seq k true)), true) := by
  unfold State.seqSwitch
  rw [if_neg (by decide), h]

theorem State.seqSwitch_fails {s : State} {e k : Nat} {f : Nat × Nat × Nat} (h : s.seqFails k = some f) :
    s.seqSwitch e k 1 = (s.keyRefused k f.1 k f.2.1 f.2.2, false) := by
  unfold State.seqSwitch
  rw [if_neg (by decide), h]

/-- Settles O44: the boundary of a single change, by what each kind of instance takes. -/
theorem configEffects : Obligations.ConfigEffects := by
  intro s t e v l n k f inv s1 runs pier on route
  have wf : Dict.wf s1.unqueued.dict := inv.2.1
  have lane : l.val < 255 := Nat.lt_trans l.isLt (by decide)
  have stream : n.val < 255 := Nat.lt_trans n.isLt (by decide)
  have seq : k.val < 255 := Nat.lt_trans k.isLt (by decide)
  refine ⟨fun due hq new clock power => ?_, fun due hq off awake passes => ?_, fun due hq off fails => ?_, fun due hq off passes => ?_,
    fun due hq off fails => ?_, fun due hq off => ?_, fun waits => ?_⟩
  · obtain ⟨value, cw⟩ := State.horizon_tells (s := s1.unqueued) (e := e) (v := v) wf clock power
    refine completes_of_takeChange rfl (by decide) due hq (State.takeChange_horizon new.symm) ?_
    refine ⟨?_, value, ?_, ?_⟩ <;> rw [if_pos rfl, cw] <;> rfl
  · have check : s1.unqueued.routeCheck (l / 8) { s1.unqueued.pierOn (l / 8) with lanes := (s1.unqueued.pierOn (l / 8)).lanes ++ [l.val] }
        = none := passes
    have took := (State.takeChange_lane (s := s1.unqueued) (e := e) (l := l) off).trans (State.routed_passes _ check)
    have set_ : (s1.unqueued.setAt e Ix.laneEnable l 1).Has Ix.laneEnable l 1 := .setAt e _ _ _ wf
    have up : (s1.unqueued.setAt e Ix.laneEnable l 1).awake (l / 8) = true := by
      have pwr : (s1.unqueued.setAt e Ix.laneEnable l 1).par Ix.pwrPierState (l / 8) = s1.unqueued.par Ix.pwrPierState (l / 8) :=
        par_setPar_other (s1.unqueued.noteChange e _) _ _ _ _ _ wf (by decide)
      unfold State.awake
      rw [pwr]
      exact awake
    obtain ⟨enabled, state, running⟩ := State.laneEnable_runs (t := e) set_ up
    refine completes_of_takeChange rfl lane due hq took ?_
    rw [if_pos rfl]
    have told := State.tellConfig_same ((s1.unqueued.setAt e Ix.laneEnable l 1).laneEnable l e) e Ix.laneEnable l 1
    have kept : (((s1.unqueued.setAt e Ix.laneEnable l 1).laneEnable l e).tellConfig e Ix.laneEnable l 1).runOf l
        = ((s1.unqueued.setAt e Ix.laneEnable l 1).runOf l).begin_ e := by
      rw [← running, State.runOf, told.run rfl]
      rfl
    refine ⟨?_, (enabled.same told rfl).par, (state.same told rfl).par, by rw [kept]; rfl, by rw [kept]; rfl⟩
    exact (((s1.unqueued.setAt_queued ..).trans (State.laneEnable_queued ..)).trans (State.tellConfig_queued ..)).queue
  · have check : s1.unqueued.routeCheck (l / 8) { s1.unqueued.pierOn (l / 8) with lanes := (s1.unqueued.pierOn (l / 8)).lanes ++ [l.val] }
        = some f := fails
    have took := (State.takeChange_lane (s := s1.unqueued) (e := e) (l := l) off).trans (State.routed_fails _ check)
    refine completes_of_takeChange rfl lane due hq took ?_
    rw [if_neg (by decide)]
    have counted : ((s1.unqueued.routeRefused (l / 8) f)).Has Ix.pierRouteRefused (l / 8) (cntNext (s1.unqueued.par Ix.pierRouteRefused (l / 8))) :=
      ((State.Has.start wf).counted (by decide)).setPar (by decide)
    have last : (s1.unqueued.routeRefused (l / 8) f).Has Ix.pierRouteLast (l / 8) (f.1 * 65536 + f.2.1 * 256 + f.2.2) :=
      .written _ (dictWf_cnt _ _ _ wf)
    have kept : (s1.unqueued.routeRefused (l / 8) f).Has Ix.laneEnable l 0 := State.Has.same ⟨wf, off⟩ (State.routeRefused_same ..) rfl
    have cw : (s1.unqueued.routeRefused (l / 8) f).cw = s1.unqueued.cw := (State.routeRefused_same ..).cw rfl
    exact ⟨congrArg CwSt.queue cw, kept.par, (State.routeRefused_same s1.unqueued (l / 8) f).run rfl, counted.par, last.par⟩
  · have regions : s1.unqueued.streamRegions n = (s1.unqueued, true) := State.streamRegions_passes ((s.streamRegions_unqueued t n).trans passes)
    let u := s1.unqueued.stopLoad.setAt e Ix.streamEnable n 1
    have took : s1.unqueued.takeChange e Ix.streamEnable n n 1 = (u.streamStarts e n false, true) :=
      (State.takeChange_stream (s := s1.unqueued) off).trans (by rw [regions]; rfl)
    have wl : Dict.wf s1.unqueued.stopLoad.dict := (State.stopLoad_same _).dictWf wf
    have set_ : u.Has Ix.streamEnable n 1 := .setAt e _ _ _ wl
    obtain ⟨queued, state, begun, load⟩ := State.streamStarts_runs (s := u) (e := e) (n := n) set_.wf
    refine completes_of_takeChange rfl stream due hq took ?_
    rw [if_pos rfl]
    have told := State.tellConfig_same (u.streamStarts e n false) e Ix.streamEnable n 1
    have keeps := State.tellConfig_queued (u.streamStarts e n false) e Ix.streamEnable n 1
    have q0 : Queued s1.unqueued u := .trans (.of_same (State.stopLoad_same _) rfl) (State.setAt_queued ..)
    refine ⟨((q0.trans queued).trans keeps).queue, ((set_.same (State.streamStarts_same ..) rfl).same told rfl).par,
      (state.same told rfl).par, keeps.store _ _ begun, ?_⟩
    rw [told.time rfl]
    exact load (State.stopLoad_load _)
  · have failed : (s1.unqueued.streamRegions n).2 = false := (s.streamRegions_unqueued t n).trans fails
    have took : s1.unqueued.takeChange e Ix.streamEnable n n 1 = ((s1.unqueued.streamRegions n).1, false) :=
      (State.takeChange_stream (s := s1.unqueued) off).trans (by unfold streamRuns; rw [failed]; rfl)
    have same := State.streamRegions_same s1.unqueued n
    refine completes_of_takeChange rfl stream due hq took ?_
    rw [if_neg (by decide)]
    exact ⟨congrArg CwSt.queue (same.cw rfl), (State.Has.same ⟨wf, off⟩ same rfl).par, (State.streamRegions_fails failed wf).par⟩
  · have took := State.takeChange_seq (s := s1.unqueued) (e := e) (k := k) off
    cases hf : s1.seqFails k with
    | none =>
      have hf1 : s1.unqueued.seqFails k = none := hf
      let u := s1.unqueued.stopLoad.setAt e Ix.keyEnable k 1
      have wl : Dict.wf s1.unqueued.stopLoad.dict := (State.stopLoad_same _).dictWf wf
      have set_ : u.Has Ix.keyEnable k 1 := .setAt e _ _ _ wl
      have begun : Item.ctl e (.seq k true) ∈ (u.store (.ctl e (.seq k true))).cw.store := by
        rw [State.store_cw]
        exact mem_insertItem (.inl rfl)
      have q0 : Queued s1.unqueued u := .trans (.of_same (State.stopLoad_same _) rfl) (State.setAt_queued ..)
      refine completes_of_takeChange rfl seq due hq (took.trans (State.seqSwitch_passes hf1)) ?_
      rw [if_pos rfl]
      have keeps := State.tellConfig_queued (u.store (.ctl e (.seq k true))) e Ix.keyEnable k 1
      exact ⟨((q0.trans (State.store_queued ..)).trans keeps).queue, fun _ =>
        ⟨((set_.same (State.store_same ..) rfl).same (State.tellConfig_same ..) rfl).par, keeps.store _ _ begun⟩, fun h => nomatch h⟩
    | some g =>
      have hf1 : s1.unqueued.seqFails k = some g := hf
      refine completes_of_takeChange rfl seq due hq (took.trans (State.seqSwitch_fails hf1)) ?_
      rw [if_neg (by decide)]
      have counted : (s1.unqueued.keyRefused k g.1 k g.2.1 g.2.2).Has Ix.keyRefused k (cntNext (s1.unqueued.par Ix.keyRefused k)) :=
        ((State.Has.start wf).counted (by decide)).setPar (by decide)
      refine ⟨congrArg CwSt.queue ((State.keyRefused_same ..).cw rfl), fun h => (nomatch h), fun h => ?_⟩
      obtain rfl := Option.some.inj h
      exact ⟨(State.Has.same ⟨wf, off⟩ (State.keyRefused_same ..) rfl).par, counted.par, par_setPar_self _ _ _ _ (dictWf_cnt _ _ _ wf)⟩
  · exact ⟨_, execConfigEffect_waits waits, rfl, rfl⟩

end Sys2Proof.Machine
end
